-- ==== Sys2Proof/Word.lean ====
section
/-!
DEFINITION. Word.lean: the word types of the TZ-640 and the index types its parts are numbered by.
-/
namespace Sys2Proof

/-- A byte of a frame, a message or a memory (R4). -/
abbrev Byte := BitVec 8
/-- A 32-bit word: a register, an instruction word, an image group (R9, R12, R204). -/
abbrev Word := BitVec 32
/-- A 64-bit value: a pair of registers, a TIME64 (R192, R6). -/
abbrev DWord := BitVec 64

/-- A core that can make a register access: 0 to 3 the Serge cores, 4 the supervisor core (R202). -/
abbrev CoreId := Fin 5
/-- A task slot; 0 to 15 cyclic, 16 to 23 event tasks (R69). -/
abbrev TaskId := Fin 24
/-- A ring, 0 to 3 (R277). -/
abbrev RingId := Fin 4

end Sys2Proof
end

