-- ==== Sys2Proof/Syntax.lean ====
section
/-!
DEFINITION. Syntax.lean: the commands the module takes from outside, one constructor of `Instr` for each row of the
spec's table of operations and events, and the plain data that they carry (frames, messages, records, measurements).

A register-access command names the core that makes the access and the word written. A dictionary command carries the
Jurno request that writes or reads the object. An instruction of the instruction set names only the unit that
executes its next instruction: the words are fetched from the unit's own code. An event command carries what the
outside supplies with it (a returning frame, a measurement, a level).
-/
namespace Sys2Proof

/-- A unit that executes instructions: a Serge core or the supervisor core, or a lane (R191). -/
inductive UnitId where
  | core (c : CoreId)
  | lane (l : Fin 64)
deriving DecidableEq, Repr

/-- A Phider frame (R282 to R286). LEN is the length of `data`; PAD and FCS follow from the rest. -/
structure PFrame where
  dest    : BitVec 48 := 0xFFFFFFFFFFFF#48
  src     : BitVec 48 := 0
  etype   : BitVec 16 := 0x88B5#16
  version : BitVec 4 := 1
  dirB    : Bool := false
  loop    : Bool := false
  typ     : Byte := 0
  tag     : Byte := 0
  gen     : Byte := 0
  epoch   : Word := 0
  station : Byte := 0
  hops    : Byte := 0
  status  : Byte := 0
  flags   : Byte := 0
  time    : DWord := 0
  ring    : RingId := 0
  loopStn : Byte := 0
  data    : List Byte := []
deriving DecidableEq, Repr

/-- Where a Jurno request came from: a datagram of the management Ethernet (R505), with the TAG bytes that follow the
message, or a node on a CAN FD controller (R510). -/
inductive JSrc where
  | eth (ip : Word) (port : BitVec 16) (session seq : Word) (tag : List Byte)
  | can (ctrl : Fin 2) (node : BitVec 7)
deriving DecidableEq, Repr

/-- A Jurno message (R500). `len` is the LEN field, which a malformed message may give wrongly. -/
structure JMsg where
  service : Byte := 0
  reqid   : Byte := 0
  status  : BitVec 16 := 0
  index   : BitVec 16 := 0
  sub     : Byte := 0
  flags   : Byte := 0
  target  : BitVec 16 := 0xFFFF#16
  offset  : Word := 0
  len     : BitVec 16 := 0
  data    : List Byte := []
deriving DecidableEq, Repr

/-- A Jurno request: a message and its source. -/
structure JReq where
  src : JSrc
  msg : JMsg
deriving DecidableEq, Repr

/-- A record of the state delta (R443); its TYPE is that of the command that carries it. -/
structure HsbRec where
  task  : Byte := 0
  cycle : Word := 0
  body  : List Byte := []
deriving DecidableEq, Repr

/-- A CAN frame on a bus (R579). -/
structure CanFrame where
  ide  : Bool := false
  fdf  : Bool := false
  brs  : Bool := false
  esi  : Bool := false
  rtr  : Bool := false
  id   : BitVec 29 := 0
  dlc  : BitVec 4 := 0
  data : List Byte := []
deriving DecidableEq, Repr

/-- The kind of a CAN error, coded as CANm_ERR.LEC (R592). -/
inductive CanErr where
  | stuff | form | ack | bit1 | bit0 | crc
deriving DecidableEq, Repr

/-- How a transmit attempt ended (R584): sent, arbitration lost, or an error met in the data phase or not. -/
inductive CanTxEnd where
  | sent
  | lost
  | error (k : CanErr) (dataPhase : Bool)
deriving DecidableEq, Repr

/-- What an Announce says of its grandmaster, by which the best master clock algorithm compares (R299). -/
structure PtpClock where
  prio1    : Byte := 128
  clockClass : Byte := 248
  accuracy : Byte := 0xFE
  variance : BitVec 16 := 0xFFFF#16
  prio2    : Byte := 128
  ident    : DWord := 0
deriving DecidableEq, Repr

/-- A PTP message that reaches the module: on its management port, or from a station on a ring port (R298). `src` is the clock that
sent it. -/
inductive PtpMsg where
  | announce (domain : Byte) (clock : PtpClock)
  /-- a Sync; a one-step Sync is discarded and counted -/
  | sync (domain : Byte) (src : DWord) (twoStep : Bool)
  /-- a Follow_Up, with the offset from the grandmaster, in ns, that its timestamps and the last delay exchange give -/
  | followUp (domain : Byte) (src : DWord) (offset : Int)
  /-- a station's Delay_Req at a ring port -/
  | delayReq (ring : RingId) (portB : Bool) (domain : Byte) (src : DWord)
deriving DecidableEq, Repr

/-- Who writes a loop record (R368): a core through LPE_RWORDw, or a dictionary request. -/
inductive LoopWriter where
  | core (c : CoreId)
  | jurno (q : JReq)
deriving DecidableEq, Repr

/-- A background duty that a slice is granted to (R401). -/
inductive Duty where
  | audit (t : TaskId) | scrub
  | replace | editCheck | traceWrite (buf : Fin 8) | telemetry | wear | selfTest
deriving DecidableEq, Repr

/-- The identity that a station gives at enumeration (R287, R317). -/
structure StnIdent where
  vendorProduct : Word := 0
  revisions     : BitVec 16 := 0
  serial        : DWord := 0
deriving DecidableEq, Repr

/-- What a transaction expiry names: an entry of the transaction table, or the issue queue of a ring (R292, R293). -/
inductive TxTarget where
  | entry (tag : Byte)
  | queue (ring : RingId)
deriving DecidableEq, Repr

/-- A frame that arrives at a ring port and that this module did not send (R432). A PTP message leaves the module `residence` ns
after it came. -/
inductive RingFrame where
  | phider (f : PFrame)
  | ptp (bytes : List Byte) (residence : Nat)
deriving DecidableEq, Repr

/-- How a frame comes to a station: its place in the ring, counted from port A, whether its onward link is up, and whether the FCS
is right (R279, R282). -/
structure Arrival where
  pos    : Byte := 1
  onward : Bool := true
  fcsOk  : Bool := true
deriving DecidableEq, Repr

/-- The straps that a release from reset samples: that of FREEZE_N, and the pattern of factory mode (R673, R712, R745). -/
structure Straps where
  freeze  : Bool := false
  factory : Bool := false
deriving DecidableEq, Repr

/-- What a station meets of one Sync of the module: the copies from ports A and B, and whether its offset from the module's timebase
then lies within ±1 µs (R302). -/
structure SyncMeet where
  portA  : Bool := false
  portB  : Bool := false
  within : Bool := false
deriving DecidableEq, Repr

/-- A command of the table: one constructor a row. Each docstring gives the row's mnemonic and its rule. -/
inductive Instr where
  /-- `REGISTER_WRITE` (R7) -/
  | registerWrite (core : CoreId) (addr value : Word)
  /-- `EVENT_DELIVERY` (R37) -/
  | eventDelivery (src : Fin 128)
  /-- `EVC_RAISE` (R41) -/
  | evcRaise (core : CoreId) (value : Word)
  /-- `SYS_ISLRST` (R22) -/
  | sysIslrst (core : CoreId) (value : Word)
  /-- `ISLAND_RESET_COMPLETE` (R33) -/
  | islandResetComplete (isl : Fin 4)
  /-- `SAMPLE_INSTANT` (R70) -/
  | sampleInstant (task : Fin 16)
  /-- `EXCHANGE_COPY_COMPLETE` (R56) -/
  | exchangeCopyComplete (task : TaskId)
  /-- `INPUT_DEADLINE` (R51) -/
  | inputDeadline (task : Fin 16)
  /-- `RELEASE_COMPLETE` (R51) -/
  | releaseComplete (task : TaskId)
  /-- `STRIKE_INSTANT` (R50) -/
  | strikeInstant (task : Fin 16)
  /-- `STRIKE_MISS` (R79) -/
  | strikeMiss (task : Fin 16)
  /-- `EVENT_TASK_RELEASE_TIMEOUT` (R74) -/
  | eventTaskReleaseTimeout (task : TaskId)
  /-- `EXECUTION_TIME_EXCEEDED` (R76) -/
  | executionTimeExceeded (task : TaskId)
  /-- `TSK_GCTRL_START` (R88) -/
  | tskGctrlStart (core : CoreId) (value : Word)
  /-- `TSK_GCTRL_STOP` (R91) -/
  | tskGctrlStop (core : CoreId) (value : Word)
  /-- `PROGRAM_WARM_START` (R108) -/
  | programWarmStart (q : JReq)
  /-- `PROGRAM_COLD_START` (R108) -/
  | programColdStart (q : JReq)
  /-- `PROGRAM_STOP_COMMAND` (R108) -/
  | programStopCommand (q : JReq)
  /-- `PREPARING_END` (R88) -/
  | preparingEnd
  /-- `PROGRAM_RUNNING_ENTRY` (R88) -/
  | programRunningEntry
  /-- `TASK_WATCHDOG_WINDOW_END` (R86) -/
  | taskWatchdogWindowEnd
  /-- `TSK_WDCTRL_ENABLE` (R82) -/
  | tskWdctrlEnable (core : CoreId) (value : Word)
  /-- `FORCE_RECORD` (R68) -/
  | forceRecord (q : JReq)
  /-- `REMOVE_ALL_FORCES` (R109) -/
  | removeAllForces (q : JReq)
  /-- `IDLE_AUDIT_START` (R139) -/
  | idleAuditStart (task : TaskId)
  /-- `AUDIT_RUN_END` (R139) -/
  | auditRunEnd (unit : UnitId)
  /-- `GZ_CMD_EQCLR` (R144) -/
  | gzCmdEqclr (core : CoreId) (value : Word)
  /-- `GZ_CMD_AUDREQ` (R175) -/
  | gzCmdAudreq (core : CoreId) (value : Word)
  /-- `GZ_CTRL_AUDEN` (R138) -/
  | gzCtrlAuden (core : CoreId) (value : Word)
  /-- `CLEAR_EQUIVALENCE_FAULT` (R144) -/
  | clearEquivalenceFault (q : JReq)
  /-- `REQUEST_AUDIT` (R187) -/
  | requestAudit (q : JReq)
  /-- `EDIT_RECORD` (R147) -/
  | editRecord (q : JReq)
  /-- `STAGING_RECORD` (R149) -/
  | stagingRecord (q : JReq)
  /-- `SEG_STGNUM_VALID` (R151) -/
  | segStgnumValid (core : CoreId) (value : Word)
  /-- `SEG_STGNUM_WITHDRAW` (R151) -/
  | segStgnumWithdraw (core : CoreId) (value : Word)
  /-- `SEG_STGDATA` (R164) -/
  | segStgdata (core : CoreId) (value : Word)
  /-- `SEG_STGCTRL_COMMIT` (R165) -/
  | segStgctrlCommit (core : CoreId) (value : Word)
  /-- `SEG_STGCTRL_ABORT` (R165) -/
  | segStgctrlAbort (core : CoreId) (value : Word)
  /-- `STAGING_COMMIT` (R189) -/
  | stagingCommit (q : JReq)
  /-- `STAGING_ABORT` (R189) -/
  | stagingAbort (q : JReq)
  /-- `BUILDING_COMPLETE` (R148) -/
  | buildingComplete
  /-- `VALIDATION_COMPLETE` (R152) -/
  | validationComplete
  /-- `LANE_CLCTRL_FLUSH` (R171) -/
  | laneClctrlFlush (core : CoreId) (cluster : Fin 8) (value : Word)
  /-- `GZ_SUBDATA_ACCESS` (R180) -/
  | gzSubdataAccess (core : CoreId) (write : Option Word)
  /-- `MOV` (R240) -/
  | mov (u : UnitId)
  /-- `LDG` (R217) -/
  | ldg (u : UnitId)
  /-- `LDGP` (R240) -/
  | ldgp (u : UnitId)
  /-- `EXTS` (R240) -/
  | exts (u : UnitId)
  /-- `EXTZ` (R240) -/
  | extz (u : UnitId)
  /-- `LEA` (R240) -/
  | lea (u : UnitId)
  /-- `RDTB` (R221) -/
  | rdtb (u : UnitId)
  /-- `ADD` (R242) -/
  | add (u : UnitId)
  /-- `SUB` (R242) -/
  | sub (u : UnitId)
  /-- `MUL` (R242) -/
  | mul (u : UnitId)
  /-- `MULHS` (R242) -/
  | mulhs (u : UnitId)
  /-- `MULHU` (R242) -/
  | mulhu (u : UnitId)
  /-- `DIV` (R243) -/
  | div (u : UnitId)
  /-- `DIVU` (R242) -/
  | divu (u : UnitId)
  /-- `REM` (R243) -/
  | rem (u : UnitId)
  /-- `REMU` (R242) -/
  | remu (u : UnitId)
  /-- `NEG` (R242) -/
  | neg (u : UnitId)
  /-- `ABS` (R242) -/
  | abs (u : UnitId)
  /-- `MIN` (R242) -/
  | min (u : UnitId)
  /-- `MAX` (R242) -/
  | max (u : UnitId)
  /-- `SQRT` (R242) -/
  | sqrt (u : UnitId)
  /-- `CVTIF` (R252) -/
  | cvtif (u : UnitId)
  /-- `CVTLF` (R252) -/
  | cvtlf (u : UnitId)
  /-- `CVTFI` (R253) -/
  | cvtfi (u : UnitId)
  /-- `TRNFI` (R252) -/
  | trnfi (u : UnitId)
  /-- `CVTFL` (R252) -/
  | cvtfl (u : UnitId)
  /-- `TRNFL` (R252) -/
  | trnfl (u : UnitId)
  /-- `CVTFF` (R252) -/
  | cvtff (u : UnitId)
  /-- `AND` (R245) -/
  | and (u : UnitId)
  /-- `OR` (R245) -/
  | or (u : UnitId)
  /-- `XOR` (R245) -/
  | xor (u : UnitId)
  /-- `NOT` (R245) -/
  | not (u : UnitId)
  /-- `SHL` (R246) -/
  | shl (u : UnitId)
  /-- `SHR` (R246) -/
  | shr (u : UnitId)
  /-- `SAR` (R246) -/
  | sar (u : UnitId)
  /-- `ROL` (R246) -/
  | rol (u : UnitId)
  /-- `ROR` (R246) -/
  | ror (u : UnitId)
  /-- `CEQ` (R247) -/
  | ceq (u : UnitId)
  /-- `CNE` (R247) -/
  | cne (u : UnitId)
  /-- `CLT` (R247) -/
  | clt (u : UnitId)
  /-- `CLE` (R247) -/
  | cle (u : UnitId)
  /-- `CLTU` (R247) -/
  | cltu (u : UnitId)
  /-- `CLEU` (R247) -/
  | cleu (u : UnitId)
  /-- `BAND` (R254) -/
  | band (u : UnitId)
  /-- `BOR` (R254) -/
  | bor (u : UnitId)
  /-- `BXOR` (R254) -/
  | bxor (u : UnitId)
  /-- `BANDN` (R254) -/
  | bandn (u : UnitId)
  /-- `BORN` (R254) -/
  | born (u : UnitId)
  /-- `BNOT` (R254) -/
  | bnot (u : UnitId)
  /-- `REDGE` (R255) -/
  | redge (u : UnitId)
  /-- `FEDGE` (R255) -/
  | fedge (u : UnitId)
  /-- `TON` (R259) -/
  | ton (u : UnitId)
  /-- `TOF` (R259) -/
  | tof (u : UnitId)
  /-- `TP` (R259) -/
  | tp (u : UnitId)
  /-- `TET` (R259) -/
  | tet (u : UnitId)
  /-- `CTU` (R264) -/
  | ctu (u : UnitId)
  /-- `CTD` (R264) -/
  | ctd (u : UnitId)
  /-- `CLD` (R264) -/
  | cld (u : UnitId)
  /-- `CRST` (R264) -/
  | crst (u : UnitId)
  /-- `BRA` (R266) -/
  | bra (u : UnitId)
  /-- `BZ` (R266) -/
  | bz (u : UnitId)
  /-- `BNZ` (R266) -/
  | bnz (u : UnitId)
  /-- `CALL` (R266) -/
  | call (u : UnitId)
  /-- `RET` (R266) -/
  | ret (u : UnitId)
  /-- `END` (R220) -/
  | endPass (u : UnitId)
  /-- `RTE` (R231) -/
  | rte (u : UnitId)
  /-- `NOP` (R266) -/
  | nop (u : UnitId)
  /-- `MOVB` (R269) -/
  | movb (u : UnitId)
  /-- `FILL` (R269) -/
  | fill (u : UnitId)
  /-- `CRCC` (R270) -/
  | crcc (u : UnitId)
  /-- `SCPY` (R272) -/
  | scpy (u : UnitId)
  /-- `SCAT` (R272) -/
  | scat (u : UnitId)
  /-- `SLEN` (R272) -/
  | slen (u : UnitId)
  /-- `SCMP` (R272) -/
  | scmp (u : UnitId)
  /-- `SFND` (R272) -/
  | sfnd (u : UnitId)
  /-- `MFS` (R275) -/
  | mfs (u : UnitId)
  /-- `MTS` (R275) -/
  | mts (u : UnitId)
  /-- `WFE` (R223) -/
  | wfe (u : UnitId)
  /-- `WTU` (R224) -/
  | wtu (u : UnitId)
  /-- `SEV` (R226) -/
  | sev (u : UnitId)
  /-- `TRAP` (R274) -/
  | trap (u : UnitId)
  /-- `WFE_WAKE` (R223) -/
  | wfeWake (core : CoreId)
  /-- `WTU_WAKE` (R224) -/
  | wtuWake (core : CoreId)
  /-- `CORE_RESET_COMPLETE` (R233) -/
  | coreResetComplete (core : Fin 4)
  /-- `PROBE_SEND` (R280) -/
  | probeSend (links : BitVec 8)
  /-- `PROBE_COPY_RETURN` (R280) -/
  | probeCopyReturn (ring : RingId) (port : Bool) (fcsOk : Bool) (frame : PFrame)
  /-- `PROBE_COPY_TIMEOUT` (R280) -/
  | probeCopyTimeout (ring : RingId) (dirB : Bool)
  /-- `TRANSACTION_ISSUE` (R289) -/
  | transactionIssue (ring : RingId)
  /-- `COPY_RETURN` (R291) -/
  | copyReturn (ring : RingId) (port : Bool) (fcsOk : Bool) (frame : PFrame)
  /-- `TRANSACTION_EXPIRY` (R292) -/
  | transactionExpiry (target : TxTarget)
  /-- `PHR_CTRL_ENUM` (R317) -/
  | phrCtrlEnum (core : CoreId) (value : Word)
  /-- `ENUMERATION_COMPLETE` (R317) -/
  | enumerationComplete (ring : RingId) (spent : Nat)
  /-- `PHR_EPOCH_WRITE` (R311) -/
  | phrEpochWrite (core : CoreId) (value : Word)
  /-- `PHR_TXSEL_WRITE` (R333) -/
  | phrTxselWrite (core : CoreId) (value : Word)
  /-- `PTP_MESSAGE` (R300) -/
  | ptpMessage (msg : PtpMsg)
  /-- `PTP_SYNC_SEND` (R298) -/
  | ptpSyncSend
  /-- `ANNOUNCE_RECEIPT_TIMEOUT` (R300) -/
  | announceReceiptTimeout
  /-- `STATION_LATCH` (R303) -/
  | stationLatch (ring : RingId) (stn : Byte) (inputs : List Byte)
  /-- `STATION_FRAME` (R312) -/
  | stationFrame (ring : RingId) (arrival : Arrival) (frame : PFrame) (answer : List Byte)
  /-- `STATION_ENM` (R318) -/
  | stationEnm (ring : RingId) (arrival : Arrival) (frame : PFrame)
  /-- `STATION_STRIKE` (R304) -/
  | stationStrike (ring : RingId) (stn : Byte)
  /-- `HOLD_TIME_EXPIRY` (R309) -/
  | holdTimeExpiry (ring : RingId) (stn : Byte)
  /-- `LOOP_SAMPLE_INSTANT` (R349) -/
  | loopSampleInstant (loop : Fin 4096)
  /-- `LOOP_EXECUTION_START` (R358) -/
  | loopExecutionStart (unit : Fin 4)
  /-- `LOOP_EXECUTION_COMPLETE` (R363) -/
  | loopExecutionComplete (unit : Fin 4)
  /-- `LOOP_PUBLICATION` (R353) -/
  | loopPublication (loop : Fin 4096)
  /-- `LOOP_RECORD_WRITE` (R368) -/
  | loopRecordWrite (w : LoopWriter) (loop : Fin 4096) (sub : Fin 32) (value : Word)
  /-- `LPE_MAXLAT_CLEAR` (R382) -/
  | lpeMaxlatClear (core : CoreId) (value : Word)
  /-- `TRC_CMD_ARM` (R388) -/
  | trcCmdArm (core : CoreId) (buf : Fin 8) (value : Word)
  /-- `TRC_CMD_STOP` (R388) -/
  | trcCmdStop (core : CoreId) (buf : Fin 8) (value : Word)
  /-- `TRC_CMD_FORCE` (R388) -/
  | trcCmdForce (core : CoreId) (buf : Fin 8) (value : Word)
  /-- `TRACE_ARM` (R392) -/
  | traceArm (q : JReq)
  /-- `TRACE_STOP` (R392) -/
  | traceStop (q : JReq)
  /-- `TRACE_FORCE` (R392) -/
  | traceForce (q : JReq)
  /-- `TRACE_RECORD_WRITE` (R379) -/
  | traceRecordWrite (buf : Fin 8) (funded : Bool)
  /-- `TRACE_READ_DATA` (R392) -/
  | traceReadData (q : JReq)
  /-- `LEDGER_UPDATE` (R396) -/
  | ledgerUpdate (inputUj : Nat) (islandUj : List Nat)
  /-- `TEMPERATURE_READ` (R394) -/
  | temperatureRead (islands : List Int) (coreTemp : Int)
  /-- `THERMAL_LIMIT_TIMEOUT` (R416) -/
  | thermalLimitTimeout
  /-- `THERMAL_SHUTDOWN` (R417) -/
  | thermalShutdown
  /-- `THERMAL_RESET_RELEASE` (R417) -/
  | thermalResetRelease (temps : List Int)
  /-- `PACE_READ` (R395) -/
  | paceRead (paces : List Nat)
  /-- `CATCH_UP` (R414) -/
  | catchUp (task : TaskId)
  /-- `SLICE_GRANT` (R403) -/
  | sliceGrant (duty : Duty) (estUj : Nat)
  /-- `SLICE_END` (R403) -/
  | sliceEnd (meteredUj : Nat)
  /-- `FORCED_SCRUB` (R405) -/
  | forcedScrub
  /-- `NRG_TJ_WRITE` (R423) -/
  | nrgTjWrite (core : CoreId) (value : Word)
  /-- `PEAK_TEMPERATURE_RESET` (R428) -/
  | peakTemperatureReset (q : JReq)
  /-- `HEARTBEAT_SEND` (R441) -/
  | heartbeatSend
  /-- `HEARTBEAT_RECEIVE` (R440) -/
  | heartbeatReceive (path : Fin 2) (bytes : List Byte)
  /-- `NOTICE_RECEIVE` (R452) -/
  | noticeReceive (path : Fin 2) (bytes : List Byte)
  /-- `PATH_LOSS` (R442) -/
  | pathLoss (path : Fin 2)
  /-- `STARTING_LISTEN_END` (R437) -/
  | startingListenEnd
  /-- `TAKEOVER_ISSUE` (R453) -/
  | takeoverIssue
  /-- `INPUT_RECORD` (R447) -/
  | inputRecord (rec : HsbRec)
  /-- `CONTROL_RECORD` (R451) -/
  | controlRecord (rec : HsbRec)
  /-- `GROUPS_RECORD` (R443) -/
  | groupsRecord (rec : HsbRec)
  /-- `DATA_RECORD` (R443) -/
  | dataRecord (rec : HsbRec)
  /-- `LOOPS_RECORD` (R444) -/
  | loopsRecord (rec : HsbRec)
  /-- `END_RECORD` (R446) -/
  | endRecord (rec : HsbRec)
  /-- `LEDGER_RECORD` (R418) -/
  | ledgerRecord (rec : HsbRec)
  /-- `LEDGER_RECORD_SEND` (R443) -/
  | ledgerRecordSend
  /-- `RECORD_ACKNOWLEDGEMENT` (R445) -/
  | recordAcknowledgement (task : Byte) (cycle : Word)
  /-- `END_RECORD_TIMEOUT` (R447) -/
  | endRecordTimeout (task : TaskId)
  /-- `FULL_COPY_COMPLETE` (R450) -/
  | fullCopyComplete
  /-- `PAIR_COMPATIBILITY_FRAME` (R729) -/
  | pairCompatibilityFrame (bytes : List Byte)
  /-- `UPDATE_RELAY` (R728) -/
  | updateRelay (bytes : List Byte)
  /-- `PLANNED_SWITCHOVER` (R466) -/
  | plannedSwitchover (q : JReq)
  /-- `HSB_CMD_SWITCH` (R466) -/
  | hsbCmdSwitch (core : CoreId) (value : Word)
  /-- `RESYNCHRONISE` (R436) -/
  | resynchronise (q : JReq)
  /-- `HSB_CMD_RESYNC` (R475) -/
  | hsbCmdResync (core : CoreId) (value : Word)
  /-- `DECLARE_FAILED` (R452) -/
  | declareFailed (q : JReq)
  /-- `HSB_CMD_FAIL` (R475) -/
  | hsbCmdFail (core : CoreId) (value : Word)
  /-- `SWITCHOVER_ACK_TIMEOUT` (R466) -/
  | switchoverAckTimeout
  /-- `HANDOVER` (R467) -/
  | handover
  /-- `FEED_STATE_CHANGE` (R472) -/
  | feedStateChange (feed : Fin 2) (mv ma : Nat)
  /-- `POWER_FAIL_WARNING` (R473) -/
  | powerFailWarning
  /-- `SAVE_COMPLETE` (R720) -/
  | saveComplete
  /-- `READ` (R484) -/
  | read (q : JReq)
  /-- `WRITE` (R484) -/
  | write (q : JReq)
  /-- `GWRITE` (R493) -/
  | gwrite (q : JReq)
  /-- `DESCRIBE` (R503) -/
  | describe (q : JReq)
  /-- `READTIME` (R650) -/
  | readtime (q : JReq)
  /-- `OPEN` (R506) -/
  | open (q : JReq)
  /-- `AUTH` (R506) -/
  | auth (q : JReq)
  /-- `CLOSE` (R508) -/
  | close (q : JReq)
  /-- `ARP_REQUEST` (R505) -/
  | arpRequest (mac : BitVec 48) (ip targetIp : Word)
  /-- `ICMP_ECHO` (R505) -/
  | icmpEcho (srcIp dstIp : Word) (data : List Byte)
  /-- `PART_ASSEMBLY_TIMEOUT` (R502) -/
  | partAssemblyTimeout (index : BitVec 16) (sub : Byte)
  /-- `SESSION_AUTH_TIMEOUT` (R506) -/
  | sessionAuthTimeout (slot : Fin 8)
  /-- `SESSION_INACTIVITY` (R508) -/
  | sessionInactivity (slot : Fin 8)
  /-- `ADDRESS_LOCKOUT_END` (R508) -/
  | addressLockoutEnd (ip : Word)
  /-- `JRN_DONE_SEND` (R519) -/
  | jrnDoneSend (core : CoreId) (value : Word)
  /-- `CAN_SEGMENT_TIMEOUT` (R510) -/
  | canSegmentTimeout (ctrl : Fin 2) (node : BitVec 7)
  /-- `UNLOCK` (R511) -/
  | unlock (q : JReq)
  /-- `UNLOCK_EXPIRY` (R511) -/
  | unlockExpiry (slot : Fin 8)
  /-- `CALIBRATION_CLEAR` (R499) -/
  | calibrationClear (q : JReq)
  /-- `JURNO_PHASE_RECALL` (R515) -/
  | jurnoPhaseRecall
  /-- `FIELD_SIDE_UPDATE` (R528) -/
  | fieldSideUpdate (lowCurrent cooled : Word) (vfieldMv : Nat)
  /-- `LOCAL_INPUT_DELIVERY` (R529) -/
  | localInputDelivery (task : TaskId)
  /-- `LINK_FRAME` (R531) -/
  | linkFrame
  /-- `SILENCE_TIMEOUT` (R531) -/
  | silenceTimeout
  /-- `DIO_FCMD_RELEASE` (R532) -/
  | dioFcmdRelease (core : CoreId) (value : Word)
  /-- `DIO_FCMD_SAFE` (R563) -/
  | dioFcmdSafe (core : CoreId) (value : Word)
  /-- `FIELD_RELEASE` (R574) -/
  | fieldRelease (q : JReq)
  /-- `RAW_LEVEL_CHANGE` (R537) -/
  | rawLevelChange (ch : Fin 32) (level : Bool)
  /-- `DEBOUNCE_EXPIRY` (R537) -/
  | debounceExpiry (ch : Fin 32)
  /-- `ENCODER_EDGE` (R544) -/
  | encoderEdge (pair : Fin 16) (a b : Bool)
  /-- `OVL` (R541) -/
  | ovl (ch : Fin 32)
  /-- `OT` (R541) -/
  | ot (ch : Fin 32)
  /-- `RBERR` (R540) -/
  | rberr (ch : Fin 32)
  /-- `LIVE_BIT_CLEAR` (R541) -/
  | liveBitClear (analogue : Bool) (ch bit : Fin 32)
  /-- `VFLOW` (R527) -/
  | vflow (vfieldMv : Nat)
  /-- `VFHIGH` (R527) -/
  | vfhigh (vfieldMv : Nat)
  /-- `ANALOG_CONVERSION` (R547) -/
  | analogConversion (ch : Fin 8) (ua : Int) (limiter : Bool)
  /-- `COMPL` (R551) -/
  | compl (ch : Fin 8)
  /-- `COMPL_CLEAR` (R551) -/
  | complClear (ch : Fin 8)
  /-- `RBFAULT` (R550) -/
  | rbfault (ch : Fin 8)
  /-- `ZERO_TRIM` (R555) -/
  | zeroTrim (q : JReq)
  /-- `SPAN_TRIM` (R555) -/
  | spanTrim (q : JReq)
  /-- `TRIM_DRIVE_TIMEOUT` (R555) -/
  | trimDriveTimeout (ch : Fin 8)
  /-- `ZERO_BUTTON_HOLD` (R556) -/
  | zeroButtonHold
  /-- `SPAN_BUTTON_HOLD` (R556) -/
  | spanButtonHold
  /-- `CLEAR_BUTTON_HOLD` (R556) -/
  | clearButtonHold
  /-- `TRIM_BUTTONS_ENABLE` (R578) -/
  | trimButtonsEnable (q : JReq)
  /-- `AIO_TRIM_EN` (R570) -/
  | aioTrimEn (core : CoreId) (value : Word)
  /-- `DIO_ENCCTRL_EN` (R569) -/
  | dioEncctrlEn (core : CoreId) (pair : Fin 16) (value : Word)
  /-- `DIO_ENCCNT_WRITE` (R569) -/
  | dioEnccntWrite (core : CoreId) (pair : Fin 16) (value : Word)
  /-- `CAN_ENABLE` (R581) -/
  | canEnable (core : CoreId) (ctrl : Fin 2) (value : Word)
  /-- `CAN_RECOV` (R586) -/
  | canRecov (core : CoreId) (ctrl : Fin 2) (value : Word)
  /-- `RECOVER_FROM_BUS_OFF` (R597) -/
  | recoverFromBusOff (q : JReq)
  /-- `CAN_TX_REQUEST` (R584) -/
  | canTxRequest (core : CoreId) (ctrl : Fin 2) (buf : Fin 3) (value : Word)
  /-- `CAN_TX_ABORT` (R584) -/
  | canTxAbort (core : CoreId) (ctrl : Fin 2) (buf : Fin 3) (value : Word)
  /-- `CAN_RXPOP` (R595) -/
  | canRxpop (core : CoreId) (ctrl : Fin 2) (value : Word)
  /-- `CAN_FILTER_ENABLE` (R585) -/
  | canFilterEnable (core : CoreId) (ctrl : Fin 2) (flt : Fin 16) (value : Word)
  /-- `CAN_INTEGRATION_COMPLETE` (R587) -/
  | canIntegrationComplete (ctrl : Fin 2)
  /-- `CAN_RECOVERY_COMPLETE` (R586) -/
  | canRecoveryComplete (ctrl : Fin 2)
  /-- `CAN_FRAME_RECEIVED` (R585) -/
  | canFrameReceived (ctrl : Fin 2) (frame : CanFrame)
  /-- `CAN_TX_ATTEMPT_END` (R584) -/
  | canTxAttemptEnd (ctrl : Fin 2) (buf : Fin 3) (how : CanTxEnd) (tdcv : Byte)
  /-- `SAFETY_CYCLE` (R607) -/
  | safetyCycle (fuel : Nat)
  /-- `SAFETY_INIT_TIMEOUT` (R607) -/
  | safetyInitTimeout
  /-- `SAFETY_CYCLE_OVERRUN` (R607) -/
  | safetyCycleOverrun
  /-- `SAFETY_WATCHDOG_EXPIRY` (R600) -/
  | safetyWatchdogExpiry
  /-- `LOCKSTEP_MISMATCH` (R600) -/
  | lockstepMismatch
  /-- `SAFETY_SUPPLY_FAULT` (R600) -/
  | safetySupplyFault
  /-- `SAFETY_FRAME_SEND` (R602) -/
  | safetyFrameSend
  /-- `SAFETY_SILENCE` (R602) -/
  | safetySilence
  /-- `CONNECTION_WATCHDOG` (R613) -/
  | connectionWatchdog (conn : Fin 32)
  /-- `SAFETY_INPUT_DISCREPANCY` (R609) -/
  | safetyInputDiscrepancy (input : Fin 8)
  /-- `TEST_PULSE` (R609) -/
  | testPulse (src : Fin 32) (dipped : Word)
  /-- `STO_DARK_PULSE` (R610) -/
  | stoDarkPulse (out : Fin 4) (chB : Bool) (followed : Bool)
  /-- `SAFETY_RESET` (R600) -/
  | safetyReset (q : JReq)
  /-- `SAF_CMD_SRESET` (R600) -/
  | safCmdSreset (core : CoreId) (value : Word)
  /-- `CONFIRM_CHECK_VALUE` (R618) -/
  | confirmCheckValue (q : JReq)
  /-- `SAFETY_PROGRAM_WRITE` (R605) -/
  | safetyProgramWrite (q : JReq)
  /-- `AXIS_RESET` (R616) -/
  | axisReset (q : JReq)
  /-- `RECALL_COMPLETE` (R637) -/
  | recallComplete
  /-- `NVM_SYNC_READ` (R633) -/
  | nvmSyncRead (core : CoreId)
  /-- `POSTED_WRITE_COMPLETE` (R633) -/
  | postedWriteComplete (verifyFail : Bool)
  /-- `FLASH_ERASE` (R647) -/
  | flashErase (core : CoreId) (value : Word)
  /-- `FLASH_PROGRAM` (R647) -/
  | flashProgram (core : CoreId) (value : Word)
  /-- `FLASH_OPERATION_COMPLETE` (R647) -/
  | flashOperationComplete (verifyOk : Bool)
  /-- `NVM_PROT_WRITE` (R636) -/
  | nvmProtWrite (core : CoreId) (value : Word)
  /-- `BLOCK_PROTECTION` (R636) -/
  | blockProtection (q : JReq)
  /-- `RTC_SECOND_BOUNDARY` (R648) -/
  | rtcSecondBoundary
  /-- `RTC_ARM` (R651) -/
  | rtcArm (core : CoreId) (value : Word)
  /-- `RTC_SET_TIME` (R651) -/
  | rtcSetTime (q : JReq)
  /-- `RTC_STAGE_WRITE` (R651) -/
  | rtcStageWrite (core : CoreId) (high : Bool) (value : Word)
  /-- `RTC_BKCOMMIT` (R657) -/
  | rtcBkcommit (core : CoreId) (value : Word)
  /-- `BACKUP_MEMORY_WRITE` (R663) -/
  | backupMemoryWrite (q : JReq)
  /-- `BACKUP_MEMORY_CLEAR` (R663) -/
  | backupMemoryClear (q : JReq)
  /-- `RTC_COMPENSATION` (R654) -/
  | rtcCompensation (tempCenti : Int) (vbatMv : Nat)
  /-- `RTC_SWITCH_TO_VBAT` (R655) -/
  | rtcSwitchToVbat (vbatMv : Nat)
  /-- `RTC_SWITCH_TO_RAIL` (R656) -/
  | rtcSwitchToRail (vbatMv : Nat)
  /-- `BACKUP_DOMAIN_POWER_ON` (R656) -/
  | backupDomainPowerOn
  /-- `RTC_SHADOW_CAPTURE` (R649) -/
  | rtcShadowCapture (core : CoreId) (addr : Word)
  /-- `RTC_SHADOW_FREEZE_END` (R649) -/
  | rtcShadowFreezeEnd (core : CoreId)
  /-- `PLANT_TIME_CHECK` (R652) -/
  | plantTimeCheck (plantSeconds : Nat)
  /-- `OPERATING_SECONDS` (R763) -/
  | operatingSeconds
  /-- `WDG_KEY_ARM` (R668) -/
  | wdgKeyArm (core : CoreId) (value : Word)
  /-- `WDG_KEY_SERVICE` (R668) -/
  | wdgKeyService (core : CoreId) (value : Word)
  /-- `WDG_KEY_BAD` (R668) -/
  | wdgKeyBad (core : CoreId) (value : Word)
  /-- `WDG_PAIR_WINDOW_TIMEOUT` (R668) -/
  | wdgPairWindowTimeout
  /-- `WDG_CTRL_WRITE` (R695) -/
  | wdgCtrlWrite (core : CoreId) (value : Word)
  /-- `WATCHDOG_EXPIRY` (R671) -/
  | watchdogExpiry
  /-- `CLOCK_STOP` (R670) -/
  | clockStop (rc : Bool)
  /-- `FREEZE_N` (R673) -/
  | freezeN
  /-- `FRZ_CMD_FREEZE` (R673) -/
  | frzCmdFreeze (core : CoreId) (value : Word)
  /-- `FREEZE_NOW` (R707) -/
  | freezeNow (q : JReq)
  /-- `FREEZE_HALT` (R674) -/
  | freezeHalt
  /-- `FREEZE_LIMIT_EXPIRY` (R677) -/
  | freezeLimitExpiry
  /-- `LINKS_UP_AFTER_RELEASE` (R678) -/
  | linksUpAfterRelease (links : BitVec 8)
  /-- `EXTEST` (R681) -/
  | extest
  /-- `SAMPLE_PRELOAD` (R681) -/
  | samplePreload
  /-- `FZSTAT` (R683) -/
  | fzstat
  /-- `FZADDR` (R681) -/
  | fzaddr (value : BitVec 40)
  /-- `FZDATA` (R682) -/
  | fzdata
  /-- `FZREL` (R681) -/
  | fzrel
  /-- `BYPASS` (R681) -/
  | bypass
  /-- `REC_WSUB` (R705) -/
  | recWsub (core : CoreId) (value : Word)
  /-- `RECORD_TOKEN` (R687) -/
  | recordToken (code : BitVec 16)
  /-- `RECORDER_FREEZE_END` (R689) -/
  | recorderFreezeEnd
  /-- `REC_CTRL_RFREEZE` (R689) -/
  | recCtrlRfreeze (core : CoreId) (value : Word)
  /-- `REC_CLR` (R692) -/
  | recClr (core : CoreId) (value : Word)
  /-- `LOG_CLEAR` (R692) -/
  | logClear (q : JReq)
  /-- `NEXT_RECORD` (R690) -/
  | nextRecord (q : JReq)
  /-- `INDEX_REBUILD_COMPLETE` (R684) -/
  | indexRebuildComplete
  /-- `POWER_ON` (R710) -/
  | powerOn
  /-- `RESET_N` (R710) -/
  | resetN
  /-- `SYS_SWRST` (R733) -/
  | sysSwrst (core : CoreId) (value : Word)
  /-- `MODULE_RESET_RELEASE` (R712) -/
  | moduleResetRelease (straps : Straps)
  /-- `LOADER_START` (R713) -/
  | loaderStart
  /-- `FIRMWARE_START` (R714) -/
  | firmwareStart
  /-- `UPDATE_BEGIN` (R725) -/
  | updateBegin (q : JReq)
  /-- `UPDATE_ACTIVATE` (R725) -/
  | updateActivate (q : JReq)
  /-- `UPDATE_ABORT` (R725) -/
  | updateAbort (q : JReq)
  /-- `UPDATE_BLOCK` (R726) -/
  | updateBlock (q : JReq)
  /-- `VERIFY_COMPLETE` (R725) -/
  | verifyComplete
  /-- `REGISTER_READ` (R7) -/
  | registerRead (core : CoreId) (addr : Word)
  /-- `POWER_LOSS` (R721) -/
  | powerLoss
  /-- `FREEZE_N_RISE` (R677) -/
  | freezeNRise
  /-- `RING_FRAME_FORWARD` (R432) -/
  | ringFrameForward (ring : RingId) (port : Bool) (fcsOk : Bool) (frame : RingFrame)
  /-- `ENM_COPY_RETURN` (R319) -/
  | enmCopyReturn (ring : RingId) (frame : PFrame)
  /-- `STATION_POWER_UP` (R308) -/
  | stationPowerUp (ring : RingId) (pos : Byte) (ident : StnIdent) (powerSafe : List Byte)
  /-- `PARTNER_UPDATE_TIMEOUT` (R728) -/
  | partnerUpdateTimeout
  /-- `CAN_RECEIVE_ERROR` (R586) -/
  | canReceiveError (ctrl : Fin 2) (kind : CanErr) (dataPhase : Bool)
  /-- `ANNOUNCE_SEND` (R298) -/
  | announceSend
  /-- `FULL_COPY_CHUNK` (R450) -/
  | fullCopyChunk (addr : Word) (data : List Byte)
deriving DecidableEq, Repr

end Sys2Proof
end

