-- ==== Sys2Proof/Decode.lean ====
section
/-!
DEFINITION. Decode.lean: the commands that words spell. No row of the table gives its command bits: the commands are
register accesses, messages, frames and events, which carry their operands themselves, and the instructions of the
instruction set are decoded from the words of a unit's code (Machine/Insn.lean). So no word spells a command.
-/
namespace Sys2Proof

/-- The command that a word spells by the table's bits: none, for no row has bits. -/
def decodeTableWord (_nbits _w : Nat) : Option Instr := none

end Sys2Proof
end

