-- ==== Sys2Proof/Machine/Tbl.lean ====
section
/-!
DEFINITION. Tbl.lean: sparse tables of plain data. A table is a list of (key, value) pairs with keys strictly rising,
which lists no entry equal to what an unlisted key reads as; so equal tables are equal lists. Memories are tables of
bytes, the image is a table of words, the register file is a table of words.
-/
namespace Sys2Proof.Machine

/-- A sparse table from a number to an `α`. -/
abbrev Tbl (α : Type) := List (Nat × α)

/-- What the table holds under a key, `d` where it lists nothing. -/
def Tbl.get {α : Type} (t : Tbl α) (d : α) (k : Nat) : α :=
  match t with
  | [] => d
  | (i, v) :: rest => if i = k then v else Tbl.get rest d k

/-- The table without an entry for a key. -/
def Tbl.erase {α : Type} (t : Tbl α) (k : Nat) : Tbl α :=
  match t with
  | [] => []
  | (i, v) :: rest => if i = k then Tbl.erase rest k else (i, v) :: Tbl.erase rest k

/-- The table with `(k, v)` put in its place among rising keys, in front of an entry with the same key. -/
def Tbl.insert {α : Type} (t : Tbl α) (k : Nat) (v : α) : Tbl α :=
  match t with
  | [] => [(k, v)]
  | (i, w) :: rest => if k ≤ i then (k, v) :: (i, w) :: rest else (i, w) :: Tbl.insert rest k v

/-- The table with `v` under a key; writing what an unlisted key reads as removes the entry. -/
def Tbl.set {α : Type} [DecidableEq α] (t : Tbl α) (d : α) (k : Nat) (v : α) : Tbl α :=
  if v = d then t.erase k else (t.erase k).insert k v

/-- `f` applied to what the table holds under a key. -/
def Tbl.modify {α : Type} [DecidableEq α] (t : Tbl α) (d : α) (k : Nat) (f : α → α) : Tbl α :=
  t.set d k (f (t.get d k))

/-- The table with the values of `vs` under the keys from `k` on. -/
def Tbl.setMany {α : Type} [DecidableEq α] (t : Tbl α) (d : α) (k : Nat) (vs : List α) : Tbl α :=
  match vs with
  | [] => t
  | v :: rest => (t.set d k v).setMany d (k + 1) rest

/-- What the table holds under the `n` keys from `k` on. -/
def Tbl.getMany {α : Type} (t : Tbl α) (d : α) (k n : Nat) : List α :=
  (List.range n).map fun i => t.get d (k + i)

/-- The table without its entries under the `n` keys from `k` on: they read as unlisted. -/
def Tbl.clearRange {α : Type} (t : Tbl α) (k n : Nat) : Tbl α :=
  t.filter fun e => !(decide (k ≤ e.1) && decide (e.1 < k + n))

/-- The table's entries under the `n` keys from `k` on. -/
def Tbl.range {α : Type} (t : Tbl α) (k n : Nat) : Tbl α :=
  t.filter fun e => decide (k ≤ e.1) && decide (e.1 < k + n)

/-- The canonical form: keys strictly rising and no entry equal to `d`. -/
def Tbl.wf {α : Type} [DecidableEq α] (d : α) (t : Tbl α) : Bool :=
  match t with
  | [] => true
  | [(_, v)] => decide (v ≠ d)
  | (i, v) :: (j, w) :: rest => decide (v ≠ d) && decide (i < j) && Tbl.wf d ((j, w) :: rest)

/-- A sparse set of numbers, rising and without repeats. -/
abbrev NSet := List Nat

/-- The set with a number added in its place. -/
def NSet.add (t : NSet) (k : Nat) : NSet :=
  match t with
  | [] => [k]
  | i :: rest => if i = k then i :: rest else if k < i then k :: i :: rest else i :: NSet.add rest k

/-- The set without a number. -/
def NSet.del (t : NSet) (k : Nat) : NSet := t.filter fun i => decide (i ≠ k)

/-- The set with every number of a list added. -/
def NSet.addAll (t : NSet) (ks : List Nat) : NSet := ks.foldl NSet.add t

/-- A memory: bytes under their addresses. -/
abbrev Mem := Tbl Byte

/-- The 32-bit word of the four bytes from an address, least significant byte first (R4). -/
def Mem.word (m : Mem) (d : Byte) (a : Nat) : Word :=
  m.get d (a + 3) ++ m.get d (a + 2) ++ m.get d (a + 1) ++ m.get d a

/-- The memory with a word stored at four bytes, least significant byte first (R4). -/
def Mem.setWord (m : Mem) (d : Byte) (a : Nat) (w : Word) : Mem :=
  (((m.set d a (w.extractLsb' 0 8)).set d (a + 1) (w.extractLsb' 8 8)).set d (a + 2) (w.extractLsb' 16 8)).set d
    (a + 3) (w.extractLsb' 24 8)

/-- A list without the repeats of an element that stands before. -/
def dedup (l : List Nat) : List Nat := l.foldl NSet.add []

end Sys2Proof.Machine
end

