-- ==== Sys2Proof/Machine/Bits.lean ====
section
/-!
DEFINITION. Bits.lean: bit-field, byte-order and saturation helpers, used by every block.
-/
namespace Sys2Proof.Machine

/-- Bits [hi:lo] of a number (R4). -/
def bits (n hi lo : Nat) : Nat := (n >>> lo) % 2 ^ (hi + 1 - lo)

/-- A number with its bits [hi:lo] replaced by the low bits of `v`. -/
def putBits (n hi lo v : Nat) : Nat :=
  (n >>> (hi + 1)) <<< (hi + 1) + (v % 2 ^ (hi + 1 - lo)) <<< lo + n % 2 ^ lo

/-- Bit `i` of a number. -/
def bit (n i : Nat) : Bool := (n >>> i) % 2 == 1

/-- 1 for true, 0 for false. -/
def b2n (b : Bool) : Nat := if b then 1 else 0

/-- Bits [hi:lo] of a word. -/
def wbits (w : Word) (hi lo : Nat) : Nat := bits w.toNat hi lo

/-- Bit `i` of a word. -/
def wbit (w : Word) (i : Nat) : Bool := w.getLsbD i

/-- A word from a number, modulo 2³². -/
def toWord (n : Nat) : Word := BitVec.ofNat 32 n

/-- A word from an integer, modulo 2³². -/
def intWord (n : Int) : Word := BitVec.ofInt 32 n

/-- A number that holds at a largest value (R42 and the other holding counters). -/
def holdAt (limit n : Nat) : Nat := if n ≤ limit then n else limit

/-- An integer brought into a range. -/
def clampInt (lo hi n : Int) : Int := if n < lo then lo else if n > hi then hi else n

/-- Half-to-even division rounding of `n / d`, for a positive `d`. -/
def divNearestEven (n : Int) (d : Nat) : Int :=
  let q := n / d
  let r := (n % d).toNat
  if 2 * r < d then q else if 2 * r > d then q + 1 else if q % 2 = 0 then q else q + 1

/-- Division of integers rounded to the nearest, halves away from zero, for a positive `d`. -/
def divNearest (n : Int) (d : Nat) : Int :=
  if n ≥ 0 then (2 * n + d) / (2 * d) else -((-2 * n + d) / (2 * d))

/-- The division of a number rounded up. -/
def ceilDiv (n d : Nat) : Nat := (n + d - 1) / d

/-- `n` bytes of a number, least significant byte first (R4). -/
def toLE : Nat → Nat → List Byte
  | 0, _ => []
  | k + 1, n => BitVec.ofNat 8 n :: toLE k (n / 256)

/-- The number that bytes spell, least significant byte first (R4). -/
def fromLE : List Byte → Nat
  | [] => 0
  | b :: rest => b.toNat + 256 * fromLE rest

/-- `n` bytes of a number, most significant byte first. -/
def toBE (k n : Nat) : List Byte := (toLE k n).reverse

/-- The number that bytes spell, most significant byte first. -/
def fromBE (bs : List Byte) : Nat := fromLE bs.reverse

/-- The bytes from position `i`, `n` of them at most. -/
def slice (bs : List Byte) (i n : Nat) : List Byte := (bs.drop i).take n

/-- A signed reading of the low `n` bits of a number. -/
def signed (n v : Nat) : Int := (BitVec.ofNat n v).toInt

/-- The bytes of a string, one byte a character (the dictionary's strings are ASCII). -/
def strBytes (s : String) : List Byte := s.toList.map fun c => BitVec.ofNat 8 c.toNat

/-- A list with the element at a position replaced; unchanged past its end. -/
def listSet {α : Type} (l : List α) (i : Nat) (v : α) : List α := l.set i v

/-- A list brought to a length: cut, or filled with `d`. -/
def listFit {α : Type} (d : α) (n : Nat) (l : List α) : List α := (l ++ List.replicate (n - l.length) d).take n

/-- The smallest number of a list. -/
def least (l : List Nat) : Option Nat :=
  l.foldl (fun b n => match b with | none => some n | some m => some (Nat.min m n)) none

end Sys2Proof.Machine
end

