-- ==== Sys2Proof/Machine/Float.lean ====
section
/-!
DEFINITION. Float.lean: binary32 and binary64 arithmetic by IEEE 754-2019, rounded to nearest with ties to even, with the
results and the ARITH conditions that R248 to R253 and R762 give. A value is a number whose bits are the encoding.
-/
namespace Sys2Proof.Machine

/-- A binary format: its exponent and fraction widths. -/
structure Fmt where
  e : Nat
  m : Nat
deriving DecidableEq, Repr

def fmt32 : Fmt := ⟨8, 23⟩
def fmt64 : Fmt := ⟨11, 52⟩

/-- ARITH condition masks (R198). -/
def cFINV : Nat := 0x100
def cFDZ  : Nat := 0x200
def cFOVF : Nat := 0x400
def cFUNF : Nat := 0x800
def cFINX : Nat := 0x1000

/-- The least exponent of a fraction's last bit. -/
def Fmt.emin (f : Fmt) : Int := 2 - 2 ^ (f.e - 1) - f.m

def Fmt.signOf (f : Fmt) (n : Nat) : Bool := bit n (f.e + f.m)
def Fmt.expOf (f : Fmt) (n : Nat) : Nat := (n >>> f.m) % 2 ^ f.e
def Fmt.fracOf (f : Fmt) (n : Nat) : Nat := n % 2 ^ f.m
def Fmt.expMax (f : Fmt) : Nat := 2 ^ f.e - 1
def Fmt.isNaN (f : Fmt) (n : Nat) : Bool := f.expOf n == f.expMax && f.fracOf n != 0
def Fmt.isSNaN (f : Fmt) (n : Nat) : Bool := f.isNaN n && !bit n (f.m - 1)
def Fmt.isInf (f : Fmt) (n : Nat) : Bool := f.expOf n == f.expMax && f.fracOf n == 0
def Fmt.isZero (f : Fmt) (n : Nat) : Bool := f.expOf n == 0 && f.fracOf n == 0
def Fmt.signBit (f : Fmt) (neg : Bool) : Nat := b2n neg <<< (f.e + f.m)
def Fmt.zero (f : Fmt) (neg : Bool) : Nat := f.signBit neg
def Fmt.inf (f : Fmt) (neg : Bool) : Nat := f.signBit neg + f.expMax <<< f.m
/-- The default NaN of R250. -/
def Fmt.dnan (f : Fmt) : Nat := f.expMax <<< f.m + 2 ^ (f.m - 1)
/-- A NaN made quiet (R250). -/
def Fmt.quiet (f : Fmt) (n : Nat) : Nat := if bit n (f.m - 1) then n else n + 2 ^ (f.m - 1)

/-- The magnitude of a finite value: its fraction as an integer and the exponent of its last bit. -/
def Fmt.mag (f : Fmt) (n : Nat) : Nat × Int :=
  if f.expOf n = 0 then (f.fracOf n, f.emin) else (f.fracOf n + 2 ^ f.m, f.emin + (f.expOf n - 1 : Nat))

/-- The number of bits of a number. -/
def bitLen (n : Nat) : Nat := if n = 0 then 0 else n.log2 + 1

/-- The value `mant + δ`, δ strictly between 0 and 1 when `sticky`, in units of `2^shift`: rounded to nearest with ties to even,
and whether that is inexact. -/
def roundShift (mant : Nat) (sticky : Bool) (shift : Int) : Nat × Bool :=
  let q := if shift ≤ 0 then mant <<< (-shift).toNat else mant >>> shift.toNat
  let rem := if shift ≤ 0 then 0 else mant % 2 ^ shift.toNat
  let half := if shift ≤ 0 then 1 else 2 ^ (shift.toNat - 1)
  let up := decide (rem > half) || (rem == half && (sticky || q % 2 == 1))
  (if up then q + 1 else q, rem != 0 || sticky)

/-- The value `(mant + δ) × 2^exp`, with δ strictly between 0 and 1 when `sticky`, rounded and encoded, with its
conditions. A result that is tiny after rounding, as if the exponent were not bounded, and inexact meets FUNF (R251, log 24).
When `sticky`, `mant` must have two bits more than the format's precision. -/
def Fmt.round (f : Fmt) (neg : Bool) (mant : Nat) (exp : Int) (sticky : Bool) : Nat × Nat :=
  if mant = 0 && !sticky then (f.zero neg, 0) else
  let p := f.m + 1
  let free : Int := exp + bitLen mant - p
  let lsb : Int := max free f.emin
  let r := roundShift mant sticky (lsb - exp)
  let carried := free = f.emin - 1 ∧ (roundShift mant sticky (free - exp)).1 = 2 ^ p
  let tiny := free < f.emin ∧ ¬carried
  let q := if r.1 < 2 ^ p then r.1 else r.1 / 2
  let lsb' := if r.1 < 2 ^ p then lsb else lsb + 1
  let cond := if r.2 then (if tiny then cFUNF + cFINX else cFINX) else 0
  if q < 2 ^ f.m then (f.signBit neg + q, cond)
  else
    let be := (lsb' - f.emin + 1).toNat
    if be ≥ f.expMax then (f.inf neg, cFOVF + cFINX)
    else (f.signBit neg + be <<< f.m + (q - 2 ^ f.m), cond)

/-- The first NaN source made quiet, with FINV for a signalling one among the sources (R250). -/
def Fmt.nan2 (f : Fmt) (a b : Nat) : Nat × Nat :=
  (f.quiet (if f.isNaN a then a else b), if f.isSNaN a || f.isSNaN b then cFINV else 0)

def Fmt.neg (f : Fmt) (a : Nat) : Nat := if f.signOf a then a - f.signBit true else a + f.signBit true
def Fmt.abs (f : Fmt) (a : Nat) : Nat := if f.signOf a then a - f.signBit true else a

/-- A finite value as a signed fraction and the exponent of its last bit. -/
def Fmt.val (f : Fmt) (n : Nat) : Int × Int :=
  let (m, e) := f.mag n
  (if f.signOf n then -(m : Int) else m, e)

def Fmt.add (f : Fmt) (a b : Nat) : Nat × Nat :=
  if f.isNaN a || f.isNaN b then f.nan2 a b
  else if f.isInf a && f.isInf b then
    if f.signOf a == f.signOf b then (a, 0) else (f.dnan, cFINV)
  else if f.isInf a then (a, 0)
  else if f.isInf b then (b, 0)
  else
    let (ma, ea) := f.val a
    let (mb, eb) := f.val b
    let e := min ea eb
    let sum : Int := ma * 2 ^ (ea - e).toNat + mb * 2 ^ (eb - e).toNat
    if sum = 0 then (f.zero (f.signOf a && f.signOf b), 0)
    else f.round (decide (sum < 0)) sum.natAbs e false

/-- The difference. A NaN source keeps its sign (R250). -/
def Fmt.sub (f : Fmt) (a b : Nat) : Nat × Nat :=
  if f.isNaN a || f.isNaN b then f.nan2 a b else f.add a (f.neg b)

def Fmt.mul (f : Fmt) (a b : Nat) : Nat × Nat :=
  let sg := f.signOf a != f.signOf b
  if f.isNaN a || f.isNaN b then f.nan2 a b
  else if f.isInf a || f.isInf b then
    if f.isZero a || f.isZero b then (f.dnan, cFINV) else (f.inf sg, 0)
  else
    let (ma, ea) := f.mag a
    let (mb, eb) := f.mag b
    f.round sg (ma * mb) (ea + eb) false

def Fmt.div (f : Fmt) (a b : Nat) : Nat × Nat :=
  let sg := f.signOf a != f.signOf b
  if f.isNaN a || f.isNaN b then f.nan2 a b
  else if f.isInf a then if f.isInf b then (f.dnan, cFINV) else (f.inf sg, 0)
  else if f.isInf b then (f.zero sg, 0)
  else if f.isZero b then if f.isZero a then (f.dnan, cFINV) else (f.inf sg, cFDZ)
  else if f.isZero a then (f.zero sg, 0)
  else
    let (ma, ea) := f.mag a
    let (mb, eb) := f.mag b
    let k := f.m + 4 + bitLen mb
    f.round sg (ma <<< k / mb) (ea - eb - k) (ma <<< k % mb != 0)

/-- The whole square root of a number, found bit by bit from bit `k − 1` down. -/
def isqrtBits (n : Nat) : Nat → Nat → Nat
  | 0, r => r
  | k + 1, r => let r' := r + 2 ^ k; isqrtBits n k (if r' * r' ≤ n then r' else r)

def isqrt (n : Nat) : Nat := isqrtBits n (bitLen n / 2 + 1) 0

def Fmt.sqrt (f : Fmt) (a : Nat) : Nat × Nat :=
  if f.isNaN a then (f.quiet a, if f.isSNaN a then cFINV else 0)
  else if f.isZero a then (a, 0)
  else if f.signOf a then (f.dnan, cFINV)
  else if f.isInf a then (a, 0)
  else
    let (ma, ea) := f.mag a
    let k0 := 2 * (f.m + 3)
    let k := if (ea - k0) % 2 = 0 then k0 else k0 + 1
    let n := ma <<< k
    let r := isqrt n
    f.round false r ((ea - k) / 2) (r * r != n)

/-- Whether `a < b`, for values that are not NaN. -/
def Fmt.ltNum (f : Fmt) (a b : Nat) : Bool :=
  if f.isInf a then f.signOf a && !(f.isInf b && f.signOf b)
  else if f.isInf b then !f.signOf b
  else
    let (ma, ea) := f.val a
    let (mb, eb) := f.val b
    let e := min ea eb
    decide (ma * 2 ^ (ea - e).toNat < mb * 2 ^ (eb - e).toNat)

/-- Whether `a = b`, for values that are not NaN; +0 and −0 are equal (R248). -/
def Fmt.eqNum (f : Fmt) (a b : Nat) : Bool := a == b || (f.isZero a && f.isZero b)

/-- minimumNumber, or maximumNumber when `big` (R250). -/
def Fmt.minMax (f : Fmt) (big : Bool) (a b : Nat) : Nat × Nat :=
  let fl := if f.isSNaN a || f.isSNaN b then cFINV else 0
  if f.isNaN a && f.isNaN b then (f.quiet a, fl)
  else if f.isNaN a then (b, fl)
  else if f.isNaN b then (a, fl)
  else if f.isZero a && f.isZero b then (if f.signOf a != big then a else b, fl)
  else (if f.ltNum a b != big then a else b, fl)

/-- An integer converted to the format (R252). -/
def Fmt.ofInt (f : Fmt) (n : Int) : Nat × Nat := f.round (decide (n < 0)) n.natAbs 0 false

/-- A value converted to a signed integer of `w` bits, rounded to nearest or toward zero (R252, R253). -/
def Fmt.toInt (f : Fmt) (w : Nat) (trunc : Bool) (a : Nat) : Int × Nat :=
  let lo : Int := -2 ^ (w - 1)
  let hi : Int := 2 ^ (w - 1) - 1
  if f.isNaN a then (0, cFINV)
  else if f.isInf a then (if f.signOf a then lo else hi, cFINV)
  else
    let (m, e) := f.mag a
    let sh := (-e).toNat
    let q := if e ≥ 0 then m <<< e.toNat
             else if trunc then m >>> sh else (divNearestEven m (2 ^ sh)).toNat
    let exact := decide (e ≥ 0) || m % 2 ^ sh == 0
    let r : Int := if f.signOf a then -(q : Int) else q
    if r > hi then (hi, cFINV) else if r < lo then (lo, cFINV) else (r, if exact then 0 else cFINX)

/-- A value converted between the formats (R252). -/
def Fmt.conv (src dst : Fmt) (a : Nat) : Nat × Nat :=
  if src.isNaN a then
    let fr := src.fracOf (src.quiet a)
    let fr' := if src.m ≤ dst.m then fr <<< (dst.m - src.m) else fr >>> (src.m - dst.m)
    (dst.signBit (src.signOf a) + dst.expMax <<< dst.m + fr', if src.isSNaN a then cFINV else 0)
  else if src.isInf a then (dst.inf (src.signOf a), 0)
  else
    let (m, e) := src.mag a
    dst.round (src.signOf a) m e false

/-- A binary32 short immediate widened to binary64: exact, and a NaN keeps its quiet bit (R762). -/
def widenImm (a : Nat) : Nat :=
  if fmt32.isNaN a then
    fmt64.signBit (fmt32.signOf a) + fmt64.expMax <<< 52 + (fmt32.fracOf a) <<< 29
  else (fmt32.conv fmt64 a).1

/-! Shorthands of binary32 arithmetic, used by the loop engine and the field side; the conditions are dropped there. -/

def f32add (a b : Word) : Word := toWord (fmt32.add a.toNat b.toNat).1
def f32sub (a b : Word) : Word := toWord (fmt32.sub a.toNat b.toNat).1
def f32mul (a b : Word) : Word := toWord (fmt32.mul a.toNat b.toNat).1
def f32div (a b : Word) : Word := toWord (fmt32.div a.toNat b.toNat).1
def f32sqrt (a : Word) : Word := toWord (fmt32.sqrt a.toNat).1
def f32ofInt (n : Int) : Word := toWord (fmt32.ofInt n).1
def f32isNaN (a : Word) : Bool := fmt32.isNaN a.toNat
def f32isInf (a : Word) : Bool := fmt32.isInf a.toNat
def f32finite (a : Word) : Bool := !(f32isNaN a || f32isInf a)
/-- a < b; false when either is a NaN -/
def f32lt (a b : Word) : Bool := !(f32isNaN a || f32isNaN b) && fmt32.ltNum a.toNat b.toNat
def f32le (a b : Word) : Bool :=
  !(f32isNaN a || f32isNaN b) && (fmt32.ltNum a.toNat b.toNat || fmt32.eqNum a.toNat b.toNat)
def f32neg (a : Word) : Word := toWord (fmt32.neg a.toNat)
def f32abs (a : Word) : Word := toWord (fmt32.abs a.toNat)
/-- The quotient of two integers as a binary32 value, rounded once. -/
def f32ratio (n : Int) (d : Nat) : Word :=
  if n = 0 then 0 else
  let k := 28 + bitLen d
  toWord (fmt32.round (decide (n < 0)) (n.natAbs <<< k / d) (-k) (n.natAbs <<< k % d != 0)).1
/-- A finite binary32 value times `k`, rounded to the nearest integer with ties to even, brought into a range; a NaN
gives 0. -/
def f32toIntScaled (a : Word) (k : Nat) (lo hi : Int) : Int :=
  if f32isNaN a then 0
  else if f32isInf a then (if fmt32.signOf a.toNat then lo else hi)
  else
    let (m, e) := fmt32.mag a.toNat
    let n : Nat := m * k
    let q : Int := if e ≥ 0 then (n <<< e.toNat : Nat) else divNearestEven n (2 ^ (-e).toNat)
    clampInt lo hi (if fmt32.signOf a.toNat then -q else q)

end Sys2Proof.Machine
end

