-- ==== Sys2Proof/Config.lean ====
section
/-!
DEFINITION. Config.lean: what an implementation fixes, and the values that the spec leaves open. None of these constants
has a value in the model, so nothing can be proved that depends on one.
-/
namespace Sys2Proof.Config

/-- A free word: what the spec leaves open, one for each draw (log 1). -/
opaque freeWord : Nat → Word

/-- A free bit, one for each draw (log 1). -/
opaque freeBit : Nat → Bool

/-- The pace, in handshakes per µs, that the factory layer of the pace-to-speed model predicts for an island at a set-point
code and a temperature in units of 0.1 °C (R395). The spec does not give the model. -/
opaque predictedPace : (isl code : Nat) → (temp : Int) → Nat

/-- A key written at manufacture (R509): 3 the commissioning key, 4 the Factory key. -/
opaque manufactureKey : (role : Nat) → List Byte

/-- The variant: true on TZ-640-X (R31). -/
opaque coated : Bool

/-- The largest output and input lengths of a station, by its product and serial number; R287 bounds both by 1,472. -/
opaque stationLengths : (vendorProduct : Word) → (serial : Nat) → Nat × Nat

/-- A station serves frames of a type, NVW (4) or DXF (5): its maker may leave out its non-volatile store or its dictionary
(R284, log 81). -/
opaque stationServes : (vendorProduct : Word) → (serial typ : Nat) → Bool

/-- A byte of the analogue forcing table as firmware keeps it: the forced values with their groups, and the byte's place in the
table (R47). The spec does not lay an entry out (log 86). -/
opaque analogForceByte : (forces : List (Nat × Word)) → (off : Nat) → BitVec 8

/-- A group's byte in the ownership table, by its owner (R47). The spec does not give the codes (log 86). -/
opaque ownerByte : (group : Nat) → (owner : Option Nat) → BitVec 8

end Sys2Proof.Config
end

