-- ==== Sys2Proof/Machine/RegTable.lean ====
section
/-!
DEFINITION. RegTable.lean: the peripheral registers of the module, as the register maps of the chapters give them: for
every register its address, its fields with their access codes (R7) and the values after reset, and for every field a
name through which the rest of the model reads and writes it. A field whose value after reset the map gives in words
("kept", "from MRAM", "variant", "strap") is listed with 0 here; what it reads as is said where it is read.
-/
namespace Sys2Proof.Machine

/-- The access codes of R7. -/
inductive Acc where
  | ro | rw | wo | w1c | rc
deriving DecidableEq, Repr

/-- A field of a register: its bits, its access code and its value after reset. -/
structure FieldDef where
  hi  : Nat
  lo  : Nat
  acc : Acc
  rst : Nat
deriving DecidableEq, Repr

/-- A register, or an array of `count` registers `stride` bytes apart, from an address. Bits of no field are reserved. -/
structure RegDef where
  base   : Nat
  count  : Nat
  stride : Nat
  fields : List FieldDef
deriving DecidableEq, Repr

/-- A field named for use: the address of its register and its bits. -/
structure Fld where
  addr : Nat
  hi   : Nat
  lo   : Nat
deriving DecidableEq, Repr

/-- Where the registers of transmit buffer b of CAN controller m are held: at 0x0100 + 0x80 × b of its block (R594). The
receive registers share the offsets 0x0200 to 0x0250 with buffer 2 (R595), so buffer 2 is held apart, at 0xF000.
DESIGN CHOICE (log 8). -/
def canBuf (m b : Nat) : Nat :=
  0xF00C0000 + 0x10000 * m + (if b < 2 then 0x100 + 0x80 * b else 0xF000)

/-! ### SYS -/

/-- SYS_ID (R30) -/
def SYS_ID : Nat := 0xF0000000
/-- SYS_ID.VENDOR -/
def SYS_ID_VENDOR : Fld := ⟨SYS_ID, 31, 16⟩
/-- SYS_ID.PART -/
def SYS_ID_PART : Fld := ⟨SYS_ID, 15, 0⟩
/-- SYS_REV (R31) -/
def SYS_REV : Nat := 0xF0000004
/-- SYS_REV.COATED -/
def SYS_REV_COATED : Fld := ⟨SYS_REV, 16, 16⟩
/-- SYS_REV.SILICON -/
def SYS_REV_SILICON : Fld := ⟨SYS_REV, 15, 8⟩
/-- SYS_REV.BOARD -/
def SYS_REV_BOARD : Fld := ⟨SYS_REV, 7, 0⟩
/-- SYS_DOMSTAT (R32) -/
def SYS_DOMSTAT : Nat := 0xF0000010
/-- SYS_DOMSTAT.FIELD -/
def SYS_DOMSTAT_FIELD : Fld := ⟨SYS_DOMSTAT, 7, 7⟩
/-- SYS_DOMSTAT.SAFETY -/
def SYS_DOMSTAT_SAFETY : Fld := ⟨SYS_DOMSTAT, 6, 6⟩
/-- SYS_DOMSTAT.BACKUP -/
def SYS_DOMSTAT_BACKUP : Fld := ⟨SYS_DOMSTAT, 5, 5⟩
/-- SYS_DOMSTAT.CORE -/
def SYS_DOMSTAT_CORE : Fld := ⟨SYS_DOMSTAT, 4, 4⟩
/-- SYS_DOMSTAT.ISLAND -/
def SYS_DOMSTAT_ISLAND : Fld := ⟨SYS_DOMSTAT, 3, 0⟩
/-- SYS_ISLRST (R33) -/
def SYS_ISLRST : Nat := 0xF0000014
/-- SYS_ISLRST.RESET -/
def SYS_ISLRST_RESET : Fld := ⟨SYS_ISLRST, 3, 0⟩
/-- SYS_RSTSRC (R732) -/
def SYS_RSTSRC : Nat := 0xF0000020
/-- SYS_RSTSRC.CAUSE -/
def SYS_RSTSRC_CAUSE : Fld := ⟨SYS_RSTSRC, 10, 8⟩
/-- SYS_RSTSRC.SOURCES -/
def SYS_RSTSRC_SOURCES : Fld := ⟨SYS_RSTSRC, 6, 0⟩
/-- SYS_SWRST (R733) -/
def SYS_SWRST : Nat := 0xF0000024
/-- SYS_SWRST.KEY -/
def SYS_SWRST_KEY : Fld := ⟨SYS_SWRST, 31, 16⟩
/-- SYS_SWRST.MODE -/
def SYS_SWRST_MODE : Fld := ⟨SYS_SWRST, 0, 0⟩
/-- SYS_SYSOK (R734) -/
def SYS_SYSOK : Nat := 0xF0000028
/-- SYS_SYSOK.FORCED -/
def SYS_SYSOK_FORCED : Fld := ⟨SYS_SYSOK, 2, 2⟩
/-- SYS_SYSOK.PIN -/
def SYS_SYSOK_PIN : Fld := ⟨SYS_SYSOK, 1, 1⟩
/-- SYS_SYSOK.DRIVE -/
def SYS_SYSOK_DRIVE : Fld := ⟨SYS_SYSOK, 0, 0⟩
/-- SYS_BOOT (R735) -/
def SYS_BOOT : Nat := 0xF000002C
/-- SYS_BOOT.LDRREQ -/
def SYS_BOOT_LDRREQ : Fld := ⟨SYS_BOOT, 9, 9⟩
/-- SYS_BOOT.INCOMPLETE -/
def SYS_BOOT_INCOMPLETE : Fld := ⟨SYS_BOOT, 8, 8⟩
/-- SYS_BOOT.STAGE -/
def SYS_BOOT_STAGE : Fld := ⟨SYS_BOOT, 1, 0⟩

/-! ### TSK -/

/-- TSK_GCTRL (R91) -/
def TSK_GCTRL : Nat := 0xF0010000
/-- TSK_GCTRL.COLD -/
def TSK_GCTRL_COLD : Fld := ⟨TSK_GCTRL, 2, 2⟩
/-- TSK_GCTRL.STOP -/
def TSK_GCTRL_STOP : Fld := ⟨TSK_GCTRL, 1, 1⟩
/-- TSK_GCTRL.START -/
def TSK_GCTRL_START : Fld := ⟨TSK_GCTRL, 0, 0⟩
/-- TSK_GSTAT (R92) -/
def TSK_GSTAT : Nat := 0xF0010004
/-- TSK_GSTAT.STOPTASK -/
def TSK_GSTAT_STOPTASK : Fld := ⟨TSK_GSTAT, 23, 16⟩
/-- TSK_GSTAT.CAUSE -/
def TSK_GSTAT_CAUSE : Fld := ⟨TSK_GSTAT, 15, 8⟩
/-- TSK_GSTAT.STATE -/
def TSK_GSTAT_STATE : Fld := ⟨TSK_GSTAT, 1, 0⟩
/-- TSK_STOPTL (R93) -/
def TSK_STOPTL : Nat := 0xF0010008
/-- TSK_STOPTH (R93) -/
def TSK_STOPTH : Nat := 0xF001000C
/-- TSK_FRCCNT (R94) -/
def TSK_FRCCNT : Nat := 0xF0010010
/-- TSK_FRCCNT.ANALOG -/
def TSK_FRCCNT_ANALOG : Fld := ⟨TSK_FRCCNT, 27, 16⟩
/-- TSK_FRCCNT.DIGITAL -/
def TSK_FRCCNT_DIGITAL : Fld := ⟨TSK_FRCCNT, 14, 0⟩
/-- TSK_CTRL (R95) -/
def TSK_CTRL (k : Nat) : Nat := 0xF0010100 + 0x40 * k
/-- TSK_CTRL.EVSRC -/
def TSK_CTRL_EVSRC (k : Nat) : Fld := ⟨(TSK_CTRL k), 15, 9⟩
/-- TSK_CTRL.PRIO -/
def TSK_CTRL_PRIO (k : Nat) : Fld := ⟨(TSK_CTRL k), 8, 4⟩
/-- TSK_CTRL.MISSACT -/
def TSK_CTRL_MISSACT (k : Nat) : Fld := ⟨(TSK_CTRL k), 3, 3⟩
/-- TSK_CTRL.FULLSCAN -/
def TSK_CTRL_FULLSCAN (k : Nat) : Fld := ⟨(TSK_CTRL k), 2, 2⟩
/-- TSK_CTRL.EN -/
def TSK_CTRL_EN (k : Nat) : Fld := ⟨(TSK_CTRL k), 0, 0⟩
/-- TSK_PERIOD (R96) -/
def TSK_PERIOD (k : Nat) : Nat := 0xF0010104 + 0x40 * k
/-- TSK_PERIOD.N -/
def TSK_PERIOD_N (k : Nat) : Fld := ⟨(TSK_PERIOD k), 17, 0⟩
/-- TSK_PHASE (R97) -/
def TSK_PHASE (k : Nat) : Nat := 0xF0010108 + 0x40 * k
/-- TSK_PHASE.VALUE -/
def TSK_PHASE_VALUE (k : Nat) : Fld := ⟨(TSK_PHASE k), 23, 0⟩
/-- TSK_STRIKE (R97) -/
def TSK_STRIKE (k : Nat) : Nat := 0xF001010C + 0x40 * k
/-- TSK_STRIKE.VALUE -/
def TSK_STRIKE_VALUE (k : Nat) : Fld := ⟨(TSK_STRIKE k), 23, 0⟩
/-- TSK_INDL (R97) -/
def TSK_INDL (k : Nat) : Nat := 0xF0010110 + 0x40 * k
/-- TSK_INDL.VALUE -/
def TSK_INDL_VALUE (k : Nat) : Fld := ⟨(TSK_INDL k), 23, 0⟩
/-- TSK_OUTM (R97) -/
def TSK_OUTM (k : Nat) : Nat := 0xF0010114 + 0x40 * k
/-- TSK_OUTM.VALUE -/
def TSK_OUTM_VALUE (k : Nat) : Fld := ⟨(TSK_OUTM k), 23, 0⟩
/-- TSK_STAT (R98) -/
def TSK_STAT (k : Nat) : Nat := 0xF0010118 + 0x40 * k
/-- TSK_STAT.EVALUATING -/
def TSK_STAT_EVALUATING (k : Nat) : Fld := ⟨(TSK_STAT k), 7, 7⟩
/-- TSK_STAT.PENDING -/
def TSK_STAT_PENDING (k : Nat) : Fld := ⟨(TSK_STAT k), 6, 6⟩
/-- TSK_STAT.LATE -/
def TSK_STAT_LATE (k : Nat) : Fld := ⟨(TSK_STAT k), 5, 5⟩
/-- TSK_STAT.MISS -/
def TSK_STAT_MISS (k : Nat) : Fld := ⟨(TSK_STAT k), 4, 4⟩
/-- TSK_STAT.FULL -/
def TSK_STAT_FULL (k : Nat) : Fld := ⟨(TSK_STAT k), 3, 3⟩
/-- TSK_STAT.PHASE -/
def TSK_STAT_PHASE (k : Nat) : Fld := ⟨(TSK_STAT k), 2, 0⟩
/-- TSK_LASTTL (R99) -/
def TSK_LASTTL (k : Nat) : Nat := 0xF001011C + 0x40 * k
/-- TSK_LASTTH (R99) -/
def TSK_LASTTH (k : Nat) : Nat := 0xF0010120 + 0x40 * k
/-- TSK_EVLAST (R100) -/
def TSK_EVLAST (k : Nat) : Nat := 0xF0010124 + 0x40 * k
/-- TSK_EVMAX (R100) -/
def TSK_EVMAX (k : Nat) : Nat := 0xF0010128 + 0x40 * k
/-- TSK_CYCLE (R101) -/
def TSK_CYCLE (k : Nat) : Nat := 0xF001012C + 0x40 * k
/-- TSK_LATE (R102) -/
def TSK_LATE (k : Nat) : Nat := 0xF0010130 + 0x40 * k
/-- TSK_LATE.MISSCNT -/
def TSK_LATE_MISSCNT (k : Nat) : Fld := ⟨(TSK_LATE k), 31, 16⟩
/-- TSK_LATE.LATECNT -/
def TSK_LATE_LATECNT (k : Nat) : Fld := ⟨(TSK_LATE k), 15, 0⟩
/-- TSK_EVMRG (R103) -/
def TSK_EVMRG (k : Nat) : Nat := 0xF0010134 + 0x40 * k
/-- TSK_WDCTRL (R104) -/
def TSK_WDCTRL : Nat := 0xF0010800
/-- TSK_WDCTRL.WIN -/
def TSK_WDCTRL_WIN : Fld := ⟨TSK_WDCTRL, 31, 16⟩
/-- TSK_WDCTRL.BADCFG -/
def TSK_WDCTRL_BADCFG : Fld := ⟨TSK_WDCTRL, 2, 2⟩
/-- TSK_WDCTRL.STRICT -/
def TSK_WDCTRL_STRICT : Fld := ⟨TSK_WDCTRL, 1, 1⟩
/-- TSK_WDCTRL.EN -/
def TSK_WDCTRL_EN : Fld := ⟨TSK_WDCTRL, 0, 0⟩
/-- TSK_WDMASK (R105) -/
def TSK_WDMASK : Nat := 0xF0010804
/-- TSK_WDMASK.MAP -/
def TSK_WDMASK_MAP : Fld := ⟨TSK_WDMASK, 23, 0⟩
/-- TSK_WDAUTO (R105) -/
def TSK_WDAUTO : Nat := 0xF0010808
/-- TSK_WDAUTO.MAP -/
def TSK_WDAUTO_MAP : Fld := ⟨TSK_WDAUTO, 23, 0⟩
/-- TSK_WDSEEN (R105) -/
def TSK_WDSEEN : Nat := 0xF001080C
/-- TSK_WDSEEN.MAP -/
def TSK_WDSEEN_MAP : Fld := ⟨TSK_WDSEEN, 23, 0⟩
/-- TSK_WDDUP (R105) -/
def TSK_WDDUP : Nat := 0xF0010810
/-- TSK_WDDUP.MAP -/
def TSK_WDDUP_MAP : Fld := ⟨TSK_WDDUP, 23, 0⟩
/-- TSK_WDMISS (R105) -/
def TSK_WDMISS : Nat := 0xF0010814
/-- TSK_WDMISS.MAP -/
def TSK_WDMISS_MAP : Fld := ⟨TSK_WDMISS, 23, 0⟩

/-! ### SEG -/

/-- SEG_COUNT (R157) -/
def SEG_COUNT : Nat := 0xF0020000
/-- SEG_COUNT.COUNT -/
def SEG_COUNT_COUNT : Fld := ⟨SEG_COUNT, 16, 0⟩
/-- SEG_CODEFREE (R158) -/
def SEG_CODEFREE : Nat := 0xF0020004
/-- SEG_CODEFREE.WORDS -/
def SEG_CODEFREE_WORDS : Fld := ⟨SEG_CODEFREE, 21, 0⟩
/-- SEG_HSEL (R159) -/
def SEG_HSEL : Nat := 0xF0020010
/-- SEG_HSEL.SEGMENT -/
def SEG_HSEL_SEGMENT : Fld := ⟨SEG_HSEL, 15, 0⟩
/-- SEG_HDR (R160) -/
def SEG_HDR (k : Nat) : Nat := 0xF0020014 + 0x4 * k
/-- SEG_STGSEL (R161) -/
def SEG_STGSEL : Nat := 0xF0020100
/-- SEG_STGSEL.SLOT -/
def SEG_STGSEL_SLOT : Fld := ⟨SEG_STGSEL, 5, 0⟩
/-- SEG_STGNUM (R162) -/
def SEG_STGNUM : Nat := 0xF0020104
/-- SEG_STGNUM.VALID -/
def SEG_STGNUM_VALID : Fld := ⟨SEG_STGNUM, 31, 31⟩
/-- SEG_STGNUM.REMOVE -/
def SEG_STGNUM_REMOVE : Fld := ⟨SEG_STGNUM, 30, 30⟩
/-- SEG_STGNUM.SEGMENT -/
def SEG_STGNUM_SEGMENT : Fld := ⟨SEG_STGNUM, 15, 0⟩
/-- SEG_STGHDR (R163) -/
def SEG_STGHDR (k : Nat) : Nat := 0xF0020108 + 0x4 * k
/-- SEG_STGCNT (R164) -/
def SEG_STGCNT : Nat := 0xF0020118
/-- SEG_STGCNT.WCOUNT -/
def SEG_STGCNT_WCOUNT : Fld := ⟨SEG_STGCNT, 29, 16⟩
/-- SEG_STGCNT.RCOUNT -/
def SEG_STGCNT_RCOUNT : Fld := ⟨SEG_STGCNT, 13, 0⟩
/-- SEG_STGPTR (R164) -/
def SEG_STGPTR : Nat := 0xF002011C
/-- SEG_STGPTR.WORD -/
def SEG_STGPTR_WORD : Fld := ⟨SEG_STGPTR, 15, 0⟩
/-- SEG_STGDATA (R164) -/
def SEG_STGDATA : Nat := 0xF0020140
/-- SEG_STGCTRL (R165) -/
def SEG_STGCTRL : Nat := 0xF0020120
/-- SEG_STGCTRL.ABORT -/
def SEG_STGCTRL_ABORT : Fld := ⟨SEG_STGCTRL, 1, 1⟩
/-- SEG_STGCTRL.COMMIT -/
def SEG_STGCTRL_COMMIT : Fld := ⟨SEG_STGCTRL, 0, 0⟩
/-- SEG_STGSTAT (R166) -/
def SEG_STGSTAT : Nat := 0xF0020124
/-- SEG_STGSTAT.ERRSEG -/
def SEG_STGSTAT_ERRSEG : Fld := ⟨SEG_STGSTAT, 31, 16⟩
/-- SEG_STGSTAT.ERR -/
def SEG_STGSTAT_ERR : Fld := ⟨SEG_STGSTAT, 15, 8⟩
/-- SEG_STGSTAT.SLOTERR -/
def SEG_STGSTAT_SLOTERR : Fld := ⟨SEG_STGSTAT, 3, 3⟩
/-- SEG_STGSTAT.STATE -/
def SEG_STGSTAT_STATE : Fld := ⟨SEG_STGSTAT, 2, 0⟩
/-- SEG_GEN (R167) -/
def SEG_GEN : Nat := 0xF0020128
/-- SEG_SWAPTL (R168) -/
def SEG_SWAPTL : Nat := 0xF0020130
/-- SEG_SWAPTH (R168) -/
def SEG_SWAPTH : Nat := 0xF0020134

/-! ### LANE -/

/-- LANE_BUSY (R169) -/
def LANE_BUSY (k : Nat) : Nat := 0xF0030000 + 0x4 * k
/-- LANE_FAULTCNT (R170) -/
def LANE_FAULTCNT : Nat := 0xF0030008
/-- LANE_CLCTRL (R171) -/
def LANE_CLCTRL (k : Nat) : Nat := 0xF0030100 + 0x20 * k
/-- LANE_CLCTRL.FLUSH -/
def LANE_CLCTRL_FLUSH (k : Nat) : Fld := ⟨(LANE_CLCTRL k), 1, 1⟩
/-- LANE_CLCTRL.EN -/
def LANE_CLCTRL_EN (k : Nat) : Fld := ⟨(LANE_CLCTRL k), 0, 0⟩
/-- LANE_CLRUNS (R172) -/
def LANE_CLRUNS (k : Nat) : Nat := 0xF0030104 + 0x20 * k
/-- LANE_CLHS (R172) -/
def LANE_CLHS (k : Nat) : Nat := 0xF0030108 + 0x20 * k
/-- LANE_CLMISS (R172) -/
def LANE_CLMISS (k : Nat) : Nat := 0xF003010C + 0x20 * k
/-- LANE_CLAUD (R172) -/
def LANE_CLAUD (k : Nat) : Nat := 0xF0030114 + 0x20 * k
/-- LANE_CLFLT (R173) -/
def LANE_CLFLT (k : Nat) : Nat := 0xF0030110 + 0x20 * k
/-- LANE_CLFLT.SEGMENT -/
def LANE_CLFLT_SEGMENT (k : Nat) : Fld := ⟨(LANE_CLFLT k), 31, 16⟩
/-- LANE_CLFLT.CODE -/
def LANE_CLFLT_CODE (k : Nat) : Fld := ⟨(LANE_CLFLT k), 7, 0⟩

/-! ### GZ -/

/-- GZ_CTRL (R174) -/
def GZ_CTRL : Nat := 0xF0040000
/-- GZ_CTRL.AUDEN -/
def GZ_CTRL_AUDEN : Fld := ⟨GZ_CTRL, 8, 8⟩
/-- GZ_CMD (R175) -/
def GZ_CMD : Nat := 0xF0040004
/-- GZ_CMD.AUDREQ -/
def GZ_CMD_AUDREQ : Fld := ⟨GZ_CMD, 9, 9⟩
/-- GZ_CMD.EQCLR -/
def GZ_CMD_EQCLR : Fld := ⟨GZ_CMD, 8, 8⟩
/-- GZ_CMD.TASK -/
def GZ_CMD_TASK : Fld := ⟨GZ_CMD, 4, 0⟩
/-- GZ_AUDINT (R176) -/
def GZ_AUDINT : Nat := 0xF0040008
/-- GZ_AUDINT.SECONDS -/
def GZ_AUDINT_SECONDS : Fld := ⟨GZ_AUDINT, 11, 0⟩
/-- GZ_STAT (R177) -/
def GZ_STAT : Nat := 0xF004000C
/-- GZ_STAT.AUDTASK -/
def GZ_STAT_AUDTASK : Fld := ⟨GZ_STAT, 12, 8⟩
/-- GZ_STAT.INLINE -/
def GZ_STAT_INLINE : Fld := ⟨GZ_STAT, 2, 2⟩
/-- GZ_STAT.AUDITING -/
def GZ_STAT_AUDITING : Fld := ⟨GZ_STAT, 1, 1⟩
/-- GZ_STAT.REBUILD -/
def GZ_STAT_REBUILD : Fld := ⟨GZ_STAT, 0, 0⟩
/-- GZ_EQMAP (R178) -/
def GZ_EQMAP : Nat := 0xF0040010
/-- GZ_EQMAP.FAULT -/
def GZ_EQMAP_FAULT : Fld := ⟨GZ_EQMAP, 23, 0⟩
/-- GZ_FREE (R179) -/
def GZ_FREE : Nat := 0xF0040014
/-- GZ_FREE.ENTRIES -/
def GZ_FREE_ENTRIES : Fld := ⟨GZ_FREE, 21, 0⟩
/-- GZ_DIRSEL (R180) -/
def GZ_DIRSEL : Nat := 0xF0040020
/-- GZ_DIRSEL.G -/
def GZ_DIRSEL_G : Fld := ⟨GZ_DIRSEL, 18, 0⟩
/-- GZ_DIRDATA (R180) -/
def GZ_DIRDATA : Nat := 0xF0040024
/-- GZ_SUBSEL (R180) -/
def GZ_SUBSEL : Nat := 0xF0040028
/-- GZ_SUBSEL.INDEX -/
def GZ_SUBSEL_INDEX : Fld := ⟨GZ_SUBSEL, 20, 0⟩
/-- GZ_SUBDATA (R180) -/
def GZ_SUBDATA : Nat := 0xF004002C
/-- GZ_TRIG (R181) -/
def GZ_TRIG (k : Nat) : Nat := 0xF0040040 + 0x4 * k
/-- GZ_TRIG.EN -/
def GZ_TRIG_EN (k : Nat) : Fld := ⟨(GZ_TRIG k), 31, 31⟩
/-- GZ_TRIG.EVSRC -/
def GZ_TRIG_EVSRC (k : Nat) : Fld := ⟨(GZ_TRIG k), 22, 16⟩
/-- GZ_TRIG.SEGMENT -/
def GZ_TRIG_SEGMENT (k : Nat) : Fld := ⟨(GZ_TRIG k), 15, 0⟩
/-- GZ_RUNS (R182) -/
def GZ_RUNS (k : Nat) : Nat := 0xF0040100 + 0x20 * k
/-- GZ_RUNS.COUNT -/
def GZ_RUNS_COUNT (k : Nat) : Fld := ⟨(GZ_RUNS k), 18, 0⟩
/-- GZ_CHG (R182) -/
def GZ_CHG (k : Nat) : Nat := 0xF0040104 + 0x20 * k
/-- GZ_CHG.COUNT -/
def GZ_CHG_COUNT (k : Nat) : Fld := ⟨(GZ_CHG k), 18, 0⟩
/-- GZ_AUDAGE (R183) -/
def GZ_AUDAGE (k : Nat) : Nat := 0xF0040108 + 0x20 * k
/-- GZ_AUDCNT (R184) -/
def GZ_AUDCNT (k : Nat) : Nat := 0xF004010C + 0x20 * k
/-- GZ_AUDCNT.ABANDONED -/
def GZ_AUDCNT_ABANDONED (k : Nat) : Fld := ⟨(GZ_AUDCNT k), 31, 16⟩
/-- GZ_AUDCNT.DONE -/
def GZ_AUDCNT_DONE (k : Nat) : Fld := ⟨(GZ_AUDCNT k), 15, 0⟩
/-- GZ_EQ (R185) -/
def GZ_EQ (k : Nat) : Nat := 0xF0040110 + 0x20 * k
/-- GZ_EQ.FAULT -/
def GZ_EQ_FAULT (k : Nat) : Fld := ⟨(GZ_EQ k), 31, 31⟩
/-- GZ_EQ.COUNT -/
def GZ_EQ_COUNT (k : Nat) : Fld := ⟨(GZ_EQ k), 23, 16⟩
/-- GZ_EQ.SEGMENT -/
def GZ_EQ_SEGMENT (k : Nat) : Fld := ⟨(GZ_EQ k), 15, 0⟩
/-- GZ_EQADDR (R185) -/
def GZ_EQADDR (k : Nat) : Nat := 0xF0040114 + 0x20 * k
/-- GZ_FLT (R186) -/
def GZ_FLT (k : Nat) : Nat := 0xF0040118 + 0x20 * k
/-- GZ_FLT.LASTSEG -/
def GZ_FLT_LASTSEG (k : Nat) : Fld := ⟨(GZ_FLT k), 31, 16⟩
/-- GZ_FLT.COUNT -/
def GZ_FLT_COUNT (k : Nat) : Fld := ⟨(GZ_FLT k), 15, 0⟩

/-! ### PHR -/

/-- PHR_CTRL (R326) -/
def PHR_CTRL : Nat := 0xF0050000
/-- PHR_CTRL.ENUM -/
def PHR_CTRL_ENUM : Fld := ⟨PHR_CTRL, 11, 8⟩
/-- PHR_CTRL.RINGEN -/
def PHR_CTRL_RINGEN : Fld := ⟨PHR_CTRL, 3, 0⟩
/-- PHR_ETYPE (R327) -/
def PHR_ETYPE : Nat := 0xF0050004
/-- PHR_ETYPE.ETYPE -/
def PHR_ETYPE_ETYPE : Fld := ⟨PHR_ETYPE, 15, 0⟩
/-- PHR_EPOCH (R328) -/
def PHR_EPOCH : Nat := 0xF0050008
/-- PHR_TMO (R329) -/
def PHR_TMO : Nat := 0xF005000C
/-- PHR_TMO.ACYC -/
def PHR_TMO_ACYC : Fld := ⟨PHR_TMO, 31, 16⟩
/-- PHR_TMO.WRITE -/
def PHR_TMO_WRITE : Fld := ⟨PHR_TMO, 15, 0⟩
/-- PHR_LATEWIN (R330) -/
def PHR_LATEWIN : Nat := 0xF0050010
/-- PHR_LATEWIN.US -/
def PHR_LATEWIN_US : Fld := ⟨PHR_LATEWIN, 15, 0⟩
/-- PHR_STAT (R331) -/
def PHR_STAT : Nat := 0xF0050014
/-- PHR_STAT.EPOCHLOW -/
def PHR_STAT_EPOCHLOW : Fld := ⟨PHR_STAT, 16, 16⟩
/-- PHR_STAT.INUSE -/
def PHR_STAT_INUSE : Fld := ⟨PHR_STAT, 8, 0⟩
/-- PHR_STRAY (R332) -/
def PHR_STRAY : Nat := 0xF0050018
/-- PHR_SUPERSEDED (R332) -/
def PHR_SUPERSEDED : Nat := 0xF005001C
/-- PHR_TXSEL (R333) -/
def PHR_TXSEL : Nat := 0xF0050020
/-- PHR_TXSEL.TAG -/
def PHR_TXSEL_TAG : Fld := ⟨PHR_TXSEL, 7, 0⟩
/-- PHR_TXD0 (R333) -/
def PHR_TXD0 : Nat := 0xF0050024
/-- PHR_TXD0.STATE -/
def PHR_TXD0_STATE : Fld := ⟨PHR_TXD0, 31, 30⟩
/-- PHR_TXD0.TYPE -/
def PHR_TXD0_TYPE : Fld := ⟨PHR_TXD0, 29, 26⟩
/-- PHR_TXD0.RING -/
def PHR_TXD0_RING : Fld := ⟨PHR_TXD0, 25, 24⟩
/-- PHR_TXD0.STATION -/
def PHR_TXD0_STATION : Fld := ⟨PHR_TXD0, 23, 16⟩
/-- PHR_TXD0.GEN -/
def PHR_TXD0_GEN : Fld := ⟨PHR_TXD0, 15, 8⟩
/-- PHR_TXD0.UNANS -/
def PHR_TXD0_UNANS : Fld := ⟨PHR_TXD0, 7, 6⟩
/-- PHR_TXD0.TASK -/
def PHR_TXD0_TASK : Fld := ⟨PHR_TXD0, 4, 0⟩
/-- PHR_TXD1 (R333) -/
def PHR_TXD1 : Nat := 0xF0050028
/-- PHR_TXD2 (R333) -/
def PHR_TXD2 : Nat := 0xF005002C
/-- PHR_TXD3 (R333) -/
def PHR_TXD3 : Nat := 0xF0050030
/-- PHR_TXD3.LEN -/
def PHR_TXD3_LEN : Fld := ⟨PHR_TXD3, 31, 16⟩
/-- PHR_PTPCTRL (R334) -/
def PHR_PTPCTRL : Nat := 0xF0050040
/-- PHR_PTPCTRL.PRIO2 -/
def PHR_PTPCTRL_PRIO2 : Fld := ⟨PHR_PTPCTRL, 31, 24⟩
/-- PHR_PTPCTRL.PRIO1 -/
def PHR_PTPCTRL_PRIO1 : Fld := ⟨PHR_PTPCTRL, 23, 16⟩
/-- PHR_PTPCTRL.DOMAIN -/
def PHR_PTPCTRL_DOMAIN : Fld := ⟨PHR_PTPCTRL, 15, 8⟩
/-- PHR_PTPCTRL.MODE -/
def PHR_PTPCTRL_MODE : Fld := ⟨PHR_PTPCTRL, 0, 0⟩
/-- PHR_PTPSTAT (R335) -/
def PHR_PTPSTAT : Nat := 0xF0050044
/-- PHR_PTPSTAT.SLEW -/
def PHR_PTPSTAT_SLEW : Fld := ⟨PHR_PTPSTAT, 8, 8⟩
/-- PHR_PTPSTAT.STATE -/
def PHR_PTPSTAT_STATE : Fld := ⟨PHR_PTPSTAT, 2, 0⟩
/-- PHR_PTPOFFL (R335) -/
def PHR_PTPOFFL : Nat := 0xF0050048
/-- PHR_PTPOFFH (R335) -/
def PHR_PTPOFFH : Nat := 0xF005004C
/-- PHR_RCTRL (R336) -/
def PHR_RCTRL (k : Nat) : Nat := 0xF0050100 + 0x40 * k
/-- PHR_RCTRL.QUOTA -/
def PHR_RCTRL_QUOTA (k : Nat) : Fld := ⟨(PHR_RCTRL k), 23, 16⟩
/-- PHR_RCTRL.NSTN -/
def PHR_RCTRL_NSTN (k : Nat) : Fld := ⟨(PHR_RCTRL k), 15, 8⟩
/-- PHR_RCABLE (R336) -/
def PHR_RCABLE (k : Nat) : Nat := 0xF0050104 + 0x40 * k
/-- PHR_RCABLE.METRES -/
def PHR_RCABLE_METRES (k : Nat) : Fld := ⟨(PHR_RCABLE k), 23, 0⟩
/-- PHR_RSTAT (R337) -/
def PHR_RSTAT (k : Nat) : Nat := 0xF0050108 + 0x40 * k
/-- PHR_RSTAT.LINKB -/
def PHR_RSTAT_LINKB (k : Nat) : Fld := ⟨(PHR_RSTAT k), 27, 27⟩
/-- PHR_RSTAT.LINKA -/
def PHR_RSTAT_LINKA (k : Nat) : Fld := ⟨(PHR_RSTAT k), 26, 26⟩
/-- PHR_RSTAT.LOOPB -/
def PHR_RSTAT_LOOPB (k : Nat) : Fld := ⟨(PHR_RSTAT k), 25, 17⟩
/-- PHR_RSTAT.LOOPA -/
def PHR_RSTAT_LOOPA (k : Nat) : Fld := ⟨(PHR_RSTAT k), 16, 8⟩
/-- PHR_RSTAT.STATE -/
def PHR_RSTAT_STATE (k : Nat) : Fld := ⟨(PHR_RSTAT k), 2, 0⟩
/-- PHR_RLOAD (R338) -/
def PHR_RLOAD (k : Nat) : Nat := 0xF005010C + 0x40 * k
/-- PHR_RLOAD.OUTPAY -/
def PHR_RLOAD_OUTPAY (k : Nat) : Fld := ⟨(PHR_RLOAD k), 31, 16⟩
/-- PHR_RLOAD.INPAY -/
def PHR_RLOAD_INPAY (k : Nat) : Fld := ⟨(PHR_RLOAD k), 15, 0⟩
/-- PHR_RWIRE (R338) -/
def PHR_RWIRE (k : Nat) : Nat := 0xF0050110 + 0x40 * k
/-- PHR_RWIRE.WIRE -/
def PHR_RWIRE_WIRE (k : Nat) : Fld := ⟨(PHR_RWIRE k), 16, 0⟩
/-- PHR_RFCSA (R339) -/
def PHR_RFCSA (k : Nat) : Nat := 0xF0050114 + 0x40 * k
/-- PHR_RFCSB (R339) -/
def PHR_RFCSB (k : Nat) : Nat := 0xF0050118 + 0x40 * k
/-- PHR_RTMO (R339) -/
def PHR_RTMO (k : Nat) : Nat := 0xF005011C + 0x40 * k
/-- PHR_RINUSE (R339) -/
def PHR_RINUSE (k : Nat) : Nat := 0xF0050120 + 0x40 * k
/-- PHR_RINUSE.COUNT -/
def PHR_RINUSE_COUNT (k : Nat) : Fld := ⟨(PHR_RINUSE k), 7, 0⟩

/-! ### LPE -/

/-- LPE_CTRL (R380) -/
def LPE_CTRL : Nat := 0xF0060000
/-- LPE_CTRL.EN -/
def LPE_CTRL_EN : Fld := ⟨LPE_CTRL, 0, 0⟩
/-- LPE_STAT (R381) -/
def LPE_STAT : Nat := 0xF0060004
/-- LPE_STAT.ACTIVE -/
def LPE_STAT_ACTIVE : Fld := ⟨LPE_STAT, 28, 16⟩
/-- LPE_STAT.LOAD -/
def LPE_STAT_LOAD : Fld := ⟨LPE_STAT, 9, 0⟩
/-- LPE_MAXLAT (R382) -/
def LPE_MAXLAT : Nat := 0xF0060008
/-- LPE_EXECS (R382) -/
def LPE_EXECS : Nat := 0xF006000C
/-- LPE_SKIP (R382) -/
def LPE_SKIP : Nat := 0xF0060010
/-- LPE_RSEL (R383) -/
def LPE_RSEL : Nat := 0xF0060020
/-- LPE_RSEL.LOOP -/
def LPE_RSEL_LOOP : Fld := ⟨LPE_RSEL, 11, 0⟩
/-- LPE_RWORD (R383) -/
def LPE_RWORD (k : Nat) : Nat := 0xF0060100 + 0x4 * k
/-- LPE_ALMPEND (R384) -/
def LPE_ALMPEND (k : Nat) : Nat := 0xF0060400 + 0x4 * k

/-! ### NRG -/

/-- NRG_CTRL (R420) -/
def NRG_CTRL : Nat := 0xF0070000
/-- NRG_CTRL.SLACK -/
def NRG_CTRL_SLACK : Fld := ⟨NRG_CTRL, 23, 16⟩
/-- NRG_CTRL.IDLECODE -/
def NRG_CTRL_IDLECODE : Fld := ⟨NRG_CTRL, 15, 8⟩
/-- NRG_CTRL.EN -/
def NRG_CTRL_EN : Fld := ⟨NRG_CTRL, 0, 0⟩
/-- NRG_ALLOW (R421) -/
def NRG_ALLOW : Nat := 0xF0070004
/-- NRG_ALLOW.MW -/
def NRG_ALLOW_MW : Fld := ⟨NRG_ALLOW, 14, 0⟩
/-- NRG_CAP (R421) -/
def NRG_CAP : Nat := 0xF0070008
/-- NRG_CAP.MJ -/
def NRG_CAP_MJ : Fld := ⟨NRG_CAP, 13, 0⟩
/-- NRG_RES3 (R421) -/
def NRG_RES3 : Nat := 0xF007000C
/-- NRG_RES3.MJ -/
def NRG_RES3_MJ : Fld := ⟨NRG_RES3, 13, 0⟩
/-- NRG_BAL (R422) -/
def NRG_BAL : Nat := 0xF0070010
/-- NRG_STAT (R422) -/
def NRG_STAT : Nat := 0xF0070014
/-- NRG_STAT.SHED -/
def NRG_STAT_SHED : Fld := ⟨NRG_STAT, 9, 8⟩
/-- NRG_STAT.LIMITSEEN -/
def NRG_STAT_LIMITSEEN : Fld := ⟨NRG_STAT, 4, 4⟩
/-- NRG_STAT.OVERSEEN -/
def NRG_STAT_OVERSEEN : Fld := ⟨NRG_STAT, 3, 3⟩
/-- NRG_STAT.OVER -/
def NRG_STAT_OVER : Fld := ⟨NRG_STAT, 2, 2⟩
/-- NRG_STAT.LIMITING -/
def NRG_STAT_LIMITING : Fld := ⟨NRG_STAT, 1, 1⟩
/-- NRG_DEFICIT (R422) -/
def NRG_DEFICIT : Nat := 0xF0070018
/-- NRG_INEL (R423) -/
def NRG_INEL : Nat := 0xF0070020
/-- NRG_INEH (R423) -/
def NRG_INEH : Nat := 0xF0070024
/-- NRG_INPWR (R423) -/
def NRG_INPWR : Nat := 0xF0070028
/-- NRG_INPWR.MW -/
def NRG_INPWR_MW : Fld := ⟨NRG_INPWR, 15, 0⟩
/-- NRG_TJ (R423) -/
def NRG_TJ : Nat := 0xF007002C
/-- NRG_TJ.TJMAX -/
def NRG_TJ_TJMAX : Fld := ⟨NRG_TJ, 31, 16⟩
/-- NRG_TJ.TJ -/
def NRG_TJ_TJ : Fld := ⟨NRG_TJ, 15, 0⟩
/-- NRG_CORETEMP (R423) -/
def NRG_CORETEMP : Nat := 0xF0070030
/-- NRG_CORETEMP.TEMP -/
def NRG_CORETEMP_TEMP : Fld := ⟨NRG_CORETEMP, 15, 0⟩
/-- NRG_SCRUB (R424) -/
def NRG_SCRUB : Nat := 0xF0070034
/-- NRG_SCRUB.HOURS -/
def NRG_SCRUB_HOURS : Fld := ⟨NRG_SCRUB, 4, 0⟩
/-- NRG_SCRUBSTAT (R424) -/
def NRG_SCRUBSTAT : Nat := 0xF0070038
/-- NRG_SCRUBSTAT.AGE -/
def NRG_SCRUBSTAT_AGE : Fld := ⟨NRG_SCRUBSTAT, 31, 16⟩
/-- NRG_SCRUBSTAT.PROGRESS -/
def NRG_SCRUBSTAT_PROGRESS : Fld := ⟨NRG_SCRUBSTAT, 9, 0⟩
/-- NRG_FORCED (R424) -/
def NRG_FORCED : Nat := 0xF007003C
/-- NRG_FORCED.SCRUB -/
def NRG_FORCED_SCRUB : Fld := ⟨NRG_FORCED, 31, 16⟩
/-- NRG_FORCED.AUDIT -/
def NRG_FORCED_AUDIT : Fld := ⟨NRG_FORCED, 15, 0⟩
/-- NRG_TSEL (R425) -/
def NRG_TSEL : Nat := 0xF0070040
/-- NRG_TSEL.TASK -/
def NRG_TSEL_TASK : Fld := ⟨NRG_TSEL, 4, 0⟩
/-- NRG_TDEM (R425) -/
def NRG_TDEM (k : Nat) : Nat := 0xF0070044 + 0x4 * k
/-- NRG_TFULL (R425) -/
def NRG_TFULL (k : Nat) : Nat := 0xF0070054 + 0x4 * k
/-- NRG_ISLCTRL (R426) -/
def NRG_ISLCTRL (k : Nat) : Nat := 0xF0070100 + 0x20 * k
/-- NRG_ISLCTRL.FIX -/
def NRG_ISLCTRL_FIX (k : Nat) : Fld := ⟨(NRG_ISLCTRL k), 7, 7⟩
/-- NRG_ISLCTRL.FIXCODE -/
def NRG_ISLCTRL_FIXCODE (k : Nat) : Fld := ⟨(NRG_ISLCTRL k), 6, 0⟩
/-- NRG_ISLSTAT (R427) -/
def NRG_ISLSTAT (k : Nat) : Nat := 0xF0070104 + 0x20 * k
/-- NRG_ISLSTAT.CODE -/
def NRG_ISLSTAT_CODE (k : Nat) : Fld := ⟨(NRG_ISLSTAT k), 22, 16⟩
/-- NRG_ISLSTAT.PACE -/
def NRG_ISLSTAT_PACE (k : Nat) : Fld := ⟨(NRG_ISLSTAT k), 15, 0⟩
/-- NRG_ISLEL (R427) -/
def NRG_ISLEL (k : Nat) : Nat := 0xF0070108 + 0x20 * k
/-- NRG_ISLEH (R427) -/
def NRG_ISLEH (k : Nat) : Nat := 0xF007010C + 0x20 * k
/-- NRG_ISLPWR (R427) -/
def NRG_ISLPWR (k : Nat) : Nat := 0xF0070110 + 0x20 * k
/-- NRG_ISLPWR.MW -/
def NRG_ISLPWR_MW (k : Nat) : Fld := ⟨(NRG_ISLPWR k), 15, 0⟩
/-- NRG_ISLTEMP (R427) -/
def NRG_ISLTEMP (k : Nat) : Nat := 0xF0070114 + 0x20 * k
/-- NRG_ISLTEMP.TEMP -/
def NRG_ISLTEMP_TEMP (k : Nat) : Fld := ⟨(NRG_ISLTEMP k), 15, 0⟩

/-! ### HSB -/

/-- HSB_CTRL (R474) -/
def HSB_CTRL : Nat := 0xF0080000
/-- HSB_CTRL.AUTORESYNC -/
def HSB_CTRL_AUTORESYNC : Fld := ⟨HSB_CTRL, 8, 8⟩
/-- HSB_CTRL.MAINT -/
def HSB_CTRL_MAINT : Fld := ⟨HSB_CTRL, 2, 2⟩
/-- HSB_CTRL.UNIT -/
def HSB_CTRL_UNIT : Fld := ⟨HSB_CTRL, 1, 0⟩
/-- HSB_CMD (R475) -/
def HSB_CMD : Nat := 0xF0080004
/-- HSB_CMD.FAIL -/
def HSB_CMD_FAIL : Fld := ⟨HSB_CMD, 2, 2⟩
/-- HSB_CMD.RESYNC -/
def HSB_CMD_RESYNC : Fld := ⟨HSB_CMD, 1, 1⟩
/-- HSB_CMD.SWITCH -/
def HSB_CMD_SWITCH : Fld := ⟨HSB_CMD, 0, 0⟩
/-- HSB_STAT (R476) -/
def HSB_STAT : Nat := 0xF0080008
/-- HSB_STAT.PROLE -/
def HSB_STAT_PROLE : Fld := ⟨HSB_STAT, 31, 28⟩
/-- HSB_STAT.LOST485 -/
def HSB_STAT_LOST485 : Fld := ⟨HSB_STAT, 17, 17⟩
/-- HSB_STAT.LOSTSL -/
def HSB_STAT_LOSTSL : Fld := ⟨HSB_STAT, 16, 16⟩
/-- HSB_STAT.NOTICE -/
def HSB_STAT_NOTICE : Fld := ⟨HSB_STAT, 15, 8⟩
/-- HSB_STAT.HANDOVER -/
def HSB_STAT_HANDOVER : Fld := ⟨HSB_STAT, 7, 7⟩
/-- HSB_STAT.ROLE -/
def HSB_STAT_ROLE : Fld := ⟨HSB_STAT, 3, 0⟩
/-- HSB_EPSTORE (R477) -/
def HSB_EPSTORE : Nat := 0xF008000C
/-- HSB_DLOAD (R477) -/
def HSB_DLOAD : Nat := 0xF0080010
/-- HSB_DLOAD.BYTES -/
def HSB_DLOAD_BYTES : Fld := ⟨HSB_DLOAD, 18, 0⟩
/-- HSB_DWORST (R477) -/
def HSB_DWORST : Nat := 0xF0080014
/-- HSB_DWORST.BYTES -/
def HSB_DWORST_BYTES : Fld := ⟨HSB_DWORST, 18, 0⟩
/-- HSB_DIGERR (R477) -/
def HSB_DIGERR : Nat := 0xF0080018
/-- HSB_ACKLATE (R477) -/
def HSB_ACKLATE : Nat := 0xF008001C
/-- HSB_SWCNT (R477) -/
def HSB_SWCNT : Nat := 0xF0080020
/-- HSB_SWCNT.TAKEOVER -/
def HSB_SWCNT_TAKEOVER : Fld := ⟨HSB_SWCNT, 31, 16⟩
/-- HSB_SWCNT.PLANNED -/
def HSB_SWCNT_PLANNED : Fld := ⟨HSB_SWCNT, 15, 0⟩
/-- HSB_SWTL (R477) -/
def HSB_SWTL : Nat := 0xF0080024
/-- HSB_SWTH (R477) -/
def HSB_SWTH : Nat := 0xF0080028
/-- HSB_TOFF (R477) -/
def HSB_TOFF : Nat := 0xF008002C
/-- HSB_HBMISS (R477) -/
def HSB_HBMISS : Nat := 0xF0080030
/-- HSB_HBMISS.RS485 -/
def HSB_HBMISS_RS485 : Fld := ⟨HSB_HBMISS, 31, 16⟩
/-- HSB_HBMISS.SL -/
def HSB_HBMISS_SL : Fld := ⟨HSB_HBMISS, 15, 0⟩
/-- HSB_FEEDA (R478) -/
def HSB_FEEDA : Nat := 0xF0080040
/-- HSB_FEEDA.STATE -/
def HSB_FEEDA_STATE : Fld := ⟨HSB_FEEDA, 31, 30⟩
/-- HSB_FEEDA.CURRENT -/
def HSB_FEEDA_CURRENT : Fld := ⟨HSB_FEEDA, 25, 16⟩
/-- HSB_FEEDA.MV -/
def HSB_FEEDA_MV : Fld := ⟨HSB_FEEDA, 15, 0⟩
/-- HSB_FEEDB (R478) -/
def HSB_FEEDB : Nat := 0xF0080044
/-- HSB_FEEDB.STATE -/
def HSB_FEEDB_STATE : Fld := ⟨HSB_FEEDB, 31, 30⟩
/-- HSB_FEEDB.CURRENT -/
def HSB_FEEDB_CURRENT : Fld := ⟨HSB_FEEDB, 25, 16⟩
/-- HSB_FEEDB.MV -/
def HSB_FEEDB_MV : Fld := ⟨HSB_FEEDB, 15, 0⟩
/-- HSB_PWR (R478) -/
def HSB_PWR : Nat := 0xF0080048
/-- HSB_PWR.PFWSEEN -/
def HSB_PWR_PFWSEEN : Fld := ⟨HSB_PWR, 1, 1⟩
/-- HSB_PWR.PFW -/
def HSB_PWR_PFW : Fld := ⟨HSB_PWR, 0, 0⟩

/-! ### JRN -/

/-- JRN_CTRL (R516) -/
def JRN_CTRL : Nat := 0xF0090000
/-- JRN_CTRL.OBSOPEN -/
def JRN_CTRL_OBSOPEN : Fld := ⟨JRN_CTRL, 1, 1⟩
/-- JRN_CTRL.EN -/
def JRN_CTRL_EN : Fld := ⟨JRN_CTRL, 0, 0⟩
/-- JRN_STAT (R517) -/
def JRN_STAT : Nat := 0xF0090004
/-- JRN_STAT.SESSIONS -/
def JRN_STAT_SESSIONS : Fld := ⟨JRN_STAT, 31, 28⟩
/-- JRN_STAT.INFLIGHT -/
def JRN_STAT_INFLIGHT : Fld := ⟨JRN_STAT, 22, 16⟩
/-- JRN_STAT.FWQ -/
def JRN_STAT_FWQ : Fld := ⟨JRN_STAT, 14, 8⟩
/-- JRN_STAT.PHASE -/
def JRN_STAT_PHASE : Fld := ⟨JRN_STAT, 1, 0⟩
/-- JRN_BUSYCNT (R518) -/
def JRN_BUSYCNT : Nat := 0xF0090008
/-- JRN_AUTHFAIL (R518) -/
def JRN_AUTHFAIL : Nat := 0xF009000C
/-- JRN_DISCARD (R518) -/
def JRN_DISCARD : Nat := 0xF0090010
/-- JRN_FWNEXT (R519) -/
def JRN_FWNEXT : Nat := 0xF0090020
/-- JRN_FWNEXT.VALID -/
def JRN_FWNEXT_VALID : Fld := ⟨JRN_FWNEXT, 31, 31⟩
/-- JRN_FWNEXT.SLOT -/
def JRN_FWNEXT_SLOT : Fld := ⟨JRN_FWNEXT, 5, 0⟩
/-- JRN_SLOTSEL (R519) -/
def JRN_SLOTSEL : Nat := 0xF0090024
/-- JRN_SLOTSEL.SLOT -/
def JRN_SLOTSEL_SLOT : Fld := ⟨JRN_SLOTSEL, 5, 0⟩
/-- JRN_SLOTINFO (R519) -/
def JRN_SLOTINFO : Nat := 0xF0090028
/-- JRN_SLOTINFO.CARRIER -/
def JRN_SLOTINFO_CARRIER : Fld := ⟨JRN_SLOTINFO, 31, 30⟩
/-- JRN_SLOTINFO.ROLE -/
def JRN_SLOTINFO_ROLE : Fld := ⟨JRN_SLOTINFO, 29, 27⟩
/-- JRN_SLOTINFO.SOURCE -/
def JRN_SLOTINFO_SOURCE : Fld := ⟨JRN_SLOTINFO, 7, 0⟩
/-- JRN_DONE (R519) -/
def JRN_DONE : Nat := 0xF009002C
/-- JRN_DONE.SEND -/
def JRN_DONE_SEND : Fld := ⟨JRN_DONE, 0, 0⟩
/-- JRN_MSG (R519) -/
def JRN_MSG (k : Nat) : Nat := 0xF0090400 + 0x4 * k

/-! ### DIO -/

/-- DIO_FCTRL (R561) -/
def DIO_FCTRL : Nat := 0xF00A0000
/-- DIO_FCTRL.SILENCE -/
def DIO_FCTRL_SILENCE : Fld := ⟨DIO_FCTRL, 25, 16⟩
/-- DIO_FSTAT (R562) -/
def DIO_FSTAT : Nat := 0xF00A0004
/-- DIO_FSTAT.VFHIGH -/
def DIO_FSTAT_VFHIGH : Fld := ⟨DIO_FSTAT, 11, 11⟩
/-- DIO_FSTAT.VFLOW -/
def DIO_FSTAT_VFLOW : Fld := ⟨DIO_FSTAT, 10, 10⟩
/-- DIO_FSTAT.VFLOWSEEN -/
def DIO_FSTAT_VFLOWSEEN : Fld := ⟨DIO_FSTAT, 9, 9⟩
/-- DIO_FSTAT.SILENTSEEN -/
def DIO_FSTAT_SILENTSEEN : Fld := ⟨DIO_FSTAT, 8, 8⟩
/-- DIO_FSTAT.STATE -/
def DIO_FSTAT_STATE : Fld := ⟨DIO_FSTAT, 2, 0⟩
/-- DIO_FCMD (R563) -/
def DIO_FCMD : Nat := 0xF00A0008
/-- DIO_FCMD.RELEASE -/
def DIO_FCMD_RELEASE : Fld := ⟨DIO_FCMD, 1, 1⟩
/-- DIO_FCMD.SAFE -/
def DIO_FCMD_SAFE : Fld := ⟨DIO_FCMD, 0, 0⟩
/-- DIO_VFIELD (R563) -/
def DIO_VFIELD : Nat := 0xF00A000C
/-- DIO_VFIELD.MV -/
def DIO_VFIELD_MV : Fld := ⟨DIO_VFIELD, 15, 0⟩
/-- DIO_IN (R564) -/
def DIO_IN : Nat := 0xF00A0010
/-- DIO_OUT (R564) -/
def DIO_OUT : Nat := 0xF00A0014
/-- DIO_FLT (R564) -/
def DIO_FLT : Nat := 0xF00A0018
/-- DIO_OWNSEL (R565) -/
def DIO_OWNSEL : Nat := 0xF00A0020
/-- DIO_OWNSEL.RES -/
def DIO_OWNSEL_RES : Fld := ⟨DIO_OWNSEL, 6, 0⟩
/-- DIO_OWNER (R565) -/
def DIO_OWNER : Nat := 0xF00A0024
/-- DIO_OWNER.OWNER -/
def DIO_OWNER_OWNER : Fld := ⟨DIO_OWNER, 31, 28⟩
/-- DIO_OWNER.TASK -/
def DIO_OWNER_TASK : Fld := ⟨DIO_OWNER, 4, 0⟩
/-- DIO_CFG (R566) -/
def DIO_CFG (k : Nat) : Nat := 0xF00A0100 + 0x20 * k
/-- DIO_CFG.OWDET -/
def DIO_CFG_OWDET (k : Nat) : Fld := ⟨(DIO_CFG k), 16, 16⟩
/-- DIO_CFG.EVPOL -/
def DIO_CFG_EVPOL (k : Nat) : Fld := ⟨(DIO_CFG k), 15, 14⟩
/-- DIO_CFG.SAFE -/
def DIO_CFG_SAFE (k : Nat) : Fld := ⟨(DIO_CFG k), 13, 12⟩
/-- DIO_CFG.OUTEN -/
def DIO_CFG_OUTEN (k : Nat) : Fld := ⟨(DIO_CFG k), 11, 11⟩
/-- DIO_CFG.TASK -/
def DIO_CFG_TASK (k : Nat) : Fld := ⟨(DIO_CFG k), 7, 3⟩
/-- DIO_CFG.MODE -/
def DIO_CFG_MODE (k : Nat) : Fld := ⟨(DIO_CFG k), 2, 0⟩
/-- DIO_DEB (R567) -/
def DIO_DEB (k : Nat) : Nat := 0xF00A0104 + 0x20 * k
/-- DIO_DEB.US -/
def DIO_DEB_US (k : Nat) : Fld := ⟨(DIO_DEB k), 15, 0⟩
/-- DIO_MAP (R567) -/
def DIO_MAP (k : Nat) : Nat := 0xF00A0108 + 0x20 * k
/-- DIO_RBMAP (R567) -/
def DIO_RBMAP (k : Nat) : Nat := 0xF00A010C + 0x20 * k
/-- DIO_DIAG (R568) -/
def DIO_DIAG (k : Nat) : Nat := 0xF00A0110 + 0x20 * k
/-- DIO_DIAG.LATCHED -/
def DIO_DIAG_LATCHED (k : Nat) : Fld := ⟨(DIO_DIAG k), 12, 8⟩
/-- DIO_DIAG.LIVE -/
def DIO_DIAG_LIVE (k : Nat) : Fld := ⟨(DIO_DIAG k), 4, 0⟩
/-- DIO_ENCCTRL (R569) -/
def DIO_ENCCTRL (k : Nat) : Nat := 0xF00A0800 + 0x10 * k
/-- DIO_ENCCTRL.EN -/
def DIO_ENCCTRL_EN (k : Nat) : Fld := ⟨(DIO_ENCCTRL k), 0, 0⟩
/-- DIO_ENCCNT (R569) -/
def DIO_ENCCNT (k : Nat) : Nat := 0xF00A0804 + 0x10 * k
/-- DIO_ENCMAP (R569) -/
def DIO_ENCMAP (k : Nat) : Nat := 0xF00A0808 + 0x10 * k
/-- DIO_ENCERR (R569) -/
def DIO_ENCERR (k : Nat) : Nat := 0xF00A080C + 0x10 * k

/-! ### AIO -/

/-- AIO_STAT (R570) -/
def AIO_STAT : Nat := 0xF00B0000
/-- AIO_STAT.FAULT -/
def AIO_STAT_FAULT : Fld := ⟨AIO_STAT, 15, 8⟩
/-- AIO_STAT.ALARM -/
def AIO_STAT_ALARM : Fld := ⟨AIO_STAT, 7, 0⟩
/-- AIO_TRIM (R570) -/
def AIO_TRIM : Nat := 0xF00B0004
/-- AIO_TRIM.EN -/
def AIO_TRIM_EN : Fld := ⟨AIO_TRIM, 31, 31⟩
/-- AIO_TRIM.TARGET -/
def AIO_TRIM_TARGET : Fld := ⟨AIO_TRIM, 18, 16⟩
/-- AIO_TRIM.SBTN -/
def AIO_TRIM_SBTN : Fld := ⟨AIO_TRIM, 12, 8⟩
/-- AIO_TRIM.ZBTN -/
def AIO_TRIM_ZBTN : Fld := ⟨AIO_TRIM, 4, 0⟩
/-- AIO_CFG (R571) -/
def AIO_CFG (k : Nat) : Nat := 0xF00B0100 + 0x40 * k
/-- AIO_CFG.TASK -/
def AIO_CFG_TASK (k : Nat) : Fld := ⟨(AIO_CFG k), 11, 7⟩
/-- AIO_CFG.OUTEN -/
def AIO_CFG_OUTEN (k : Nat) : Fld := ⟨(AIO_CFG k), 6, 6⟩
/-- AIO_CFG.SAFE -/
def AIO_CFG_SAFE (k : Nat) : Fld := ⟨(AIO_CFG k), 5, 4⟩
/-- AIO_CFG.ALMDIR -/
def AIO_CFG_ALMDIR (k : Nat) : Fld := ⟨(AIO_CFG k), 3, 3⟩
/-- AIO_CFG.MODE -/
def AIO_CFG_MODE (k : Nat) : Fld := ⟨(AIO_CFG k), 2, 0⟩
/-- AIO_FILT (R572) -/
def AIO_FILT (k : Nat) : Nat := 0xF00B0104 + 0x40 * k
/-- AIO_FILT.WIN -/
def AIO_FILT_WIN (k : Nat) : Fld := ⟨(AIO_FILT k), 9, 0⟩
/-- AIO_MAP (R572) -/
def AIO_MAP (k : Nat) : Nat := 0xF00B0108 + 0x40 * k
/-- AIO_RBMAP (R572) -/
def AIO_RBMAP (k : Nat) : Nat := 0xF00B010C + 0x40 * k
/-- AIO_SAFE (R572) -/
def AIO_SAFE (k : Nat) : Nat := 0xF00B0110 + 0x40 * k
/-- AIO_SAFE.UA -/
def AIO_SAFE_UA (k : Nat) : Fld := ⟨(AIO_SAFE k), 14, 0⟩
/-- AIO_MEAS (R573) -/
def AIO_MEAS (k : Nat) : Nat := 0xF00B0114 + 0x40 * k
/-- AIO_CMD (R573) -/
def AIO_CMD (k : Nat) : Nat := 0xF00B0118 + 0x40 * k
/-- AIO_DIAG (R573) -/
def AIO_DIAG (k : Nat) : Nat := 0xF00B011C + 0x40 * k
/-- AIO_DIAG.LATCHED -/
def AIO_DIAG_LATCHED (k : Nat) : Fld := ⟨(AIO_DIAG k), 15, 8⟩
/-- AIO_DIAG.LIVE -/
def AIO_DIAG_LIVE (k : Nat) : Fld := ⟨(AIO_DIAG k), 7, 0⟩
/-- AIO_RAW (R573) -/
def AIO_RAW (k : Nat) : Nat := 0xF00B0120 + 0x40 * k

/-! ### CAN0, CAN1 (controller m) -/

/-- CAN_CTRL (R590) -/
def CAN_CTRL (m : Nat) : Nat := 0xF00C0000 + 0x10000 * m
/-- CAN_CTRL.BADCFG -/
def CAN_CTRL_BADCFG (m : Nat) : Fld := ⟨(CAN_CTRL m), 8, 8⟩
/-- CAN_CTRL.RECOV -/
def CAN_CTRL_RECOV (m : Nat) : Fld := ⟨(CAN_CTRL m), 7, 7⟩
/-- CAN_CTRL.TXORD -/
def CAN_CTRL_TXORD (m : Nat) : Fld := ⟨(CAN_CTRL m), 5, 5⟩
/-- CAN_CTRL.MODE -/
def CAN_CTRL_MODE (m : Nat) : Fld := ⟨(CAN_CTRL m), 4, 3⟩
/-- CAN_CTRL.FDEN -/
def CAN_CTRL_FDEN (m : Nat) : Fld := ⟨(CAN_CTRL m), 2, 2⟩
/-- CAN_CTRL.EN -/
def CAN_CTRL_EN (m : Nat) : Fld := ⟨(CAN_CTRL m), 0, 0⟩
/-- CAN_NBT (R591) -/
def CAN_NBT (m : Nat) : Nat := 0xF00C0004 + 0x10000 * m
/-- CAN_NBT.NTSEG1 -/
def CAN_NBT_NTSEG1 (m : Nat) : Fld := ⟨(CAN_NBT m), 31, 24⟩
/-- CAN_NBT.NTSEG2 -/
def CAN_NBT_NTSEG2 (m : Nat) : Fld := ⟨(CAN_NBT m), 23, 17⟩
/-- CAN_NBT.NSJW -/
def CAN_NBT_NSJW (m : Nat) : Fld := ⟨(CAN_NBT m), 16, 10⟩
/-- CAN_NBT.NBRP -/
def CAN_NBT_NBRP (m : Nat) : Fld := ⟨(CAN_NBT m), 4, 0⟩
/-- CAN_DBT (R591) -/
def CAN_DBT (m : Nat) : Nat := 0xF00C0008 + 0x10000 * m
/-- CAN_DBT.DTSEG1 -/
def CAN_DBT_DTSEG1 (m : Nat) : Fld := ⟨(CAN_DBT m), 28, 24⟩
/-- CAN_DBT.DTSEG2 -/
def CAN_DBT_DTSEG2 (m : Nat) : Fld := ⟨(CAN_DBT m), 23, 20⟩
/-- CAN_DBT.DSJW -/
def CAN_DBT_DSJW (m : Nat) : Fld := ⟨(CAN_DBT m), 19, 16⟩
/-- CAN_DBT.DBRP -/
def CAN_DBT_DBRP (m : Nat) : Fld := ⟨(CAN_DBT m), 4, 0⟩
/-- CAN_TDC (R591) -/
def CAN_TDC (m : Nat) : Nat := 0xF00C000C + 0x10000 * m
/-- CAN_TDC.TDCEN -/
def CAN_TDC_TDCEN (m : Nat) : Fld := ⟨(CAN_TDC m), 15, 15⟩
/-- CAN_TDC.TDCO -/
def CAN_TDC_TDCO (m : Nat) : Fld := ⟨(CAN_TDC m), 14, 8⟩
/-- CAN_TDC.TDCV -/
def CAN_TDC_TDCV (m : Nat) : Fld := ⟨(CAN_TDC m), 6, 0⟩
/-- CAN_STAT (R592) -/
def CAN_STAT (m : Nat) : Nat := 0xF00C0010 + 0x10000 * m
/-- CAN_STAT.STATE -/
def CAN_STAT_STATE (m : Nat) : Fld := ⟨(CAN_STAT m), 27, 25⟩
/-- CAN_STAT.TEC -/
def CAN_STAT_TEC (m : Nat) : Fld := ⟨(CAN_STAT m), 24, 16⟩
/-- CAN_STAT.REC -/
def CAN_STAT_REC (m : Nat) : Fld := ⟨(CAN_STAT m), 15, 8⟩
/-- CAN_ERR (R592) -/
def CAN_ERR (m : Nat) : Nat := 0xF00C0014 + 0x10000 * m
/-- CAN_ERR.COUNT -/
def CAN_ERR_COUNT (m : Nat) : Fld := ⟨(CAN_ERR m), 31, 16⟩
/-- CAN_ERR.DPHASE -/
def CAN_ERR_DPHASE (m : Nat) : Fld := ⟨(CAN_ERR m), 7, 7⟩
/-- CAN_ERR.LEC -/
def CAN_ERR_LEC (m : Nat) : Fld := ⟨(CAN_ERR m), 2, 0⟩
/-- CAN_RXOVF (R592) -/
def CAN_RXOVF (m : Nat) : Nat := 0xF00C0018 + 0x10000 * m
/-- CAN_EVT (R593) -/
def CAN_EVT (m : Nat) : Nat := 0xF00C001C + 0x10000 * m
/-- CAN_EVT.BUSOFF -/
def CAN_EVT_BUSOFF (m : Nat) : Fld := ⟨(CAN_EVT m), 7, 7⟩
/-- CAN_EVT.NOPARTNER -/
def CAN_EVT_NOPARTNER (m : Nat) : Fld := ⟨(CAN_EVT m), 6, 6⟩
/-- CAN_EVT.STATECHG -/
def CAN_EVT_STATECHG (m : Nat) : Fld := ⟨(CAN_EVT m), 5, 5⟩
/-- CAN_EVT.TXDONE -/
def CAN_EVT_TXDONE (m : Nat) : Fld := ⟨(CAN_EVT m), 4, 2⟩
/-- CAN_EVT.RXOVF -/
def CAN_EVT_RXOVF (m : Nat) : Fld := ⟨(CAN_EVT m), 1, 1⟩
/-- CAN_EVT.RXNEW -/
def CAN_EVT_RXNEW (m : Nat) : Fld := ⟨(CAN_EVT m), 0, 0⟩
/-- CAN_EVTEN (R593) -/
def CAN_EVTEN (m : Nat) : Nat := 0xF00C0020 + 0x10000 * m
/-- CAN_EVTEN.BUSOFF -/
def CAN_EVTEN_BUSOFF (m : Nat) : Fld := ⟨(CAN_EVTEN m), 7, 7⟩
/-- CAN_EVTEN.NOPARTNER -/
def CAN_EVTEN_NOPARTNER (m : Nat) : Fld := ⟨(CAN_EVTEN m), 6, 6⟩
/-- CAN_EVTEN.STATECHG -/
def CAN_EVTEN_STATECHG (m : Nat) : Fld := ⟨(CAN_EVTEN m), 5, 5⟩
/-- CAN_EVTEN.TXDONE -/
def CAN_EVTEN_TXDONE (m : Nat) : Fld := ⟨(CAN_EVTEN m), 4, 2⟩
/-- CAN_EVTEN.RXOVF -/
def CAN_EVTEN_RXOVF (m : Nat) : Fld := ⟨(CAN_EVTEN m), 1, 1⟩
/-- CAN_EVTEN.RXNEW -/
def CAN_EVTEN_RXNEW (m : Nat) : Fld := ⟨(CAN_EVTEN m), 0, 0⟩
/-- CAN_TXCTRL (R594) -/
def CAN_TXCTRL (m b : Nat) : Nat := canBuf m b + 0x0
/-- CAN_TXCTRL.SINGLE -/
def CAN_TXCTRL_SINGLE (m b : Nat) : Fld := ⟨(CAN_TXCTRL m b), 11, 11⟩
/-- CAN_TXCTRL.ABORT -/
def CAN_TXCTRL_ABORT (m b : Nat) : Fld := ⟨(CAN_TXCTRL m b), 10, 10⟩
/-- CAN_TXCTRL.REQ -/
def CAN_TXCTRL_REQ (m b : Nat) : Fld := ⟨(CAN_TXCTRL m b), 9, 9⟩
/-- CAN_TXCTRL.DLC -/
def CAN_TXCTRL_DLC (m b : Nat) : Fld := ⟨(CAN_TXCTRL m b), 3, 0⟩
/-- CAN_TXID (R594) -/
def CAN_TXID (m b : Nat) : Nat := canBuf m b + 0x4
/-- CAN_TXID.IDE -/
def CAN_TXID_IDE (m b : Nat) : Fld := ⟨(CAN_TXID m b), 31, 31⟩
/-- CAN_TXID.FDF -/
def CAN_TXID_FDF (m b : Nat) : Fld := ⟨(CAN_TXID m b), 30, 30⟩
/-- CAN_TXID.BRS -/
def CAN_TXID_BRS (m b : Nat) : Fld := ⟨(CAN_TXID m b), 29, 29⟩
/-- CAN_TXID.ID -/
def CAN_TXID_ID (m b : Nat) : Fld := ⟨(CAN_TXID m b), 28, 0⟩
/-- CAN_TXSTAT (R594) -/
def CAN_TXSTAT (m b : Nat) : Nat := canBuf m b + 0x8
/-- CAN_TXSTAT.NACK -/
def CAN_TXSTAT_NACK (m b : Nat) : Fld := ⟨(CAN_TXSTAT m b), 31, 24⟩
/-- CAN_TXSTAT.ATTEMPTS -/
def CAN_TXSTAT_ATTEMPTS (m b : Nat) : Fld := ⟨(CAN_TXSTAT m b), 23, 16⟩
/-- CAN_TXSTAT.RESULT -/
def CAN_TXSTAT_RESULT (m b : Nat) : Fld := ⟨(CAN_TXSTAT m b), 2, 0⟩
/-- CAN_TXDATA (R594) -/
def CAN_TXDATA (m b w : Nat) : Nat := canBuf m b + 0x10 + 4 * w
/-- CAN_RXCNT (R595) -/
def CAN_RXCNT (m : Nat) : Nat := 0xF00C0200 + 0x10000 * m
/-- CAN_RXCNT.COUNT -/
def CAN_RXCNT_COUNT (m : Nat) : Fld := ⟨(CAN_RXCNT m), 5, 0⟩
/-- CAN_RXID (R595) -/
def CAN_RXID (m : Nat) : Nat := 0xF00C0204 + 0x10000 * m
/-- CAN_RXID.IDE -/
def CAN_RXID_IDE (m : Nat) : Fld := ⟨(CAN_RXID m), 31, 31⟩
/-- CAN_RXID.ID -/
def CAN_RXID_ID (m : Nat) : Fld := ⟨(CAN_RXID m), 28, 0⟩
/-- CAN_RXINFO (R595) -/
def CAN_RXINFO (m : Nat) : Nat := 0xF00C0208 + 0x10000 * m
/-- CAN_RXINFO.FDF -/
def CAN_RXINFO_FDF (m : Nat) : Fld := ⟨(CAN_RXINFO m), 31, 31⟩
/-- CAN_RXINFO.BRS -/
def CAN_RXINFO_BRS (m : Nat) : Fld := ⟨(CAN_RXINFO m), 30, 30⟩
/-- CAN_RXINFO.ESI -/
def CAN_RXINFO_ESI (m : Nat) : Fld := ⟨(CAN_RXINFO m), 29, 29⟩
/-- CAN_RXINFO.RTR -/
def CAN_RXINFO_RTR (m : Nat) : Fld := ⟨(CAN_RXINFO m), 28, 28⟩
/-- CAN_RXINFO.FILTER -/
def CAN_RXINFO_FILTER (m : Nat) : Fld := ⟨(CAN_RXINFO m), 15, 12⟩
/-- CAN_RXINFO.DLC -/
def CAN_RXINFO_DLC (m : Nat) : Fld := ⟨(CAN_RXINFO m), 3, 0⟩
/-- CAN_RXTIME (R595) -/
def CAN_RXTIME (m : Nat) : Nat := 0xF00C020C + 0x10000 * m
/-- CAN_RXDATA (R595) -/
def CAN_RXDATA (m n : Nat) : Nat := 0xF00C0210 + 0x10000 * m + 4 * n
/-- CAN_RXPOP (R595) -/
def CAN_RXPOP (m : Nat) : Nat := 0xF00C0250 + 0x10000 * m
/-- CAN_RXPOP.POP -/
def CAN_RXPOP_POP (m : Nat) : Fld := ⟨(CAN_RXPOP m), 0, 0⟩
/-- CAN_FLTID (R596) -/
def CAN_FLTID (m n : Nat) : Nat := 0xF00C0400 + 0x10000 * m + 8 * n
/-- CAN_FLTID.EN -/
def CAN_FLTID_EN (m n : Nat) : Fld := ⟨(CAN_FLTID m n), 31, 31⟩
/-- CAN_FLTID.IDE -/
def CAN_FLTID_IDE (m n : Nat) : Fld := ⟨(CAN_FLTID m n), 30, 30⟩
/-- CAN_FLTID.ID -/
def CAN_FLTID_ID (m n : Nat) : Fld := ⟨(CAN_FLTID m n), 28, 0⟩
/-- CAN_FLTMSK (R596) -/
def CAN_FLTMSK (m n : Nat) : Nat := 0xF00C0404 + 0x10000 * m + 8 * n
/-- CAN_FLTMSK.MASK -/
def CAN_FLTMSK_MASK (m n : Nat) : Fld := ⟨(CAN_FLTMSK m n), 28, 0⟩

/-! ### SAF -/

/-- SAF_STAT (R624) -/
def SAF_STAT : Nat := 0xF00E0000
/-- SAF_STAT.CAUSE -/
def SAF_STAT_CAUSE : Fld := ⟨SAF_STAT, 19, 16⟩
/-- SAF_STAT.CONFIRMED -/
def SAF_STAT_CONFIRMED : Fld := ⟨SAF_STAT, 8, 8⟩
/-- SAF_STAT.STATE -/
def SAF_STAT_STATE : Fld := ⟨SAF_STAT, 1, 0⟩
/-- SAF_CHK (R625) -/
def SAF_CHK : Nat := 0xF00E0004
/-- SAF_CONF (R625) -/
def SAF_CONF : Nat := 0xF00E0008
/-- SAF_CMD (R625) -/
def SAF_CMD : Nat := 0xF00E000C
/-- SAF_CMD.SRESET -/
def SAF_CMD_SRESET : Fld := ⟨SAF_CMD, 0, 0⟩
/-- SAF_LSERR (R625) -/
def SAF_LSERR : Nat := 0xF00E0010
/-- SAF_INPUT (R625) -/
def SAF_INPUT : Nat := 0xF00E0014
/-- SAF_INPUT.FAULT -/
def SAF_INPUT_FAULT : Fld := ⟨SAF_INPUT, 15, 8⟩
/-- SAF_INPUT.CLOSED -/
def SAF_INPUT_CLOSED : Fld := ⟨SAF_INPUT, 7, 0⟩
/-- SAF_AX (R625) -/
def SAF_AX (k : Nat) : Nat := 0xF00E0100 + 0x4 * k
/-- SAF_AX.SPEED -/
def SAF_AX_SPEED (k : Nat) : Fld := ⟨(SAF_AX k), 31, 16⟩
/-- SAF_AX.FAULT -/
def SAF_AX_FAULT (k : Nat) : Fld := ⟨(SAF_AX k), 15, 8⟩
/-- SAF_AX.STATE -/
def SAF_AX_STATE (k : Nat) : Fld := ⟨(SAF_AX k), 1, 0⟩
/-- SAF_CONN (R625) -/
def SAF_CONN (k : Nat) : Nat := 0xF00E0200 + 0x4 * k
/-- SAF_CONN.FAILS -/
def SAF_CONN_FAILS (k : Nat) : Fld := ⟨(SAF_CONN k), 31, 16⟩
/-- SAF_CONN.STATE -/
def SAF_CONN_STATE (k : Nat) : Fld := ⟨(SAF_CONN k), 1, 0⟩

/-! ### NVM -/

/-- NVM_STAT (R658) -/
def NVM_STAT : Nat := 0xF00F0000
/-- NVM_STAT.WERR -/
def NVM_STAT_WERR : Fld := ⟨NVM_STAT, 7, 7⟩
/-- NVM_STAT.DUPSEEN -/
def NVM_STAT_DUPSEEN : Fld := ⟨NVM_STAT, 6, 6⟩
/-- NVM_STAT.LOSTSEEN -/
def NVM_STAT_LOSTSEEN : Fld := ⟨NVM_STAT, 5, 5⟩
/-- NVM_STAT.WBUSY -/
def NVM_STAT_WBUSY : Fld := ⟨NVM_STAT, 4, 4⟩
/-- NVM_STAT.PROT -/
def NVM_STAT_PROT : Fld := ⟨NVM_STAT, 3, 2⟩
/-- NVM_STAT.READY -/
def NVM_STAT_READY : Fld := ⟨NVM_STAT, 1, 1⟩
/-- NVM_STAT.RECALL -/
def NVM_STAT_RECALL : Fld := ⟨NVM_STAT, 0, 0⟩
/-- NVM_PROT (R659) -/
def NVM_PROT : Nat := 0xF00F0004
/-- NVM_PROT.FACTLOCK -/
def NVM_PROT_FACTLOCK : Fld := ⟨NVM_PROT, 31, 31⟩
/-- NVM_PROT.LEVEL -/
def NVM_PROT_LEVEL : Fld := ⟨NVM_PROT, 1, 0⟩
/-- NVM_SYNC (R659) -/
def NVM_SYNC : Nat := 0xF00F0008
/-- NVM_RECT (R659) -/
def NVM_RECT : Nat := 0xF00F000C
/-- NVM_RECT.US -/
def NVM_RECT_US : Fld := ⟨NVM_RECT, 15, 0⟩
/-- NVM_RECRES (R659) -/
def NVM_RECRES : Nat := 0xF00F0010
/-- NVM_RECRES.LOST -/
def NVM_RECRES_LOST : Fld := ⟨NVM_RECRES, 31, 24⟩
/-- NVM_RECRES.DUP -/
def NVM_RECRES_DUP : Fld := ⟨NVM_RECRES, 23, 16⟩
/-- NVM_RECRES.REPAIR -/
def NVM_RECRES_REPAIR : Fld := ⟨NVM_RECRES, 15, 8⟩
/-- NVM_RECRES.ONECOPY -/
def NVM_RECRES_ONECOPY : Fld := ⟨NVM_RECRES, 7, 0⟩
/-- NVM_WERRCNT (R659) -/
def NVM_WERRCNT : Nat := 0xF00F0014
/-- NVM_SAVE (R659) -/
def NVM_SAVE : Nat := 0xF00F0018
/-- NVM_SAVE.VALID -/
def NVM_SAVE_VALID : Fld := ⟨NVM_SAVE, 31, 31⟩
/-- NVM_SAVE.BANK -/
def NVM_SAVE_BANK : Fld := ⟨NVM_SAVE, 30, 30⟩
/-- NVM_SAVE.LEN -/
def NVM_SAVE_LEN : Fld := ⟨NVM_SAVE, 20, 0⟩
/-- NVM_SAVESEQ (R659) -/
def NVM_SAVESEQ : Nat := 0xF00F001C
/-- NVM_FADDR (R659) -/
def NVM_FADDR : Nat := 0xF00F0100
/-- NVM_FADDR.ADDRESS -/
def NVM_FADDR_ADDRESS : Fld := ⟨NVM_FADDR, 25, 0⟩
/-- NVM_FCMD (R659) -/
def NVM_FCMD : Nat := 0xF00F0104
/-- NVM_FCMD.KEY -/
def NVM_FCMD_KEY : Fld := ⟨NVM_FCMD, 31, 16⟩
/-- NVM_FCMD.OP -/
def NVM_FCMD_OP : Fld := ⟨NVM_FCMD, 1, 0⟩
/-- NVM_FSTAT (R659) -/
def NVM_FSTAT : Nat := 0xF00F0108
/-- NVM_FSTAT.LDRLOCK -/
def NVM_FSTAT_LDRLOCK : Fld := ⟨NVM_FSTAT, 31, 31⟩
/-- NVM_FSTAT.ERR -/
def NVM_FSTAT_ERR : Fld := ⟨NVM_FSTAT, 10, 8⟩
/-- NVM_FSTAT.BUSY -/
def NVM_FSTAT_BUSY : Fld := ⟨NVM_FSTAT, 0, 0⟩
/-- NVM_FBUF (R659) -/
def NVM_FBUF (k : Nat) : Nat := 0xF00F0200 + 0x4 * k

/-! ### RTC -/

/-- RTC_STAT (R660) -/
def RTC_STAT : Nat := 0xF0100010
/-- RTC_STAT.ALMF -/
def RTC_STAT_ALMF : Fld := ⟨RTC_STAT, 7, 7⟩
/-- RTC_STAT.DEFER -/
def RTC_STAT_DEFER : Fld := ⟨RTC_STAT, 6, 6⟩
/-- RTC_STAT.ARMED -/
def RTC_STAT_ARMED : Fld := ⟨RTC_STAT, 5, 5⟩
/-- RTC_STAT.BATLOW -/
def RTC_STAT_BATLOW : Fld := ⟨RTC_STAT, 3, 3⟩
/-- RTC_STAT.ONBAT -/
def RTC_STAT_ONBAT : Fld := ⟨RTC_STAT, 2, 2⟩
/-- RTC_STAT.BKUNC -/
def RTC_STAT_BKUNC : Fld := ⟨RTC_STAT, 1, 1⟩
/-- RTC_STAT.TVALID -/
def RTC_STAT_TVALID : Fld := ⟨RTC_STAT, 0, 0⟩
/-- RTC_SUBSEC (R661) -/
def RTC_SUBSEC : Nat := 0xF0100000
/-- RTC_SUBSEC.CAPNO -/
def RTC_SUBSEC_CAPNO : Fld := ⟨RTC_SUBSEC, 23, 16⟩
/-- RTC_SUBSEC.SUB -/
def RTC_SUBSEC_SUB : Fld := ⟨RTC_SUBSEC, 14, 0⟩
/-- RTC_SECL (R661) -/
def RTC_SECL : Nat := 0xF0100004
/-- RTC_SECH (R661) -/
def RTC_SECH : Nat := 0xF0100008
/-- RTC_SECH.SEC -/
def RTC_SECH_SEC : Fld := ⟨RTC_SECH, 7, 0⟩
/-- RTC_CAL0 (R661) -/
def RTC_CAL0 : Nat := 0xF010000C
/-- RTC_CAL0.YEAR -/
def RTC_CAL0_YEAR : Fld := ⟨RTC_CAL0, 31, 16⟩
/-- RTC_CAL0.MONTH -/
def RTC_CAL0_MONTH : Fld := ⟨RTC_CAL0, 11, 8⟩
/-- RTC_CAL0.WDAY -/
def RTC_CAL0_WDAY : Fld := ⟨RTC_CAL0, 7, 5⟩
/-- RTC_CAL0.DAY -/
def RTC_CAL0_DAY : Fld := ⟨RTC_CAL0, 4, 0⟩
/-- RTC_CAL1 (R661) -/
def RTC_CAL1 : Nat := 0xF0100014
/-- RTC_CAL1.CAPNO -/
def RTC_CAL1_CAPNO : Fld := ⟨RTC_CAL1, 31, 24⟩
/-- RTC_CAL1.HOUR -/
def RTC_CAL1_HOUR : Fld := ⟨RTC_CAL1, 20, 16⟩
/-- RTC_CAL1.MINUTE -/
def RTC_CAL1_MINUTE : Fld := ⟨RTC_CAL1, 13, 8⟩
/-- RTC_CAL1.SECOND -/
def RTC_CAL1_SECOND : Fld := ⟨RTC_CAL1, 5, 0⟩
/-- RTC_VBAT (R661) -/
def RTC_VBAT : Nat := 0xF0100018
/-- RTC_VBAT.MV -/
def RTC_VBAT_MV : Fld := ⟨RTC_VBAT, 15, 0⟩
/-- RTC_STGL (R661) -/
def RTC_STGL : Nat := 0xF0100020
/-- RTC_STGH (R661) -/
def RTC_STGH : Nat := 0xF0100024
/-- RTC_STGH.SEC -/
def RTC_STGH_SEC : Fld := ⟨RTC_STGH, 7, 0⟩
/-- RTC_CMD (R661) -/
def RTC_CMD : Nat := 0xF0100028
/-- RTC_CMD.BKCOMMIT -/
def RTC_CMD_BKCOMMIT : Fld := ⟨RTC_CMD, 1, 1⟩
/-- RTC_CMD.ARM -/
def RTC_CMD_ARM : Fld := ⟨RTC_CMD, 0, 0⟩
/-- RTC_CORR (R661) -/
def RTC_CORR : Nat := 0xF0100030
/-- RTC_CORR.TEMP -/
def RTC_CORR_TEMP : Fld := ⟨RTC_CORR, 31, 16⟩
/-- RTC_CORR.N -/
def RTC_CORR_N : Fld := ⟨RTC_CORR, 8, 0⟩
/-- RTC_MODEL0 (R661) -/
def RTC_MODEL0 : Nat := 0xF0100034
/-- RTC_MODEL0.T0 -/
def RTC_MODEL0_T0 : Fld := ⟨RTC_MODEL0, 31, 16⟩
/-- RTC_MODEL0.K -/
def RTC_MODEL0_K : Fld := ⟨RTC_MODEL0, 15, 0⟩
/-- RTC_MODEL1 (R661) -/
def RTC_MODEL1 : Nat := 0xF0100038
/-- RTC_MODEL2 (R661) -/
def RTC_MODEL2 : Nat := 0xF010003C
/-- RTC_MODEL2.TOFS -/
def RTC_MODEL2_TOFS : Fld := ⟨RTC_MODEL2, 15, 0⟩
/-- RTC_ALML (R661) -/
def RTC_ALML : Nat := 0xF0100040
/-- RTC_ALMH (R661) -/
def RTC_ALMH : Nat := 0xF0100044
/-- RTC_ALMH.EN -/
def RTC_ALMH_EN : Fld := ⟨RTC_ALMH, 8, 8⟩
/-- RTC_ALMH.SEC -/
def RTC_ALMH_SEC : Fld := ⟨RTC_ALMH, 7, 0⟩
/-- RTC_LSUB (R661) -/
def RTC_LSUB : Nat := 0xF0100050
/-- RTC_LSUB.SUB -/
def RTC_LSUB_SUB : Fld := ⟨RTC_LSUB, 14, 0⟩
/-- RTC_LSECL (R661) -/
def RTC_LSECL : Nat := 0xF0100054
/-- RTC_LSECH (R661) -/
def RTC_LSECH : Nat := 0xF0100058
/-- RTC_LSECH.SEC -/
def RTC_LSECH_SEC : Fld := ⟨RTC_LSECH, 7, 0⟩
/-- RTC_BK (R661) -/
def RTC_BK (k : Nat) : Nat := 0xF0100100 + 0x4 * k
/-- RTC_BKSTG (R661) -/
def RTC_BKSTG (k : Nat) : Nat := 0xF0100140 + 0x4 * k

/-! ### WDG -/

/-- WDG_KEY (R694) -/
def WDG_KEY : Nat := 0xF0110000
/-- WDG_KEY.KEY -/
def WDG_KEY_KEY : Fld := ⟨WDG_KEY, 15, 0⟩
/-- WDG_CTRL (R695) -/
def WDG_CTRL : Nat := 0xF0110004
/-- WDG_CTRL.WIN -/
def WDG_CTRL_WIN : Fld := ⟨WDG_CTRL, 31, 16⟩
/-- WDG_CTRL.MIN -/
def WDG_CTRL_MIN : Fld := ⟨WDG_CTRL, 15, 4⟩
/-- WDG_CTRL.LONG -/
def WDG_CTRL_LONG : Fld := ⟨WDG_CTRL, 1, 1⟩
/-- WDG_CTRL.CLKSEL -/
def WDG_CTRL_CLKSEL : Fld := ⟨WDG_CTRL, 0, 0⟩
/-- WDG_STAT (R696) -/
def WDG_STAT : Nat := 0xF0110008
/-- WDG_STAT.COUNT -/
def WDG_STAT_COUNT : Fld := ⟨WDG_STAT, 23, 16⟩
/-- WDG_STAT.LASTCAUSE -/
def WDG_STAT_LASTCAUSE : Fld := ⟨WDG_STAT, 11, 8⟩
/-- WDG_STAT.ALTSTOP -/
def WDG_STAT_ALTSTOP : Fld := ⟨WDG_STAT, 3, 3⟩
/-- WDG_STAT.BADCFG -/
def WDG_STAT_BADCFG : Fld := ⟨WDG_STAT, 2, 2⟩
/-- WDG_STAT.PAUSED -/
def WDG_STAT_PAUSED : Fld := ⟨WDG_STAT, 1, 1⟩
/-- WDG_STAT.ARMED -/
def WDG_STAT_ARMED : Fld := ⟨WDG_STAT, 0, 0⟩
/-- WDG_REMAIN (R697) -/
def WDG_REMAIN : Nat := 0xF011000C

/-! ### FRZ -/

/-- FRZ_CTRL (R698) -/
def FRZ_CTRL : Nat := 0xF0120000
/-- FRZ_CTRL.LIMIT -/
def FRZ_CTRL_LIMIT : Fld := ⟨FRZ_CTRL, 11, 0⟩
/-- FRZ_CMD (R698) -/
def FRZ_CMD : Nat := 0xF0120004
/-- FRZ_CMD.FREEZE -/
def FRZ_CMD_FREEZE : Fld := ⟨FRZ_CMD, 0, 0⟩
/-- FRZ_STAT (R699) -/
def FRZ_STAT : Nat := 0xF0120008
/-- FRZ_STAT.STRAP -/
def FRZ_STAT_STRAP : Fld := ⟨FRZ_STAT, 15, 15⟩
/-- FRZ_STAT.PIN -/
def FRZ_STAT_PIN : Fld := ⟨FRZ_STAT, 14, 14⟩
/-- FRZ_STAT.REFUSED -/
def FRZ_STAT_REFUSED : Fld := ⟨FRZ_STAT, 13, 13⟩
/-- FRZ_STAT.SOURCE -/
def FRZ_STAT_SOURCE : Fld := ⟨FRZ_STAT, 10, 8⟩
/-- FRZ_STAT.TRIGSRC -/
def FRZ_STAT_TRIGSRC : Fld := ⟨FRZ_STAT, 6, 0⟩
/-- FRZ_LASTTL (R700) -/
def FRZ_LASTTL : Nat := 0xF0120010
/-- FRZ_LASTTH (R700) -/
def FRZ_LASTTH : Nat := 0xF0120014
/-- FRZ_LASTDUR (R700) -/
def FRZ_LASTDUR : Nat := 0xF0120018
/-- FRZ_COUNT (R700) -/
def FRZ_COUNT : Nat := 0xF012001C

/-! ### REC -/

/-- REC_CTRL (R701) -/
def REC_CTRL : Nat := 0xF0130000
/-- REC_CTRL.APPEND -/
def REC_CTRL_APPEND : Fld := ⟨REC_CTRL, 7, 7⟩
/-- REC_CTRL.TRIGSEV -/
def REC_CTRL_TRIGSEV : Fld := ⟨REC_CTRL, 5, 4⟩
/-- REC_CTRL.RFREEZE -/
def REC_CTRL_RFREEZE : Fld := ⟨REC_CTRL, 0, 0⟩
/-- REC_RATE (R701) -/
def REC_RATE : Nat := 0xF0130004
/-- REC_RATE.BURST -/
def REC_RATE_BURST : Fld := ⟨REC_RATE, 31, 16⟩
/-- REC_RATE.RATE -/
def REC_RATE_RATE : Fld := ⟨REC_RATE, 15, 0⟩
/-- REC_STAT (R702) -/
def REC_STAT : Nat := 0xF0130008
/-- REC_STAT.QUEUED -/
def REC_STAT_QUEUED : Fld := ⟨REC_STAT, 22, 16⟩
/-- REC_STAT.FULL -/
def REC_STAT_FULL : Fld := ⟨REC_STAT, 3, 3⟩
/-- REC_STAT.INDEXING -/
def REC_STAT_INDEXING : Fld := ⟨REC_STAT, 2, 2⟩
/-- REC_STAT.RFROZEN -/
def REC_STAT_RFROZEN : Fld := ⟨REC_STAT, 1, 1⟩
/-- REC_STAT.CLEARING -/
def REC_STAT_CLEARING : Fld := ⟨REC_STAT, 0, 0⟩
/-- REC_NEXTSEQ (R703) -/
def REC_NEXTSEQ : Nat := 0xF013000C
/-- REC_HELD (R703) -/
def REC_HELD : Nat := 0xF0130010
/-- REC_HELD.COUNT -/
def REC_HELD_COUNT : Fld := ⟨REC_HELD, 14, 0⟩
/-- REC_LOST (R703) -/
def REC_LOST (k : Nat) : Nat := 0xF0130020 + 0x4 * k
/-- REC_SUPPR (R703) -/
def REC_SUPPR : Nat := 0xF0130030
/-- REC_CLR (R703) -/
def REC_CLR : Nat := 0xF0130040
/-- REC_FRZMASK (R703) -/
def REC_FRZMASK (k : Nat) : Nat := 0xF0130100 + 0x4 * k
/-- REC_SNAP (R704) -/
def REC_SNAP (k : Nat) : Nat := 0xF0130200 + 0x4 * k
/-- REC_SNAP.KIND -/
def REC_SNAP_KIND (k : Nat) : Fld := ⟨(REC_SNAP k), 31, 30⟩
/-- REC_SNAP.ADDR -/
def REC_SNAP_ADDR (k : Nat) : Fld := ⟨(REC_SNAP k), 23, 0⟩
/-- REC_WBUF (R705) -/
def REC_WBUF (k : Nat) : Nat := 0xF0130300 + 0x4 * k
/-- REC_WSRC (R705) -/
def REC_WSRC : Nat := 0xF0130370
/-- REC_WSRC.KIND -/
def REC_WSRC_KIND : Fld := ⟨REC_WSRC, 31, 24⟩
/-- REC_WSRC.NUMBER -/
def REC_WSRC_NUMBER : Fld := ⟨REC_WSRC, 23, 0⟩
/-- REC_WSUB (R705) -/
def REC_WSUB : Nat := 0xF0130374
/-- REC_WSUB.CODE -/
def REC_WSUB_CODE : Fld := ⟨REC_WSUB, 31, 16⟩
/-- REC_WSUB.NSNAP -/
def REC_WSUB_NSNAP : Fld := ⟨REC_WSUB, 15, 11⟩
/-- REC_WSUB.SEV -/
def REC_WSUB_SEV : Fld := ⟨REC_WSUB, 1, 0⟩
/-- REC_WSTAT (R705) -/
def REC_WSTAT : Nat := 0xF0130378
/-- REC_WSTAT.RESULT -/
def REC_WSTAT_RESULT : Fld := ⟨REC_WSTAT, 1, 0⟩

/-! ### EVC -/

/-- EVC_ROUTE (R39) -/
def EVC_ROUTE (k : Nat) : Nat := 0xF0140000 + 0x4 * k
/-- EVC_ROUTE.REC -/
def EVC_ROUTE_REC (k : Nat) : Fld := ⟨(EVC_ROUTE k), 6, 6⟩
/-- EVC_ROUTE.GZ -/
def EVC_ROUTE_GZ (k : Nat) : Fld := ⟨(EVC_ROUTE k), 5, 5⟩
/-- EVC_ROUTE.SUP -/
def EVC_ROUTE_SUP (k : Nat) : Fld := ⟨(EVC_ROUTE k), 4, 4⟩
/-- EVC_ROUTE.CORE -/
def EVC_ROUTE_CORE (k : Nat) : Fld := ⟨(EVC_ROUTE k), 3, 0⟩
/-- EVC_PEND (R40) -/
def EVC_PEND (k : Nat) : Nat := 0xF0140200 + 0x4 * k
/-- EVC_RAISE (R41) -/
def EVC_RAISE : Nat := 0xF0140300
/-- EVC_RAISE.SOURCE -/
def EVC_RAISE_SOURCE : Fld := ⟨EVC_RAISE, 6, 0⟩
/-- EVC_OVFCNT (R42) -/
def EVC_OVFCNT : Nat := 0xF0140310
/-- EVC_STAT (R43) -/
def EVC_STAT : Nat := 0xF0140314
/-- EVC_STAT.BADRAISE -/
def EVC_STAT_BADRAISE : Fld := ⟨EVC_STAT, 7, 7⟩
/-- EVC_STAT.LASTOVF -/
def EVC_STAT_LASTOVF : Fld := ⟨EVC_STAT, 6, 0⟩

/-! ### TRC -/

/-- TRC_CFG (R385) -/
def TRC_CFG (k : Nat) : Nat := 0xF0150100 + 0x80 * k
/-- TRC_CFG.KIND -/
def TRC_CFG_KIND (k : Nat) : Fld := ⟨(TRC_CFG k), 31, 30⟩
/-- TRC_CFG.LOOP -/
def TRC_CFG_LOOP (k : Nat) : Fld := ⟨(TRC_CFG k), 27, 16⟩
/-- TRC_CFG.TASK -/
def TRC_CFG_TASK (k : Nat) : Fld := ⟨(TRC_CFG k), 15, 12⟩
/-- TRC_CFG.NSIG -/
def TRC_CFG_NSIG (k : Nat) : Fld := ⟨(TRC_CFG k), 11, 8⟩
/-- TRC_CFG.SIGMASK -/
def TRC_CFG_SIGMASK (k : Nat) : Fld := ⟨(TRC_CFG k), 7, 0⟩
/-- TRC_REGION (R386) -/
def TRC_REGION (k : Nat) : Nat := 0xF0150104 + 0x80 * k
/-- TRC_REGION.BASE -/
def TRC_REGION_BASE (k : Nat) : Fld := ⟨(TRC_REGION k), 13, 8⟩
/-- TRC_REGION.SIZE -/
def TRC_REGION_SIZE (k : Nat) : Fld := ⟨(TRC_REGION k), 6, 0⟩
/-- TRC_DIV (R386) -/
def TRC_DIV (k : Nat) : Nat := 0xF0150108 + 0x80 * k
/-- TRC_DIV.DIV -/
def TRC_DIV_DIV (k : Nat) : Fld := ⟨(TRC_DIV k), 15, 0⟩
/-- TRC_TRIG (R387) -/
def TRC_TRIG (k : Nat) : Nat := 0xF015010C + 0x80 * k
/-- TRC_TRIG.TMODE -/
def TRC_TRIG_TMODE (k : Nat) : Fld := ⟨(TRC_TRIG k), 31, 29⟩
/-- TRC_TRIG.TINT -/
def TRC_TRIG_TINT (k : Nat) : Fld := ⟨(TRC_TRIG k), 28, 28⟩
/-- TRC_TRIG.TSIG -/
def TRC_TRIG_TSIG (k : Nat) : Fld := ⟨(TRC_TRIG k), 18, 16⟩
/-- TRC_TRIG.PRE -/
def TRC_TRIG_PRE (k : Nat) : Fld := ⟨(TRC_TRIG k), 6, 0⟩
/-- TRC_LEVEL (R387) -/
def TRC_LEVEL (k : Nat) : Nat := 0xF0150110 + 0x80 * k
/-- TRC_CMD (R388) -/
def TRC_CMD (k : Nat) : Nat := 0xF0150114 + 0x80 * k
/-- TRC_CMD.FORCE -/
def TRC_CMD_FORCE (k : Nat) : Fld := ⟨(TRC_CMD k), 2, 2⟩
/-- TRC_CMD.STOP -/
def TRC_CMD_STOP (k : Nat) : Fld := ⟨(TRC_CMD k), 1, 1⟩
/-- TRC_CMD.ARM -/
def TRC_CMD_ARM (k : Nat) : Fld := ⟨(TRC_CMD k), 0, 0⟩
/-- TRC_STAT (R388) -/
def TRC_STAT (k : Nat) : Nat := 0xF0150118 + 0x80 * k
/-- TRC_STAT.ERR -/
def TRC_STAT_ERR (k : Nat) : Fld := ⟨(TRC_STAT k), 10, 8⟩
/-- TRC_STAT.NOTRIG -/
def TRC_STAT_NOTRIG (k : Nat) : Fld := ⟨(TRC_STAT k), 3, 3⟩
/-- TRC_STAT.STATE -/
def TRC_STAT_STATE (k : Nat) : Fld := ⟨(TRC_STAT k), 2, 0⟩
/-- TRC_COUNT (R389) -/
def TRC_COUNT (k : Nat) : Nat := 0xF015011C + 0x80 * k
/-- TRC_COUNT.RECORDS -/
def TRC_COUNT_RECORDS (k : Nat) : Fld := ⟨(TRC_COUNT k), 21, 0⟩
/-- TRC_OLDEST (R389) -/
def TRC_OLDEST (k : Nat) : Nat := 0xF0150120 + 0x80 * k
/-- TRC_OLDEST.OFFSET -/
def TRC_OLDEST_OFFSET (k : Nat) : Fld := ⟨(TRC_OLDEST k), 21, 0⟩
/-- TRC_TRIGPOS (R389) -/
def TRC_TRIGPOS (k : Nat) : Nat := 0xF0150124 + 0x80 * k
/-- TRC_TRIGPOS.OFFSET -/
def TRC_TRIGPOS_OFFSET (k : Nat) : Fld := ⟨(TRC_TRIGPOS k), 21, 0⟩
/-- TRC_GAPS (R389) -/
def TRC_GAPS (k : Nat) : Nat := 0xF0150128 + 0x80 * k
/-- TRC_SIG, image value j of buffer b (R390) -/
def TRC_SIG (b j : Nat) : Nat := 0xF0150140 + 0x80 * b + 4 * j

/-- The registers of block SYS. -/
def regsSys : List RegDef := [
  ⟨0xF0000000, 1, 0x0, [⟨31, 16, .ro, 22945⟩, ⟨15, 0, .ro, 1600⟩]⟩,  -- SYS_ID (R30)
  ⟨0xF0000004, 1, 0x0, [⟨16, 16, .ro, 0⟩, ⟨15, 8, .ro, 1⟩, ⟨7, 0, .ro, 1⟩]⟩,  -- SYS_REV (R31)
  ⟨0xF0000010, 1, 0x0, [⟨7, 7, .ro, 0⟩, ⟨6, 6, .ro, 0⟩, ⟨5, 5, .ro, 1⟩, ⟨4, 4, .ro, 1⟩, ⟨3, 0, .ro, 15⟩]⟩,  -- SYS_DOMSTAT (R32)
  ⟨0xF0000014, 1, 0x0, [⟨3, 0, .wo, 0⟩]⟩,  -- SYS_ISLRST (R33)
  ⟨0xF0000020, 1, 0x0, [⟨10, 8, .ro, 0⟩, ⟨6, 0, .ro, 0⟩]⟩,  -- SYS_RSTSRC (R732)
  ⟨0xF0000024, 1, 0x0, [⟨31, 16, .wo, 0⟩, ⟨0, 0, .wo, 0⟩]⟩,  -- SYS_SWRST (R733)
  ⟨0xF0000028, 1, 0x0, [⟨2, 2, .ro, 0⟩, ⟨1, 1, .ro, 0⟩, ⟨0, 0, .rw, 0⟩]⟩,  -- SYS_SYSOK (R734)
  ⟨0xF000002C, 1, 0x0, [⟨9, 9, .ro, 0⟩, ⟨8, 8, .ro, 0⟩, ⟨1, 0, .ro, 0⟩]⟩]  -- SYS_BOOT (R735)

/-- The registers of block TSK. -/
def regsTsk : List RegDef := [
  ⟨0xF0010000, 1, 0x0, [⟨2, 2, .wo, 0⟩, ⟨1, 1, .wo, 0⟩, ⟨0, 0, .wo, 0⟩]⟩,  -- TSK_GCTRL (R91)
  ⟨0xF0010004, 1, 0x0, [⟨23, 16, .ro, 255⟩, ⟨15, 8, .ro, 0⟩, ⟨1, 0, .ro, 0⟩]⟩,  -- TSK_GSTAT (R92)
  ⟨0xF0010008, 1, 0x0, [⟨31, 0, .ro, 0⟩]⟩,  -- TSK_STOPTL (R93)
  ⟨0xF001000C, 1, 0x0, [⟨31, 0, .ro, 0⟩]⟩,  -- TSK_STOPTH (R93)
  ⟨0xF0010010, 1, 0x0, [⟨27, 16, .ro, 0⟩, ⟨14, 0, .ro, 0⟩]⟩,  -- TSK_FRCCNT (R94)
  ⟨0xF0010100, 24, 0x40, [⟨15, 9, .rw, 0⟩, ⟨8, 4, .rw, 0⟩, ⟨3, 3, .rw, 0⟩, ⟨2, 2, .rw, 0⟩, ⟨0, 0, .rw, 0⟩]⟩,  -- TSK_CTRL (R95)
  ⟨0xF0010104, 24, 0x40, [⟨17, 0, .rw, 20⟩]⟩,  -- TSK_PERIOD (R96)
  ⟨0xF0010108, 24, 0x40, [⟨23, 0, .rw, 0⟩]⟩,  -- TSK_PHASE (R97)
  ⟨0xF001010C, 24, 0x40, [⟨23, 0, .rw, 600⟩]⟩,  -- TSK_STRIKE (R97)
  ⟨0xF0010110, 24, 0x40, [⟨23, 0, .rw, 250⟩]⟩,  -- TSK_INDL (R97)
  ⟨0xF0010114, 16, 0x40, [⟨23, 0, .rw, 100⟩]⟩,  -- TSK_OUTM of a cyclic task (R97)
  ⟨0xF0010514, 8, 0x40, [⟨23, 0, .rw, 10000⟩]⟩,  -- TSK_OUTM of an event task (R97)
  ⟨0xF0010118, 24, 0x40, [⟨7, 7, .ro, 0⟩, ⟨6, 6, .ro, 0⟩, ⟨5, 5, .ro, 0⟩, ⟨4, 4, .w1c, 0⟩, ⟨3, 3, .ro, 0⟩, ⟨2, 0, .ro, 0⟩]⟩,  -- TSK_STAT (R98)
  ⟨0xF001011C, 24, 0x40, [⟨31, 0, .ro, 0⟩]⟩,  -- TSK_LASTTL (R99)
  ⟨0xF0010120, 24, 0x40, [⟨31, 0, .ro, 0⟩]⟩,  -- TSK_LASTTH (R99)
  ⟨0xF0010124, 24, 0x40, [⟨31, 0, .ro, 0⟩]⟩,  -- TSK_EVLAST (R100)
  ⟨0xF0010128, 24, 0x40, [⟨31, 0, .rw, 0⟩]⟩,  -- TSK_EVMAX (R100)
  ⟨0xF001012C, 24, 0x40, [⟨31, 0, .ro, 0⟩]⟩,  -- TSK_CYCLE (R101)
  ⟨0xF0010130, 24, 0x40, [⟨31, 16, .rc, 0⟩, ⟨15, 0, .rc, 0⟩]⟩,  -- TSK_LATE (R102)
  ⟨0xF0010134, 24, 0x40, [⟨31, 0, .rc, 0⟩]⟩,  -- TSK_EVMRG (R103)
  ⟨0xF0010800, 1, 0x0, [⟨31, 16, .rw, 100⟩, ⟨2, 2, .w1c, 0⟩, ⟨1, 1, .rw, 0⟩, ⟨0, 0, .rw, 0⟩]⟩,  -- TSK_WDCTRL (R104)
  ⟨0xF0010804, 1, 0x0, [⟨23, 0, .rw, 0⟩]⟩,  -- TSK_WDMASK (R105)
  ⟨0xF0010808, 1, 0x0, [⟨23, 0, .rw, 0⟩]⟩,  -- TSK_WDAUTO (R105)
  ⟨0xF001080C, 1, 0x0, [⟨23, 0, .ro, 0⟩]⟩,  -- TSK_WDSEEN (R105)
  ⟨0xF0010810, 1, 0x0, [⟨23, 0, .w1c, 0⟩]⟩,  -- TSK_WDDUP (R105)
  ⟨0xF0010814, 1, 0x0, [⟨23, 0, .ro, 0⟩]⟩]  -- TSK_WDMISS (R105)

/-- The registers of block SEG. -/
def regsSeg : List RegDef := [
  ⟨0xF0020000, 1, 0x0, [⟨16, 0, .ro, 0⟩]⟩,  -- SEG_COUNT (R157)
  ⟨0xF0020004, 1, 0x0, [⟨21, 0, .ro, 2097152⟩]⟩,  -- SEG_CODEFREE (R158)
  ⟨0xF0020010, 1, 0x0, [⟨15, 0, .rw, 0⟩]⟩,  -- SEG_HSEL (R159)
  ⟨0xF0020014, 4, 0x4, [⟨31, 0, .rw, 0⟩]⟩,  -- SEG_HDR (R160)
  ⟨0xF0020100, 1, 0x0, [⟨5, 0, .rw, 0⟩]⟩,  -- SEG_STGSEL (R161)
  ⟨0xF0020104, 1, 0x0, [⟨31, 31, .rw, 0⟩, ⟨30, 30, .rw, 0⟩, ⟨15, 0, .rw, 0⟩]⟩,  -- SEG_STGNUM (R162)
  ⟨0xF0020108, 4, 0x4, [⟨31, 0, .rw, 0⟩]⟩,  -- SEG_STGHDR (R163)
  ⟨0xF0020118, 1, 0x0, [⟨29, 16, .rw, 0⟩, ⟨13, 0, .rw, 0⟩]⟩,  -- SEG_STGCNT (R164)
  ⟨0xF002011C, 1, 0x0, [⟨15, 0, .rw, 0⟩]⟩,  -- SEG_STGPTR (R164)
  ⟨0xF0020140, 1, 0x0, [⟨31, 0, .wo, 0⟩]⟩,  -- SEG_STGDATA (R164)
  ⟨0xF0020120, 1, 0x0, [⟨1, 1, .wo, 0⟩, ⟨0, 0, .wo, 0⟩]⟩,  -- SEG_STGCTRL (R165)
  ⟨0xF0020124, 1, 0x0, [⟨31, 16, .ro, 0⟩, ⟨15, 8, .ro, 0⟩, ⟨3, 3, .w1c, 0⟩, ⟨2, 0, .ro, 0⟩]⟩,  -- SEG_STGSTAT (R166)
  ⟨0xF0020128, 1, 0x0, [⟨31, 0, .ro, 0⟩]⟩,  -- SEG_GEN (R167)
  ⟨0xF0020130, 1, 0x0, [⟨31, 0, .ro, 0⟩]⟩,  -- SEG_SWAPTL (R168)
  ⟨0xF0020134, 1, 0x0, [⟨31, 0, .ro, 0⟩]⟩]  -- SEG_SWAPTH (R168)

/-- The registers of block LANE. -/
def regsLane : List RegDef := [
  ⟨0xF0030000, 2, 0x4, [⟨31, 0, .ro, 0⟩]⟩,  -- LANE_BUSY (R169)
  ⟨0xF0030008, 1, 0x0, [⟨31, 0, .rc, 0⟩]⟩,  -- LANE_FAULTCNT (R170)
  ⟨0xF0030100, 8, 0x20, [⟨1, 1, .wo, 0⟩, ⟨0, 0, .rw, 1⟩]⟩,  -- LANE_CLCTRL (R171)
  ⟨0xF0030104, 8, 0x20, [⟨31, 0, .rc, 0⟩]⟩,  -- LANE_CLRUNS (R172)
  ⟨0xF0030108, 8, 0x20, [⟨31, 0, .rc, 0⟩]⟩,  -- LANE_CLHS (R172)
  ⟨0xF003010C, 8, 0x20, [⟨31, 0, .rc, 0⟩]⟩,  -- LANE_CLMISS (R172)
  ⟨0xF0030114, 8, 0x20, [⟨31, 0, .rc, 0⟩]⟩,  -- LANE_CLAUD (R172)
  ⟨0xF0030110, 8, 0x20, [⟨31, 16, .ro, 0⟩, ⟨7, 0, .rc, 0⟩]⟩]  -- LANE_CLFLT (R173)

/-- The registers of block GZ. -/
def regsGz : List RegDef := [
  ⟨0xF0040000, 1, 0x0, [⟨8, 8, .rw, 1⟩]⟩,  -- GZ_CTRL (R174)
  ⟨0xF0040004, 1, 0x0, [⟨9, 9, .wo, 0⟩, ⟨8, 8, .wo, 0⟩, ⟨4, 0, .wo, 0⟩]⟩,  -- GZ_CMD (R175)
  ⟨0xF0040008, 1, 0x0, [⟨11, 0, .rw, 10⟩]⟩,  -- GZ_AUDINT (R176)
  ⟨0xF004000C, 1, 0x0, [⟨12, 8, .ro, 0⟩, ⟨2, 2, .ro, 0⟩, ⟨1, 1, .ro, 0⟩, ⟨0, 0, .ro, 0⟩]⟩,  -- GZ_STAT (R177)
  ⟨0xF0040010, 1, 0x0, [⟨23, 0, .ro, 0⟩]⟩,  -- GZ_EQMAP (R178)
  ⟨0xF0040014, 1, 0x0, [⟨21, 0, .ro, 2097152⟩]⟩,  -- GZ_FREE (R179)
  ⟨0xF0040020, 1, 0x0, [⟨18, 0, .rw, 0⟩]⟩,  -- GZ_DIRSEL (R180)
  ⟨0xF0040024, 1, 0x0, [⟨31, 0, .rw, 0⟩]⟩,  -- GZ_DIRDATA (R180)
  ⟨0xF0040028, 1, 0x0, [⟨20, 0, .rw, 0⟩]⟩,  -- GZ_SUBSEL (R180)
  ⟨0xF004002C, 1, 0x0, [⟨31, 0, .rw, 0⟩]⟩,  -- GZ_SUBDATA (R180)
  ⟨0xF0040040, 32, 0x4, [⟨31, 31, .rw, 0⟩, ⟨22, 16, .rw, 0⟩, ⟨15, 0, .rw, 0⟩]⟩,  -- GZ_TRIG (R181)
  ⟨0xF0040100, 24, 0x20, [⟨18, 0, .ro, 0⟩]⟩,  -- GZ_RUNS (R182)
  ⟨0xF0040104, 24, 0x20, [⟨18, 0, .ro, 0⟩]⟩,  -- GZ_CHG (R182)
  ⟨0xF0040108, 24, 0x20, [⟨31, 0, .ro, 0⟩]⟩,  -- GZ_AUDAGE (R183)
  ⟨0xF004010C, 24, 0x20, [⟨31, 16, .rc, 0⟩, ⟨15, 0, .rc, 0⟩]⟩,  -- GZ_AUDCNT (R184)
  ⟨0xF0040110, 24, 0x20, [⟨31, 31, .ro, 0⟩, ⟨23, 16, .ro, 0⟩, ⟨15, 0, .ro, 0⟩]⟩,  -- GZ_EQ (R185)
  ⟨0xF0040114, 24, 0x20, [⟨31, 0, .ro, 0⟩]⟩,  -- GZ_EQADDR (R185)
  ⟨0xF0040118, 24, 0x20, [⟨31, 16, .ro, 0⟩, ⟨15, 0, .rc, 0⟩]⟩]  -- GZ_FLT (R186)

/-- The registers of block PHR. -/
def regsPhr : List RegDef := [
  ⟨0xF0050000, 1, 0x0, [⟨11, 8, .wo, 0⟩, ⟨3, 0, .rw, 0⟩]⟩,  -- PHR_CTRL (R326)
  ⟨0xF0050004, 1, 0x0, [⟨15, 0, .rw, 34997⟩]⟩,  -- PHR_ETYPE (R327)
  ⟨0xF0050008, 1, 0x0, [⟨31, 0, .rw, 0⟩]⟩,  -- PHR_EPOCH (R328)
  ⟨0xF005000C, 1, 0x0, [⟨31, 16, .rw, 100⟩, ⟨15, 0, .rw, 200⟩]⟩,  -- PHR_TMO (R329)
  ⟨0xF0050010, 1, 0x0, [⟨15, 0, .rw, 200⟩]⟩,  -- PHR_LATEWIN (R330)
  ⟨0xF0050014, 1, 0x0, [⟨16, 16, .w1c, 0⟩, ⟨8, 0, .ro, 0⟩]⟩,  -- PHR_STAT (R331)
  ⟨0xF0050018, 1, 0x0, [⟨31, 0, .rc, 0⟩]⟩,  -- PHR_STRAY (R332)
  ⟨0xF005001C, 1, 0x0, [⟨31, 0, .ro, 0⟩]⟩,  -- PHR_SUPERSEDED (R332)
  ⟨0xF0050020, 1, 0x0, [⟨7, 0, .rw, 0⟩]⟩,  -- PHR_TXSEL (R333)
  ⟨0xF0050024, 1, 0x0, [⟨31, 30, .ro, 0⟩, ⟨29, 26, .ro, 0⟩, ⟨25, 24, .ro, 0⟩, ⟨23, 16, .ro, 0⟩, ⟨15, 8, .ro, 0⟩, ⟨7, 6, .ro, 0⟩, ⟨4, 0, .ro, 0⟩]⟩,  -- PHR_TXD0 (R333)
  ⟨0xF0050028, 1, 0x0, [⟨31, 0, .ro, 0⟩]⟩,  -- PHR_TXD1 (R333)
  ⟨0xF005002C, 1, 0x0, [⟨31, 0, .ro, 0⟩]⟩,  -- PHR_TXD2 (R333)
  ⟨0xF0050030, 1, 0x0, [⟨31, 16, .ro, 0⟩]⟩,  -- PHR_TXD3 (R333)
  ⟨0xF0050040, 1, 0x0, [⟨31, 24, .rw, 128⟩, ⟨23, 16, .rw, 128⟩, ⟨15, 8, .rw, 0⟩, ⟨0, 0, .rw, 0⟩]⟩,  -- PHR_PTPCTRL (R334)
  ⟨0xF0050044, 1, 0x0, [⟨8, 8, .ro, 0⟩, ⟨2, 0, .ro, 0⟩]⟩,  -- PHR_PTPSTAT (R335)
  ⟨0xF0050048, 1, 0x0, [⟨31, 0, .ro, 0⟩]⟩,  -- PHR_PTPOFFL (R335)
  ⟨0xF005004C, 1, 0x0, [⟨31, 0, .ro, 0⟩]⟩,  -- PHR_PTPOFFH (R335)
  ⟨0xF0050100, 4, 0x40, [⟨23, 16, .rw, 60⟩, ⟨15, 8, .rw, 0⟩]⟩,  -- PHR_RCTRL (R336)
  ⟨0xF0050104, 4, 0x40, [⟨23, 0, .rw, 0⟩]⟩,  -- PHR_RCABLE (R336)
  ⟨0xF0050108, 4, 0x40, [⟨27, 27, .ro, 0⟩, ⟨26, 26, .ro, 0⟩, ⟨25, 17, .ro, 0⟩, ⟨16, 8, .ro, 0⟩, ⟨2, 0, .ro, 0⟩]⟩,  -- PHR_RSTAT (R337)
  ⟨0xF005010C, 4, 0x40, [⟨31, 16, .ro, 0⟩, ⟨15, 0, .ro, 0⟩]⟩,  -- PHR_RLOAD (R338)
  ⟨0xF0050110, 4, 0x40, [⟨16, 0, .ro, 0⟩]⟩,  -- PHR_RWIRE (R338)
  ⟨0xF0050114, 4, 0x40, [⟨31, 0, .rc, 0⟩]⟩,  -- PHR_RFCSA (R339)
  ⟨0xF0050118, 4, 0x40, [⟨31, 0, .rc, 0⟩]⟩,  -- PHR_RFCSB (R339)
  ⟨0xF005011C, 4, 0x40, [⟨31, 0, .rc, 0⟩]⟩,  -- PHR_RTMO (R339)
  ⟨0xF0050120, 4, 0x40, [⟨7, 0, .ro, 0⟩]⟩]  -- PHR_RINUSE (R339)

/-- The registers of block LPE. -/
def regsLpe : List RegDef := [
  ⟨0xF0060000, 1, 0x0, [⟨0, 0, .rw, 1⟩]⟩,  -- LPE_CTRL (R380)
  ⟨0xF0060004, 1, 0x0, [⟨28, 16, .ro, 0⟩, ⟨9, 0, .ro, 0⟩]⟩,  -- LPE_STAT (R381)
  ⟨0xF0060008, 1, 0x0, [⟨31, 0, .rw, 0⟩]⟩,  -- LPE_MAXLAT (R382)
  ⟨0xF006000C, 1, 0x0, [⟨31, 0, .rc, 0⟩]⟩,  -- LPE_EXECS (R382)
  ⟨0xF0060010, 1, 0x0, [⟨31, 0, .rc, 0⟩]⟩,  -- LPE_SKIP (R382)
  ⟨0xF0060020, 1, 0x0, [⟨11, 0, .rw, 0⟩]⟩,  -- LPE_RSEL (R383)
  ⟨0xF0060100, 32, 0x4, [⟨31, 0, .rw, 0⟩]⟩,  -- LPE_RWORD (R383)
  ⟨0xF0060400, 128, 0x4, [⟨31, 0, .w1c, 0⟩]⟩]  -- LPE_ALMPEND (R384)

/-- The registers of block NRG. -/
def regsNrg : List RegDef := [
  ⟨0xF0070000, 1, 0x0, [⟨23, 16, .rw, 20⟩, ⟨15, 8, .rw, 0⟩, ⟨0, 0, .rw, 1⟩]⟩,  -- NRG_CTRL (R420)
  ⟨0xF0070004, 1, 0x0, [⟨14, 0, .rw, 16000⟩]⟩,  -- NRG_ALLOW (R421)
  ⟨0xF0070008, 1, 0x0, [⟨13, 0, .rw, 2000⟩]⟩,  -- NRG_CAP (R421)
  ⟨0xF007000C, 1, 0x0, [⟨13, 0, .rw, 500⟩]⟩,  -- NRG_RES3 (R421)
  ⟨0xF0070010, 1, 0x0, [⟨31, 0, .ro, 2000⟩]⟩,  -- NRG_BAL (R422)
  ⟨0xF0070014, 1, 0x0, [⟨9, 8, .ro, 0⟩, ⟨4, 4, .w1c, 0⟩, ⟨3, 3, .w1c, 0⟩, ⟨2, 2, .ro, 0⟩, ⟨1, 1, .ro, 0⟩]⟩,  -- NRG_STAT (R422)
  ⟨0xF0070018, 1, 0x0, [⟨31, 0, .rc, 0⟩]⟩,  -- NRG_DEFICIT (R422)
  ⟨0xF0070020, 1, 0x0, [⟨31, 0, .ro, 0⟩]⟩,  -- NRG_INEL (R423)
  ⟨0xF0070024, 1, 0x0, [⟨31, 0, .ro, 0⟩]⟩,  -- NRG_INEH (R423)
  ⟨0xF0070028, 1, 0x0, [⟨15, 0, .ro, 0⟩]⟩,  -- NRG_INPWR (R423)
  ⟨0xF007002C, 1, 0x0, [⟨31, 16, .rw, 0⟩, ⟨15, 0, .ro, 0⟩]⟩,  -- NRG_TJ (R423)
  ⟨0xF0070030, 1, 0x0, [⟨15, 0, .ro, 0⟩]⟩,  -- NRG_CORETEMP (R423)
  ⟨0xF0070034, 1, 0x0, [⟨4, 0, .rw, 4⟩]⟩,  -- NRG_SCRUB (R424)
  ⟨0xF0070038, 1, 0x0, [⟨31, 16, .ro, 0⟩, ⟨9, 0, .ro, 0⟩]⟩,  -- NRG_SCRUBSTAT (R424)
  ⟨0xF007003C, 1, 0x0, [⟨31, 16, .rc, 0⟩, ⟨15, 0, .rc, 0⟩]⟩,  -- NRG_FORCED (R424)
  ⟨0xF0070040, 1, 0x0, [⟨4, 0, .rw, 0⟩]⟩,  -- NRG_TSEL (R425)
  ⟨0xF0070044, 4, 0x4, [⟨31, 0, .ro, 0⟩]⟩,  -- NRG_TDEM (R425)
  ⟨0xF0070054, 4, 0x4, [⟨31, 0, .ro, 0⟩]⟩,  -- NRG_TFULL (R425)
  ⟨0xF0070100, 4, 0x20, [⟨7, 7, .rw, 0⟩, ⟨6, 0, .rw, 36⟩]⟩,  -- NRG_ISLCTRL (R426)
  ⟨0xF0070104, 4, 0x20, [⟨22, 16, .ro, 36⟩, ⟨15, 0, .ro, 0⟩]⟩,  -- NRG_ISLSTAT (R427)
  ⟨0xF0070108, 4, 0x20, [⟨31, 0, .ro, 0⟩]⟩,  -- NRG_ISLEL (R427)
  ⟨0xF007010C, 4, 0x20, [⟨31, 0, .ro, 0⟩]⟩,  -- NRG_ISLEH (R427)
  ⟨0xF0070110, 4, 0x20, [⟨15, 0, .ro, 0⟩]⟩,  -- NRG_ISLPWR (R427)
  ⟨0xF0070114, 4, 0x20, [⟨15, 0, .ro, 0⟩]⟩]  -- NRG_ISLTEMP (R427)

/-- The registers of block HSB. -/
def regsHsb : List RegDef := [
  ⟨0xF0080000, 1, 0x0, [⟨8, 8, .rw, 1⟩, ⟨2, 2, .rw, 0⟩, ⟨1, 0, .rw, 0⟩]⟩,  -- HSB_CTRL (R474)
  ⟨0xF0080004, 1, 0x0, [⟨2, 2, .wo, 0⟩, ⟨1, 1, .wo, 0⟩, ⟨0, 0, .wo, 0⟩]⟩,  -- HSB_CMD (R475)
  ⟨0xF0080008, 1, 0x0, [⟨31, 28, .ro, 0⟩, ⟨17, 17, .ro, 1⟩, ⟨16, 16, .ro, 1⟩, ⟨15, 8, .ro, 0⟩, ⟨7, 7, .ro, 0⟩, ⟨3, 0, .ro, 1⟩]⟩,  -- HSB_STAT (R476)
  ⟨0xF008000C, 1, 0x0, [⟨31, 0, .ro, 0⟩]⟩,  -- HSB_EPSTORE (R477)
  ⟨0xF0080010, 1, 0x0, [⟨18, 0, .ro, 0⟩]⟩,  -- HSB_DLOAD (R477)
  ⟨0xF0080014, 1, 0x0, [⟨18, 0, .ro, 0⟩]⟩,  -- HSB_DWORST (R477)
  ⟨0xF0080018, 1, 0x0, [⟨31, 0, .rc, 0⟩]⟩,  -- HSB_DIGERR (R477)
  ⟨0xF008001C, 1, 0x0, [⟨31, 0, .rc, 0⟩]⟩,  -- HSB_ACKLATE (R477)
  ⟨0xF0080020, 1, 0x0, [⟨31, 16, .ro, 0⟩, ⟨15, 0, .ro, 0⟩]⟩,  -- HSB_SWCNT (R477)
  ⟨0xF0080024, 1, 0x0, [⟨31, 0, .ro, 0⟩]⟩,  -- HSB_SWTL (R477)
  ⟨0xF0080028, 1, 0x0, [⟨31, 0, .ro, 0⟩]⟩,  -- HSB_SWTH (R477)
  ⟨0xF008002C, 1, 0x0, [⟨31, 0, .ro, 0⟩]⟩,  -- HSB_TOFF (R477)
  ⟨0xF0080030, 1, 0x0, [⟨31, 16, .rc, 0⟩, ⟨15, 0, .rc, 0⟩]⟩,  -- HSB_HBMISS (R477)
  ⟨0xF0080040, 1, 0x0, [⟨31, 30, .ro, 0⟩, ⟨25, 16, .ro, 0⟩, ⟨15, 0, .ro, 0⟩]⟩,  -- HSB_FEEDA (R478)
  ⟨0xF0080044, 1, 0x0, [⟨31, 30, .ro, 0⟩, ⟨25, 16, .ro, 0⟩, ⟨15, 0, .ro, 0⟩]⟩,  -- HSB_FEEDB (R478)
  ⟨0xF0080048, 1, 0x0, [⟨1, 1, .w1c, 0⟩, ⟨0, 0, .ro, 0⟩]⟩]  -- HSB_PWR (R478)

/-- The registers of block JRN. -/
def regsJrn : List RegDef := [
  ⟨0xF0090000, 1, 0x0, [⟨1, 1, .rw, 0⟩, ⟨0, 0, .rw, 1⟩]⟩,  -- JRN_CTRL (R516)
  ⟨0xF0090004, 1, 0x0, [⟨31, 28, .ro, 0⟩, ⟨22, 16, .ro, 0⟩, ⟨14, 8, .ro, 0⟩, ⟨1, 0, .ro, 0⟩]⟩,  -- JRN_STAT (R517)
  ⟨0xF0090008, 1, 0x0, [⟨31, 0, .rc, 0⟩]⟩,  -- JRN_BUSYCNT (R518)
  ⟨0xF009000C, 1, 0x0, [⟨31, 0, .rc, 0⟩]⟩,  -- JRN_AUTHFAIL (R518)
  ⟨0xF0090010, 1, 0x0, [⟨31, 0, .rc, 0⟩]⟩,  -- JRN_DISCARD (R518)
  ⟨0xF0090020, 1, 0x0, [⟨31, 31, .ro, 0⟩, ⟨5, 0, .ro, 0⟩]⟩,  -- JRN_FWNEXT (R519)
  ⟨0xF0090024, 1, 0x0, [⟨5, 0, .rw, 0⟩]⟩,  -- JRN_SLOTSEL (R519)
  ⟨0xF0090028, 1, 0x0, [⟨31, 30, .ro, 0⟩, ⟨29, 27, .ro, 0⟩, ⟨7, 0, .ro, 0⟩]⟩,  -- JRN_SLOTINFO (R519)
  ⟨0xF009002C, 1, 0x0, [⟨0, 0, .wo, 0⟩]⟩,  -- JRN_DONE (R519)
  ⟨0xF0090400, 260, 0x4, [⟨31, 0, .rw, 0⟩]⟩]  -- JRN_MSG (R519)

/-- The registers of block DIO. -/
def regsDio : List RegDef := [
  ⟨0xF00A0000, 1, 0x0, [⟨25, 16, .rw, 50⟩]⟩,  -- DIO_FCTRL (R561)
  ⟨0xF00A0004, 1, 0x0, [⟨11, 11, .ro, 0⟩, ⟨10, 10, .ro, 0⟩, ⟨9, 9, .w1c, 0⟩, ⟨8, 8, .w1c, 0⟩, ⟨2, 0, .ro, 0⟩]⟩,  -- DIO_FSTAT (R562)
  ⟨0xF00A0008, 1, 0x0, [⟨1, 1, .wo, 0⟩, ⟨0, 0, .wo, 0⟩]⟩,  -- DIO_FCMD (R563)
  ⟨0xF00A000C, 1, 0x0, [⟨15, 0, .ro, 0⟩]⟩,  -- DIO_VFIELD (R563)
  ⟨0xF00A0010, 1, 0x0, [⟨31, 0, .ro, 0⟩]⟩,  -- DIO_IN (R564)
  ⟨0xF00A0014, 1, 0x0, [⟨31, 0, .ro, 0⟩]⟩,  -- DIO_OUT (R564)
  ⟨0xF00A0018, 1, 0x0, [⟨31, 0, .ro, 0⟩]⟩,  -- DIO_FLT (R564)
  ⟨0xF00A0020, 1, 0x0, [⟨6, 0, .rw, 0⟩]⟩,  -- DIO_OWNSEL (R565)
  ⟨0xF00A0024, 1, 0x0, [⟨31, 28, .ro, 0⟩, ⟨4, 0, .ro, 0⟩]⟩,  -- DIO_OWNER (R565)
  ⟨0xF00A0100, 32, 0x20, [⟨16, 16, .rw, 0⟩, ⟨15, 14, .rw, 0⟩, ⟨13, 12, .rw, 0⟩, ⟨11, 11, .rw, 1⟩, ⟨7, 3, .rw, 0⟩, ⟨2, 0, .rw, 0⟩]⟩,  -- DIO_CFG (R566)
  ⟨0xF00A0104, 32, 0x20, [⟨15, 0, .rw, 1000⟩]⟩,  -- DIO_DEB (R567)
  ⟨0xF00A0108, 32, 0x20, [⟨31, 0, .rw, 4294967295⟩]⟩,  -- DIO_MAP (R567)
  ⟨0xF00A010C, 32, 0x20, [⟨31, 0, .rw, 4294967295⟩]⟩,  -- DIO_RBMAP (R567)
  ⟨0xF00A0110, 32, 0x20, [⟨12, 8, .w1c, 0⟩, ⟨4, 0, .ro, 0⟩]⟩,  -- DIO_DIAG (R568)
  ⟨0xF00A0800, 16, 0x10, [⟨0, 0, .rw, 0⟩]⟩,  -- DIO_ENCCTRL (R569)
  ⟨0xF00A0804, 16, 0x10, [⟨31, 0, .rw, 0⟩]⟩,  -- DIO_ENCCNT (R569)
  ⟨0xF00A0808, 16, 0x10, [⟨31, 0, .rw, 4294967295⟩]⟩,  -- DIO_ENCMAP (R569)
  ⟨0xF00A080C, 16, 0x10, [⟨31, 0, .rc, 0⟩]⟩]  -- DIO_ENCERR (R569)

/-- The registers of block AIO. -/
def regsAio : List RegDef := [
  ⟨0xF00B0000, 1, 0x0, [⟨15, 8, .ro, 0⟩, ⟨7, 0, .ro, 0⟩]⟩,  -- AIO_STAT (R570)
  ⟨0xF00B0004, 1, 0x0, [⟨31, 31, .rw, 0⟩, ⟨18, 16, .rw, 0⟩, ⟨12, 8, .rw, 0⟩, ⟨4, 0, .rw, 0⟩]⟩,  -- AIO_TRIM (R570)
  ⟨0xF00B0100, 8, 0x40, [⟨11, 7, .rw, 0⟩, ⟨6, 6, .rw, 1⟩, ⟨5, 4, .rw, 0⟩, ⟨3, 3, .rw, 0⟩, ⟨2, 0, .rw, 0⟩]⟩,  -- AIO_CFG (R571)
  ⟨0xF00B0104, 8, 0x40, [⟨9, 0, .rw, 200⟩]⟩,  -- AIO_FILT (R572)
  ⟨0xF00B0108, 8, 0x40, [⟨31, 0, .rw, 4294967295⟩]⟩,  -- AIO_MAP (R572)
  ⟨0xF00B010C, 8, 0x40, [⟨31, 0, .rw, 4294967295⟩]⟩,  -- AIO_RBMAP (R572)
  ⟨0xF00B0110, 8, 0x40, [⟨14, 0, .rw, 0⟩]⟩,  -- AIO_SAFE (R572)
  ⟨0xF00B0114, 8, 0x40, [⟨31, 0, .ro, 0⟩]⟩,  -- AIO_MEAS (R573)
  ⟨0xF00B0118, 8, 0x40, [⟨31, 0, .ro, 0⟩]⟩,  -- AIO_CMD (R573)
  ⟨0xF00B011C, 8, 0x40, [⟨15, 8, .w1c, 0⟩, ⟨7, 0, .ro, 0⟩]⟩,  -- AIO_DIAG (R573)
  ⟨0xF00B0120, 8, 0x40, [⟨31, 0, .ro, 0⟩]⟩]  -- AIO_RAW (R573)

/-- The registers of block CAN0; those of CAN1 lie 0x1_0000 higher. -/
def regsCan0 : List RegDef := [
  ⟨0xF00C0000, 1, 0x0, [⟨8, 8, .w1c, 0⟩, ⟨7, 7, .wo, 0⟩, ⟨5, 5, .rw, 0⟩, ⟨4, 3, .rw, 0⟩, ⟨2, 2, .rw, 1⟩, ⟨0, 0, .rw, 0⟩]⟩,  -- CAN_CTRL (R590)
  ⟨0xF00C0004, 1, 0x0, [⟨31, 24, .rw, 62⟩, ⟨23, 17, .rw, 15⟩, ⟨16, 10, .rw, 15⟩, ⟨4, 0, .rw, 1⟩]⟩,  -- CAN_NBT (R591)
  ⟨0xF00C0008, 1, 0x0, [⟨28, 24, .rw, 30⟩, ⟨23, 20, .rw, 7⟩, ⟨19, 16, .rw, 7⟩, ⟨4, 0, .rw, 0⟩]⟩,  -- CAN_DBT (R591)
  ⟨0xF00C000C, 1, 0x0, [⟨15, 15, .rw, 1⟩, ⟨14, 8, .rw, 32⟩, ⟨6, 0, .ro, 0⟩]⟩,  -- CAN_TDC (R591)
  ⟨0xF00C0010, 1, 0x0, [⟨27, 25, .ro, 0⟩, ⟨24, 16, .ro, 0⟩, ⟨15, 8, .ro, 0⟩]⟩,  -- CAN_STAT (R592)
  ⟨0xF00C0014, 1, 0x0, [⟨31, 16, .rc, 0⟩, ⟨7, 7, .ro, 0⟩, ⟨2, 0, .ro, 0⟩]⟩,  -- CAN_ERR (R592)
  ⟨0xF00C0018, 1, 0x0, [⟨31, 0, .rc, 0⟩]⟩,  -- CAN_RXOVF (R592)
  ⟨0xF00C001C, 1, 0x0, [⟨7, 7, .w1c, 0⟩, ⟨6, 6, .w1c, 0⟩, ⟨5, 5, .w1c, 0⟩, ⟨4, 2, .w1c, 0⟩, ⟨1, 1, .w1c, 0⟩, ⟨0, 0, .w1c, 0⟩]⟩,  -- CAN_EVT (R593)
  ⟨0xF00C0020, 1, 0x0, [⟨7, 7, .rw, 0⟩, ⟨6, 6, .rw, 0⟩, ⟨5, 5, .rw, 0⟩, ⟨4, 2, .rw, 0⟩, ⟨1, 1, .rw, 0⟩, ⟨0, 0, .rw, 0⟩]⟩,  -- CAN_EVTEN (R593)
  ⟨0xF00C0100, 2, 0x80, [⟨11, 11, .rw, 0⟩, ⟨10, 10, .wo, 0⟩, ⟨9, 9, .rw, 0⟩, ⟨3, 0, .rw, 0⟩]⟩,  -- CAN_TXCTRL (R594)
  ⟨0xF00CF000, 1, 0, [⟨11, 11, .rw, 0⟩, ⟨10, 10, .wo, 0⟩, ⟨9, 9, .rw, 0⟩, ⟨3, 0, .rw, 0⟩]⟩,  -- CAN_TXCTRL of buffer 2, kept apart (R594)
  ⟨0xF00C0104, 2, 0x80, [⟨31, 31, .rw, 0⟩, ⟨30, 30, .rw, 0⟩, ⟨29, 29, .rw, 0⟩, ⟨28, 0, .rw, 0⟩]⟩,  -- CAN_TXID (R594)
  ⟨0xF00CF004, 1, 0, [⟨31, 31, .rw, 0⟩, ⟨30, 30, .rw, 0⟩, ⟨29, 29, .rw, 0⟩, ⟨28, 0, .rw, 0⟩]⟩,  -- CAN_TXID of buffer 2, kept apart (R594)
  ⟨0xF00C0108, 2, 0x80, [⟨31, 24, .ro, 0⟩, ⟨23, 16, .ro, 0⟩, ⟨2, 0, .ro, 0⟩]⟩,  -- CAN_TXSTAT (R594)
  ⟨0xF00CF008, 1, 0, [⟨31, 24, .ro, 0⟩, ⟨23, 16, .ro, 0⟩, ⟨2, 0, .ro, 0⟩]⟩,  -- CAN_TXSTAT of buffer 2, kept apart (R594)
  ⟨0xF00C0110, 16, 4, [⟨31, 0, .rw, 0⟩]⟩,  -- CAN_TXDATA (R594)
  ⟨0xF00C0190, 16, 4, [⟨31, 0, .rw, 0⟩]⟩,  -- CAN_TXDATA (R594)
  ⟨0xF00CF010, 16, 4, [⟨31, 0, .rw, 0⟩]⟩,  -- CAN_TXDATA of buffer 2, kept apart (R594)
  ⟨0xF00C0200, 1, 0x0, [⟨5, 0, .ro, 0⟩]⟩,  -- CAN_RXCNT (R595)
  ⟨0xF00C0204, 1, 0x0, [⟨31, 31, .ro, 0⟩, ⟨28, 0, .ro, 0⟩]⟩,  -- CAN_RXID (R595)
  ⟨0xF00C0208, 1, 0x0, [⟨31, 31, .ro, 0⟩, ⟨30, 30, .ro, 0⟩, ⟨29, 29, .ro, 0⟩, ⟨28, 28, .ro, 0⟩, ⟨15, 12, .ro, 0⟩, ⟨3, 0, .ro, 0⟩]⟩,  -- CAN_RXINFO (R595)
  ⟨0xF00C020C, 1, 0x0, [⟨31, 0, .ro, 0⟩]⟩,  -- CAN_RXTIME (R595)
  ⟨0xF00C0210, 16, 0x4, [⟨31, 0, .ro, 0⟩]⟩,  -- CAN_RXDATA (R595)
  ⟨0xF00C0250, 1, 0x0, [⟨0, 0, .wo, 0⟩]⟩,  -- CAN_RXPOP (R595)
  ⟨0xF00C0400, 16, 0x8, [⟨31, 31, .rw, 0⟩, ⟨30, 30, .rw, 0⟩, ⟨28, 0, .rw, 0⟩]⟩,  -- CAN_FLTID (R596)
  ⟨0xF00C0404, 16, 0x8, [⟨28, 0, .rw, 0⟩]⟩]  -- CAN_FLTMSK (R596)

/-- The registers of block SAF. -/
def regsSaf : List RegDef := [
  ⟨0xF00E0000, 1, 0x0, [⟨19, 16, .ro, 0⟩, ⟨8, 8, .ro, 0⟩, ⟨1, 0, .ro, 0⟩]⟩,  -- SAF_STAT (R624)
  ⟨0xF00E0004, 1, 0x0, [⟨31, 0, .ro, 0⟩]⟩,  -- SAF_CHK (R625)
  ⟨0xF00E0008, 1, 0x0, [⟨31, 0, .ro, 0⟩]⟩,  -- SAF_CONF (R625)
  ⟨0xF00E000C, 1, 0x0, [⟨0, 0, .wo, 0⟩]⟩,  -- SAF_CMD (R625)
  ⟨0xF00E0010, 1, 0x0, [⟨31, 0, .ro, 0⟩]⟩,  -- SAF_LSERR (R625)
  ⟨0xF00E0014, 1, 0x0, [⟨15, 8, .ro, 0⟩, ⟨7, 0, .ro, 0⟩]⟩,  -- SAF_INPUT (R625)
  ⟨0xF00E0100, 8, 0x4, [⟨31, 16, .ro, 0⟩, ⟨15, 8, .ro, 0⟩, ⟨1, 0, .ro, 0⟩]⟩,  -- SAF_AX (R625)
  ⟨0xF00E0200, 32, 0x4, [⟨31, 16, .ro, 0⟩, ⟨1, 0, .ro, 0⟩]⟩]  -- SAF_CONN (R625)

/-- The registers of block NVM. -/
def regsNvm : List RegDef := [
  ⟨0xF00F0000, 1, 0x0, [⟨7, 7, .w1c, 0⟩, ⟨6, 6, .w1c, 0⟩, ⟨5, 5, .w1c, 0⟩, ⟨4, 4, .ro, 0⟩, ⟨3, 2, .ro, 0⟩, ⟨1, 1, .ro, 0⟩, ⟨0, 0, .ro, 1⟩]⟩,  -- NVM_STAT (R658)
  ⟨0xF00F0004, 1, 0x0, [⟨31, 31, .ro, 1⟩, ⟨1, 0, .rw, 0⟩]⟩,  -- NVM_PROT (R659)
  ⟨0xF00F0008, 1, 0x0, [⟨31, 0, .ro, 0⟩]⟩,  -- NVM_SYNC (R659)
  ⟨0xF00F000C, 1, 0x0, [⟨15, 0, .ro, 0⟩]⟩,  -- NVM_RECT (R659)
  ⟨0xF00F0010, 1, 0x0, [⟨31, 24, .ro, 0⟩, ⟨23, 16, .ro, 0⟩, ⟨15, 8, .ro, 0⟩, ⟨7, 0, .ro, 0⟩]⟩,  -- NVM_RECRES (R659)
  ⟨0xF00F0014, 1, 0x0, [⟨31, 0, .rc, 0⟩]⟩,  -- NVM_WERRCNT (R659)
  ⟨0xF00F0018, 1, 0x0, [⟨31, 31, .ro, 0⟩, ⟨30, 30, .ro, 0⟩, ⟨20, 0, .ro, 0⟩]⟩,  -- NVM_SAVE (R659)
  ⟨0xF00F001C, 1, 0x0, [⟨31, 0, .ro, 0⟩]⟩,  -- NVM_SAVESEQ (R659)
  ⟨0xF00F0100, 1, 0x0, [⟨25, 0, .rw, 0⟩]⟩,  -- NVM_FADDR (R659)
  ⟨0xF00F0104, 1, 0x0, [⟨31, 16, .wo, 0⟩, ⟨1, 0, .wo, 0⟩]⟩,  -- NVM_FCMD (R659)
  ⟨0xF00F0108, 1, 0x0, [⟨31, 31, .ro, 1⟩, ⟨10, 8, .w1c, 0⟩, ⟨0, 0, .ro, 0⟩]⟩,  -- NVM_FSTAT (R659)
  ⟨0xF00F0200, 64, 0x4, [⟨31, 0, .rw, 0⟩]⟩]  -- NVM_FBUF (R659)

/-- The registers of block RTC. -/
def regsRtc : List RegDef := [
  ⟨0xF0100010, 1, 0x0, [⟨7, 7, .w1c, 0⟩, ⟨6, 6, .w1c, 0⟩, ⟨5, 5, .ro, 0⟩, ⟨3, 3, .ro, 0⟩, ⟨2, 2, .ro, 0⟩, ⟨1, 1, .ro, 0⟩, ⟨0, 0, .ro, 0⟩]⟩,  -- RTC_STAT (R660)
  ⟨0xF0100000, 1, 0x0, [⟨23, 16, .ro, 0⟩, ⟨14, 0, .ro, 0⟩]⟩,  -- RTC_SUBSEC (R661)
  ⟨0xF0100004, 1, 0x0, [⟨31, 0, .ro, 0⟩]⟩,  -- RTC_SECL (R661)
  ⟨0xF0100008, 1, 0x0, [⟨7, 0, .ro, 0⟩]⟩,  -- RTC_SECH (R661)
  ⟨0xF010000C, 1, 0x0, [⟨31, 16, .ro, 0⟩, ⟨11, 8, .ro, 0⟩, ⟨7, 5, .ro, 0⟩, ⟨4, 0, .ro, 0⟩]⟩,  -- RTC_CAL0 (R661)
  ⟨0xF0100014, 1, 0x0, [⟨31, 24, .ro, 0⟩, ⟨20, 16, .ro, 0⟩, ⟨13, 8, .ro, 0⟩, ⟨5, 0, .ro, 0⟩]⟩,  -- RTC_CAL1 (R661)
  ⟨0xF0100018, 1, 0x0, [⟨15, 0, .ro, 0⟩]⟩,  -- RTC_VBAT (R661)
  ⟨0xF0100020, 1, 0x0, [⟨31, 0, .rw, 0⟩]⟩,  -- RTC_STGL (R661)
  ⟨0xF0100024, 1, 0x0, [⟨7, 0, .rw, 0⟩]⟩,  -- RTC_STGH (R661)
  ⟨0xF0100028, 1, 0x0, [⟨1, 1, .wo, 0⟩, ⟨0, 0, .wo, 0⟩]⟩,  -- RTC_CMD (R661)
  ⟨0xF0100030, 1, 0x0, [⟨31, 16, .ro, 0⟩, ⟨8, 0, .ro, 0⟩]⟩,  -- RTC_CORR (R661)
  ⟨0xF0100034, 1, 0x0, [⟨31, 16, .rw, 0⟩, ⟨15, 0, .rw, 0⟩]⟩,  -- RTC_MODEL0 (R661)
  ⟨0xF0100038, 1, 0x0, [⟨31, 0, .rw, 0⟩]⟩,  -- RTC_MODEL1 (R661)
  ⟨0xF010003C, 1, 0x0, [⟨15, 0, .rw, 0⟩]⟩,  -- RTC_MODEL2 (R661)
  ⟨0xF0100040, 1, 0x0, [⟨31, 0, .rw, 0⟩]⟩,  -- RTC_ALML (R661)
  ⟨0xF0100044, 1, 0x0, [⟨8, 8, .rw, 0⟩, ⟨7, 0, .rw, 0⟩]⟩,  -- RTC_ALMH (R661)
  ⟨0xF0100050, 1, 0x0, [⟨14, 0, .ro, 0⟩]⟩,  -- RTC_LSUB (R661)
  ⟨0xF0100054, 1, 0x0, [⟨31, 0, .ro, 0⟩]⟩,  -- RTC_LSECL (R661)
  ⟨0xF0100058, 1, 0x0, [⟨7, 0, .ro, 0⟩]⟩,  -- RTC_LSECH (R661)
  ⟨0xF0100100, 16, 0x4, [⟨31, 0, .ro, 0⟩]⟩,  -- RTC_BK (R661)
  ⟨0xF0100140, 16, 0x4, [⟨31, 0, .rw, 0⟩]⟩]  -- RTC_BKSTG (R661)

/-- The registers of block WDG. -/
def regsWdg : List RegDef := [
  ⟨0xF0110000, 1, 0x0, [⟨15, 0, .wo, 0⟩]⟩,  -- WDG_KEY (R694)
  ⟨0xF0110004, 1, 0x0, [⟨31, 16, .rw, 10000⟩, ⟨15, 4, .rw, 0⟩, ⟨1, 1, .rw, 1⟩, ⟨0, 0, .rw, 1⟩]⟩,  -- WDG_CTRL (R695)
  ⟨0xF0110008, 1, 0x0, [⟨23, 16, .ro, 0⟩, ⟨11, 8, .ro, 0⟩, ⟨3, 3, .w1c, 0⟩, ⟨2, 2, .w1c, 0⟩, ⟨1, 1, .ro, 0⟩, ⟨0, 0, .ro, 0⟩]⟩,  -- WDG_STAT (R696)
  ⟨0xF011000C, 1, 0x0, [⟨31, 0, .ro, 10000000⟩]⟩]  -- WDG_REMAIN (R697)

/-- The registers of block FRZ. -/
def regsFrz : List RegDef := [
  ⟨0xF0120000, 1, 0x0, [⟨11, 0, .rw, 0⟩]⟩,  -- FRZ_CTRL (R698)
  ⟨0xF0120004, 1, 0x0, [⟨0, 0, .wo, 0⟩]⟩,  -- FRZ_CMD (R698)
  ⟨0xF0120008, 1, 0x0, [⟨15, 15, .ro, 0⟩, ⟨14, 14, .ro, 0⟩, ⟨13, 13, .w1c, 0⟩, ⟨10, 8, .ro, 0⟩, ⟨6, 0, .ro, 0⟩]⟩,  -- FRZ_STAT (R699)
  ⟨0xF0120010, 1, 0x0, [⟨31, 0, .ro, 0⟩]⟩,  -- FRZ_LASTTL (R700)
  ⟨0xF0120014, 1, 0x0, [⟨31, 0, .ro, 0⟩]⟩,  -- FRZ_LASTTH (R700)
  ⟨0xF0120018, 1, 0x0, [⟨31, 0, .ro, 0⟩]⟩,  -- FRZ_LASTDUR (R700)
  ⟨0xF012001C, 1, 0x0, [⟨31, 0, .rc, 0⟩]⟩]  -- FRZ_COUNT (R700)

/-- The registers of block REC. -/
def regsRec : List RegDef := [
  ⟨0xF0130000, 1, 0x0, [⟨7, 7, .rw, 0⟩, ⟨5, 4, .rw, 1⟩, ⟨0, 0, .rw, 0⟩]⟩,  -- REC_CTRL (R701)
  ⟨0xF0130004, 1, 0x0, [⟨31, 16, .rw, 20⟩, ⟨15, 0, .rw, 10⟩]⟩,  -- REC_RATE (R701)
  ⟨0xF0130008, 1, 0x0, [⟨22, 16, .ro, 0⟩, ⟨3, 3, .ro, 0⟩, ⟨2, 2, .ro, 1⟩, ⟨1, 1, .ro, 0⟩, ⟨0, 0, .ro, 0⟩]⟩,  -- REC_STAT (R702)
  ⟨0xF013000C, 1, 0x0, [⟨31, 0, .ro, 0⟩]⟩,  -- REC_NEXTSEQ (R703)
  ⟨0xF0130010, 1, 0x0, [⟨14, 0, .ro, 0⟩]⟩,  -- REC_HELD (R703)
  ⟨0xF0130020, 4, 0x4, [⟨31, 0, .rc, 0⟩]⟩,  -- REC_LOST (R703)
  ⟨0xF0130030, 1, 0x0, [⟨31, 0, .rc, 0⟩]⟩,  -- REC_SUPPR (R703)
  ⟨0xF0130040, 1, 0x0, [⟨31, 0, .wo, 0⟩]⟩,  -- REC_CLR (R703)
  ⟨0xF0130100, 4, 0x4, [⟨31, 0, .rw, 0⟩]⟩,  -- REC_FRZMASK (R703)
  ⟨0xF0130200, 24, 0x4, [⟨31, 30, .rw, 0⟩, ⟨23, 0, .rw, 0⟩]⟩,  -- REC_SNAP (R704)
  ⟨0xF0130300, 24, 0x4, [⟨31, 0, .rw, 0⟩]⟩,  -- REC_WBUF (R705)
  ⟨0xF0130370, 1, 0x0, [⟨31, 24, .rw, 0⟩, ⟨23, 0, .rw, 0⟩]⟩,  -- REC_WSRC (R705)
  ⟨0xF0130374, 1, 0x0, [⟨31, 16, .wo, 0⟩, ⟨15, 11, .wo, 0⟩, ⟨1, 0, .wo, 0⟩]⟩,  -- REC_WSUB (R705)
  ⟨0xF0130378, 1, 0x0, [⟨1, 0, .ro, 0⟩]⟩]  -- REC_WSTAT (R705)

/-- The registers of block EVC. -/
def regsEvc : List RegDef := [
  ⟨0xF0140000, 128, 0x4, [⟨6, 6, .rw, 0⟩, ⟨5, 5, .rw, 0⟩, ⟨4, 4, .rw, 0⟩, ⟨3, 0, .rw, 0⟩]⟩,  -- EVC_ROUTE (R39)
  ⟨0xF0140200, 4, 0x4, [⟨31, 0, .w1c, 0⟩]⟩,  -- EVC_PEND (R40)
  ⟨0xF0140300, 1, 0x0, [⟨6, 0, .wo, 0⟩]⟩,  -- EVC_RAISE (R41)
  ⟨0xF0140310, 1, 0x0, [⟨31, 0, .rc, 0⟩]⟩,  -- EVC_OVFCNT (R42)
  ⟨0xF0140314, 1, 0x0, [⟨7, 7, .w1c, 0⟩, ⟨6, 0, .ro, 0⟩]⟩]  -- EVC_STAT (R43)

/-- The registers of block TRC. -/
def regsTrc : List RegDef := [
  ⟨0xF0150100, 8, 0x80, [⟨31, 30, .rw, 0⟩, ⟨27, 16, .rw, 0⟩, ⟨15, 12, .rw, 0⟩, ⟨11, 8, .rw, 0⟩, ⟨7, 0, .rw, 0⟩]⟩,  -- TRC_CFG (R385)
  ⟨0xF0150104, 8, 0x80, [⟨13, 8, .rw, 0⟩, ⟨6, 0, .rw, 1⟩]⟩,  -- TRC_REGION (R386)
  ⟨0xF0150108, 8, 0x80, [⟨15, 0, .rw, 1⟩]⟩,  -- TRC_DIV (R386)
  ⟨0xF015010C, 8, 0x80, [⟨31, 29, .rw, 0⟩, ⟨28, 28, .rw, 0⟩, ⟨18, 16, .rw, 0⟩, ⟨6, 0, .rw, 50⟩]⟩,  -- TRC_TRIG (R387)
  ⟨0xF0150110, 8, 0x80, [⟨31, 0, .rw, 0⟩]⟩,  -- TRC_LEVEL (R387)
  ⟨0xF0150114, 8, 0x80, [⟨2, 2, .wo, 0⟩, ⟨1, 1, .wo, 0⟩, ⟨0, 0, .wo, 0⟩]⟩,  -- TRC_CMD (R388)
  ⟨0xF0150118, 8, 0x80, [⟨10, 8, .ro, 0⟩, ⟨3, 3, .ro, 0⟩, ⟨2, 0, .ro, 0⟩]⟩,  -- TRC_STAT (R388)
  ⟨0xF015011C, 8, 0x80, [⟨21, 0, .ro, 0⟩]⟩,  -- TRC_COUNT (R389)
  ⟨0xF0150120, 8, 0x80, [⟨21, 0, .ro, 0⟩]⟩,  -- TRC_OLDEST (R389)
  ⟨0xF0150124, 8, 0x80, [⟨21, 0, .ro, 0⟩]⟩,  -- TRC_TRIGPOS (R389)
  ⟨0xF0150128, 8, 0x80, [⟨31, 0, .rc, 0⟩]⟩,  -- TRC_GAPS (R389)
  ⟨0xF0150140, 8, 4, [⟨31, 0, .rw, 0⟩]⟩,  -- TRC_SIG (R390)
  ⟨0xF01501C0, 8, 4, [⟨31, 0, .rw, 0⟩]⟩,  -- TRC_SIG (R390)
  ⟨0xF0150240, 8, 4, [⟨31, 0, .rw, 0⟩]⟩,  -- TRC_SIG (R390)
  ⟨0xF01502C0, 8, 4, [⟨31, 0, .rw, 0⟩]⟩,  -- TRC_SIG (R390)
  ⟨0xF0150340, 8, 4, [⟨31, 0, .rw, 0⟩]⟩,  -- TRC_SIG (R390)
  ⟨0xF01503C0, 8, 4, [⟨31, 0, .rw, 0⟩]⟩,  -- TRC_SIG (R390)
  ⟨0xF0150440, 8, 4, [⟨31, 0, .rw, 0⟩]⟩,  -- TRC_SIG (R390)
  ⟨0xF01504C0, 8, 4, [⟨31, 0, .rw, 0⟩]⟩]  -- TRC_SIG (R390)

/-- The register definitions of the block that holds an address, by the block number of R29. CAN1 has the registers of
CAN0. -/
def blockRegs (blk : Nat) : List RegDef :=
  match blk with
  | 0 => regsSys
  | 1 => regsTsk
  | 2 => regsSeg
  | 3 => regsLane
  | 4 => regsGz
  | 5 => regsPhr
  | 6 => regsLpe
  | 7 => regsNrg
  | 8 => regsHsb
  | 9 => regsJrn
  | 10 => regsDio
  | 11 => regsAio
  | 12 => regsCan0
  | 14 => regsSaf
  | 15 => regsNvm
  | 16 => regsRtc
  | 17 => regsWdg
  | 18 => regsFrz
  | 19 => regsRec
  | 20 => regsEvc
  | 21 => regsTrc
  | 13 => regsCan0
  | _ => []

end Sys2Proof.Machine
end

