-- ==== Sys2Proof/Machine/RegFile.lean ====
section
/-!
DEFINITION. RegFile.lean: the register file behind the register table: which register an address is, what it reads as
after reset (R7), and the file itself, which lists the registers whose value is another than that.
-/
namespace Sys2Proof.Machine

/-- The field's place in a word, as a mask. -/
def FieldDef.mask (f : FieldDef) : Nat := (2 ^ (f.hi + 1 - f.lo) - 1) <<< f.lo

/-- The word that the reset values of a register's fields form. -/
def RegDef.resetWord (d : RegDef) : Nat := d.fields.foldl (fun n f => n + f.rst <<< f.lo) 0

/-- A register, or an array of them, lies at an address. -/
def RegDef.holds (d : RegDef) (a : Nat) : Bool :=
  decide (d.base ≤ a) && (a == d.base || (decide (d.stride ≠ 0) && (a - d.base) % d.stride == 0
    && decide ((a - d.base) / d.stride < d.count)))

/-- The first register of a list that lies at an address. -/
def findReg (ds : List RegDef) (a : Nat) : Option RegDef :=
  match ds with
  | [] => none
  | d :: rest => if d.holds a then some d else findReg rest a

/-- The register at an address of the peripheral area, if there is one (R29). The registers of CAN1 are those of CAN0,
0x1_0000 higher. -/
def regDefAt (a : Nat) : Option RegDef :=
  let blk := (a - 0xF0000000) / 0x10000
  if a < 0xF0000000 then none else findReg (blockRegs blk) (if blk = 13 then a - 0x10000 else a)

/-- What the register at an address holds after reset. TSK_CTRLk.PRIO is k after reset (R95). -/
def regReset (a : Nat) : Nat :=
  let base := match regDefAt a with
    | some d => d.resetWord
    | none => 0
  if 0xF0010100 ≤ a ∧ a < 0xF0010700 ∧ (a - 0xF0010100) % 0x40 = 0 then
    base + ((a - 0xF0010100) / 0x40) * 16
  else base

/-- The register file: the registers that hold another value than after reset. -/
abbrev RegFile := Tbl Word

/-- What the register at an address holds. -/
def RegFile.at (t : RegFile) (a : Nat) : Word := t.get (toWord (regReset a)) a

/-- The file with a word in the register at an address. -/
def RegFile.put (t : RegFile) (a : Nat) (w : Word) : RegFile := t.set (toWord (regReset a)) a w

/-- The form the file is kept in: addresses rising, no register listed with its value after reset. -/
def RegFile.wf (t : RegFile) : Bool :=
  match t with
  | [] => true
  | [(a, w)] => decide (w ≠ toWord (regReset a))
  | (a, w) :: (b, v) :: rest => decide (w ≠ toWord (regReset a)) && decide (a < b) && RegFile.wf ((b, v) :: rest)

end Sys2Proof.Machine
end

