-- ==== Sys2Proof/Machine/State.lean ====
section
/-!
DEFINITION. State.lean: everything the spec gives the module, as plain data: the register file, the memories, the units
that execute instructions, and block by block what their registers do not hold; the queue of waiting commands; and a
counter for the values that the spec leaves open.

Tables (`Tbl`) list what differs from a default; sets (`NSet`) list numbers. Instants are timebase nanoseconds (R6).
-/
namespace Sys2Proof.Machine

/-! ### Units (R191 to R203, R216 to R219) -/

/-- What a waiting core waits for (R223, R224). -/
inductive Wait where
  | none
  | wfe (mask : Word) (bank : Nat)
  | wtu (time : Nat) (mask : Word) (bank : Nat)
deriving DecidableEq, Repr

/-- A segment run in progress on a unit (R216, R219, R140). -/
structure Run where
  seg      : Nat := 0
  task     : Nat := 0
  rank     : Nat := 0
  audit    : Bool := false
  taskTime : Nat := 0
  /-- first byte of the segment's code, and the byte after its last -/
  lo       : Nat := 0
  hi       : Nat := 0
  /-- the write buffer, or the audit buffer: bytes under their addresses -/
  wbuf     : Mem := []
  /-- the earliest wheel-entry candidate offered (R261) -/
  wheel    : Option Nat := none
  /-- an edge instruction yielded 1 (R256) -/
  edge     : Bool := false
  /-- an audit run that has ended, with its finding: `none` no finding, `some a` a mismatch at address `a` (R140) -/
  done     : Bool := false
  broken   : Option Nat := none
  overflow : Bool := false
deriving DecidableEq, Repr

/-- A Serge core, the supervisor core, a lane, or the lock-stepped core pair of the safety partition. -/
structure UnitSt where
  g      : List Word := List.replicate 16 0
  pc     : Nat := 0
  exl    : Bool := false
  priv   : Nat := 1
  arith  : Word := 0
  hndl   : Word := 0
  expc   : Word := 0
  /-- PRIV resets as CSTAT's does (R197) -/
  exstat : Word := 0x10
  excause : Word := 0
  exaddr : Word := 0
  vbase  : Word := 0
  evpend : NSet := []
  ttime  : Nat := 0
  pw0b   : Word := 0
  pw0l   : Word := 0
  pw1b   : Word := 0
  pw1l   : Word := 0
  /-- register writes of a load whose delay slot is the next instruction (R217) -/
  slot   : List (Nat × Word) := []
  wait   : Wait := .none
  /-- stopped by a double fault until the fabric control resets the core (R233) -/
  halted : Bool := false
  run    : Option Run := none
deriving DecidableEq, Repr

/-! ### Process image (R44 to R68) -/

/-- A force record that waits for the release or the end of evaluation at which it takes effect (R65, R68): the Gauze
number of its group, and the mask and value that the group's force then has; mask 0 removes it. -/
structure ForceWait where
  g    : Nat
  mask : Word
  val  : Word
deriving DecidableEq, Repr

structure Image where
  /-- input side: sampling, evaluation and stable copy; output side: evaluation, transmit and stable copy (R50).
  Keys are Gauze group numbers below 147,456. -/
  samp   : Tbl Word := []
  eval   : Tbl Word := []
  xmit   : Tbl Word := []
  stable : Tbl Word := []
  /-- %MDk under k (R11) -/
  m      : Tbl Word := []
  /-- stations (256 × ring + station) committed for the present cycle; 2048 + task: its local inputs are delivered (R51) -/
  comm   : NSet := []
  /-- local input groups sampled with a channel fault (R58) -/
  bad    : NSet := []
  /-- input groups whose stable copy has quality 1 (R361) -/
  good   : NSet := []
  /-- a group's value from its last committed or delivered cycle (R51) -/
  last   : Tbl Word := []
  /-- forces in effect: masks and values under group numbers (R62) -/
  fmask  : Tbl Word := []
  fval   : Tbl Word := []
  fwait  : List ForceWait := []
  /-- what supervisor writes have changed in the analogue forcing table and the ownership table since firmware last wrote them:
  under the offset, the difference from firmware's byte (R47, log 86) -/
  sup    : Mem := []
  /-- per task, its status-space words and exchange slots as it saw them at its last release (R128, R129): key
  262144 × task + %M word -/
  seen   : Tbl Word := []
deriving DecidableEq, Repr

/-! ### Tasks (R69 to R105) -/

/-- An output that waits for its publication: u, whether a loop that takes it as a source finds it bad, and the word for
the image, `none` without a destination. -/
structure LoopOut where
  t    : Nat
  u    : Word
  bad  : Bool
  word : Option Word
  /-- the 28 bytes of state after the execution (R371) -/
  state : List Word := []
deriving DecidableEq, Repr

/-- A publication: the words that the stable copies of a task's groups take at its T_o, the quality of its input groups, and
the aligned loops whose outputs are published with them (R50, R56, R355). -/
structure Pub where
  vals  : List (Nat × Word) := []
  good  : List (Nat × Bool) := []
  loops : List (Nat × LoopOut) := []
deriving DecidableEq, Repr

inductive ProgState where
  | stopped | preparing | running | stopping
deriving DecidableEq, Repr

structure TaskSt where
  /-- the next sample instant of the task's grid, while the program runs (R70) -/
  nextTs   : Nat := 0
  /-- T_s or T_e of the present cycle -/
  ts       : Nat := 0
  /-- a cycle is in progress (from T_s to its T_o; from T_e to the end of evaluation) -/
  active   : Bool := false
  released : Bool := false
  relTime  : Nat := 0
  /-- the release steps (R51) and the exchange copy (R56) are still in progress -/
  relBusy  : Bool := false
  exchBusy : Bool := false
  evaluating : Bool := false
  /-- the cycle was begun by a module that is not the one to strike it (R447, R455) -/
  shadow   : Bool := false
  /-- the rank being evaluated (R131) -/
  rank     : Nat := 0
  /-- an event start held pending (R75) -/
  startPending : Bool := false
  /-- the next release is the first of the program run; the next release is a resync cycle (R135) -/
  first    : Bool := false
  resync   : Bool := false
  /-- this cycle evaluates every segment; this cycle holds an inline audit -/
  full     : Bool := false
  inline   : Bool := false
  /-- an uncorrectable subscription error keeps the task in full scan until the next module reset (R156) -/
  eccFull  : Bool := false
  /-- strike miss in the present cycle, whose outputs are not struck; the same of the cycle before (R79, R60) -/
  miss     : Bool := false
  missPrev : Bool := false
  /-- a station was missing or late in the present cycle; the same of the cycle before (R60, R98) -/
  late     : Bool := false
  latePrev : Bool := false
  /-- the strike instant of the present cycle has passed -/
  struck   : Bool := false
  /-- evaluation has ended and the transmit copy of the present cycle is formed -/
  ended    : Bool := false
  cycles   : Nat := 0
  /-- the counts of 0x40kk:0F, :10 and :11 (R106) -/
  lateCnt  : Nat := 0
  missCnt  : Nat := 0
  mrgCnt   : Nat := 0
  /-- the first evaluation after the start has ended (R81) -/
  evaluated : Bool := false
  /-- task time of the last evaluated cycle, kept over a stop (R262) -/
  lastTime : Nat := 0
  /-- handshakes measured per island in the present cycle, and the demands Q and Q_full (R411) -/
  hs       : List Nat := [0, 0, 0, 0]
  /-- stations (256 × ring + station) whose inputs were missing or late, or whose outputs failed, in the present cycle and
  in the cycle before (R59) -/
  bad      : NSet := []
  badPrev  : NSet := []
deriving DecidableEq, Repr

/-- The task sequencer's state beside its registers. -/
structure TskState where
  prog     : ProgState := .stopped
  /-- the start in progress is cold (R89) -/
  cold     : Bool := false
  /-- TSK_GSTAT.CAUSE and STOPTASK (R92) -/
  cause    : Nat := 0
  stopTask : Nat := 0xFF
  stopTime : Nat := 0
  /-- the instant PREPARING ended, and the instant of the entry to RUNNING (R88) -/
  prepEnd  : Option Nat := none
  runAt    : Nat := 0
  /-- the tasks, 0 to 23 -/
  tasks    : Tbl TaskSt := []
  /-- start of the task watchdog's present window; `none` while none runs (R81) -/
  wdStart  : Option Nat := none
  /-- tasks whose duplicate check-in of the present window has raised EV48 (R85) -/
  wdDupNow : NSet := []
  /-- 0x4020:04 or :05 has been accepted and waits for the next enable (R107) -/
  wdNext   : Bool := false
  /-- publications that an exchange copy in progress holds, oldest first (R56) -/
  held     : List Pub := []
deriving DecidableEq, Repr

/-! ### The downloaded program beside segment headers, code and subscriptions (R89, R55, R112, R262) -/

/-- An application object that Biwell exports (R495). `typ` is the code of R483, 0 for none; `rd` and `wr` have a bit for each
role; the value lies in `width` bits from bit `lo` of group `g`. Range and default are the type's bytes as numbers; `bounded`
is false where the export gives no range. -/
structure AppObj where
  typ     : Nat := 0
  rd      : Nat := 0
  wr      : Nat := 0
  g       : Nat := 0
  lo      : Nat := 0
  width   : Nat := 0
  task    : Nat := 0
  bounded : Bool := false
  min     : Nat := 0
  max     : Nat := 0
  dflt    : Nat := 0
deriving DecidableEq, Repr

/-- A segment header (R118). -/
structure Hdr where
  w0 : Word := 0
  w1 : Word := 0
  w2 : Word := 0
  w3 : Word := 0
deriving DecidableEq, Repr

structure Program where
  /-- initial values of %QX, %QD and %M groups, under Gauze numbers, and of data SRAM bytes -/
  init     : Tbl Word := []
  initSram : Mem := []
  /-- %M words and data SRAM bytes declared retentive -/
  retM     : NSet := []
  retSram  : NSet := []
  /-- instance records of timers: byte addresses (R262) -/
  timers   : NSet := []
  /-- %M words of the instance records of timers, counters and edge instructions (R89) -/
  instM    : NSet := []
  /-- exchange groups: key 65536 × task + i, value 524288 × source group + slot word (R55) -/
  exch     : Tbl Nat := []
  /-- windows of core-class segments: key 4 × segment + i, i = 0, 1 private data base and limit, 2, 3 stack (R219) -/
  win      : Tbl Word := []
  /-- application objects, under 256 × index + sub -/
  app      : Tbl AppObj := []
  /-- the program store's segment headers, directory, entries and code, and the registers that the configuration sets; firmware
  loads them at its start (log 37) -/
  hdr      : Tbl Hdr := []
  dir      : Tbl Word := []
  ent      : Tbl Word := []
  code     : Mem := []
  regs     : RegFile := []
  /-- check value of the program as it reports it (R748) -/
  check    : Word := 0
deriving DecidableEq, Repr

/-! ### Segments and Gauze (R110 to R190) -/

/-- A staging slot of the segment store (R149 to R151). -/
structure Staged where
  valid  : Bool := false
  remove : Bool := false
  seg    : Nat := 0
  hdr    : Hdr := {}
  rcount : Nat := 0
  wcount : Nat := 0
  ptr    : Nat := 0
  data   : Tbl Word := []
deriving DecidableEq, Repr

/-- State of a replacement (R148). -/
inductive StgState where
  | empty | staging | building | validating | armed | failed
deriving DecidableEq, Repr

/-- An item of an edit record (R145). -/
structure EditItem where
  kind : Nat
  seg  : Nat
  addr : Nat
  val  : Word
  mask : Word
deriving DecidableEq, Repr

/-- An accepted edit record that waits for the next release of its task (R146). -/
structure EditWait where
  task  : Nat
  items : List EditItem
deriving DecidableEq, Repr

/-- An idle audit in progress (R139). -/
structure Audit where
  task     : Nat
  time     : Nat
  /-- segments still to run, in rank order -/
  todo     : List Nat
  bytes    : Nat := 0
  firstSeg : Nat := 0
  firstAddr : Nat := 0
  found    : Bool := false
deriving DecidableEq, Repr

/-- A task's audit bookkeeping (R138, R142, R144, R183). -/
structure AuditSt where
  /-- start of the present audit interval -/
  start    : Nat := 0
  /-- an idle audit is requested (R175) -/
  req      : Bool := false
  fault    : Bool := false
  eqCount  : Nat := 0
  eqSeg    : Nat := 0
  eqAddr   : Nat := 0
  /-- counts of 0x41kk:04 and :05 (R190) -/
  done     : Nat := 0
  abandoned : Nat := 0
  /-- the task was in full-scan mode at its last release (R138) -/
  wasFull  : Bool := false
  /-- mismatching bytes of the inline audit in progress -/
  inBytes  : Nat := 0
  inSeg    : Nat := 0
  inAddr   : Nat := 0
  /-- GZ_AUDINT as it stood when the present interval began (R187) -/
  len      : Nat := 0
deriving DecidableEq, Repr

structure Gauze where
  hdr      : Tbl Hdr := []
  dir      : Tbl Word := []
  ent      : Tbl Word := []
  /-- directory words and entries that ECC cannot correct -/
  eccDir   : NSet := []
  eccEnt   : NSet := []
  /-- groups whose change bit a change has set (R123) -/
  change   : NSet := []
  /-- after a start every change bit reads 1 until a release clears it (R89): the groups whose bits have been cleared
  since -/
  cleared  : Option NSet := none
  pending  : NSet := []
  next     : NSet := []
  settle   : NSet := []
  trig     : NSet := []
  run      : NSet := []
  mismatch : NSet := []
  wheel    : Tbl Nat := []
  /-- segments that run or have run in the present cycle and are not committed yet, with their buffered writes -/
  ready    : Tbl Run := []
  /-- segments the present cycle would not have run without its inline audit (R142) -/
  extra    : NSet := []
  slots    : Tbl Staged := []
  stg      : StgState := .empty
  stgErr   : Nat := 0
  stgErrSeg : Nat := 0
  edits    : List EditWait := []
  editCount : Nat := 0
  editStatus : Nat := 0
  audit    : Option Audit := none
  auds     : Tbl AuditSt := []
  /-- segment code held in the cluster caches with an uncorrectable error: 65536 × cluster + segment -/
  cacheBad : NSet := []
  /-- segments whose code a cluster's cache holds: 65536 × cluster + segment -/
  cache    : NSet := []
deriving DecidableEq, Repr

/-! ### Memories (R26, R28) -/

structure Memories where
  code   : Mem := []
  sram   : Mem := []
  trace  : Mem := []
  fw     : Mem := []
  rom    : Mem := []
  mram   : Mem := []
  flash  : Mem := []
  safety : Mem := []
  /-- bytes of the address map that ECC cannot correct -/
  ecc    : NSet := []
  /-- bytes with an error of one bit, which ECC corrects (R35, R406) -/
  eccOne : NSet := []
deriving DecidableEq, Repr
/-! ### Events (R34 to R43) -/

structure EvcState where
  /-- latched pulses not yet delivered: source, and the destinations that an SEV named, as its targets bits; the value
  2¹⁴ stands for delivery through the source's route (R37, R226) -/
  latched : Tbl Nat := []
deriving DecidableEq, Repr

/-! ### Non-volatile store (R630 to R647) -/

/-- A copy of a two-copy record (R638). `bad` stands for a wrong CRC or an uncorrectable error in it. -/
structure NvCopy where
  seq     : Nat
  format  : Nat
  marked  : Bool
  bad     : Bool
  payload : List Byte
deriving DecidableEq, Repr

/-- A two-copy record and the copy that won the last recall or write (R639, R640); `true` stands for copy B. -/
structure NvRec where
  a   : Option NvCopy := none
  b   : Option NvCopy := none
  win : Option Bool := none
deriving DecidableEq, Repr

/-- A multi-cell counter (R643): its cells, and the old values that the in-progress marker holds. -/
structure NvCtr where
  low  : Nat := 0
  high : Nat := 0
  mark : Option (Nat × Nat) := none
deriving DecidableEq, Repr

/-- A posted write that is not yet in the MRAM array (R633): a write through the window, or the write of a record's
losing copy with the Jurno request that waits for it. -/
inductive Posted where
  | win (off : Nat) (bytes : List Byte)
  | record (rid : Nat) (format : Nat) (payload : List Byte) (wait : Option JReq)
deriving DecidableEq, Repr

/-- A flash operation in progress (R647). -/
inductive FlashOp where
  | erase (sector : Nat)
  | program (off : Nat) (bytes : List Byte)
deriving DecidableEq, Repr

structure NvState where
  prot    : Nat := 0
  ready   : Bool := false
  recalling : Bool := true
  recs    : Tbl NvRec := []
  ctrs    : Tbl NvCtr := []
  posted  : List Posted := []
  /-- a power-fail save is in progress, with its payload; and the start of it -/
  saving  : Option (List Byte) := none
  saveAt  : Nat := 0
  saveLen : Nat := 0
  saveUs  : Nat := 0
  flash   : Option FlashOp := none
  /-- sector markers that read "begun" (R726), and the image-incomplete marker -/
  begun   : NSet := []
  incomplete : Bool := false
  /-- factory values and identity held in the factory pages, under the dictionary key 256 × index + sub (R631, R632) -/
  factory : Tbl (List Byte) := []
  /-- MRAM words that ECC cannot correct -/
  ecc     : NSet := []
  /-- findings of the last recall that firmware has not passed to the recorder yet (R637) -/
  findings : Bool := false
deriving DecidableEq, Repr

/-! ### Backup domain (R648 to R657) -/

/-- A core's shadow of the five RTC registers (R649). -/
structure Shadow where
  frozen : Bool := false
  capno  : Nat := 0
  at_    : Nat := 0
  sub    : Nat := 0
  sec    : Nat := 0
deriving DecidableEq, Repr

structure RtcState where
  sec     : Nat := 0
  /-- the timebase value at the last second boundary; sub-seconds count from it -/
  bound   : Int := 0
  tvalid  : Bool := false
  bkunc   : Bool := true
  onbat   : Bool := false
  batlow  : Bool := false
  almf    : Bool := false
  defer   : Bool := false
  /-- armed: the count to take, and whether it is taken one boundary later (R651) -/
  armed   : Option (Nat × Bool) := none
  stage   : Nat := 0
  vbat    : Nat := 0
  temp    : Int := 0
  corr    : Int := 0
  model0  : Word := 0
  model1  : Word := 0
  model2  : Word := 0
  alarm   : Nat := 0
  almEn   : Bool := false
  bk      : Mem := []
  shadows : Tbl Shadow := []
deriving DecidableEq, Repr

/-! ### Watchdog, freeze, recorder (R667 to R709) -/

structure WdgState where
  /-- instant of the last service or restart of the count -/
  last   : Nat := 0
  /-- instant of the first key, while the key logic is armed (R668) -/
  armed  : Option Nat := none
  paused : Bool := false
  count  : Nat := 0
  lastCause : Nat := 0
deriving DecidableEq, Repr

/-- The instruction selected in the test access port (R681). -/
inductive TapIr where
  | bypass | extest | sample | fzstat | fzaddr | fzdata | fzrel
deriving DecidableEq, Repr

structure FrzState where
  strap   : Bool := false
  pinLow  : Bool := false
  /-- a freeze has been requested and honoured and acknowledges are not withheld yet: its source -/
  request : Option Nat := none
  frozen  : Bool := false
  /-- the freeze limit has run out while FREEZE_N was low (R677) -/
  limitRun : Bool := false
  /-- the freeze has been released and the links have not come up yet (R678) -/
  released : Bool := false
  extested : Bool := false
  eccErr  : Bool := false
  badAddr : Bool := false
  source  : Nat := 0
  trigSrc : Nat := 0
  tw      : Nat := 0
  dur     : Nat := 0
  /-- this module was ACTIVE at t_w -/
  wasActive : Bool := false
  ir      : TapIr := .bypass
  /-- the word last captured into the TAP's data register -/
  dr      : Nat := 0
  fzaddr  : Nat := 0
deriving DecidableEq, Repr

/-- A record before it is written (R685, R689). -/
structure RecEntry where
  code   : Nat
  sev    : Nat
  kind   : Nat
  num    : Nat
  tvalid : Bool
  opsec  : Nat
  pcc    : Nat
  subsec : Nat
  rtcsec : Nat
  snap   : List Word
deriving DecidableEq, Repr

/-- What the recorder's index holds of a slot (R684, R688). -/
structure RecIdx where
  rseq : Nat := 0
  sev  : Nat := 0
  code : Nat := 0
  held : Bool := false
deriving DecidableEq, Repr

structure RecState where
  indexing : Bool := true
  nextSeq  : Nat := 0
  index    : Tbl RecIdx := []
  queue    : List RecEntry := []
  /-- tokens taken from a code's bucket, and suppressed occurrences since its last record (R687) -/
  spent    : Tbl Nat := []
  suppr    : Tbl Nat := []
  /-- instant at which RFREEZE was set (R689) -/
  frozenAt : Nat := 0
  /-- read positions: under 2 × address for a Jurno source on Ethernet, 2 × node + 1 + 2⁴⁰ × controller on CAN (R690) -/
  readPos  : Tbl Nat := []
deriving DecidableEq, Repr

/-! ### Reset, boot and update (R710 to R738) -/

/-- State of a firmware update (R725). -/
inductive UpdState where
  | idle | receiving | verifying | activating | failed
deriving DecidableEq, Repr

/-- A block on its way into the flash (R726): who waits for its answer (`none`: the active partner), its data, the pages
programmed. -/
structure UpdWork where
  req   : Option JReq
  block : Nat
  data  : List Byte
  page  : Nat
deriving DecidableEq, Repr

inductive BootStage where
  | rom | loader | firmware
deriving DecidableEq, Repr

structure BootState where
  /-- the module is held in reset; released by MODULE_RESET_RELEASE -/
  held     : Bool := true
  /-- SYS_RSTSRC: the sources that acted together (R711, R732) -/
  sources  : Nat := 1
  stage    : BootStage := .rom
  /-- the boot ROM refused the loader and stays (R712) -/
  stuck    : Bool := false
  /-- the loader stays resident: by request, and in force (R713, R735) -/
  ldrReq   : Bool := false
  resident : Bool := false
  /-- released into the loader at the partner's request (R728) -/
  relReq   : Bool := false
  release  : Nat := 0
  fwUs     : Nat := 0
  runUs    : Nat := 0
  /-- the program has entered RUNNING since the last module reset (R720) -/
  ranSince : Bool := false
  /-- the power-fail sequence is in progress (R720) -/
  pfw      : Bool := false
  /-- a thermal shutdown holds the module in reset (R417) -/
  thermal  : Bool := false
  /-- the safety domain is in regulation and out of reset (R32) -/
  safetyUp : Bool := false
  /-- phase instant of the operating-seconds count (R763) -/
  opLast   : Int := 0
  /-- no start after power-up is made (R718, R730) -/
  noStart  : Bool := false
  /-- the start after power-up waits for the enumerations (R714) -/
  autoStart : Bool := false
  upd      : UpdState := .idle
  updReason : Nat := 0
  updNext  : Nat := 0
  updLast  : Option Nat := none
  updVer   : Nat := 0
  updPartner : Bool := false
  /-- blocks of the image, from its header; the block being programmed; the request that a relayed command answers -/
  updLen   : Nat := 0
  updWork  : Option UpdWork := none
  updReq   : Option JReq := none
  /-- SHA-256 of the public key in the fuses; version of the loader; the running firmware's version and PAIRCOMPAT -/
  fuse     : List Byte := []
  loaderVer : Nat := 0
  fwVer    : Nat := 0
  pairCompat : Nat := 0
  /-- the settings format that the firmware writes (R723, R730) -/
  setFormat : Nat := 0
  /-- a power-fail save has been made and not yet recorded (R721) -/
  saved    : Bool := false
  /-- the last module reset removed a force that was in effect; record 0x0110 is still to be written (R67) -/
  forcesLost : Bool := false
deriving DecidableEq, Repr
/-! ### Phider (R277 to R344) -/

/-- The transaction types, numbered as in PHR_TXD0.TYPE (R333). -/
inductive TxType where
  | srd | swr | srw | nvw | dxf | delta | stop
deriving DecidableEq, Repr

/-- What an acyclic transaction of an enumeration is for: the reading of a station's identity, or a write of its configuration by
its place among them (R317). -/
inductive SrwAim where
  | none
  | ident
  | config (step : Nat)
deriving DecidableEq, Repr

/-- A transaction: waiting in its ring's issue queue, or in flight (R288 to R293). -/
structure Tx where
  typ   : TxType := .srd
  ring  : Nat := 0
  stn   : Nat := 0
  task  : Nat := 31
  /-- TIME of the frame: T_s of a read, T_o of a write -/
  time  : Nat := 0
  outen : Bool := false
  data  : List Byte := []
  /-- the client's request that a dictionary transfer carries on (R512) -/
  req   : Option JReq := none
  /-- instant of the request -/
  since : Nat := 0
  /-- a sync delta: the record's cycle and type (R290) -/
  cycle : Nat := 0
  aim   : SrwAim := .none
deriving DecidableEq, Repr

structure TxEntry where
  busy    : Bool := false
  gen     : Nat := 0
  /-- generation of the last completion (R291) -/
  lastGen : Option Nat := none
  /-- generations that were cancelled and not allocated again since: their copies are discarded without counting (R297) -/
  cancelled : NSet := []
  unans   : Nat := 0
  tx      : Tx := {}
  issue   : Nat := 0
deriving DecidableEq, Repr

/-- How a probe copy came back (R280). `noAddr`: turned back by a station with no address. -/
inductive ProbeRes where
  | unlooped
  | looped (stn : Nat)
  | noAddr
deriving DecidableEq, Repr

structure RingSt where
  /-- state codes of R280 -/
  state  : Nat := 0
  /-- while enumerating: the state the probes give -/
  prev   : Nat := 0
  linkA  : Bool := false
  linkB  : Bool := false
  resA   : Option ProbeRes := none
  resB   : Option ProbeRes := none
  /-- an enumeration waits for the ring; a probe has set the ring's state since it was requested (R317, R322) -/
  enumReq : Bool := false
  probed : Bool := false
  /-- instants of the end of the last enumeration and of the last Sync (R298) -/
  enumAt : Option Nat := none
  syncAt : Option Nat := none
deriving DecidableEq, Repr

/-- What the module knows of a station beside its record object (R343). `state` as in subindex 0x14. -/
structure StnRec where
  state    : Nat := 0
  vp       : Word := 0
  rev      : BitVec 16 := 0
  serial   : DWord := 0
  config   : Bool := false
  /-- the station is used from the first T_s at or after its configuration (R322) -/
  usable   : Bool := false
  lastPath : Nat := 0
  missing  : Nat := 0
  rejects  : Nat := 0
deriving DecidableEq, Repr

/-- A frame as a station sends it on: out of the port it arrived on, because the onward link is down (R279); with an FCS made
wrong, because it arrived with a bad one (R282). -/
structure StnOut where
  frame  : PFrame := {}
  back   : Bool := false
  badFcs : Bool := false
deriving DecidableEq, Repr

/-- A station as R302 to R318 describe it: what the module's rings meet. -/
structure Station where
  present : Bool := false
  addr    : Nat := 0
  ident   : StnIdent := {}
  powerSafe : List Byte := []
  epoch   : Word := 0
  config  : Bool := false
  period  : Nat := 0
  phase   : Nat := 0
  holdUs  : Nat := 0
  outLen  : Nat := 0
  inLen   : Nat := 0
  safeVals : List Byte := []
  sync    : Bool := false
  /-- it takes time from the copy of Sync from port B; consecutive Syncs with, and without, a copy from port A, up to 3; the
  instant of the first Sync (R302) -/
  fromB   : Bool := false
  runA    : Nat := 0
  missA   : Nat := 0
  firstSync : Option Nat := none
  safe    : Bool := true
  latch   : Option (Nat × List Byte) := none
  /-- pending output set: TIME, OUTEN and data (R304) -/
  pend    : Option (Nat × Bool × List Byte) := none
  outputs : List Byte := []
  lastStrike : Nat := 0
  nvStore : Mem := []
  lastNv  : Option (Nat × Nat) := none
  /-- the last SWR and the last stop it took: TAG, GEN and TIME (R306) -/
  lastSwr : Option (Nat × Nat × Nat) := none
  lastStop : Option (Nat × Nat × Nat) := none
  lastDxf : Option (Nat × Nat × List Byte) := none
  /-- what the station last sent on, with its answer filled in -/
  reply   : Option StnOut := none
deriving DecidableEq, Repr

structure PhrState where
  entries : Tbl TxEntry := []
  queues  : Tbl (List Tx) := []
  rings   : Tbl RingSt := []
  recs    : Tbl StnRec := []
  /-- a station reported status 0x02 to this unpaired module: new epoch at the next T_s (R462) -/
  newEpoch : Bool := false
  /-- PTP: rate correction in ppb, one-step Syncs discarded, instant of the last Announce (R298, R300) -/
  ptpRate : Int := 0
  oneStep : Nat := 0
  lastAnn : Nat := 0
  /-- the plant grandmaster that is followed, and the instant of the last Delay_Req to it (R298, R299) -/
  gm      : Option PtpClock := none
  delayAt : Option Nat := none
  /-- accepted values of 0x5001:01 to :04 and 0x501r:01 that wait for the next start, under their keys (R341, R342) -/
  atStart : Tbl (Option Nat) := []
  /-- every link of the module is down (freeze, R674) -/
  linksDown : Bool := false
deriving DecidableEq, Repr

/-- A PTP message as the module sends it (R298): the port (0 to 7 the ring ports, 8 the management port), the messageType (0 Sync,
1 Delay_Req, 8 Follow_Up, 9 Delay_Resp, 11 Announce), the timestamp that it carries, and the clock that a Delay_Resp answers. -/
structure PtpOut where
  dest     : BitVec 48 := 0x011B19000000#48
  etype    : BitVec 16 := 0x88F7#16
  port     : Nat
  kind     : Nat
  domain   : Nat
  interval : Int := 0
  twoStep  : Bool := false
  time     : Nat := 0
  prio1    : Nat := 0
  prio2    : Nat := 0
  client   : DWord := 0
deriving DecidableEq, Repr

/-- What the module has sent, newest first. -/
inductive Sent where
  | ring (r : Nat) (portB : Bool) (f : PFrame)
  | ringPtp (r : Nat) (portB : Bool) (bytes : List Byte)
  | ptp (m : PtpOut)
  | hsb (path : Nat) (bytes : List Byte)
  | delta (typ : Nat) (r : HsbRec)
  | jurno (src : JSrc) (m : JMsg)
  | can (ctrl : Nat) (f : CanFrame)
  | arp (mac : BitVec 48) (ip : Word)
  | icmp (ip : Word) (data : List Byte)
  | fieldSafe
  | relay (bytes : List Byte)
  /-- the acknowledgement of a record of the state delta; PAIRCOMPAT; a full copy: image memory, data SRAM and the loop states in the
  form of LOOPS records, as they are when it begins (R450) -/
  | ack (task cycle : Nat)
  | compat (value : Nat)
  | fullCopy (img : Image) (sram : Mem) (loops : List Byte)
deriving DecidableEq, Repr
/-! ### Loop engine (R345 to R375) -/

/-- The words of a loop record by default, subindex 1 first (R375). -/
def loopDefaults : List Word := [
  0#32, 0#32, 0#32, 100#32, 0#32, 0xFFFFFFFF#32, 0x3F800000#32, 0#32, 0#32, 0xFFFFFFFF#32, 0xFFFFFFFF#32, 0xFFFFFFFF#32,
  0x3F800000#32, 0x41200000#32, 0#32, 0x41200000#32, 0x3F800000#32, 0#32, 0x42C80000#32, 0#32, 0x7F800000#32, 0xFF800000#32,
  0x7F800000#32, 0#32, 0x3F800000#32, 0#32, 0#32, 0#32, 0#32, 0#32, 0#32, 0#32]

/-- A source as a loop read it: its word before scaling, and whether quality or a source loop's state made it bad. -/
structure LoopSrc where
  raw : Word := 0
  bad : Bool := false
deriving DecidableEq, Repr

/-- The three sources of an execution. -/
structure LoopCap where
  pv  : LoopSrc := {}
  sp  : LoopSrc := {}
  trk : LoopSrc := {}
deriving DecidableEq, Repr

/-- An execution that is ready or in progress: its sample instant, the instant it became ready, what it read. -/
structure LoopExec where
  loop    : Nat := 0
  aligned : Bool := false
  tl      : Nat := 0
  ready   : Nat := 0
  start   : Nat := 0
  cap     : LoopCap := {}
  /-- the writes that take effect in it (R368) -/
  writes  : List (Nat × Word) := []
deriving DecidableEq, Repr

structure LoopSt where
  words    : List Word := loopDefaults
  /-- writes accepted since the last execution, oldest first: subindex and value (R368) -/
  writes   : List (Nat × Word) := []
  /-- the next execution is a transfer execution (R364) -/
  transfer : Bool := true
  /-- the last sample instant in immediate mode (R349) -/
  sampled  : Option Nat := none
  /-- sources captured at T_s for an aligned execution (R351) -/
  cap      : LoopCap := {}
  /-- an aligned execution is due in the host's present cycle -/
  due      : Bool := false
  out      : Option LoopOut := none
  /-- the published output, and whether a loop that takes it as a source finds it bad -/
  pub      : Word := 0
  pubBad   : Bool := true
  /-- the published image word as it stood at the host's last T_s (R353) -/
  atTs     : Option Word := none
  pubWord  : Option Word := none
  /-- the state of the last published execution that no LOOPS record has carried, and the state that the present cycle's
  record carries (R444) -/
  carry    : Option (List Word) := none
  carrySend : Option (List Word) := none
deriving DecidableEq, Repr

structure LpeState where
  loops  : Tbl LoopSt := []
  /-- ready executions, in the order they became ready -/
  queue  : List LoopExec := []
  /-- executions in progress, under the unit -/
  units  : Tbl LoopExec := []
  /-- finished executions of the last second: end and duration (R381) -/
  busy   : List (Nat × Nat) := []
deriving DecidableEq, Repr

/-! ### Trace (R376 to R390) -/

/-- A sample that waits to be written: its time and its signals (R379). -/
structure TrcSample where
  time  : Nat
  words : List Word
deriving DecidableEq, Repr

structure TrcSt where
  /-- records written since ARM -/
  written : Nat := 0
  /-- samples since the last recorded one (DIV) -/
  skipped : Nat := 0
  gap     : Bool := false
  /-- the tested signal at the sample before -/
  last    : Option Word := none
  /-- the next sample is the trigger record: FORCE has been written (R378) -/
  trigDue : Bool := false
  /-- records still to be written after the trigger record -/
  left    : Nat := 0
  waiting : List TrcSample := []
  /-- 0x701b:11 -/
  readOff : Nat := 0
  /-- as the buffer was armed: bytes of a record, first unit and units of the region (R377, R392) -/
  rec_    : Nat := 12
  base    : Nat := 0
  units   : Nat := 0
deriving DecidableEq, Repr

/-! ### Felt (R393 to R429) -/

/-- A slice that has been granted (R403). -/
structure Slice where
  duty  : Duty
  start : Nat
deriving DecidableEq, Repr

structure NrgState where
  /-- the balance in µJ (R396) -/
  bal     : Int := 2000000
  /-- instant of the last update -/
  ledgerAt : Option Nat := none
  inUj    : Nat := 0
  islUj   : List Nat := [0, 0, 0, 0]
  /-- energy drawn while OVER, in µJ, not yet counted in NRG_DEFICIT -/
  defUj   : Nat := 0
  slice   : Option Slice := none
  /-- the capacity C in force, in mJ (R397) -/
  cap     : Nat := 2000
  /-- the estimates of the class 2 and the class 3 slice last asked for and not granted, in µJ; 0 for none (R404) -/
  next2   : Nat := 0
  next3   : Nat := 0
  /-- LIMITING since this instant; EV51 has been raised for this entry (R416) -/
  limit   : Option Nat := none
  limited : Bool := false
  /-- a sensor has read 125 °C or more since this instant (R417) -/
  hot     : Option Nat := none
  /-- demands of the last 8 change-driven and the last 8 full-scan cycles: key 2 × task (+ 1 for full scan), newest
  first, one number an island (R411) -/
  hist    : Tbl (List (List Nat)) := []
  /-- scrub: start of the pass, bytes done, instant of the last completed pass (R406, R424) -/
  pass    : Nat := 0
  done    : Nat := 0
  lastPass : Nat := 0
  /-- the target of the pass in progress, in hours (R406, R428) -/
  hours   : Nat := 4
  /-- tasks that catch up at code 66 (R414) -/
  catch_  : NSet := []
deriving DecidableEq, Repr

/-! ### Hot standby and feeds (R430 to R481) -/

/-- What the last heartbeat of the partner said (R440). -/
structure Partner where
  role   : Nat := 0
  unit   : Nat := 0
  flags  : Nat := 0
  notice : Nat := 0
  epoch  : Nat := 0
  seq    : Nat := 0
  check  : Word := 0
deriving DecidableEq, Repr

/-- A planned switchover in progress (R466): T_h, the instant of the request, and whether the item is acknowledged. -/
structure Switch where
  th    : Nat
  since : Nat
  acked : Bool := false
deriving DecidableEq, Repr

/-- A takeover in progress (R453): F, T_a, T_x, whether it has been issued, and the bytes that each station of another task last
struck before T_d (R454). -/
structure Takeover where
  task : Nat
  ta   : Nat
  tx   : Nat
  issued : Bool := false
  data : List (Nat × List Byte) := []
deriving DecidableEq, Repr

/-- The delta of a task's present cycle: bodies of its GROUPS, DATA and LOOPS records for the digest, and what was sent
for the cycle (R443, R446). On a standby: the digest of its own shadow evaluation. -/
structure DeltaSt where
  body    : List Byte := []
  records : Nat := 0
  bytes   : Nat := 0
  /-- cycle whose INPUT record the partner has acknowledged (R445) -/
  ackIn   : Option Nat := none
  /-- CYCLE of the last record received, and the instant of the last INPUT record (R447) -/
  rx      : Option Nat := none
  rxAt    : Nat := 0
  /-- the INPUT record's END record is still due -/
  endDue  : Bool := false
  /-- the digest of an END record that came before this module's own evaluation of the cycle ended -/
  digest  : List Byte := []
deriving DecidableEq, Repr

structure HsbState where
  /-- the unit number in force since the last module reset (R474) -/
  unit    : Nat := 0
  role    : Nat := 0
  swTime  : Nat := 0
  /-- start of the listening of R437 or R678; unit 2 listens on after a window in which no active partner was heard -/
  listen  : Nat := 0
  relisten : Bool := false
  heard   : Option Partner := none
  partner : Partner := {}
  /-- instants of the last valid heartbeats on the sync link and the TIA-485 path, and the paths lost -/
  hb      : List Nat := [0, 0]
  lost    : List Bool := [true, true]
  seq     : Nat := 0
  /-- instant of the last heartbeat sent -/
  hbSent  : Option Nat := none
  /-- notice in force, and heartbeats that still repeat it; the TIA-485 copy of a notice that waits for its window -/
  notice  : Nat := 0
  repeats : Nat := 0
  wait485 : Bool := false
  /-- the module's timebase follows that of the active partner (R449); instant of the last frame heard on the TIA-485 line -/
  follow  : Bool := false
  line485 : Option Nat := none
  rxNotice : Nat := 0
  epStore : Nat := 0
  deltas  : Tbl DeltaSt := []
  mismatches : List Nat := []
  switch  : Option Switch := none
  takeover : Option Takeover := none
  /-- after a planned switchover no acyclic transaction is issued before this instant (R467) -/
  noAcyc  : Nat := 0
  /-- planned switchover taken over at this instant as the new active module -/
  planned : Bool := false
  /-- a full copy is being sent or received (R450) -/
  copying : Bool := false
  copyAt  : Nat := 0
  /-- operating seconds when the module last became ACTIVE (R469) -/
  lastActive : Option Nat := none
  /-- instants, plus 1, at which health items were last proven, under their subindex, and the ring ports (R468) -/
  proven  : Tbl Nat := []
  ports   : Tbl Nat := []
  failed  : Nat := 0
  /-- bytes of the delta in the present millisecond and in the last (HSB_DLOAD) -/
  loadMs  : Nat := 0
  loadNow : Nat := 0
  loadLast : Nat := 0
  /-- feed state changes since reset (0x1810:08), and power-fail warnings since manufacture (0x1810:07) -/
  feedCnt : Nat := 0
  pfwCnt  : Nat := 0
  /-- the partner waits in its loader for relayed update blocks (R728) -/
  relayAt : Option Nat := none
  /-- PAIRCOMPAT that the partner gave (R729) -/
  pairCompat : Option Nat := none
  /-- NRG_BAL and NRG_STAT of the active partner, from its LEDGER records (R418) -/
  pBal    : Word := 0
  pStat   : Word := 0
  /-- a staged set has failed validation here: INCOMPATIBLE until the program is downloaded again (R451) -/
  badSet  : Bool := false
deriving DecidableEq, Repr
/-! ### Field side (R526 to R578). It keeps its state over every module reset (R20). -/

/-- A command on its way to the next field-side update (R528). -/
inductive FieldCmd where
  | dout (ch : Nat) (on : Bool)
  | aout (ch : Nat) (value : Word)
  | safe
  | state (code : Nat)
  | release
  /-- a configuration change: of every setting, or of those that take effect while the program runs -/
  | config (full : Bool)
  | mode (ch m : Nat)
  | encoder (pair : Nat) (count : Word)
  | trim (ch : Nat) (gain offset : Word)
deriving DecidableEq, Repr

/-- A digital channel at the field side: its configuration as loaded, and its state. -/
structure DChan where
  mode   : Nat := 0
  safe   : Nat := 0
  outen  : Bool := true
  deb    : Nat := 1000
  owdet  : Bool := false
  evpol  : Nat := 0
  raw    : Bool := false
  /-- instant of the raw level's last change, while it differs from the debounced state -/
  since  : Option Nat := none
  state  : Bool := false
  /-- commanded by the program, and whether it has been since the entry to RUN (R530); the state the channel is commanded
  to with enable, safe pattern and role in force -/
  cmd    : Bool := false
  struck : Bool := false
  want   : Bool := false
  driver : Bool := false
  /-- latched off by an overload or over-temperature (R542) -/
  latched : Bool := false
  live   : Nat := 0
  /-- faults seen since last cleared (R541) -/
  seen   : Nat := 0
  /-- start of a low-current condition (R541) -/
  openAt : Option Nat := none
  wantAt : Nat := 0
deriving DecidableEq, Repr

/-- An analogue channel at the field side. -/
structure AChan where
  mode   : Nat := 0
  safe   : Nat := 0
  outen  : Bool := true
  almHigh : Bool := false
  win    : Nat := 200
  safeUa : Nat := 0
  gain   : Word := 0
  offset : Word := 0
  /-- the last conversions, newest first, factory-corrected, in µA -/
  hist   : List Int := []
  limiter : Bool := false
  /-- value and quality of the last finished window -/
  meas   : Int := 0
  good   : Bool := false
  /-- commanded by the program, and whether it has been since the entry to RUN; commanded after limiting, −1 for the
  alarm current; stage on -/
  cmd    : Int := 0
  struck : Bool := false
  drive  : Int := 0
  on     : Bool := false
  live   : Nat := 0
  seen   : Nat := 0
  lowAt  : Option Nat := none
  rbAt   : Option Nat := none
  /-- an output trim drives this current, in µA, until this instant; what it drives since the last update (R555) -/
  trim   : Option (Int × Nat) := none
  trimUa : Option Int := none
deriving DecidableEq, Repr

structure EncSt where
  a     : Bool := false
  b     : Bool := false
  count : Word := 0
  en    : Bool := false
  /-- latched at T_s -/
  latch : Word := 0
deriving DecidableEq, Repr

structure FieldState where
  /-- state per R530 as the field side has it: 1 INIT to 5 SILENT -/
  state   : Nat := 1
  /-- the link to the logic side is up -/
  link    : Bool := false
  lastFrame : Nat := 0
  /-- instant of the last update (R528) -/
  lastUpd : Option Nat := none
  silence : Nat := 50
  /-- SILENT was entered from STANDBY, whose pattern it keeps (R531) -/
  silStandby : Bool := false
  /-- HSB_CTRL.UNIT as loaded with the configuration (R533) -/
  unit    : Nat := 0
  digital : Tbl DChan := []
  analog  : Tbl AChan := []
  enc     : Tbl EncSt := []
  cmds    : List FieldCmd := []
  vflow   : Bool := false
  vfhigh  : Bool := false
  mv      : Nat := 0
  lowCnt  : Nat := 0
  silentCnt : Nat := 0
  /-- last safety frame, and what it permits: STO channels on; test-pulse sources driven (R602, R609) -/
  safAt   : Nat := 0
  stoOn   : NSet := []
  pulses  : NSet := []
  /-- local input values latched at the last T_s of a task: key 65536 × task + channel (digital), + 32 (analogue),
  + 64 (encoder) -/
  latched : Tbl Word := []
  /-- of those latched, the channels with a fault that makes quality 0 -/
  latchedBad : NSet := []
  /-- owners of the numbered resources (R558): 0 free, 1 program, 2 safety, 3 trim buttons, 4 Jurno -/
  owners  : Tbl Nat := []
deriving DecidableEq, Repr

/-! ### CAN FD (R579 to R597) -/

structure CanRx where
  frame  : CanFrame
  filter : Nat
  time   : Nat
deriving DecidableEq, Repr

/-- A Jurno message on its way in, from one node (R510). -/
structure CanPart where
  bytes : List Byte
  next  : Nat
  at_   : Nat
deriving DecidableEq, Repr

structure CanSt where
  fifo   : List CanRx := []
  /-- buffer whose frame is on the bus; ABORT has been written for it -/
  onBus  : Option Nat := none
  abort  : NSet := []
  /-- segments of Jurno answers that wait for buffer 2 -/
  jq     : List CanFrame := []
  parts  : Tbl CanPart := []
  noPartner : Nat := 0
  busOffs : Nat := 0
  /-- Jurno enabled on this controller since the last reset, with its node and identifier base (R510, R524) -/
  jurno  : Bool := false
  node   : Nat := 1
  base   : Nat := 0x1D0
deriving DecidableEq, Repr

/-! ### Safety partition (R598 to R629) -/

structure SafInput where
  /-- the filtered reading: closed -/
  filt   : Bool := false
  /-- the unfiltered reading has differed from the filtered one since this instant -/
  turnAt : Option Nat := none
  closed : Bool := false
  fault  : Bool := false
  /-- since the fault, both channels have read open together -/
  sawOpen : Bool := false
  diffAt : Option Nat := none
deriving DecidableEq, Repr

structure SafAxis where
  state : Nat := 0
  fault : Nat := 0
  v     : Nat := 0
  t0    : Nat := 0
  v0    : Nat := 0
  overs : Nat := 0
  diffAt : Option Nat := none
  reset : Bool := false
  count : Option Word := none
deriving DecidableEq, Repr

structure SafConn where
  state : Nat := 0
  seq   : Nat := 0
  /-- instant at which the present SEQ was first sent -/
  sentAt : Option Nat := none
  data  : List Byte := []
  fsv   : Bool := true
  rxAt  : Option Nat := none
  fails : Nat := 0
  /-- the container to be taken at the next end of evaluation -/
  out   : List Byte := []
deriving DecidableEq, Repr

structure StoOut where
  on    : Bool := false
  fault : Bool := false
deriving DecidableEq, Repr

/-- A call of the safety program that has not returned. -/
inductive SafCall where
  | init | cycle
deriving DecidableEq, Repr

structure SafState where
  state   : Nat := 0
  cause   : Nat := 0
  /-- the stored program image and confirmed value (MRAM), mismatches since manufacture -/
  image   : List Byte := []
  conf    : Option Word := none
  lsErr   : Nat := 0
  call    : Option SafCall := none
  callAt  : Nat := 0
  initDone : Bool := false
  cycles  : Nat := 0
  served  : Nat := 0
  io      : Mem := []
  inputs  : Tbl SafInput := []
  axes    : Tbl SafAxis := []
  conns   : Tbl SafConn := []
  stos    : Tbl StoOut := []
  /-- containers received and not yet delivered, under 256 × ring + station -/
  rx      : Tbl (List Byte) := []
deriving DecidableEq, Repr

/-! ### Jurno (R482 to R525) -/

structure JSess where
  sid    : Nat := 0
  role   : Nat := 0
  authed : Bool := false
  ip     : Word := 0
  nc     : List Byte := []
  ns     : List Byte := []
  key    : List Byte := []
  openAt : Nat := 0
  last   : Nat := 0
  /-- inactivity time in force for this session, in s -/
  idle   : Nat := 60
  seq    : Option Nat := none
  /-- the last eight accepted requests, newest first: SEQ, and the answer once it has been sent (R507) -/
  kept   : List (Nat × Option JMsg) := []
deriving DecidableEq, Repr

/-- A request in flight that firmware serves (R514, R519): its answer as the firmware's function gives it. -/
structure JSlot where
  req    : JReq
  role   : Nat
  seqno  : Nat
  msg    : List Byte
deriving DecidableEq, Repr

/-- A write that arrives in parts (R502). -/
structure JPart where
  src   : JSrc
  bytes : List Byte
  at_   : Nat
deriving DecidableEq, Repr

structure JUnlock where
  ctrl  : Nat
  node  : Nat
  role  : Nat
  until_ : Nat
deriving DecidableEq, Repr

/-- An edit record that has been written and waits for its validation: the request, its role, the record (R145, R401). -/
structure EditReq where
  req   : JReq
  role  : Nat
  bytes : List Byte
deriving DecidableEq, Repr

structure JrnState where
  /-- edit records that wait for their validation, oldest first -/
  edits    : List EditReq := []
  phase    : Nat := 0
  phaseAt  : Nat := 0
  sessions : Tbl (Option JSess) := []
  slots    : Tbl (Option JSlot) := []
  slotSeq  : Nat := 0
  parts    : Tbl (Option JPart) := []
  unlocks  : Tbl (Option JUnlock) := []
  fails    : Tbl (List Nat) := []
  locks    : Tbl Nat := []
  reasmErr : Nat := 0
  rxFrames : Nat := 0
  badFrames : Nat := 0
  linkUp   : Bool := false
  ip       : Word := 0xC0A8010A
deriving DecidableEq, Repr
/-! ### The module -/

structure State where
  /-- the timebase, in nanoseconds (R6) -/
  now      : Nat := 0
  /-- commands that wait, first in, first out -/
  pending  : List Instr := []
  /-- the model's own: how many free values have been drawn -/
  draws    : Nat := 0
  /-- the model's own: the word that the last read of a register returned to its core -/
  rdata    : Word := 0
  regs     : RegFile := []
  mem      : Memories := {}
  /-- units that execute instructions: core c under c, lane l under 16 + l, the safety pair under 100 -/
  units    : Tbl UnitSt := []
  /-- dictionary objects that no register or other field holds, under 256 × index + subindex -/
  objs     : Tbl (List Byte) := []
  prog     : Program := {}
  img      : Image := {}
  tsk      : TskState := {}
  gz       : Gauze := {}
  evc      : EvcState := {}
  nv       : NvState := {}
  rtc      : RtcState := {}
  wdg      : WdgState := {}
  frz      : FrzState := {}
  rcd      : RecState := {}
  boot     : BootState := {}
  phr      : PhrState := {}
  lpe      : LpeState := {}
  trc      : Tbl TrcSt := []
  nrg      : NrgState := {}
  hsb      : HsbState := {}
  field    : FieldState := {}
  can      : Tbl CanSt := []
  saf      : SafState := {}
  jrn      : JrnState := {}
  /-- stations outside the module, under 256 × ring + position -/
  stations : Tbl Station := []
  sent     : List Sent := []
deriving DecidableEq, Repr

/-- A unit's state after reset: the supervisor core starts in the boot ROM (R712); a Serge core's or lane's first
instruction address is set when it takes a segment. -/
def UnitSt.atReset (u : Nat) : UnitSt :=
  if u = 4 then { pc := 0xFFFF0000, priv := 2, exstat := 0x20#32, vbase := 0xFFFF0000#32 } else {}

/-- The module right after power-on: every field at its value after reset. -/
def State.reset : State := { units := [(4, UnitSt.atReset 4)] }

/-- Reasons to stop with a fault. -/
inductive Fault where
  /-- no command of this model raises it: every effect of the spec has a next state. Safe. -/
  | none
deriving DecidableEq, Repr

/-- Reasons to refuse a command. -/
inductive Refusal where
  /-- a command whose meaning the model does not have; named by its mnemonic in the table. Safe. -/
  | notModelled (mnemonic : String)
deriving DecidableEq, Repr

end Sys2Proof.Machine
end

