-- ==== Sys2Proof/Machine/Ops.lean ====
section
/-!
DEFINITION. Ops.lean: the named operations over the state that every block uses: registers and their fields, time, free
values, units, dictionary objects, counters that hold, event pulses, and what the module sends.
-/
namespace Sys2Proof.Machine

/-! ### Registers -/

/-- The word of the register at an address. -/
def State.reg (s : State) (a : Nat) : Word := s.regs.at a

/-- The state with a word in the register at an address. -/
def State.setReg (s : State) (a : Nat) (w : Word) : State := { s with regs := s.regs.put a w }

/-- A field's number. -/
def State.fld (s : State) (f : Fld) : Nat := wbits (s.reg f.addr) f.hi f.lo

/-- The state with a number in a field; its register's other bits stay. -/
def State.setFld (s : State) (f : Fld) (n : Nat) : State :=
  s.setReg f.addr (toWord (putBits (s.reg f.addr).toNat f.hi f.lo n))

/-- A one-bit field as a truth value. -/
def State.flag (s : State) (f : Fld) : Bool := s.fld f != 0

/-- The state with a one-bit field set or cleared. -/
def State.setFlag (s : State) (f : Fld) (b : Bool) : State := s.setFld f (b2n b)

/-- A field's number as a signed one. -/
def State.fldInt (s : State) (f : Fld) : Int := signed (f.hi + 1 - f.lo) (s.fld f)

/-- The state with `n` added to a counter that holds at a largest value (R42 and the other holding counters). -/
def State.count (s : State) (f : Fld) (limit n : Nat) : State := s.setFld f (holdAt limit (s.fld f + n))

/-- The state with `n` added to a 32-bit counter that holds at 0xFFFF_FFFF. -/
def State.count32 (s : State) (a n : Nat) : State := s.count ⟨a, 31, 0⟩ 0xFFFFFFFF n

/-- The larger of a field's number and `n` in the field (the MAX registers). -/
def State.maxFld (s : State) (f : Fld) (n : Nat) : State := if s.fld f < n then s.setFld f n else s

/-! ### Time, free values -/

/-- The state at an instant, or as it is where the timebase has passed it (log 2). -/
def State.at (s : State) (t : Nat) : State := { s with now := max s.now t }

/-- A free word drawn for a value that the spec leaves open, and the state after the draw (log 1). -/
def State.drawWord (s : State) : Word × State := (Config.freeWord s.draws, { s with draws := s.draws + 1 })

/-- A free bit drawn, and the state after the draw (log 1). -/
def State.drawBit (s : State) : Bool × State := (Config.freeBit s.draws, { s with draws := s.draws + 1 })

/-! ### Units -/

/-- The key of a unit in the unit table. -/
def UnitId.key : UnitId → Nat
  | .core c => c.val
  | .lane l => 16 + l.val

/-- The key of the lock-stepped pair of the safety partition. -/
def safetyUnit : Nat := 100

def State.unit (s : State) (k : Nat) : UnitSt := s.units.get {} k

def State.setUnit (s : State) (k : Nat) (u : UnitSt) : State := { s with units := s.units.set {} k u }

def State.modUnit (s : State) (k : Nat) (f : UnitSt → UnitSt) : State := s.setUnit k (f (s.unit k))

/-! ### Tasks, stations, dictionary objects -/

def State.task (s : State) (k : Nat) : TaskSt := s.tsk.tasks.get {} k

def State.setTask (s : State) (k : Nat) (t : TaskSt) : State :=
  { s with tsk := { s.tsk with tasks := s.tsk.tasks.set {} k t } }

def State.modTask (s : State) (k : Nat) (f : TaskSt → TaskSt) : State := s.setTask k (f (s.task k))

/-- The key of an object in the object store. -/
def objKey (index sub : Nat) : Nat := 256 * index + sub

/-- The stored bytes of an object; `[]` where it holds its default. -/
def State.obj (s : State) (index sub : Nat) : List Byte := s.objs.get [] (objKey index sub)

def State.setObj (s : State) (index sub : Nat) (v : List Byte) : State :=
  { s with objs := s.objs.set [] (objKey index sub) v }

/-! ### What the module sends -/

def State.send (s : State) (m : Sent) : State := { s with sent := m :: s.sent }

/-! ### Program state -/

def State.stopped (s : State) : Bool := s.tsk.prog == .stopped
def State.running (s : State) : Bool := s.tsk.prog == .running

/-! ### Roles (R436) -/

def roleSingle : Nat := 0
def roleStarting : Nat := 1
def roleActive : Nat := 2
def roleSyncing : Nat := 3
def roleReady : Nat := 4
def roleDemoted : Nat := 5
def roleIncompatible : Nat := 6
def roleUnfit : Nat := 7

/-- The module is one of a pair: its unit number in force is 1 or 2 (R430, R474). -/
def State.paired (s : State) : Bool := s.hsb.unit != 0

/-- The module's role (R436). -/
def State.role (s : State) : Nat := s.hsb.role

/-- The module controls the plant: it is unpaired, or ACTIVE. -/
def State.acts (s : State) : Bool := s.role == roleSingle || s.role == roleActive

/-! ### Events (R34, R37) -/

/-- The destinations of a latched pulse: the targets bits that an SEV named, with bit 15 for the recorder; 2¹⁴ stands for
the source's route at the time it is looked at (R36, R39). -/
def State.eventDests (s : State) (n d : Nat) : Nat :=
  let r := (s.reg (EVC_ROUTE n)).toNat
  let route := if bit d 14 then bits r 5 0 + (if bit r 6 then 0x8000 else 0) else 0
  bits d 13 0 ||| route

/-- A pulse merged with an earlier one of its source (R37, R42, R43). -/
def State.countMerge (s : State) (n : Nat) : State :=
  (s.count32 EVC_OVFCNT 1).setFld EVC_STAT_LASTOVF n

/-- A pulse of source EVn is latched for its destinations; one that finds an earlier pulse waiting for a destination
they share is merged with it (R37). While the module is held in reset every destination is, and the pulse is discarded (R38). -/
def State.latch (s : State) (n dest : Nat) : State :=
  let old := s.evc.latched.get 0 n
  if s.boot.held then s else
  let s := if s.eventDests n old &&& s.eventDests n dest != 0 then s.countMerge n else s
  { s with evc := { s.evc with latched := s.evc.latched.set 0 n (old ||| dest) } }

/-- The condition of source EVn occurs: a pulse through its route (R34). -/
def State.raise (s : State) (n : Nat) : State := s.latch n 0x4000

/-! ### Field side (R528, R530) -/

def State.modField (s : State) (f : FieldState → FieldState) : State := { s with field := f s.field }

/-- A command to the field side; it reaches the next update (R528). -/
def fieldCmd (s : State) (c : FieldCmd) : State := s.modField fun f => { f with cmds := f.cmds ++ [c] }

def fsInit : Nat := 1
def fsSafe : Nat := 2
def fsRun : Nat := 3
def fsStandby : Nat := 4
def fsSilent : Nat := 5

/-! ### Memories -/

/-- The firmware-visible byte stores by kind; flash bytes that nothing has programmed read 0xFF (log 3). -/
def flashByte (s : State) (off : Nat) : Byte := s.mem.flash.get 0xFF off

/-- The MRAM array with bytes written at an offset. The factory pages, from 0xFF0000, are locked: a write that reaches them is
not made (R632). -/
def mramPut (m : Mem) (off : Nat) (bs : List Byte) : Mem := if off + bs.length ≤ 0xFF0000 then m.setMany 0 off bs else m

/-- A multi-cell counter's value (R643). -/
def NvCtr.value (c : NvCtr) : Nat := c.high * 2 ^ 32 + c.low

def State.ctr (s : State) (k : Nat) : Nat := (s.nv.ctrs.get {} k).value

/-- A counter rises by 1, LOW first and HIGH on the carry (R643); at protection level 3 no counter advances (R636). -/
def State.ctrUp (s : State) (k : Nat) : State :=
  if s.nv.prot = 3 then s
  else
    let c := s.nv.ctrs.get {} k
    let low := (c.low + 1) % 2 ^ 32
    let c := { c with low := low, high := if low = 0 then (c.high + 1) % 2 ^ 31 else c.high, mark := none }
    { s with nv := { s.nv with ctrs := s.nv.ctrs.set {} k c } }

/-- Keys of the counters: operating seconds, power cycles, run counter, watchdog expiries since manufacture, and the
erase count of flash sector s under 16 + s (R645, R717, R706). -/
def ctrOpSec : Nat := 0
def ctrPower : Nat := 1
def ctrRun : Nat := 2
def ctrWdg : Nat := 3
def ctrErase (sector : Nat) : Nat := 16 + sector

end Sys2Proof.Machine
end

