-- ==== Sys2Proof/Machine/ViewBase.lean ====
section
/-!
DEFINITION. ViewBase.lean: what the registers of the blocks SYS, NVM, RTC, WDG, FRZ, REC and EVC read as where a register
shows state that is held elsewhere. A view takes the state, the register's address and the word the register file holds,
and gives the word the register shows. No view changes state.
-/
namespace Sys2Proof.Machine

/-- The number of groups; a Gauze number lies below it (R121, R124). -/
def groupCount : Nat := 409600

/-- A word with one field replaced. -/
def putFld (w : Nat) (f : Fld) (n : Nat) : Nat := putBits w f.hi f.lo n

/-! ### SYS -/

/-- The fabric control holds SYS_OK released (R715). -/
def sysOkForced (s : State) : Bool := s.boot.held || s.frz.frozen || s.boot.pfw || s.boot.thermal

/-- SYS_OK is driven low: firmware requests it, one of the cases of R715 holds, and the fabric control does not hold it. -/
def sysOk (s : State) : Bool :=
  s.flag SYS_SYSOK_DRIVE && !sysOkForced s &&
    (((!s.paired || s.role == roleActive) && s.running) || (s.paired && s.role == roleReady))

/-- The first reset source in the order 1, 7, 5, 2, 3, 4, 6 of R711, from the bits of SYS_RSTSRC.SOURCES. -/
def firstSource (sources : Nat) : Nat :=
  ([1, 7, 5, 2, 3, 4, 6].find? fun c => bit sources (c - 1)).getD 0

def viewSys (s : State) (a w : Nat) : Nat :=
  if a = SYS_REV then putFld w SYS_REV_COATED (b2n Config.coated)
  else if a = SYS_DOMSTAT then
    putFld (putFld w SYS_DOMSTAT_FIELD (b2n (s.field.link && !s.boot.held))) SYS_DOMSTAT_SAFETY
      (b2n (s.boot.safetyUp && !s.boot.held))
  else if a = SYS_RSTSRC then
    putFld (putFld w SYS_RSTSRC_CAUSE (firstSource s.boot.sources)) SYS_RSTSRC_SOURCES s.boot.sources
  else if a = SYS_SYSOK then
    putFld (putFld w SYS_SYSOK_FORCED (b2n (sysOkForced s))) SYS_SYSOK_PIN (b2n (sysOk s))
  else if a = SYS_BOOT then
    putFld (putFld (putFld w SYS_BOOT_LDRREQ (b2n s.boot.ldrReq)) SYS_BOOT_INCOMPLETE (b2n s.nv.incomplete))
      SYS_BOOT_STAGE (match s.boot.stage with | .rom => 0 | .loader => 1 | .firmware => 2)
  else w

/-! ### NVM (R658, R659) -/

def viewNvm (s : State) (a w : Nat) : Nat :=
  if a = NVM_STAT then
    putFld (putFld (putFld (putFld w NVM_STAT_WBUSY (b2n (!s.nv.posted.isEmpty))) NVM_STAT_PROT s.nv.prot)
      NVM_STAT_READY (b2n s.nv.ready)) NVM_STAT_RECALL (b2n s.nv.recalling)
  else if a = NVM_PROT then putFld w NVM_PROT_LEVEL s.nv.prot
  else if a = NVM_FSTAT then putFld w NVM_FSTAT_BUSY (b2n s.nv.flash.isSome)
  else w

/-! ### RTC (R648, R660, R661) -/

/-- The live sub-second count: 32,768 counts a second since the last second boundary. -/
def rtcSub (s : State) : Nat := Nat.min 32767 ((Int.ofNat s.now - s.rtc.bound).toNat * 32768 / 1000000000)

/-- The civil date of a day counted from 2000-01-01: years from 2000, month, day (the Gregorian rules, R648). Days are
counted from 1 March 1600, in eras of 400 years. -/
def civil (days : Nat) : Nat × Nat × Nat :=
  let z := days + 146037
  let era := z / 146097
  let doe := z % 146097
  let yoe := (doe - doe / 1460 + doe / 36524 - doe / 146096) / 365
  let doy := doe - (365 * yoe + yoe / 4 - yoe / 100)
  let mp := (5 * doy + 2) / 153
  let d := doy - (153 * mp + 2) / 5 + 1
  let m := if mp < 10 then mp + 3 else mp - 9
  let y := yoe + era * 400 + 1600 + (if m ≤ 2 then 1 else 0)
  (y - 2000, m, d)

/-- RTC_CAL0 for a count of seconds. -/
def rtcCal0 (sec : Nat) : Nat :=
  let days := sec / 86400
  let c := civil days
  (c.1 % 65536) * 65536 + c.2.1 * 256 + ((days + 5) % 7 + 1) * 32 + c.2.2

/-- RTC_CAL1 without CAPNO, for a count of seconds. -/
def rtcCal1 (sec : Nat) : Nat := (sec / 3600 % 24) * 65536 + (sec / 60 % 60) * 256 + sec % 60

/-- The five registers of R649, from what a shadow or the live clock holds: CAPNO, sub-seconds and seconds. -/
def rtcFive (a capno sub sec : Nat) : Nat :=
  if a = RTC_SUBSEC then capno * 65536 + sub
  else if a = RTC_SECL then sec % 2 ^ 32
  else if a = RTC_SECH then sec / 2 ^ 32
  else if a = RTC_CAL0 then rtcCal0 sec
  else capno * 2 ^ 24 + rtcCal1 sec

/-- The five registers are at these addresses. -/
def isRtcFive (a : Nat) : Bool :=
  a == RTC_SUBSEC || a == RTC_SECL || a == RTC_SECH || a == RTC_CAL0 || a == RTC_CAL1

def State.shadow (s : State) (core : Nat) : Shadow := s.rtc.shadows.get {} core

/-- RTC_STAT (R660). ONBAT reads 1 only in the backup domain's own records. -/
def rtcStat (s : State) : Nat :=
  b2n s.rtc.almf * 128 + b2n s.rtc.defer * 64 + b2n s.rtc.armed.isSome * 32 + b2n s.rtc.batlow * 8
    + b2n s.rtc.bkunc * 2 + b2n s.rtc.tvalid

/-- What the five registers show to a reader that captures nothing: the supervisor core's shadow while it is frozen, else
the live clock with the shadow's CAPNO. -/
def viewRtc (s : State) (a w : Nat) : Nat :=
  let r := s.rtc
  if isRtcFive a then
    let sh := s.shadow 4
    if sh.frozen then rtcFive a sh.capno sh.sub sh.sec else rtcFive a sh.capno (rtcSub s) r.sec
  else if a = RTC_STAT then rtcStat s
  else if a = RTC_VBAT then r.vbat % 65536
  else if a = RTC_STGL then r.stage % 2 ^ 32
  else if a = RTC_STGH then r.stage / 2 ^ 32 % 256
  else if a = RTC_CORR then (BitVec.ofInt 16 r.temp).toNat * 65536 + (BitVec.ofInt 9 r.corr).toNat
  else if a = RTC_MODEL0 then r.model0.toNat
  else if a = RTC_MODEL1 then r.model1.toNat
  else if a = RTC_MODEL2 then r.model2.toNat % 65536
  else if a = RTC_ALML then r.alarm % 2 ^ 32
  else if a = RTC_ALMH then b2n r.almEn * 256 + r.alarm / 2 ^ 32 % 256
  else if a = RTC_LSUB then rtcSub s
  else if a = RTC_LSECL then r.sec % 2 ^ 32
  else if a = RTC_LSECH then r.sec / 2 ^ 32 % 256
  else if RTC_BK 0 ≤ a ∧ a < RTC_BK 16 then (r.bk.word 0 (a - RTC_BK 0)).toNat
  else w

/-! ### WDG (R694 to R697) -/

/-- The watchdog counts: not paused by a freeze or a power-fail sequence. -/
def wdgElapsed (s : State) : Nat := if s.wdg.paused then s.wdg.last else s.now - s.wdg.last

def wdgWindowNs (s : State) : Nat := s.fld WDG_CTRL_WIN * 1000000

def viewWdg (s : State) (a w : Nat) : Nat :=
  if a = WDG_STAT then
    putFld (putFld (putFld (putFld w WDG_STAT_COUNT s.wdg.count) WDG_STAT_LASTCAUSE s.wdg.lastCause)
      WDG_STAT_PAUSED (b2n s.wdg.paused)) WDG_STAT_ARMED (b2n s.wdg.armed.isSome)
  else if a = WDG_REMAIN then (wdgWindowNs s - wdgElapsed s) / 1000
  else w

/-! ### FRZ (R698 to R700) -/

def viewFrz (s : State) (a w : Nat) : Nat :=
  let f := s.frz
  if a = FRZ_STAT then
    putFld (putFld (putFld (putFld w FRZ_STAT_STRAP (b2n f.strap)) FRZ_STAT_PIN (b2n f.pinLow))
      FRZ_STAT_SOURCE f.source) FRZ_STAT_TRIGSRC f.trigSrc
  else if a = FRZ_LASTTL then f.tw % 2 ^ 32
  else if a = FRZ_LASTTH then f.tw / 2 ^ 32 % 2 ^ 32
  else if a = FRZ_LASTDUR then holdAt 0xFFFFFFFF f.dur
  else w

/-! ### REC (R701 to R705) -/

/-- The slots of the recorder (R684). -/
def recSlots : Nat := 16384

/-- Records held. -/
def recHeld (s : State) : Nat := s.rcd.index.length

/-- A recorder freeze is in force (R689). -/
def recFrozen (s : State) : Bool := s.flag REC_CTRL_RFREEZE

def viewRec (s : State) (a w : Nat) : Nat :=
  if a = REC_STAT then
    putFld (putFld (putFld (putFld w REC_STAT_QUEUED s.rcd.queue.length) REC_STAT_FULL
      (b2n (recHeld s == recSlots))) REC_STAT_INDEXING (b2n s.rcd.indexing)) REC_STAT_RFROZEN (b2n (recFrozen s))
  else if a = REC_NEXTSEQ then s.rcd.nextSeq
  else if a = REC_HELD then recHeld s
  else w

/-! ### EVC (R40) -/

def viewEvc (s : State) (a w : Nat) : Nat :=
  if EVC_PEND 0 ≤ a ∧ a < EVC_PEND 4 then
    let m := (a - EVC_PEND 0) / 4
    s.evc.latched.foldl (fun n e => if e.1 / 32 = m then n ||| 2 ^ (e.1 % 32) else n) 0
  else w

end Sys2Proof.Machine
end

