-- ==== Sys2Proof/Machine/ViewMid.lean ====
section
/-!
DEFINITION. ViewMid.lean: what the registers of the blocks LPE, NRG, HSB, JRN, DIO, AIO, CAN and SAF read as where a
register shows state that is held elsewhere.
-/
namespace Sys2Proof.Machine

/-! ### LPE (R380 to R384) -/

def State.loop (s : State) (n : Nat) : LoopSt := s.lpe.loops.get {} n

def State.setLoop (s : State) (n : Nat) (l : LoopSt) : State :=
  { s with lpe := { s.lpe with loops := s.lpe.loops.set {} n l } }

def State.modLoop (s : State) (n : Nat) (f : LoopSt → LoopSt) : State := s.setLoop n (f (s.loop n))

/-- Subindex of a loop record by its number, 1 to 32. -/
def LoopSt.word (l : LoopSt) (sub : Nat) : Word := l.words.getD (sub - 1) 0

def LoopSt.setWord (l : LoopSt) (sub : Nat) (w : Word) : LoopSt := { l with words := l.words.set (sub - 1) w }

/-- The actual mode in the status (R374): 0 off, 1 manual, 2 auto, 3 cascade, 4 track, 5 hold. -/
def LoopSt.mode (l : LoopSt) : Nat := wbits (l.word 0x1C) 2 0

/-- A loop is configured when its PV source is not "none" (R346). -/
def LoopSt.configured (l : LoopSt) : Bool := l.word 6 != 0xFFFFFFFF#32

/-- The last accepted value of a subindex: a write that waits for the next execution is seen by reads (R485, R368). -/
def LoopSt.accepted (l : LoopSt) (sub : Nat) : Word :=
  match l.writes.reverse.find? fun w => w.1 == sub with
  | some w => w.2
  | none => l.word sub

/-- Configured loops with a requested mode other than off (R381). -/
def loopsActive (s : State) : Nat :=
  (s.lpe.loops.filter fun e => e.2.configured && e.2.accepted 1 != 0#32).length

/-- Busy share of the four units over the last second, in units of 0.1 % (R381). -/
def loopLoad (s : State) : Nat :=
  (s.lpe.busy.foldl (fun n e => if e.1 + 1000000000 ≥ s.now then n + e.2 else n) 0) / 4000000

def viewLpe (s : State) (a w : Nat) : Nat :=
  if a = LPE_STAT then putFld (putFld w LPE_STAT_ACTIVE (loopsActive s)) LPE_STAT_LOAD (Nat.min 1000 (loopLoad s))
  else if LPE_RWORD 0 ≤ a ∧ a < LPE_RWORD 32 then
    ((s.loop (s.fld LPE_RSEL_LOOP)).accepted ((a - LPE_RWORD 0) / 4 + 1)).toNat
  else w

/-! ### Segment headers (R118) -/

/-- A segment header's fields (R118). -/
def Hdr.cls (h : Hdr) : Nat := wbits h.w0 31 30
def Hdr.cluster (h : Hdr) : Nat := wbits h.w0 29 27
def Hdr.task (h : Hdr) : Nat := wbits h.w0 26 22
def Hdr.rank (h : Hdr) : Nat := wbits h.w0 21 12
def Hdr.always (h : Hdr) : Bool := wbit h.w0 11
def Hdr.sys (h : Hdr) : Bool := wbit h.w0 7
def Hdr.version (h : Hdr) : Nat := wbits h.w0 6 0
def Hdr.start (h : Hdr) : Nat := wbits h.w1 20 0
/-- Length in instruction words. -/
def Hdr.len (h : Hdr) : Nat := wbits h.w2 27 16 + 1

def Hdr.word (h : Hdr) (i : Nat) : Word := match i with | 0 => h.w0 | 1 => h.w1 | 2 => h.w2 | _ => h.w3
/-- A header word is written, with its reserved bits as they come (DESIGN CHOICE, log 93). -/
def Hdr.setWord (h : Hdr) (i : Nat) (w : Word) : Hdr :=
  match i with | 0 => { h with w0 := w } | 1 => { h with w1 := w } | 2 => { h with w2 := w } | _ => { h with w3 := w }

def State.hdr (s : State) (seg : Nat) : Hdr := s.gz.hdr.get {} seg

/-- Configured segments, as numbers. -/
def segments (s : State) : List Nat := (s.gz.hdr.filter fun e => e.2.cls != 0).map (·.1)

/-- Segments of a task. -/
def taskSegs (s : State) (k : Nat) : List Nat :=
  (s.gz.hdr.filter fun e => e.2.cls != 0 && e.2.task == k).map (·.1)

/-- The islands that hold lane-class segments of a task (R19, R411). -/
def taskIslands (s : State) (k : Nat) : List Nat :=
  dedup (((taskSegs s k).filter fun g => (s.hdr g).cls == 1).map fun g => (s.hdr g).cluster % 4)

/-! ### NRG (R420 to R427) -/

/-- The balance in whole mJ, rounded towards minus infinity. -/
def balMj (s : State) : Int := s.nrg.bal / 1000

/-- The highest of the recorded demands of a task on an island; 0 while none is known, and none on an island without a
lane-class segment of the task (R411). -/
def demand (s : State) (task : Nat) (full : Bool) (isl : Nat) : Nat :=
  if (taskIslands s task).contains isl then
    ((s.nrg.hist.get [] (2 * task + b2n full)).map fun c => c.getD isl 0).foldl Nat.max 0
  else 0

/-- The capacity C in force, from the last update of the ledger on, and the class 3 reserve, in mJ (R397, R421). -/
def nrgCap (s : State) : Nat := s.nrg.cap
def nrgRes3 (s : State) : Nat := Nat.min (s.fld NRG_RES3_MJ) (nrgCap s)

/-- T_j in units of 0.1 °C. -/
def tj (s : State) : Int := s.fldInt NRG_TJ_TJ

/-- C_th in µJ (R398). -/
def thermalCap (s : State) : Int :=
  let c : Int := nrgCap s * 1000
  let t := tj s
  if s.flag NRG_STAT_LIMITING then 0
  else if t < 1000 then c
  else if t < 1100 then c * (1100 - t) / 100
  else 0

/-- The available energy V in µJ (R398). -/
def available (s : State) : Int := Min.min s.nrg.bal (thermalCap s)

/-- What is shed for want of funds: a class stops when V is below the estimate of its next slice, with the reserve for class 3;
in LIMITING nothing is funded (R404, R416, R422). DEDUCED (log 25): the next slice is the one last asked for and not granted;
while none is known its estimate is the least amount, above 0. -/
def shed (s : State) : Nat :=
  if s.flag NRG_STAT_LIMITING then 2
  else if !s.flag NRG_CTRL_EN then 0
  else if available s < (Nat.max 1 s.nrg.next2 : Int) then 2
  else if available s - nrgRes3 s * 1000 < (Nat.max 1 s.nrg.next3 : Int) then 1
  else 0

/-- Bytes that a scrub pass reads: on-chip SRAM, the segment-code caches, the subscription memory, the loop memory and the
firmware memory (R26, R28, R124, R345, R401). -/
def scrubTotal : Nat := 33554432 + 8 * 65536 + 4 * (409600 + 2097152) + 4096 * 128 + 4194304

def viewNrg (s : State) (a w : Nat) : Nat :=
  let n := s.nrg
  let isl := (a - NRG_ISLCTRL 0) / 0x20
  if a = NRG_BAL then (BitVec.ofInt 32 (balMj s)).toNat
  else if a = NRG_STAT then putFld w NRG_STAT_SHED (shed s)
  else if a = NRG_INEL then n.inUj % 2 ^ 32
  else if a = NRG_INEH then n.inUj / 2 ^ 32 % 2 ^ 32
  else if a = NRG_SCRUBSTAT then
    putFld (putFld w NRG_SCRUBSTAT_AGE (holdAt 0xFFFF ((s.now - n.lastPass) / 60000000000))) NRG_SCRUBSTAT_PROGRESS
      (n.done * 1000 / scrubTotal)
  else if NRG_TDEM 0 ≤ a ∧ a < NRG_TDEM 4 then demand s (s.fld NRG_TSEL_TASK) false ((a - NRG_TDEM 0) / 4)
  else if NRG_TFULL 0 ≤ a ∧ a < NRG_TFULL 4 then demand s (s.fld NRG_TSEL_TASK) true ((a - NRG_TFULL 0) / 4)
  else if NRG_ISLCTRL 0 ≤ a ∧ a < NRG_ISLCTRL 4 ∧ a = NRG_ISLEL isl then n.islUj.getD isl 0 % 2 ^ 32
  else if NRG_ISLCTRL 0 ≤ a ∧ a < NRG_ISLCTRL 4 ∧ a = NRG_ISLEH isl then n.islUj.getD isl 0 / 2 ^ 32 % 2 ^ 32
  else w

/-! ### HSB (R474 to R478) -/

def State.pathLost (s : State) (path : Nat) : Bool := s.hsb.lost.getD path true

/-- Delta bytes of the last whole millisecond (R477). -/
def deltaLoad (s : State) : Nat :=
  let ms := s.now / 1000000
  if s.hsb.loadMs = ms then s.hsb.loadLast else if s.hsb.loadMs + 1 = ms then s.hsb.loadNow else 0

def viewHsb (s : State) (a w : Nat) : Nat :=
  let h := s.hsb
  if a = HSB_STAT then
    putFld (putFld (putFld (putFld (putFld (putFld w HSB_STAT_PROLE h.partner.role) HSB_STAT_LOST485
      (b2n (s.pathLost 1))) HSB_STAT_LOSTSL (b2n (s.pathLost 0))) HSB_STAT_NOTICE h.rxNotice) HSB_STAT_HANDOVER
      (b2n h.switch.isSome)) HSB_STAT_ROLE h.role
  else if a = HSB_EPSTORE then h.epStore
  else if a = HSB_DLOAD then Nat.min 0x7FFFF (deltaLoad s)
  else if a = HSB_SWTL then h.swTime % 2 ^ 32
  else if a = HSB_SWTH then h.swTime / 2 ^ 32 % 2 ^ 32
  else w

/-! ### JRN (R516 to R519) -/

/-- Open sessions; requests in flight; requests waiting for firmware, with their slots. -/
def openSessions (s : State) : Nat := (s.jrn.sessions.filter fun e => e.2.isSome).length
def fwWaiting (s : State) : List (Nat × JSlot) :=
  s.jrn.slots.filterMap fun e => e.2.map fun j => (e.1, j)

/-- Accepted requests that have not been answered: those that firmware serves, those routed to a station, those that wait
for a stored record (R513). -/
def openRequests (s : State) : List JReq :=
  (fwWaiting s).map (·.2.req) ++ s.phr.entries.filterMap (fun e => if e.2.busy then e.2.tx.req else none)
    ++ s.phr.queues.flatMap (fun q => q.2.filterMap (·.req))
    ++ (s.nv.posted.filterMap fun p => match p with | .record _ _ _ w => w | .win _ _ => none)
    ++ (match s.boot.updWork with | some w => w.req.toList | none => []) ++ s.boot.updReq.toList
    ++ s.jrn.edits.map (·.req)

def inFlight (s : State) : Nat := (openRequests s).length

/-- The slot of the oldest waiting request. -/
def fwNext (s : State) : Option Nat :=
  ((fwWaiting s).foldl (fun (b : Option (Nat × Nat)) e =>
    match b with
    | none => some (e.2.seqno, e.1)
    | some x => if e.2.seqno < x.1 then some (e.2.seqno, e.1) else some x) none).map (·.2)

/-- The source of a request as JRN_SLOTINFO shows it: carrier, and session number or node. -/
def jsrcInfo : JSrc → Nat × Nat
  | .eth _ _ session _ _ => (0, session.toNat % 256)
  | .can ctrl node => (1 + ctrl.val, node.toNat)

def viewJrn (s : State) (a w : Nat) : Nat :=
  let sel := s.jrn.slots.get none (s.fld JRN_SLOTSEL_SLOT)
  if a = JRN_STAT then
    putFld (putFld (putFld (putFld w JRN_STAT_SESSIONS (openSessions s)) JRN_STAT_INFLIGHT (inFlight s))
      JRN_STAT_FWQ (fwWaiting s).length) JRN_STAT_PHASE s.jrn.phase
  else if a = JRN_FWNEXT then
    match fwNext s with
    | some n => 2 ^ 31 + n
    | none => 0
  else if a = JRN_SLOTINFO then
    match sel with
    | some j => (jsrcInfo j.req.src).1 * 2 ^ 30 + j.role * 2 ^ 27 + (jsrcInfo j.req.src).2
    | none => 0
  else if JRN_MSG 0 ≤ a ∧ a < JRN_MSG 260 then
    match sel with
    | some j => fromLE (slice j.msg (a - JRN_MSG 0) 4)
    | none => 0
  else w

/-! ### DIO and AIO (R561 to R573) -/

def State.dchan (s : State) (k : Nat) : DChan := s.field.digital.get {} k
def State.setDchan (s : State) (k : Nat) (c : DChan) : State :=
  { s with field := { s.field with digital := s.field.digital.set {} k c } }
def State.achan (s : State) (k : Nat) : AChan := s.field.analog.get {} k
def State.setAchan (s : State) (k : Nat) (c : AChan) : State :=
  { s with field := { s.field with analog := s.field.analog.set {} k c } }
def State.encPair (s : State) (j : Nat) : EncSt := s.field.enc.get {} j
def State.setEncPair (s : State) (j : Nat) (e : EncSt) : State :=
  { s with field := { s.field with enc := s.field.enc.set {} j e } }

/-- The owner of a numbered resource (R558). -/
def State.owner (s : State) (res : Nat) : Nat := s.field.owners.get 0 res

/-- The mode that DIO_CFGk.MODE reads (R566): the written one, or encoder, trim button or safety by the channel's owner. -/
def dioMode (s : State) (k : Nat) : Nat :=
  if s.owner k = 2 then 5
  else if s.owner k = 3 then 4
  else if s.flag (DIO_ENCCTRL_EN (k / 2)) then 3
  else s.fld (DIO_CFG_MODE k)

/-- The debounced input, or the read-back of an output. -/
def dioIn (c : DChan) : Bool := c.state

/-- Bit `k` of a mask for every digital channel that satisfies `p`. -/
def dioMask (s : State) (p : DChan → Bool) : Nat :=
  (List.range 32).foldl (fun n k => if p (s.dchan k) then n + 2 ^ k else n) 0

/-- The task to which a program-owned resource is bound. -/
def resTask (s : State) (res : Nat) : Nat :=
  if res < 32 then s.fld (DIO_CFG_TASK res)
  else if res < 48 then s.fld (DIO_CFG_TASK (2 * (res - 32)))
  else if res < 56 then s.fld (AIO_CFG_TASK (res - 48))
  else 0

/-- The state of R530 as the logic side reads it: NOLINK while the link is down. -/
def fieldState (s : State) : Nat := if s.field.link then s.field.state else 0

def viewDio (s : State) (a w : Nat) : Nat :=
  let f := s.field
  let k := (a - DIO_CFG 0) / 0x20
  let j := (a - DIO_ENCCTRL 0) / 0x10
  if a = DIO_FSTAT then
    putFld (putFld (putFld w DIO_FSTAT_VFHIGH (b2n (f.link && f.vfhigh))) DIO_FSTAT_VFLOW (b2n (f.link && f.vflow)))
      DIO_FSTAT_STATE (fieldState s)
  else if a = DIO_VFIELD then (if f.link then f.mv % 65536 else 0)
  else if a = DIO_IN then (if f.link then dioMask s dioIn else 0)
  else if a = DIO_OUT then (if f.link then dioMask s (·.driver) else 0)
  else if a = DIO_FLT then (if f.link then dioMask s (fun c => c.live != 0) else 0)
  else if a = DIO_OWNER then
    let res := s.fld DIO_OWNSEL_RES
    let o := s.owner res
    o * 2 ^ 28 + (if o = 1 then resTask s res else 0)
  else if DIO_CFG 0 ≤ a ∧ a < DIO_CFG 32 then
    (if a = DIO_CFG k then putFld w (DIO_CFG_MODE k) (dioMode s k)
     else if a = DIO_DIAG k then
       putFld (putFld w (DIO_DIAG_LIVE k) (if f.link then (s.dchan k).live else 0)) (DIO_DIAG_LATCHED k)
         (if f.link then (s.dchan k).seen else 0)
     else w)
  else if DIO_ENCCTRL 0 ≤ a ∧ a < DIO_ENCCTRL 16 ∧ a = DIO_ENCCNT j then (s.encPair j).count.toNat
  else w

/-- Bit `c` of a mask for every analogue channel that satisfies `p`. -/
def aioMask (s : State) (p : AChan → Bool) : Nat :=
  (List.range 8).foldl (fun n c => if p (s.achan c) then n + 2 ^ c else n) 0

def viewAio (s : State) (a w : Nat) : Nat :=
  let c := (a - AIO_CFG 0) / 0x40
  let ch := s.achan c
  let l := s.field.link
  if a = AIO_STAT then
    if l then aioMask s (fun x => x.live &&& 0xFB != 0) * 256 + aioMask s (fun x => bit x.live 2) else 0
  else if AIO_CFG 0 ≤ a ∧ a < AIO_CFG 8 ∧ l then
    if a = AIO_MEAS c then (intWord ch.meas).toNat
    else if a = AIO_CMD c then (intWord ch.drive).toNat
    else if a = AIO_DIAG c then putFld (putFld w (AIO_DIAG_LIVE c) (ch.live % 128)) (AIO_DIAG_LATCHED c) ch.seen
    else if a = AIO_RAW c then (intWord (ch.hist.headD 0)).toNat
    else w
  else w

/-! ### CAN (R590 to R596) -/

def State.canst (s : State) (m : Nat) : CanSt := s.can.get {} m
def State.setCanst (s : State) (m : Nat) (c : CanSt) : State := { s with can := s.can.set {} m c }

/-- The receive registers of controller m, which show the oldest frame of the FIFO and read 0 when it is empty. -/
def viewCan (s : State) (m a w : Nat) : Nat :=
  let fifo := (s.canst m).fifo
  if CAN_RXCNT m ≤ a ∧ a ≤ CAN_RXPOP m then
    if a = CAN_RXCNT m then fifo.length
    else
      match fifo with
      | [] => 0
      | x :: _ =>
        if a = CAN_RXID m then b2n x.frame.ide * 2 ^ 31 + x.frame.id.toNat
        else if a = CAN_RXINFO m then
          b2n x.frame.fdf * 2 ^ 31 + b2n x.frame.brs * 2 ^ 30 + b2n x.frame.esi * 2 ^ 29 + b2n x.frame.rtr * 2 ^ 28
            + x.filter * 2 ^ 12 + x.frame.dlc.toNat
        else if a = CAN_RXTIME m then x.time % 2 ^ 32
        else if a = CAN_RXPOP m then 0
        else fromLE (slice x.frame.data (a - CAN_RXDATA m 0) 4)
  else w

/-! ### SAF (R624, R625) -/

def State.safAxis (s : State) (a : Nat) : SafAxis := s.saf.axes.get {} a
def State.safConn (s : State) (n : Nat) : SafConn := s.saf.conns.get {} n
def State.safInput (s : State) (i : Nat) : SafInput := s.saf.inputs.get {} i

/-- The indexes of the writable safety objects, with their last subindex: the parameters of R627 to R629. -/
def safetyParams : List (Nat × List Nat) :=
  (List.range 8).map (fun a => (0x7310 + a, [1, 2, 3, 4, 5, 6, 7, 8, 9, 10, 11, 12, 13, 14]))
  ++ (List.range 32).map (fun n => (0x7320 + n, [1, 2, 3, 4]))
  ++ (List.range 8).map (fun i => (0x7340 + i, [1, 2, 3, 4, 5, 6]))
  ++ (List.range 4).map (fun o => (0x7350 + o, [1, 2]))

/-- SAF_INPUT's low half: [15:8] FAULT, [7:0] CLOSED. -/
def safInputs (s : State) : Nat :=
  (List.range 8).foldl (fun n i => n + b2n (s.safInput i).fault * 2 ^ (8 + i) + b2n (s.safInput i).closed * 2 ^ i) 0

def safAxWord (x : SafAxis) : Nat := x.v * 65536 + x.fault * 256 + x.state
def safConnWord (x : SafConn) : Nat := holdAt 0xFFFF x.fails * 65536 + x.state

end Sys2Proof.Machine
end

