-- ==== Sys2Proof/Machine/ObjTable.lean ====
section
/-!
DEFINITION. ObjTable.lean: the object dictionary as the tables of the chapters give it: for every subindex its type, the
roles that may read and write it, its effect point, whether it is persistent and group-writable, its default and range, and
where its value is held.
-/
namespace Sys2Proof.Machine

/-- Where an object's value is held: a register field (of the first index; a further index lies `stride` higher), the
object store, a word of a loop record, or elsewhere in the state. -/
inductive ObjHome where
  | field (f : Fld) (stride : Nat)
  | store
  | loop
  | calc
  | const
deriving DecidableEq, Repr

/-- What a write may carry. `special`: the rule of the object's chapter decides. -/
inductive ObjRange where
  | any
  | int (lo hi : Int)
  | real (lo hi : Nat)
  | finite
  | number
  | len (lo hi : Nat)
  | special
deriving DecidableEq, Repr

/-- A subindex, or a run of subindexes with the same attributes (R482). `typ` is the code of R483; `rd` and `wr` have a bit
for each role; `eff` is the code of R503; `flags` has persistent in bit 0 and group-writable in bit 1. -/
structure ObjDef where
  lo    : Nat
  hi    : Nat
  typ   : Nat
  rd    : Nat
  wr    : Nat
  eff   : Nat
  flags : Nat
  dflt  : Nat
  range : ObjRange
  home  : ObjHome
  name  : String
deriving DecidableEq, Repr

/-- An object, or an array of objects with the same subindexes. -/
structure ObjClass where
  base  : Nat
  count : Nat
  subs  : List ObjDef
deriving DecidableEq, Repr

/-- The clearing of user calibration (R499). Its subindex 0 is the model's (DESIGN CHOICE, log 98). -/
def objs3FFF : List ObjDef := [
  ⟨0, 0, 6, 0x1F, 0, 0, 0, 1, .any, .const, "Highest subindex"⟩,
  ⟨0x01, 0x01, 6, 0, 0x1C, 1, 0, 0, .int 1 1, .calc, "Clear user calibration"⟩]

/-- Objects 0x1000 (R520). -/
def objs1000 : List ObjDef := [
  ⟨0, 0, 6, 0x1F, 0, 0, 0, 10, .any, .const, "Highest subindex"⟩,
  ⟨0x01, 0x01, 7, 0x1F, 0x00, 0, 0, 0x59A1, .any, .field (SYS_ID_VENDOR) 0x0, "Vendor code"⟩,
  ⟨0x02, 0x02, 7, 0x1F, 0x00, 0, 0, 0x0640, .any, .field (SYS_ID_PART) 0x0, "Part code"⟩,
  ⟨0x03, 0x03, 6, 0x1F, 0x00, 0, 0, 0, .any, .field (SYS_REV_COATED) 0x0, "Variant"⟩,
  ⟨0x04, 0x04, 6, 0x1F, 0x00, 0, 0, 0, .any, .field (SYS_REV_SILICON) 0x0, "Silicon revision"⟩,
  ⟨0x05, 0x05, 6, 0x1F, 0x00, 0, 0, 0, .any, .field (SYS_REV_BOARD) 0x0, "Board revision"⟩,
  ⟨0x06, 0x06, 9, 0x1F, 0x00, 0, 0, 0, .any, .calc, "Serial number"⟩,
  ⟨0x07, 0x07, 8, 0x1F, 0x00, 0, 0, 0, .any, .calc, "Firmware version"⟩,
  ⟨0x08, 0x08, 8, 0x1F, 0x00, 0, 0, 0, .any, .calc, "Loader version"⟩,
  ⟨0x09, 0x09, 9, 0x1F, 0x00, 0, 0, 0, .any, .calc, "Base MAC address M"⟩,
  ⟨0x0A, 0x0A, 13, 0x1F, 0x1C, 1, 1, 0, .len 0 32, .store, "Module name"⟩]

/-- Objects 0x1010 (R521). -/
def objs1010 : List ObjDef := [
  ⟨0, 0, 6, 0x1F, 0, 0, 0, 7, .any, .const, "Highest subindex"⟩,
  ⟨0x01, 0x01, 8, 0x1F, 0x18, 8, 1, 0xC0A8010A, .special, .store, "IPv4 address"⟩,
  ⟨0x02, 0x02, 8, 0x1F, 0x18, 8, 1, 0xFFFFFF00, .special, .store, "Subnet mask"⟩,
  ⟨0x03, 0x03, 8, 0x1F, 0x18, 8, 1, 0, .any, .store, "Gateway"⟩,
  ⟨0x04, 0x04, 7, 0x1F, 0x18, 8, 1, 48200, .int 1024 65535, .store, "Jurno UDP port"⟩,
  ⟨0x05, 0x05, 6, 0x1F, 0x00, 0, 0, 0, .any, .calc, "Link state"⟩,
  ⟨0x06, 0x06, 8, 0x1F, 0x00, 0, 0, 0, .any, .calc, "Frames received"⟩,
  ⟨0x07, 0x07, 8, 0x1F, 0x00, 0, 0, 0, .any, .calc, "Frames discarded"⟩]

/-- Objects 0x1020 (R522). -/
def objs1020 : List ObjDef := [
  ⟨0, 0, 6, 0x1F, 0, 0, 0, 9, .any, .const, "Highest subindex"⟩,
  ⟨0x01, 0x01, 1, 0x1F, 0x18, 1, 1, 1, .int 0 1, .field (JRN_CTRL_OBSOPEN) 0x0, "Observer without session"⟩,
  ⟨0x02, 0x02, 7, 0x1F, 0x18, 15, 1, 60, .int 10 3600, .store, "Session inactivity time"⟩,
  ⟨0x03, 0x03, 6, 0x1F, 0x00, 0, 0, 0, .int 0 8, .calc, "Sessions open"⟩,
  ⟨0x04, 0x04, 6, 0x1F, 0x00, 0, 0, 0, .int 0 64, .calc, "Requests in flight"⟩,
  ⟨0x05, 0x05, 8, 0x1F, 0x00, 0, 0, 0, .any, .field ⟨JRN_BUSYCNT, 31, 0⟩ 0x0, "Busy answers"⟩,
  ⟨0x06, 0x06, 8, 0x1F, 0x00, 0, 0, 0, .any, .field ⟨JRN_AUTHFAIL, 31, 0⟩ 0x0, "Authentication failures"⟩,
  ⟨0x07, 0x07, 8, 0x1F, 0x00, 0, 0, 0, .any, .field ⟨JRN_DISCARD, 31, 0⟩ 0x0, "Discarded messages"⟩,
  ⟨0x08, 0x08, 6, 0x1F, 0x00, 0, 0, 0, .any, .calc, "Service phase"⟩,
  ⟨0x09, 0x09, 1, 0x1F, 0x18, 1, 1, 1, .int 0 1, .store, "Routed access"⟩]

/-- Objects 0x1021 (R523). -/
def objs1021 : List ObjDef := [
  ⟨0, 0, 6, 0x1F, 0, 0, 0, 6, .any, .const, "Highest subindex"⟩,
  ⟨0x01, 0x04, 14, 0x00, 0x18, 15, 1, 0, .len 32 32, .store, "Observer, Operator, Engineer and Supervisor key"⟩,
  ⟨0x05, 0x05, 14, 0x00, 0x00, 0, 0, 0, .len 32 32, .store, "Factory key"⟩,
  ⟨0x06, 0x06, 6, 0x1F, 0x00, 0, 0, 0x10, .any, .calc, "Keys set"⟩]

/-- Objects 0x1030 (R524). -/
def objs1030 : List ObjDef := [
  ⟨0, 0, 6, 0x1F, 0, 0, 0, 6, .any, .const, "Highest subindex"⟩,
  ⟨0x01, 0x01, 1, 0x1F, 0x1C, 8, 1, 0, .int 0 1, .store, "CAN0 Jurno enable"⟩,
  ⟨0x02, 0x02, 6, 0x1F, 0x1C, 8, 1, 1, .int 1 127, .store, "CAN0 node"⟩,
  ⟨0x03, 0x03, 1, 0x1F, 0x1C, 8, 1, 0, .int 0 1, .store, "CAN1 Jurno enable"⟩,
  ⟨0x04, 0x04, 6, 0x1F, 0x1C, 8, 1, 1, .int 1 127, .store, "CAN1 node"⟩,
  ⟨0x05, 0x05, 7, 0x1F, 0x1C, 8, 1, 0x01D0, .int 0 2047, .store, "Identifier base"⟩,
  ⟨0x06, 0x06, 8, 0x1F, 0x00, 0, 0, 0, .any, .calc, "Reassembly errors"⟩]

/-- Objects 0x1031 (R525). -/
def objs1031 : List ObjDef := [
  ⟨0, 0, 6, 0x1F, 0, 0, 0, 9, .any, .const, "Highest subindex"⟩,
  ⟨0x01, 0x01, 14, 0x00, 0x1C, 1, 0, 0, .len 6 6, .calc, "Unlock"⟩,
  ⟨0x02, 0x09, 9, 0x1F, 0x00, 0, 0, 0, .any, .calc, "Unlock in force 1 to 8"⟩]

/-- Objects 0x1040 (R736). -/
def objs1040 : List ObjDef := [
  ⟨0, 0, 6, 0x1F, 0, 0, 0, 8, .any, .const, "Highest subindex"⟩,
  ⟨0x01, 0x01, 6, 0x00, 0x18, 1, 0, 0, .int 1 3, .calc, "Command"⟩,
  ⟨0x02, 0x02, 6, 0x1F, 0x18, 15, 1, 0, .int 0 1, .store, "Target"⟩,
  ⟨0x03, 0x03, 14, 0x00, 0x18, 1, 0, 0, .len 4104 4104, .calc, "Block"⟩,
  ⟨0x04, 0x04, 6, 0x1F, 0x00, 0, 0, 0, .any, .calc, "State"⟩,
  ⟨0x05, 0x05, 8, 0x1F, 0x00, 0, 0, 0, .any, .calc, "Blocks accepted"⟩,
  ⟨0x06, 0x06, 6, 0x1F, 0x00, 0, 0, 0, .any, .calc, "Failure reason"⟩,
  ⟨0x07, 0x07, 8, 0x1F, 0x00, 0, 0, 0, .any, .calc, "Image version"⟩,
  ⟨0x08, 0x08, 7, 0x1F, 0x00, 0, 0, 0, .any, .calc, "Pair compatibility"⟩]

/-- Objects 0x1041 (R737). -/
def objs1041 : List ObjDef := [
  ⟨0, 0, 6, 0x1F, 0, 0, 0, 6, .any, .const, "Highest subindex"⟩,
  ⟨0x01, 0x01, 6, 0x1F, 0x00, 0, 0, 0, .any, .field (SYS_RSTSRC_CAUSE) 0x0, "Last reset source"⟩,
  ⟨0x02, 0x02, 6, 0x1F, 0x1C, 7, 1, 1, .int 0 1, .store, "Warm start without saved data"⟩,
  ⟨0x03, 0x03, 1, 0x1F, 0x00, 0, 0, 0, .int 0 1, .calc, "Saved data valid"⟩,
  ⟨0x04, 0x04, 8, 0x1F, 0x00, 0, 0, 0, .any, .calc, "Run counter"⟩,
  ⟨0x05, 0x05, 8, 0x1F, 0x00, 0, 0, 0, .any, .calc, "Release to firmware running"⟩,
  ⟨0x06, 0x06, 8, 0x1F, 0x00, 0, 0, 0, .any, .calc, "Release to RUNNING"⟩]

/-- Objects 0x1400 (R428). -/
def objs1400 : List ObjDef := [
  ⟨0, 0, 6, 0x1F, 0, 0, 0, 15, .any, .const, "Highest subindex"⟩,
  ⟨0x01, 0x01, 1, 0x1F, 0x1C, 1, 1, 1, .int 0 1, .field (NRG_CTRL_EN) 0x0, "Enable"⟩,
  ⟨0x02, 0x02, 8, 0x1F, 0x1C, 15, 1, 16000, .int 8000 24000, .field (NRG_ALLOW_MW) 0x0, "Allowance"⟩,
  ⟨0x03, 0x03, 8, 0x1F, 0x1C, 15, 1, 2000, .int 100 10000, .field (NRG_CAP_MJ) 0x0, "Bucket capacity"⟩,
  ⟨0x04, 0x04, 8, 0x1F, 0x1C, 15, 1, 500, .special, .field (NRG_RES3_MJ) 0x0, "Class 3 reserve"⟩,
  ⟨0x05, 0x05, 6, 0x1F, 0x1C, 15, 1, 20, .int 0 100, .field (NRG_CTRL_SLACK) 0x0, "Slack"⟩,
  ⟨0x06, 0x06, 6, 0x1F, 0x1C, 15, 1, 0, .int 0 66, .field (NRG_CTRL_IDLECODE) 0x0, "Idle set-point code"⟩,
  ⟨0x07, 0x07, 6, 0x1F, 0x1C, 15, 1, 4, .int 1 24, .field (NRG_SCRUB_HOURS) 0x0, "Scrub pass target"⟩,
  ⟨0x08, 0x08, 4, 0x1F, 0x00, 0, 0, 2000, .any, .field ⟨NRG_BAL, 31, 0⟩ 0x0, "Balance"⟩,
  ⟨0x09, 0x09, 7, 0x1F, 0x00, 0, 0, 0, .any, .field ⟨NRG_STAT, 9, 0⟩ 0x0, "State"⟩,
  ⟨0x0A, 0x0A, 8, 0x1F, 0x00, 0, 0, 0, .any, .field ⟨NRG_DEFICIT, 31, 0⟩ 0x0, "Deficit"⟩,
  ⟨0x0B, 0x0B, 9, 0x1F, 0x00, 0, 0, 0, .any, .calc, "Input energy"⟩,
  ⟨0x0C, 0x0C, 8, 0x1F, 0x00, 0, 0, 0, .any, .field (NRG_INPWR_MW) 0x0, "Input power"⟩,
  ⟨0x0D, 0x0D, 3, 0x1F, 0x00, 0, 0, 0, .any, .field (NRG_TJ_TJ) 0x0, "Junction temperature"⟩,
  ⟨0x0E, 0x0E, 3, 0x1F, 0x1C, 1, 0, 0, .any, .calc, "Peak junction temperature"⟩,
  ⟨0x0F, 0x0F, 8, 0x1F, 0x00, 0, 0, 0, .any, .field ⟨NRG_FORCED, 31, 0⟩ 0x0, "Forced duties"⟩]

/-- Objects 0x1410 to 0x1413 (R429). -/
def objs1410 : List ObjDef := [
  ⟨0, 0, 6, 0x1F, 0, 0, 0, 7, .any, .const, "Highest subindex"⟩,
  ⟨0x01, 0x01, 1, 0x1F, 0x1C, 15, 1, 0, .int 0 1, .field (NRG_ISLCTRL_FIX 0) 0x20, "Fixed set-point mode"⟩,
  ⟨0x02, 0x02, 6, 0x1F, 0x1C, 15, 1, 36, .int 0 66, .field (NRG_ISLCTRL_FIXCODE 0) 0x20, "Fixed set-point code"⟩,
  ⟨0x03, 0x03, 6, 0x1F, 0x00, 0, 0, 36, .int 0 66, .field (NRG_ISLSTAT_CODE 0) 0x20, "Set-point code"⟩,
  ⟨0x04, 0x04, 7, 0x1F, 0x00, 0, 0, 0, .any, .field (NRG_ISLSTAT_PACE 0) 0x20, "Pace"⟩,
  ⟨0x05, 0x05, 9, 0x1F, 0x00, 0, 0, 0, .any, .calc, "Energy"⟩,
  ⟨0x06, 0x06, 8, 0x1F, 0x00, 0, 0, 0, .any, .field (NRG_ISLPWR_MW 0) 0x20, "Power"⟩,
  ⟨0x07, 0x07, 3, 0x1F, 0x00, 0, 0, 0, .any, .field (NRG_ISLTEMP_TEMP 0) 0x20, "Temperature"⟩]

/-- Objects 0x1800 (R479). -/
def objs1800 : List ObjDef := [
  ⟨0, 0, 6, 0x1F, 0, 0, 0, 13, .any, .const, "Highest subindex"⟩,
  ⟨0x01, 0x01, 6, 0x1F, 0x1C, 8, 1, 0, .int 0 2, .field (HSB_CTRL_UNIT) 0x0, "Unit"⟩,
  ⟨0x02, 0x02, 1, 0x1F, 0x1C, 15, 0, 0, .int 0 1, .field (HSB_CTRL_MAINT) 0x0, "Maintenance mode"⟩,
  ⟨0x03, 0x03, 1, 0x1F, 0x1C, 1, 1, 1, .int 0 1, .field (HSB_CTRL_AUTORESYNC) 0x0, "Automatic resynchronisation"⟩,
  ⟨0x04, 0x04, 6, 0x1F, 0x00, 0, 0, 1, .any, .field (HSB_STAT_ROLE) 0x0, "Role"⟩,
  ⟨0x05, 0x05, 6, 0x1F, 0x00, 0, 0, 0, .any, .field (HSB_STAT_PROLE) 0x0, "Partner role"⟩,
  ⟨0x06, 0x06, 8, 0x1F, 0x00, 0, 0, 0, .any, .field ⟨PHR_EPOCH, 31, 0⟩ 0x0, "Current epoch"⟩,
  ⟨0x07, 0x07, 6, 0x00, 0x1C, 1, 0, 0, .int 1 3, .calc, "Command"⟩,
  ⟨0x08, 0x08, 8, 0x1F, 0x00, 0, 0, 0, .any, .field (HSB_SWCNT_TAKEOVER) 0x0, "Takeovers"⟩,
  ⟨0x09, 0x09, 8, 0x1F, 0x00, 0, 0, 0, .any, .field (HSB_SWCNT_PLANNED) 0x0, "Planned switchovers"⟩,
  ⟨0x0A, 0x0A, 12, 0x1F, 0x00, 0, 0, 0, .any, .calc, "Last role change"⟩,
  ⟨0x0B, 0x0B, 8, 0x1F, 0x00, 0, 0, 0, .any, .field ⟨HSB_DIGERR, 31, 0⟩ 0x0, "Digest mismatches"⟩,
  ⟨0x0C, 0x0C, 4, 0x1F, 0x00, 0, 0, 0, .any, .field ⟨HSB_TOFF, 31, 0⟩ 0x0, "Timebase offset to partner"⟩,
  ⟨0x0D, 0x0D, 8, 0x1F, 0x00, 7, 0, 0, .any, .calc, "Program check value"⟩]

/-- Objects 0x1801 (R480). -/
def objs1801 : List ObjDef := [
  ⟨0, 0, 6, 0x1F, 0, 0, 0, 14, .any, .const, "Highest subindex"⟩,
  ⟨0x01, 0x01, 8, 0x1F, 0x1C, 15, 1, 600, .int 60 86400, .store, "Self-test interval"⟩,
  ⟨0x02, 0x0C, 8, 0x1F, 0x00, 0, 0, 0xFFFFFFFF, .any, .calc, "Item ages"⟩,
  ⟨0x0D, 0x0D, 6, 0x1F, 0x00, 0, 0, 0, .any, .calc, "Oldest item"⟩,
  ⟨0x0E, 0x0E, 7, 0x1F, 0x1C, 1, 0, 0, .any, .calc, "Failed items"⟩]

/-- Objects 0x1810 (R481). -/
def objs1810 : List ObjDef := [
  ⟨0, 0, 6, 0x1F, 0, 0, 0, 8, .any, .const, "Highest subindex"⟩,
  ⟨0x01, 0x01, 6, 0x1F, 0x00, 0, 0, 0, .any, .field (HSB_FEEDA_STATE) 0x0, "Feed A state"⟩,
  ⟨0x02, 0x02, 7, 0x1F, 0x00, 0, 0, 0, .any, .field (HSB_FEEDA_MV) 0x0, "Feed A voltage"⟩,
  ⟨0x03, 0x03, 7, 0x1F, 0x00, 0, 0, 0, .any, .calc, "Feed A current"⟩,
  ⟨0x04, 0x04, 6, 0x1F, 0x00, 0, 0, 0, .any, .field (HSB_FEEDB_STATE) 0x0, "Feed B state"⟩,
  ⟨0x05, 0x05, 7, 0x1F, 0x00, 0, 0, 0, .any, .field (HSB_FEEDB_MV) 0x0, "Feed B voltage"⟩,
  ⟨0x06, 0x06, 7, 0x1F, 0x00, 0, 0, 0, .any, .calc, "Feed B current"⟩,
  ⟨0x07, 0x07, 8, 0x1F, 0x00, 0, 0, 0, .any, .calc, "Power-fail warnings"⟩,
  ⟨0x08, 0x08, 8, 0x1F, 0x00, 0, 0, 0, .any, .calc, "Feed state changes"⟩]

/-- Objects 0x1C00 (R706). -/
def objs1C00 : List ObjDef := [
  ⟨0, 0, 6, 0x1F, 0, 0, 0, 6, .any, .const, "Highest subindex"⟩,
  ⟨0x01, 0x01, 7, 0x1F, 0x18, 7, 1, 100, .int 1 1000, .store, "Window"⟩,
  ⟨0x02, 0x02, 7, 0x1F, 0x18, 7, 1, 0, .special, .store, "Shortest service interval"⟩,
  ⟨0x03, 0x03, 6, 0x1F, 0x18, 7, 1, 0, .int 0 1, .store, "Time base"⟩,
  ⟨0x04, 0x04, 6, 0x1F, 0x00, 0, 0, 0, .any, .field (WDG_STAT_LASTCAUSE) 0x0, "Last expiry cause"⟩,
  ⟨0x05, 0x05, 6, 0x1F, 0x00, 0, 0, 0, .any, .field (WDG_STAT_COUNT) 0x0, "Expiries since power-on"⟩,
  ⟨0x06, 0x06, 8, 0x1F, 0x00, 0, 0, 0, .any, .calc, "Expiries since manufacture"⟩]

/-- Objects 0x1C10 (R707). -/
def objs1C10 : List ObjDef := [
  ⟨0, 0, 6, 0x1F, 0, 0, 0, 7, .any, .const, "Highest subindex"⟩,
  ⟨0x01, 0x01, 7, 0x1F, 0x18, 1, 1, 0, .int 0 3600, .field (FRZ_CTRL_LIMIT) 0x0, "Freeze limit"⟩,
  ⟨0x02, 0x02, 1, 0x00, 0x18, 1, 0, 0, .int 1 1, .calc, "Freeze now"⟩,
  ⟨0x03, 0x03, 1, 0x1F, 0x00, 0, 0, 0, .int 0 1, .field (FRZ_STAT_STRAP) 0x0, "Strap fitted"⟩,
  ⟨0x04, 0x04, 6, 0x1F, 0x00, 0, 0, 0, .any, .field (FRZ_STAT_SOURCE) 0x0, "Last source"⟩,
  ⟨0x05, 0x05, 12, 0x1F, 0x00, 0, 0, 0, .any, .calc, "Last entry time"⟩,
  ⟨0x06, 0x06, 8, 0x1F, 0x00, 0, 0, 0, .any, .field ⟨FRZ_LASTDUR, 31, 0⟩ 0x0, "Last duration"⟩,
  ⟨0x07, 0x07, 8, 0x1F, 0x00, 0, 0, 0, .any, .field ⟨FRZ_COUNT, 31, 0⟩ 0x0, "Freezes"⟩]

/-- Objects 0x1C20 (R708). -/
def objs1C20 : List ObjDef := [
  ⟨0, 0, 6, 0x1F, 0, 0, 0, 14, .any, .const, "Highest subindex"⟩,
  ⟨0x01, 0x01, 7, 0x1F, 0x1C, 1, 1, 10, .int 1 1000, .field (REC_RATE_RATE) 0x0, "Rate"⟩,
  ⟨0x02, 0x02, 7, 0x1F, 0x1C, 1, 1, 20, .int 1 1000, .field (REC_RATE_BURST) 0x0, "Burst"⟩,
  ⟨0x03, 0x03, 1, 0x1F, 0x1C, 1, 0, 0, .int 0 1, .field (REC_CTRL_RFREEZE) 0x0, "Recorder freeze"⟩,
  ⟨0x04, 0x04, 7, 0x1F, 0x00, 0, 0, 0, .int 0 16384, .field (REC_HELD_COUNT) 0x0, "Records held"⟩,
  ⟨0x05, 0x05, 8, 0x1F, 0x00, 0, 0, 0, .any, .field ⟨REC_NEXTSEQ, 31, 0⟩ 0x0, "Next record number"⟩,
  ⟨0x06, 0x09, 8, 0x1F, 0x00, 0, 0, 0, .any, .calc, "Lost, severity 0 to 3"⟩,
  ⟨0x0A, 0x0A, 8, 0x1F, 0x00, 0, 0, 0, .any, .field ⟨REC_SUPPR, 31, 0⟩ 0x0, "Suppressed"⟩,
  ⟨0x0B, 0x0B, 8, 0x00, 0x18, 1, 0, 0, .int 0x4C47434C 0x4C47434C, .calc, "Clear"⟩,
  ⟨0x0C, 0x0C, 14, 0x1F, 0x18, 1, 1, 0, .len 16 16, .calc, "Trigger freeze sources"⟩,
  ⟨0x0D, 0x0D, 14, 0x1F, 0x1C, 1, 1, 0, .len 0 96, .calc, "Snapshot list"⟩,
  ⟨0x0E, 0x0E, 6, 0x1F, 0x1C, 1, 1, 0x01, .special, .calc, "Trigger severity and append"⟩]

/-- Objects 0x1C21 (R709). -/
def objs1C21 : List ObjDef := [
  ⟨0, 0, 6, 0x1F, 0, 0, 0, 3, .any, .const, "Highest subindex"⟩,
  ⟨0x01, 0x01, 8, 0x1F, 0x1F, 1, 0, 0, .any, .calc, "Read position"⟩,
  ⟨0x02, 0x02, 14, 0x1F, 0x00, 0, 0, 0, .len 0 128, .calc, "Next record"⟩,
  ⟨0x03, 0x03, 8, 0x1F, 0x00, 0, 0, 0, .any, .calc, "Oldest record held"⟩]

/-- Objects 0x1E00 (R662). -/
def objs1E00 : List ObjDef := [
  ⟨0, 0, 6, 0x1F, 0, 0, 0, 8, .any, .const, "Highest subindex"⟩,
  ⟨0x01, 0x01, 9, 0x00, 0x1C, 15, 0, 0, .int 0 0xFFFFFFFFFF, .calc, "Set time"⟩,
  ⟨0x02, 0x02, 9, 0x1F, 0x00, 0, 0, 0, .any, .calc, "Current time"⟩,
  ⟨0x03, 0x03, 6, 0x1F, 0x00, 0, 0, 0, .any, .field ⟨RTC_STAT, 7, 0⟩ 0x0, "Status"⟩,
  ⟨0x04, 0x04, 7, 0x1F, 0x00, 0, 0, 0, .any, .field (RTC_VBAT_MV) 0x0, "VBAT"⟩,
  ⟨0x05, 0x05, 3, 0x1F, 0x00, 0, 0, 0, .any, .calc, "Correction"⟩,
  ⟨0x06, 0x06, 3, 0x1F, 0x00, 0, 0, 0, .any, .calc, "Crystal temperature"⟩,
  ⟨0x07, 0x07, 9, 0x1F, 0x1C, 1, 0, 0, .int 0 0xFFFFFFFFFF, .calc, "Alarm"⟩,
  ⟨0x08, 0x08, 1, 0x1F, 0x1C, 1, 1, 0, .int 0 1, .store, "Follow plant time"⟩]

/-- Objects 0x1E01 (R663). -/
def objs1E01 : List ObjDef := [
  ⟨0, 0, 6, 0x1F, 0, 0, 0, 2, .any, .const, "Highest subindex"⟩,
  ⟨0x01, 0x01, 14, 0x1F, 0x1C, 1, 0, 0, .len 64 64, .calc, "Contents"⟩,
  ⟨0x02, 0x02, 1, 0x00, 0x1C, 1, 0, 0, .int 1 1, .calc, "Clear"⟩]

/-- Objects 0x1F00 (R664). -/
def objs1F00 : List ObjDef := [
  ⟨0, 0, 6, 0x1F, 0, 0, 0, 11, .any, .const, "Highest subindex"⟩,
  ⟨0x01, 0x01, 6, 0x1F, 0x18, 1, 0, 0, .int 0 3, .field (NVM_PROT_LEVEL) 0x0, "Block protection"⟩,
  ⟨0x02, 0x02, 7, 0x1F, 0x00, 0, 0, 0, .any, .field (NVM_RECT_US) 0x0, "Recall time"⟩,
  ⟨0x03, 0x03, 6, 0x1F, 0x00, 0, 0, 0, .any, .field (NVM_RECRES_ONECOPY) 0x0, "Records with one copy"⟩,
  ⟨0x04, 0x04, 6, 0x1F, 0x00, 0, 0, 0, .any, .field (NVM_RECRES_DUP) 0x0, "Duplicate sequences"⟩,
  ⟨0x05, 0x05, 6, 0x1F, 0x00, 0, 0, 0, .any, .field (NVM_RECRES_LOST) 0x0, "Records lost"⟩,
  ⟨0x06, 0x06, 6, 0x1F, 0x00, 0, 0, 0, .any, .field (NVM_RECRES_REPAIR) 0x0, "Counters rebuilt"⟩,
  ⟨0x07, 0x07, 8, 0x1F, 0x00, 0, 0, 0, .any, .field ⟨NVM_WERRCNT, 31, 0⟩ 0x0, "Write errors"⟩,
  ⟨0x08, 0x08, 9, 0x1F, 0x00, 0, 0, 0, .any, .calc, "Operating seconds"⟩,
  ⟨0x09, 0x09, 8, 0x1F, 0x00, 0, 0, 0, .any, .calc, "Power cycles"⟩,
  ⟨0x0A, 0x0A, 8, 0x1F, 0x00, 0, 0, 0, .any, .calc, "Last save size"⟩,
  ⟨0x0B, 0x0B, 8, 0x1F, 0x00, 0, 0, 0, .any, .calc, "Last save duration"⟩]

/-- Objects 0x1F01 (R665). -/
def objs1F01 : List ObjDef := [
  ⟨0, 0, 6, 0x1F, 0, 0, 0, 1, .any, .const, "Highest subindex"⟩,
  ⟨0x01, 0x01, 14, 0x1F, 0x00, 0, 0, 0, .len 4096 4096, .calc, "Sector erase counts"⟩]

/-- Objects 0x2030 (R666). -/
def objs2030 : List ObjDef := [
  ⟨0, 0, 6, 0x1F, 0, 0, 0, 3, .any, .const, "Highest subindex"⟩,
  ⟨0x01, 0x01, 10, 0x1F, 0x00, 0, 0, 0, .number, .calc, "Turnover temperature T0"⟩,
  ⟨0x02, 0x02, 10, 0x1F, 0x00, 0, 0, 0, .number, .calc, "Curvature K"⟩,
  ⟨0x03, 0x03, 10, 0x1F, 0x00, 0, 0, 0, .number, .calc, "Offset F0"⟩]

/-- Objects 0x3000 to 0x3007 (R498). -/
def objs3000 : List ObjDef := [
  ⟨0, 0, 6, 0x1F, 0, 0, 0, 2, .any, .const, "Highest subindex"⟩,
  ⟨0x01, 0x01, 10, 0x1F, 0x1C, 15, 1, 0x00000000, .special, .store, "User gain"⟩,
  ⟨0x02, 0x02, 10, 0x1F, 0x1C, 15, 1, 0x00000000, .special, .store, "User offset"⟩]

/-- Objects 0x3010 to 0x3015 (R498). -/
def objs3010 : List ObjDef := [
  ⟨0, 0, 6, 0x1F, 0, 0, 0, 2, .any, .const, "Highest subindex"⟩,
  ⟨0x01, 0x01, 10, 0x1F, 0x1C, 15, 1, 0x00000000, .special, .store, "User gain"⟩,
  ⟨0x02, 0x02, 10, 0x1F, 0x1C, 15, 1, 0x00000000, .special, .store, "User offset"⟩]

/-- Objects 0x3020 to 0x3024 (R498). -/
def objs3020 : List ObjDef := [
  ⟨0, 0, 6, 0x1F, 0, 0, 0, 2, .any, .const, "Highest subindex"⟩,
  ⟨0x01, 0x01, 10, 0x1F, 0x1C, 15, 1, 0x00000000, .special, .store, "User gain"⟩,
  ⟨0x02, 0x02, 10, 0x1F, 0x1C, 15, 1, 0x00000000, .special, .store, "User offset"⟩]

/-- Objects 0x3030 (R498). -/
def objs3030 : List ObjDef := [
  ⟨0, 0, 6, 0x1F, 0, 0, 0, 2, .any, .const, "Highest subindex"⟩,
  ⟨0x01, 0x01, 10, 0x1F, 0x1C, 15, 1, 0x00000000, .special, .store, "User gain"⟩,
  ⟨0x02, 0x02, 10, 0x1F, 0x1C, 15, 1, 0x00000000, .special, .store, "User offset"⟩]

/-- Objects 0x3040 to 0x3043 (R498). -/
def objs3040 : List ObjDef := [
  ⟨0, 0, 6, 0x1F, 0, 0, 0, 2, .any, .const, "Highest subindex"⟩,
  ⟨0x01, 0x01, 10, 0x1F, 0x1C, 15, 1, 0x00000000, .special, .store, "User gain"⟩,
  ⟨0x02, 0x02, 10, 0x1F, 0x1C, 15, 1, 0x00000000, .special, .store, "User offset"⟩]

/-- Objects 0x4000 to 0x4017 (R106). -/
def objs4000 : List ObjDef := [
  ⟨0, 0, 6, 0x1F, 0, 0, 0, 18, .any, .const, "Highest subindex"⟩,
  ⟨0x01, 0x01, 6, 0x1F, 0x1C, 7, 1, 0, .special, .calc, "Kind"⟩,
  ⟨0x02, 0x02, 8, 0x1F, 0x1C, 7, 1, 20, .int 2 200000, .field (TSK_PERIOD_N 0) 0x40, "Period multiple"⟩,
  ⟨0x03, 0x03, 8, 0x1F, 0x1C, 7, 1, 0, .special, .field ⟨TSK_PHASE 0, 23, 0⟩ 0x40, "Phase"⟩,
  ⟨0x04, 0x04, 8, 0x1F, 0x1C, 7, 1, 600, .int 50 10000000, .field ⟨TSK_STRIKE 0, 23, 0⟩ 0x40, "Strike offset"⟩,
  ⟨0x05, 0x05, 8, 0x1F, 0x1C, 7, 1, 250, .int 20 9999960, .field ⟨TSK_INDL 0, 23, 0⟩ 0x40, "Input deadline"⟩,
  ⟨0x06, 0x06, 8, 0x1F, 0x1C, 7, 1, 100, .int 20 9999960, .field ⟨TSK_OUTM 0, 23, 0⟩ 0x40, "Output margin or maximum execution time"⟩,
  ⟨0x07, 0x07, 6, 0x1F, 0x1C, 7, 1, 0, .int 0 23, .field (TSK_CTRL_PRIO 0) 0x40, "Priority"⟩,
  ⟨0x08, 0x08, 1, 0x1F, 0x1C, 2, 0, 0, .int 0 1, .field (TSK_CTRL_FULLSCAN 0) 0x40, "Full-scan mode"⟩,
  ⟨0x09, 0x09, 6, 0x1F, 0x1C, 7, 1, 0, .int 0 1, .field (TSK_CTRL_MISSACT 0) 0x40, "Strike-miss action"⟩,
  ⟨0x0A, 0x0A, 6, 0x1F, 0x1C, 7, 1, 0, .int 0 127, .field (TSK_CTRL_EVSRC 0) 0x40, "Event source"⟩,
  ⟨0x0B, 0x0B, 6, 0x1F, 0x00, 0, 0, 0, .any, .calc, "Task state"⟩,
  ⟨0x0C, 0x0C, 8, 0x1F, 0x00, 0, 0, 0, .any, .field ⟨TSK_EVLAST 0, 31, 0⟩ 0x40, "Last evaluation time"⟩,
  ⟨0x0D, 0x0D, 8, 0x1F, 0x1C, 1, 0, 0, .int 0 0, .field ⟨TSK_EVMAX 0, 31, 0⟩ 0x40, "Maximum evaluation time"⟩,
  ⟨0x0E, 0x0E, 9, 0x1F, 0x00, 0, 0, 0, .any, .calc, "Cycle count"⟩,
  ⟨0x0F, 0x0F, 8, 0x1F, 0x00, 0, 0, 0, .any, .calc, "Late responses"⟩,
  ⟨0x10, 0x10, 8, 0x1F, 0x00, 0, 0, 0, .any, .calc, "Strike misses"⟩,
  ⟨0x11, 0x11, 8, 0x1F, 0x00, 0, 0, 0, .any, .calc, "Merged events"⟩,
  ⟨0x12, 0x12, 7, 0x1F, 0x00, 0, 0, 0, .int 0 4096, .calc, "Exchange groups"⟩]

/-- Objects 0x4010 to 0x4017 of the event tasks: as those of the cyclic tasks, but subindex 06 is the maximum execution time
(R97, R106). -/
def objs4010 : List ObjDef :=
  objs4000.map fun d =>
    let d := match d.home with
      | .field f st => { d with home := .field { f with addr := f.addr + 16 * st } st }
      | _ => d
    if d.lo = 6 then { d with dflt := 10000, range := .int 50 10000000 } else d

/-- Objects 0x4020 (R107). -/
def objs4020 : List ObjDef := [
  ⟨0, 0, 6, 0x1F, 0, 0, 0, 7, .any, .const, "Highest subindex"⟩,
  ⟨0x01, 0x01, 1, 0x1F, 0x1C, 1, 0, 0, .int 0 1, .calc, "Enable"⟩,
  ⟨0x02, 0x02, 1, 0x1F, 0x1C, 15, 1, 0, .int 0 1, .store, "Strict mode"⟩,
  ⟨0x03, 0x03, 7, 0x1F, 0x1C, 15, 1, 100, .int 1 10000, .store, "Window"⟩,
  ⟨0x04, 0x04, 8, 0x1F, 0x1C, 15, 1, 0, .int 0 0xFFFFFF, .store, "Watched tasks"⟩,
  ⟨0x05, 0x05, 8, 0x1F, 0x1C, 15, 1, 0, .int 0 0xFFFFFF, .store, "Automatic check-in"⟩,
  ⟨0x06, 0x06, 8, 0x1F, 0x1C, 1, 0, 0, .any, .field ⟨TSK_WDDUP, 23, 0⟩ 0x0, "Duplicate flags"⟩,
  ⟨0x07, 0x07, 8, 0x1F, 0x00, 0, 0, 0, .any, .field ⟨TSK_WDMISS, 23, 0⟩ 0x0, "Missing at last trip"⟩]

/-- Objects 0x4021 (R108). -/
def objs4021 : List ObjDef := [
  ⟨0, 0, 6, 0x1F, 0, 0, 0, 6, .any, .const, "Highest subindex"⟩,
  ⟨0x01, 0x01, 6, 0x1F, 0x00, 0, 0, 0, .any, .calc, "Program state"⟩,
  ⟨0x02, 0x02, 6, 0x00, 0x1E, 1, 0, 0, .int 1 3, .calc, "Command"⟩,
  ⟨0x03, 0x03, 1, 0x1F, 0x1C, 8, 1, 0, .int 0 1, .store, "Start after power-up"⟩,
  ⟨0x04, 0x04, 6, 0x1F, 0x1C, 7, 1, 1, .int 1 2, .store, "Default restart type"⟩,
  ⟨0x05, 0x05, 7, 0x1F, 0x00, 0, 0, 0x00FF, .any, .calc, "Last stop cause and task"⟩,
  ⟨0x06, 0x06, 12, 0x1F, 0x00, 0, 0, 0, .any, .calc, "Last stop time"⟩]

/-- Objects 0x4022 (R109). -/
def objs4022 : List ObjDef := [
  ⟨0, 0, 6, 0x1F, 0, 0, 0, 5, .any, .const, "Highest subindex"⟩,
  ⟨0x01, 0x01, 7, 0x1F, 0x00, 0, 0, 0, .int 0 16384, .calc, "Forced digital groups"⟩,
  ⟨0x02, 0x02, 7, 0x1F, 0x00, 0, 0, 0, .int 0 2048, .calc, "Forced analogue values"⟩,
  ⟨0x03, 0x03, 1, 0x00, 0x1C, 15, 0, 0, .int 1 1, .calc, "Remove all forces"⟩,
  ⟨0x04, 0x04, 1, 0x1F, 0x00, 0, 0, 0, .int 0 1, .calc, "Forces active"⟩,
  ⟨0x05, 0x05, 14, 0x00, 0x1C, 15, 0, 0, .len 12 12, .calc, "Force record"⟩]

/-- Objects 0x4100 (R187). -/
def objs4100 : List ObjDef := [
  ⟨0, 0, 6, 0x1F, 0, 0, 0, 8, .any, .const, "Highest subindex"⟩,
  ⟨0x01, 0x01, 1, 0x1F, 0x1C, 1, 0, 1, .int 0 1, .field (GZ_CTRL_AUDEN) 0x0, "Audit enable"⟩,
  ⟨0x02, 0x02, 7, 0x1F, 0x1C, 15, 1, 10, .int 1 3600, .field (GZ_AUDINT_SECONDS) 0x0, "Audit interval"⟩,
  ⟨0x03, 0x03, 8, 0x1F, 0x00, 0, 0, 2097152, .any, .calc, "Free subscription entries"⟩,
  ⟨0x04, 0x04, 8, 0x1F, 0x00, 0, 0, 2097152, .any, .calc, "Free code words"⟩,
  ⟨0x05, 0x05, 8, 0x1F, 0x00, 0, 0, 0, .int 0 65536, .calc, "Configured segments"⟩,
  ⟨0x06, 0x06, 8, 0x1F, 0x00, 0, 0, 0, .any, .calc, "Equivalence faults"⟩,
  ⟨0x07, 0x07, 6, 0x00, 0x1C, 2, 0, 0, .int 0 23, .calc, "Clear equivalence fault"⟩,
  ⟨0x08, 0x08, 6, 0x00, 0x1C, 15, 0, 0, .int 0 23, .calc, "Request audit"⟩]

/-- Objects 0x4101 (R188). -/
def objs4101 : List ObjDef := [
  ⟨0, 0, 6, 0x1F, 0, 0, 0, 3, .any, .const, "Highest subindex"⟩,
  ⟨0x01, 0x01, 14, 0x00, 0x1C, 15, 0, 0, .len 16 512, .calc, "Edit record"⟩,
  ⟨0x02, 0x02, 8, 0x1F, 0x00, 0, 0, 0, .any, .calc, "Edits applied"⟩,
  ⟨0x03, 0x03, 7, 0x1F, 0x00, 0, 0, 0x0000, .any, .calc, "Last edit status"⟩]

/-- Objects 0x4102 (R189). -/
def objs4102 : List ObjDef := [
  ⟨0, 0, 6, 0x1F, 0, 0, 0, 7, .any, .const, "Highest subindex"⟩,
  ⟨0x01, 0x01, 14, 0x00, 0x1C, 15, 0, 0, .len 0 524288, .calc, "Staging record"⟩,
  ⟨0x02, 0x02, 6, 0x00, 0x1C, 1, 0, 0, .int 1 2, .calc, "Command"⟩,
  ⟨0x03, 0x03, 6, 0x1F, 0x00, 0, 0, 0, .any, .calc, "State"⟩,
  ⟨0x04, 0x04, 6, 0x1F, 0x00, 0, 0, 0, .any, .calc, "Error"⟩,
  ⟨0x05, 0x05, 7, 0x1F, 0x00, 0, 0, 0, .int 0 65535, .calc, "Error segment"⟩,
  ⟨0x06, 0x06, 8, 0x1F, 0x00, 0, 0, 0, .any, .calc, "Swaps"⟩,
  ⟨0x07, 0x07, 12, 0x1F, 0x00, 0, 0, 0, .any, .calc, "Last swap time"⟩]

/-- Objects 0x4110 to 0x4127 (R190). -/
def objs4110 : List ObjDef := [
  ⟨0, 0, 6, 0x1F, 0, 0, 0, 8, .any, .const, "Highest subindex"⟩,
  ⟨0x01, 0x01, 8, 0x1F, 0x00, 0, 0, 0, .any, .field ⟨GZ_RUNS 0, 31, 0⟩ 0x20, "Runs in last cycle"⟩,
  ⟨0x02, 0x02, 8, 0x1F, 0x00, 0, 0, 0, .any, .field ⟨GZ_CHG 0, 31, 0⟩ 0x20, "Groups changed in last cycle"⟩,
  ⟨0x03, 0x03, 8, 0x1F, 0x00, 0, 0, 0, .any, .calc, "Time since last audit"⟩,
  ⟨0x04, 0x04, 8, 0x1F, 0x00, 0, 0, 0, .any, .calc, "Audits completed"⟩,
  ⟨0x05, 0x05, 8, 0x1F, 0x00, 0, 0, 0, .any, .calc, "Audits abandoned"⟩,
  ⟨0x06, 0x06, 1, 0x1F, 0x00, 0, 0, 0, .int 0 1, .calc, "Equivalence fault"⟩,
  ⟨0x07, 0x07, 7, 0x1F, 0x00, 0, 0, 0, .int 0 65535, .calc, "First mismatching segment"⟩,
  ⟨0x08, 0x08, 8, 0x1F, 0x00, 0, 0, 0, .any, .calc, "First mismatch address"⟩]

/-- Objects 0x5000 (R340). -/
def objs5000 : List ObjDef := [
  ⟨0, 0, 6, 0x1F, 0, 0, 0, 7, .any, .const, "Highest subindex"⟩,
  ⟨0x01, 0x01, 7, 0x1F, 0x1C, 7, 1, 0x88B5, .special, .field ⟨PHR_ETYPE, 15, 0⟩ 0x0, "EtherType"⟩,
  ⟨0x02, 0x02, 7, 0x1F, 0x1C, 7, 1, 200, .int 20 10000, .field (PHR_TMO_WRITE) 0x0, "Write expiry"⟩,
  ⟨0x03, 0x03, 7, 0x1F, 0x1C, 7, 1, 200, .int 0 10000, .field ⟨PHR_LATEWIN, 15, 0⟩ 0x0, "Late window"⟩,
  ⟨0x04, 0x04, 7, 0x1F, 0x1C, 1, 1, 100, .int 1 10000, .field (PHR_TMO_ACYC) 0x0, "Acyclic expiry"⟩,
  ⟨0x05, 0x05, 8, 0x1F, 0x00, 0, 0, 0, .any, .field ⟨PHR_EPOCH, 31, 0⟩ 0x0, "Current epoch"⟩,
  ⟨0x06, 0x06, 7, 0x1F, 0x00, 0, 0, 0, .int 0 256, .calc, "Entries in use"⟩,
  ⟨0x07, 0x07, 8, 0x1F, 0x00, 0, 0, 0, .any, .field ⟨PHR_STRAY, 31, 0⟩ 0x0, "Stray copies"⟩]

/-- Objects 0x5001 (R341). -/
def objs5001 : List ObjDef := [
  ⟨0, 0, 6, 0x1F, 0, 0, 0, 7, .any, .const, "Highest subindex"⟩,
  ⟨0x01, 0x01, 6, 0x1F, 0x1C, 7, 1, 0, .int 0 1, .field (PHR_PTPCTRL_MODE) 0x0, "Mode"⟩,
  ⟨0x02, 0x02, 6, 0x1F, 0x1C, 7, 1, 0, .int 0 127, .field (PHR_PTPCTRL_DOMAIN) 0x0, "Domain"⟩,
  ⟨0x03, 0x03, 6, 0x1F, 0x1C, 7, 1, 128, .int 0 255, .field (PHR_PTPCTRL_PRIO1) 0x0, "Priority1"⟩,
  ⟨0x04, 0x04, 6, 0x1F, 0x1C, 7, 1, 128, .int 0 255, .field (PHR_PTPCTRL_PRIO2) 0x0, "Priority2"⟩,
  ⟨0x05, 0x05, 6, 0x1F, 0x00, 0, 0, 0, .any, .calc, "State"⟩,
  ⟨0x06, 0x06, 5, 0x1F, 0x00, 0, 0, 0, .any, .calc, "Offset from plant grandmaster"⟩,
  ⟨0x07, 0x07, 1, 0x1F, 0x00, 0, 0, 0, .int 0 1, .calc, "Rate limited"⟩]

/-- Objects 0x5010 to 0x5013 (R342). -/
def objs5010 : List ObjDef := [
  ⟨0, 0, 6, 0x1F, 0, 0, 0, 12, .any, .const, "Highest subindex"⟩,
  ⟨0x01, 0x01, 1, 0x1F, 0x1C, 7, 1, 0, .int 0 1, .calc, "Enable"⟩,
  ⟨0x02, 0x02, 6, 0x1F, 0x1C, 7, 1, 0, .int 0 255, .field (PHR_RCTRL_NSTN 0) 0x40, "Configured stations"⟩,
  ⟨0x03, 0x03, 8, 0x1F, 0x1C, 7, 1, 0, .int 0 16777215, .field ⟨PHR_RCABLE 0, 23, 0⟩ 0x40, "Cable length"⟩,
  ⟨0x04, 0x04, 6, 0x1F, 0x1C, 7, 1, 60, .int 0 240, .field (PHR_RCTRL_QUOTA 0) 0x40, "Entry quota"⟩,
  ⟨0x05, 0x05, 6, 0x1F, 0x00, 0, 0, 0, .any, .calc, "State"⟩,
  ⟨0x06, 0x06, 6, 0x1F, 0x00, 0, 0, 0, .int 0 255, .calc, "Last station reached from port A"⟩,
  ⟨0x07, 0x07, 7, 0x1F, 0x00, 0, 0, 0, .int 0 256, .calc, "Last station reached from port B"⟩,
  ⟨0x08, 0x08, 8, 0x1F, 0x00, 0, 0, 0, .any, .calc, "Fast input payload"⟩,
  ⟨0x09, 0x09, 8, 0x1F, 0x00, 0, 0, 0, .any, .calc, "Fast output payload"⟩,
  ⟨0x0A, 0x0A, 8, 0x1F, 0x00, 0, 0, 0, .any, .calc, "Line time with reserve"⟩,
  ⟨0x0B, 0x0B, 8, 0x1F, 0x00, 0, 0, 0, .any, .field ⟨PHR_RTMO 0, 31, 0⟩ 0x40, "Expiries"⟩,
  ⟨0x0C, 0x0C, 8, 0x1F, 0x00, 0, 0, 0, .any, .calc, "Bad FCS, ports A and B"⟩]

/-- Objects 0x5400 to 0x57FF (R343). -/
def objs5400 : List ObjDef := [
  ⟨0, 0, 6, 0x1F, 0, 0, 0, 23, .any, .const, "Highest subindex"⟩,
  ⟨0x01, 0x01, 8, 0x1F, 0x1C, 7, 1, 0, .any, .store, "Expected vendor and product"⟩,
  ⟨0x02, 0x02, 7, 0x1F, 0x1C, 7, 1, 0, .any, .store, "Expected revisions"⟩,
  ⟨0x03, 0x03, 8, 0x1F, 0x00, 0, 0, 0, .any, .calc, "Found vendor and product"⟩,
  ⟨0x04, 0x04, 9, 0x1F, 0x00, 0, 0, 0, .any, .calc, "Found serial number"⟩,
  ⟨0x05, 0x05, 6, 0x1F, 0x1C, 7, 1, 0, .int 0 15, .store, "Task"⟩,
  ⟨0x06, 0x06, 7, 0x1F, 0x1C, 7, 1, 0, .int 0 8191, .store, "First %IX group"⟩,
  ⟨0x07, 0x07, 7, 0x1F, 0x1C, 7, 1, 0, .int 0 368, .store, "%IX groups"⟩,
  ⟨0x08, 0x08, 7, 0x1F, 0x1C, 7, 1, 0, .int 0 65535, .store, "First %ID"⟩,
  ⟨0x09, 0x09, 7, 0x1F, 0x1C, 7, 1, 0, .int 0 368, .store, "%ID values"⟩,
  ⟨0x0A, 0x0A, 7, 0x1F, 0x1C, 7, 1, 0, .int 0 8191, .store, "First %QX group"⟩,
  ⟨0x0B, 0x0B, 7, 0x1F, 0x1C, 7, 1, 0, .int 0 368, .store, "%QX groups"⟩,
  ⟨0x0C, 0x0C, 7, 0x1F, 0x1C, 7, 1, 0, .int 0 65535, .store, "First %QD"⟩,
  ⟨0x0D, 0x0D, 7, 0x1F, 0x1C, 7, 1, 0, .int 0 368, .store, "%QD values"⟩,
  ⟨0x0E, 0x0E, 6, 0x1F, 0x1C, 7, 1, 0, .int 0 1, .store, "Missing-input action"⟩,
  ⟨0x0F, 0x0F, 14, 0x1F, 0x1C, 7, 1, 0, .len 0 1472, .store, "Substitute values"⟩,
  ⟨0x10, 0x10, 14, 0x1F, 0x1C, 7, 1, 0, .len 0 1472, .store, "Safe output values"⟩,
  ⟨0x11, 0x11, 8, 0x1F, 0x1C, 7, 1, 100, .int 1 60000, .store, "Hold time"⟩,
  ⟨0x12, 0x12, 1, 0x1F, 0x1E, 5, 2, 1, .int 0 1, .store, "Output enable"⟩,
  ⟨0x13, 0x13, 8, 0x1F, 0x1C, 1, 1, 0, .any, .store, "Group membership"⟩,
  ⟨0x14, 0x14, 6, 0x1F, 0x00, 0, 0, 0, .any, .calc, "State"⟩,
  ⟨0x15, 0x15, 8, 0x1F, 0x00, 0, 0, 0, .any, .calc, "Last path time"⟩,
  ⟨0x16, 0x16, 8, 0x1F, 0x00, 0, 0, 0, .any, .calc, "Missing cycles"⟩,
  ⟨0x17, 0x17, 8, 0x1F, 0x00, 0, 0, 0, .any, .calc, "Rejections"⟩]

/-- Objects 0x6000 to 0x6FFF (R375). -/
def objs6000 : List ObjDef := [
  ⟨0, 0, 6, 0x1F, 0, 0, 0, 32, .any, .const, "Highest subindex"⟩,
  ⟨0x01, 0x01, 8, 0x1F, 0x1E, 4, 2, 0, .int 0 4, .loop, "Requested mode"⟩,
  ⟨0x02, 0x02, 8, 0x1F, 0x1C, 7, 1, 0, .any, .loop, "Options"⟩,
  ⟨0x03, 0x03, 8, 0x1F, 0x1C, 7, 1, 0, .int 0 15, .loop, "Host task"⟩,
  ⟨0x04, 0x04, 8, 0x1F, 0x1C, 7, 1, 100, .int 1 60000, .loop, "Period P_L"⟩,
  ⟨0x05, 0x05, 8, 0x1F, 0x1C, 7, 1, 0, .special, .loop, "Phase φ_L"⟩,
  ⟨0x06, 0x06, 8, 0x1F, 0x1C, 7, 1, 0xFFFFFFFF, .special, .loop, "PV source"⟩,
  ⟨0x07, 0x07, 10, 0x1F, 0x1C, 4, 1, 0x3F800000, .finite, .loop, "PV gain"⟩,
  ⟨0x08, 0x08, 10, 0x1F, 0x1C, 4, 1, 0x00000000, .finite, .loop, "PV offset"⟩,
  ⟨0x09, 0x09, 10, 0x1F, 0x1E, 4, 2, 0x00000000, .finite, .loop, "Local setpoint"⟩,
  ⟨0x0A, 0x0A, 8, 0x1F, 0x1C, 7, 1, 0xFFFFFFFF, .special, .loop, "Setpoint source"⟩,
  ⟨0x0B, 0x0B, 8, 0x1F, 0x1C, 7, 1, 0xFFFFFFFF, .special, .loop, "Output destination"⟩,
  ⟨0x0C, 0x0C, 8, 0x1F, 0x1C, 7, 1, 0xFFFFFFFF, .special, .loop, "Track source"⟩,
  ⟨0x0D, 0x0D, 10, 0x1F, 0x1C, 4, 3, 0x3F800000, .finite, .loop, "Gain Kc"⟩,
  ⟨0x0E, 0x0E, 10, 0x1F, 0x1C, 4, 3, 0x41200000, .special, .loop, "Integral time Ti"⟩,
  ⟨0x0F, 0x0F, 10, 0x1F, 0x1C, 4, 3, 0x00000000, .real 0 10000, .loop, "Derivative time Td"⟩,
  ⟨0x10, 0x10, 10, 0x1F, 0x1C, 4, 3, 0x41200000, .real 2 50, .loop, "Derivative filter N"⟩,
  ⟨0x11, 0x11, 10, 0x1F, 0x1C, 4, 3, 0x3F800000, .real 0 1, .loop, "Setpoint weight β"⟩,
  ⟨0x12, 0x12, 10, 0x1F, 0x1C, 4, 3, 0x00000000, .special, .loop, "Output low OLO"⟩,
  ⟨0x13, 0x13, 10, 0x1F, 0x1C, 4, 3, 0x42C80000, .special, .loop, "Output high OHI"⟩,
  ⟨0x14, 0x14, 10, 0x1F, 0x1E, 4, 2, 0x00000000, .finite, .loop, "Manual value"⟩,
  ⟨0x15, 0x15, 10, 0x1F, 0x1C, 4, 3, 0x7F800000, .number, .loop, "PV high alarm"⟩,
  ⟨0x16, 0x16, 10, 0x1F, 0x1C, 4, 3, 0xFF800000, .number, .loop, "PV low alarm"⟩,
  ⟨0x17, 0x17, 10, 0x1F, 0x1C, 4, 3, 0x7F800000, .special, .loop, "Deviation alarm"⟩,
  ⟨0x18, 0x18, 10, 0x1F, 0x1C, 4, 3, 0x00000000, .special, .loop, "Alarm hysteresis"⟩,
  ⟨0x19, 0x19, 10, 0x1F, 0x1C, 4, 1, 0x3F800000, .finite, .loop, "Output gain"⟩,
  ⟨0x1A, 0x1A, 10, 0x1F, 0x1C, 4, 1, 0x00000000, .finite, .loop, "Output offset"⟩,
  ⟨0x1B, 0x1B, 8, 0x1F, 0x1C, 1, 1, 0, .any, .loop, "Group membership"⟩,
  ⟨0x1C, 0x1C, 8, 0x1F, 0x00, 0, 0, 0, .any, .loop, "Status"⟩,
  ⟨0x1D, 0x1D, 10, 0x1F, 0x00, 0, 0, 0x00000000, .number, .loop, "Output u"⟩,
  ⟨0x1E, 0x1E, 10, 0x1F, 0x00, 0, 0, 0x00000000, .number, .loop, "Integral state"⟩,
  ⟨0x1F, 0x1F, 10, 0x1F, 0x00, 0, 0, 0x00000000, .number, .loop, "Derivative state"⟩,
  ⟨0x20, 0x20, 10, 0x1F, 0x00, 0, 0, 0x00000000, .number, .loop, "Previous PV"⟩]

/-- Objects 0x7000 (R391). -/
def objs7000 : List ObjDef := [
  ⟨0, 0, 6, 0x1F, 0, 0, 0, 6, .any, .const, "Highest subindex"⟩,
  ⟨0x01, 0x01, 1, 0x1F, 0x1C, 7, 1, 1, .int 0 1, .field (LPE_CTRL_EN) 0x0, "Engine enable"⟩,
  ⟨0x02, 0x02, 7, 0x1F, 0x00, 0, 0, 0, .int 0 4096, .calc, "Active loops"⟩,
  ⟨0x03, 0x03, 7, 0x1F, 0x00, 0, 0, 0, .int 0 1000, .calc, "Load"⟩,
  ⟨0x04, 0x04, 8, 0x1F, 0x1C, 1, 0, 0, .int 0 0, .field ⟨LPE_MAXLAT, 31, 0⟩ 0x0, "Maximum latency"⟩,
  ⟨0x05, 0x05, 8, 0x1F, 0x00, 0, 0, 0, .any, .field ⟨LPE_SKIP, 31, 0⟩ 0x0, "Skipped sample instants"⟩,
  ⟨0x06, 0x06, 14, 0x1F, 0x1E, 1, 0, 0, .len 512 512, .calc, "Alarms pending"⟩]

/-- Objects 0x7010 to 0x7017 (R392). -/
def objs7010 : List ObjDef := [
  ⟨0, 0, 6, 0x1F, 0, 0, 0, 18, .any, .const, "Highest subindex"⟩,
  ⟨0x01, 0x01, 6, 0x1F, 0x1C, 9, 1, 0, .int 0 2, .field (TRC_CFG_KIND 0) 0x80, "Kind"⟩,
  ⟨0x02, 0x02, 7, 0x1F, 0x1C, 9, 1, 0, .int 0 4095, .field (TRC_CFG_LOOP 0) 0x80, "Loop"⟩,
  ⟨0x03, 0x03, 6, 0x1F, 0x1C, 9, 1, 0, .int 0 15, .field (TRC_CFG_TASK 0) 0x80, "Task"⟩,
  ⟨0x04, 0x04, 6, 0x1F, 0x1C, 9, 1, 0, .any, .field (TRC_CFG_SIGMASK 0) 0x80, "Signal mask"⟩,
  ⟨0x05, 0x05, 14, 0x1F, 0x1C, 9, 1, 0, .len 4 32, .calc, "Image signals"⟩,
  ⟨0x06, 0x06, 6, 0x1F, 0x1C, 9, 1, 0, .int 0 63, .field (TRC_REGION_BASE 0) 0x80, "Region base"⟩,
  ⟨0x07, 0x07, 6, 0x1F, 0x1C, 9, 1, 1, .int 1 64, .field (TRC_REGION_SIZE 0) 0x80, "Region size"⟩,
  ⟨0x08, 0x08, 7, 0x1F, 0x1C, 9, 1, 1, .int 1 65535, .field (TRC_DIV_DIV 0) 0x80, "Decimation"⟩,
  ⟨0x09, 0x09, 6, 0x1F, 0x1C, 9, 1, 0, .int 0 5, .field (TRC_TRIG_TMODE 0) 0x80, "Trigger mode"⟩,
  ⟨0x0A, 0x0A, 6, 0x1F, 0x1C, 9, 1, 0, .special, .calc, "Trigger signal and format"⟩,
  ⟨0x0B, 0x0B, 8, 0x1F, 0x1C, 9, 1, 0, .any, .field ⟨TRC_LEVEL 0, 31, 0⟩ 0x80, "Trigger level"⟩,
  ⟨0x0C, 0x0C, 6, 0x1F, 0x1C, 9, 1, 50, .int 0 100, .field (TRC_TRIG_PRE 0) 0x80, "Pre-trigger share"⟩,
  ⟨0x0D, 0x0D, 6, 0x00, 0x1E, 1, 0, 0, .int 1 3, .calc, "Command"⟩,
  ⟨0x0E, 0x0E, 7, 0x1F, 0x00, 0, 0, 0, .any, .field ⟨TRC_STAT 0, 10, 0⟩ 0x80, "State and error"⟩,
  ⟨0x0F, 0x0F, 8, 0x1F, 0x00, 0, 0, 0, .any, .field (TRC_COUNT_RECORDS 0) 0x80, "Records held"⟩,
  ⟨0x10, 0x10, 8, 0x1F, 0x00, 0, 0, 0, .any, .field (TRC_TRIGPOS_OFFSET 0) 0x80, "Trigger record offset"⟩,
  ⟨0x11, 0x11, 8, 0x1F, 0x1F, 1, 0, 0, .any, .calc, "Read offset"⟩,
  ⟨0x12, 0x12, 14, 0x1F, 0x00, 0, 0, 0, .len 0 1024, .calc, "Read data"⟩]

/-- Objects 0x7100 (R574). -/
def objs7100 : List ObjDef := [
  ⟨0, 0, 6, 0x1F, 0, 0, 0, 8, .any, .const, "Highest subindex"⟩,
  ⟨0x01, 0x01, 7, 0x1F, 0x1C, 6, 1, 50, .int 2 1000, .field (DIO_FCTRL_SILENCE) 0x0, "Silence time"⟩,
  ⟨0x02, 0x02, 6, 0x1F, 0x00, 0, 0, 0, .any, .field (DIO_FSTAT_STATE) 0x0, "Field-side state"⟩,
  ⟨0x03, 0x03, 1, 0x00, 0x1C, 1, 0, 0, .int 1 1, .calc, "Release"⟩,
  ⟨0x04, 0x04, 7, 0x1F, 0x00, 0, 0, 0, .any, .field (DIO_VFIELD_MV) 0x0, "V_FIELD"⟩,
  ⟨0x05, 0x05, 8, 0x1F, 0x00, 0, 0, 0, .any, .calc, "Field supply low events"⟩,
  ⟨0x06, 0x06, 8, 0x1F, 0x00, 0, 0, 0, .any, .calc, "Silence events"⟩,
  ⟨0x07, 0x07, 6, 0x1F, 0x1F, 1, 0, 0, .int 0 71, .field (DIO_OWNSEL_RES) 0x0, "Resource selected"⟩,
  ⟨0x08, 0x08, 7, 0x1F, 0x00, 0, 0, 0, .any, .calc, "Owner of selected resource"⟩]

/-- Objects 0x7110 to 0x712F (R575). -/
def objs7110 : List ObjDef := [
  ⟨0, 0, 6, 0x1F, 0, 0, 0, 12, .any, .const, "Highest subindex"⟩,
  ⟨0x01, 0x01, 6, 0x1F, 0x1C, 7, 1, 0, .int 0 2, .field (DIO_CFG_MODE 0) 0x20, "Mode"⟩,
  ⟨0x02, 0x02, 6, 0x1F, 0x1C, 7, 1, 0, .int 0 23, .field (DIO_CFG_TASK 0) 0x20, "Task"⟩,
  ⟨0x03, 0x03, 8, 0x1F, 0x1C, 7, 1, 0xFFFFFFFF, .special, .field ⟨DIO_MAP 0, 31, 0⟩ 0x20, "Image point"⟩,
  ⟨0x04, 0x04, 8, 0x1F, 0x1C, 7, 1, 0xFFFFFFFF, .special, .field ⟨DIO_RBMAP 0, 31, 0⟩ 0x20, "Read-back point"⟩,
  ⟨0x05, 0x05, 7, 0x1F, 0x1C, 6, 1, 1000, .int 1 65535, .field (DIO_DEB_US 0) 0x20, "Debounce time"⟩,
  ⟨0x06, 0x06, 6, 0x1F, 0x1C, 6, 1, 0, .int 0 3, .field (DIO_CFG_EVPOL 0) 0x20, "Event polarity"⟩,
  ⟨0x07, 0x07, 1, 0x1F, 0x1C, 7, 1, 0, .int 0 1, .field (DIO_CFG_OWDET 0) 0x20, "Open-wire detection"⟩,
  ⟨0x08, 0x08, 6, 0x1F, 0x1C, 6, 1, 0, .int 0 2, .field (DIO_CFG_SAFE 0) 0x20, "Safe value"⟩,
  ⟨0x09, 0x09, 1, 0x1F, 0x1E, 6, 2, 1, .int 0 1, .field (DIO_CFG_OUTEN 0) 0x20, "Output enable"⟩,
  ⟨0x0A, 0x0A, 8, 0x1F, 0x1C, 1, 1, 0, .any, .store, "Group membership"⟩,
  ⟨0x0B, 0x0B, 6, 0x1F, 0x00, 0, 0, 0, .any, .calc, "Pin state"⟩,
  ⟨0x0C, 0x0C, 7, 0x1F, 0x1C, 1, 0, 0, .any, .field ⟨DIO_DIAG 0, 12, 0⟩ 0x20, "Diagnostics"⟩]

/-- Objects 0x7130 to 0x713F (R576). -/
def objs7130 : List ObjDef := [
  ⟨0, 0, 6, 0x1F, 0, 0, 0, 4, .any, .const, "Highest subindex"⟩,
  ⟨0x01, 0x01, 1, 0x1F, 0x1C, 7, 1, 0, .int 0 1, .field (DIO_ENCCTRL_EN 0) 0x10, "Enable"⟩,
  ⟨0x02, 0x02, 8, 0x1F, 0x1C, 7, 1, 0xFFFFFFFF, .special, .field ⟨DIO_ENCMAP 0, 31, 0⟩ 0x10, "Count value"⟩,
  ⟨0x03, 0x03, 4, 0x1F, 0x1C, 6, 0, 0, .any, .field ⟨DIO_ENCCNT 0, 31, 0⟩ 0x10, "Count"⟩,
  ⟨0x04, 0x04, 8, 0x1F, 0x00, 0, 0, 0, .any, .field ⟨DIO_ENCERR 0, 31, 0⟩ 0x10, "Phase errors"⟩]

/-- Objects 0x7140 to 0x7147 (R577). -/
def objs7140 : List ObjDef := [
  ⟨0, 0, 6, 0x1F, 0, 0, 0, 15, .any, .const, "Highest subindex"⟩,
  ⟨0x01, 0x01, 6, 0x1F, 0x1C, 7, 1, 0, .int 0 3, .field (AIO_CFG_MODE 0) 0x40, "Mode"⟩,
  ⟨0x02, 0x02, 6, 0x1F, 0x1C, 7, 1, 0, .int 0 23, .field (AIO_CFG_TASK 0) 0x40, "Task"⟩,
  ⟨0x03, 0x03, 8, 0x1F, 0x1C, 7, 1, 0xFFFFFFFF, .special, .field ⟨AIO_MAP 0, 31, 0⟩ 0x40, "Image value"⟩,
  ⟨0x04, 0x04, 8, 0x1F, 0x1C, 7, 1, 0xFFFFFFFF, .special, .field ⟨AIO_RBMAP 0, 31, 0⟩ 0x40, "Read-back value"⟩,
  ⟨0x05, 0x05, 6, 0x1F, 0x1C, 6, 1, 0, .int 0 1, .field (AIO_CFG_ALMDIR 0) 0x40, "Alarm direction"⟩,
  ⟨0x06, 0x06, 7, 0x1F, 0x1C, 6, 1, 200, .int 1 1000, .field (AIO_FILT_WIN 0) 0x40, "Filter window"⟩,
  ⟨0x07, 0x07, 6, 0x1F, 0x1C, 6, 1, 0, .int 0 3, .field (AIO_CFG_SAFE 0) 0x40, "Safe action"⟩,
  ⟨0x08, 0x08, 7, 0x1F, 0x1C, 6, 1, 0, .int 0 21500, .field (AIO_SAFE_UA 0) 0x40, "Safe current"⟩,
  ⟨0x09, 0x09, 1, 0x1F, 0x1E, 6, 2, 1, .int 0 1, .field (AIO_CFG_OUTEN 0) 0x40, "Output enable"⟩,
  ⟨0x0A, 0x0A, 8, 0x1F, 0x1C, 1, 1, 0, .any, .store, "Group membership"⟩,
  ⟨0x0B, 0x0B, 4, 0x1F, 0x00, 0, 0, 0, .any, .field ⟨AIO_MEAS 0, 31, 0⟩ 0x40, "Measured current"⟩,
  ⟨0x0C, 0x0C, 4, 0x1F, 0x00, 0, 0, 0, .any, .field ⟨AIO_CMD 0, 31, 0⟩ 0x40, "Commanded current"⟩,
  ⟨0x0D, 0x0D, 7, 0x1F, 0x1C, 1, 0, 0, .any, .field ⟨AIO_DIAG 0, 15, 0⟩ 0x40, "Diagnostics"⟩,
  ⟨0x0E, 0x0E, 10, 0x1F, 0x1C, 6, 0, 0x00000000, .finite, .store, "Zero trim"⟩,
  ⟨0x0F, 0x0F, 10, 0x1F, 0x1C, 6, 0, 0x00000000, .finite, .store, "Span trim"⟩]

/-- Objects 0x7150 (R578). -/
def objs7150 : List ObjDef := [
  ⟨0, 0, 6, 0x1F, 0, 0, 0, 4, .any, .const, "Highest subindex"⟩,
  ⟨0x01, 0x01, 6, 0x1F, 0x1C, 15, 1, 0, .int 0 31, .field (AIO_TRIM_ZBTN) 0x0, "Zero button channel"⟩,
  ⟨0x02, 0x02, 6, 0x1F, 0x1C, 15, 1, 1, .special, .field (AIO_TRIM_SBTN) 0x0, "Span button channel"⟩,
  ⟨0x03, 0x03, 6, 0x1F, 0x1C, 15, 1, 0, .special, .field (AIO_TRIM_TARGET) 0x0, "Target channel"⟩,
  ⟨0x04, 0x04, 1, 0x1F, 0x1C, 1, 1, 0, .int 0 1, .field (AIO_TRIM_EN) 0x0, "Enable"⟩]

/-- Objects 0x7200 to 0x7201 (R597). -/
def objs7200 : List ObjDef := [
  ⟨0, 0, 6, 0x1F, 0, 0, 0, 12, .any, .const, "Highest subindex"⟩,
  ⟨0x01, 0x01, 1, 0x1F, 0x1C, 8, 1, 0, .int 0 1, .store, "Enable"⟩,
  ⟨0x02, 0x02, 6, 0x1F, 0x1C, 8, 1, 0, .int 0 2, .store, "Mode"⟩,
  ⟨0x03, 0x03, 1, 0x1F, 0x1C, 8, 1, 1, .int 0 1, .store, "FD frames"⟩,
  ⟨0x04, 0x04, 8, 0x1F, 0x1C, 8, 1, 0x3E1E3C01, .special, .store, "Nominal timing"⟩,
  ⟨0x05, 0x05, 8, 0x1F, 0x1C, 8, 1, 0x1E770000, .special, .store, "Data timing"⟩,
  ⟨0x06, 0x06, 7, 0x1F, 0x1C, 8, 1, 0xA000, .special, .store, "Delay compensation"⟩,
  ⟨0x07, 0x07, 6, 0x1F, 0x1C, 8, 1, 0, .int 0 1, .store, "Transmit order"⟩,
  ⟨0x08, 0x08, 6, 0x1F, 0x00, 0, 0, 0, .any, .field (CAN_STAT_STATE 0) 0x10000, "State"⟩,
  ⟨0x09, 0x09, 8, 0x1F, 0x00, 0, 0, 0, .any, .calc, "Error counters"⟩,
  ⟨0x0A, 0x0A, 1, 0x00, 0x1E, 1, 0, 0, .int 1 1, .calc, "Recover from bus-off"⟩,
  ⟨0x0B, 0x0B, 8, 0x1F, 0x00, 0, 0, 0, .any, .calc, "No-partner events"⟩,
  ⟨0x0C, 0x0C, 8, 0x1F, 0x00, 0, 0, 0, .any, .calc, "Bus-off events"⟩]

/-- Objects 0x7300 (R626). -/
def objs7300 : List ObjDef := [
  ⟨0, 0, 6, 0x1F, 0, 0, 0, 7, .any, .const, "Highest subindex"⟩,
  ⟨0x01, 0x01, 6, 0x1F, 0x00, 0, 0, 0, .any, .calc, "State and cause"⟩,
  ⟨0x02, 0x02, 14, 0x00, 0x1C, 15, 0, 0, .len 0 524288, .calc, "Safety program"⟩,
  ⟨0x03, 0x03, 8, 0x1F, 0x00, 0, 0, 0, .any, .field ⟨SAF_CHK, 31, 0⟩ 0x0, "Check value"⟩,
  ⟨0x04, 0x04, 8, 0x00, 0x1C, 1, 0, 0, .any, .calc, "Confirm check value"⟩,
  ⟨0x05, 0x05, 8, 0x1F, 0x00, 0, 0, 0, .any, .field ⟨SAF_CONF, 31, 0⟩ 0x0, "Confirmed value"⟩,
  ⟨0x06, 0x06, 8, 0x1F, 0x00, 0, 0, 0, .any, .field ⟨SAF_LSERR, 31, 0⟩ 0x0, "Lock-step mismatches"⟩,
  ⟨0x07, 0x07, 1, 0x00, 0x18, 1, 0, 0, .int 1 1, .calc, "Safety reset"⟩]

/-- Objects 0x7310 to 0x7317 (R627). -/
def objs7310 : List ObjDef := [
  ⟨0, 0, 6, 0x1F, 0, 0, 0, 16, .any, .const, "Highest subindex"⟩,
  ⟨0x01, 0x01, 6, 0x1F, 0x1C, 15, 1, 0, .int 0 2, .store, "Stop function"⟩,
  ⟨0x02, 0x02, 7, 0x1F, 0x1C, 15, 1, 0xFFFF, .special, .store, "STO output"⟩,
  ⟨0x03, 0x03, 6, 0x1F, 0x1C, 15, 1, 0, .any, .store, "Local input requests"⟩,
  ⟨0x04, 0x04, 7, 0x1F, 0x1C, 15, 1, 0xFFFF, .special, .store, "Remote input request"⟩,
  ⟨0x05, 0x05, 8, 0x1F, 0x1C, 15, 1, 0xFFFFFFFF, .special, .store, "Non-safety request"⟩,
  ⟨0x06, 0x06, 6, 0x1F, 0x1C, 15, 1, 255, .special, .store, "Encoder pair"⟩,
  ⟨0x07, 0x07, 10, 0x1F, 0x1C, 15, 1, 0x45800000, .real 1 10000000, .store, "Counts per revolution"⟩,
  ⟨0x08, 0x08, 7, 0x1F, 0x1C, 15, 1, 0xFFFF, .special, .store, "Drive speed"⟩,
  ⟨0x09, 0x09, 10, 0x1F, 0x1C, 15, 1, 0x42C80000, .real 1 100000, .store, "Deceleration a_mon"⟩,
  ⟨0x0A, 0x0A, 7, 0x1F, 0x1C, 15, 1, 100, .int 0 10000, .store, "Monitoring delay t_d"⟩,
  ⟨0x0B, 0x0B, 10, 0x1F, 0x1C, 15, 1, 0x42480000, .real 0 10000, .store, "Tolerance v_tol"⟩,
  ⟨0x0C, 0x0C, 10, 0x1F, 0x1C, 15, 1, 0x41200000, .real 0 1000, .store, "Standstill speed"⟩,
  ⟨0x0D, 0x0D, 7, 0x1F, 0x1C, 15, 1, 5000, .int 10 60000, .store, "Maximum ramp time"⟩,
  ⟨0x0E, 0x0E, 8, 0x1F, 0x1C, 15, 1, 0x00320014, .special, .store, "Discrepancy limit and time"⟩,
  ⟨0x0F, 0x0F, 1, 0x00, 0x1E, 15, 0, 0, .int 1 1, .calc, "Reset"⟩,
  ⟨0x10, 0x10, 8, 0x1F, 0x00, 0, 0, 0, .any, .field ⟨SAF_AX 0, 31, 0⟩ 0x4, "State, fault and speed"⟩]

/-- Objects 0x7320 to 0x733F (R628). -/
def objs7320 : List ObjDef := [
  ⟨0, 0, 6, 0x1F, 0, 0, 0, 5, .any, .const, "Highest subindex"⟩,
  ⟨0x01, 0x01, 7, 0x1F, 0x1C, 15, 1, 0, .special, .store, "Ring and station"⟩,
  ⟨0x02, 0x02, 7, 0x1F, 0x1C, 15, 1, 0, .special, .store, "CONNID"⟩,
  ⟨0x03, 0x03, 7, 0x1F, 0x1C, 15, 1, 100, .int 5 1000, .store, "Watchdog time W"⟩,
  ⟨0x04, 0x04, 7, 0x1F, 0x1C, 15, 1, 0, .special, .store, "Data lengths"⟩,
  ⟨0x05, 0x05, 8, 0x1F, 0x00, 0, 0, 0, .any, .field ⟨SAF_CONN 0, 31, 0⟩ 0x4, "State and failures"⟩]

/-- Objects 0x7340 to 0x7347 (R629). -/
def objs7340 : List ObjDef := [
  ⟨0, 0, 6, 0x1F, 0, 0, 0, 6, .any, .const, "Highest subindex"⟩,
  ⟨0x01, 0x02, 6, 0x1F, 0x1C, 15, 1, 255, .special, .store, "Channels A and B"⟩,
  ⟨0x03, 0x04, 6, 0x1F, 0x1C, 15, 1, 255, .special, .store, "Test-pulse sources A and B"⟩,
  ⟨0x05, 0x05, 6, 0x1F, 0x1C, 15, 1, 3, .int 1 100, .store, "Filter time"⟩,
  ⟨0x06, 0x06, 7, 0x1F, 0x1C, 15, 1, 50, .int 10 500, .store, "Discrepancy time"⟩]

/-- Objects 0x7350 to 0x7353 (R629). -/
def objs7350 : List ObjDef := [
  ⟨0, 0, 6, 0x1F, 0, 0, 0, 3, .any, .const, "Highest subindex"⟩,
  ⟨0x01, 0x02, 6, 0x1F, 0x1C, 15, 1, 255, .special, .store, "Channels A and B"⟩,
  ⟨0x03, 0x03, 1, 0x1F, 0x00, 0, 0, 0, .int 0 1, .calc, "Output fault"⟩]

/-- The objects of the module, by their first index, how many indexes share the subindexes, and the subindexes. -/
def objClasses : List ObjClass := [
  ⟨0x1000, 1, objs1000⟩,
  ⟨0x1010, 1, objs1010⟩,
  ⟨0x1020, 1, objs1020⟩,
  ⟨0x1021, 1, objs1021⟩,
  ⟨0x1030, 1, objs1030⟩,
  ⟨0x1031, 1, objs1031⟩,
  ⟨0x1040, 1, objs1040⟩,
  ⟨0x1041, 1, objs1041⟩,
  ⟨0x1400, 1, objs1400⟩,
  ⟨0x1410, 4, objs1410⟩,
  ⟨0x1800, 1, objs1800⟩,
  ⟨0x1801, 1, objs1801⟩,
  ⟨0x1810, 1, objs1810⟩,
  ⟨0x1C00, 1, objs1C00⟩,
  ⟨0x1C10, 1, objs1C10⟩,
  ⟨0x1C20, 1, objs1C20⟩,
  ⟨0x1C21, 1, objs1C21⟩,
  ⟨0x1E00, 1, objs1E00⟩,
  ⟨0x1E01, 1, objs1E01⟩,
  ⟨0x1F00, 1, objs1F00⟩,
  ⟨0x1F01, 1, objs1F01⟩,
  ⟨0x2030, 1, objs2030⟩,
  ⟨0x3000, 8, objs3000⟩,
  ⟨0x3010, 6, objs3010⟩,
  ⟨0x3020, 5, objs3020⟩,
  ⟨0x3030, 1, objs3030⟩,
  ⟨0x3040, 4, objs3040⟩,
  ⟨0x4000, 16, objs4000⟩,
  ⟨0x4010, 8, objs4010⟩,
  ⟨0x4020, 1, objs4020⟩,
  ⟨0x4021, 1, objs4021⟩,
  ⟨0x4022, 1, objs4022⟩,
  ⟨0x4100, 1, objs4100⟩,
  ⟨0x4101, 1, objs4101⟩,
  ⟨0x4102, 1, objs4102⟩,
  ⟨0x4110, 24, objs4110⟩,
  ⟨0x5000, 1, objs5000⟩,
  ⟨0x5001, 1, objs5001⟩,
  ⟨0x5010, 4, objs5010⟩,
  ⟨0x5400, 1024, objs5400⟩,
  ⟨0x6000, 4096, objs6000⟩,
  ⟨0x7000, 1, objs7000⟩,
  ⟨0x7010, 8, objs7010⟩,
  ⟨0x7100, 1, objs7100⟩,
  ⟨0x7110, 32, objs7110⟩,
  ⟨0x7130, 16, objs7130⟩,
  ⟨0x7140, 8, objs7140⟩,
  ⟨0x7150, 1, objs7150⟩,
  ⟨0x7200, 2, objs7200⟩,
  ⟨0x7300, 1, objs7300⟩,
  ⟨0x7310, 8, objs7310⟩,
  ⟨0x7320, 32, objs7320⟩,
  ⟨0x7340, 8, objs7340⟩,
  ⟨0x7350, 4, objs7350⟩,
  ⟨0x3FFF, 1, objs3FFF⟩]

/-- The class of an index; an index of a station record with station number 0 is reserved (R343). -/
def findClass (cs : List ObjClass) (index : Nat) : Option ObjClass :=
  match cs with
  | [] => none
  | c :: rest => if c.base ≤ index ∧ index < c.base + c.count then some c else findClass rest index

/-- The attributes of a subindex within a class. -/
def findSub (ds : List ObjDef) (sub : Nat) : Option ObjDef :=
  match ds with
  | [] => none
  | d :: rest => if d.lo ≤ sub ∧ sub ≤ d.hi then some d else findSub rest sub

/-- The class of an index of the module's own dictionary. Indexes 0x2000 to 0x2043 of factory calibration are assigned
though only 0x2030 has its subindexes given (R497); they are not in this list. -/
def objClassAt (index : Nat) : Option ObjClass :=
  if 0x5400 ≤ index ∧ index < 0x5800 ∧ index % 0x100 = 0 then none else findClass objClasses index

/-- The attributes of an object. -/
def objDefAt (index sub : Nat) : Option ObjDef :=
  match objClassAt index with
  | none => none
  | some c => findSub c.subs sub

/-- The bytes of a type (R483); 0 for STRING and DOMAIN. -/
def typeBytes (t : Nat) : Nat :=
  match t with
  | 1 => 1 | 2 => 1 | 3 => 2 | 4 => 4 | 5 => 8 | 6 => 1 | 7 => 2 | 8 => 4 | 9 => 8 | 10 => 4 | 11 => 8 | 12 => 8
  | _ => 0

/-- The default of an object, as bytes. A task's priority depends on the task (R106). -/
def objDefault (index sub : Nat) : List Byte :=
  match objDefAt index sub with
  | none => []
  | some d =>
    let n := if 0x4000 ≤ index ∧ index < 0x4018 ∧ sub = 7 then index - 0x4000 else d.dflt
    toLE (typeBytes d.typ) n

end Sys2Proof.Machine
end

