-- ==== Sys2Proof/Machine/Views.lean ====
section
/-!
DEFINITION. Views.lean: stored object values by number; the geometry of the cyclic tasks' grid; and what the registers of
the blocks TSK, SEG, LANE, GZ, PHR and SAF read as where a register shows state that is held elsewhere. `regPeek` is what
any register shows to a reader that changes nothing.
-/
namespace Sys2Proof.Machine

/-! ### Object values held in the store -/

/-- The bytes of an object held in the object store: the last accepted ones, else its default. -/
def State.objBytes (s : State) (index sub : Nat) : List Byte :=
  match s.obj index sub with
  | [] => objDefault index sub
  | v => v

/-- The number that such an object holds. -/
def State.objNum (s : State) (index sub : Nat) : Nat := fromLE (s.objBytes index sub)

/-! ### The tasks' grid (R70, R71) -/

/-- Period, phase, strike offset, input deadline and output margin of a task, in ns. -/
def taskP (s : State) (k : Nat) : Nat := s.fld (TSK_PERIOD_N k) * 50000
def taskPhase (s : State) (k : Nat) : Nat := s.fld (TSK_PHASE_VALUE k) * 1000
def taskL (s : State) (k : Nat) : Nat := s.fld (TSK_STRIKE_VALUE k) * 1000
def taskD (s : State) (k : Nat) : Nat := s.fld (TSK_INDL_VALUE k) * 1000
def taskM (s : State) (k : Nat) : Nat := s.fld (TSK_OUTM_VALUE k) * 1000

/-- T_o and T_od of the task's present cycle. -/
def taskTo (s : State) (k : Nat) : Nat := (s.task k).ts + taskL s k
def taskTod (s : State) (k : Nat) : Nat := taskTo s k - taskM s k

def taskEn (s : State) (k : Nat) : Bool := s.flag (TSK_CTRL_EN k)

/-- The enabled tasks; the enabled cyclic tasks. -/
def enabledTasks (s : State) : List Nat := (List.range 24).filter (taskEn s)
def cyclicTasks (s : State) : List Nat := (List.range 16).filter (taskEn s)

/-- The first instant of the task's grid at or after an instant (R70). -/
def gridNext (s : State) (k t : Nat) : Nat :=
  let p := taskP s k
  let ph := taskPhase s k
  if p = 0 then t else t + (ph + p - t % p) % p

/-! ### TSK (R91 to R105) -/

def ProgState.code : ProgState → Nat
  | .stopped => 0 | .preparing => 1 | .running => 2 | .stopping => 3

/-- The program state that TSK_GSTAT.STATE reads: while READY that of the active partner, as far as its heartbeats tell it
(R439, R440); a DEMOTED module reads STOPPED (R460). -/
def progShown (s : State) : Nat :=
  if s.role = roleReady then (if bit s.hsb.partner.flags 1 then 2 else 0)
  else if s.role = roleDemoted then 0
  else s.tsk.prog.code

/-- A ring holds or awaits an output transaction of the task. -/
def writesOpen (s : State) (k : Nat) : Bool :=
  (s.phr.entries.any fun e => e.2.busy && e.2.tx.typ == .swr && e.2.tx.task == k)
    || (s.phr.queues.any fun q => q.2.any fun t => t.typ == .swr && t.task == k)

/-- TSK_STATk.PHASE. -/
def taskPhaseCode (s : State) (k : Nat) : Nat :=
  let t := s.task k
  if t.evaluating then 2
  else if !t.active then 0
  else if !t.released then 1
  else if !t.ended then 2
  else if writesOpen s k then 3
  else 4

/-- Full-scan mode is in force for the task (R135, R156). -/
def fullScan (s : State) (k : Nat) : Bool :=
  s.flag (TSK_CTRL_FULLSCAN k) || (s.gz.auds.get {} k).fault || (s.task k).eccFull

/-- %QX and %IX groups, and %ID and %QD values, with a force in effect (R94). -/
def forcedDigital (s : State) : Nat := (s.img.fmask.filter fun e => decide (e.1 < 16384)).length
def forcedAnalog (s : State) : Nat := (s.img.fmask.filter fun e => decide (16384 ≤ e.1)).length

def viewTsk (s : State) (a w : Nat) : Nat :=
  let k := (a - TSK_CTRL 0) / 0x40
  let t := s.task k
  if a = TSK_GSTAT then
    putFld (putFld (putFld w TSK_GSTAT_STATE (progShown s)) TSK_GSTAT_CAUSE s.tsk.cause) TSK_GSTAT_STOPTASK s.tsk.stopTask
  else if a = TSK_STOPTL then s.tsk.stopTime % 2 ^ 32
  else if a = TSK_STOPTH then s.tsk.stopTime / 2 ^ 32 % 2 ^ 32
  else if a = TSK_FRCCNT then
    putFld (putFld w TSK_FRCCNT_ANALOG (forcedAnalog s)) TSK_FRCCNT_DIGITAL (forcedDigital s)
  else if TSK_CTRL 0 ≤ a ∧ a < TSK_CTRL 24 then
    (if a = TSK_STAT k then
      putFld (putFld (putFld (putFld (putFld w (TSK_STAT_EVALUATING k) (b2n t.evaluating)) (TSK_STAT_PENDING k)
        (b2n t.startPending)) (TSK_STAT_LATE k) (b2n (t.late || (!t.released && t.latePrev)))) (TSK_STAT_FULL k) (b2n (fullScan s k)))
        (TSK_STAT_PHASE k) (taskPhaseCode s k)
     else if a = TSK_LASTTL k then t.ts % 2 ^ 32
     else if a = TSK_LASTTH k then t.ts / 2 ^ 32 % 2 ^ 32
     else if a = TSK_CYCLE k then t.cycles % 2 ^ 32
     else w)
  else w

/-! ### SEG, LANE, GZ (R157 to R186) -/

/-- The staged records that are valid. -/
def validSlots (s : State) : List Staged := (s.gz.slots.map (·.2)).filter (·.valid)

/-- The staged set holds words and entries of the free pools: from BUILDING until the swap (R150, R152). -/
def stagedHeld (s : State) : Bool := s.gz.stg == .validating || s.gz.stg == .armed

/-- Free code words (R110, R158). -/
def codeFree (s : State) : Nat :=
  2097152 - ((segments s).foldl (fun n g => n + (s.hdr g).len) 0
    + (if stagedHeld s then (validSlots s).foldl (fun n x => if x.remove then n else n + x.hdr.len) 0 else 0))

/-- Free subscription entries (R124, R179). -/
def entriesFree (s : State) : Nat :=
  2097152 - (s.gz.ent.length
    + (if stagedHeld s then (validSlots s).foldl (fun n x => if x.remove then n else n + x.rcount + x.wcount) 0 else 0))

def StgState.code : StgState → Nat
  | .empty => 0 | .staging => 1 | .building => 2 | .validating => 3 | .armed => 4 | .failed => 5

def State.slot (s : State) (n : Nat) : Staged := s.gz.slots.get {} n

def viewSeg (s : State) (a w : Nat) : Nat :=
  let x := s.slot (s.fld SEG_STGSEL_SLOT)
  if a = SEG_COUNT then (segments s).length
  else if a = SEG_CODEFREE then codeFree s
  else if SEG_HDR 0 ≤ a ∧ a < SEG_HDR 4 then
    ((s.hdr (s.fld SEG_HSEL_SEGMENT)).word ((a - SEG_HDR 0) / 4)).toNat
  else if a = SEG_STGNUM then b2n x.valid * 2 ^ 31 + b2n x.remove * 2 ^ 30 + x.seg
  else if SEG_STGHDR 0 ≤ a ∧ a < SEG_STGHDR 4 then (x.hdr.word ((a - SEG_STGHDR 0) / 4)).toNat
  else if a = SEG_STGCNT then x.wcount * 65536 + x.rcount
  else if a = SEG_STGPTR then x.ptr
  else if a = SEG_STGSTAT then
    putFld (putFld (putFld w SEG_STGSTAT_ERRSEG s.gz.stgErrSeg) SEG_STGSTAT_ERR s.gz.stgErr) SEG_STGSTAT_STATE s.gz.stg.code
  else w

/-- A lane is running a segment. -/
def laneBusy (s : State) (l : Nat) : Bool := (s.unit (16 + l)).run.isSome

def viewLane (s : State) (a w : Nat) : Nat :=
  if LANE_BUSY 0 ≤ a ∧ a < LANE_BUSY 2 then
    let b := 32 * ((a - LANE_BUSY 0) / 4)
    (List.range 32).foldl (fun n j => if laneBusy s (b + j) then n + 2 ^ j else n) 0
  else w

/-- The audit bookkeeping of a task. -/
def State.aud (s : State) (k : Nat) : AuditSt := s.gz.auds.get {} k
def State.setAud (s : State) (k : Nat) (a : AuditSt) : State :=
  { s with gz := { s.gz with auds := s.gz.auds.set {} k a } }
def State.modAud (s : State) (k : Nat) (f : AuditSt → AuditSt) : State := s.setAud k (f (s.aud k))

/-- Time in s since the start of the task's audit interval; 0 before its first cycle (R183). -/
def auditAge (s : State) (k : Nat) : Nat :=
  if (s.aud k).start = 0 then 0 else (s.now - (s.aud k).start) / 1000000000

def viewGz (s : State) (a w : Nat) : Nat :=
  let k := (a - GZ_RUNS 0) / 0x20
  let inline := (List.range 24).find? fun j => (s.task j).inline && (s.task j).evaluating
  -- beside an idle audit in progress, the task of an inline audit is not shown (log 88)
  let auditTask := match s.gz.audit with | some x => x.task | none => inline.getD 0
  if a = GZ_STAT then
    putFld (putFld (putFld (putFld w GZ_STAT_AUDTASK auditTask)
      GZ_STAT_INLINE (b2n inline.isSome))
      GZ_STAT_AUDITING (b2n s.gz.audit.isSome)) GZ_STAT_REBUILD (b2n (s.gz.stg == .building))
  else if a = GZ_EQMAP then
    (List.range 24).foldl (fun n j => if (s.aud j).fault then n + 2 ^ j else n) 0
  else if a = GZ_FREE then entriesFree s
  else if a = GZ_DIRDATA then (if s.fld GZ_DIRSEL_G < groupCount then (s.gz.dir.get 0 (s.fld GZ_DIRSEL_G)).toNat else 0)
  else if a = GZ_SUBDATA then (s.gz.ent.get 0 (s.fld GZ_SUBSEL_INDEX)).toNat
  else if GZ_RUNS 0 ≤ a ∧ a < GZ_RUNS 24 then
    (if a = GZ_AUDAGE k then auditAge s k % 2 ^ 32
     else if a = GZ_EQ k then b2n (s.aud k).fault * 2 ^ 31 + (s.aud k).eqCount * 65536 + (s.aud k).eqSeg
     else if a = GZ_EQADDR k then (s.aud k).eqAddr
     else w)
  else w

/-! ### PHR (R326 to R339) -/

def State.ring (s : State) (r : Nat) : RingSt := s.phr.rings.get {} r
def State.setRing (s : State) (r : Nat) (x : RingSt) : State :=
  { s with phr := { s.phr with rings := s.phr.rings.set {} r x } }
def State.modRing (s : State) (r : Nat) (f : RingSt → RingSt) : State := s.setRing r (f (s.ring r))

/-- The ring's bit in PHR_CTRL.RINGEN. -/
def ringEn (s : State) (r : Nat) : Bool := bit (s.fld PHR_CTRL_RINGEN) r

/-- Cyclic transactions and stops, which hold entries 0 to 239 (R288). -/
def TxType.cyclic : TxType → Bool
  | .srd => true | .swr => true | .stop => true | _ => false

/-- Entries that the ring's cyclic transactions hold (R289). -/
def ringInUse (s : State) (r : Nat) : Nat :=
  (s.phr.entries.filter fun e => e.2.busy && e.2.tx.ring == r && e.2.tx.typ.cyclic).length

/-- The ring's state: DISABLED while its bit is 0 (R280). -/
def ringState (s : State) (r : Nat) : Nat := if ringEn s r then (s.ring r).state else 0

def viewPhr (s : State) (a w : Nat) : Nat :=
  let r := (a - PHR_RCTRL 0) / 0x40
  if a = PHR_STAT then putFld w PHR_STAT_INUSE (s.phr.entries.filter (·.2.busy)).length
  else if PHR_RCTRL 0 ≤ a ∧ a < PHR_RCTRL 4 then
    (if a = PHR_RSTAT r then
      putFld (putFld (putFld w (PHR_RSTAT_STATE r) (ringState s r)) (PHR_RSTAT_LINKA r) (b2n ((s.ring r).linkA && !s.phr.linksDown)))
        (PHR_RSTAT_LINKB r) (b2n ((s.ring r).linkB && !s.phr.linksDown))
     else if a = PHR_RINUSE r then ringInUse s r
     else w)
  else w

/-! ### SAF (R618, R624, R625) -/

/-- The bytes of the safety parameters in ascending index and subindex. -/
def safetyParamBytes (s : State) : List Byte :=
  safetyParams.flatMap fun p => p.2.flatMap fun sub => s.objBytes p.1 sub

/-- The check value that the module computes; 0 while it holds no safety program. -/
def safCheck (s : State) : Nat :=
  if s.saf.image.isEmpty then 0 else crc32c (s.saf.image ++ safetyParamBytes s)

/-- The stored confirmation matches the check value. -/
def safConfirmed (s : State) : Bool :=
  match s.saf.conf with
  | some c => c.toNat == safCheck s && !s.saf.image.isEmpty
  | none => false

def viewSaf (s : State) (a w : Nat) : Nat :=
  if a = SAF_STAT then
    putFld (putFld (putFld w SAF_STAT_CAUSE s.saf.cause) SAF_STAT_CONFIRMED (b2n (safConfirmed s))) SAF_STAT_STATE
      s.saf.state
  else if a = SAF_CHK then safCheck s
  else if a = SAF_CONF then (match s.saf.conf with | some c => c.toNat | none => 0)
  else if a = SAF_LSERR then s.saf.lsErr
  else if a = SAF_INPUT then safInputs s
  else if SAF_AX 0 ≤ a ∧ a < SAF_AX 8 then safAxWord (s.safAxis ((a - SAF_AX 0) / 4))
  else if SAF_CONN 0 ≤ a ∧ a < SAF_CONN 32 then safConnWord (s.safConn ((a - SAF_CONN 0) / 4))
  else w

/-! ### Any register -/

/-- The bits of a register that some field reads back: the others, and fields that are only written, read 0 (R7, R8). -/
def readMask (d : RegDef) : Nat :=
  d.fields.foldl (fun n f => match f.acc with | .wo => n | _ => n ||| f.mask) 0

/-- What the register at an address shows, without the effects that reading it has; 0 where there is none. -/
def regPeek (s : State) (a : Nat) : Nat :=
  match regDefAt a with
  | none => 0
  | some d =>
    let w := (s.reg a).toNat
    let blk := (a - 0xF0000000) / 0x10000
    let v := match blk with
      | 0 => viewSys s a w
      | 1 => viewTsk s a w
      | 2 => viewSeg s a w
      | 3 => viewLane s a w
      | 4 => viewGz s a w
      | 5 => viewPhr s a w
      | 6 => viewLpe s a w
      | 7 => viewNrg s a w
      | 8 => viewHsb s a w
      | 9 => viewJrn s a w
      | 10 => viewDio s a w
      | 11 => viewAio s a w
      | 12 => viewCan s 0 a w
      | 13 => viewCan s 1 a w
      | 14 => viewSaf s a w
      | 15 => viewNvm s a w
      | 16 => viewRtc s a w
      | 17 => viewWdg s a w
      | 18 => viewFrz s a w
      | 19 => viewRec s a w
      | 20 => viewEvc s a w
      | _ => w
    v &&& readMask d

end Sys2Proof.Machine
end

