-- ==== Sys2Proof/Machine/ObjView.lean ====
section
/-!
DEFINITION. ObjView.lean: the value that a dictionary object reads as (R485), wherever it is held, and the copies of the
process image as readers outside the owning task see them (R49).
-/
namespace Sys2Proof.Machine

/-- A group as every reader but the owning task's segments sees it: the stable copy of %I and %Q, %M as committed. -/
def readStable (s : State) (g : Nat) : Word :=
  if g < 147456 then s.img.stable.get 0 g else s.img.m.get 0 (g - 147456)

/-- Two counters under one: 64-bit values are kept whole in the state. -/
def num (n : Nat) (v : Nat) : List Byte := toLE n v

/-- A signed number's bytes. -/
def numInt (n : Nat) (v : Int) : List Byte := toLE n (BitVec.ofInt (8 * n) v).toNat

/-- Age in s of a health item; all ones when it has not been proven since reset (R468, R469). The feeds are monitored all the
time, and the item of the ring ports is that of the oldest of the eight. -/
def itemAge (s : State) (sub : Nat) : Nat :=
  if sub = 0x0C then
    match s.hsb.lastActive with
    | none => 0xFFFFFFFF
    | some t => s.ctr ctrOpSec - t
  else if sub = 0x0B then 0
  else
    let at_ := if sub = 5 then (Tbl.getMany s.hsb.ports 0 0 8).foldl Nat.min s.now.succ else s.hsb.proven.get 0 sub
    if at_ = 0 then 0xFFFFFFFF else (s.now + 1 - at_) / 1000000000

/-- The item, 02 to 0B, with the largest age; the lowest on a tie. -/
def oldestItem (s : State) : Nat :=
  ((List.range 10).foldl (fun (b : Nat × Nat) i => if itemAge s (i + 2) > b.2 then (i + 2, itemAge s (i + 2)) else b)
    (2, itemAge s 2)).1

/-- The lowest RSEQ held by the recorder; 0 when it holds none. -/
def oldestRecord (s : State) : Nat :=
  match (s.rcd.index.filter (·.2.held)).map (·.2.rseq) with
  | [] => 0
  | r :: rest => rest.foldl Nat.min r

/-- The value of an unlock in force (R525). -/
def unlockWord (s : State) (i : Nat) : Nat :=
  match s.jrn.unlocks.get none i with
  | none => 0
  | some u => ((u.until_ - s.now) / 1000000000) * 2 ^ 32 + u.role * 65536 + u.node * 256 + u.ctrl

/-- Bit r: the key of role r is set; the Factory key is set at manufacture (R523). -/
def keysSet (s : State) : Nat :=
  (List.range 4).foldl (fun n r => if (s.obj 0x1021 (r + 1)).isEmpty then n else n + 2 ^ r) 0x10

/-- A factory value or identity, in the factory pages. -/
def factoryBytes (s : State) (index sub n : Nat) : List Byte :=
  match s.nv.factory.get [] (objKey index sub) with
  | [] => num n 0
  | v => v

def UpdState.code : UpdState → Nat
  | .idle => 0 | .receiving => 1 | .verifying => 2 | .activating => 3 | .failed => 4

/-- What the module knows of a station. -/
def State.srec (s : State) (key : Nat) : StnRec := s.phr.recs.get {} key
def State.setSrec (s : State) (key : Nat) (x : StnRec) : State :=
  { s with phr := { s.phr with recs := s.phr.recs.set {} key x } }
def State.modSrec (s : State) (key : Nat) (f : StnRec → StnRec) : State := s.setSrec key (f (s.srec key))

/-- Values of 0x1000 to 0x1FFF that are computed. -/
def objCalc1 (s : State) (index sub : Nat) : List Byte :=
  match index, sub with
  | 0x1000, 0x06 => factoryBytes s 0x1000 6 8
  | 0x1000, 0x07 => num 4 s.boot.fwVer
  | 0x1000, 0x08 => num 4 s.boot.loaderVer
  | 0x1000, 0x09 => factoryBytes s 0x1000 9 8
  | 0x1010, 0x05 => num 1 (b2n s.jrn.linkUp)
  | 0x1010, 0x06 => num 4 s.jrn.rxFrames
  | 0x1010, 0x07 => num 4 s.jrn.badFrames
  | 0x1020, 0x03 => num 1 (openSessions s)
  | 0x1020, 0x04 => num 1 (inFlight s)
  | 0x1020, 0x08 => num 1 s.jrn.phase
  | 0x1021, 0x06 => num 1 (keysSet s)
  | 0x1030, 0x06 => num 4 s.jrn.reasmErr
  | 0x1031, n => num 8 (unlockWord s (n - 2))
  | 0x1040, 0x04 => num 1 s.boot.upd.code
  | 0x1040, 0x05 => num 4 s.boot.updNext
  | 0x1040, 0x06 => num 1 s.boot.updReason
  | 0x1040, 0x07 => num 4 s.boot.updVer
  | 0x1040, 0x08 => num 2 s.boot.pairCompat
  | 0x1041, 0x03 => num 1 (s.fld NVM_SAVE_VALID)
  | 0x1041, 0x04 => num 4 (s.ctr ctrRun)
  | 0x1041, 0x05 => num 4 s.boot.fwUs
  | 0x1041, 0x06 => num 4 s.boot.runUs
  | 0x1400, 0x0B => num 8 s.nrg.inUj
  | 0x1400, 0x0E => num 2 (s.fld NRG_TJ_TJMAX)
  | 0x1410, 0x05 => num 8 (s.nrg.islUj.getD 0 0)
  | 0x1411, 0x05 => num 8 (s.nrg.islUj.getD 1 0)
  | 0x1412, 0x05 => num 8 (s.nrg.islUj.getD 2 0)
  | 0x1413, 0x05 => num 8 (s.nrg.islUj.getD 3 0)
  | 0x1800, 0x0A => num 8 s.hsb.swTime
  | 0x1800, 0x0D => num 4 s.prog.check.toNat
  | 0x1801, 0x0D => num 1 (oldestItem s)
  | 0x1801, 0x0E => num 2 s.hsb.failed
  | 0x1801, n => num 4 (itemAge s n)
  | 0x1810, 0x03 => num 2 (s.fld HSB_FEEDA_CURRENT * 2)
  | 0x1810, 0x06 => num 2 (s.fld HSB_FEEDB_CURRENT * 2)
  | 0x1810, 0x07 => num 4 s.hsb.pfwCnt
  | 0x1810, 0x08 => num 4 s.hsb.feedCnt
  | 0x1C00, 0x06 => num 4 (s.ctr ctrWdg)
  | 0x1C10, 0x05 => num 8 s.frz.tw
  | 0x1C20, 0x0C => (List.range 4).flatMap fun m => num 4 (s.reg (REC_FRZMASK m)).toNat
  | 0x1C20, 0x0D => (List.range 24).flatMap fun m => num 4 (s.reg (REC_SNAP m)).toNat
  | 0x1C20, 0x0E => num 1 (s.fld REC_CTRL_APPEND * 128 + s.fld REC_CTRL_TRIGSEV)
  | 0x1C20, n => num 4 (s.reg (REC_LOST (n - 6))).toNat
  | 0x1C21, 0x03 => num 4 (oldestRecord s)
  | 0x1E00, 0x02 => num 8 s.rtc.sec
  | 0x1E00, 0x05 => numInt 2 s.rtc.corr
  | 0x1E00, 0x06 => numInt 2 s.rtc.temp
  | 0x1E00, 0x07 => num 8 (if s.rtc.almEn then s.rtc.alarm else 0)
  | 0x1E01, 0x01 => (List.range 64).map fun i => s.rtc.bk.get 0 i
  | 0x1F00, 0x08 => num 8 (s.ctr ctrOpSec)
  | 0x1F00, 0x09 => num 4 (s.ctr ctrPower)
  | 0x1F00, 0x0A => num 4 s.nv.saveLen
  | 0x1F00, 0x0B => num 4 s.nv.saveUs
  | 0x1F01, 0x01 => (List.range 1024).flatMap fun x => num 4 (s.ctr (ctrErase x))
  | _, _ => []

/-- Values of 0x4000 to 0x4FFF that are computed. -/
def objCalc4 (s : State) (index sub : Nat) : List Byte :=
  let k := index - 0x4000
  let a := index - 0x4110
  if index < 0x4018 then
    match sub with
    | 0x01 => num 1 (if s.flag (TSK_CTRL_EN k) then (if k < 16 then 1 else 2) else 0)
    | 0x0B => num 1 (taskPhaseCode s k)
    | 0x0E => num 8 (s.task k).cycles
    | 0x0F => num 4 (s.task k).lateCnt
    | 0x10 => num 4 (s.task k).missCnt
    | 0x11 => num 4 (s.task k).mrgCnt
    | _ => num 2 (s.prog.exch.filter fun e => e.1 / 65536 == k).length
  else if 0x4110 ≤ index then
    match sub with
    | 0x03 => num 4 (auditAge s a)
    | 0x04 => num 4 (s.aud a).done
    | 0x05 => num 4 (s.aud a).abandoned
    | 0x06 => num 1 (b2n (s.aud a).fault)
    | 0x07 => num 2 (s.aud a).eqSeg
    | _ => num 4 (s.aud a).eqAddr
  else
    match index, sub with
    | 0x4020, 0x01 => num 1 (s.fld TSK_WDCTRL_EN)
    | 0x4021, 0x01 => num 1 (progShown s)
    | 0x4021, 0x05 => num 2 (s.tsk.cause * 256 + s.tsk.stopTask)
    | 0x4021, 0x06 => num 8 s.tsk.stopTime
    | 0x4022, 0x01 => num 2 (forcedDigital s)
    | 0x4022, 0x02 => num 2 (forcedAnalog s)
    | 0x4022, 0x04 => num 1 (b2n (!s.img.fmask.isEmpty))
    | 0x4100, 0x03 => num 4 (entriesFree s)
    | 0x4100, 0x04 => num 4 (codeFree s)
    | 0x4100, 0x05 => num 4 (segments s).length
    | 0x4100, 0x06 => num 4 (regPeek s GZ_EQMAP)
    | 0x4101, 0x02 => num 4 s.gz.editCount
    | 0x4101, 0x03 => num 2 s.gz.editStatus
    | 0x4102, 0x03 => num 1 s.gz.stg.code
    | 0x4102, 0x04 => num 1 s.gz.stgErr
    | 0x4102, 0x05 => num 2 s.gz.stgErrSeg
    | 0x4102, 0x06 => num 4 (s.reg SEG_GEN).toNat
    | 0x4102, 0x07 => num 8 ((s.reg SEG_SWAPTH).toNat * 2 ^ 32 + (s.reg SEG_SWAPTL).toNat)
    | _, _ => []

/-- Values of 0x5000 to 0x57FF that are computed. -/
def objCalc5 (s : State) (index sub : Nat) : List Byte :=
  let r := index - 0x5010
  let x := s.srec (index - 0x5400)
  if 0x5400 ≤ index then
    match sub with
    | 0x03 => num 4 x.vp.toNat
    | 0x04 => num 8 x.serial.toNat
    | 0x14 => num 1 x.state
    | 0x15 => num 4 x.lastPath
    | 0x16 => num 4 x.missing
    | _ => num 4 x.rejects
  else if 0x5010 ≤ index then
    match sub with
    | 0x01 => num 1 ((s.phr.atStart.get none (objKey index 1)).getD (b2n (ringEn s r)))
    | 0x05 => num 1 (ringState s r)
    | 0x06 => num 1 (s.fld (PHR_RSTAT_LOOPA r))
    | 0x07 => num 2 (s.fld (PHR_RSTAT_LOOPB r))
    | 0x08 => num 4 (s.fld (PHR_RLOAD_INPAY r))
    | 0x09 => num 4 (s.fld (PHR_RLOAD_OUTPAY r))
    | 0x0A => num 4 (s.fld (PHR_RWIRE_WIRE r))
    | _ => num 4 (holdAt 0xFFFFFFFF ((s.reg (PHR_RFCSA r)).toNat + (s.reg (PHR_RFCSB r)).toNat))
  else
    match index, sub with
    | 0x5000, 0x06 => num 2 (regPeek s PHR_STAT % 512)
    | 0x5001, 0x05 => num 1 (s.fld PHR_PTPSTAT_STATE)
    | 0x5001, 0x06 => num 4 (s.reg PHR_PTPOFFL).toNat ++ num 4 (s.reg PHR_PTPOFFH).toNat
    | 0x5001, 0x07 => num 1 (s.fld PHR_PTPSTAT_SLEW)
    | _, _ => []

/-- The number of image signals of a trace buffer, at least one (R390). -/
def trcSignals (s : State) (b : Nat) : Nat := Nat.max 1 (Nat.min 8 (s.fld (TRC_CFG_NSIG b)))

/-- Values of 0x7000 to 0x73FF that are computed. -/
def objCalc7 (s : State) (index sub : Nat) : List Byte :=
  let b := index - 0x7010
  let m := index - 0x7200
  if index = 0x7000 then
    match sub with
    | 0x02 => num 2 (loopsActive s)
    | 0x03 => num 2 (Nat.min 1000 (loopLoad s))
    | _ => (List.range 128).flatMap fun w => num 4 (s.reg (LPE_ALMPEND w)).toNat
  else if index < 0x7018 then
    match sub with
    | 0x05 => (List.range (trcSignals s b)).flatMap fun j => num 4 (s.reg (TRC_SIG b j)).toNat
    | 0x0A => num 1 (s.fld (TRC_TRIG_TINT b) * 128 + s.fld (TRC_TRIG_TSIG b))
    | 0x11 => num 4 (s.trc.get {} b).readOff
    | _ => []
  else if index = 0x7100 then
    match sub with
    | 0x05 => num 4 s.field.lowCnt
    | 0x06 => num 4 s.field.silentCnt
    | _ => num 2 (regPeek s DIO_OWNER / 2 ^ 28 * 4096 + regPeek s DIO_OWNER % 32)
  else if index < 0x7130 then
    let c := s.dchan (index - 0x7110)
    num 1 (if s.field.link then b2n c.driver * 2 + b2n c.state else 0)
  else if 0x7200 ≤ index ∧ index < 0x7202 then
    match sub with
    | 0x09 => num 4 (s.fld (CAN_STAT_TEC m) * 65536 + s.fld (CAN_STAT_REC m))
    | 0x0B => num 4 (s.canst m).noPartner
    | _ => num 4 (s.canst m).busOffs
  else if index = 0x7300 then num 1 (s.saf.cause * 16 + s.saf.state)
  else num 1 (b2n (s.saf.stos.get {} (index - 0x7350)).fault)

/-- An exported object's bytes (R495). -/
def appBytes (s : State) (o : AppObj) : List Byte :=
  let lo := (readStable s o.g).toNat
  let n := typeBytes o.typ
  if n = 8 then num 4 lo ++ num 4 (readStable s (o.g + 1)).toNat
  else num n ((lo >>> o.lo) % 2 ^ o.width)

/-- The highest subindex of a table under an index; 0 where it lists none but 0. -/
def topSub {α : Type} (t : Tbl α) (index : Nat) : Nat :=
  (t.range (256 * index) 256).foldl (fun n e => Nat.max n (e.1 % 256)) 0

/-- Subindex 0x00 of an exported index with more than one subindex, and of a factory index: the highest subindex (R10). -/
def headSub (s : State) (index sub : Nat) : Option Nat :=
  if sub ≠ 0 then none
  else if 0x8000 ≤ index then
    let n := topSub (s.prog.app.filter fun e => e.2.typ != 0) index
    if n = 0 then none else some n
  else if 0x2000 ≤ index ∧ index < 0x2044 ∧ index ≠ 0x2030 then some (topSub s.nv.factory index)
  else none

/-- What an object reads as, without the effect that reading some have. -/
def objPeek (s : State) (index sub : Nat) : List Byte :=
  if (headSub s index sub).isSome then num 1 ((headSub s index sub).getD 0)
  else if 0x2000 ≤ index ∧ index < 0x2044 ∧ index ≠ 0x2030 then s.nv.factory.get [] (objKey index sub)
  else if 0x8000 ≤ index then
    match s.prog.app.get {} (objKey index sub) with
    | o => if o.typ = 0 then [] else appBytes s o
  else
    match objClassAt index, objDefAt index sub with
    | some c, some d =>
      (match d.home with
       | .const => num (typeBytes d.typ) d.dflt
       | .store => s.objBytes index sub
       | .loop => num 4 ((s.loop (index - 0x6000)).accepted sub).toNat
       | .field f stride =>
         let a := f.addr + stride * (index - c.base)
         let n := bits (regPeek s a) f.hi f.lo
         num (typeBytes d.typ) (if index = 0x5001 then (s.phr.atStart.get none (objKey index sub)).getD n else n)
       | .calc =>
         if index < 0x2000 then objCalc1 s index sub
         else if index < 0x3000 then factoryBytes s index sub 4
         else if index < 0x5000 then objCalc4 s index sub
         else if index < 0x6000 then objCalc5 s index sub
         else objCalc7 s index sub)
    | _, _ => []

end Sys2Proof.Machine
end

