-- ==== Sys2Proof/Machine/Recorder.lean ====
section
/-!
DEFINITION. Recorder.lean: the event recorder (R684 to R693): stamping, the token buckets, the queue, the slots in MRAM and
their index, clearing, reading the log out, trigger records; and freeze requests, which a trigger record can raise (R673).
-/
namespace Sys2Proof.Machine

/-- Offset of slot k in MRAM (R684). -/
def recOff (k : Nat) : Nat := 0x300000 + 128 * k

/-- The severity-s counter of lost records rises (R688, R689). -/
def recLost (s : State) (sev : Nat) : State := s.count32 (REC_LOST (sev % 4)) 1

/-- The bytes of a record in its slot, CRC last (R685). -/
def recBytes (rseq suppr : Nat) (e : RecEntry) : List Byte :=
  let head := toLE 4 rseq ++ toLE 2 e.code ++ toLE 1 (e.snap.length * 8 + b2n e.tvalid * 4 + e.sev) ++ toLE 1 e.kind
    ++ toLE 5 e.opsec ++ toLE 3 e.num ++ toLE 4 e.pcc ++ toLE 2 suppr ++ toLE 2 e.subsec
  let tail := toLE 4 e.rtcsec ++ listFit 0 96 (e.snap.flatMap fun w => toLE 4 w.toNat)
  head ++ toLE 4 (crc32c (head ++ tail)) ++ tail

/-- The lowest slot from `k` on that an index with rising keys does not list. -/
def firstGap (k : Nat) (idx : Tbl RecIdx) : Nat :=
  match idx with
  | [] => k
  | (i, _) :: rest => if i = k then firstGap (k + 1) rest else k

/-- The slot with the lowest RSEQ among records of lower severity. -/
def oldestBelow (sev : Nat) (idx : Tbl RecIdx) : Option (Nat × Nat) :=
  idx.foldl (fun b e =>
    if e.2.sev < sev then
      match b with
      | none => some (e.1, e.2.rseq)
      | some x => if e.2.rseq < x.2 then some (e.1, e.2.rseq) else b
    else b) none

/-- The slot that a record of a severity is written to (R688). -/
def recSlot (s : State) (sev : Nat) : Option Nat :=
  let k := firstGap 0 s.rcd.index
  if k < recSlots then some k else (oldestBelow sev s.rcd.index).map (·.1)

/-- A record is written to its slot, or lost for want of one (R688). At protection level 3 the MRAM takes no write (R636). -/
def recStore (s : State) (e : RecEntry) : State × Bool :=
  if s.nv.prot = 3 then (recLost s e.sev, false)
  else
    match recSlot s e.sev with
    | none => (recLost s e.sev, false)
    | some k =>
      let r := s.rcd.nextSeq
      let bs := recBytes r (s.rcd.suppr.get 0 e.code) e
      ({ s with
          mem := { s.mem with mram := mramPut s.mem.mram (recOff k) bs }
          rcd := { s.rcd with
            nextSeq := (r + 1) % 2 ^ 32
            suppr := s.rcd.suppr.set 0 e.code 0
            index := s.rcd.index.set {} k { rseq := r, sev := e.sev, code := e.code, held := true } } }, true)

/-- Records wait in the queue: a recorder freeze, an index scan (R689). A clear is one step. -/
def recHeldBack (s : State) : Bool := recFrozen s || s.rcd.indexing

/-- The queue is written in order (R689). -/
def recFlush (s : State) : State :=
  if recHeldBack s then s
  else s.rcd.queue.foldl (fun s e => (recStore s e).1) { s with rcd := { s.rcd with queue := [] } }

/-- What an item of a snapshot list reads as (R691, R704). -/
def snapItem (s : State) (w : Word) : Option Word :=
  match wbits w 31 30 with
  | 1 => some (toWord (regPeek s (0xF0000000 + wbits w 23 0)))
  | 2 => some (toWord (fromLE ((objPeek s (wbits w 23 8) (wbits w 7 0)).take 4)))
  | _ => none

/-- The items captured from a list, up to the first with KIND 0 or 3. -/
def snapTake (s : State) (ws : List Word) : List Word :=
  match ws with
  | [] => []
  | w :: rest =>
    match snapItem s w with
    | none => []
    | some v => v :: snapTake s rest

/-- The snapshot list as it reads now. -/
def snapList (s : State) : List Word := snapTake s ((List.range 24).map fun w => s.reg (REC_SNAP w))

/-- SUBSEC of a stamp: the time since the operating-seconds count last rose, in 1/65,536 s. -/
def opSubsec (s : State) : Nat := ((Int.ofNat s.now - s.boot.opLast).toNat * 65536 / 1000000000) % 65536

/-- A record falls due: it takes a token of its code, is stamped, and is written or queued (R687 to R689). The result is as
REC_WSTAT.RESULT gives it. -/
def recordR (s : State) (code sev kind num : Nat) (words : List Word) : State × Nat :=
  if code ≠ 1 ∧ s.rcd.spent.get 0 code ≥ s.fld REC_RATE_BURST then
    ({ s.count32 REC_SUPPR 1 with
        rcd := { s.rcd with suppr := s.rcd.suppr.set 0 code (holdAt 0xFFFF (s.rcd.suppr.get 0 code + 1)) } }, 2)
  else
    let s := if code = 1 then s
      else { s with rcd := { s.rcd with spent := s.rcd.spent.set 0 code (s.rcd.spent.get 0 code + 1) } }
    let words := if s.flag REC_CTRL_APPEND ∧ ¬(0x80 ≤ code ∧ code < 0x100) then words ++ snapList s else words
    let e : RecEntry := {
      code := code, sev := sev % 4, kind := kind, num := num, tvalid := s.rtc.tvalid, opsec := s.ctr ctrOpSec,
      pcc := s.ctr ctrPower, subsec := opSubsec s, rtcsec := if s.rtc.tvalid then s.rtc.sec % 2 ^ 32 else 0,
      snap := words.take 24 }
    if recHeldBack s then
      if s.rcd.queue.length < 64 then ({ s with rcd := { s.rcd with queue := s.rcd.queue ++ [e] } }, 1)
      else (recLost s e.sev, 3)
    else
      let r := recStore s e
      (r.1, if r.2 then 1 else 3)

/-- A record of the module falls due; snapshot words as numbers. -/
def State.record (s : State) (code sev kind num : Nat) (words : List Nat) : State :=
  (recordR s code sev kind num (words.map toWord)).1

/-! ### Freeze requests (R673) -/

/-- A freeze is requested: honoured with the strap fitted and after recall, ignored while one is in force. -/
def freezeRequest (s : State) (source trig : Nat) : State :=
  if s.frz.frozen || s.frz.request.isSome then s
  else if s.frz.strap && s.nv.ready then
    { s with frz := { s.frz with request := some source, source := source,
                                 trigSrc := if source = 3 then trig else s.frz.trigSrc } }
  else (s.setFlag FRZ_STAT_REFUSED true).record 0x0015 1 0 0 [source]

/-- An event reaches the recorder: a trigger record, and a freeze where the source's bit asks for one (R691, R673). -/
def recTrigger (s : State) (n : Nat) : State :=
  let s := (recordR s (0x80 + n) (s.fld REC_CTRL_TRIGSEV) 9 n (snapList s)).1
  if wbit (s.reg (REC_FRZMASK (n / 32))) (n % 32) then freezeRequest s 3 n else s

/-! ### Clearing (R692) -/

/-- Bytes 0 to 7 of the slots that hold an RSEQ below `r` are written 0, which empties them. At protection level 3 nothing is
written (R635). -/
def recErase (s : State) (r : Nat) : State :=
  if s.nv.prot = 3 then s
  else
    let gone := s.rcd.index.filter fun e => decide (e.2.rseq < r)
    { s with
      mem := { s.mem with mram := gone.foldl (fun m e => mramPut m (recOff e.1) (List.replicate 8 0)) s.mem.mram }
      rcd := { s.rcd with index := s.rcd.index.filter fun e => decide (r ≤ e.2.rseq) } }

/-- The log can be cleared: no index scan, no recorder freeze. -/
def recCanClear (s : State) : Bool := !s.rcd.indexing && !recFrozen s

/-- A clear of the log; `role` is the role code of the request, 0xFF through REC_CLR. -/
def recClear (s : State) (role : Nat) : State :=
  let r := s.rcd.nextSeq
  let s := s.record 0x0001 1 0 0 [role, (r + 2 ^ 32 - 1) % 2 ^ 32]
  let s := recErase s r
  { s with rcd := { s.rcd with suppr := [] } }

/-! ### The index (R684) -/

/-- The slots that hold a byte other than 0, in rising order. -/
def usedSlots (m : Mem) : List Nat :=
  (m.range 0x300000 0x200000).foldl (fun ks e =>
    let k := (e.1 - 0x300000) / 128
    match ks with
    | [] => [k]
    | j :: _ => if j = k then ks else k :: ks) [] |>.reverse

/-- A slot's entry in the index; `none` for an empty slot: one whose CRC is wrong, or that ECC cannot correct (R685). -/
def slotIndex (s : State) (k : Nat) : Option RecIdx :=
  let bs := s.mem.mram.getMany 0 (recOff k) 128
  let bad := s.nv.ecc.any fun a => decide (recOff k ≤ a) && decide (a < recOff k + 128)
  if !bad && fromLE (slice bs 24 4) == crc32c (slice bs 0 24 ++ slice bs 28 100) then
    some { rseq := fromLE (slice bs 0 4), sev := fromLE (slice bs 6 1) % 4, code := fromLE (slice bs 4 2), held := true }
  else none

/-- The scan ends: the index holds every record, those below the newest clear record are erased, the next number is one
above the highest, and the queue is written (R684, R692). -/
def recRebuild (s : State) : State :=
  let idx := (usedSlots s.mem.mram).foldl (fun (t : Tbl RecIdx) k =>
    match slotIndex s k with
    | none => t
    | some x => t.set {} k x) []
  let clears := (idx.filter fun e => e.2.code == 1).map (·.2.rseq)
  let next := idx.foldl (fun n e => Nat.max n (e.2.rseq + 1)) 0
  let s := { s with rcd := { s.rcd with indexing := false, index := idx, nextSeq := next % 2 ^ 32 } }
  recFlush (recErase s (clears.foldl Nat.max 0))

/-! ### Reading the log (R690) -/

/-- The read position of a request's source. -/
def readKey : JSrc → Nat
  | .eth ip _ _ _ _ => 2 * ip.toNat
  | .can ctrl node => 2 * node.toNat + 1 + 2 ^ 40 * ctrl.val

/-- The record that the source reads next, with its number. -/
def recNext (s : State) (key : Nat) : Option (Nat × List Byte) :=
  let pos := s.rcd.readPos.get 0 key
  let best := s.rcd.index.foldl (fun (b : Option (Nat × Nat)) e =>
    if e.2.rseq < pos then b
    else match b with
      | none => some (e.2.rseq, e.1)
      | some x => if e.2.rseq < x.1 then some (e.2.rseq, e.1) else b) none
  best.map fun x => (x.1, s.mem.mram.getMany 0 (recOff x.2) 128)

/-- The source's read position moves past a record. -/
def recRead (s : State) (key rseq : Nat) : State :=
  { s with rcd := { s.rcd with readPos := s.rcd.readPos.set 0 key (rseq + 1) } }

/-! ### Registers and commands -/

/-- A write to REC_WSUB submits the record in REC_WBUF and REC_WSRC (R705). Codes 0x0001 and 0x0080 to 0x00FF are refused. -/
def recSubmit (s : State) (w : Word) : State :=
  let code := wbits w 31 16
  if code = 1 ∨ (0x80 ≤ code ∧ code < 0x100) then s.setFld REC_WSTAT_RESULT 0
  else
    let words := (List.range (Nat.min 24 (wbits w 15 11))).map fun i => s.reg (REC_WBUF i)
    let r := recordR s code (wbits w 1 0) (s.fld REC_WSRC_KIND) (s.fld REC_WSRC_NUMBER) words
    r.1.setFld REC_WSTAT_RESULT r.2

/-- A write to REC_CTRL: the recorder freeze starts or ends (R689, R701). -/
def recCtrlWrite (s : State) (w : Word) : State :=
  let was := recFrozen s
  let s := ((s.setFlag REC_CTRL_APPEND (wbit w 7)).setFld REC_CTRL_TRIGSEV (wbits w 5 4)).setFlag REC_CTRL_RFREEZE (wbit w 0)
  if wbit w 0 then (if was then s else { s with rcd := { s.rcd with frozenAt := s.now } }) else recFlush s

/-- A write to REC_RATE; a part outside 1 to 1,000 leaves its field as it is (R701). -/
def recRateWrite (s : State) (w : Word) : State :=
  let b := wbits w 31 16
  let r := wbits w 15 0
  let s := if 1 ≤ b ∧ b ≤ 1000 then s.setFld REC_RATE_BURST b else s
  if 1 ≤ r ∧ r ≤ 1000 then s.setFld REC_RATE_RATE r else s

/-- A write to REC_CLR (R692, R703). -/
def recClrWrite (s : State) (w : Word) : State :=
  if w = 0x4C47434C#32 ∧ recCanClear s then recClear s 0xFF else s

/-- RECORD_TOKEN: a code's bucket gains a token (R687). -/
def execRecordToken (code : BitVec 16) (s : State) : Host.Outcome State Fault Refusal :=
  .next { s with rcd := { s.rcd with spent := s.rcd.spent.set 0 code.toNat (s.rcd.spent.get 0 code.toNat - 1) } }

/-- RECORDER_FREEZE_END: 60 s after RFREEZE was set the recorder freeze ends by itself (R689). -/
def execRecorderFreezeEnd (s : State) : Host.Outcome State Fault Refusal :=
  if recFrozen s then
    .next (recFlush ((s.at (s.rcd.frozenAt + 60000000000)).setFlag REC_CTRL_RFREEZE false))
  else .next s

/-- INDEX_REBUILD_COMPLETE: within 25 ms of READY the index is rebuilt (R684, R692). -/
def execIndexRebuildComplete (s : State) : Host.Outcome State Fault Refusal :=
  if s.rcd.indexing && s.nv.ready && !s.frz.frozen then .next (recRebuild s) else .next s

end Sys2Proof.Machine
end

