-- ==== Sys2Proof/Machine/Nvm.lean ====
section
/-!
DEFINITION. Nvm.lean: the non-volatile store (R630 to R647): window accesses, block protection, posted writes, two-copy
records, the save banks, recall, and flash. Records and counters are held as structures (their places in the array are not
laid down); the save banks and the recorder's slots are held as bytes.
-/
namespace Sys2Proof.Machine

/-! ### The window (R633 to R636) -/

/-- The first protected offset at a level (R635). -/
def protFrom (level : Nat) : Nat :=
  match level with
  | 0 => 0x1000000
  | 1 => 0xC00000
  | 2 => 0x800000
  | _ => 0

/-- A write of `n` bytes at an offset may be made: it stays within the array, out of protected regions and the factory
pages (R632, R634, R635). -/
def mramWritable (s : State) (off n : Nat) : Bool :=
  decide (off + n ≤ 0xFF0000) && decide (off + n ≤ protFrom s.nv.prot)

/-- A window write is posted (R633). -/
def mramPost (s : State) (off : Nat) (bs : List Byte) : State :=
  { s with nv := { s.nv with posted := s.nv.posted ++ [.win off bs] } }

/-- The array with every posted window write made: what a read of the window returns (R633). -/
def mramByte (s : State) (off : Nat) : Byte :=
  s.nv.posted.foldl (fun b p =>
    match p with
    | .win o bs => if o ≤ off ∧ off < o + bs.length then bs.getD (off - o) 0 else b
    | .record .. => b) (s.mem.mram.get 0 off)

/-- The level of block protection changes at once (R636). -/
def setProt (s : State) (level : Nat) : State := { s with nv := { s.nv with prot := level } }

/-- Level 3 is refused unless the program is STOPPED and HSB_CTRL.UNIT is 0 (R636). -/
def protAllowed (s : State) (level : Nat) : Bool := decide (level < 3) || (s.stopped && s.fld HSB_CTRL_UNIT == 0)

/-! ### Two-copy records (R638 to R641) -/

/-- Record keys: a dictionary object under its own key, and these. -/
def recEpoch : Nat := 0x1000001
def recConf : Nat := 0x1000002
def recSafety : Nat := 0x1000003
def recLastActive : Nat := 0x1000004

/-- The region that holds a record is protected (R631, R635): persistent objects of 0x1000 to 0x1FFF and 0x3000 to 0x3FFF lie in
the top quarter, those of 0x4000 to 0x7FFF and the safety program and confirmation in the quarter below it. -/
def keyBlocked (s : State) (key : Nat) : Bool :=
  let index := key / 256
  let module_ := decide (index < 0x2000) || (decide (0x3000 ≤ index) && decide (index < 0x4000))
  match s.nv.prot with
  | 0 => false
  | 1 => module_
  | 2 => key != recEpoch && key != recLastActive
  | _ => true

def NvRec.copy (r : NvRec) (b : Bool) : Option NvCopy := if b then r.b else r.a
def NvRec.setCopy (r : NvRec) (b : Bool) (c : NvCopy) : NvRec := if b then { r with b := some c } else { r with a := some c }

/-- The copy that a write goes to: the one that is not the winner. -/
def NvRec.loser (r : NvRec) : Bool := match r.win with | some b => !b | none => false

/-- The payload of the winner. -/
def NvRec.value (r : NvRec) : Option (List Byte) :=
  match r.win with
  | some b => (r.copy b).map (·.payload)
  | none => none

/-- SEQ of the next write. -/
def NvRec.nextSeq (r : NvRec) : Nat :=
  match r.win with
  | some b => (match r.copy b with | some c => (c.seq + 1) % 2 ^ 32 | none => 0)
  | none => 0

/-- The record with a payload written to its loser and marked, which is then the winner (R639). -/
def NvRec.write (r : NvRec) (format : Nat) (payload : List Byte) : NvRec :=
  let l := r.loser
  { r.setCopy l { seq := r.nextSeq, format := format, marked := true, bad := false, payload := payload } with win := some l }

/-- The record whose loser did not read back: the winner stays (R641). -/
def NvRec.spoil (r : NvRec) (format : Nat) (payload : List Byte) : NvRec :=
  r.setCopy r.loser { seq := r.nextSeq, format := format, marked := false, bad := true, payload := payload }

/-- One SEQ is newer than another (R640). -/
def seqNewer (a b : Nat) : Bool :=
  let d := (a + 2 ^ 32 - b) % 2 ^ 32
  decide (1 ≤ d) && decide (d < 2 ^ 31)

/-- What recall reports of a record. -/
inductive Finding where
  | none | lost | one | dup
deriving DecidableEq, Repr

/-- The winner at recall, and what is reported (R640). SEQs that lie 2³¹ apart are neither newer: `tie` decides (log 1). -/
def NvRec.resolve (r : NvRec) (tie : Bool) : Option Bool × Finding :=
  let ok (c : Option NvCopy) : Option NvCopy := match c with | some x => if x.bad then none else some x | none => none
  match ok r.a, ok r.b with
  | none, none => (none, .lost)
  | some _, none => (some false, .one)
  | none, some _ => (some true, .one)
  | some a, some b =>
    if a.seq = b.seq then
      if a.format = b.format ∧ a.payload = b.payload then (some false, .none)
      else if a.marked = b.marked then (some false, .dup)
      else (some b.marked, .none)
    else if seqNewer a.seq b.seq then (some false, .none)
    else if seqNewer b.seq a.seq then (some true, .none)
    else (some tie, .none)

/-- The record after recall: its winner chosen and marked. -/
def NvRec.recalled (r : NvRec) (tie : Bool) : NvRec :=
  match (r.resolve tie).1 with
  | none => { r with win := none }
  | some b =>
    match r.copy b with
    | none => { r with win := some b }
    | some c => { r.setCopy b { c with marked := true } with win := some b }

/-- A record of the store. -/
def State.nvRec (s : State) (key : Nat) : NvRec := s.nv.recs.get {} key

def State.setNvRec (s : State) (key : Nat) (r : NvRec) : State :=
  { s with nv := { s.nv with recs := s.nv.recs.set {} key r } }

/-- A record's value, as the last recall or write left it. -/
def State.nvValue (s : State) (key : Nat) : Option (List Byte) := (s.nvRec key).value

/-- A record's write is posted, with the request that waits for it (R486, R639); that of a protected record is not (R635). -/
def State.persist (s : State) (key : Nat) (payload : List Byte) (wait : Option JReq) : State :=
  if keyBlocked s key then s
  else { s with nv := { s.nv with posted := s.nv.posted ++ [.record key s.boot.setFormat payload wait] } }

/-- A record is written at once: firmware waits for each step of it (R633). A protected one is not written (R635). -/
def State.persistNow (s : State) (key : Nat) (payload : List Byte) : State :=
  if keyBlocked s key then s else s.setNvRec key ((s.nvRec key).write s.boot.setFormat payload)

/-- The oldest posted write can be made: while the power-fail save runs, record writes wait (R642). -/
def postedReady (s : State) : Bool :=
  match s.nv.posted with
  | [] => false
  | .win .. :: _ => true
  | .record .. :: _ => s.nv.saving.isNone

/-- The oldest posted write is made (R633, R639, R641), or does not read back a second time; with the request that waited
for it and whether it is in the array. -/
def postedWrite (s : State) (fail : Bool) : State × Option (JReq × Bool) :=
  match s.nv.posted with
  | [] => (s, none)
  | .win off bs :: rest =>
    ({ s.count32 NVM_SYNC 1 with
        nv := { s.nv with posted := rest }
        mem := { s.mem with mram := mramPut s.mem.mram off bs } }, none)
  | .record key format payload wait :: rest =>
    let s := { s with nv := { s.nv with posted := rest } }
    let r := s.nvRec key
    if fail || keyBlocked s key then
      let u := if keyBlocked s key then s else s.setNvRec key (r.spoil format payload)
      (((u.setFlag NVM_STAT_WERR true).count32 NVM_WERRCNT 1).raise 63
        |>.record 0x0003 2 0 0 [key, b2n r.loser], wait.map fun q => (q, false))
    else (s.setNvRec key (r.write format payload), wait.map fun q => (q, true))

/-! ### Save banks (R642, R719) -/

def bankOff (b : Bool) : Nat := if b then 0x140000 else 0

/-- The record identifier of the save banks. DESIGN CHOICE (log 9). -/
def bankRid : Nat := 0x5342

/-- The length of a bank's payload as its header tells it: header, retentive data and loop states. -/
def bankLen (m : Mem) (b : Bool) : Nat :=
  let dlen := fromLE (m.getMany 0 (bankOff b + 24 + 208) 4)
  256 + Nat.min dlen 1048576 + 114688

/-- A bank as a copy of a record; one with another identifier has never been written. The bytes of the payload are read
only where the identifier is right. -/
def bankCopy (s : State) (b : Bool) : Option NvCopy :=
  let m := s.mem.mram
  let o := bankOff b
  let head := m.getMany 0 o 24
  if fromLE (slice head 0 2) ≠ bankRid then none
  else
    let pay := m.getMany 0 (o + 24) (bankLen m b)
    let ecc := s.nv.ecc.any fun a => decide (o ≤ a) && decide (a < o + 24 + pay.length)
    some {
      seq := fromLE (slice head 4 4), format := fromLE (slice head 8 2),
      marked := slice head 16 8 == toLE 8 0x4B4D4357,
      bad := ecc || fromLE (slice head 12 4) != crc32c (slice head 0 12 ++ pay), payload := pay }

/-- The two banks as a record; its winner as NVM_SAVE shows it. -/
def bankRec (s : State) : NvRec :=
  { a := bankCopy s false, b := bankCopy s true,
    win := if s.flag NVM_SAVE_VALID then some (s.flag NVM_SAVE_BANK) else none }

/-- The bytes of a bank with a payload in it. -/
def bankBytes (format seq : Nat) (payload : List Byte) : List Byte :=
  let head := toLE 2 bankRid ++ toLE 2 0 ++ toLE 4 seq ++ toLE 2 format ++ toLE 2 0
  head ++ toLE 4 (crc32c (head ++ payload)) ++ toLE 8 0x4B4D4357 ++ payload

/-- The save is in the losing bank (R642, R720). -/
def bankSave (s : State) (payload : List Byte) : State :=
  let r := bankRec s
  let bs := bankBytes s.boot.setFormat r.nextSeq payload
  { s with mem := { s.mem with mram := mramPut s.mem.mram (bankOff r.loser) bs } }

/-- The payload of the winning bank. -/
def bankPayload (s : State) : List Byte :=
  if s.flag NVM_SAVE_VALID then ((bankCopy s (s.flag NVM_SAVE_BANK)).map (·.payload)).getD [] else []

/-! ### Recall (R637, R640, R644) -/

/-- A counter after recall: one found in progress is rebuilt from LOW and the carry rule (R644). -/
def NvCtr.recalled (c : NvCtr) : NvCtr :=
  match c.mark with
  | none => c
  | some (hi, lo) => { low := c.low, high := hi + (if c.low < lo then 1 else 0), mark := none }

/-- Counts of the findings, each held at 255. -/
def countFinding (s : State) (f : Finding) : State :=
  match f with
  | .none => s
  | .lost => (s.count NVM_RECRES_LOST 255 1).setFlag NVM_STAT_LOSTSEEN true
  | .one => s.count NVM_RECRES_ONECOPY 255 1
  | .dup => (s.count NVM_RECRES_DUP 255 1).setFlag NVM_STAT_DUPSEEN true

/-- Every record resolved (R640). -/
def recallRecs (s : State) : State :=
  s.nv.recs.foldl (fun s e =>
    let d := s.drawBit
    (countFinding d.2 (e.2.resolve d.1).2).setNvRec e.1 (e.2.recalled d.1)) s

/-- The save banks resolved; banks that were never written are no record. -/
def recallBanks (s : State) : State :=
  let r : NvRec := { a := bankCopy s false, b := bankCopy s true }
  if r.a.isNone && r.b.isNone then s
  else
    let d := s.drawBit
    let res := r.resolve d.1
    let s := countFinding d.2 res.2
    match res.1 with
    | none => s.setFlag NVM_SAVE_VALID false
    | some b =>
      match r.copy b with
      | none => s
      | some c =>
        let s := { s with mem := { s.mem with mram := mramPut s.mem.mram (bankOff b + 16) (toLE 8 0x4B4D4357) } }
        (((s.setFlag NVM_SAVE_VALID true).setFlag NVM_SAVE_BANK b).setFld NVM_SAVE_LEN c.payload.length).setReg
          NVM_SAVESEQ (toWord c.seq)

/-- Every counter repaired (R644). -/
def recallCtrs (s : State) : State :=
  s.nv.ctrs.foldl (fun s e =>
    match e.2.mark with
    | none => s
    | some _ => (s.count NVM_RECRES_REPAIR 255 1 |> fun s =>
        { s with nv := { s.nv with ctrs := s.nv.ctrs.set {} e.1 e.2.recalled } })) s

/-- The recall scan (R637), with which Jurno's second phase begins (R515). Its duration is open up to t_rcl (log 1). -/
def recallScan (s : State) : State :=
  let s := recallCtrs (recallBanks (recallRecs s))
  let s := s.ctrUp ctrPower
  let d := s.drawWord
  let s := d.2.setFld NVM_RECT_US (d.1.toNat % 4001)
  let s := { s with nv := { s.nv with ready := true, recalling := false, findings := (s.reg NVM_RECRES) != 0#32 } }
  let s := if s.jrn.phase = 1 then { s with jrn := { s.jrn with phase := 2, phaseAt := s.now } } else s
  s.raise 63

/-- Firmware passes the findings of the recall to the recorder (R637). -/
def passFindings (s : State) : State :=
  if s.nv.findings then
    { s with nv := { s.nv with findings := false } }.record 0x0002 1 0 0 [(s.reg NVM_RECRES).toNat, (s.reg NVM_RECT).toNat]
  else s

/-! ### Flash (R647, R659) -/

def flashSector (off : Nat) : Nat := off / 65536

/-- A flash error is shown. -/
def flashErr (s : State) (e : Nat) : State := s.setFld NVM_FSTAT_ERR e

/-- A command written to NVM_FCMD. -/
def flashCommand (s : State) (w : Word) : State :=
  let off := s.fld NVM_FADDR_ADDRESS
  let op := wbits w 1 0
  if wbits w 31 16 ≠ 0x6E5A then flashErr s 1
  else if s.nv.flash.isSome then flashErr s 5
  else if op = 0 ∨ op = 3 then s
  else if off < 0x100000 ∧ s.flag NVM_FSTAT_LDRLOCK then flashErr s 3
  else if op = 1 then { s with nv := { s.nv with flash := some (.erase (flashSector off)) } }
  else
    let page := off / 256 * 256
    if (List.range 256).any fun i => flashByte s (page + i) != 0xFF then flashErr s 2
    else
      { s with nv := { s.nv with flash := some (.program page
          ((List.range 64).flatMap fun i => toLE 4 (s.reg (NVM_FBUF i)).toNat)) } }

/-- A sector reads 0xFF. -/
def eraseSector (s : State) (sector : Nat) : State :=
  { s with mem := { s.mem with flash := s.mem.flash.clearRange (65536 * sector) 65536 } }

/-- Bytes are programmed. -/
def programFlash (s : State) (off : Nat) (bs : List Byte) : State :=
  { s with mem := { s.mem with flash := s.mem.flash.setMany 0xFF off bs } }

/-- The operation in progress ends. -/
def flashEnd (s : State) (verifyOk : Bool) : State :=
  match s.nv.flash with
  | none => s
  | some op =>
    let s := { s with nv := { s.nv with flash := none } }
    let s := match op with
      | .erase sector => (eraseSector s sector).ctrUp (ctrErase sector)
      | .program off bs => programFlash s off bs
    if verifyOk then s else flashErr s 4

/-- RECALL_COMPLETE: the recall scan ends (R637). -/
def execRecallComplete (s : State) : Host.Outcome State Fault Refusal :=
  if s.nv.recalling && !s.boot.held then .next (recallScan s) else .next s

/-- OPERATING_SECONDS: the operating-seconds count advances, every second since the release from power-on reset (R763). -/
def execOperatingSeconds (s : State) : Host.Outcome State Fault Refusal :=
  let t := s.boot.opLast + 1000000000
  let s := s.at t.toNat
  .next ({ s with boot := { s.boot with opLast := t } }.ctrUp ctrOpSec)

end Sys2Proof.Machine
end

