-- ==== Sys2Proof/Machine/Rtc.lean ====
section
/-!
DEFINITION. Rtc.lean: the real-time clock and the backup domain (R648 to R663).
-/
namespace Sys2Proof.Machine

def State.modRtc (s : State) (f : RtcState → RtcState) : State := { s with rtc := f s.rtc }

/-- The next second boundary. -/
def rtcNext (s : State) : Nat := (s.rtc.bound + 1000000000).toNat

/-- A time is armed: it is taken at the next boundary, or one later when that lies less than 30 µs ahead (R651). -/
def rtcArm (s : State) (sec : Nat) : State :=
  if s.now + 30000 ≤ rtcNext s then s.modRtc fun r => { r with armed := some (sec % 2 ^ 40, false), stage := sec % 2 ^ 40 }
  else s.modRtc fun r => { r with armed := some ((sec + 1) % 2 ^ 40, true), stage := sec % 2 ^ 40, defer := true }

/-- A write to a half of the staged time, which disarms it (R651). -/
def rtcStageWrite (s : State) (high : Bool) (w : Word) : State :=
  s.modRtc fun r =>
    { r with
      armed := none
      stage := if high then w.toNat % 256 * 2 ^ 32 + r.stage % 2 ^ 32 else r.stage / 2 ^ 32 * 2 ^ 32 + w.toNat }

/-- A second boundary: the count advances or takes the armed value (R648, R651). -/
def rtcTick (s : State) : State :=
  let t := rtcNext s
  let s := s.at t
  s.modRtc fun r =>
    let r := { r with bound := t }
    match r.armed with
    | some (v, false) => { r with sec := v, tvalid := true, armed := none }
    | some (v, true) => { r with sec := (r.sec + 1) % 2 ^ 40, armed := some (v, false) }
    | none => { r with sec := (r.sec + 1) % 2 ^ 40 }

/-- The alarm, checked at a boundary with main power present (R653). -/
def rtcAlarm (s : State) : State :=
  if s.rtc.almEn && !s.rtc.onbat && !s.boot.held && decide (s.rtc.alarm ≤ s.rtc.sec) then
    (s.modRtc fun r => { r with almf := true, almEn := false }).raise 62
  else s

/-- The 64 bytes of backup memory are replaced in one step, which clears BKUNC (R657). -/
def bkCommit (s : State) (bs : List Byte) : State :=
  s.modRtc fun r => { r with bk := Tbl.setMany [] 0 0 (bs.take 64), bkunc := false }

/-- The bytes staged in RTC_BKSTG. -/
def bkStaged (s : State) : List Byte := (List.range 16).flatMap fun i => toLE 4 (s.reg (RTC_BKSTG i)).toNat

/-- A write to RTC_CMD (R651, R657). -/
def rtcCmdWrite (s : State) (w : Word) : State :=
  let s := if wbit w 1 then bkCommit s (bkStaged s) else s
  if wbit w 0 then rtcArm s s.rtc.stage else s

/-- The correction in steps for a crystal temperature in 0.01 °C, from the loaded model (R654): c is
K × (T − T0)² + OFS, and N = round(c ÷ 0.9537 ppm) within ±255. A half is rounded away from 0 (log 10). -/
def rtcSteps (r : RtcState) (t : Int) : Int :=
  let t0 := signed 16 (wbits r.model0 31 16)
  let k := wbits r.model0 15 0
  let c := k * (t - t0) ^ 2 + signed 32 r.model1.toNat * 1000000
  clampInt (-255) 255 (divNearest c 953700000)

/-- VBAT against V_BATLOW, which lies between 2.35 and 2.45 V (R655); between them the comparison is open (log 1). -/
def batLow (s : State) (mv : Nat) : State :=
  let d := s.drawBit
  if mv < 2350 then s.modRtc fun r => { r with batlow := true }
  else if 2450 < mv then s.modRtc fun r => { r with batlow := false }
  else d.2.modRtc fun r => { r with batlow := d.1 }

/-- A core's shadow captures all five registers at one instant and is frozen (R649). -/
def rtcCapture (s : State) (core : Nat) : State :=
  let sh := s.shadow core
  let new : Shadow := { frozen := true, capno := (sh.capno + 1) % 256, at_ := s.now, sub := rtcSub s, sec := s.rtc.sec }
  s.modRtc fun r => { r with shadows := r.shadows.set {} core new }

/-- A core's shadow is released. -/
def rtcThaw (s : State) (core : Nat) : State :=
  s.modRtc fun r => { r with shadows := r.shadows.modify {} core (fun sh => { sh with frozen := false }) }

/-- A read of one of the five registers by a core: its word, and the state after (R649). -/
def rtcRead (s : State) (core a : Nat) : Nat × State :=
  let s := if (s.shadow core).frozen then s else rtcCapture s core
  let sh := s.shadow core
  (rtcFive a sh.capno sh.sub sh.sec, if a = RTC_CAL1 then rtcThaw s core else s)

/-- Firmware compares the RTC with the plant time: with a difference of 2 s or more the clock is set and the step recorded
(R652). -/
def plantCheck (s : State) (plant : Nat) : State :=
  let old := s.rtc.sec
  if s.objNum 0x1E00 8 = 1 ∧ s.fld PHR_PTPCTRL_MODE = 1 ∧ s.fld PHR_PTPSTAT_STATE = 3 ∧ (old + 2 ≤ plant ∨ plant + 2 ≤ old) then
    (rtcArm s plant).record 0x0900 1 0 0 [old % 2 ^ 32, plant % 2 ^ 32]
  else s

/-- Firmware loads the combined model of 0x2030, 0x3030 and 0x3015 (R654, R496). With the user gain g and offset d of the
sensor, T = (1 + g) × x + d of the factory-corrected reading x; so K (T − T0)² is K (1 + g)² (x + d − T0')² with
T0' = (T0 − d) ÷ (1 + g) + d, and the sensor correction is d (log 10). -/
def loadRtcModel (s : State) : State :=
  let f (sub : Nat) : Word := toWord (fromLE (factoryBytes s 0x2030 sub 4))
  let o := toWord (s.objNum 0x3030 2)
  let g := f32add 0x3F800000#32 (toWord (s.objNum 0x3015 1))
  let d := toWord (s.objNum 0x3015 2)
  let t0 := f32toIntScaled (f32add (f32div (f32sub (f 1) d) g) d) 100 (-32768) 32767
  let k := f32toIntScaled (f32mul (f 2) (f32mul g g)) 100000 0 65535
  let ofs := f32toIntScaled (f32sub o (f 3)) 1000 (-2147483648) 2147483647
  let tofs := f32toIntScaled d 100 (-32768) 32767
  s.modRtc fun r => { r with
    model0 := toWord ((BitVec.ofInt 16 t0).toNat * 65536 + k.toNat)
    model1 := intWord ofs
    model2 := toWord (BitVec.ofInt 16 tofs).toNat }

/-- RTC_SECOND_BOUNDARY: the sub-second count wraps (R648). -/
def execRtcSecondBoundary (s : State) : Host.Outcome State Fault Refusal := .next (rtcAlarm (rtcTick s))

/-- RTC_COMPENSATION: every 16 s the crystal's temperature and VBAT are read (R654, R655). -/
def execRtcCompensation (tempCenti : Int) (vbatMv : Nat) (s : State) : Host.Outcome State Fault Refusal :=
  let t := tempCenti + signed 16 (wbits s.rtc.model2 15 0)
  let s := s.modRtc fun r => { r with temp := divNearest t 10, corr := rtcSteps r t, vbat := vbatMv }
  .next (batLow s vbatMv)

/-- RTC_SWITCH_TO_VBAT: the rail falls below V_SW and the domain runs from the cell (R655). -/
def execRtcSwitchToVbat (vbatMv : Nat) (s : State) : Host.Outcome State Fault Refusal :=
  .next (s.modRtc fun r => { r with onbat := true, vbat := vbatMv })

/-- RTC_SWITCH_TO_RAIL: VBAT is compared with 2.0 V at the switch back (R656). -/
def execRtcSwitchToRail (vbatMv : Nat) (s : State) : Host.Outcome State Fault Refusal :=
  .next (s.modRtc fun r =>
    let r := { r with onbat := false, vbat := vbatMv }
    if vbatMv < 2000 then { r with tvalid := false, bkunc := true } else r)

/-- BACKUP_DOMAIN_POWER_ON: the domain fell below V_DR: the count starts from 2000-01-01 (R656). The values that R656 does
not give are 0 (log 12). -/
def execBackupDomainPowerOn (s : State) : Host.Outcome State Fault Refusal :=
  .next { s with rtc := { bound := s.now } }

/-- RTC_SHADOW_FREEZE_END: 1 ms after its capture a shadow is released (R649). -/
def execRtcShadowFreezeEnd (core : CoreId) (s : State) : Host.Outcome State Fault Refusal :=
  let sh := s.shadow core.val
  if sh.frozen then .next (rtcThaw (s.at (sh.at_ + 1000000)) core.val) else .next s

/-- PLANT_TIME_CHECK (R652). -/
def execPlantTimeCheck (plantSeconds : Nat) (s : State) : Host.Outcome State Fault Refusal :=
  .next (plantCheck s plantSeconds)

end Sys2Proof.Machine
end

