-- ==== Sys2Proof/Machine/Image.lean ====
section
/-!
DEFINITION. Image.lean: the process image (R44 to R68): how image operands name groups, what station records and local
channels map, who owns a group, the subscription lists, the copies and their roles, quality, status space, forcing.
-/
namespace Sys2Proof.Machine

def State.modImg (s : State) (f : Image → Image) : State := { s with img := f s.img }

/-! ### Group numbers (R121) -/

def gIX (g : Nat) : Nat := g
def gQX (g : Nat) : Nat := 8192 + g
def gID (k : Nat) : Nat := 16384 + k
def gQD (k : Nat) : Nat := 81920 + k
def gMD (k : Nat) : Nat := 147456 + k

def isDigital (g : Nat) : Bool := decide (g < 16384)
def isInput (g : Nat) : Bool := decide (g < 8192) || (decide (16384 ≤ g) && decide (g < 81920))
def isOutput (g : Nat) : Bool := (decide (8192 ≤ g) && decide (g < 16384)) || (decide (81920 ≤ g) && decide (g < 147456))
def isMarker (g : Nat) : Bool := decide (147456 ≤ g)

/-- The first %M word of the status space (R57). -/
def statusBase : Nat := 245760

def isStatus (g : Nat) : Bool := decide (gMD statusBase ≤ g) && decide (g < groupCount)

/-- %M words of the status space: station status, task status, check-in, quality of %IX group g and of %IDk (R57). -/
def stnStatusWord (key : Nat) : Nat := statusBase + key / 32
def taskStatusWord (k : Nat) : Nat := statusBase + 64 + k
def checkInWord (k : Nat) : Nat := statusBase + 128 + k
def qualityWord (g : Nat) : Nat :=
  if g < 8192 then statusBase + 256 + g / 32 else statusBase + 512 + (g - 16384) / 32
def qualityBit (g : Nat) : Nat := if g < 8192 then g % 32 else (g - 16384) % 32

/-- The group and bit that an image-bit word names, SPACE 0 to 2 (R207, R12). -/
def pointOf (w : Word) : Option (Nat × Nat) :=
  let b := wbits w 22 3
  let n := b % 4 * 8 + wbits w 2 0
  match wbits w 31 29 with
  | 0 => if b < 32768 then some (gIX (b / 4), n) else none
  | 1 => if b < 32768 then some (gQX (b / 4), n) else none
  | 2 => some (gMD (b / 4), n)
  | _ => none

/-- The group that an image-value word names (R207). -/
def valueOf (w : Word) : Option Nat :=
  let k := wbits w 17 0
  match wbits w 31 29 with
  | 0 => if k < 65536 then some (gID k) else none
  | 1 => if k < 65536 then some (gQD k) else none
  | 2 => some (gMD k)
  | 3 => if k < 8192 then some (gIX k) else none
  | 4 => if k < 8192 then some (gQX k) else none
  | _ => none

/-! ### Stations (R294, R343) -/

/-- A subindex of a station's record; `key` is 256 × ring + station. -/
def stnObj (s : State) (key sub : Nat) : Nat := s.objNum (0x5400 + key) sub

/-- The stations that are configured: subindex 01 is not 0. In rising order. -/
def configuredStations (s : State) : List Nat :=
  (s.objs.filter fun e => decide (0x540000 ≤ e.1) && decide (e.1 < 0x580000) && e.1 % 256 == 1 && fromLE e.2 != 0).map
    fun e => e.1 / 256 - 0x5400

/-- The task to which a station is bound. -/
def stnTask (s : State) (key : Nat) : Nat := stnObj s key 5

def taskStations (s : State) (k : Nat) : List Nat := (configuredStations s).filter fun key => stnTask s key == k

/-- The groups of a station's input area: its %IX groups, then its %ID values. -/
def stnIn (s : State) (key : Nat) : List Nat :=
  (List.range (stnObj s key 7)).map (fun i => gIX (stnObj s key 6 + i))
    ++ (List.range (stnObj s key 9)).map (fun i => gID (stnObj s key 8 + i))

/-- The groups of a station's output area: its %QX groups, then its %QD values. -/
def stnOut (s : State) (key : Nat) : List Nat :=
  (List.range (stnObj s key 11)).map (fun i => gQX (stnObj s key 10 + i))
    ++ (List.range (stnObj s key 13)).map (fun i => gQD (stnObj s key 12 + i))

/-! ### Local channels -/

/-- A local input or read-back that feeds an image point: its group, the bit, or `none` for a whole value, and the number
under which the field side latches it: digital channel k, 32 + analogue channel c, 64 + encoder pair j. -/
structure LocalSrc where
  g    : Nat
  bit  : Option Nat
  code : Nat
  task : Nat
deriving DecidableEq, Repr

/-- Local sources that fill points and values of input groups. -/
def localIn (s : State) : List LocalSrc :=
  (List.range 32).flatMap (fun k =>
    let t := s.fld (DIO_CFG_TASK k)
    let one (w : Word) : List LocalSrc :=
      match pointOf w with
      | some (g, n) => if w ≠ 0xFFFFFFFF#32 ∧ g < 8192 then [⟨g, some n, k, t⟩] else []
      | none => []
    if dioMode s k = 1 then one (s.reg (DIO_MAP k))
    else if dioMode s k = 2 then one (s.reg (DIO_RBMAP k)) else [])
  ++ (List.range 8).flatMap (fun c =>
    let t := s.fld (AIO_CFG_TASK c)
    let one (w : Word) : List LocalSrc :=
      match valueOf w with
      | some g => if w ≠ 0xFFFFFFFF#32 ∧ isInput g ∧ 16384 ≤ g then [⟨g, none, 32 + c, t⟩] else []
      | none => []
    let m := s.fld (AIO_CFG_MODE c)
    if m = 1 ∨ m = 2 then one (s.reg (AIO_MAP c)) else if m = 3 then one (s.reg (AIO_RBMAP c)) else [])
  ++ (List.range 16).flatMap (fun j =>
    match valueOf (s.reg (DIO_ENCMAP j)) with
    | some g =>
      if s.reg (DIO_ENCMAP j) ≠ 0xFFFFFFFF#32 ∧ s.flag (DIO_ENCCTRL_EN j) ∧ isInput g ∧ 16384 ≤ g then
        [⟨g, none, 64 + j, s.fld (DIO_CFG_TASK (2 * j))⟩] else []
    | none => [])

/-- A local output channel and the point or value it takes: digital channel k under k, analogue channel c under 32 + c. -/
def localOut (s : State) : List LocalSrc :=
  (List.range 32).flatMap (fun k =>
    match pointOf (s.reg (DIO_MAP k)) with
    | some (g, n) =>
      if dioMode s k = 2 ∧ isOutput g ∧ s.reg (DIO_MAP k) ≠ 0xFFFFFFFF#32 then
        [⟨g, some n, k, s.fld (DIO_CFG_TASK k)⟩] else []
    | none => [])
  ++ (List.range 8).flatMap (fun c =>
    match valueOf (s.reg (AIO_MAP c)) with
    | some g =>
      if s.fld (AIO_CFG_MODE c) = 3 ∧ isOutput g ∧ s.reg (AIO_MAP c) ≠ 0xFFFFFFFF#32 then
        [⟨g, none, 32 + c, s.fld (AIO_CFG_TASK c)⟩] else []
    | none => [])

/-- The input groups that hold local inputs bound to a task. -/
def localInGroups (s : State) (k : Nat) : List Nat := dedup (((localIn s).filter (·.task == k)).map (·.g))

/-! ### Subscriptions (R124 to R126) -/

/-- An entry of a group's list. -/
structure Sub where
  writer : Bool
  bytes  : Nat
  rank   : Nat
  seg    : Nat
deriving DecidableEq, Repr

def Sub.of (w : Word) : Sub := ⟨wbit w 30, wbits w 29 26, wbits w 25 16, wbits w 15 0⟩

/-- The entries from an index up to the one marked LAST. -/
def subsFrom (ent : Tbl Word) (fuel i : Nat) : List Sub :=
  match fuel with
  | 0 => []
  | n + 1 =>
    let w := ent.get 0 i
    Sub.of w :: (if wbit w 31 then [] else subsFrom ent n (i + 1))

/-- The entries of a group. -/
def subs (s : State) (g : Nat) : List Sub :=
  let d := s.gz.dir.get 0 g
  if wbit d 31 then subsFrom s.gz.ent (s.gz.ent.length + 1) (wbits d 20 0) else []

/-- The groups that have an entry, in rising order. -/
def usedGroups (s : State) : List Nat := (s.gz.dir.filter fun e => wbit e.2 31).map (·.1)

/-- ECC cannot correct the directory word of a group or an entry of its list (R156). -/
def subsBad (s : State) (g : Nat) : Bool :=
  let d := s.gz.dir.get 0 g
  s.gz.eccDir.contains g || (wbit d 31 &&
    (List.range (subs s g).length).any fun i => s.gz.eccEnt.contains (wbits d 20 0 + i))

/-! ### Loop destinations (R347) -/

/-- A loop in aligned mode (R349, R373). -/
def LoopSt.aligned (l : LoopSt) : Bool := wbit (l.word 2) 0

/-- The group that a loop's destination names. -/
def loopDest (l : LoopSt) : Option Nat :=
  if l.word 0x0B = 0xFFFFFFFF#32 then none else
  match valueOf (l.word 0x0B) with
  | some g => if 81920 ≤ g ∧ g < 147456 then some g else none
  | none => none

/-- The host task of a loop. -/
def LoopSt.host (l : LoopSt) : Nat := (l.word 3).toNat

/-- The configured loop that owns a %QD value. -/
def loopOf (s : State) (g : Nat) : Option Nat :=
  (s.lpe.loops.find? fun e => e.2.configured && loopDest e.2 == some g).map (·.1)

/-! ### Ownership (R46) -/

/-- The task that reads, or writes, a group by its subscription list. -/
def subTask (s : State) (writer : Bool) (g : Nat) : Option Nat :=
  ((subs s g).find? fun e => e.writer == writer).map fun e => (s.hdr e.seg).task

/-- The task that owns a group; `none` for a group that the module or the loop engine owns. -/
def groupOwner (s : State) (g : Nat) : Option Nat :=
  if groupCount ≤ g then none
  else if isInput g then
    match (configuredStations s).find? fun key => (stnIn s key).contains g with
    | some key => some (stnTask s key)
    | none =>
      match (localIn s).find? fun x => x.g == g with
      | some x => some x.task
      | none => subTask s false g
  else if isStatus g then
    (if gMD (checkInWord 0) ≤ g ∧ g < gMD (checkInWord 24) then some (g - gMD (checkInWord 0)) else none)
  else
    match (if isOutput g then loopOf s g else none) with
    | some _ => none
    | none =>
      match subTask s true g with
      | some k => some k
      | none =>
        if isOutput g then none
        else
          match subTask s false g with
          | some k => some k
          | none => (s.prog.app.find? fun e => e.2.g == g).map (·.2.task)

/-- The station or local channel that takes an output group gives its task. -/
def mappedTask (s : State) (g : Nat) : Option Nat :=
  match (configuredStations s).find? fun key => (stnOut s key).contains g with
  | some key => some (stnTask s key)
  | none => ((localOut s).find? fun x => x.g == g).map (·.task)

/-- The task in whose transmit copy an output group stands: its owner, the host of the loop that owns it (R347, R353), or for a
group that nothing writes the task of the station or channel that takes it (log 85). -/
def outputTask (s : State) (g : Nat) : Option Nat :=
  match loopOf s g with
  | some n => some (s.loop n).host
  | none =>
    match groupOwner s g with
    | some k => some k
    | none => mappedTask s g

/-- Input groups that segments of the task read and that no station and no channel feeds. -/
def unfedGroups (s : State) (k : Nat) : List Nat :=
  let fed := (configuredStations s).flatMap (stnIn s) ++ (localIn s).map (·.g)
  (usedGroups s).filter fun g => isInput g && subTask s false g == some k && !fed.contains g

/-- The input groups of a task. -/
def inputGroups (s : State) (k : Nat) : List Nat :=
  dedup ((taskStations s k).flatMap (stnIn s) ++ localInGroups s k ++ unfedGroups s k)

/-- The output groups that stations and local channels of a task take. -/
def takenGroups (s : State) (k : Nat) : List Nat :=
  dedup ((taskStations s k).flatMap (stnOut s) ++ ((localOut s).filter (·.task == k)).map (·.g))

/-- The output groups of a task's transmit copy: those its segments write, the destinations of the loops it hosts, and those
that its stations and channels take and nothing writes. -/
def outputGroups (s : State) (k : Nat) : List Nat :=
  dedup ((usedGroups s).filter (fun g => isOutput g && subTask s true g == some k)
    ++ (s.lpe.loops.filter (fun e => e.2.configured && e.2.host == k)).filterMap (fun e => loopDest e.2)
    ++ (takenGroups s k).filter fun g => outputTask s g == some k)

/-- Exchange groups of a task: slot word and source group (R55). -/
def exchanges (s : State) (k : Nat) : List (Nat × Nat) :=
  (s.prog.exch.range (65536 * k) 65536).map fun e => (e.2 % 524288, e.2 / 524288)

/-! ### Configured points (R45) -/

/-- The bits of a digital group that a BYTES field names. -/
def bytesMask (b : Nat) : Nat :=
  (List.range 4).foldl (fun n i => if bit b i then n ||| (0xFF <<< (8 * i)) else n) 0

/-- The configured bits of a digital group, or a mask other than 0 for a configured value. -/
def configuredBits (s : State) (g : Nat) : Nat :=
  let stn := (configuredStations s).any fun key => (stnIn s key).contains g || (stnOut s key).contains g
  let loc := (localIn s ++ localOut s).foldl (fun n x =>
    if x.g = g then match x.bit with | some b => n ||| 2 ^ b | none => 0xFFFFFFFF else n) 0
  let sub := (subs s g).foldl (fun n e => n ||| bytesMask e.bytes) 0
  let lp := if (loopOf s g).isSome && isOutput g then 0xFFFFFFFF else 0
  if stn then 0xFFFFFFFF else loc ||| sub ||| lp

/-! ### Copies (R49 to R53) -/

def State.evalOf (s : State) (g : Nat) : Word := if isMarker g then s.img.m.get 0 (g - 147456) else s.img.eval.get 0 g

/-- A group as a reader sees it: a segment of the owning task, given as the reader, sees the evaluation copy (R49). -/
def State.groupFor (s : State) (reader : Option Nat) (g : Nat) : Word :=
  if isMarker g then s.img.m.get 0 (g - 147456)
  else if reader.isSome && groupOwner s g == reader then s.img.eval.get 0 g
  else s.img.stable.get 0 g

/-- A group's word in the evaluation copy or in %M. -/
def State.setEval (s : State) (g : Nat) (w : Word) : State :=
  s.modImg fun i =>
    if isMarker g then { i with m := i.m.set 0 (g - 147456) w } else { i with eval := i.eval.set 0 g w }

def State.setM (s : State) (k : Nat) (w : Word) : State := s.modImg fun i => { i with m := i.m.set 0 k w }
def State.setSamp (s : State) (g : Nat) (w : Word) : State := s.modImg fun i => { i with samp := i.samp.set 0 g w }
def State.setXmit (s : State) (g : Nat) (w : Word) : State := s.modImg fun i => { i with xmit := i.xmit.set 0 g w }
def State.setStable (s : State) (g : Nat) (w : Word) : State := s.modImg fun i => { i with stable := i.stable.set 0 g w }

/-- A word with a force applied (R63, R64). -/
def forced (s : State) (g : Nat) (w : Word) : Word :=
  let m := s.img.fmask.get 0 g
  (w &&& ~~~m) ||| (s.img.fval.get 0 g &&& m)

/-- The bytes in which two words differ, as a BYTES mask (R128). -/
def diffBytes (a b : Word) : Nat :=
  (List.range 4).foldl (fun n i => if (a.extractLsb' (8 * i) 8) = (b.extractLsb' (8 * i) 8) then n else n + 2 ^ i) 0

/-- A bit of %M word k. -/
def State.setMBit (s : State) (k b : Nat) (v : Bool) : State :=
  let w := s.img.m.get 0 k
  s.setM k (if v then w ||| BitVec.ofNat 32 (2 ^ b) else w &&& ~~~(BitVec.ofNat 32 (2 ^ b)))

def State.mBit (s : State) (k b : Nat) : Bool := wbit (s.img.m.get 0 k) b

/-- Quality of an input group in the evaluation copy (R58). -/
def quality (s : State) (g : Nat) : Bool := s.mBit (qualityWord g) (qualityBit g)

/-- The key of a station's committed inputs, and of a task's delivered local inputs, in the commit set (R51). -/
def localKey (k : Nat) : Nat := 2048 + k

/-- A station's input area is committed to the sampling copy in one step (R295). -/
def commitStation (s : State) (key : Nat) (bs : List Byte) : State :=
  let gs := stnIn s key
  let ws := (List.range gs.length).map fun i => toWord (fromLE (slice bs (4 * i) 4))
  let s := (gs.zip ws).foldl (fun s e => s.setSamp e.1 e.2) s
  s.modImg fun i => { i with comm := i.comm.add key }

/-- The word that a task's latched local inputs give a group; bits that no channel fills are 0. -/
def localWord (s : State) (k g : Nat) : Word :=
  ((localIn s).filter fun x => x.task == k && x.g == g).foldl (fun w x =>
    let v := s.field.latched.get 0 (65536 * k + x.code)
    match x.bit with
    | none => v
    | some b => if v = 0#32 then w else w ||| BitVec.ofNat 32 (2 ^ b)) 0#32

/-- A channel that feeds the group was latched with a fault that makes its quality 0 (R543, R58). -/
def localBad (s : State) (k g : Nat) : Bool :=
  (localIn s).any fun x => x.task == k && x.g == g && s.field.latchedBad.contains (65536 * k + x.code)

/-- The field side's latched inputs of a task are delivered to the sampling copy (R529). -/
def deliverLocal (s : State) (k : Nat) : State :=
  let s := (localInGroups s k).foldl (fun s g =>
    let w := localWord s k g
    let bad := localBad s k g
    s.modImg fun i => { i with
      samp := i.samp.set 0 g w, bad := if bad then i.bad.add g else i.bad.del g }) s
  s.modImg fun i => { i with comm := i.comm.add (localKey k) }

/-- The exchange copy of a task: every exchange group's stable value goes into its slot (R56). -/
def exchangeCopy (s : State) (k : Nat) : State :=
  (exchanges s k).foldl (fun s e => s.setM e.1 (readStable s e.2)) s

/-- A value that the record of a missing station gives a group: held, or substituted (R51, R343). -/
def missingValue (s : State) (key g i : Nat) : Word :=
  if stnObj s key 14 = 1 then toWord (fromLE (slice (s.objBytes (0x5400 + key) 15) (4 * i) 4))
  else s.img.last.get 0 g

/-- What release gives every input group of a task before forcing: group, value and quality (R51). -/
def releaseValues (s : State) (k : Nat) : List (Nat × Word × Bool) :=
  (taskStations s k).flatMap (fun key =>
    let ok := s.img.comm.contains key
    ((stnIn s key).zip (List.range (stnIn s key).length)).map fun e =>
      if ok then (e.1, s.img.samp.get 0 e.1, true) else (e.1, missingValue s key e.1 e.2, false))
  ++ (localInGroups s k).map (fun g =>
    if s.img.comm.contains (localKey k) then (g, s.img.samp.get 0 g, !s.img.bad.contains g)
    else (g, s.img.last.get 0 g, false))
  ++ (unfedGroups s k).map fun g => (g, 0#32, false)

/-- The evaluation copy of a task's inputs is formed from released values; the result lists the groups that changed with
their changed bytes (R51, R63, R128). -/
def formInputs (s : State) (vals : List (Nat × Word × Bool)) : State × List (Nat × Nat) :=
  vals.foldl (fun r e =>
    let w := forced r.1 e.1 e.2.1
    let d := diffBytes w (r.1.evalOf e.1)
    let t := (r.1.setEval e.1 w).setMBit (qualityWord e.1) (qualityBit e.1) e.2.2
    (t, if d = 0 then r.2 else r.2 ++ [(e.1, d)])) (s, [])

/-- The input groups of a task whose values were committed or delivered for the cycle: by the commit marks, or in shadow, where
there are none, by quality, every local input counting as delivered (R51, R447). -/
def freshInputs (s : State) (k : Nat) (shadow : Bool) : List Nat :=
  if shadow then
    ((taskStations s k).flatMap (stnIn s)).filter (quality s) ++ localInGroups s k
  else
    ((taskStations s k).filter s.img.comm.contains).flatMap (stnIn s)
      ++ (if s.img.comm.contains (localKey k) then localInGroups s k else [])

/-- What a missing group will hold: the value of the last cycle that was committed or delivered, with the force then in effect;
the raw value under a force is not kept (R51, R63). -/
def keepLast (s : State) (k : Nat) (shadow : Bool) : State :=
  (freshInputs s k shadow).foldl (fun s g => s.modImg fun i => { i with last := i.last.set 0 g (i.eval.get 0 g) }) s

/-- What the stable copies of a task's inputs take, with its quality (R50, R361). -/
def inputPub (s : State) (k : Nat) : Pub :=
  let gs := inputGroups s k
  { vals := gs.map fun g => (g, s.img.eval.get 0 g), good := gs.map fun g => (g, quality s g) }

/-- An immediate loop publishes its destination itself, at t_pub (R353). -/
def immediateDest (s : State) (g : Nat) : Bool :=
  match loopOf s g with | some n => !(s.loop n).aligned | none => false

/-- What the stable copies of a task's outputs take, and the outputs of its aligned loops (R50, R353, R355). -/
def outputPub (s : State) (k : Nat) : Pub :=
  { vals := ((outputGroups s k).filter fun g => !immediateDest s g).map fun g => (g, s.img.xmit.get 0 g)
    loops := s.lpe.loops.filterMap fun e =>
      if e.2.configured && e.2.aligned && e.2.host == k then e.2.out.map fun o => (e.1, o) else none }

/-- Two publications of one instant. -/
def Pub.and (a b : Pub) : Pub := ⟨a.vals ++ b.vals, a.good ++ b.good, a.loops ++ b.loops⟩

/-! ### Forcing (R62 to R68) -/

/-- The mask and value of a group's force once every waiting record has taken effect. -/
def forceAhead (s : State) (g : Nat) : Word × Word :=
  match s.img.fwait.reverse.find? fun x => x.g == g with
  | some x => (x.mask, x.val)
  | none => (s.img.fmask.get 0 g, s.img.fval.get 0 g)

/-- The analogue values that would be forced once every waiting record has taken effect. -/
def analogForcedAhead (s : State) : List Nat :=
  let gs := dedup ((s.img.fmask.map (·.1) ++ s.img.fwait.map (·.g)).filter fun g => !isDigital g)
  gs.filter fun g => (forceAhead s g).1 != 0#32

/-- Firmware writes a table of image memory anew: what was stored over it is gone (log 86). -/
def renewTable (s : State) (lo hi : Nat) : State :=
  s.modImg fun i => { i with sup := i.sup.filter fun e => decide (e.1 < lo) || decide (hi ≤ e.1) }

/-- A group's force takes the given mask and value. -/
def setForce (s : State) (g : Nat) (mask val : Word) : State :=
  let s := s.modImg fun i => { i with fmask := i.fmask.set 0 g mask, fval := i.fval.set 0 g (val &&& mask) }
  if isDigital g then s else renewTable s 0x2D0000 0x2D8000

/-- The task at whose release or end of evaluation a force on a group takes effect (R65, R357, log 85). -/
def forceTask (s : State) (g : Nat) : Option Nat := if isOutput g then outputTask s g else groupOwner s g

/-- The waiting forces of a task's input groups, or of its output groups, take effect; the result lists the groups (R65). A force on
a group that nothing writes is taken with the task of its station or channel (log 85). -/
def takeForces (s : State) (k : Nat) (input : Bool) : State × List Nat :=
  let due := s.img.fwait.filter fun x => isInput x.g == input && forceTask s x.g == some k
  let s := due.foldl (fun s x => setForce s x.g x.mask x.val) s
  (s.modImg fun i => { i with fwait := i.fwait.filter fun x => !(isInput x.g == input && due.contains x) },
    dedup (due.map (·.g)))

/-- Every force and every waiting force is removed, with a record when one was in effect (R67). -/
def clearForces (s : State) : State :=
  let any := !s.img.fmask.isEmpty
  let s := s.modImg fun i => { i with fmask := [], fval := [], fwait := [] }
  if any then s.record 0x0110 1 0 0 [] else s

/-- A force record's fields (R68). -/
structure ForceRec where
  space : Nat
  op    : Nat
  group : Nat
  mask  : Word
  val   : Word
deriving DecidableEq, Repr

def ForceRec.of (bs : List Byte) : ForceRec :=
  ⟨fromLE (slice bs 0 1), fromLE (slice bs 1 1), fromLE (slice bs 2 2), toWord (fromLE (slice bs 4 4)),
    toWord (fromLE (slice bs 8 4))⟩

def ForceRec.g (r : ForceRec) : Nat :=
  match r.space with
  | 0 => gIX r.group
  | 1 => gQX r.group
  | 2 => gID r.group
  | _ => gQD r.group

/-- The status with which a force record is refused; 0 for one that is accepted (R68). -/
def forceStatus (s : State) (bs : List Byte) : Nat :=
  let r := ForceRec.of bs
  if bs.length ≠ 12 then 0x0401
  else if r.space > 3 ∨ r.op = 0 ∨ r.op > 2 ∨ (r.space < 2 ∧ r.group > 8191)
      ∨ (2 ≤ r.space ∧ r.mask ≠ 0xFFFFFFFF#32) ∨ configuredBits s r.g = 0 then 0x0402
  else if r.op = 1 ∧ 2 ≤ r.space ∧ ¬(analogForcedAhead s).contains r.g ∧ (analogForcedAhead s).length ≥ 2048 then 0x0501
  else 0

/-- The force that a record gives its group, beside those that wait already. -/
def forceOf (s : State) (bs : List Byte) : ForceWait :=
  let r := ForceRec.of bs
  let cur := forceAhead s r.g
  { g := r.g
    mask := if r.op = 1 then cur.1 ||| r.mask else cur.1 &&& ~~~r.mask
    val := if r.op = 1 then (cur.2 &&& ~~~r.mask) ||| (r.val &&& r.mask) else cur.2 &&& ~~~r.mask }

/-- A force waits for its owner's release or end of evaluation (R65). -/
def forceQueue (s : State) (bs : List Byte) : State := s.modImg fun i => { i with fwait := i.fwait ++ [forceOf s bs] }

/-- An accepted force record; while the program is STOPPED it takes effect at once, with those of its group that wait from a run
before (R65, log 13). -/
def forceAccept (s : State) (bs : List Byte) : State :=
  let f := forceOf s bs
  if s.stopped then
    (setForce s f.g f.mask f.val).modImg fun i => { i with fwait := i.fwait.filter fun x => x.g != f.g }
  else forceQueue s bs

/-! ### Status words (R59, R60) -/

/-- The task status word at a release; `full` as R60 gives it. -/
def taskStatus (s : State) (k : Nat) (full : Bool) : Word :=
  let t := s.task k
  let forcedAny := s.img.fmask.any fun e => groupOwner s e.1 == some k
  toWord ((t.cycles % 65536) * 65536 + b2n t.missPrev * 16 + b2n forcedAny * 8 + b2n t.latePrev * 4 + b2n full * 2
    + b2n t.first)

/-- Station-status bits of a task's stations at a release: the cycle before, or this cycle's inputs in the first (R59). -/
def stationStatus (s : State) (k : Nat) : State :=
  let t := s.task k
  (taskStations s k).foldl (fun s key =>
    let b := if t.first then !s.img.comm.contains key else t.badPrev.contains key
    s.setMBit (stnStatusWord key) (key % 32) b) s

/-- %M words in the status space that a release of the task writes: station status, task status, quality (R57). -/
def statusWords (s : State) (k : Nat) : List Nat :=
  dedup ((taskStations s k).map stnStatusWord ++ [taskStatusWord k] ++ (inputGroups s k).map qualityWord)

/-- The exchange slots and status-space words that a task judges against what it saw at its release before: those that its
segments read, and those that its release writes (R57, R123, R129). -/
def watchedWords (s : State) (k : Nat) : List Nat :=
  let slots := (exchanges s k).map (·.1)
  let st := (usedGroups s).filter fun g => isStatus g && (subs s g).any fun e => !e.writer && (s.hdr e.seg).task == k
  dedup (slots ++ st.map (fun g => g - 147456) ++ statusWords s k)

/-- Of those, the ones that changed, with their bytes; what the task sees now is kept (R128, R129). -/
def watchChanges (s : State) (k : Nat) : State × List (Nat × Nat) :=
  (watchedWords s k).foldl (fun r w =>
    let v := r.1.img.m.get 0 w
    let old := r.1.img.seen.get 0 (262144 * k + w)
    let d := diffBytes v old
    (r.1.modImg fun i => { i with seen := i.seen.set 0 (262144 * k + w) v },
      if d = 0 then r.2 else r.2 ++ [(gMD w, d)])) (s, [])

/-! ### Image memory as addresses (R47, R48, R122) -/

/-- The numbers that satisfy `p` as a byte of a bit map; a set as one. -/
def mapByteOf (p : Nat → Bool) (b : Nat) : Byte :=
  BitVec.ofNat 8 ((List.range 8).foldl (fun n i => if p (8 * b + i) then n + 2 ^ i else n) 0)
def mapByte (t : NSet) (b : Nat) : Byte := mapByteOf t.contains b

/-- The change bit of a group (R89, R123). -/
def changed (s : State) (g : Nat) : Bool :=
  s.gz.change.contains g || (match s.gz.cleared with | some t => !t.contains g | none => false)

/-- The group and the byte within it that a view offset names. -/
def viewGroup (off : Nat) : Option (Nat × Nat) :=
  if off < 0x10000 then some (off / 4, off % 4)
  else if off < 0x50000 then some (gID ((off - 0x10000) / 4), off % 4)
  else if off < 0x90000 then some (gQD ((off - 0x50000) / 4), off % 4)
  else if off < 0x190000 then some (gMD ((off - 0x90000) / 4), off % 4)
  else none

/-- A byte of a word. -/
def byteOf (w : Word) (i : Nat) : Byte := w.extractLsb' (8 * i) 8

/-- A word with one byte replaced. -/
def withByte (w : Word) (i : Nat) (b : Byte) : Word :=
  (w &&& ~~~(0xFF#32 <<< (8 * i))) ||| (b.setWidth 32 <<< (8 * i))

/-- A byte of the Gauze area (R122); reserved bytes read 0. -/
def gauzeByte (s : State) (o : Nat) : Byte :=
  if o < 0xC800 then mapByteOf (changed s) o
  else if o < 0x10000 then 0
  else if o < 0x12000 then mapByte s.gz.pending (o - 0x10000)
  else if o < 0x14000 then mapByte s.gz.next (o - 0x12000)
  else if o < 0x16000 then mapByte s.gz.settle (o - 0x14000)
  else if o < 0x18000 then mapByte s.gz.run (o - 0x16000)
  else if o < 0x1A000 then mapByte s.gz.mismatch (o - 0x18000)
  else if o < 0x80000 then 0
  else (toLE 8 (s.gz.wheel.get 0 ((o - 0x80000) / 8))).getD (o % 8) 0

/-- A byte of the analogue forcing table and of the ownership table, which follows the order of Gauze numbers, as firmware keeps
them (R47, log 86); the rest is reserved. -/
def tableByte (s : State) (off : Nat) : Byte :=
  if off < 0x2D8000 then
    Config.analogForceByte ((s.img.fmask.filter fun e => !isDigital e.1).map fun e => (e.1, s.img.fval.get 0 e.1)) (off - 0x2D0000)
  else if off - 0x2D8000 < 147456 then Config.ownerByte (off - 0x2D8000) (groupOwner s (off - 0x2D8000))
  else 0

/-- A byte of the digital forcing table (R47). -/
def forceByte (s : State) (o : Nat) : Byte :=
  let g := o % 0x8000 / 4
  let w := match o / 0x8000 with
    | 0 => s.img.fmask.get 0 (gIX g)
    | 1 => s.img.fval.get 0 (gIX g)
    | 2 => s.img.fmask.get 0 (gQX g)
    | _ => s.img.fval.get 0 (gQX g)
  byteOf w (o % 4)

/-- A byte of image memory as a reader sees it; `reader` is the task of the segment that reads, `sup` supervisor privilege;
`none` where R47 permits no read. -/
def imageByte (s : State) (reader : Option Nat) (sup : Bool) (off : Nat) : Option Byte :=
  match viewGroup off with
  | some (g, i) => some (byteOf (s.groupFor reader g) i)
  | none =>
    if off < 0x2B0000 || !sup then none
    else if off < 0x2D0000 then some (forceByte s (off - 0x2B0000))
    else if off < 0x300000 then some (s.img.sup.get 0 off ^^^ tableByte s off)
    else if off < 0x400000 then some (gauzeByte s (off - 0x300000))
    else none

end Sys2Proof.Machine
end

