-- ==== Sys2Proof/Machine/Insn.lean ====
section
/-!
DEFINITION. Insn.lean: instruction encoding (R204 to R210, R236 to R239): the operation table, what each operand accepts,
and the decoding of opcode words and extensions; the walk that judges a lane-class segment's words (R761).
-/
namespace Sys2Proof.Machine

/-- Operand sizes (R205). -/
inductive Sz where
  | i8 | i16 | i32 | i64 | bit | f32 | f64
deriving DecidableEq, Repr

def Sz.of : Nat → Option Sz
  | 0 => some .i8 | 1 => some .i16 | 2 => some .i32 | 3 => some .i64 | 4 => some .bit | 5 => some .f32 | 6 => some .f64
  | _ => none

/-- Width in bits and in bytes. -/
def Sz.width : Sz → Nat
  | .i8 => 8 | .i16 => 16 | .i32 => 32 | .i64 => 64 | .bit => 1 | .f32 => 32 | .f64 => 64
def Sz.bytes : Sz → Nat
  | .i8 => 1 | .i16 => 2 | .i32 => 4 | .i64 => 8 | .bit => 1 | .f32 => 4 | .f64 => 8
def Sz.isPair (z : Sz) : Bool := z == .i64 || z == .f64

/-- Operations (chapter "Instruction reference"). -/
inductive Op where
  | mov | ldg | ldgp | exts | extz | lea | rdtb
  | add | sub | mul | mulhs | mulhu | div | divu | rem | remu | neg | abs | min | max | sqrt
  | cvtif | cvtlf | cvtfi | trnfi | cvtfl | trnfl | cvtff
  | and | or | xor | not | shl | shr | sar | rol | ror
  | ceq | cne | clt | cle | cltu | cleu
  | bra | bz | bnz | call | ret | end_ | rte | nop
  | wfe | wtu | sev
  | band | bor | bxor | bandn | born | bnot | redge | fedge
  | ton | tof | tp | tet | ctu | ctd | cld | crst
  | movb | fill | crcc | scpy | scat | slen | scmp | sfnd
  | mfs | mts | trap
deriving DecidableEq, Repr

/-- A row of the tables: OP, operand counts, sizes, lane sizes. -/
structure OpRow where
  num   : Nat
  op    : Op
  nops  : List Nat
  sizes : List Sz
  lane  : List Sz

def szInt : List Sz := [.i8, .i16, .i32, .i64]
def szArith : List Sz := [.i8, .i16, .i32, .i64, .f32, .f64]
def szFloat : List Sz := [.f32, .f64]

/-- Moves and loads, arithmetic, conversions (R240, R242, R252). -/
def opRowsA : List OpRow := [
  ⟨0x001, .mov, [2], [.i8, .i16, .i32, .i64, .bit, .f32, .f64], [.bit, .i16, .i32, .f32]⟩,
  ⟨0x002, .ldg, [2], [.i8, .i16, .i32, .bit, .f32], [.bit, .i16, .i32, .f32]⟩,
  ⟨0x003, .ldgp, [2], [.i64, .f64], []⟩,
  ⟨0x004, .exts, [2], [.i8, .i16, .i32], []⟩,
  ⟨0x005, .extz, [2], [.i8, .i16, .i32], []⟩,
  ⟨0x006, .lea, [2], [.i32], []⟩,
  ⟨0x007, .rdtb, [1], [.i32], []⟩,
  ⟨0x010, .add, [2, 3], szArith, [.i16, .i32]⟩,
  ⟨0x011, .sub, [2, 3], szArith, [.i16, .i32]⟩,
  ⟨0x012, .mul, [2, 3], szArith, [.i16, .i32]⟩,
  ⟨0x013, .mulhs, [3], [.i32], []⟩,
  ⟨0x014, .mulhu, [3], [.i32], []⟩,
  ⟨0x015, .div, [2, 3], szArith, []⟩,
  ⟨0x016, .divu, [2, 3], szInt, []⟩,
  ⟨0x017, .rem, [2, 3], szInt, []⟩,
  ⟨0x018, .remu, [2, 3], szInt, []⟩,
  ⟨0x019, .neg, [1, 2], szArith, []⟩,
  ⟨0x01A, .abs, [1, 2], szArith, []⟩,
  ⟨0x01B, .min, [2, 3], szArith, []⟩,
  ⟨0x01C, .max, [2, 3], szArith, []⟩,
  ⟨0x01D, .sqrt, [1, 2], szFloat, []⟩,
  ⟨0x020, .cvtif, [2], szFloat, []⟩,
  ⟨0x021, .cvtlf, [2], szFloat, []⟩,
  ⟨0x022, .cvtfi, [2], szFloat, []⟩,
  ⟨0x023, .trnfi, [2], szFloat, []⟩,
  ⟨0x024, .cvtfl, [2], szFloat, []⟩,
  ⟨0x025, .trnfl, [2], szFloat, []⟩,
  ⟨0x026, .cvtff, [2], szFloat, []⟩]

/-- Word logic, comparisons, control flow, events (R245, R247, R266, R274). -/
def opRowsB : List OpRow := [
  ⟨0x040, .and, [2, 3], szInt, [.i32]⟩,
  ⟨0x041, .or, [2, 3], szInt, [.i32]⟩,
  ⟨0x042, .xor, [2, 3], szInt, [.i32]⟩,
  ⟨0x043, .not, [1, 2], szInt, [.i32]⟩,
  ⟨0x044, .shl, [2, 3], szInt, [.i32]⟩,
  ⟨0x045, .shr, [2, 3], szInt, [.i32]⟩,
  ⟨0x046, .sar, [2, 3], szInt, [.i32]⟩,
  ⟨0x047, .rol, [2, 3], szInt, [.i32]⟩,
  ⟨0x048, .ror, [2, 3], szInt, [.i32]⟩,
  ⟨0x060, .ceq, [3], [.i8, .i16, .i32, .i64, .bit, .f32, .f64], [.bit, .i16, .i32, .f32]⟩,
  ⟨0x061, .cne, [3], [.i8, .i16, .i32, .i64, .bit, .f32, .f64], [.bit, .i16, .i32, .f32]⟩,
  ⟨0x062, .clt, [3], szArith, [.i16, .i32, .f32]⟩,
  ⟨0x063, .cle, [3], szArith, [.i16, .i32, .f32]⟩,
  ⟨0x064, .cltu, [3], szInt, [.i16, .i32]⟩,
  ⟨0x065, .cleu, [3], szInt, [.i16, .i32]⟩,
  ⟨0x080, .bra, [1], [.i32], [.i32]⟩,
  ⟨0x081, .bz, [2], [.i32], [.i32]⟩,
  ⟨0x082, .bnz, [2], [.i32], [.i32]⟩,
  ⟨0x083, .call, [1], [.i32], [.i32]⟩,
  ⟨0x084, .ret, [0], [.i32], [.i32]⟩,
  ⟨0x085, .end_, [0], [.i32], [.i32]⟩,
  ⟨0x086, .rte, [0], [.i32], []⟩,
  ⟨0x087, .nop, [0], [.i32], []⟩,
  ⟨0x0A0, .wfe, [2], [.i32], []⟩,
  ⟨0x0A1, .wtu, [3], [.i32], []⟩,
  ⟨0x0A2, .sev, [2], [.i32], []⟩]

/-- Bit logic, timers, counters, blocks, strings (R254, R255, R258, R264, R268, R272). -/
def opRowsC : List OpRow := [
  ⟨0x100, .band, [2, 3], [.bit], [.bit]⟩,
  ⟨0x101, .bor, [2, 3], [.bit], [.bit]⟩,
  ⟨0x102, .bxor, [2, 3], [.bit], [.bit]⟩,
  ⟨0x103, .bandn, [2, 3], [.bit], [.bit]⟩,
  ⟨0x104, .born, [2, 3], [.bit], [.bit]⟩,
  ⟨0x105, .bnot, [1, 2], [.bit], [.bit]⟩,
  ⟨0x110, .redge, [3], [.bit], [.bit]⟩,
  ⟨0x111, .fedge, [3], [.bit], [.bit]⟩,
  ⟨0x120, .ton, [3], [.bit], [.bit]⟩,
  ⟨0x121, .tof, [3], [.bit], [.bit]⟩,
  ⟨0x122, .tp, [3], [.bit], [.bit]⟩,
  ⟨0x123, .tet, [2], [.i32], [.i32]⟩,
  ⟨0x130, .ctu, [3], [.bit], [.bit]⟩,
  ⟨0x131, .ctd, [3], [.bit], [.bit]⟩,
  ⟨0x132, .cld, [2], [.bit], [.bit]⟩,
  ⟨0x133, .crst, [2], [.bit], [.bit]⟩,
  ⟨0x180, .movb, [3], szInt, []⟩,
  ⟨0x181, .fill, [3], szInt, []⟩,
  ⟨0x182, .crcc, [3], [.i32], []⟩,
  ⟨0x188, .scpy, [2], [.i32], []⟩,
  ⟨0x189, .scat, [2], [.i32], []⟩,
  ⟨0x18A, .slen, [2], [.i32], []⟩,
  ⟨0x18B, .scmp, [3], [.i32], []⟩,
  ⟨0x18C, .sfnd, [3], [.i32], []⟩]

/-- The row of an OP value; `none` for an unassigned one (R239, R274). -/
def opRow (n : Nat) : Option OpRow :=
  if 0x2C0 ≤ n ∧ n ≤ 0x2D2 then some ⟨n, .mfs, [1], [.i32], []⟩
  else if 0x2E0 ≤ n ∧ n ≤ 0x2F2 then some ⟨n, .mts, [1], [.i32], []⟩
  else if 0x300 ≤ n ∧ n ≤ 0x3FF then some ⟨n, .trap, [0], [.i32], []⟩
  else (opRowsA ++ opRowsB ++ opRowsC).find? fun r => r.num == n

/-! ### Operand kinds (R236, R237) -/

/-- What an operand is: a source, a destination, both; a result operand, a flag operand, a branch target, a record read or
written, a block read or written, an address (LEA), a register. -/
inductive Kind where
  | rd | wr | rw | res | flag | target | record | blockR | blockW | ea | reg | regw
deriving DecidableEq, Repr

/-- The operands of an instruction: kind, and size where the kind has one. A result operand is listed as a 32-bit one and a
flag operand as a byte; in image-bit mode both are bits. -/
def opKinds (op : Op) (z : Sz) (nops : Nat) : List (Kind × Sz) :=
  let two : List (Kind × Sz) := if nops = 2 then [(.rw, z), (.rd, z)] else [(.wr, z), (.rd, z), (.rd, z)]
  let shift : List (Kind × Sz) := if nops = 2 then [(.rw, z), (.rd, .i32)] else [(.wr, z), (.rd, z), (.rd, .i32)]
  let one : List (Kind × Sz) := if nops = 1 then [(.rw, z)] else [(.wr, z), (.rd, z)]
  let cmp : List (Kind × Sz) := [(.res, .i32), (.rd, z), (.rd, z)]
  let count : List (Kind × Sz) := [(.wr, .bit), (.rd, .bit), (.record, .i32)]
  match op with
  | .mov => [(.wr, z), (.rd, z)]
  | .ldg => [(.regw, z), (.rd, z)]
  | .ldgp => [(.regw, z), (.rd, z)]
  | .exts => [(.wr, if z = .i32 then .i64 else .i32), (.rd, z)]
  | .extz => [(.wr, if z = .i32 then .i64 else .i32), (.rd, z)]
  | .lea => [(.wr, .i32), (.ea, .i32)]
  | .rdtb => [(.regw, .i64)]
  | .add => two | .sub => two | .mul => two | .div => two | .divu => two | .rem => two | .remu => two
  | .min => two | .max => two | .and => two | .or => two | .xor => two
  | .band => two | .bor => two | .bxor => two | .bandn => two | .born => two
  | .mulhs => two | .mulhu => two
  | .neg => one | .abs => one | .sqrt => one | .not => one | .bnot => one
  | .shl => shift | .shr => shift | .sar => shift | .rol => shift | .ror => shift
  | .cvtif => [(.wr, z), (.rd, .i32)]
  | .cvtlf => [(.wr, z), (.rd, .i64)]
  | .cvtfi => [(.wr, .i32), (.rd, z)]
  | .trnfi => [(.wr, .i32), (.rd, z)]
  | .cvtfl => [(.wr, .i64), (.rd, z)]
  | .trnfl => [(.wr, .i64), (.rd, z)]
  | .cvtff => [(.wr, z), (.rd, if z = .f32 then .f64 else .f32)]
  | .ceq => cmp | .cne => cmp | .clt => cmp | .cle => cmp | .cltu => cmp | .cleu => cmp
  | .bra => [(.target, .i32)]
  | .bz => [(.reg, .i32), (.target, .i32)]
  | .bnz => [(.reg, .i32), (.target, .i32)]
  | .call => [(.target, .i32)]
  | .ret => [] | .end_ => [] | .rte => [] | .nop => [] | .trap => []
  | .wfe => [(.rd, .i32), (.rd, .i32)]
  | .wtu => [(.reg, .i64), (.rd, .i32), (.rd, .i32)]
  | .sev => [(.rd, .i32), (.rd, .i32)]
  | .redge => [(.wr, .bit), (.rd, .bit), (.flag, .i8)]
  | .fedge => [(.wr, .bit), (.rd, .bit), (.flag, .i8)]
  | .ton => count | .tof => count | .tp => count | .ctu => count | .ctd => count
  | .tet => [(.wr, .i32), (.record, .i32)]
  | .cld => [(.record, .i32), (.rd, .bit)]
  | .crst => [(.record, .i32), (.rd, .bit)]
  | .movb => [(.blockW, z), (.blockR, z), (.rd, .i32)]
  | .fill => [(.blockW, z), (.rd, z), (.rd, .i32)]
  | .crcc => [(.rw, .i32), (.blockR, .i8), (.rd, .i32)]
  | .scpy => [(.blockW, .i32), (.blockR, .i32)]
  | .scat => [(.blockW, .i32), (.blockR, .i32)]
  | .slen => [(.wr, .i32), (.blockR, .i32)]
  | .scmp => [(.wr, .i32), (.blockR, .i32), (.blockR, .i32)]
  | .sfnd => [(.wr, .i32), (.blockR, .i32), (.blockR, .i32)]
  | .mfs => [(.wr, .i32)]
  | .mts => [(.rd, .i32)]

/-- A memory mode; a memory mode without PC-relative, post-increment and pre-decrement. -/
def memMode (m : Nat) : Bool := decide (1 ≤ m) && decide (m ≤ 8)
def plainMode (m : Nat) : Bool := m == 1 || m == 4 || m == 5 || m == 6 || m == 7

/-- A mode and a size go together (R209); `first` for operand 1, which is never immediate (R210). -/
def dataMode (z : Sz) (first : Bool) (m : Nat) : Bool :=
  if m = 0 then true
  else if memMode m then z != .bit
  else if m = 9 then !first
  else if m = 0xA then !first && z.isPair
  else if m = 0xB then z == .bit
  else if m = 0xC then z == .i32 || z == .f32
  else false

/-- The modes that an operand accepts, as the opcode word gives them (R237). -/
def Kind.accepts (k : Kind) (z : Sz) (first : Bool) (m : Nat) : Bool :=
  match k with
  | .rd => dataMode z first m
  | .wr => dataMode z true m
  | .rw => dataMode z true m
  | .res => m == 0 || memMode m || m == 0xB || m == 0xC
  | .flag => m == 0 || memMode m || m == 0xB
  | .target => m == 0 || m == 7 || m == 8
  | .record => plainMode m || m == 0xC
  | .blockR => plainMode m || m == 8
  | .blockW => plainMode m
  | .ea => plainMode m || m == 8
  | .reg => m == 0
  | .regw => m == 0

/-- The modes that an operand accepts on a lane (R227, R236). -/
def Kind.laneAccepts (k : Kind) (m : Nat) : Bool :=
  match k with
  | .target => m == 8
  | .record => m == 0xC
  | .rd => m == 0 || m == 8 || m == 9 || m == 0xB || m == 0xC
  | _ => m == 0 || m == 0xB || m == 0xC

/-! ### Opcode words (R204) -/

/-- What an opcode word says. -/
structure Form where
  row   : OpRow
  sz    : Sz
  nops  : Nat
  modes : List Nat
  kinds : List (Kind × Sz)

def Form.op (f : Form) : Op := f.row.op

/-- The form of an opcode word; `none` where the word alone makes the instruction illegal (R210, R230). -/
def formOf (w : Word) : Option Form :=
  match opRow (wbits w 31 22), Sz.of (wbits w 19 17) with
  | some r, some z =>
    let n := wbits w 21 20
    let ms := [wbits w 16 13, wbits w 12 9, wbits w 8 5]
    let ks := opKinds r.op z n
    let used := (ks.zip ms).zip [true, false, false]
    if r.nops.contains n && r.sizes.contains z && wbits w 4 0 == 0
        && used.all (fun e => e.1.1.1.accepts e.1.1.2 e.2 e.1.2) && (ms.drop ks.length).all (· == 0) then
      some ⟨r, z, n, ms.take ks.length, ks⟩
    else none
  | _, _ => none

/-- The form is in the lane subset (R227). -/
def Form.onLane (f : Form) : Bool :=
  f.row.lane.contains f.sz && (f.kinds.zip f.modes).all fun e => e.1.1.laneAccepts e.2

/-- Extension words of a mode (R206). -/
def extWords (m : Nat) : Nat := if m = 5 ∨ m = 0xA then 2 else 1

/-- Words of an instruction with its extensions. -/
def Form.words (f : Form) : Nat := f.modes.foldl (fun n m => n + extWords m) 1

/-! ### Extensions (R207) -/

/-- An operand as its extension gives it. -/
inductive Opnd where
  | reg (r : Nat)
  | ind (r : Nat)
  | inc (r : Nat)
  | dec (r : Nat)
  | disp (base : Nat) (d : Int)
  | index (base i scale : Nat)
  | abs (a : Nat)
  | pcrel (off : Int)
  | imm (v : Nat)
  | ibit (g b : Nat)
  | ival (g : Nat)
deriving DecidableEq, Repr

/-- The value of a short immediate at a size (R209, R762). -/
def shortImm (z : Sz) (w : Word) : Nat :=
  match z with
  | .i64 => (BitVec.ofInt 64 w.toInt).toNat
  | .f64 => widenImm w.toNat
  | _ => w.toNat % 2 ^ z.width

/-- An operand from its extension words; `none` where they make the instruction illegal (R210, R230). -/
def opndOf (k : Kind) (z : Sz) (m : Nat) (w w2 : Word) : Option Opnd :=
  let n := w.toNat
  let r := n % 16
  let low := n / 16 = 0
  if m = 0 then
    let pair := z.isPair && k != .res && k != .flag
    if low ∧ ¬(pair ∧ r % 2 = 1) then some (.reg r) else none
  else if m = 1 then (if low then some (.ind r) else none)
  else if m = 2 then (if low then some (.inc r) else none)
  else if m = 3 then (if low then some (.dec r) else none)
  else if m = 4 then (if wbits w 15 4 = 0 then some (.disp r (signed 16 (wbits w 31 16))) else none)
  else if m = 5 then (if low then some (.disp r w2.toInt) else none)
  else if m = 6 then
    (if wbits w 31 12 = 0 ∧ wbits w 7 6 = 0 then some (.index r (wbits w 11 8) (2 ^ wbits w 5 4)) else none)
  else if m = 7 then some (.abs n)
  else if m = 8 then some (.pcrel w.toInt)
  else if m = 9 then some (.imm (shortImm z w))
  else if m = 0xA then some (.imm (n + w2.toNat * 2 ^ 32))
  else if m = 0xB then
    (if wbits w 28 23 = 0 then (pointOf w).map fun e => .ibit e.1 e.2 else none)
  else
    match valueOf w with
    | some g => if wbits w 28 18 = 0 ∧ ¬(k = .record ∧ !isMarker g) then some (.ival g) else none
    | none => none

/-- The operands of a form from its extension words. -/
def opndsOf (ks : List (Kind × Sz)) (ms : List Nat) (ws : List Word) : Option (List Opnd) :=
  match ks, ms with
  | k :: ks, m :: ms =>
    match opndOf k.1 k.2 m (ws.getD 0 0) (ws.getD 1 0), opndsOf ks ms (ws.drop (extWords m)) with
    | some o, some os => some (o :: os)
    | _, _ => none
  | _, _ => some []

/-! ### Judging a lane-class segment (R761, R152) -/

/-- A word of a list of code words as the walk meets it: its form and operands when it is a legal lane instruction. -/
def laneInsn (code : List Word) (i : Nat) : Option (Form × List Opnd) :=
  match code[i]? with
  | none => none
  | some w =>
    match formOf w with
    | none => none
    | some f =>
      if f.onLane && decide (i + f.words ≤ code.length) then
        (opndsOf f.kinds f.modes (code.drop (i + 1))).map fun os => (f, os)
      else none

/-- Where the walk goes on from an instruction at word `i`, a target being taken when it lies within the segment. -/
def laneNext (code : List Word) (i : Nat) (f : Form) (os : List Opnd) : List Nat :=
  let target := os.filterMap fun o =>
    match o with
    | .pcrel off =>
      let t := (4 * (i : Int) + off) / 4
      if 0 ≤ t ∧ t < code.length then some t.toNat else none
    | _ => none
  let jumps := f.op == .bra || f.op == .bz || f.op == .bnz || f.op == .call
  let after := if f.op == .bra || f.op == .ret || f.op == .end_ then [] else [i + f.words]
  after ++ (if jumps then target else [])

/-- The walk from the words of `todo`, past those of `seen`: the words at which it decodes an instruction, or `none` where it
reaches a word that is no lane instruction. The word after every CALL is reached from the CALL, so that a RET leads to no
further word. -/
def laneWalk (code : List Word) (fuel : Nat) (todo seen : List Nat) : Option (List Nat) :=
  match fuel, todo with
  | _, [] => some seen
  | 0, _ => none
  | n + 1, i :: rest =>
    if seen.contains i || decide (code.length ≤ i) then laneWalk code n rest seen
    else
      match laneInsn code i with
      | none => none
      | some (f, os) => laneWalk code n (laneNext code i f os ++ rest) (i :: seen)

/-- The words of a lane-class segment at which the walk decodes. It visits a word once and takes up at most two words each
time. -/
def laneReached (code : List Word) : Option (List Nat) := laneWalk code (2 * code.length + 4) [0] []

/-- Check 0x03 on the words of a lane-class segment. -/
def laneJudged (code : List Word) : Bool := (laneReached code).isSome

/-! ### Image operands of a segment's code (R112, R152) -/

/-- An image operand: the group, the bytes it names, and whether it is read and written. -/
structure Use where
  g     : Nat
  bytes : Nat
  rd    : Bool
  wr    : Bool
  /-- the operand is an instance record or an edge memory (R127) -/
  inst  : Bool
deriving DecidableEq, Repr

/-- Groups of an image-value or image-bit operand of a kind. An instance record covers four words, which its instruction
reads and writes. -/
def usesOf (op : Op) (k : Kind × Sz) (o : Opnd) : List Use :=
  let rd := k.1 == .rd || k.1 == .rw || k.1 == .flag || k.1 == .record
  let wr := k.1 == .wr || k.1 == .rw || k.1 == .res || k.1 == .flag || (k.1 == .record && op != .tet)
  match o with
  | .ibit g b => [⟨g, if isDigital g then 2 ^ (b / 8) else 15, rd, wr, k.1 == .flag⟩]
  | .ival g =>
    if k.1 = .record then (List.range 4).map fun i => ⟨g + i, 15, rd, wr && i != 0, true⟩ else [⟨g, 15, rd, wr, k.1 == .flag⟩]
  | _ => []

/-- The image operands of code, decoded word after word from its start; a word that no instruction starts with is passed
over. -/
def codeUses (code : List Word) (fuel i : Nat) : List Use :=
  match fuel with
  | 0 => []
  | n + 1 =>
    match code[i]? with
    | none => []
    | some w =>
      match formOf w with
      | none => codeUses code n (i + 1)
      | some f =>
        match opndsOf f.kinds f.modes (code.drop (i + 1)) with
        | none => codeUses code n (i + 1)
        | some os =>
          ((f.kinds.zip os).flatMap fun e => usesOf f.op e.1 e.2) ++ codeUses code n (i + f.words)

/-- The image operands of a lane-class segment: those of the instructions that the walk of R761 reaches. -/
def laneUses (code : List Word) : List Use :=
  ((laneReached code).getD []).flatMap fun i =>
    match laneInsn code i with
    | some (f, os) => (f.kinds.zip os).flatMap fun e => usesOf f.op e.1 e.2
    | none => []

end Sys2Proof.Machine
end

