-- ==== Sys2Proof/Machine/Flags.lean ====
section
/-!
DEFINITION. Flags.lean: results of the arithmetic, logic and comparison instructions with the conditions of ARITH that they meet
(R198, R242 to R253). A value is a number at its operand size; a result is a pair of a value and a mask of conditions.
-/
namespace Sys2Proof.Machine

/-! ### Integer conditions (R198, R243) -/

def cNEG : Nat := 0x1
def cDOVF : Nat := 0x2
def cDZERO : Nat := 0x4
def cIOVF : Nat := 0x8

/-- The least and the largest signed integer of a width. -/
def intMin (w : Nat) : Int := -(2 ^ (w - 1) : Nat)
def intMax (w : Nat) : Int := (2 ^ (w - 1) : Nat) - 1

/-- An integer modulo 2^w. -/
def wrap (w : Nat) (n : Int) : Nat := (n % ((2 ^ w : Nat) : Int)).toNat

/-- A true result at a width, with IOVF where it lies outside the signed range. -/
def intResult (w : Nat) (n : Int) : Nat × Nat := (wrap w n, if n < intMin w ∨ intMax w < n then cIOVF else 0)

def intAdd (w a b : Nat) : Nat × Nat := intResult w (signed w a + signed w b)
def intSub (w a b : Nat) : Nat × Nat := intResult w (signed w a - signed w b)
def intMul (w a b : Nat) : Nat × Nat := intResult w (signed w a * signed w b)

/-- The signed quotient, truncated toward zero. -/
def intDiv (w a b : Nat) : Nat × Nat :=
  if b = 0 then (0, cDZERO)
  else if signed w a = intMin w ∧ signed w b = -1 then (a, cDOVF)
  else (wrap w (Int.tdiv (signed w a) (signed w b)), 0)

/-- The signed remainder, with the sign of the dividend. -/
def intRem (w a b : Nat) : Nat × Nat :=
  if b = 0 then (a, cDZERO)
  else if signed w a = intMin w ∧ signed w b = -1 then (0, cDOVF)
  else (wrap w (Int.tmod (signed w a) (signed w b)), 0)

def natDiv (a b : Nat) : Nat × Nat := if b = 0 then (0, cDZERO) else (a / b, 0)
def natRem (a b : Nat) : Nat × Nat := if b = 0 then (a, cDZERO) else (a % b, 0)

def intNeg (w a : Nat) : Nat × Nat := if signed w a = intMin w then (a, cNEG) else (wrap w (-signed w a), 0)
def intAbs (w a : Nat) : Nat × Nat :=
  if signed w a = intMin w then (a, cNEG) else (if signed w a < 0 then wrap w (-signed w a) else a, 0)

def intMinMax (w : Nat) (big : Bool) (a b : Nat) : Nat × Nat :=
  (if (decide (signed w a < signed w b)) != big then a else b, 0)

/-- Bits [63:32] of a product (R242). -/
def mulHighS (a b : Nat) : Nat := wrap 32 ((signed 32 a * signed 32 b) / 4294967296)
def mulHighU (a b : Nat) : Nat := a * b / 4294967296 % 4294967296

/-! ### Either kind, by size -/

/-- The format of a floating-point size. -/
def Sz.fmt (z : Sz) : Fmt := if z = .f64 then fmt64 else fmt32

def Sz.isFloat (z : Sz) : Bool := z == .f32 || z == .f64

def aluAdd (z : Sz) (a b : Nat) : Nat × Nat := if z.isFloat then z.fmt.add a b else intAdd z.width a b
def aluSub (z : Sz) (a b : Nat) : Nat × Nat := if z.isFloat then z.fmt.sub a b else intSub z.width a b
def aluMul (z : Sz) (a b : Nat) : Nat × Nat := if z.isFloat then z.fmt.mul a b else intMul z.width a b
def aluDiv (z : Sz) (a b : Nat) : Nat × Nat := if z.isFloat then z.fmt.div a b else intDiv z.width a b
def aluNeg (z : Sz) (a : Nat) : Nat × Nat := if z.isFloat then (z.fmt.neg a, 0) else intNeg z.width a
def aluAbs (z : Sz) (a : Nat) : Nat × Nat := if z.isFloat then (z.fmt.abs a, 0) else intAbs z.width a
def aluMinMax (z : Sz) (big : Bool) (a b : Nat) : Nat × Nat :=
  if z.isFloat then z.fmt.minMax big a b else intMinMax z.width big a b

/-! ### Logic and shifts (R245, R246) -/

/-- The complement at a width. -/
def bitNot (w a : Nat) : Nat := 2 ^ w - 1 - a % 2 ^ w

def shiftLeft (w a n : Nat) : Nat := if w ≤ n then 0 else (a <<< n) % 2 ^ w
def shiftRight (w a n : Nat) : Nat := if w ≤ n then 0 else a >>> n
def shiftArith (w a n : Nat) : Nat := wrap w (signed w a / (2 ^ (Nat.min n w) : Nat))
def rotLeft (w a n : Nat) : Nat :=
  let k := n % w
  ((a <<< k) ||| (a >>> (w - k))) % 2 ^ w
def rotRight (w a n : Nat) : Nat := rotLeft w a (w - n % w)

/-! ### Comparisons (R247, R248) -/

/-- Either source is a NaN; either is a signalling one. -/
def Fmt.unordered (f : Fmt) (a b : Nat) : Bool := f.isNaN a || f.isNaN b
def Fmt.signals (f : Fmt) (a b : Nat) : Bool := f.isSNaN a || f.isSNaN b

def cmpEq (z : Sz) (a b : Nat) : Bool × Nat :=
  if z.isFloat then
    (!z.fmt.unordered a b && z.fmt.eqNum a b, if z.fmt.signals a b then cFINV else 0)
  else (a == b, 0)

def cmpLt (z : Sz) (a b : Nat) : Bool × Nat :=
  if z.isFloat then
    if z.fmt.unordered a b then (false, cFINV) else (z.fmt.ltNum a b, 0)
  else (decide (signed z.width a < signed z.width b), 0)

def cmpLe (z : Sz) (a b : Nat) : Bool × Nat :=
  if z.isFloat then
    if z.fmt.unordered a b then (false, cFINV) else (z.fmt.ltNum a b || z.fmt.eqNum a b, 0)
  else (decide (signed z.width a ≤ signed z.width b), 0)

end Sys2Proof.Machine
end

