-- ==== Sys2Proof/Machine/HsbBase.lean ====
section
/-!
DEFINITION. HsbBase.lean: what every block uses of the pair (R430 to R464): heartbeats and notices, epochs, changes of role,
and the records of the state delta.
-/
namespace Sys2Proof.Machine

def State.modHsb (s : State) (f : HsbState → HsbState) : State := { s with hsb := f s.hsb }

/-- A health item is proven now (R468). -/
def prove (s : State) (sub : Nat) : State := s.modHsb fun h => { h with proven := h.proven.set 0 sub (s.now + 1) }

/-- A self-test of an item; whether it passes is open, a free bit. A failure sets the item's bit and is recorded (R470, log
1). -/
def selfTest (s : State) (sub : Nat) : State :=
  let d := s.drawBit
  if d.1 then (d.2.modHsb fun h => { h with failed := if bit h.failed sub then h.failed else h.failed + 2 ^ sub }).record
    0x0404 2 0 0 [sub]
  else prove d.2 sub

/-! ### Heartbeats and notices (R440, R441, R452) -/

/-- FLAGS of a heartbeat. -/
def hbFlags (s : State) : Nat := b2n (s.flag HSB_CTRL_MAINT) + 2 * b2n s.running + 4 * b2n s.frz.strap

/-- A heartbeat or a notice. -/
def hbFrame (s : State) (typ notice : Nat) : List Byte :=
  let body := toLE 1 typ ++ toLE 1 (s.role * 16 + s.hsb.unit) ++ toLE 1 (hbFlags s) ++ toLE 1 notice
    ++ toLE 4 (s.reg PHR_EPOCH).toNat ++ toLE 4 s.hsb.seq ++ toLE 4 s.prog.check.toNat
  body ++ toLE 2 (crc16 body)

/-- The active module of a pair sends a notice: at once on the sync link, in its next window on the TIA-485 path, and its
code again in its next two heartbeats (R441). -/
def sendNotice (s : State) (code : Nat) : State :=
  if s.role = roleActive then
    (s.modHsb fun h => { h with notice := code, repeats := 2, wait485 := true }).send (.hsb 0 (hbFrame s 2 code))
  else s

/-! ### Epochs and roles (R436, R438) -/

/-- The smallest number above `n` that the module's unit may take: odd for unit 1, even for unit 2. -/
def nextEpoch (unit n : Nat) : Nat :=
  let m := n + 1
  if unit = 1 then (if m % 2 = 1 then m else m + 1)
  else if unit = 2 then (if m % 2 = 0 then m else m + 1)
  else m

/-- The module stores an epoch (R438). -/
def storeEpoch (s : State) (e : Nat) : State :=
  (s.persistNow recEpoch (toLE 4 e)).modHsb fun h => { h with epStore := e }

/-- The module takes a new epoch, stores it and writes PHR_EPOCH (R438). -/
def takeEpoch (s : State) : State :=
  let m := Nat.max (Nat.max s.hsb.epStore (s.reg PHR_EPOCH).toNat) (Nat.max (s.reg PHR_SUPERSEDED).toNat s.hsb.partner.epoch)
  let e := nextEpoch s.hsb.unit m
  (storeEpoch s e).setReg PHR_EPOCH (toWord e)

/-- A change of role, which the field side follows (R436, R530). -/
def setRole (s : State) (r : Nat) : State :=
  if s.role = r then s
  else
    let old := s.role
    let s := ((s.modHsb fun h => { h with role := r, swTime := s.now }).raise 55).record 0x0400 1 0 0
      [old, r, (s.reg PHR_EPOCH).toNat]
    fieldCmd s (.state (if r = roleSingle ∨ r = roleActive then (if s.running then fsRun else fsSafe) else fsStandby))

/-! ### The state delta (R443 to R446) -/

def State.delta (s : State) (k : Nat) : DeltaSt := s.hsb.deltas.get {} k
def State.setDelta (s : State) (k : Nat) (d : DeltaSt) : State := s.modHsb fun h => { h with deltas := h.deltas.set {} k d }
def State.modDelta (s : State) (k : Nat) (f : DeltaSt → DeltaSt) : State := s.setDelta k (f (s.delta k))

/-- Delta bytes pass the sync link: the count of the present millisecond (R477). -/
def countDelta (s : State) (n : Nat) : State :=
  let ms := s.now / 1000000
  s.modHsb fun h =>
    if h.loadMs = ms then { h with loadNow := h.loadNow + n }
    else { h with loadMs := ms, loadLast := if h.loadMs + 1 = ms then h.loadNow else 0, loadNow := n }

/-- Types of records. -/
def recInput : Nat := 0x10
def recGroups : Nat := 0x11
def recData : Nat := 0x12
def recLoops : Nat := 0x13
def recControl : Nat := 0x14
def recLedger : Nat := 0x15
def recEnd : Nat := 0x1F

/-- A record as the active module of a pair forms it: sent, counted, and its body kept for the digest. Of a cycle evaluated in
shadow the body is kept only (R446). -/
def deltaRecord (s : State) (typ k : Nat) (body : List Byte) : State :=
  let dig := typ == recGroups || typ == recData || typ == recLoops
  let n := 8 + body.length
  if s.role = roleActive ∧ !(s.task k).shadow then
    let s := s.modDelta k fun d => { d with
      body := if dig then d.body ++ body else d.body, records := d.records + 1, bytes := d.bytes + n }
    (countDelta s n).send (.delta typ { task := BitVec.ofNat 8 k, cycle := toWord (s.task k).cycles, body := body })
  else if s.paired && dig then s.modDelta k fun d => { d with body := d.body ++ body }
  else s

/-- A new cycle's delta begins: nothing sent, nothing in the digest. -/
def startDelta (s : State) (k : Nat) : State :=
  if s.paired then s.modDelta k fun d => { d with body := [], records := 0, bytes := 0 } else s

/-- An 8-byte entry of a record: group or address, and value. -/
def deltaEntry (g : Nat) (w : Word) : List Byte := toLE 4 g ++ toLE 4 w.toNat

/-- A record with entries; one that would have none is not sent (log 14). -/
def deltaEntries (s : State) (typ k : Nat) (es : List (Nat × Word)) : State :=
  if es.isEmpty then s else deltaRecord s typ k (es.flatMap fun e => deltaEntry e.1 e.2)

/-- The digest of a cycle as this module's records give it (R446). -/
def deltaDigest (s : State) (k : Nat) : List Byte := sha256 (s.delta k).body

/-- The END record of a cycle. -/
def sendEnd (s : State) (k : Nat) : State :=
  if s.role = roleActive ∧ !(s.task k).shadow then
    let d := s.delta k
    deltaRecord s recEnd k (deltaDigest s k ++ toLE 4 (d.records % 2 ^ 32) ++ toLE 4 (d.bytes % 2 ^ 32))
  else s

/-- Kinds of CONTROL items. The spec lists the items and not their form: a kind byte, then the item (log 14). -/
def itemForce : Nat := 1
def itemEdit : Nat := 2
def itemStaging : Nat := 3
def itemFault : Nat := 4
def itemStop : Nat := 5
def itemHandover : Nat := 6
def itemConfig : Nat := 7

/-- A CONTROL record with one item, sent by the active module of a pair. -/
def controlRecord (s : State) (k cycle kind : Nat) (item : List Byte) : State :=
  if s.role = roleActive then
    let body := toLE 1 kind ++ item
    (countDelta s (8 + body.length)).send (.delta recControl { task := BitVec.ofNat 8 k, cycle := toWord cycle, body := body })
  else s

/-- An item in the present cycle of the task concerned; `k` is 0xFF for none. -/
def controlItem (s : State) (k kind : Nat) (item : List Byte) : State := controlRecord s k (s.task k).cycles kind item

end Sys2Proof.Machine
end

