-- ==== Sys2Proof/Machine/Phider.lean ====
section
/-!
DEFINITION. Phider.lean: the rings (R277 to R325): the transaction table and the issue queues, probes and ring states,
enumeration, PTP, and frames that the module forwards. What a completed transaction does to a task is in Cycle.lean.
-/
namespace Sys2Proof.Machine

def State.modPhr (s : State) (f : PhrState → PhrState) : State := { s with phr := f s.phr }

def State.entry (s : State) (tag : Nat) : TxEntry := s.phr.entries.get {} tag
def State.setEntry (s : State) (tag : Nat) (e : TxEntry) : State :=
  s.modPhr fun p => { p with entries := p.entries.set {} tag e }
def State.queue (s : State) (r : Nat) : List Tx := s.phr.queues.get [] r
def State.setQueue (s : State) (r : Nat) (q : List Tx) : State :=
  s.modPhr fun p => { p with queues := p.queues.set [] r q }

/-- The configured number of stations of a ring. -/
def ringN (s : State) (r : Nat) : Nat := s.fld (PHR_RCTRL_NSTN r)

def stnKey (r n : Nat) : Nat := 256 * r + n
def Tx.key (t : Tx) : Nat := stnKey t.ring t.stn

/-! ### Frames (R282 to R286) -/

def ftSRD : Nat := 1
def ftSWR : Nat := 2
def ftSRW : Nat := 3
def ftNVW : Nat := 4
def ftDXF : Nat := 5
def ftENM : Nat := 8
def ftPRB : Nat := 9

def TxType.frame : TxType → Nat
  | .srd => 1 | .swr => 2 | .srw => 3 | .nvw => 4 | .dxf => 5 | .delta => 6 | .stop => 2

/-- The bytes of a frame on the wire, its pad and its FCS among them (R282). -/
def PFrame.bytes (f : PFrame) : List Byte :=
  let b := toBE 6 f.dest.toNat ++ toBE 6 f.src.toNat ++ toBE 2 f.etype.toNat
    ++ toLE 1 (f.version.toNat * 16 + b2n f.dirB * 8 + b2n f.loop * 4) ++ [f.typ, f.tag, f.gen] ++ toLE 4 f.epoch.toNat
    ++ [f.station, f.hops, f.status, f.flags] ++ toLE 8 f.time.toNat ++ toLE 2 f.data.length
    ++ toLE 1 f.ring.val ++ [f.loopStn] ++ f.data ++ List.replicate (22 - f.data.length) 0
  b ++ toLE 4 (crc32 b)

/-- The MAC address of Phider port p: the base address of the identity objects plus 1 + p (R282, 0x1000:09). -/
def portMac (s : State) (p : Nat) : BitVec 48 := BitVec.ofNat 48 (fromLE (factoryBytes s 0x1000 9 8) + 1 + p)

/-- A frame of a ring as the module sends it from a port, with nothing but what every frame has (R282). -/
def frameFrom (s : State) (r : Nat) (portB : Bool) (typ : Nat) : PFrame :=
  { src := portMac s (2 * r + b2n portB), etype := BitVec.ofNat 16 (s.fld PHR_ETYPE_ETYPE), dirB := portB,
    typ := BitVec.ofNat 8 typ, epoch := s.reg PHR_EPOCH, ring := Fin.ofNat 4 r }

/-- A transaction's frame, as its entry issues it from a port. -/
def txFrame (s : State) (tag : Nat) (e : TxEntry) (dirB : Bool) : PFrame :=
  let t := e.tx
  let flags := (if t.typ = .swr ∧ t.outen then 0x10 else 0) + (if t.typ = .stop then 0x08 else 0)
  { frameFrom s t.ring dirB t.typ.frame with
    tag := BitVec.ofNat 8 tag, gen := BitVec.ofNat 8 e.gen, station := BitVec.ofNat 8 t.stn,
    flags := BitVec.ofNat 8 flags, time := BitVec.ofNat 64 t.time, data := t.data }

/-- A link of a ring is up: at its last report, and not taken down by a freeze. -/
def ringLink (s : State) (r : Nat) (portB : Bool) : Bool :=
  (if portB then (s.ring r).linkB else (s.ring r).linkA) && !s.phr.linksDown

/-- A frame leaves both ports of a ring, as far as they are up (R278). -/
def sendBoth (s : State) (r : Nat) (f : Bool → PFrame) : State :=
  let s := if ringLink s r false then s.send (.ring r false (f false)) else s
  if ringLink s r true then s.send (.ring r true (f true)) else s

/-! ### The transaction table (R288 to R293) -/

/-- The module may issue transactions: it acts, it is not frozen, and after a freeze its links have come up (R439, R678). -/
def mayIssue (s : State) : Bool := s.acts && !s.boot.held && !s.frz.frozen && !s.frz.released

/-- A transaction joins its ring's issue queue. -/
def queueTx (s : State) (t : Tx) : State := s.setQueue t.ring (s.queue t.ring ++ [{ t with since := s.now }])

/-- Entries that acyclic transactions of a ring hold. -/
def acycInFlight (s : State) (r : Nat) : Nat :=
  (s.phr.entries.filter fun e => e.2.busy && e.2.tx.ring == r && !e.2.tx.typ.cyclic && e.2.tx.typ != .delta).length

/-- The lowest free entry from `lo` up to, and without, `hi`. -/
def freeEntryIn (s : State) (lo hi : Nat) : Option Nat :=
  (List.range (hi - lo)).map (· + lo) |>.find? fun t => !(s.entry t).busy

/-- The entry that a waiting transaction would take now; `none` while it must wait (R288, R289, R297, R448, R467). -/
def entryFor (s : State) (t : Tx) : Option Nat :=
  match t.typ with
  | .stop => freeEntryIn s 0 240
  | .srd => if ringInUse s t.ring < s.fld (PHR_RCTRL_QUOTA t.ring) then freeEntryIn s 0 240 else none
  | .swr => if ringInUse s t.ring < s.fld (PHR_RCTRL_QUOTA t.ring) then freeEntryIn s 0 240 else none
  | .delta => freeEntryIn s 252 256
  | _ =>
    let held := match s.hsb.switch with | some x => decide (x.th ≤ s.now) | none => false
    if acycInFlight s t.ring < 4 && decide (s.hsb.noAcyc ≤ s.now) && !held then
      freeEntryIn s 240 (if s.paired then 252 else 256)
    else none

/-- The order in which a ring's queue is served: stops in station order, cyclic transactions by task priority and station,
then the others in the order of their requests (R289, R297). -/
def txRank (s : State) (t : Tx) : Nat :=
  match t.typ with
  | .stop => t.stn
  | .srd => 1000 + s.fld (TSK_CTRL_PRIO t.task) * 256 + t.stn
  | .swr => 1000 + s.fld (TSK_CTRL_PRIO t.task) * 256 + t.stn
  | _ => 1000000

/-- The position of the transaction served next, and its entry. -/
def nextTx (s : State) (r : Nat) : Option (Nat × Nat) :=
  let q := s.queue r
  let c := (q.zip (List.range q.length)).filterMap fun e => (entryFor s e.1).map fun tag => (txRank s e.1, e.2, tag)
  (c.foldl (fun (b : Option (Nat × Nat × Nat)) e =>
    match b with
    | none => some e
    | some x => if e.1 < x.1 then some e else b) none).map fun e => (e.2.1, e.2.2)

/-- A transaction takes its entry with the next generation and leaves both ports. -/
def issueTx (s : State) (tag : Nat) (t : Tx) : State :=
  let old := s.entry tag
  let gen := (old.gen + 1) % 256
  let e : TxEntry := { busy := true, gen := gen, lastGen := old.lastGen, cancelled := old.cancelled.del gen, tx := t, issue := s.now }
  let s := s.setEntry tag e
  if t.typ = .delta then s else sendBoth s t.ring fun b => txFrame s tag e b

/-- The instant at which an entry expires (R292). A read that is still in flight keeps its task's release from coming before the
input deadline, so that its expiry is settled before the release. -/
def txExpiry (s : State) (e : TxEntry) : Option Nat :=
  let wr := e.issue + s.fld PHR_TMO_WRITE * 1000
  match e.tx.typ with
  | .srd =>
    let k := e.tx.task
    let c := s.task k
    let rel := if c.ts = e.tx.time ∧ c.released then c.relTime else e.tx.time + taskD s k
    some (Nat.min (rel + s.fld PHR_LATEWIN_US * 1000) (e.tx.time + taskP s k))
  | .swr => some (Nat.min wr e.tx.time)
  | .stop => some wr
  | .delta => none
  | _ => some (e.issue + s.fld PHR_TMO_ACYC * 1000000)

/-- A read is in flight whose task has not released its cycle yet: it does not expire before that (R292). -/
def awaitsRelease (s : State) (e : TxEntry) : Bool :=
  let c := s.task e.tx.task
  e.tx.typ == .srd && c.active && !c.released && c.ts == e.tx.time

/-- A completed entry is free again; copies with its generation that return later are second copies (R291). -/
def freeEntry (s : State) (tag : Nat) : State :=
  let e := s.entry tag
  s.setEntry tag { gen := e.gen, lastGen := some e.gen, cancelled := e.cancelled }

/-- An expired entry is free again; copies that return later are strays (R291, R292). -/
def expireEntry (s : State) (tag : Nat) : State :=
  let e := s.entry tag
  s.setEntry tag { gen := e.gen, lastGen := e.lastGen, cancelled := e.cancelled }

/-- A cancelled entry is free again; copies that return later are discarded without counting (R297, R460). -/
def cancelEntry (s : State) (tag : Nat) : State :=
  let e := s.entry tag
  s.setEntry tag { gen := e.gen, lastGen := e.lastGen, cancelled := e.cancelled.add e.gen }

/-- The station of a cyclic transaction counts as missing, or its outputs as failed, in the task's present cycle (R59). -/
def stnBad (s : State) (k key : Nat) : State := s.modTask k fun t => { t with bad := t.bad.add key, late := true }

/-- The station of a failed write: its status bit is set in the next cycle (R296). -/
def stnOutBad (s : State) (k key : Nat) : State := s.modTask k fun t => { t with bad := t.bad.add key }

/-- A failed, expired or withdrawn cyclic transaction. A read of a cycle that is over has been judged at that cycle's release. -/
def cyclicFailed (s : State) (t : Tx) : State :=
  match t.typ with
  | .srd => if (s.task t.task).ts = t.time then stnBad s t.task t.key else s
  | .swr => stnOutBad s t.task t.key
  | _ => s

/-- Waiting transactions that satisfy `p` are withdrawn: EV36, the ring's count, and what a failure does (R293). -/
def withdraw (s : State) (p : Tx → Bool) : State :=
  s.phr.queues.foldl (fun s q =>
    let out := q.2.filter p
    let s := s.setQueue q.1 (q.2.filter fun t => !p t)
    out.foldl (fun s t => cyclicFailed ((s.raise 36).count32 (PHR_RTMO q.1) 1) t) s) s

/-- Cyclic transactions are cancelled or discarded, without EV36 (R297, R460). -/
def cancelCyclic (s : State) (stops : Bool) : State :=
  let drop (t : Tx) : Bool := t.typ == .srd || t.typ == .swr || (stops && t.typ == .stop)
  let s := s.phr.entries.foldl (fun s e => if e.2.busy && drop e.2.tx then cancelEntry s e.1 else s) s
  s.phr.queues.foldl (fun s q => s.setQueue q.1 (q.2.filter fun t => !drop t)) s

/-- The rings that are enabled. -/
def enabledRings (s : State) : List Nat := (List.range 4).filter (ringEn s)

/-- A station's output area in bytes. -/
def outBytes (s : State) (key : Nat) : Nat := 4 * (stnObj s key 11 + stnObj s key 13)
def inBytes (s : State) (key : Nat) : Nat := 4 * (stnObj s key 7 + stnObj s key 9)

/-- A station's safe output values, in its output layout. -/
def safeBytes (s : State) (key : Nat) : List Byte := listFit 0 (outBytes s key) (s.objBytes (0x5400 + key) 16)

/-- The stops of a program stop: one for every station of every enabled ring (R297). -/
def queueStops (s : State) : State :=
  (enabledRings s).foldl (fun s r =>
    (List.range (ringN s r)).foldl (fun s i =>
      queueTx s { typ := .stop, ring := r, stn := i + 1, data := safeBytes s (stnKey r (i + 1)) }) s) s

/-- No stop transaction waits or is in flight. -/
def noStops (s : State) : Bool :=
  !(s.phr.entries.any fun e => e.2.busy && e.2.tx.typ == .stop) && !(s.phr.queues.any fun q => q.2.any fun t => t.typ == .stop)

/-- A station takes part in cyclic exchange: configured, identified, its ring enabled (R319, R322). -/
def stnUsable (s : State) (key : Nat) : Bool := (s.srec key).config && (s.srec key).usable && ringEn s (key / 256)

/-- TRANSACTION_ISSUE: the transaction served next leaves its ring's issue queue (R289). -/
def execTransactionIssue (ring : RingId) (s : State) : Host.Outcome State Fault Refusal :=
  if !mayIssue s || !ringEn s ring.val then .next s
  else
    match nextTx s ring.val with
    | none => .next s
    | some (i, tag) =>
      let q := s.queue ring.val
      .next (issueTx (s.setQueue ring.val (q.eraseIdx i)) tag (q.getD i {}))

/-! ### Probes and ring states (R280, R337) -/

/-- LOOPA, or LOOPB, as a probe's result gives it. -/
def loopField (n : Nat) (portB : Bool) : ProbeRes → Nat
  | .unlooped => if portB then 1 else n
  | .looped k => k
  | .noAddr => 0

/-- The state that the two results give, `none` for a combination that leaves it as it is. -/
def ringStateOf (x : RingSt) (a b : ProbeRes) : Option Nat :=
  if !x.linkA && !x.linkB then some 5
  else
    match a, b with
    | .unlooped, .unlooped => some 2
    | .looped i, .looped j => if j = i + 1 then some 3 else if j > i + 1 then some 4 else none
    | _, _ => none

/-- A ring enters a state: EV32 + r and a record (R280). -/
def setRingState (s : State) (r new : Nat) : State :=
  let old := (s.ring r).state
  if old = new then s
  else
    let s := s.modRing r fun x => { x with state := new }
    (s.raise (32 + r)).record 0x0200 1 3 (256 * r) [old, new, s.fld (PHR_RSTAT_LOOPA r), s.fld (PHR_RSTAT_LOOPB r)]

/-- An enumeration of a ring is requested; a probe made after that sets the ring's state first (R317). -/
def requestEnum (s : State) (r : Nat) : State :=
  if ringEn s r then s.modRing r fun x => { x with enumReq := true, probed := x.enumReq && x.probed } else s

/-- The enabled rings are those whose bits are given: a ring that is not enabled is DISABLED (R280). -/
def enableRings (s : State) (bits : Nat) : State :=
  (List.range 4).foldl (fun s r => if bit bits r then s else setRingState (s.modRing r fun x => { x with enumReq := false }) r 0)
    (s.setFld PHR_CTRL_RINGEN bits)

/-- Some ring is being enumerated. -/
def enumerating (s : State) : Bool := s.phr.rings.any fun e => e.2.state == 1

/-- An ENM frame (R317, R321, R322). -/
def enmFrame (s : State) (r : Nat) (portB : Bool) : PFrame :=
  { frameFrom s r portB ftENM with
    station := BitVec.ofNat 8 (if portB then ringN s r else 0), flags := if s.running then 0x04 else 0 }

/-- The data of an SRW (R286). -/
def srwData (addr rlen : Nat) (write : List Byte) : List Byte :=
  toLE 4 addr ++ toLE 2 write.length ++ toLE 2 rlen ++ write ++ List.replicate rlen 0

/-- The reading of a station's identity, registers 0x0000 to 0x000F, joins its ring's issue queue (R317). -/
def queueIdent (s : State) (r n : Nat) : State :=
  queueTx s { typ := .srw, ring := r, stn := n, data := srwData 0 16 [], aim := .ident }

/-- The requested enumeration of the lowest ring begins after a probe, unless one is in progress: ENM frames, then the reading of
every station (R317). -/
def startEnum (s : State) : State :=
  if enumerating s || !mayIssue s then s
  else
    match (enabledRings s).find? fun r => (s.ring r).enumReq with
    | none => s
    | some r =>
      if !(s.ring r).probed then s
      else
        let closed := (s.ring r).state == 2
        let s := s.modRing r fun x => { x with enumReq := false, probed := false, prev := x.state }
        let s := setRingState s r 1
        let s := if ringLink s r false then s.send (.ring r false (enmFrame s r false)) else s
        let s := if !closed && ringLink s r true then s.send (.ring r true (enmFrame s r true)) else s
        (List.range (ringN s r)).foldl (fun s i => queueIdent s r (i + 1)) s

/-- Both copies of a probe have come back or are lost: the ring's state follows, and while the program runs the ring is
enumerated again when it leaves SPLIT or DOWN or holds a station without an address (R280, R322). -/
def judgeProbe (s : State) (r : Nat) : State :=
  match (s.ring r).resA, (s.ring r).resB with
  | some a, some b =>
    let n := ringN s r
    let s := (s.setFld (PHR_RSTAT_LOOPA r) (loopField n false a)).setFld (PHR_RSTAT_LOOPB r) (loopField n true b)
    let x := s.ring r
    let was := if x.state = 1 then x.prev else x.state
    let st := (ringStateOf x a b).getD was
    let s := if x.state = 1 then s.modRing r fun y => { y with prev := st } else setRingState s r st
    let again := s.running && (((was == 4 || was == 5) && st != was) || a == .noAddr || b == .noAddr)
    let s := if again then requestEnum s r else s
    startEnum (s.modRing r fun y => { y with probed := y.enumReq })
  | _, _ => s

/-- The result of a copy sent from a port. -/
def probeResult (s : State) (r : Nat) (dirB : Bool) (res : ProbeRes) : State :=
  judgeProbe (s.modRing r fun x => if dirB then { x with resB := some res } else { x with resA := some res }) r

/-- What a copy counts as that left no port or did not return. -/
def probeLost (s : State) (r : Nat) (dirB : Bool) : ProbeRes := .looped (if dirB then ringN s r + 1 else 0)

/-- PROBE_SEND: every 1 ms a probe leaves both ports of every enabled ring (R280). The levels of the eight links are those
of ports A and B of ring 0, then of ring 1, and so on. -/
def execProbeSend (links : BitVec 8) (s : State) : Host.Outcome State Fault Refusal :=
  let s := (List.range 4).foldl (fun s r => s.modRing r fun x => { x with
    linkA := links.getLsbD (2 * r), linkB := links.getLsbD (2 * r + 1) }) s
  if !mayIssue s then .next s
  else .next ((enabledRings s).foldl (fun s r =>
    let s := s.modRing r fun x => { x with resA := none, resB := none }
    let s := sendBoth s r fun b => frameFrom s r b ftPRB
    let s := if ringLink s r false then s else probeResult s r false (probeLost s r false)
    if ringLink s r true then s else probeResult s r true (probeLost s r true)) s)

/-- A frame with a bad FCS is counted for its port (R291, R339). -/
def badFcs (s : State) (r : Nat) (portB : Bool) : State :=
  s.count32 (if portB then PHR_RFCSB r else PHR_RFCSA r) 1

/-- PROBE_COPY_RETURN: a probe copy comes back at a port (R280). -/
def execProbeCopyReturn (ring : RingId) (port : Bool) (fcsOk : Bool) (frame : PFrame) (s : State) :
    Host.Outcome State Fault Refusal :=
  let r := ring.val
  if !fcsOk then .next (badFcs s r port)
  else if !ringEn s r || frame.typ != BitVec.ofNat 8 ftPRB || !mayIssue s then .next s
  else if frame.loop then
    (if port = frame.dirB then
      .next (probeResult s r frame.dirB (if frame.loopStn = 0#8 then .noAddr else .looped frame.loopStn.toNat))
     else .next s)
  else if port = frame.dirB then .next s
  else .next (probeResult s r frame.dirB .unlooped)

/-- PROBE_COPY_TIMEOUT: a copy has not returned within 1 ms (R280). -/
def execProbeCopyTimeout (ring : RingId) (dirB : Bool) (s : State) : Host.Outcome State Fault Refusal :=
  let r := ring.val
  let waiting := if dirB then (s.ring r).resB.isNone else (s.ring r).resA.isNone
  if ringEn s r && waiting && mayIssue s then .next (probeResult s r dirB (probeLost s r dirB)) else .next s

/-! ### Enumeration (R317 to R322) -/

/-- ENM_COPY_RETURN: an ENM copy that returns unlooped with HOPS other than N is recorded (R319). -/
def execEnmCopyReturn (ring : RingId) (frame : PFrame) (s : State) : Host.Outcome State Fault Refusal :=
  let n := ringN s ring.val
  if ringEn s ring.val && mayIssue s && frame.typ == BitVec.ofNat 8 ftENM && !frame.loop && frame.hops.toNat != n then
    .next (s.record 0x0201 2 3 (256 * ring.val) [0, 0, frame.hops.toNat, n])
  else .next s

/-- A configured station has reported that it is not configured: it is lost and its ring is enumerated again (R322). -/
def stationLost (s : State) (key : Nat) : State :=
  if (s.srec key).config && s.running then
    let s := (s.modSrec key fun x => { x with config := false, usable := false, state := 2 }).raise (32 + key / 256)
    startEnum (requestEnum s (key / 256))
  else s

/-! ### Frames of others (R432) -/

/-- A PTP message that has spent a residence time here: an event message's correction field, in units of 2⁻¹⁶ ns, has grown by it
(R432, log 89). -/
def addResidence (bs : List Byte) (ns : Nat) : List Byte :=
  if bs.length < 16 ∨ 4 ≤ (bs.headD 0).toNat % 16 then bs
  else bs.take 8 ++ toBE 8 (fromBE (slice bs 8 8) + 65536 * ns) ++ bs.drop 16

/-- RING_FRAME_FORWARD: a frame that another module sent goes out of the ring's other port; for PTP the module is an end-to-end
transparent clock (R432). -/
def execRingFrameForward (ring : RingId) (port : Bool) (fcsOk : Bool) (frame : RingFrame) (s : State) :
    Host.Outcome State Fault Refusal :=
  let r := ring.val
  if !fcsOk then .next (badFcs s r port)
  else if s.phr.linksDown || s.boot.held then .next s
  else
    let s := s.modHsb fun h => { h with ports := h.ports.set 0 (2 * r + b2n port) (s.now + 1) }
    let out := if port then (s.ring r).linkA else (s.ring r).linkB
    if !out then .next s
    else
      match frame with
      | .phider f => .next (s.send (.ring r (!port) f))
      | .ptp bs ns => .next (s.send (.ringPtp r (!port) (addResidence bs ns)))

/-! ### PTP (R298 to R301) -/

def ptpGrandmaster (s : State) : Bool := s.fld PHR_PTPCTRL_MODE == 0

/-- The PTP state changes: EV37 (R300). -/
def setPtp (s : State) (st : Nat) : State :=
  if s.fld PHR_PTPSTAT_STATE = st then s else (s.setFld PHR_PTPSTAT_STATE st).raise 37

/-- The offset from the plant grandmaster as the registers show it. -/
def showOffset (s : State) (d : Int) : State :=
  let n := (BitVec.ofInt 64 d).toNat
  (s.setReg PHR_PTPOFFL (toWord n)).setReg PHR_PTPOFFH (toWord (n / 2 ^ 32))

/-- No plant grandmaster is followed: offset 0, the timebase at its own rate. -/
def ptpFree (s : State) : State :=
  ((showOffset s 0).setFlag PHR_PTPSTAT_SLEW false).modPhr fun p => { p with gm := none, ptpRate := 0 }

/-- PTP takes the role that MODE gives: grandmaster of the rings, or listening for a plant grandmaster until one is followed
(R299, R335). -/
def ptpSettle (s : State) : State :=
  let st := s.fld PHR_PTPSTAT_STATE
  if ptpGrandmaster s then setPtp (ptpFree s) 5 else if 1 ≤ st ∧ st ≤ 4 then s else setPtp s 1

/-- PHR_PTPCTRL has taken new values: a change of the domain ends the following of the old one's grandmaster. -/
def ptpChanged (s : State) (oldDomain : Nat) : State :=
  if !s.acts || s.boot.stage != .firmware then s
  else
    let moved := s.fld PHR_PTPCTRL_DOMAIN ≠ oldDomain
    ptpSettle (if moved ∧ !ptpGrandmaster s then setPtp (s.modPhr fun p => { p with gm := none }) 1 else s)

/-- The timebase makes a step by an offset: neither the second of the operating count nor that of the RTC moves with it (R648,
R763). -/
def stepTime (s : State) (d : Int) : State :=
  let now := (s.now - d).toNat
  let e : Int := Int.ofNat s.now - Int.ofNat now
  { s with now := now, boot := { s.boot with opLast := s.boot.opLast - e }
           rtc := { s.rtc with bound := s.rtc.bound - e } }

/-- A corrected offset from the plant grandmaster: while STOPPED an offset above 10 µs is removed by one step; otherwise
the rate follows, by at most 100 ppm. How the rate follows the offset is open: a free correction within the limit (log 1).
The timebase's present instant stays in every other case (R300). -/
def ptpCorrect (s : State) (d : Int) : State :=
  let s := showOffset s d
  if s.stopped && decide (d.natAbs > 10000) then (stepTime s d).setFlag PHR_PTPSTAT_SLEW false
  else
    let w := s.drawWord
    let rate := clampInt (-100000) 100000 (signed 32 w.1.toNat)
    let s := w.2.modPhr fun p => { p with ptpRate := rate }
    s.setFlag PHR_PTPSTAT_SLEW (rate == 100000 || rate == -100000)

/-- The order of the best master clock algorithm: smaller is better (R299, log 90). -/
def clockRank (c : PtpClock) : List Nat :=
  [c.prio1.toNat, c.clockClass.toNat, c.accuracy.toNat, c.variance.toNat, c.prio2.toNat, c.ident.toNat]

/-- The first of two ranks is better. -/
def rankLess : List Nat → List Nat → Bool
  | a :: as, b :: bs => decide (a < b) || (a == b && rankLess as bs)
  | _, _ => false

/-- A PTP message leaves a port, with what every message of the module carries (R298). -/
def ptpFrom (s : State) (port kind : Nat) (interval : Int) : PtpOut :=
  { port := port, kind := kind, domain := s.fld PHR_PTPCTRL_DOMAIN, interval := interval, time := s.now }

/-- An Announce of the plant grandmaster's domain: the clock is followed when none is, or when it is better than the one that is
(R299). -/
def ptpAnnounce (s : State) (c : PtpClock) : State :=
  match s.phr.gm with
  | none => setPtp (s.modPhr fun p => { p with gm := some c, lastAnn := s.now }) 2
  | some g =>
    if c.ident = g.ident then s.modPhr fun p => { p with gm := some c, lastAnn := s.now }
    else if rankLess (clockRank c) (clockRank g) then setPtp (s.modPhr fun p => { p with gm := some c, lastAnn := s.now }) 2
    else s

/-- A Delay_Req goes out of the management port, no more often than every 62.5 ms (R298). -/
def sendDelayReq (s : State) : State :=
  if (match s.phr.delayAt with | some t => decide (s.now < t + 62500000) | none => false) then s
  else (s.modPhr fun p => { p with delayAt := some s.now }).send (.ptp (ptpFrom s 8 1 (-4)))

/-- The clock that a message comes from is the plant grandmaster that is followed. -/
def fromGm (s : State) (src : DWord) : Bool := match s.phr.gm with | some g => g.ident == src | none => false

/-- A PTP message on the management port of a module in boundary-clock mode (R298 to R300). -/
def ptpPlant (s : State) (msg : PtpMsg) : State :=
  let dom := s.fld PHR_PTPCTRL_DOMAIN
  match msg with
  | .announce d c => if d.toNat = dom then ptpAnnounce s c else s
  | .sync d _ twoStep => if d.toNat ≠ dom ∨ twoStep then s else s.modPhr fun p => { p with oneStep := p.oneStep + 1 }
  | .followUp d src off => if d.toNat = dom ∧ fromGm s src then sendDelayReq (setPtp (ptpCorrect s off) 3) else s
  | .delayReq _ _ _ _ => s

/-- PTP_MESSAGE: a message on the management port, which is disabled for PTP in grandmaster mode; or a station's Delay_Req at a ring
port, a master port, which is answered (R298 to R300). A standby follows its partner instead (R449). -/
def execPtpMessage (msg : PtpMsg) (s : State) : Host.Outcome State Fault Refusal :=
  if !mayIssue s then .next s
  else
    match msg with
    | .delayReq r portB d src =>
      let port := 2 * r.val + b2n portB
      if d.toNat = s.fld PHR_PTPCTRL_DOMAIN ∧ ringEn s r.val ∧ ringLink s r.val portB then
        .next (s.send (.ptp { ptpFrom s port 9 (-4) with client := src }))
      else .next s
    | m => if ptpGrandmaster s then .next s else .next (ptpPlant s m)

/-- ANNOUNCE_RECEIPT_TIMEOUT: no Announce of the plant grandmaster for three intervals: HOLDOVER, at the last corrected rate (R298,
R300). -/
def execAnnounceReceiptTimeout (s : State) : Host.Outcome State Fault Refusal :=
  let st := s.fld PHR_PTPSTAT_STATE
  if ptpGrandmaster s || !mayIssue s then .next s
  else if st = 2 ∨ st = 3 then .next (setPtp ((s.at (s.phr.lastAnn + 3000000000)).modPhr fun p => { p with gm := none }) 4)
  else .next s

/-- A ring's sync interval is the fast one for 200 ms after its enumeration (R298). -/
def fastSync (s : State) (r : Nat) : Bool :=
  match (s.ring r).enumAt with | some t => decide (s.now < t + 200000000) | none => false

/-- The instant of a ring's next Sync: now for the first. -/
def syncDue (s : State) (r : Nat) : Nat :=
  match (s.ring r).syncAt with
  | none => s.now
  | some t => t + (if fastSync s r then 7812500 else 62500000)

/-- A PTP message leaves both ports of a ring, as far as they are up. -/
def ptpBoth (s : State) (r : Nat) (m : Nat → PtpOut) : State :=
  [false, true].foldl (fun s b => if ringLink s r b then s.send (.ptp (m (2 * r + b2n b))) else s) s

/-- A two-step Sync and its Follow_Up leave both ports of a ring (R298). -/
def syncRing (s : State) (r : Nat) : State :=
  let i : Int := if fastSync s r then -7 else -4
  let s := ptpBoth s r fun p => { ptpFrom s p 0 i with twoStep := true }
  let s := ptpBoth s r fun p => ptpFrom s p 8 i
  s.modRing r fun x => { x with syncAt := some s.now }

/-- What a Sync does to a station (R302): it takes time from port A, from port B after three intervals without a copy from port A,
from port A again after three consecutive ones. It sets SYNC while its offset is within ±1 µs, which from 150 ms after its first
Sync on is so whenever it takes one. -/
def Station.meet (x : Station) (now : Nat) (m : SyncMeet) : Station :=
  let runA := if m.portA then Nat.min 3 (x.runA + 1) else 0
  let missA := if m.portA then 0 else Nat.min 3 (x.missA + 1)
  let fromB := if x.fromB then decide (runA < 3) else decide (3 ≤ missA)
  let took := if fromB then m.portB else m.portA
  let first := if took then some (x.firstSync.getD now) else x.firstSync
  let settled := match first with | some t => took && decide (t + 150000000 ≤ now) | none => false
  { x with fromB := fromB, runA := runA, missA := missA, firstSync := first, sync := settled || (m.within && first.isSome) }

/-- A station of a ring meets a Sync. Which copies reach it, and how far its clock then is from the module's, is open: free bits
(log 1). -/
def stationMeets (s : State) (key : Nat) : State :=
  let x := s.stations.get {} key
  if !x.present then s
  else
    let a := s.drawBit
    let b := a.2.drawBit
    let w := b.2.drawBit
    { w.2 with stations := s.stations.set {} key (x.meet s.now ⟨a.1, b.1, w.1⟩) }

/-- The stations of the given rings. -/
def stationsOn (s : State) (rings : List Nat) : List Nat := (dedup (s.stations.map (·.1))).filter fun key => rings.contains (key / 256)

/-- PTP_SYNC_SEND: at each sync interval of a ring a two-step Sync and its Follow_Up leave its ports (R298), and its stations follow
them (R302). -/
def execPtpSyncSend (s : State) : Host.Outcome State Fault Refusal :=
  if !mayIssue s then .next s
  else
    let s := ptpSettle s
    match least ((enabledRings s).map (syncDue s)) with
    | none => .next s
    | some t =>
      let due := (enabledRings s).filter fun r => decide (syncDue s r ≤ Nat.max s.now t)
      let s := s.at t
      let s := due.foldl syncRing s
      .next ((stationsOn s due).foldl stationMeets s)

/-- ANNOUNCE_SEND: every 1 s the module announces itself on its rings (R298). -/
def execAnnounceSend (s : State) : Host.Outcome State Fault Refusal :=
  if !mayIssue s then .next s
  else .next ((enabledRings s).foldl (fun s r => ptpBoth s r fun p => { ptpFrom s p 11 0 with
    prio1 := s.fld PHR_PTPCTRL_PRIO1, prio2 := s.fld PHR_PTPCTRL_PRIO2 }) s)

/-! ### Registers -/

/-- Values that wait for the next start give way to those that a core writes (R341, R342). -/
def dropAtStart (s : State) (keys : List Nat) : State :=
  s.modPhr fun p => { p with atStart := keys.foldl (fun t k => t.set none k none) p.atStart }

/-- The keys of 0x501r:01, of ring 0 first. -/
def ringEnKeys : List Nat := (List.range 4).map fun r => objKey (0x5010 + r) 1

/-- The keys of 0x5001:01 to :04. -/
def ptpKeys : List Nat := (List.range 4).map fun i => objKey 0x5001 (i + 1)

/-- A register field takes the value that waits for it. -/
def putAtStart (s : State) (key : Nat) (f : Fld) : State :=
  match s.phr.atStart.get none key with | some v => s.setFld f v | none => s

/-- At a start the values that wait for it take effect (R341, R342). -/
def takeAtStart (s : State) : State :=
  if s.phr.atStart.isEmpty then s
  else
    let old := s.fld PHR_PTPCTRL_DOMAIN
    let t := (ptpKeys.zip [PHR_PTPCTRL_MODE, PHR_PTPCTRL_DOMAIN, PHR_PTPCTRL_PRIO1, PHR_PTPCTRL_PRIO2]).foldl
      (fun s e => putAtStart s e.1 e.2) s
    let n := (List.range 4).foldl (fun n r =>
      match s.phr.atStart.get none (objKey (0x5010 + r) 1) with | some v => putBits n r r v | none => n) (s.fld PHR_CTRL_RINGEN)
    (ptpChanged (enableRings t n) old).modPhr fun p => { p with atStart := [] }

/-- A write to PHR_EPOCH; one below the current value is ignored (R311). -/
def epochWrite (s : State) (w : Word) : State :=
  if w.toNat < (s.reg PHR_EPOCH).toNat then s.setFlag PHR_STAT_EPOCHLOW true else s.setReg PHR_EPOCH w

/-- An entry of the transaction table in the layout of PHR_TXD0 to PHR_TXD3 (R333). -/
def txView (s : State) (tag : Nat) : List Word :=
  let e := s.entry tag
  let t := e.tx
  let typ := match t.typ with
    | .srd => 1 | .swr => 2 | .srw => 3 | .nvw => 4 | .dxf => 5 | .delta => 6 | .stop => 7
  let st := if !e.busy then 0 else if t.typ = .srd ∧ !awaitsRelease s e then 2 else 1
  let d0 := if e.busy then
      st * 2 ^ 30 + typ * 2 ^ 26 + t.ring * 2 ^ 24 + t.stn * 65536 + e.gen * 256 + e.unans * 64
        + (if t.typ = .srd ∨ t.typ = .swr then t.task else 31)
    else e.gen * 256
  let x := if e.busy then (txExpiry s e).getD 0 else 0
  [toWord d0, toWord x, toWord (x / 2 ^ 32), toWord (if e.busy then t.data.length * 65536 else 0)]

/-- A write to PHR_TXSEL takes a snapshot of the entry (R333). -/
def txselWrite (s : State) (w : Word) : State :=
  let tag := wbits w 7 0
  let v := txView s tag
  let s := (s.setReg PHR_TXSEL (toWord tag)).setReg PHR_TXD0 (v.getD 0 0)
  ((s.setReg PHR_TXD1 (v.getD 1 0)).setReg PHR_TXD2 (v.getD 2 0)).setReg PHR_TXD3 (v.getD 3 0)

end Sys2Proof.Machine
end

