-- ==== Sys2Proof/Machine/Stations.lean ====
section
/-!
DEFINITION. Stations.lean: the stations that the module's rings meet, by the duties that the spec lays on them (R287, R302 to
R322): latching, answering frames, striking, holding, addresses and epochs.
-/
namespace Sys2Proof.Machine

def State.stn (s : State) (key : Nat) : Station := s.stations.get {} key
def State.setStn (s : State) (key : Nat) (x : Station) : State := { s with stations := s.stations.set {} key x }

/-- The station's safe values: those written to it when it is configured, else its power-up safe state (R308, R309). -/
def Station.safeNow (x : Station) : List Byte := if x.config then x.safeVals else x.powerSafe

/-- The station applies safe values and sets SAFE. -/
def Station.goSafe (x : Station) (v : List Byte) : Station := { x with outputs := v, safe := true, pend := none }

/-- The station's FLAGS in an answer. -/
def stnFlags (x : Station) (f : PFrame) : Byte :=
  BitVec.ofNat 8 (128 + b2n x.sync * 64 + b2n x.safe * 32 + f.flags.toNat % 32)

/-- The frame with the station's answer. -/
def stnReply (x : Station) (f : PFrame) (st : Nat) (data : List Byte) : PFrame :=
  { f with status := BitVec.ofNat 8 st, flags := stnFlags x f, data := data }

/-- The station sends a frame on: out of its other port, `n` higher in HOPS where LOOP is 0; where its onward link is down, back out
of the port it arrived on, with LOOP set and its own number, 0 without address (R279, R282). -/
def Station.sendOn (x : Station) (onward badFcs : Bool) (n : Nat) (f : PFrame) : Station :=
  let out : StnOut :=
    if onward then { frame := if f.loop then f else { f with hops := f.hops + BitVec.ofNat 8 n }, badFcs := badFcs }
    else { frame := { f with loop := true, loopStn := BitVec.ofNat 8 x.addr }, back := true, badFcs := badFcs }
  { x with reply := some out }

/-! ### The register space (R287) -/

/-- What a register of the station reads as: its word, `none` where no readable register of R287 lies. The largest lengths are
the station's own (log 81). -/
def stnWord (x : Station) (a : Nat) : Option Word :=
  let lo (n : Nat) := some (toWord n)
  if a = 0x00 then some x.ident.vendorProduct
  else if a = 0x04 then lo x.ident.revisions.toNat
  else if a = 0x08 then lo x.ident.serial.toNat
  else if a = 0x0C then lo (x.ident.serial.toNat / 2 ^ 32)
  else if a = 0x10 then
    let m := Config.stationLengths x.ident.vendorProduct x.ident.serial.toNat
    lo (Nat.min 1472 m.1 * 65536 + Nat.min 1472 m.2)
  else if a = 0x20 then lo x.period
  else if a = 0x24 then lo (x.period / 2 ^ 32)
  else if a = 0x28 then lo x.phase
  else if a = 0x2C then lo (x.phase / 2 ^ 32)
  else if a = 0x30 then lo x.holdUs
  else if a = 0x34 then lo (x.outLen * 65536 + x.inLen)
  else if a = 0x38 then some x.epoch
  else if a = 0x3C then lo (b2n x.sync * 8 + b2n x.safe * 4 + b2n x.config * 2 + b2n (x.addr != 0))
  else if 0x1000 ≤ a ∧ a < 0x15C0 then lo (fromLE (slice (listFit 0 1472 x.safeVals) (a - 0x1000) 4))
  else none

/-- A word written to a register of the station; `none` where it takes no write. -/
def stnWriteWord (x : Station) (a : Nat) (w : Word) : Option Station :=
  let n := w.toNat
  if a = 0x20 then some { x with period := x.period / 2 ^ 32 * 2 ^ 32 + n }
  else if a = 0x24 then some { x with period := n * 2 ^ 32 + x.period % 2 ^ 32 }
  else if a = 0x28 then some { x with phase := x.phase / 2 ^ 32 * 2 ^ 32 + n }
  else if a = 0x2C then some { x with phase := n * 2 ^ 32 + x.phase % 2 ^ 32 }
  else if a = 0x30 then some { x with holdUs := n }
  else if a = 0x34 then some { x with outLen := n / 65536, inLen := n % 65536, config := true }
  else if a = 0x40 then
    (if n = 1 then some ({ x with config := false, latch := none }.goSafe x.safeNow) else some x)
  else if 0x1000 ≤ a ∧ a < 0x15C0 then
    let v := listFit 0 1472 x.safeVals
    some { x with safeVals := v.take (a - 0x1000) ++ toLE 4 n ++ v.drop (a - 0x1000 + 4) }
  else none

/-- Words written in order; `none` when one of them takes no write. -/
def stnWriteWords (x : Station) (a : Nat) (bs : List Byte) : Nat → Option Station
  | 0 => some x
  | n + 1 =>
    match stnWriteWord x a (toWord (fromLE (bs.take 4))) with
    | none => none
    | some y => stnWriteWords y (a + 4) (bs.drop 4) n

/-- An SRW: write, then read (R286, R287). Addresses from 0x2000 on belong to the station's maker: their outcome and data
are open (log 1). -/
def stnSrw (s : State) (x : Station) (data : List Byte) : Station × Nat × List Byte × State :=
  let a := fromLE (slice data 0 4)
  let wl := fromLE (slice data 4 2)
  let rl := fromLE (slice data 6 2)
  let head := data.take (8 + wl)
  if a % 4 ≠ 0 ∨ wl % 4 ≠ 0 ∨ rl % 4 ≠ 0 then (x, 9, data, s)
  else if 0x2000 ≤ a then
    let d := s.drawBit
    if d.1 then (x, 9, data, d.2)
    else
      let r := (List.range (rl / 4)).foldl (fun (r : List Byte × State) _ =>
        let w := r.2.drawWord
        (r.1 ++ toLE 4 w.1.toNat, w.2)) ([], d.2)
      (x, 1, head ++ r.1, r.2)
  else
    match stnWriteWords x a (slice data 8 wl) (wl / 4) with
    | none => (x, 9, data, s)
    | some y =>
      let ws := (List.range (rl / 4)).map fun i => stnWord y (a + 4 * i)
      if ws.any (·.isNone) then (x, 9, data, s)
      else (y, 1, head ++ ws.flatMap fun w => toLE 4 (w.getD 0).toNat, s)

/-- A station acts on a frame addressed to it (R303, R304, R306, R307, R309, R312): its state, the status, the data it sends
on. The second copy of a transaction finds the first one's effect. An unconfigured station serves SRW alone, by which it is
identified and configured (R317, R319, log 91). Whether an earlier NV write still runs is open, and whether the station has a
non-volatile store and a dictionary (log 81). -/
def stnAct (s : State) (x : Station) (f : PFrame) (answer : List Byte) : Station × Nat × List Byte × State :=
  let t := f.time.toNat
  let stop := wbit (f.flags.setWidth 32) 3
  let copy := (f.tag.toNat, f.gen.toNat, t)
  match f.typ.toNat with
  | 1 =>
    if !x.sync then (x, 5, f.data, s)
    else if !x.config then (x, 8, f.data, s)
    else if f.data.length ≠ x.inLen then (x, 6, f.data, s)
    else
      match x.latch with
      | some (lt, v) => if lt = t then (x, 1, listFit 0 x.inLen v, s) else (x, 3, f.data, s)
      | none => (x, 3, f.data, s)
  | 2 =>
    if (if stop then x.lastStop else x.lastSwr) = some copy then (x, 1, f.data, s)
    else if stop then
      let v := if x.config ∧ f.data.length = x.outLen then f.data else x.safeNow
      let y := { (x.goSafe v) with lastStop := some copy }
      (if x.config ∧ f.data.length = x.outLen then { y with safeVals := v } else y, 1, f.data, s)
    else if !x.sync then (x, 5, f.data, s)
    else if !x.config then (x, 8, f.data, s)
    else if f.data.length ≠ x.outLen then (x, 6, f.data, s)
    else if t < s.now then (x, 4, f.data, s)
    else ({ x with pend := some (t, wbit (f.flags.setWidth 32) 4, f.data), lastSwr := some copy }, 1, f.data, s)
  | 3 => stnSrw s x f.data
  | 4 =>
    if !x.config then (x, 8, f.data, s)
    else if !Config.stationServes x.ident.vendorProduct x.ident.serial.toNat 4 then (x, 10, f.data, s)
    else if x.lastNv = some (f.tag.toNat, f.gen.toNat) then (x, 1, f.data, s)
    else
      let a := fromLE (slice f.data 0 4)
      let d := if x.lastNv.isSome then s.drawBit else (false, s)
      if d.1 then (x, 7, f.data, d.2)
      else
        ({ x with nvStore := x.nvStore.setMany 0 a (f.data.drop 4), lastNv := some (f.tag.toNat, f.gen.toNat) }, 1, f.data, d.2)
  | 5 =>
    if !x.config then (x, 8, f.data, s)
    else if !Config.stationServes x.ident.vendorProduct x.ident.serial.toNat 5 then (x, 10, f.data, s)
    else
    (match x.lastDxf with
     | some (tag, gen, a) =>
       if tag = f.tag.toNat ∧ gen = f.gen.toNat then (x, 1, a, s)
       else ({ x with lastDxf := some (f.tag.toNat, f.gen.toNat, answer) }, 1, answer, s)
     | none => ({ x with lastDxf := some (f.tag.toNat, f.gen.toNat, answer) }, 1, answer, s))
  | _ => (x, 0, f.data, s)

/-- STATION_LATCH: at its grid instant a synchronised station latches its inputs (R303). -/
def execStationLatch (ring : RingId) (stn : Byte) (inputs : List Byte) (s : State) : Host.Outcome State Fault Refusal :=
  let key := stnKey ring.val stn.toNat
  let x := s.stn key
  if !x.present || !x.sync || !x.config || x.period == 0 then .next s
  else
    let t := s.now + (x.phase + x.period - s.now % x.period) % x.period
    .next ((s.at t).setStn key { x with latch := some (t, inputs) })

/-- An ENM frame reaches a station: HOPS rises first; a station without address takes the one that R318 gives it; one that holds
another address while the program runs gives its own up before (R318, R322). -/
def stnEnm (x : Station) (onward : Bool) (frame : PFrame) : Station :=
  if frame.loop then x.sendOn onward false 0 frame
  else
    let hops := (frame.hops.toNat + 1) % 256
    let addr := if frame.dirB then (frame.station.toNat + 1 + 256 - hops) % 256 else hops
    let run := wbit (frame.flags.setWidth 32) 2
    let x := if run ∧ x.addr ≠ 0 ∧ x.addr ≠ addr then
        { (x.goSafe x.safeNow) with addr := 0, config := false } else x
    let x := if x.addr = 0 then { x with addr := addr } else x
    x.sendOn onward false 0 { frame with hops := BitVec.ofNat 8 hops }

/-- A frame is addressed to a station: it carries the station's address, not yet looped, in a type that has a target (R283, R306). -/
def Station.addressed (x : Station) (f : PFrame) : Bool :=
  !f.loop && x.addr != 0 && x.addr == f.station.toNat && decide (1 ≤ f.typ.toNat) && decide (f.typ.toNat ≤ 5)

/-- STATION_FRAME: a frame reaches the station at a place of a ring, whose onward link is up or down. A frame with a bad FCS is sent
on with a wrong one; the station acts on a good one that is addressed to it, with its epoch checked, and sends every frame on, one of
a TYPE that it does not know unchanged (R279, R282, R283, R306, R312). `answer` is the Jurno answer of the station's own
dictionary. -/
def execStationFrame (ring : RingId) (arrival : Arrival) (frame : PFrame) (answer : List Byte) (s : State) :
    Host.Outcome State Fault Refusal :=
  let key := stnKey ring.val arrival.pos.toNat
  let onward := arrival.onward
  let x := s.stn key
  let typ := frame.typ.toNat
  let known := decide (1 ≤ typ) && decide (typ ≤ 5) || typ == 8 || typ == 9
  if !x.present then .next s
  else if !arrival.fcsOk then .next (s.setStn key (x.sendOn onward true (b2n known) frame))
  else if typ = 8 then .next (s.setStn key (stnEnm x onward frame))
  else if !x.addressed frame then .next (s.setStn key (x.sendOn onward false (b2n known) frame))
  else if frame.epoch.toNat < x.epoch.toNat then
    .next (s.setStn key (x.sendOn onward false 1 { (stnReply x frame 2 frame.data) with epoch := x.epoch }))
  else
    let x := if x.epoch.toNat < frame.epoch.toNat then { x with epoch := frame.epoch, pend := none } else x
    let r := stnAct s x frame answer
    .next (r.2.2.2.setStn key (r.1.sendOn onward false 1 (stnReply r.1 frame r.2.1 r.2.2.1)))

/-- STATION_ENM: an ENM frame reaches the station at a position; one with a bad FCS goes on with a wrong one (R282, R318, R322). -/
def execStationEnm (ring : RingId) (arrival : Arrival) (frame : PFrame) (s : State) : Host.Outcome State Fault Refusal :=
  let key := stnKey ring.val arrival.pos.toNat
  let x := s.stn key
  if !x.present || frame.typ != BitVec.ofNat 8 ftENM then .next s
  else if !arrival.fcsOk then .next (s.setStn key (x.sendOn arrival.onward true 1 frame))
  else .next (s.setStn key (stnEnm x arrival.onward frame))

/-- STATION_STRIKE: at TIME the station applies its pending set, or its safe values with OUTEN = 0, and restarts its hold
timer (R304, R309). -/
def execStationStrike (ring : RingId) (stn : Byte) (s : State) : Host.Outcome State Fault Refusal :=
  let key := stnKey ring.val stn.toNat
  let x := s.stn key
  match x.pend with
  | none => .next s
  | some (t, outen, v) =>
    let s := s.at t
    let y := if outen then { x with outputs := v, safe := false, pend := none } else x.goSafe x.safeNow
    .next (s.setStn key { y with lastStrike := t })

/-- HOLD_TIME_EXPIRY: the hold time has passed since the last strike: the station applies its safe values (R309). -/
def execHoldTimeExpiry (ring : RingId) (stn : Byte) (s : State) : Host.Outcome State Fault Refusal :=
  let key := stnKey ring.val stn.toNat
  let x := s.stn key
  if !x.present || x.safe then .next s
  else .next ((s.at (x.lastStrike + x.holdUs * 1000)).setStn key { (x.goSafe x.safeNow) with pend := x.pend })

/-- STATION_POWER_UP: a station powers up with no address, no configuration and epoch 0, its outputs safe (R308, R314). -/
def execStationPowerUp (ring : RingId) (pos : Byte) (ident : StnIdent) (powerSafe : List Byte) (s : State) :
    Host.Outcome State Fault Refusal :=
  let key := stnKey ring.val pos.toNat
  .next (s.setStn key {
    present := true, ident := ident, powerSafe := powerSafe, outputs := powerSafe, nvStore := (s.stn key).nvStore })

end Sys2Proof.Machine
end

