-- ==== Sys2Proof/Machine/Field.lean ====
section
/-!
DEFINITION. Field.lean: the field side (R526 to R560): commands and updates, states and the safe pattern, digital channels,
encoders, analogue channels, trims, and the owners of shared resources.
-/
namespace Sys2Proof.Machine

/-- The outputs hold the standby pattern: every output off (R435, R530, R531). -/
def allOff (f : FieldState) : Bool :=
  f.state == fsInit || f.state == fsStandby || (f.state == fsSilent && f.silStandby)

/-! ### Live and latched fault bits (R541, R552) -/

def setBit (n b : Nat) (v : Bool) : Nat := putBits n b b (b2n v)

/-- A live bit of a digital channel is set; EV42 when it goes to 1 and the link is up. -/
def dLive (s : State) (k b : Nat) : State :=
  let c := s.dchan k
  let s' := s.setDchan k { c with live := setBit c.live b true, seen := setBit c.seen b true }
  if !bit c.live b && s.field.link then s'.raise 42 else s'

def dLiveOff (s : State) (k b : Nat) : State :=
  let c := s.dchan k
  s.setDchan k { c with live := setBit c.live b false }

/-- A live bit of an analogue channel is set. -/
def aLive (s : State) (k b : Nat) : State :=
  let c := s.achan k
  let s' := s.setAchan k { c with live := setBit c.live b true, seen := setBit c.seen b true }
  if !bit c.live b && s.field.link then s'.raise 42 else s'

def aLiveOff (s : State) (k b : Nat) : State :=
  let c := s.achan k
  s.setAchan k { c with live := setBit c.live b false }

/-! ### Digital outputs (R530, R533, R542) -/

/-- The safe value of a digital output (R533). -/
def dSafe (f : FieldState) (c : DChan) : Bool :=
  if f.unit ≠ 0 then false else if c.safe = 1 then true else if c.safe = 2 then c.want else false

/-- The state that channel k is commanded to. On an STO output the safe pattern acts only to switch it off, which it does where
the channel's safe value is off (R602, log 17). -/
def dWant (f : FieldState) (k : Nat) (c : DChan) : Bool :=
  if allOff f then false
  else if c.mode = 5 then
    (f.stoOn.contains k && (f.state == fsRun || (f.unit == 0 && (c.safe == 1 || c.safe == 2)))) || f.pulses.contains k
  else if c.mode = 2 then (if f.state = fsRun && c.outen && c.struck then c.cmd else dSafe f c)
  else false

/-- A digital channel's driver follows its commanded state (R542, R527). -/
def dDrive (s : State) (k : Nat) : State :=
  let c := s.dchan k
  let w := dWant s.field k c
  s.setDchan k { c with
    want := w, wantAt := if w = c.want then c.wantAt else s.now, driver := w && !c.latched && !s.field.vfhigh }

/-- The fixed debounce of an output's read-back is 50 µs (R540). -/
def debNs (c : DChan) : Nat := if c.mode = 2 then 50000 else c.deb * 1000

/-- The debounced state changes: EV64 + k in input mode, in the set polarity (R538). -/
def dChange (s : State) (k : Nat) : State :=
  let c := s.dchan k
  let s := s.setDchan k { c with state := c.raw, since := none }
  if c.mode = 1 && ((c.raw && bit c.evpol 0) || (!c.raw && bit c.evpol 1)) then s.raise (64 + k) else s

/-- A condition that must last 10 ms: its start as it is kept on. -/
def lasting (since : Option Nat) (now : Nat) (present : Bool) : Option Nat :=
  if !present then none else match since with | some t => some t | none => some now

/-- What an update does for digital channel k: the OPEN faults, the latch, a transition that is due, the driver. -/
def dUpdate (s : State) (lowCurrent cooled : Word) (k : Nat) : State :=
  let c := s.dchan k
  let low := wbit lowCurrent k
  let opn := (c.mode == 2 && c.driver && low && !s.field.vflow) || (c.mode == 1 && c.owdet && low)
  let at_ := lasting c.openAt s.now opn
  let s := s.setDchan k { c with openAt := at_ }
  let s := match at_ with
    | some t => if t + 10000000 ≤ s.now then dLive s k 1 else s
    | none => s
  let c := s.dchan k
  let s := match c.since with
    | some t => if t + debNs c ≤ s.now && s.field.state != fsInit then dChange s k else s
    | none => s
  let c := s.dchan k
  let off := !dWant s.field k c
  let s := if c.latched && off && (!bit c.live 2 || wbit cooled k) then
      s.setDchan k { c with latched := false } else s
  dDrive s k

/-! ### Analogue outputs (R546, R548) -/

/-- The alarm current of a channel's direction, in µA (R546). -/
def alarmUa (c : AChan) : Int := if c.almHigh then 21500 else 3500

/-- A commanded value after limiting; −1 stands for the alarm current (R548). -/
def limitCmd (v : Int) : Int := if v = -1 then -1 else clampInt 0 21500 v

def overLimit (v : Int) : Bool := decide (v ≠ -1) && (decide (v < 0) || decide (v > 21500))

/-- What the channel is commanded after limiting, and whether its stage is on (R530, R533). -/
def aWant (f : FieldState) (c : AChan) : Int × Bool :=
  if c.mode ≠ 3 || allOff f then (0, false)
  else if f.state = fsRun && c.outen && c.struck then (limitCmd c.cmd, true)
  else if f.unit ≠ 0 then (0, false)
  else
    match c.safe with
    | 1 => (c.drive, c.on)
    | 2 => (c.safeUa, true)
    | 3 => (-1, true)
    | _ => (0, false)

/-- The effective current that the channel drives, in µA: a trim drives its own, from the next update on (R555). -/
def aEff (c : AChan) : Int :=
  match c.trimUa with
  | some x => x
  | none => if !c.on then 0 else if c.drive = -1 then alarmUa c else c.drive

/-- The ALARM bit of an output follows at once (R548). -/
def aAlarm (s : State) (k : Nat) : State :=
  let c := s.achan k
  if c.mode ≠ 3 then s
  else if (c.on && c.drive = -1) || (bit c.live 4 && !c.almHigh) then aLive s k 2
  else aLiveOff s k 2

/-- An analogue output follows its commanded value. -/
def aDrive (s : State) (k : Nat) : State :=
  let c := s.achan k
  let w := aWant s.field c
  aAlarm (s.setAchan k { c with drive := w.1, on := w.2 }) k

/-- Every output follows its command. -/
def driveAll (s : State) : State :=
  let s := (List.range 32).foldl dDrive s
  (List.range 8).foldl aDrive s

/-- A digital output takes a value of its task or of a loop. -/
def dCommand (s : State) (k : Nat) (v : Bool) : State :=
  let c := s.dchan k
  s.setDchan k { c with cmd := v, struck := true }

/-- An analogue output takes a value; one outside its range sets LIMIT (R548). -/
def aCommand (s : State) (k : Nat) (w : Word) : State :=
  let c := s.achan k
  let v := w.toInt
  let s := s.setAchan k { c with cmd := v, struck := true }
  if overLimit v then aLive s k 6 else s

/-! ### Commands and states (R528 to R532) -/

/-- A setting that takes effect at the next update (R575, R577, R561). -/
def loadSettings (s : State) : State :=
  let s := (List.range 32).foldl (fun s k =>
    let c := s.dchan k
    s.setDchan k { c with
      safe := s.fld (DIO_CFG_SAFE k), outen := s.flag (DIO_CFG_OUTEN k), evpol := s.fld (DIO_CFG_EVPOL k),
      deb := Nat.max 1 (s.fld (DIO_DEB_US k)) }) s
  let s := (List.range 8).foldl (fun s k =>
    let c := s.achan k
    s.setAchan k { c with
      safe := s.fld (AIO_CFG_SAFE k), outen := s.flag (AIO_CFG_OUTEN k), almHigh := s.flag (AIO_CFG_ALMDIR k),
      win := s.fld (AIO_FILT_WIN k), safeUa := Nat.min 21500 (s.fld (AIO_SAFE_UA k)) }) s
  s.modField fun f => { f with silence := s.fld DIO_FCTRL_SILENCE }

/-- The module is one of a pair and not its active one, so its field side holds the standby pattern (R435). -/
def standsBy (s : State) : Bool := s.paired && s.role != roleActive

/-- The whole configuration is loaded; the field side leaves INIT (R530). -/
def loadConfig (s : State) : State :=
  let s := loadSettings s
  let s := (List.range 32).foldl (fun s k =>
    let c := s.dchan k
    s.setDchan k { c with mode := dioMode s k, owdet := s.flag (DIO_CFG_OWDET k) }) s
  let s := (List.range 8).foldl (fun s k =>
    let c := s.achan k
    let m := s.fld (AIO_CFG_MODE k)
    s.setAchan k { c with
      mode := if m > 3 then 0 else m, gain := toWord (s.objNum (0x3000 + k) 1),
      offset := toWord (s.objNum (0x3000 + k) 2) }) s
  let s := (List.range 16).foldl (fun s j =>
    s.setEncPair j { s.encPair j with en := s.flag (DIO_ENCCTRL_EN j) }) s
  let s := s.modField fun f => { f with unit := s.hsb.unit }
  if s.field.state = fsInit then
    let s := s.modField fun f => { f with state := if standsBy s then fsStandby else fsSafe }
    (List.range 32).foldl (fun s k =>
      let c := s.dchan k
      s.setDchan k { c with since := if c.raw = c.state then none else some s.now }) s
  else s

/-- The field side enters a state that the logic side commands; before the first strike or command of a run every output
keeps its safe value. -/
def enterField (s : State) (st : Nat) : State :=
  let s := s.modField fun f => { f with state := st, silStandby := false }
  if st ≠ fsRun then s
  else
    let s := (List.range 32).foldl (fun s k => s.setDchan k { s.dchan k with struck := false }) s
    (List.range 8).foldl (fun s k => s.setAchan k { s.achan k with struck := false }) s

/-- A release of SILENT (R532). -/
def fieldReleased (s : State) : State :=
  if s.field.state ≠ fsSilent then s
  else enterField s (if standsBy s then fsStandby else if s.running then fsRun else fsSafe)

/-- One command is applied. State commands are not obeyed in INIT and SILENT. -/
def applyCmd (s : State) (c : FieldCmd) : State :=
  let st := s.field.state
  match c with
  | .dout k v => dCommand s k v
  | .aout k w => aCommand s k w
  | .safe => if st = fsRun then enterField s fsSafe else s
  | .state code => if st = fsInit ∨ st = fsSilent ∨ st = code then s else enterField s code
  | .release => fieldReleased s
  | .config full => if full then loadConfig s else loadSettings s
  | .mode k m => s.setDchan k { s.dchan k with mode := m }
  | .encoder j n => s.setEncPair j { s.encPair j with count := n }
  | .trim k g o =>
    let x := s.achan k
    s.setAchan k { x with gain := g, offset := o }

/-- The next instant at which an update is due (R528). -/
def updateAt (s : State) : Nat :=
  if s.now % 50000 = 0 ∧ s.field.lastUpd ≠ some s.now then s.now else (s.now / 50000 + 1) * 50000

/-- V_FIELD is measured: VFLOW clears above its threshold + 0.5 V and VFHIGH below its threshold − 1 V (R527). Within the
tolerance of a threshold a free bit decides (log 1). -/
def fieldSupply (s : State) (mv : Nat) : State :=
  let s := s.modField fun f => { f with mv := mv }
  let s := if !s.field.vflow || mv ≤ 18100 then s
    else if mv > 18900 then s.modField fun f => { f with vflow := false }
    else let d := s.drawBit; d.2.modField fun f => { f with vflow := d.1 }
  if !s.field.vfhigh || mv ≥ 32000 then s
  else if mv < 30000 then s.modField fun f => { f with vfhigh := false }
  else let d := s.drawBit; d.2.modField fun f => { f with vfhigh := d.1 }

/-- What an update does after the commands: diagnostics are evaluated and outputs driven; a trim's drive begins (R528, R541, R542,
R555). The masks name the channels whose current is low and whose driver has cooled. -/
def fieldUpdated (s : State) (lowCurrent cooled : Word) (vfieldMv : Nat) : State :=
  let s := fieldSupply s vfieldMv
  let s := (List.range 32).foldl (fun s k => dUpdate s lowCurrent cooled k) s
  let s := (List.range 8).foldl (fun s k =>
    let c := s.achan k
    aDrive (s.setAchan k { c with trimUa := c.trim.map (·.1) }) k) s
  if s.field.state = fsStandby && s.field.link then prove s 0x0A else s

/-- LINK_FRAME: a valid frame of the logic side restarts the silence timer. A regained link that finds SILENT raises EV43
and is recorded (R531, R532). -/
def execLinkFrame (s : State) : Host.Outcome State Fault Refusal :=
  if s.boot.held || s.frz.frozen then .next s
  else
    let was := s.field.link
    let s := s.modField fun f => { f with link := true, lastFrame := s.now }
    .next (if !was && s.field.state == fsSilent then
        ((s.setFlag DIO_FSTAT_SILENTSEEN true).raise 43).record 0x0600 2 0 0 []
      else s)

/-- SILENCE_TIMEOUT: no frame for the silence time: SILENT, with the safe pattern or the standby pattern (R531). -/
def execSilenceTimeout (s : State) : Host.Outcome State Fault Refusal :=
  if s.field.state = fsInit ∨ s.field.state = fsSilent then .next s
  else
    let s := s.at (s.field.lastFrame + s.field.silence * 1000000)
    let s := s.modField fun f => { f with
      silStandby := f.state == fsStandby, state := fsSilent, link := false, silentCnt := f.silentCnt + 1 }
    .next (driveAll s)

/-- VFLOW: V_FIELD below V_FLOW for 1 ms (R527, R541). -/
def execVflow (vfieldMv : Nat) (s : State) : Host.Outcome State Fault Refusal :=
  if s.field.vflow || 18400 ≤ vfieldMv then .next s
  else
    let s := s.modField fun f => { f with vflow := true, mv := vfieldMv, lowCnt := f.lowCnt + 1 }
    let s := if s.boot.held then s else s.setFlag DIO_FSTAT_VFLOWSEEN true
    .next (if s.field.link then s.raise 42 else s)

/-- VFHIGH: V_FIELD above V_FHIGH switches every digital output off (R527). -/
def execVfhigh (vfieldMv : Nat) (s : State) : Host.Outcome State Fault Refusal :=
  if s.field.vfhigh || vfieldMv ≤ 31000 then .next s
  else .next (driveAll (s.modField fun f => { f with vfhigh := true, mv := vfieldMv }))

/-! ### Digital inputs (R537, R538) -/

/-- RAW_LEVEL_CHANGE: a pin changes its raw level, and debounce timing starts or stops (R537). -/
def execRawLevelChange (ch : Fin 32) (level : Bool) (s : State) : Host.Outcome State Fault Refusal :=
  let c := s.dchan ch.val
  if c.raw = level then .next s
  else
    .next (s.setDchan ch.val { c with
      raw := level, since := if level = c.state || s.field.state == fsInit then none else some s.now })

/-- DEBOUNCE_EXPIRY: a raw level stable for D changes the debounced state (R537). -/
def execDebounceExpiry (ch : Fin 32) (s : State) : Host.Outcome State Fault Refusal :=
  let c := s.dchan ch.val
  match c.since with
  | none => .next s
  | some t => .next (dChange (s.at (t + debNs c)) ch.val)

/-! ### Encoders (R544, R545) -/

/-- A debounced level of a track. -/
def trackLevel (s : State) (k : Nat) (v : Bool) : State :=
  let c := s.dchan k
  s.setDchan k { c with state := v, since := if c.raw = v then none else c.since }

/-- ENCODER_EDGE: a debounced edge of track A or B counts up when A leads B and down when B leads A; two edges within one
resolution step are a phase error (R544, R545). -/
def execEncoderEdge (pair : Fin 16) (a b : Bool) (s : State) : Host.Outcome State Fault Refusal :=
  let j := pair.val
  let e := s.encPair j
  if !e.en || s.field.state == fsInit || (e.a == a && e.b == b) then .next s
  else
    let s := trackLevel (trackLevel s (2 * j) a) (2 * j + 1) b
    if e.a != a && e.b != b then
      .next (dLive ((s.setEncPair j { e with a := a, b := b }).count32 (DIO_ENCERR j) 1) (2 * j) 4)
    else
      let up := if e.a != a then a != b else a == b
      .next (s.setEncPair j { e with a := a, b := b, count := if up then e.count + 1 else e.count - 1 })

/-! ### Digital faults (R541) -/

/-- A channel that drives its pin: output mode, or an output of the safety partition. -/
def isDriver (c : DChan) : Bool := c.mode == 2 || c.mode == 5

/-- A driver is latched off with its live bit (R542). -/
def latchOff (s : State) (k b : Nat) : State :=
  let s := dLive s k b
  dDrive (s.setDchan k { s.dchan k with latched := true }) k

/-- OVL: a current limit active for 1 ms latches the driver off (R541). -/
def execOvl (ch : Fin 32) (s : State) : Host.Outcome State Fault Refusal :=
  let c := s.dchan ch.val
  if isDriver c && c.driver then .next (latchOff s ch.val 0) else .next s

/-- OT: a driver junction above 150 °C latches the driver off (R541). -/
def execOt (ch : Fin 32) (s : State) : Host.Outcome State Fault Refusal :=
  if isDriver (s.dchan ch.val) then .next (latchOff s ch.val 2) else .next s

/-! ### Analogue inputs and read-back (R547, R550, R551) -/

/-- A finite binary32 value times 2¹⁴⁹, which is whole; 0 for the others. -/
def f32fix (w : Word) : Int :=
  if f32finite w then
    let v := fmt32.val w.toNat
    v.1 * 2 ^ (v.2 + 149).toNat
  else 0

/-- A factory-corrected current with the user layer (R496), rounded to the nearest µA (log 15). -/
def calibrated (c : AChan) (sum : Int) (n : Nat) : Int :=
  let num := sum * (2 ^ 149 + f32fix c.gain) + 1000 * n * f32fix c.offset
  divNearest num (n * 2 ^ 149)

/-- The class of a measured current as its live bits, and its quality (R547). -/
def classify (c : AChan) (ua : Int) (now : Nat) : Nat × Bool :=
  let opn := match c.lowAt with | some t => decide (t + 10000000 ≤ now) | none => false
  if opn then (1, false)
  else if ua ≤ 3600 then (if c.almHigh then 2 else 4, false)
  else if ua < 21000 then (if c.limiter && c.mode = 2 then (8, false) else (0, true))
  else if ua < 23000 && !(c.limiter && c.mode = 2) then (if c.almHigh then 4 else 2, false)
  else (8, false)

/-- ANALOG_CONVERSION: every 100 µs an input or a read-back is converted; `ua` is the factory-corrected current in µA and
`limiter` tells that the loop-power limiter is active (R547, R550). -/
def execAnalogConversion (ch : Fin 8) (ua : Int) (limiter : Bool) (s : State) : Host.Outcome State Fault Refusal :=
  let k := ch.val
  let s := s.at (ceilDiv s.now 100000 * 100000)
  let c := s.achan k
  if c.mode = 0 || s.field.state == fsInit then .next s
  else
    let hist := (ua :: c.hist).take 5000
    let win := hist.take c.win
    let raw := calibrated c (win.foldl (· + ·) 0) win.length
    if c.mode = 3 then
      let judged := !bit c.live 4 && s.field.state != fsStandby
      let diff := judged && if c.on || c.trimUa.isSome then decide ((raw - aEff c).natAbs > 200) else decide (raw > 50)
      .next (s.setAchan k { c with
        hist := hist, limiter := limiter, meas := raw, good := !bit c.live 5, rbAt := lasting c.rbAt s.now diff })
    else
      let c := { c with hist := hist, limiter := limiter, meas := clampInt 0 24000 raw,
                        lowAt := lasting c.lowAt s.now (decide (raw < 500)) }
      let cl := classify c raw s.now
      let s := s.setAchan k { c with good := cl.2 }
      .next ((List.range 4).foldl (fun s b => if bit cl.1 b then aLive s k b else s) s)

/-- COMPL: the load needs more than the compliance voltage (R551). -/
def execCompl (ch : Fin 8) (s : State) : Host.Outcome State Fault Refusal :=
  let c := s.achan ch.val
  if c.mode = 3 && c.on then .next (aAlarm (aLive s ch.val 4) ch.val) else .next s

/-- COMPL_CLEAR: headroom for 100 ms (R551). -/
def execComplClear (ch : Fin 8) (s : State) : Host.Outcome State Fault Refusal :=
  .next (aAlarm (aLiveOff s ch.val 4) ch.val)

/-- RBFAULT: a read-back error of 50 ms (R550). -/
def execRbfault (ch : Fin 8) (s : State) : Host.Outcome State Fault Refusal :=
  let c := s.achan ch.val
  match c.rbAt with
  | none => .next s
  | some t =>
    if c.mode ≠ 3 || bit c.live 4 || s.field.state == fsStandby then .next s
    else
      let s := aLive (s.at (t + 50000000)) ch.val 5
      .next (s.setAchan ch.val { s.achan ch.val with good := false })

/-- LIVE_BIT_CLEAR: a live bit clears 100 ms after its condition ended (R541, R552). A latched driver keeps OVL and OT; the
ALARM and COMPL bits of an output and a condition that is still there are not cleared. -/
def execLiveBitClear (analogue : Bool) (ch b : Fin 32) (s : State) : Host.Outcome State Fault Refusal :=
  if analogue then
    if ch.val ≥ 8 then .next s
    else
      let c := s.achan ch.val
      let still :=
        if c.mode = 3 then
          match b.val with
          | 2 => true
          | 4 => true
          | 5 => c.rbAt.isSome
          | 6 => overLimit c.cmd
          | _ => false
        else c.mode != 0 && bit (classify c c.meas s.now).1 b.val
      .next (if still then s else aLiveOff s ch.val b.val)
  else
    let c := s.dchan ch.val
    let still := match b.val with
      | 0 => c.latched
      | 1 => c.openAt.isSome
      | 2 => c.latched
      | 3 => c.mode == 2 && c.state != c.want
      | _ => false
    .next (if still then s else dLiveOff s ch.val b.val)

/-! ### Sampling and strike (R529, R543) -/

/-- What the field side latches of a source: its word, and whether a fault makes its quality 0. -/
def sourceNow (s : State) (code : Nat) : Word × Bool :=
  if code < 32 then
    let c := s.dchan code
    (if c.state then 1 else 0, if c.mode = 2 then bit c.live 3 else c.mode == 1 && bit c.live 1)
  else if code < 64 then
    let c := s.achan (code - 32)
    (intWord c.meas, if c.mode = 3 then bit c.live 5 else !c.good)
  else ((s.encPair (code - 64)).count, false)

/-- The field side latches every local input of a task (R529). -/
def fieldLatch (s : State) (k : Nat) : State :=
  ((localIn s).filter (·.task == k)).foldl (fun s x =>
    let v := sourceNow s x.code
    let key := 65536 * k + x.code
    s.modField fun f => { f with
      latched := f.latched.set 0 key v.1, latchedBad := if v.2 then f.latchedBad.add key else f.latchedBad.del key }) s

/-- The field side applies a task's local outputs from the transmit copy at T_o (R529, R354). -/
def fieldStrike (s : State) (k : Nat) : State :=
  ((localOut s).filter fun x => x.task == k && !immediateDest s x.g).foldl (fun s x =>
    let w := s.img.xmit.get 0 x.g
    match x.bit with
    | some b => dDrive (dCommand s x.code (wbit w b)) x.code
    | none => aDrive (aCommand s (x.code - 32) w) (x.code - 32)) s

/-- The local outputs of an event task go to the field side as commands (R74). -/
def fieldOutputs (s : State) (k : Nat) : State :=
  ((localOut s).filter (·.task == k)).foldl (fun s x =>
    let w := s.img.xmit.get 0 x.g
    match x.bit with
    | some b => fieldCmd s (.dout x.code (wbit w b))
    | none => fieldCmd s (.aout (x.code - 32) w)) s

/-! ### Release and safe commands (R532, R563) -/

/-- A write to DIO_FCMD. -/
def fcmdWrite (s : State) (w : Word) : State :=
  let s := if wbit w 0 then fieldCmd s .safe else s
  if wbit w 1 then fieldCmd s .release else s

/-! ### Owners (R558 to R560) -/

def ownProgram : Nat := 1
def ownSafety : Nat := 2
def ownTrim : Nat := 3
def ownJurno : Nat := 4

/-- A refused claim: EV61 and a record (R559). -/
def claimRefused (s : State) (res owner claimant : Nat) : State :=
  (s.raise 61).record 0x0602 2 5 res [res, owner, claimant]

/-- A feature claims several resources: all or none; `false` when one has another owner. -/
def claim (s : State) (who : Nat) (rs : List Nat) : State × Bool :=
  match rs.find? fun r => s.owner r != 0 && s.owner r != who with
  | some r => (claimRefused s r (s.owner r) who, false)
  | none => (s.modField fun f => { f with owners := rs.foldl (fun t r => t.set 0 r who) f.owners }, true)

/-- A feature releases every resource that it owns. -/
def releaseClaims (s : State) (who : Nat) : State :=
  s.modField fun f => { f with owners := f.owners.filter fun e => e.2 != who }

/-- The resources that the program's configuration claims (R558). -/
def programClaims (s : State) : List Nat :=
  (List.range 32).filter (fun k => s.fld (DIO_CFG_MODE k) == 1 || s.fld (DIO_CFG_MODE k) == 2)
  ++ (List.range 16).flatMap (fun j => if s.flag (DIO_ENCCTRL_EN j) then [32 + j, 2 * j, 2 * j + 1] else [])
  ++ ((List.range 8).filter fun c => let m := s.fld (AIO_CFG_MODE c); m == 1 || m == 2 || m == 3).map (48 + ·)

/-- A write to DIO_ENCCTRLj: a 1 claims the pair and both channels; a refused claim leaves EN at 0 (R559, R569). -/
def encctrlWrite (s : State) (j : Nat) (w : Word) : State × Bool :=
  if wbit w 0 then
    let c := claim s ownProgram [32 + j, 2 * j, 2 * j + 1]
    if c.2 then (c.1.setFlag (DIO_ENCCTRL_EN j) true, true) else c
  else (s.setFlag (DIO_ENCCTRL_EN j) false, true)

/-! ### Trims (R553 to R556) -/

/-- The mean of the factory-corrected readings of the last 500 ms, in mA, as binary32 (R553). -/
def factoryMean (c : AChan) : Word :=
  if c.hist.isEmpty then 0x7FC00000#32 else f32ratio (c.hist.foldl (· + ·) 0) (1000 * c.hist.length)

def f4mA : Word := 0x40800000#32
def f20mA : Word := 0x41A00000#32
def fOne : Word := 0x3F800000#32

/-- g' and o' of a zero trim (R553). -/
def zeroFit (g f t : Word) : Word × Word := (g, f32sub t (f32mul f (f32add fOne g)))

/-- g' and o' of a span trim, and f_s − f4 (R553). -/
def spanFit (g o f t : Word) : Word × Word × Word :=
  let f4 := f32div (f32sub f4mA o) (f32add fOne g)
  let k := f32div (f32sub t f4mA) (f32sub f f4)
  (f32sub k fOne, f32sub f4mA (f32mul f4 k), f32sub f f4)

/-- −x ≤ v ≤ x -/
def f32within (v x : Word) : Bool := f32le (f32neg x) v && f32le v x

/-- The user gain and offset of a channel, as accepted. -/
def userCal (s : State) (c : Nat) : Word × Word :=
  (toWord (s.objNum (0x3000 + c) 1), toWord (s.objNum (0x3000 + c) 2))

/-- A new user layer of a channel: both values take effect together at the next update, and are stored (R553). -/
def setUserCal (s : State) (c : Nat) (g o : Word) : State :=
  let gb := toLE 4 g.toNat
  let ob := toLE 4 o.toNat
  let s := ((s.setObj (0x3000 + c) 1 gb).setObj (0x3000 + c) 2 ob)
  let s := (s.persist (objKey (0x3000 + c) 1) gb none).persist (objKey (0x3000 + c) 2) ob none
  fieldCmd s (.trim c g o)

/-- A trim of channel c through the point (f, t): applied, or refused with TRIMERR and a record (R554). -/
def applyTrim (s : State) (c : Nat) (span : Bool) (f t : Word) : State × Bool :=
  let u := userCal s c
  let n := if span then
      let x := spanFit u.1 u.2 f t
      ((x.1, x.2.1), f32le 0x41000000#32 x.2.2)
    else (zeroFit u.1 f t, true)
  if n.2 && f32within n.1.1 0x3F000000#32 && f32within n.1.2 fOne then (setUserCal s c n.1.1 n.1.2, true)
  else
    let x := s.achan c
    ((s.setAchan c { x with seen := setBit x.seen 7 true }).record 0x0601 1 5 (48 + c) [c, n.1.1.toNat, n.1.2.toNat], false)

/-- A trim by command: the status it is answered with (R554, R555). For an output the first write starts the drive and the
second gives the measured current. -/
def trimCommand (s : State) (c : Nat) (span : Bool) (t : Word) : State × Nat :=
  let m := s.fld (AIO_CFG_MODE c)
  let x := s.achan c
  if m = 1 ∨ m = 2 then
    let r := applyTrim s c span (factoryMean x) t
    (r.1, if r.2 then 0 else 0x0402)
  else if m = 3 ∧ s.stopped then
    let ua : Int := if span then 20000 else 4000
    match x.trim with
    | some d =>
      if d.1 = ua then
        let r := applyTrim (s.setAchan c { x with trim := none, trimUa := none }) c span (if span then f20mA else f4mA) t
        (r.1, if r.2 then 0 else 0x0402)
      else (s.setAchan c { x with trim := some (ua, s.now + 60000000000) }, 0)
    | none => (s.setAchan c { x with trim := some (ua, s.now + 60000000000) }, 0)
  else (s, 0x0701)

/-- TRIM_DRIVE_TIMEOUT: a trim drive ends after 60 s (R555). -/
def execTrimDriveTimeout (ch : Fin 8) (s : State) : Host.Outcome State Fault Refusal :=
  let x := s.achan ch.val
  match x.trim with
  | none => .next s
  | some d => .next ((s.at d.2).setAchan ch.val { x with trim := none, trimUa := none })

/-- The trim buttons act: they are enabled and their target is an analogue input (R556). -/
def buttonsReady (s : State) : Bool :=
  let m := s.fld (AIO_CFG_MODE (s.fld AIO_TRIM_TARGET))
  s.flag AIO_TRIM_EN && (m == 1 || m == 2) && !s.boot.held && !s.frz.frozen

/-- The debounced buttons are held: Z, S. -/
def buttonState (s : State) : Bool × Bool :=
  ((s.dchan (s.fld AIO_TRIM_ZBTN)).state, (s.dchan (s.fld AIO_TRIM_SBTN)).state)

/-- ZERO_BUTTON_HOLD: Z alone for 2 s makes a zero trim at 4 mA (R556). -/
def execZeroButtonHold (s : State) : Host.Outcome State Fault Refusal :=
  let c := s.fld AIO_TRIM_TARGET
  if buttonsReady s && buttonState s == (true, false) then .next (applyTrim s c false (factoryMean (s.achan c)) f4mA).1
  else .next s

/-- SPAN_BUTTON_HOLD: S alone for 2 s makes a span trim at 20 mA (R556). -/
def execSpanButtonHold (s : State) : Host.Outcome State Fault Refusal :=
  let c := s.fld AIO_TRIM_TARGET
  if buttonsReady s && buttonState s == (false, true) then .next (applyTrim s c true (factoryMean (s.achan c)) f20mA).1
  else .next s

/-- CLEAR_BUTTON_HOLD: both for 5 s clear the target's user gain and offset (R556). -/
def execClearButtonHold (s : State) : Host.Outcome State Fault Refusal :=
  if buttonsReady s && buttonState s == (true, true) then .next (setUserCal s (s.fld AIO_TRIM_TARGET) 0 0) else .next s

/-- A digital channel's mode changes at the field side with its owner. -/
def ownedMode (s : State) (k : Nat) : State := fieldCmd s (.mode k (dioMode s k))

/-- A write to AIO_TRIM: EN claims the two button channels, and 0 releases them; a refused claim leaves EN at 0 (R570). -/
def trimWrite (s : State) (w : Word) : State × Bool :=
  let was := (List.range 32).filter fun k => s.owner k == ownTrim
  let s := was.foldl ownedMode (releaseClaims s ownTrim)
  let s := s.setReg AIO_TRIM (toWord (wbits w 18 16 * 65536 + wbits w 12 8 * 256 + wbits w 4 0))
  if wbit w 31 then
    let c := claim s ownTrim [wbits w 4 0, wbits w 12 8]
    if c.2 then (ownedMode (ownedMode (c.1.setFlag AIO_TRIM_EN true) (wbits w 4 0)) (wbits w 12 8), true) else c
  else (s, true)

end Sys2Proof.Machine
end

