-- ==== Sys2Proof/Machine/CanBase.lean ====
section
/-!
DEFINITION. CanBase.lean: the CAN FD controllers (R579 to R597): bit timing, transmit buffers and their selection, error
confinement, filters, and Jurno's segments on their way out (R510). Received frames are in Can.lean, after the Jurno engine.
-/
namespace Sys2Proof.Machine

/-! ### State and flags (R586, R589, R592, R593) -/

def canOff : Nat := 0
def canIntegrating : Nat := 1
def canActive : Nat := 2
def canPassive : Nat := 3
def canBusOff : Nat := 4
def canRecovering : Nat := 5

def canState (s : State) (m : Nat) : Nat := s.fld (CAN_STAT_STATE m)

/-- The controller takes part in the bus's traffic. -/
def canOnline (s : State) (m : Nat) : Bool := canState s m == canActive || canState s m == canPassive

/-- The controllers stand still: the module is in reset or frozen (R675). -/
def canHalted (s : State) : Bool := s.boot.held || s.frz.frozen

/-- A flag of CANm_EVT is set; becoming 1 with its enable bit set it raises EV39 or EV40 (R589). -/
def canFlag (s : State) (m b : Nat) : State :=
  if wbit (s.reg (CAN_EVT m)) b then s
  else
    let s := s.setFlag ⟨CAN_EVT m, b, b⟩ true
    if wbit (s.reg (CAN_EVTEN m)) b then s.raise (39 + m) else s

def canSetState (s : State) (m st : Nat) : State :=
  if canState s m = st then s else canFlag (s.setFld (CAN_STAT_STATE m) st) m 5

/-! ### Transmit buffers (R583, R584, R594) -/

def canPending (s : State) (m b : Nat) : Bool := s.flag (CAN_TXCTRL_REQ m b)
def canResult (s : State) (m b r : Nat) : State := s.setFld (CAN_TXSTAT_RESULT m b) r

/-- Buffer b belongs to Jurno (R583). -/
def canJurnos (s : State) (m b : Nat) : Bool := b == 2 && (s.canst m).jurno

/-- A request ends with a result of 3 to 7. -/
def canEnd (s : State) (m b r : Nat) : State :=
  let c := s.canst m
  let s := s.setCanst m { c with onBus := if c.onBus = some b then none else c.onBus, abort := c.abort.del b }
  canFlag (canResult (s.setFlag (CAN_TXCTRL_REQ m b) false) m b r) m (2 + b)

/-- The number that decides arbitration between frames: the identifier's first 11 bits, then RTR or SRR and IDE as sent,
then the other 18; the lower wins. -/
def canArb (w : Word) : Nat :=
  let id := wbits w 28 0
  if wbit w 31 then (id / 2 ^ 18) * 2 ^ 20 + 3 * 2 ^ 18 + id % 2 ^ 18 else (id % 2048) * 2 ^ 20

/-- The buffer that is selected when a frame may start (R583). -/
def canSelection (s : State) (m : Nat) : Option Nat :=
  let ps := (List.range 3).filter (canPending s m)
  if s.flag (CAN_CTRL_TXORD m) then ps.head?
  else (ps.foldl (fun (b : Option (Nat × Nat)) i =>
    let a := canArb (s.reg (CAN_TXID m i))
    match b with
    | none => some (a, i)
    | some x => if a < x.1 then some (a, i) else b) none).map (·.2)

/-- A frame starts, when the controller is online, may send, and has none on the bus. Frames of other nodes that are on the
bus show only in how the attempt ends (log 36). -/
def canSelect (s : State) (m : Nat) : State :=
  let c := s.canst m
  if !canOnline s m || c.onBus.isSome || s.fld (CAN_CTRL_MODE m) == 1 then s
  else
    match canSelection s m with
    | none => s
    | some b => canResult (s.setCanst m { c with onBus := some b }) m b 2

/-- The data lengths that a DLC above 8 means in an FD frame (R579). -/
def canLen (fdf : Bool) (dlc : Nat) : Nat :=
  if dlc ≤ 8 then dlc else if !fdf then 8 else [12, 16, 20, 24, 32, 48, 64].getD (dlc - 9) 64

/-- The frame that a buffer holds. -/
def canFrameOf (s : State) (m b : Nat) : CanFrame :=
  let w := s.reg (CAN_TXID m b)
  let dlc := s.fld (CAN_TXCTRL_DLC m b)
  let fdf := wbit w 30
  { ide := wbit w 31, fdf := fdf, brs := fdf && wbit w 29, esi := fdf && canState s m == canPassive, rtr := false,
    id := BitVec.ofNat 29 (if wbit w 31 then wbits w 28 0 else wbits w 10 0), dlc := BitVec.ofNat 4 dlc,
    data := ((List.range 16).flatMap fun i => toLE 4 (s.reg (CAN_TXDATA m b i)).toNat).take (canLen fdf dlc) }

/-- An identifier of R510 on a controller with Jurno: 29 bits, Jurno's base in [28:18] and 0 in [17:15] (log 36). -/
def canJurnoId (s : State) (m : Nat) (ide : Bool) (id mask : Nat) : Bool :=
  let c := s.canst m
  c.jurno && ide && (id ^^^ (c.base * 2 ^ 18)) &&& mask &&& 0x1FFF8000 == 0

/-- The resource number that a record of a refused identifier claim carries (log 36). -/
def canIdResource : Nat := 0xFF

/-- A request is made in a buffer (R584). -/
def canRequest (s : State) (m b : Nat) (jurno : Bool) : State :=
  let s := (s.setFld (CAN_TXSTAT_NACK m b) 0).setFld (CAN_TXSTAT_ATTEMPTS m b) 0
  let w := s.reg (CAN_TXID m b)
  if canPending s m b then s
  else if !jurno && canJurnoId s m (wbit w 31) (wbits w 28 0) 0x1FFFFFFF then
    canEnd (claimRefused s canIdResource ownJurno ownProgram) m b 7
  else if canState s m = canOff || canState s m = canBusOff || canState s m = canRecovering
      || (wbit w 30 && !s.flag (CAN_CTRL_FDEN m)) || (!jurno && s.paired && s.role != roleActive) then canEnd s m b 7
  else canSelect (canResult (s.setFlag (CAN_TXCTRL_REQ m b) true) m b 1) m

/-- ABORT of a pending request (R584). -/
def canAbort (s : State) (m b : Nat) : State :=
  if !canPending s m b then s
  else if (s.canst m).onBus = some b then
    let c := s.canst m
    s.setCanst m { c with abort := c.abort.add b }
  else canEnd s m b 4

/-- A write to CANm_TXCTRLb; `none` is an access fault (R583, R584). An abort acts on the request that was there before. -/
def canTxctrlWrite (s : State) (m b : Nat) (w : Word) : Option State :=
  if canJurnos s m b || (canPending s m b && wbits w 3 0 != s.fld (CAN_TXCTRL_DLC m b)) then none
  else
    let s := (s.setFlag (CAN_TXCTRL_SINGLE m b) (wbit w 11)).setFld (CAN_TXCTRL_DLC m b) (wbits w 3 0)
    let s := if wbit w 10 then canAbort s m b else s
    some (if wbit w 9 then canRequest s m b false else s)

/-- The program's pending frames that are not on the bus end with RESULT 4 at a program stop (R584). -/
def canProgramStop (s : State) : State :=
  [(0, 0), (0, 1), (0, 2), (1, 0), (1, 1), (1, 2)].foldl (fun s e =>
    if canPending s e.1 e.2 && !canJurnos s e.1 e.2 && (s.canst e.1).onBus != some e.2 then canEnd s e.1 e.2 4 else s) s

/-! ### Jurno's answers (R510) -/

/-- The DLC of the smallest FD frame that holds `n` bytes, and its length. -/
def canFit (n : Nat) : Nat × Nat :=
  if n ≤ 8 then (n, n)
  else (([(9, 12), (10, 16), (11, 20), (12, 24), (13, 32), (14, 48)] : List (Nat × Nat)).find? fun e => decide (n ≤ e.2)).getD
    (15, 64)

/-- A message cut into segments of up to 63 bytes: number, last one, bytes. -/
def canChunks (bs : List Byte) (i : Nat) : Nat → List (Nat × Bool × List Byte)
  | 0 => []
  | n + 1 => if bs.length ≤ 63 then [(i, true, bs)] else (i, false, bs.take 63) :: canChunks (bs.drop 63) (i + 1) n

/-- The frames of an answer to a node. Whether they switch the bit rate is open: `brs` (R510, log 1). -/
def canSegments (s : State) (m node : Nat) (brs : Bool) (bs : List Byte) : List CanFrame :=
  let c := s.canst m
  let id := c.base * 2 ^ 18 + 2 ^ 14 + node * 2 ^ 7 + c.node
  (canChunks bs 0 32).map fun e =>
    let head := b2n (e.1 == 0) * 128 + b2n e.2.1 * 64 + e.1 % 64
    let data := BitVec.ofNat 8 head :: e.2.2
    let f := if e.2.1 then canFit data.length else (15, 64)
    { ide := true, fdf := true, brs := brs, id := BitVec.ofNat 29 id, dlc := BitVec.ofNat 4 f.1, data := listFit 0 f.2 data }

/-- A frame in buffer 2. -/
def canLoad (s : State) (m : Nat) (f : CanFrame) : State :=
  let w := b2n f.ide * 2 ^ 31 + b2n f.fdf * 2 ^ 30 + b2n f.brs * 2 ^ 29 + f.id.toNat
  let s := (s.setReg (CAN_TXID m 2) (toWord w)).setReg (CAN_TXCTRL m 2) (toWord f.dlc.toNat)
  (List.range 16).foldl (fun s i => s.setReg (CAN_TXDATA m 2 i) (toWord (fromLE (slice f.data (4 * i) 4)))) s

/-- Jurno's next segment goes into buffer 2 when that is free; segments that the controller refuses are dropped. -/
def canJurnoNext (s : State) (m : Nat) : Nat → State
  | 0 => s
  | n + 1 =>
    let c := s.canst m
    match c.jq with
    | [] => s
    | f :: rest =>
      if !c.jurno || canPending s m 2 then s
      else canJurnoNext (canRequest (canLoad (s.setCanst m { c with jq := rest }) m f) m 2 true) m n

/-- An answer to a node of controller m. -/
def canAnswer (s : State) (m node : Nat) (bs : List Byte) : State :=
  let d := s.drawBit
  let s := d.2
  let c := s.canst m
  let s := s.setCanst m { c with jq := c.jq ++ canSegments s m node d.1 bs }
  canJurnoNext s m ((s.canst m).jq.length)

/-- The segments of the message that is being sent are discarded: up to the next message's first. -/
def canDropMessage (s : State) (m : Nat) : State :=
  let c := s.canst m
  s.setCanst m { c with jq := c.jq.dropWhile fun f => !wbit ((f.data.headD 0).setWidth 32) 7 }

/-! ### Error confinement (R586) -/

/-- Bus-off: every pending buffer ends, Jurno drops what was partly sent or received, a flag and a record. -/
def canToBusOff (s : State) (m : Nat) : State :=
  let s := canSetState s m canBusOff
  let s := (List.range 3).foldl (fun s b => if canPending s m b then canEnd s m b 6 else s) s
  let c := s.canst m
  let s := s.setCanst m { c with onBus := none, abort := [], jq := [], parts := [], busOffs := holdAt 0xFFFFFFFF (c.busOffs + 1) }
  (canFlag s m 7).record 0x0700 2 6 m [m, (s.reg (CAN_ERR m)).toNat]

/-- STATE follows the error counters. -/
def canConfine (s : State) (m : Nat) : State :=
  if !canOnline s m then s
  else if 255 < s.fld (CAN_STAT_TEC m) then canToBusOff s m
  else if 128 ≤ s.fld (CAN_STAT_TEC m) ∨ 128 ≤ s.fld (CAN_STAT_REC m) then canSetState s m canPassive
  else canSetState s m canActive

/-- LEC of an error. -/
def canLec : CanErr → Nat
  | .stuff => 1 | .form => 2 | .ack => 3 | .bit1 => 4 | .bit0 => 5 | .crc => 6

/-- An error is counted and shown (R592). -/
def canError (s : State) (m : Nat) (k : CanErr) (dataPhase : Bool) : State :=
  ((s.count (CAN_ERR_COUNT m) 0xFFFF 1).setFld (CAN_ERR_LEC m) (canLec k)).setFlag (CAN_ERR_DPHASE m) dataPhase

/-- TEC after an error of a sender: up by 8, save for a missing acknowledgement while error-passive (R588). -/
def canTecError (s : State) (m : Nat) (k : CanErr) : State :=
  if k = .ack ∧ canState s m = canPassive then s
  else s.setFld (CAN_STAT_TEC m) (Nat.min 256 (s.fld (CAN_STAT_TEC m) + 8))

/-- The 16th missing acknowledgement of a request (R588). -/
def canNack (s : State) (m b : Nat) : State :=
  let s := s.count (CAN_TXSTAT_NACK m b) 255 1
  if s.fld (CAN_TXSTAT_NACK m b) = 16 then
    let c := s.canst m
    canFlag (s.setCanst m { c with noPartner := holdAt 0xFFFFFFFF (c.noPartner + 1) }) m 6
  else s

/-- What an attempt that was not sent leaves of its request: ended, or to be selected again. -/
def canRetry (s : State) (m b : Nat) : State :=
  if !canPending s m b then s
  else if (s.canst m).abort.contains b then canEnd s m b 4
  else if s.flag (CAN_TXCTRL_SINGLE m b) then canEnd s m b 5
  else
    let c := s.canst m
    canResult (s.setCanst m { c with onBus := none }) m b 1

/-- The transmitter delay that an attempt measured, if it reached the FDF-to-res transition (R582). -/
def canTdc (s : State) (m b : Nat) (how : CanTxEnd) (tdcv : Nat) : State × CanTxEnd :=
  let w := s.reg (CAN_TXID m b)
  let reached := match how with | .sent => true | .lost => false | .error _ d => d
  if wbit w 30 && wbit w 29 && s.flag (CAN_TDC_TDCEN m) && reached then
    if 127 < tdcv then
      match how with
      | .sent => let d := s.drawBit; (d.2, .error (if d.1 then .bit1 else .bit0) true)
      | h => (s, h)
    else (s.setFld (CAN_TDC_TDCV m) tdcv, how)
  else (s, how)

/-! ### Received frames (R585) -/

/-- The frame carries Jurno's base and the module's node as destination. -/
def forJurno (s : State) (m : Nat) (f : CanFrame) : Bool :=
  canJurnoId s m f.ide f.id.toNat 0x1FFFFFFF && wbits (f.id.setWidth 32) 13 7 == (s.canst m).node

/-- The lowest enabled filter that a frame matches. -/
def filterOf (s : State) (m : Nat) (f : CanFrame) : Option Nat :=
  (List.range 16).find? fun n =>
    s.flag (CAN_FLTID_EN m n) && s.flag (CAN_FLTID_IDE m n) == f.ide
      && (f.id.toNat ^^^ s.fld (CAN_FLTID_ID m n)) &&& s.fld (CAN_FLTMSK_MASK m n) == 0

/-- A frame goes through the filters into the FIFO. -/
def intoFifo (s : State) (m : Nat) (f : CanFrame) : State :=
  match filterOf s m f with
  | none => s
  | some n =>
    let c := s.canst m
    if 32 ≤ c.fifo.length then canFlag (s.count32 (CAN_RXOVF m) 1) m 1
    else canFlag (s.setCanst m { c with fifo := c.fifo ++ [{ frame := f, filter := n, time := s.now }] }) m 0

/-- The frame as it is stored: the data bytes that its DLC means; none in a remote frame. -/
def storedFrame (f : CanFrame) : CanFrame :=
  { f with data := if f.rtr then [] else listFit 0 (canLen f.fdf f.dlc.toNat) f.data }

/-! ### Attempts (R582 to R590) -/

/-- The controller is in internal loopback (R590). -/
def canLoops (s : State) (m : Nat) : Bool := s.fld (CAN_CTRL_MODE m) == 2

/-- In internal loopback a frame finds its acknowledgement inside the controller: that error is not one (R590). -/
def canAcked (s : State) (m : Nat) : CanTxEnd → CanTxEnd
  | .error k d => if k = .ack ∧ canLoops s m then .sent else .error k d
  | h => h

/-- A frame has been sent: on the bus, or in internal loopback to the controller itself, which takes its own frame as a received
one (R585, R590). -/
def canSentOut (s : State) (m : Nat) (f : CanFrame) : State :=
  if canLoops s m then (if forJurno s m f then s else intoFifo s m f) else s.send (.can m f)

/-- CAN_TX_ATTEMPT_END: the frame on the bus has been sent, has lost arbitration or has met an error (R582 to R584, R586,
R588, R590). -/
def execCanTxAttemptEnd (ctrl : Fin 2) (buf : Fin 3) (how : CanTxEnd) (tdcv : Byte) (s : State) :
    Host.Outcome State Fault Refusal :=
  let m := ctrl.val
  let b := buf.val
  if canHalted s || (s.canst m).onBus != some b || !canOnline s m then .next s
  else
    let r := canTdc (s.count (CAN_TXSTAT_ATTEMPTS m b) 255 1) m b (canAcked s m how) tdcv.toNat
    let s := r.1
    match r.2 with
    | .sent =>
      let s := canSentOut s m (canFrameOf s m b)
      let s := s.setFld (CAN_STAT_TEC m) (s.fld (CAN_STAT_TEC m) - 1)
      let s := canEnd (canConfine s m) m b 3
      .next (canSelect (canJurnoNext s m (s.canst m).jq.length) m)
    | .lost => .next (canSelect (canJurnoNext (canRetry s m b) m (s.canst m).jq.length) m)
    | .error k d =>
      let s := canTecError (canError s m k d) m k
      let s := if k = .ack then canNack s m b else s
      let s := canConfine s m
      let gone := canJurnos s m b && k == .ack && s.fld (CAN_TXSTAT_NACK m b) == 16 && canPending s m b
      let s := if gone then canDropMessage (canEnd s m b 4) m else canRetry s m b
      .next (canSelect (canJurnoNext s m (s.canst m).jq.length) m)

/-- CAN_RECEIVE_ERROR: the controller, as a receiver, meets an error (R586). -/
def execCanReceiveError (ctrl : Fin 2) (kind : CanErr) (dataPhase : Bool) (s : State) : Host.Outcome State Fault Refusal :=
  let m := ctrl.val
  if canHalted s || !canOnline s m then .next s
  else .next (canConfine ((canError s m kind dataPhase).count (CAN_STAT_REC m) 255 1) m)

/-- CAN_INTEGRATION_COMPLETE: 11 consecutive recessive bits: the controller joins the bus (R587). -/
def execCanIntegrationComplete (ctrl : Fin 2) (s : State) : Host.Outcome State Fault Refusal :=
  let m := ctrl.val
  if canHalted s || canState s m != canIntegrating then .next s
  else .next (canSelect (canConfine (canSetState s m canActive) m) m)

/-- CAN_RECOVERY_COMPLETE: 128 times 11 recessive bits after RECOV (R586). -/
def execCanRecoveryComplete (ctrl : Fin 2) (s : State) : Host.Outcome State Fault Refusal :=
  let m := ctrl.val
  if canHalted s || canState s m != canRecovering then .next s
  else .next (canSetState ((s.setFld (CAN_STAT_TEC m) 0).setFld (CAN_STAT_REC m) 0) m canActive)

/-! ### Control and configuration (R581, R585, R590, R591, R596) -/

/-- An enabling write breaks R581. -/
def canBadTiming (s : State) (m : Nat) : Bool :=
  let n := s.reg (CAN_NBT m)
  let d := s.reg (CAN_DBT m)
  let nbit := (wbits n 4 0 + 1) * (3 + wbits n 31 24 + wbits n 23 17)
  let dbit := (wbits d 4 0 + 1) * (3 + wbits d 28 24 + wbits d 23 20)
  let fd := s.flag (CAN_CTRL_FDEN m)
  decide (nbit < 80) || decide (8000 < nbit) || (fd && decide (dbit < 10)) || (fd && decide (nbit < dbit))
    || decide (wbits n 23 17 < wbits n 16 10) || decide (wbits d 23 20 < wbits d 19 16)
    || (s.flag (CAN_TDC_TDCEN m) && decide (1 < wbits d 4 0))

/-- The bits of CANm_CTRL that hold while EN is 1: TXORD, MODE with 3 taken as 0, FDEN. -/
def canModeBits (w : Word) : Nat × Nat × Nat :=
  (wbits w 5 5, if wbits w 4 3 = 3 then 0 else wbits w 4 3, wbits w 2 2)

/-- RECOV in BUS-OFF starts the recovery (R586). -/
def canRecover (s : State) (m : Nat) : State :=
  if canState s m = canBusOff then canSetState s m canRecovering else s

/-- EN is written 0: the controller leaves the bus. Its pending buffers and its counters stay as they are (log 36). -/
def canDisable (s : State) (m : Nat) : State :=
  if canState s m = canBusOff || canState s m = canRecovering then s
  else
    let c := s.canst m
    let s := match c.onBus with | some b => canResult s m b 1 | none => s
    canSetState ((s.setCanst m { c with onBus := none }).setFlag (CAN_CTRL_EN m) false) m canOff

/-- A write to CANm_CTRL; `none` is an access fault (R581, R586, R590). -/
def canCtrlWrite (s : State) (m : Nat) (w : Word) : Option State :=
  let b := canModeBits w
  let old := canModeBits (s.reg (CAN_CTRL m))
  let s1 := if wbit w 8 then s.setFlag (CAN_CTRL_BADCFG m) false else s
  if s.flag (CAN_CTRL_EN m) then
    if b != old then none
    else
      let s := if wbit w 7 then canRecover s1 m else s1
      some (if wbit w 0 then s else canDisable s m)
  else
    let s := ((s1.setFld (CAN_CTRL_TXORD m) b.1).setFld (CAN_CTRL_MODE m) b.2.1).setFld (CAN_CTRL_FDEN m) b.2.2
    if !wbit w 0 then some s
    else if canBadTiming s m then some (s.setFlag (CAN_CTRL_BADCFG m) true)
    else some (canSetState (s.setFlag (CAN_CTRL_EN m) true) m canIntegrating)

/-- A write to CANm_NBT: NTSEG1 − 1 = 0 is out of range and keeps its value; every other value is in range (R591). -/
def canNbtWrite (s : State) (m : Nat) (w : Word) : State :=
  let seg1 := if wbits w 31 24 = 0 then wbits (s.reg (CAN_NBT m)) 31 24 else wbits w 31 24
  s.setReg (CAN_NBT m) (toWord (seg1 * 2 ^ 24 + wbits w 23 10 * 2 ^ 10 + wbits w 4 0))

/-- Filter n would accept an identifier that Jurno owns (R585). -/
def canFilterClash (s : State) (m n : Nat) : Bool :=
  canJurnoId s m (s.flag (CAN_FLTID_IDE m n)) (s.fld (CAN_FLTID_ID m n)) (s.fld (CAN_FLTMSK_MASK m n))

/-- An enabled filter that claims what Jurno owns is refused, and left disabled (R559, R585). -/
def canFilterCheck (s : State) (m n : Nat) : State :=
  if s.flag (CAN_FLTID_EN m n) && canFilterClash s m n then
    (claimRefused s canIdResource ownJurno ownProgram).setFlag (CAN_FLTID_EN m n) false
  else s

/-- Writes to CANm_FLTIDn and CANm_FLTMSKn. -/
def canFltidWrite (s : State) (m n : Nat) (w : Word) : State :=
  canFilterCheck (s.setReg (CAN_FLTID m n) (toWord (wbits w 31 30 * 2 ^ 30 + wbits w 28 0))) m n
def canFltmskWrite (s : State) (m n : Nat) (w : Word) : State :=
  canFilterCheck (s.setReg (CAN_FLTMSK m n) (toWord (wbits w 28 0))) m n

/-- A write to CANm_RXPOP (R595). -/
def canRxpop (s : State) (m : Nat) (w : Word) : State :=
  if wbit w 0 then
    let c := s.canst m
    s.setCanst m { c with fifo := c.fifo.drop 1 }
  else s

end Sys2Proof.Machine
end

