-- ==== Sys2Proof/Machine/Trace.lean ====
section
/-!
DEFINITION. Trace.lean: the trace unit (R376 to R379, R388 to R390): its buffers, samples, triggers, records and commands.
-/
namespace Sys2Proof.Machine

def State.trcb (s : State) (b : Nat) : TrcSt := s.trc.get {} b
def State.setTrcb (s : State) (b : Nat) (t : TrcSt) : State := { s with trc := s.trc.set {} b t }

/-- States of R378. -/
def trcIdle : Nat := 0
def trcArmed : Nat := 1
def trcTriggered : Nat := 2
def trcDone : Nat := 3

def trcState (s : State) (b : Nat) : Nat := s.fld (TRC_STAT_STATE b)

/-- What a buffer records: 0 none, 1 a loop, 2 image values (R385). -/
def trcKind (s : State) (b : Nat) : Nat := let k := s.fld (TRC_CFG_KIND b); if k = 3 then 0 else k

/-- Signals of a record (R376, R378). -/
def trcCount (s : State) (b : Nat) : Nat :=
  match trcKind s b with
  | 1 => ((List.range 8).filter fun j => bit (s.fld (TRC_CFG_SIGMASK b)) j).length
  | 2 => s.fld (TRC_CFG_NSIG b)
  | _ => 0

/-- Bytes of a record, the first byte of the region in trace SRAM, its bytes, and the records that it holds, as the buffer was armed
(R377, R392). -/
def trcRecBytes (s : State) (b : Nat) : Nat := (s.trcb b).rec_
def trcBase (s : State) (b : Nat) : Nat := (s.trcb b).base * 65536
def trcSize (s : State) (b : Nat) : Nat := (s.trcb b).units * 65536
def trcCapacity (s : State) (b : Nat) : Nat := trcSize s b / trcRecBytes s b

/-- Recording ends; nothing waits any more. -/
def trcEnd (s : State) (b : Nat) : State :=
  (s.setFld (TRC_STAT_STATE b) trcDone).setTrcb b { s.trcb b with waiting := [], trigDue := false }

/-- A record is written in the circle (R377). -/
def trcWrite (s : State) (b : Nat) (x : TrcSample) (trig : Bool) : State :=
  let t := s.trcb b
  let n := trcRecBytes s b
  let cap := trcCapacity s b
  if cap = 0 then s
  else
    let off := t.written % cap * n
    let bytes := toLE 4 (b2n t.gap * 2 ^ 31 + b2n trig * 2 ^ 30 + x.words.length) ++ toLE 8 x.time
      ++ x.words.flatMap fun w => toLE 4 w.toNat
    let s := { s with mem := { s.mem with trace := s.mem.trace.setMany 0 (trcBase s b + off) bytes } }
    let w := t.written + 1
    let s := s.setTrcb b { t with written := w, gap := false }
    let s := (s.setFld (TRC_COUNT_RECORDS b) (Nat.min w cap)).setFld (TRC_OLDEST_OFFSET b)
      (if w ≤ cap then 0 else w % cap * n)
    if trig then s.setFld (TRC_TRIGPOS_OFFSET b) off else s

/-- A sample that is not written: GAP in the next record, and a count (R379). -/
def trcShed (s : State) (b : Nat) : State :=
  (s.setTrcb b { s.trcb b with gap := true }).count32 (TRC_GAPS b) 1

/-- After a record behind the trigger record: DONE when the post-trigger share is written (R378). -/
def trcAfter (s : State) (b : Nat) : State :=
  let t := s.trcb b
  if trcState s b ≠ trcTriggered || t.trigDue then s
  else if t.left ≤ 1 then trcEnd s b
  else s.setTrcb b { t with left := t.left - 1 }

/-- A trigger: EV45 and TRIGGERED. -/
def trcTrigger (s : State) (b : Nat) : State := (s.setFld (TRC_STAT_STATE b) trcTriggered).raise 45

/-- The trigger record, which is never shed. Samples that still wait for funds are left out, so that the records stay in the
order of their samples (log 16). -/
def trcTriggerRecord (s : State) (b : Nat) (x : TrcSample) : State :=
  let s := (s.trcb b).waiting.foldl (fun s _ => trcShed s b) s
  let s := s.setTrcb b { s.trcb b with waiting := [], trigDue := false, skipped := 0 }
  let s := trcWrite s b x true
  let left := (100 - s.fld (TRC_TRIG_PRE b)) * trcCapacity s b / 100
  if left = 0 then trcEnd s b else s.setTrcb b { s.trcb b with left := left }

/-- a < b in the format of the trigger. -/
def trcLt (tint : Bool) (a b : Word) : Bool := if tint then a.slt b else f32lt a b

/-- a ≤ b in the format of the trigger. -/
def trcLe (tint : Bool) (a b : Word) : Bool := if tint then a.sle b else f32le a b

/-- The trigger condition of a sample; `alm`: an alarm bit of the traced loop has become 1 (R378). -/
def trcHit (s : State) (b : Nat) (x : TrcSample) (alm : Bool) : Bool :=
  let tint := s.flag (TRC_TRIG_TINT b)
  let lv := s.reg (TRC_LEVEL b)
  let v := x.words.getD (s.fld (TRC_TRIG_TSIG b)) 0
  let lt := trcLt tint
  match s.fld (TRC_TRIG_TMODE b) with
  | 1 => (match (s.trcb b).last with | some p => lt p lv && trcLe tint lv v | none => false)
  | 2 => (match (s.trcb b).last with | some p => lt lv p && trcLe tint v lv | none => false)
  | 3 => lt lv v
  | 4 => lt v lv
  | 5 => alm
  | _ => false

/-- A buffer takes a sample (R376, R378, R379). -/
def trcSample (s : State) (b : Nat) (x : TrcSample) (alm : Bool) : State :=
  let st := trcState s b
  if st ≠ trcArmed ∧ st ≠ trcTriggered then s
  else
    let hit := st = trcArmed && trcHit s b x alm
    let t := s.trcb b
    let s := s.setTrcb b { t with last := some (x.words.getD (s.fld (TRC_TRIG_TSIG b)) 0) }
    if hit then trcTriggerRecord (trcTrigger s b) b x
    else if t.trigDue then trcTriggerRecord s b x
    else if t.skipped + 1 < Nat.max 1 (s.fld (TRC_DIV_DIV b)) then s.setTrcb b { s.trcb b with skipped := t.skipped + 1 }
    else s.setTrcb b { s.trcb b with skipped := 0, waiting := t.waiting ++ [x] }

/-- The sample of a kind 1 buffer: the eight signals of an execution of a loop (R376). -/
def traceLoop (s : State) (n tl : Nat) (signals : List Word) (alm : Bool) : State :=
  (List.range 8).foldl (fun s b =>
    if trcKind s b = 1 ∧ s.fld (TRC_CFG_LOOP b) = n then
      let m := s.fld (TRC_CFG_SIGMASK b)
      trcSample s b ⟨tl, ((signals.zip (List.range 8)).filter fun e => bit m e.2).map (·.1)⟩ alm
    else s) s

/-- The samples of the kind 2 buffers of a task at its T_s: stable copies and published values (R376). -/
def traceTask (s : State) (k : Nat) : State :=
  (List.range 8).foldl (fun s b =>
    if trcKind s b = 2 ∧ s.fld (TRC_CFG_TASK b) = k then
      let ws := (List.range (trcCount s b)).map fun j =>
        match valueOf (s.reg (TRC_SIG b j)) with
        | some g => readStable s g
        | none => 0
      trcSample s b ⟨s.now, ws⟩ false
    else s) s

/-- Why a buffer cannot be armed: ERR of TRC_STATb; 0 when it can. The region of another buffer is the one that it was armed with
(R378, R390, R392). -/
def trcError (s : State) (b : Nat) : Nat :=
  let lo := s.fld (TRC_REGION_BASE b)
  let n := s.fld (TRC_REGION_SIZE b)
  let overlap := (List.range 8).any fun j =>
    let x := s.trcb j
    j != b && trcState s j != trcIdle && decide (lo < x.base + x.units) && decide (x.base < lo + n)
  let k := trcKind s b
  let c := trcCount s b
  let badSig := k = 2 && (List.range c).any fun j =>
    let w := s.reg (TRC_SIG b j)
    (valueOf w).isNone || wbits w 28 18 != 0
  let m := s.fld (TRC_TRIG_TMODE b)
  if n = 0 || decide (lo + n > 64) || overlap then 1
  else if c = 0 || decide (c > 8) || badSig then 2
  else if 1 ≤ m && m ≤ 4 && decide (c ≤ s.fld (TRC_TRIG_TSIG b)) then 3
  else 0

/-- ARM (R388): ignored in ARMED and TRIGGERED; refused with ERR. -/
def trcArm (s : State) (b : Nat) : State :=
  let st := trcState s b
  if st = trcArmed ∨ st = trcTriggered then s
  else
    let e := trcError s b
    let s := s.setFld (TRC_STAT_ERR b) e
    if e ≠ 0 then s
    else
      let s := (s.setFld (TRC_STAT_STATE b) trcArmed).setFlag (TRC_STAT_NOTRIG b) false
      let s := ((s.setReg (TRC_COUNT b) 0).setReg (TRC_OLDEST b) 0).setReg (TRC_TRIGPOS b) 0
      (s.setReg (TRC_GAPS b) 0).setTrcb b {
        readOff := (s.trcb b).readOff, rec_ := 12 + 4 * trcCount s b, base := s.fld (TRC_REGION_BASE b),
        units := s.fld (TRC_REGION_SIZE b) }

/-- STOP: recording ends; NOTRIG without a trigger. -/
def trcStop (s : State) (b : Nat) : State :=
  let st := trcState s b
  if st = trcArmed then trcEnd (s.setFlag (TRC_STAT_NOTRIG b) true) b
  else if st = trcTriggered then trcEnd s b
  else s

/-- FORCE: the next sample's record is the trigger record; ignored outside ARMED. -/
def trcForce (s : State) (b : Nat) : State :=
  if trcState s b = trcArmed then (trcTrigger s b).setTrcb b { s.trcb b with trigDue := true } else s

/-- A write to TRC_CMDb; of several bits, ARM acts first and FORCE last. -/
def trcCmd (s : State) (b : Nat) (w : Word) : State :=
  let s := if wbit w 0 then trcArm s b else s
  let s := if wbit w 1 then trcStop s b else s
  if wbit w 2 then trcForce s b else s

/-- The command object 0x701b:0D (R392). -/
def trcCommand (s : State) (b code : Nat) : State :=
  match code with
  | 1 => trcArm s b
  | 2 => trcStop s b
  | 3 => trcForce s b
  | _ => s

/-- 0x701b:12: up to 1,024 bytes of the records held, from the read offset (R392). -/
def trcRead (s : State) (b : Nat) : List Byte :=
  let t := s.trcb b
  let n := trcRecBytes s b
  let cap := trcCapacity s b
  let total := Nat.min t.written cap * n
  let old := s.fld (TRC_OLDEST_OFFSET b)
  (List.range (Nat.min 1024 (total - t.readOff))).map fun i =>
    s.mem.trace.get 0 (trcBase s b + (old + t.readOff + i) % Nat.max 1 (cap * n))

/-- The read offset advances by the bytes that a read has returned (R392). -/
def trcAdvance (s : State) (b n : Nat) : State := s.setTrcb b { s.trcb b with readOff := (s.trcb b).readOff + n }

end Sys2Proof.Machine
end

