-- ==== Sys2Proof/Machine/Loops.lean ====
section
/-!
DEFINITION. Loops.lean: the loop engine (R345 to R372): sources, the control algorithm, executions on the four units,
publication, writes to loop records, stops and starts.
-/
namespace Sys2Proof.Machine

def State.modLpe (s : State) (f : LpeState → LpeState) : State := { s with lpe := f s.lpe }

/-! ### The control algorithm (R360 to R367). Every operation is rounded in binary32. -/

/-- The value brought into OLO to OHI: min(max(v, olo), ohi). -/
def f32limit (v lo hi : Word) : Word :=
  toWord (fmt32.minMax false (fmt32.minMax true v.toNat lo.toNat).1 hi.toNat).1

/-- Actual modes (R374). -/
def lmOff : Nat := 0
def lmManual : Nat := 1
def lmAuto : Nat := 2
def lmCascade : Nat := 3
def lmTrack : Nat := 4
def lmHold : Nat := 5

/-- What one execution computes beside the record's new words: the sample signals and whether an alarm bit became 1. -/
structure LoopResult where
  loop    : LoopSt
  off     : Bool
  word    : Word
  signals : List Word
  alarm   : Bool

/-- The actual mode and the status bits of R362. -/
def resolveMode (req : Nat) (badman pvBad spBad trkBad : Bool) : Nat × Nat :=
  if pvBad then (if badman then lmManual else lmHold, 2 ^ 10)
  else
    match req with
    | 1 => (lmManual, 0)
    | 4 => if trkBad then (lmHold, 2 ^ 12) else (lmTrack, 0)
    | 3 => if spBad then (lmAuto, 2 ^ 11) else (lmCascade, 0)
    | _ => (lmAuto, 0)

/-- An alarm bit with hysteresis: set above the limit, reset below the limit less the hysteresis (R367). -/
def alarmBit (old : Bool) (x limit hyst : Word) : Bool :=
  if f32lt limit x then true else if f32lt x (f32sub limit hyst) then false else old

/-- The writes of an execution are applied in order; a manual value is limited when it is applied (R368). -/
def LoopSt.apply (l : LoopSt) (ws : List (Nat × Word)) : LoopSt :=
  let l := ws.foldl (fun l w => l.setWord w.1 w.2) l
  if ws.any fun w => w.1 == 0x14 then l.setWord 0x14 (f32limit (l.word 0x14) (l.word 0x12) (l.word 0x13)) else l

/-- PV as the loop takes it: converted, scaled when the source is in the image, with its badness (R361). -/
def LoopSt.pvOf (l : LoopSt) (x : LoopSrc) : Word × Bool :=
  let raw := if wbit (l.word 2) 2 then f32ofInt x.raw.toInt else x.raw
  let v := if wbits (l.word 6) 31 29 = 5 then x.raw else f32add (f32mul raw (l.word 7)) (l.word 8)
  (v, x.bad || !f32finite v)

/-- One execution (R362 to R367). `h` is P_L in seconds. -/
def LoopSt.execute (l : LoopSt) (cap : LoopCap) (ws : List (Nat × Word)) : LoopResult :=
  let kcOld := l.word 0x0D
  let betaOld := l.word 0x11
  let l := l.apply ws
  let req := (l.word 1).toNat
  let st := (l.word 0x1C).toNat
  if req = 0 then
    let l := (l.setWord 0x1C (toWord (putBits st 2 0 lmOff))).setWord 0x14 (l.word 0x1D)
    ⟨{ l with transfer := true }, true, 0, [], false⟩
  else
    let opts := l.word 2
    let sg (x : Word) : Word := if wbit opts 1 then f32neg x else x
    let h := f32ratio (l.word 4).toNat 1000
    let (kc, ti, td, n, beta) := (l.word 0x0D, l.word 0x0E, l.word 0x0F, l.word 0x10, l.word 0x11)
    let (olo, ohi) := (l.word 0x12, l.word 0x13)
    let (uPrev, iPrev, dPrev, pvPrev) := (l.word 0x1D, l.word 0x1E, l.word 0x1F, l.word 0x20)
    let pvs := l.pvOf cap.pv
    let spBad := cap.sp.bad || !f32finite cap.sp.raw
    let trkBad := cap.trk.bad || !f32finite cap.trk.raw
    let (mode, bad) := resolveMode req (wbit opts 5) pvs.2 spBad trkBad
    let pv := if pvs.2 then pvPrev else pvs.1
    let sp := if mode = lmCascade then cap.sp.raw else l.word 9
    let follow := (mode = lmManual ∨ mode = lmTrack) ∧ wbit opts 4
    let sp := if follow then pv else sp
    let l := l.setWord 9 sp
    let pvPrev := if l.transfer then pv else pvPrev
    let dPrev := if l.transfer then 0 else dPrev
    let kcs := f32mul kc (sg fOne)
    let term (k b : Word) : Word := f32mul (f32mul k (sg fOne)) (f32sub (f32mul b sp) pv)
    let iPrev := if kc ≠ kcOld ∨ beta ≠ betaOld then f32sub (f32add iPrev (term kcOld betaOld)) (term kc beta) else iPrev
    let e := f32mul (sg fOne) (f32sub sp pv)
    let p := f32mul kcs (f32sub (f32mul beta sp) pv)
    let den := f32add td (f32mul n h)
    let d :=
      if f32lt 0 td then
        f32sub (f32mul (f32div td den) dPrev)
          (f32mul (f32mul (f32div (f32mul (f32mul kc td) n) den) (sg fOne)) (f32sub pv pvPrev))
      else 0
    let auto := mode = lmAuto ∨ mode = lmCascade
    let iPrev := if auto ∧ l.transfer then f32sub (f32sub uPrev p) d else iPrev
    let v := f32add (f32add p iPrev) d
    let hiSat := auto && f32lt ohi v
    let loSat := auto && f32lt v olo
    let given := if mode = lmTrack then f32limit cap.trk.raw olo ohi else f32limit (l.word 0x14) olo ohi
    let (u, i, d, pv) :=
      if auto then
        (f32limit v olo ohi,
          if f32lt 0 ti && !(hiSat || loSat) then f32add iPrev (f32mul (f32div (f32mul kc h) ti) e) else iPrev, d, pv)
      else if mode = lmHold then (uPrev, iPrev, dPrev, pvPrev)
      else (given, f32sub (f32sub given p) d, d, pv)
    let nonFin := (auto && !f32finite v) || !f32finite u || !f32finite i
    let (u, i, d, pv) := if nonFin then (uPrev, iPrev, dPrev, pvPrev) else (u, i, d, pv)
    let hyst := l.word 0x18
    let hi := alarmBit (bit st 13) pv (l.word 0x15) hyst
    let lo := alarmBit (bit st 14) (f32neg pv) (f32neg (l.word 0x16)) hyst
    let dev := auto && alarmBit (bit st 15) (f32abs (f32sub sp pv)) (l.word 0x17) hyst
    let status := b2n nonFin * 2 ^ 16 + b2n dev * 2 ^ 15 + b2n lo * 2 ^ 14 + b2n hi * 2 ^ 13 + bad + b2n loSat * 2 ^ 9
      + b2n hiSat * 2 ^ 8 + mode
    let l := (((l.setWord 0x1C (toWord status)).setWord 0x1D u).setWord 0x1E i).setWord 0x1F d
    let l := (l.setWord 0x20 pv).setWord 0x14 (if mode = lmManual then given else u)
    let y := f32add (f32mul u (l.word 0x19)) (l.word 0x1A)
    let word := if wbit opts 3 then intWord (fmt32.toInt 32 false y.toNat).1 else y
    ⟨{ l with transfer := mode = lmHold || nonFin }, false, word, [sp, pv, u, i, d, e, toWord status, l.word 0x14],
      (hi && !bit st 13) || (lo && !bit st 14) || (dev && !bit st 15)⟩

/-! ### Sources (R351, R361) -/

/-- A loop's status makes it bad as a source: off, hold or BADPV. -/
def LoopSt.badSource (l : LoopSt) : Bool := l.mode == lmOff || l.mode == lmHold || wbit (l.word 0x1C) 10

/-- A source word as the stable copies and the published outputs have it; a source "none" is bad. -/
def readSource (s : State) (w : Word) : LoopSrc :=
  if w = 0xFFFFFFFF#32 then ⟨0, true⟩
  else if wbits w 31 29 = 5 then
    let l := s.loop (wbits w 11 0)
    ⟨l.pub, l.pubBad⟩
  else
    match valueOf w with
    | some g => ⟨readStable s g, isInput g && !s.img.good.contains g⟩
    | none => ⟨0, true⟩

/-- A loop's three sources as they stand now. -/
def captureSources (s : State) (n : Nat) : LoopCap :=
  let l := s.loop n
  ⟨readSource s (l.word 6), readSource s (l.word 0x0A), readSource s (l.word 0x0C)⟩

/-- A source that the host task owns is read from the evaluation copy at release; another as captured at T_s. -/
def releasedSource (s : State) (k : Nat) (w : Word) (x : LoopSrc) : LoopSrc :=
  if w = 0xFFFFFFFF#32 || wbits w 31 29 = 5 then x
  else
    match valueOf w with
    | some g =>
      if groupOwner s g = some k then ⟨s.evalOf g, isInput g && !quality s g⟩ else x
    | none => x

/-! ### Sample instants and executions (R349, R358, R370) -/

def lpeOn (s : State) : Bool := s.flag LPE_CTRL_EN

/-- The loop engine executes: the program is RUNNING, the engine is enabled and no freeze is in force. -/
def lpeRuns (s : State) : Bool := s.running && lpeOn s && !s.frz.frozen && !s.boot.held

/-- The loops that a task hosts, configured, in ascending order. -/
def hostedLoops (s : State) (k : Nat) : List Nat :=
  (s.lpe.loops.filter fun e => e.2.configured && e.2.host == k).map (·.1)

/-- The next sample instant of a loop's own grid. -/
def loopNext (s : State) (l : LoopSt) : Nat :=
  let p := (l.word 4).toNat * 1000000
  let ph := (l.word 5).toNat * 1000
  if p = 0 then s.now
  else
    let t := s.now + (ph + p - s.now % p) % p
    if l.sampled = some t then t + p else t

/-- What a task's T_s means to its loops: an aligned loop whose sample instant it is captures its sources; an immediate
loop's published word is the one that the transmit copy will take (R351, R353). -/
def loopsAtSample (s : State) (k : Nat) : State :=
  if !lpeOn s then s
  else
    (hostedLoops s k).foldl (fun s n =>
      let l := s.loop n
      if l.aligned then
        let p := (l.word 4).toNat * 1000000
        if p ≠ 0 ∧ s.now % p = (l.word 5).toNat * 1000 then s.setLoop n { l with due := true, cap := captureSources s n } else s
      else
        s.setLoop n { l with
          atTs := l.pubWord, carrySend := if l.carry.isSome then l.carry else l.carrySend, carry := none }) s

/-- The release of a host's cycle makes its aligned executions ready (R351, R358). -/
def loopsAtRelease (s : State) (k : Nat) : State :=
  (hostedLoops s k).foldl (fun s n =>
    let l := s.loop n
    if l.due then
      let cap : LoopCap := ⟨releasedSource s k (l.word 6) l.cap.pv, releasedSource s k (l.word 0x0A) l.cap.sp,
        releasedSource s k (l.word 0x0C) l.cap.trk⟩
      let e : LoopExec := { loop := n, aligned := true, tl := (s.task k).ts, ready := s.now, cap := cap }
      (s.setLoop n { l with due := false }).modLpe fun q => { q with queue := q.queue ++ [e] }
    else s) s

/-- `a` is taken before `b` (R358). -/
def LoopExec.before (a b : LoopExec) : Bool :=
  if a.aligned != b.aligned then a.aligned
  else if a.ready ≠ b.ready then decide (a.ready < b.ready)
  else decide (a.loop < b.loop)

/-- The ready execution that a free unit takes. -/
def nextExec (q : List LoopExec) : Option LoopExec :=
  q.foldl (fun b e =>
    match b with
    | none => some e
    | some x => if e.before x then some e else b) none

/-- LOOP_EXECUTION_START: a free unit takes a ready execution, with the writes accepted until now (R358, R368). -/
def execLoopExecutionStart (unit : Fin 4) (s : State) : Host.Outcome State Fault Refusal :=
  match nextExec s.lpe.queue with
  | none => .next s
  | some e =>
    if !lpeRuns s || (Tbl.range s.lpe.units unit.val 1) ≠ [] then .next s
    else
      let l := s.loop e.loop
      let s := s.setLoop e.loop { l with writes := [] }
      .next (s.modLpe fun p => { p with
        queue := p.queue.erase e,
        units := Tbl.insert p.units unit.val { e with start := s.now, writes := l.writes } })

/-- The 28 bytes of state of R371, as words. -/
def LoopSt.saved (l : LoopSt) : List Word :=
  [l.word 1, l.word 9, l.word 0x14, l.word 0x1D, l.word 0x1E, l.word 0x1F, l.word 0x20]

/-- A local analogue output takes each new output of an immediate-mode loop at its next update (R354, R357). -/
def loopToField (s : State) (g : Nat) (w : Word) : State :=
  (localOut s).foldl (fun s x =>
    if x.g = g ∧ x.bit.isNone then fieldCmd s (.aout (x.code - 32) (forced s g w)) else s) s

/-- The execution on a unit ends (R363): states, status, alarms and trace; an immediate output waits for its publication and
goes to its local channel, an aligned one enters the transmit copy of the cycle. -/
def loopComplete (s : State) (unit : Nat) : State :=
  match Tbl.range s.lpe.units unit 1 with
  | [] => s
  | (_, e) :: _ =>
    if s.frz.frozen then s
    else
      let n := e.loop
      let r := (s.loop n).execute e.cap e.writes
      let l := r.loop
      let dest := loopDest l
      let out : LoopOut := { t := e.tl + 500000, u := l.word 0x1D, bad := l.badSource,
                             word := if r.off || dest.isNone then none else some r.word, state := l.saved }
      let s := s.setLoop n { l with out := some out, carrySend := if e.aligned then some l.saved else l.carrySend }
      let s := s.modLpe fun p => { p with
        units := Tbl.erase p.units unit,
        busy := (s.now, s.now - e.start) :: p.busy.filter fun b => decide (s.now ≤ b.1 + 1000000000) }
      let s := (s.count32 LPE_EXECS 1).maxFld ⟨LPE_MAXLAT, 31, 0⟩ (Nat.min 0xFFFFFFFF (s.now - e.ready))
      let s := if r.alarm then
          (s.setFlag ⟨LPE_ALMPEND (n / 32), n % 32, n % 32⟩ true).raise 44 else s
      let s := if r.off then s else traceLoop s n e.tl r.signals r.alarm
      match out.word, dest with
      | some w, some g => if e.aligned then s.setEval g w else loopToField s g w
      | _, _ => s

/-- An immediate output is published at t_pub, with the force in effect (R353, R357). -/
def loopPublish (s : State) (n : Nat) : State :=
  let l := s.loop n
  match l.out with
  | none => s
  | some o =>
    if l.aligned || !s.running then s
    else
      let s := s.at o.t
      let l := { l with out := none, pub := o.u, pubBad := o.bad, carry := some o.state }
      match o.word, loopDest l with
      | some w, some g => (s.setLoop n { l with pubWord := some w }).setStable g (forced s g w)
      | _, _ => s.setLoop n l

/-- An aligned loop's output is published (R355). -/
def publishLoop (s : State) (n : Nat) (o : LoopOut) : State :=
  s.modLoop n fun l => { l with
    pub := o.u, pubBad := o.bad, pubWord := if o.word.isSome then o.word else l.pubWord }

/-- A publication takes place: all of it at one instant (R50, R53, R355). -/
def applyPub (s : State) (p : Pub) : State :=
  let s := p.vals.foldl (fun s e => s.setStable e.1 e.2) s
  let s := p.good.foldl (fun s e => s.modImg fun i => { i with
    good := if e.2 then i.good.add e.1 else i.good.del e.1 }) s
  p.loops.foldl (fun s e => publishLoop s e.1 e.2) s

/-- Every publication that an exchange copy holds takes place, oldest first (R56). -/
def applyHeld (s : State) : State :=
  { s.tsk.held.foldl applyPub s with tsk := { s.tsk with held := [] } }

/-- The aligned outputs of a host's cycle wait no longer: they go into its publication, or are not struck (R355, R79). -/
def dropAligned (s : State) (k : Nat) : State :=
  (hostedLoops s k).foldl (fun s n =>
    let l := s.loop n
    if l.aligned then s.setLoop n { l with out := none } else s) s

/-- Every aligned execution of a host's cycle has completed (R355). -/
def alignedDone (s : State) (k : Nat) : Bool :=
  let mine (e : LoopExec) : Bool := e.aligned && (s.loop e.loop).host == k
  !(s.lpe.queue.any mine) && !(s.lpe.units.any fun e => mine e.2)

/-- The word that a loop gives its destination in the transmit copy of its host's cycle (R353, R355). -/
def loopXmit (s : State) (n g : Nat) : Word :=
  let l := s.loop n
  if l.aligned then s.evalOf g
  else
    match l.atTs with
    | some w => w
    | none => s.evalOf g

/-! ### Stops and starts (R370, R371) -/

/-- The loop engine halts: executions in progress are discarded and leave the states before them; their writes wait on. -/
def haltLoops (s : State) : State :=
  let s := s.lpe.units.foldl (fun s e => s.modLoop e.2.loop fun l => { l with writes := e.2.writes ++ l.writes }) s
  let s := s.modLpe fun p => { p with queue := [], units := [] }
  s.lpe.loops.foldl (fun s e => s.setLoop e.1 { s.loop e.1 with due := false, out := none }) s

/-- A loop's configured value of requested mode, setpoint or manual value: the last one accepted. -/
def loopConfig (s : State) (n sub : Nat) : Word :=
  match s.obj (0x6000 + n) sub with
  | [] => 0
  | bs => toWord (fromLE bs)

/-- Loops at a warm or a cold start: the first execution is a transfer execution (R364, R371). -/
def startLoops (s : State) (cold : Bool) : State :=
  s.lpe.loops.foldl (fun s e =>
    let n := e.1
    let l := { s.loop n with
      transfer := true, due := false, out := none, carry := none, carrySend := none, sampled := none, pubWord := none, atTs := none }
    if cold then
      let m := loopConfig s n 0x14
      let l := ((l.setWord 1 (loopConfig s n 1)).setWord 9 (loopConfig s n 9)).setWord 0x14 m
      let l := (((l.setWord 0x1D m).setWord 0x1E 0).setWord 0x1F 0).setWord 0x20 0
      s.setLoop n { l with pub := m }
    else s.setLoop n l) s

/-! ### Writing to loop records (R368, R375) -/

/-- A source word names an image value or a loop, or nothing (R375). -/
def sourceOk (w : Word) : Bool :=
  w == 0xFFFFFFFF#32 ||
    (match wbits w 31 29 with
     | 0 => decide (wbits w 17 0 < 65536)
     | 1 => decide (wbits w 17 0 < 65536)
     | 2 => true
     | 5 => decide (wbits w 17 0 < 4096)
     | _ => false) && decide (wbits w 28 18 = 0)

/-- A value lies in the range that R375 gives its subindex. -/
def loopRangeOk (l : LoopSt) (sub : Nat) (v : Word) : Bool :=
  let fin := f32finite v
  let within (lo hi : Word) : Bool := f32le lo v && f32le v hi
  match sub with
  | 0x01 => decide (v.toNat ≤ 4)
  | 0x02 => true
  | 0x03 => decide (v.toNat ≤ 15)
  | 0x04 => decide (1 ≤ v.toNat) && decide (v.toNat ≤ 60000)
  | 0x05 => decide (v.toNat < (l.word 4).toNat * 1000)
  | 0x06 => sourceOk v
  | 0x0A => sourceOk v
  | 0x0B => v == 0xFFFFFFFF#32 || (sourceOk v && wbits v 31 29 == 1)
  | 0x0C => sourceOk v
  | 0x0E => f32le v 0 && f32le 0 v || within 0x3A83126F#32 0x47C35000#32
  | 0x0F => within 0 0x461C4000#32
  | 0x10 => within 0x40000000#32 0x42480000#32
  | 0x11 => within 0 fOne
  | 0x12 => fin && f32lt v (l.accepted 0x13)
  | 0x13 => fin && f32lt (l.accepted 0x12) v
  | 0x15 => !f32isNaN v
  | 0x16 => !f32isNaN v
  | 0x17 => f32lt 0 v
  | 0x18 => f32le 0 v
  | 0x1B => true
  | _ => fin

/-- Subindexes of a loop record that take effect at the next start; those that are read only. -/
def loopAtStart (sub : Nat) : Bool := (decide (2 ≤ sub) && decide (sub ≤ 6)) || (decide (0x0A ≤ sub) && decide (sub ≤ 0x0C))
def loopReadOnly (sub : Nat) : Bool := decide (0x1C ≤ sub)

/-- A write to subindex `sub` of loop n: the new state and the status; 0 where it is accepted (R368). Reserved bits of the options
are ignored (R8, R373). -/
def loopWrite (s : State) (n sub : Nat) (v : Word) : State × Nat :=
  let l := s.loop n
  let v := if sub = 2 then v &&& 0x3F#32 else v
  if !loopRangeOk l sub v then (s, 0x0402)
  else if loopAtStart sub && !s.stopped then (s, 0x0701)
  else if s.running ∧ sub = 9 ∧ l.mode = lmCascade then (s, 0x0701)
  else if s.running ∧ sub = 0x14 ∧ l.mode ≠ lmManual then (s, 0x0701)
  else if loopAtStart sub || sub = 0x1B then (s.setLoop n (l.setWord sub v), 0)
  else
    let s := s.setLoop n { l with writes := l.writes ++ [(sub, v)] }
    (if sub = 1 ∨ sub = 9 ∨ sub = 0x14 then s.setObj (0x6000 + n) sub (toLE 4 v.toNat) else s, 0)

/-- The bits of LPE_ALMPEND that a written 512-byte value clears (R391). -/
def clearAlarms (s : State) (bs : List Byte) : State :=
  (List.range 128).foldl (fun s m =>
    s.setReg (LPE_ALMPEND m) (s.reg (LPE_ALMPEND m) &&& ~~~(toWord (fromLE (slice bs (4 * m) 4))))) s

end Sys2Proof.Machine
end

