-- ==== Sys2Proof/Machine/Felt.lean ====
section
/-!
DEFINITION. Felt.lean: the energy ledger, background slices, supply set-points and thermal control (R393 to R418).
-/
namespace Sys2Proof.Machine

def State.modNrg (s : State) (f : NrgState → NrgState) : State := { s with nrg := f s.nrg }

/-- Felt works: it stops in a freeze and in reset (R20). -/
def feltRuns (s : State) : Bool := !s.frz.frozen && !s.boot.held

/-- A factory-corrected quantity with its user layer (R496), rounded to the nearest unit; an offset unit holds `scale` units
(log 15). -/
def userEff (s : State) (q : Nat) (v scale : Int) : Int :=
  divNearest (v * (2 ^ 149 + f32fix (toWord (s.objNum q 1))) + scale * f32fix (toWord (s.objNum q 2))) (2 ^ 149)

/-! ### The ledger (R396 to R404) -/

/-- The next whole millisecond at which an update is due. -/
def ledgerNext (s : State) : Nat :=
  if s.now % 1000000 = 0 ∧ s.nrg.ledgerAt ≠ some s.now then s.now else (s.now / 1000000 + 1) * 1000000

/-- The balance in its range. -/
def balClamp (s : State) (b : Int) : Int := clampInt (-2147483648000) (nrgCap s * 1000) b

/-- OVER follows the balance while no background slice runs: EV50 and a record as it becomes 1 (R404). -/
def overCheck (s : State) : State :=
  if 0 ≤ s.nrg.bal then s.setFlag NRG_STAT_OVER false
  else if s.nrg.slice.isSome || s.flag NRG_STAT_OVER then s
  else
    let s := ((s.setFlag NRG_STAT_OVER true).setFlag NRG_STAT_OVERSEEN true).raise 50
    s.record 0x0300 1 0 0 [(intWord (balMj s)).toNat, s.fld NRG_INPWR_MW]

/-- The meters count an interval of 1 ms (R393, R399). -/
def meter (s : State) (inUj : Nat) (isl : List Nat) : State :=
  let s := s.modNrg fun n => { n with
    inUj := (n.inUj + inUj) % 2 ^ 64
    islUj := (List.range 4).map fun i => (n.islUj.getD i 0 + isl.getD i 0) % 2 ^ 64 }
  let s := s.setFld NRG_INPWR_MW (Nat.min 0xFFFF inUj)
  (List.range 4).foldl (fun s i => s.setFld (NRG_ISLPWR_MW i) (Nat.min 0xFFFF (isl.getD i 0))) s

/-- The input energy of the millisecond, as the module takes it, in µJ. -/
def inputEnergy (s : State) (inputUj : Nat) : Nat := (userEff s 0x3024 inputUj 1).toNat

/-- The meters take in a millisecond (R396). -/
def metered (s : State) (inputUj : Nat) (islandUj : List Nat) : State :=
  let isl := (List.range 4).map fun i => (userEff s (0x3020 + i) (islandUj.getD i 0) 1).toNat
  (meter s (inputEnergy s inputUj) isl).modNrg fun n => { n with ledgerAt := some s.now }

/-- The balance is credited with the allowance and debited with the energy; in overdraw the energy is counted as deficit
(R396, R399); a capacity that has been written takes effect (R397). -/
def settle (s : State) (e : Nat) : State :=
  let d := s.nrg.defUj + (if s.flag NRG_STAT_OVER then e else 0)
  let s := s.modNrg fun n => { n with cap := s.fld NRG_CAP_MJ }
  let b := s.nrg.bal + (s.fld NRG_ALLOW_MW : Int) - (e : Int)
  overCheck ((s.count32 NRG_DEFICIT (d / 1000)).modNrg fun n => { n with defUj := d % 1000, bal := balClamp s b })

/-- LEDGER_UPDATE: at a whole millisecond the meters' readings of that millisecond, in µJ, come in: the balance is credited
with the allowance and debited with the input energy; in a freeze only the meters count (R396, R399). -/
def execLedgerUpdate (inputUj : Nat) (islandUj : List Nat) (s : State) : Host.Outcome State Fault Refusal :=
  if s.boot.held then .next s
  else if s.frz.frozen then .next (metered (s.at (ledgerNext s)) inputUj islandUj)
  else .next (settle (metered (s.at (ledgerNext s)) inputUj islandUj) (inputEnergy (s.at (ledgerNext s)) inputUj))

/-! ### Background slices (R401 to R406) -/

/-- The class of a duty. -/
def dutyClass : Duty → Nat
  | .audit _ => 2
  | .scrub => 2
  | _ => 3

/-- The funds for a slice of the duty suffice: in LIMITING nothing is funded, and with EN = 0 the ledger is not regarded
(R403, R415, R416). -/
def funded (s : State) (d : Duty) (est : Nat) : Bool :=
  if s.flag NRG_STAT_LIMITING then false
  else if !s.flag NRG_CTRL_EN then true
  else if dutyClass d = 2 then decide ((est : Int) ≤ available s)
  else decide ((est : Int) ≤ available s - (nrgRes3 s : Int) * 1000)

/-- The scrub duty's deadline: one full pass within 24 h. -/
def scrubDeadline (s : State) : Nat := s.nrg.pass + 86400000000000

/-- The audit deadline of a task (R407). -/
def auditDeadline (s : State) (k : Nat) : Nat := (s.aud k).start + (s.aud k).len * 1000000000

/-- A slice of the duty is in force. -/
def inSlice (s : State) (d : Duty) : Bool :=
  match s.nrg.slice with
  | some x => decide (x.duty = d)
  | none => false

/-- The scrub pass is behind the line that leads it to its end after the target time (R406). -/
def scrubWaits (s : State) : Bool := decide (s.nrg.done * (s.nrg.hours * 3600000000000) ≤ (s.now - s.nrg.pass) * scrubTotal)

/-- A byte of the address map lies in a memory that the scrub reads: on-chip SRAM or firmware memory (R401). -/
def scrubbed (a : Nat) : Bool := decide (a < 0x40000000) || (decide (0x60000000 ≤ a) && decide (a < 0x60400000))

/-- A pass ends: every word has been read. What ECC corrected is written back, with EV59; EV60 where it could not correct a word;
the next pass begins at once, with the target that is then set (R406, R428). -/
def scrubEnd (s : State) : State :=
  let one := s.mem.eccOne.any scrubbed
  let bad := s.mem.ecc.any scrubbed || !s.gz.eccDir.isEmpty || !s.gz.eccEnt.isEmpty || !s.gz.cacheBad.isEmpty
  let s := s.modNrg fun x => { x with done := 0, lastPass := s.now, pass := s.now, hours := s.fld NRG_SCRUB_HOURS }
  let s := { s with mem := { s.mem with eccOne := s.mem.eccOne.filter fun a => !scrubbed a } }
  let s := if one then s.raise 59 else s
  if bad then s.raise 60 else s

/-- The scrub goes on by a number of bytes that the spec does not give, at least `least`: a free one (log 1). -/
def scrubOn (s : State) (least : Nat) : State :=
  let d := s.drawWord
  let n := d.2.nrg.done + Nat.max least d.1.toNat
  if n < scrubTotal then d.2.modNrg fun x => { x with done := n } else scrubEnd d.2

/-- MRAM wear management reads the array, and what ECC corrected is written back (R646, R35). -/
def wearOn (s : State) : State :=
  let mine (a : Nat) : Bool := decide (0x40000000 ≤ a) && decide (a < 0x41000000)
  let one := s.mem.eccOne.any mine
  let s := { s with mem := { s.mem with eccOne := s.mem.eccOne.filter fun a => !mine a } }
  if one then s.raise 59 else s

/-- A duty is forced as class 1 work: EV52, its count and a record (R405). -/
def forcedDuty (s : State) (scrub : Bool) (task : Nat) : State :=
  let s := (s.raise 52).count (if scrub then NRG_FORCED_SCRUB else NRG_FORCED_AUDIT) 0xFFFF 1
  s.record 0x0123 1 (if scrub then 0 else 1) task [b2n scrub, task]

/-- FORCED_SCRUB: the pass has fallen behind its schedule line: one slot of class 1 work, of 1 MiB or more (R405, R406). -/
def execForcedScrub (s : State) : Host.Outcome State Fault Refusal :=
  if feltRuns s && decide (s.nrg.done * 86400000000000 < (s.now - s.nrg.pass) * scrubTotal) then
    .next (scrubOn (forcedDuty s true 0) 1048576)
  else .next s

/-- TRACE_RECORD_WRITE: the oldest sample that waits is written in a class 3 slice, or marks a gap (R379). A funded write
takes a slice granted to the buffer. -/
def execTraceRecordWrite (buf : Fin 8) (funded : Bool) (s : State) : Host.Outcome State Fault Refusal :=
  let b := buf.val
  match (s.trcb b).waiting with
  | [] => .next s
  | x :: rest =>
    if !feltRuns s || (funded && !inSlice s (.traceWrite buf)) then .next s
    else
      let s := s.setTrcb b { s.trcb b with waiting := rest }
      .next (if funded then trcAfter (trcWrite s b x false) b else trcShed s b)

/-! ### Set-points (R410 to R415) -/

/-- The evaluation window of a task in ns (R412). -/
def evalWindow (s : State) (k : Nat) : Nat :=
  if k < 16 then taskL s k - taskM s k - taskD s k else taskM s k

/-- The slack in %, none in LIMITING (R412, R416). -/
def slack (s : State) : Nat := if s.flag NRG_STAT_LIMITING then 0 else Nat.min 100 (s.fld NRG_CTRL_SLACK)

/-- An inline audit falls into a release at an instant (R142): the last cyclic release before the end of the interval, taking the
next one to follow a period later (log 31), or an event task's first one after it. -/
def inlineAt (s : State) (k at_ : Nat) : Bool :=
  let t := s.task k
  s.flag GZ_CTRL_AUDEN && !(t.first || t.resync || fullScan s k) && (s.aud k).start != 0 && !(s.aud k).wasFull &&
    (if k < 16 then decide (auditDeadline s k ≤ at_ + taskP s k) else decide (auditDeadline s k ≤ at_))

/-- The task's present cycle evaluates every segment: as its release found it, and before the release as it is foreseen for a
release at T_s + D, or for an event task at its start (R412). -/
def wholeCycle (s : State) (k : Nat) : Bool :=
  let t := s.task k
  if t.released then t.full
  else t.first || t.resync || fullScan s k || inlineAt s k (t.ts + if k < 16 then taskD s k else 0)

/-- A code's predicted pace on an island meets what a task needs there; a demand that is not known is met by none (R412). -/
def codeMeets (s : State) (i code k : Nat) : Bool :=
  let full := wholeCycle s k
  let q := demand s k full i
  let pace := (userEff s (0x3040 + i) (Config.predictedPace i code (s.fldInt (NRG_ISLTEMP_TEMP i))) 1).toNat
  !(s.nrg.hist.get [] (2 * k + b2n full)).isEmpty && decide (q * (100 + slack s) * 1000 ≤ pace * 100 * evalWindow s k)

/-- The tasks whose cycle has started and whose evaluation has not ended. -/
def evaluatingTasks (s : State) : List Nat :=
  (List.range 24).filter fun k => (s.task k).active && !(s.task k).ended

/-- The code that Felt plans for an island (R413 to R415). -/
def planCode (s : State) (i : Nat) : Nat :=
  let ts := (evaluatingTasks s).filter fun k => (taskIslands s k).contains i
  if ts.isEmpty then Nat.min 66 (s.fld NRG_CTRL_IDLECODE)
  else if ts.any fun k => s.nrg.catch_.contains k then 66
  else ((List.range 66).find? fun c => ts.all fun k => codeMeets s i c k).getD 66

/-- Felt re-plans every island (R413, R415). -/
def replan (s : State) : State :=
  (List.range 4).foldl (fun s i =>
    let c := if !s.flag NRG_CTRL_EN then 36
      else if s.flag (NRG_ISLCTRL_FIX i) then Nat.min 66 (s.fld (NRG_ISLCTRL_FIXCODE i))
      else planCode s i
    s.setFld (NRG_ISLSTAT_CODE i) c) s

/-- CATCH_UP: an evaluation still running past its predicted time sends its islands to code 66 (R414). -/
def execCatchUp (task : TaskId) (s : State) : Host.Outcome State Fault Refusal :=
  let k := task.val
  let t := s.task k
  let full := wholeCycle s k
  let late := (taskIslands s k).map fun i =>
    let pace := s.fld (NRG_ISLSTAT_PACE i)
    if pace = 0 then 0 else demand s k full i * 1000 / pace
  if feltRuns s && t.evaluating && s.flag NRG_CTRL_EN && !(s.nrg.hist.get [] (2 * k + b2n full)).isEmpty then
    let s := s.at (t.relTime + late.foldl Nat.max 0)
    .next (replan (s.modNrg fun n => { n with catch_ := n.catch_.add k }))
  else .next s

/-- PACE_READ: every 10 µs the pace of each island is read, and counts into the demand of the tasks between their release and the
end of their evaluation (R395, R411). -/
def execPaceRead (paces : List Nat) (s : State) : Host.Outcome State Fault Refusal :=
  if !feltRuns s then .next s
  else
    let s := s.at (ceilDiv s.now 10000 * 10000)
    let p (i : Nat) : Nat := Nat.min 0xFFFF (paces.getD i 0)
    let s := (List.range 4).foldl (fun s i => s.setFld (NRG_ISLSTAT_PACE i) (p i)) s
    .next ((List.range 24).foldl (fun s k =>
      if (s.task k).active && (s.task k).released && !(s.task k).ended then
        s.modTask k fun t => { t with hs := (List.range 4).map fun i => t.hs.getD i 0 + 10 * p i }
      else s) s)

/-- The end of a task's evaluation: its demand is recorded, its catch-up ends, and the islands are planned again
(R411, R413). -/
def feltEvaluated (s : State) (k : Nat) : State :=
  let key := 2 * k + b2n (wholeCycle s k)
  let hs := (s.task k).hs
  replan (s.modNrg fun n => { n with
    hist := n.hist.set [] key ((hs :: n.hist.get [] key).take 8), catch_ := n.catch_.del k })

/-! ### Temperatures (R394, R416, R417) -/

/-- The peak junction temperature is set to the present one. -/
def peakReset (s : State) : State := s.setFld NRG_TJ_TJMAX (s.fld NRG_TJ_TJ)

/-- LIMITING begins at 110 °C and ends below 107 °C (R416). -/
def thermalState (s : State) (t : Int) : State :=
  if s.flag NRG_STAT_LIMITING then
    (if t < 1070 then (s.setFlag NRG_STAT_LIMITING false).modNrg fun n => { n with limit := none, limited := false } else s)
  else if 1100 ≤ t then
    (s.setFlag NRG_STAT_LIMITING true).modNrg fun n => { n with limit := some s.now, limited := false }
  else s

/-- TEMPERATURE_READ: every 100 µs the five sensors are read, in units of 0.1 °C (R394, R416, R417). -/
def execTemperatureRead (islands : List Int) (coreTemp : Int) (s : State) : Host.Outcome State Fault Refusal :=
  if !feltRuns s then .next s
  else
    let s := s.at (ceilDiv s.now 100000 * 100000)
    let c := userEff s 0x3014 coreTemp 10
    let isl := (List.range 4).map fun i => userEff s (0x3010 + i) (islands.getD i 0) 10
    let t := isl.foldl Max.max c
    let put (x : Int) : Nat := (BitVec.ofInt 16 x).toNat
    let s := (List.range 4).foldl (fun s i => s.setFld (NRG_ISLTEMP_TEMP i) (put (isl.getD i 0))) s
    let s := (s.setFld NRG_CORETEMP_TEMP (put c)).setFld NRG_TJ_TJ (put t)
    let s := if s.fldInt NRG_TJ_TJMAX < t then peakReset s else s
    let s := s.modNrg fun n => { n with
      hot := if t < 1250 then none else match n.hot with | some x => some x | none => some s.now }
    .next (thermalState s t)

/-- THERMAL_LIMIT_TIMEOUT: 10 ms in LIMITING with every island at the lowest code that its tasks allow, and still 110 °C or
more: EV51 and a record, once an entry (R416). -/
def execThermalLimitTimeout (s : State) : Host.Outcome State Fault Refusal :=
  match s.nrg.limit with
  | none => .next s
  | some t =>
    let lowest := (List.range 4).all fun i =>
      s.flag (NRG_ISLCTRL_FIX i) || !s.flag NRG_CTRL_EN || s.fld (NRG_ISLSTAT_CODE i) == planCode s i
    if feltRuns s && !s.nrg.limited && decide (1100 ≤ tj s) && lowest then
      let s := (s.at (t + 10000000)).modNrg fun n => { n with limited := true }
      .next (((s.setFlag NRG_STAT_LIMITSEEN true).raise 51).record 0x0301 1 0 0 [(s.reg NRG_TJ).toNat])
    else .next s

end Sys2Proof.Machine
end

