-- ==== Sys2Proof/Machine/Gauze.lean ====
section
/-!
DEFINITION. Gauze.lean: segments and the structures of Gauze outside the evaluation of a cycle (R110 to R129, R138 to R156):
code and CHECK, the rules of R113, equivalence faults and audits, value edits, and the replacement of segments.
-/
namespace Sys2Proof.Machine

def State.modGz (s : State) (f : Gauze → Gauze) : State := { s with gz := f s.gz }

/-! ### Code and CHECK (R118, R119) -/

/-- A code word of a segment, by its position. -/
def codeWord (s : State) (seg i : Nat) : Word := s.mem.code.word 0 (4 * ((s.hdr seg).start + i))

def segCode (s : State) (seg : Nat) : List Word := (List.range (s.hdr seg).len).map (codeWord s seg)

/-- Words as bytes, least significant byte first. -/
def wordBytes (ws : List Word) : List Byte := ws.flatMap fun w => toLE 4 w.toNat

/-- The CHECK of a header and its code (R119). -/
def segCheck (h : Hdr) (code : List Word) : Nat :=
  crc32c (wordBytes ((h.w0 &&& ~~~0x7F#32) :: h.w2 :: code))

/-! ### The image as addresses (R47) -/

/-- The address of a group in its view. -/
def groupAddr (g : Nat) : Nat := 0x10000000 + (if g < 16384 then 4 * g else 0x10000 + 4 * (g - 16384))

/-! ### The rules of R113 -/

/-- Every entry of every list, with its group. -/
def allSubs (s : State) : List (Nat × Sub) := (usedGroups s).flatMap fun g => (subs s g).map fun e => (g, e)

/-- Rule 4: what a segment of task k may write. -/
def mayWrite (s : State) (k g : Nat) : Bool :=
  if isStatus g then g == gMD (checkInWord k)
  else (isOutput g || isMarker g) && (loopOf s g).isNone && groupOwner s g == some k

/-- The tasks whose segments write, or read, a group. -/
def subTasks (s : State) (writer : Bool) (g : Nat) : List Nat :=
  dedup (((subs s g).filter fun e => e.writer == writer).map fun e => (s.hdr e.seg).task)

/-- A group that has no writer of its own, no station and no channel, and that segments of several tasks read: it has no one
owner (R46). -/
def sharedGroup (s : State) (g : Nat) : Bool :=
  let fed := (configuredStations s).any (fun key => (stnIn s key).contains g) || (localIn s).any fun x => x.g == g
  !isStatus g && !isOutput g && !(isInput g && fed) && (subTasks s true g).isEmpty && decide (1 < (subTasks s false g).length)

/-- Rule 5: what a segment of task k may read. -/
def mayRead (s : State) (k g : Nat) : Bool :=
  isStatus g || (groupOwner s g == some k && !sharedGroup s g) || (exchanges s k).any fun e => gMD e.1 == g

/-- The segments of a task that break R113, with those whose entries name another rank than their header. -/
def r113Bad (s : State) (k : Nat) : List Nat :=
  let es := (allSubs s).filter fun e => (s.hdr e.2.seg).cls != 0 && (s.hdr e.2.seg).task == k
  (es.filter fun e =>
    e.2.rank != (s.hdr e.2.seg).rank
      || (if e.2.writer then !mayWrite s k e.1 else !mayRead s k e.1)
      || es.any fun f => f.1 == e.1 && f.2.rank == e.2.rank && f.2.seg != e.2.seg
          && ((e.2.writer != f.2.writer) || (e.2.writer && f.2.writer && e.2.bytes &&& f.2.bytes != 0))).map (·.2.seg)

/-! ### Audits and equivalence faults (R138 to R144) -/

/-- The bit of %MDk's task and the fault items that a CONTROL record carries (log 14). -/
def faultItem (k seg addr count : Nat) (set : Bool) : List Byte :=
  toLE 1 k ++ toLE 1 (b2n set) ++ toLE 2 seg ++ toLE 4 addr ++ toLE 4 count

/-- An equivalence fault of a task (R143). -/
def equivFault (s : State) (k seg addr count : Nat) : State :=
  let s := s.modAud k fun a => { a with fault := true, eqCount := holdAt 255 count, eqSeg := seg, eqAddr := addr }
  let s := (s.raise 47).record 0x0121 2 1 k [k, seg, addr, count]
  controlItem s k itemFault (faultItem k seg addr count true)

/-- An audit interval of a task begins; a new length takes effect with it (R138, R187). -/
def auditInterval (s : State) (k at_ : Nat) : State :=
  s.modAud k fun a => { a with start := at_, len := s.fld GZ_AUDINT_SECONDS }

/-- An audit has completed: its interval restarts and it is counted (R138, R184). -/
def auditDone (s : State) (k : Nat) : State :=
  (auditInterval (s.count (GZ_AUDCNT_DONE k) 0xFFFF 1) k s.now).modAud k fun a => { a with
    req := false, done := holdAt 0xFFFFFFFF (a.done + 1) }

/-- Numbers of a set that belong to the task, and the others. -/
def ofTask (s : State) (k : Nat) (t : NSet) : NSet := t.filter fun n => (s.hdr n).cls != 0 && (s.hdr n).task == k
def notTask (s : State) (k : Nat) (t : NSet) : NSet := t.filter fun n => !((s.hdr n).cls != 0 && (s.hdr n).task == k)

/-- A unit leaves its run; a Serge core is the runtime's again, at system privilege (R195). -/
def UnitSt.leave (x : UnitSt) : UnitSt := { x with run := none, slot := [], wait := .none, priv := 1 }

/-- A unit drops the run it has. -/
def dropRun (s : State) (p : Run → Bool) : State :=
  s.units.foldl (fun s e =>
    match e.2.run with
    | some r => if p r then s.setUnit e.1 e.2.leave else s
    | none => s) s

/-- The idle audit of a task, if one is in progress, is abandoned, and its findings with it (R141). -/
def abandonAudit (s : State) (k : Nat) : State :=
  match s.gz.audit with
  | some a =>
    if a.task = k then
      let s := dropRun s fun r => r.audit && r.task == k
      let s := (s.modGz fun g => { g with audit := none, mismatch := notTask s k g.mismatch }).count
        (GZ_AUDCNT_ABANDONED k) 0xFFFF 1
      s.modAud k fun x => { x with abandoned := holdAt 0xFFFFFFFF (x.abandoned + 1) }
    else s
  | none => s

def abandonAny (s : State) : State := match s.gz.audit with | some a => abandonAudit s a.task | none => s

/-- An equivalence fault is cleared; a task that holds none is left as it is (R144). -/
def clearEquiv (s : State) (k : Nat) : State :=
  if (s.aud k).fault then
    let s := (auditInterval s k s.now).modAud k fun a => { a with fault := false }
    controlItem (s.modTask k fun t => { t with resync := true }) k itemFault (faultItem k 0 0 0 false)
  else s

/-- An idle audit of a task is requested (R139, R175). -/
def requestAudit (s : State) (k : Nat) : State := s.modAud k fun a => { a with req := true }

/-- AUDEN is written: from 0 to 1 every interval restarts, at 0 the audit in progress is abandoned (R138, R141). -/
def setAuden (s : State) (on : Bool) : State :=
  let old := s.flag GZ_CTRL_AUDEN
  let s := s.setFlag GZ_CTRL_AUDEN on
  if on && !old then (List.range 24).foldl (fun s k =>
    if (s.aud k).start = 0 then s else auditInterval s k s.now) s
  else if on then s
  else abandonAny s

/-- A write to GZ_CMD (R175). -/
def gzCmdWrite (s : State) (w : Word) : State :=
  let k := wbits w 4 0
  if k < 24 then
    let s := if wbit w 8 then clearEquiv s k else s
    if wbit w 9 then requestAudit s k else s
  else s

/-! ### Value edits (R145 to R147) -/

/-- An item of an edit record (R145); its byte 1 is ignored (DESIGN CHOICE, log 94). -/
def editItem (bs : List Byte) : EditItem :=
  ⟨fromLE (slice bs 0 1), fromLE (slice bs 2 2), fromLE (slice bs 4 4), toWord (fromLE (slice bs 8 4)),
    toWord (fromLE (slice bs 12 4))⟩

/-- The items of an edit record. -/
def editItems (bs : List Byte) : List EditItem := (List.range (bs.length / 16)).map fun i => editItem (slice bs (16 * i) 16)

/-- The %M word of a KIND 1 item. -/
def EditItem.mWord (x : EditItem) : Nat := (x.addr - 0x10090000) / 4

/-- The window words of a core-class segment: 0 and 1 private data base and limit, 2 and 3 stack (R219). -/
def segWin (s : State) (seg i : Nat) : Nat := (s.prog.win.get 0 (4 * seg + i)).toNat

/-- The task that an item concerns; `none` where nothing of a task lies there. -/
def editTask (s : State) (x : EditItem) : Option Nat :=
  if x.kind = 1 then groupOwner s (gMD x.mWord)
  else if (s.hdr x.seg).cls = 0 then none else some (s.hdr x.seg).task

/-- An item names no place that exists (status 0x0402). -/
def editRange (s : State) (x : EditItem) : Bool :=
  x.addr % 4 == 0 &&
    (if x.kind = 1 then x.seg == 0 && decide (0x10090000 ≤ x.addr) && decide (x.addr < 0x10190000)
     else if (s.hdr x.seg).cls = 0 then false
     else if x.kind = 2 then decide (segWin s x.seg 0 ≤ x.addr) && decide (x.addr + 4 ≤ segWin s x.seg 1)
     else x.kind == 3 && decide (x.addr < 4 * (s.hdr x.seg).len))

/-- The code of a segment with every KIND 3 item of a record applied. -/
def editedCode (s : State) (xs : List EditItem) (seg : Nat) : List Word :=
  xs.foldl (fun c x => if x.kind = 3 ∧ x.seg = seg then c.set (x.addr / 4) x.val else c) (segCode s seg)

/-- The status of an edit record; 0 where it is accepted (R147). -/
def editStatusOf (s : State) (bs : List Byte) : Nat :=
  let xs := editItems bs
  let ts := dedup (xs.filterMap (editTask s))
  if bs.isEmpty ∨ bs.length % 16 ≠ 0 then 0x0401
  else if bs.length > 512 ∨ xs.any (fun x => !editRange s x) then 0x0402
  else if xs.any fun x => x.kind == 3 && segCheck (s.hdr x.seg) (editedCode s xs x.seg) != x.mask.toNat then 0x0402
  else if ts.length > 1 then 0x0402
  else if s.tsk.prog = .preparing ∨ s.tsk.prog = .stopping then 0x0701
  else if xs.any fun x => x.kind == 1 &&
      (isStatus (gMD x.mWord) || (subs s (gMD x.mWord)).any (·.writer) || (editTask s x).isNone) then 0x0501
  else 0

/-- An edit record is judged and, if accepted, waits for the next release of its task; on an active module it travels to
the partner (R146, R451). -/
def editAccept (s : State) (bs : List Byte) : State × Nat :=
  let st := editStatusOf s bs
  let s := s.modGz fun g => { g with editStatus := st }
  if st ≠ 0 then (s, st)
  else
    let xs := editItems bs
    let k := (xs.filterMap (editTask s)).headD 0
    (controlItem (s.modGz fun g => { g with edits := g.edits ++ [⟨k, xs⟩] }) k itemEdit bs, 0)

/-- One item is applied (R145). -/
def editApplyItem (s : State) (x : EditItem) : State :=
  if x.kind = 1 then
    s.setM x.mWord ((s.img.m.get 0 x.mWord &&& ~~~x.mask) ||| (x.val &&& x.mask))
  else if x.kind = 2 then
    let old := s.mem.sram.word 0 x.addr
    { s with mem := { s.mem with sram := s.mem.sram.setWord 0 x.addr ((old &&& ~~~x.mask) ||| (x.val &&& x.mask)) } }
  else
    let h := s.hdr x.seg
    let s := { s with mem := { s.mem with code := s.mem.code.setWord 0 (4 * h.start + x.addr) x.val } }
    s.modGz fun g => { g with hdr := g.hdr.set {} x.seg { h with w3 := x.mask }, cache := g.cache.filter fun c => c % 65536 != x.seg }

/-- The due edits of a task are applied: the state, the %M groups edited and the segments marked (R146). -/
def editsApply (s : State) (k : Nat) : State × List Nat × List Nat :=
  let due := s.gz.edits.filter fun e => e.task == k
  if due.isEmpty then (s, [], [])
  else
    let xs := due.flatMap (·.items)
    let s := xs.foldl editApplyItem (abandonAudit s k)
    let s := s.modGz fun g => { g with
      edits := g.edits.filter fun e => e.task != k, editCount := holdAt 0xFFFFFFFF (g.editCount + due.length) }
    (s, (xs.filter (·.kind == 1)).map (fun x => gMD x.mWord), (xs.filter (·.kind != 1)).map (·.seg))

/-! ### Staging (R148 to R151) -/

/-- Words of a slot's data that step 4 of R151 requires. -/
def Staged.codeLen (x : Staged) : Nat := if x.remove then 0 else x.hdr.len
def Staged.need (x : Staged) : Nat := x.codeLen + x.rcount + x.wcount

/-- The staged code and the set words. -/
def Staged.code (x : Staged) : List Word := x.data.getMany 0 0 x.codeLen
def Staged.set (x : Staged) (i : Nat) : Word := x.data.get 0 (x.codeLen + i)

/-- Valid slots as numbers. -/
def validNums (s : State) : List Nat := (s.gz.slots.filter (·.2.valid)).map (·.1)

/-- There is room for a record (R150): a slot, and space for its set words, the record of the same segment given back. -/
def stageRoom (s : State) (x : Staged) : Bool :=
  let others := (validSlots s).filter fun y => y.seg != x.seg
  decide (others.length < 64)
    && decide (others.foldl (fun n y => n + y.rcount + y.wcount) (x.rcount + x.wcount) ≤ 65536)

/-- A record joins the set in a slot; another valid slot with its segment is cleared. -/
def stageInto (s : State) (n : Nat) (x : Staged) : State :=
  s.modGz fun g => { g with
    slots := Tbl.set (g.slots.filter fun e => !(e.2.valid && e.2.seg == x.seg && e.1 != n)) {} n { x with valid := true },
    stg := .staging }

/-- Staging is open. -/
def stagingOpen (s : State) : Bool := s.gz.stg == .empty || s.gz.stg == .staging

/-- A staging record of 0x4102:01 (R149). -/
def stageRecord (s : State) (bs : List Byte) : State × Nat :=
  if !stagingOpen s then (s, 0x0701)
  else if bs.length < 24 then (s, 0x0401)
  else
    let op := fromLE (slice bs 2 1)
    let w (i : Nat) : Word := toWord (fromLE (slice bs i 4))
    let x : Staged := { remove := op == 2, seg := fromLE (slice bs 0 2), hdr := ⟨w 4, 0, w 12, w 16⟩,
                        rcount := fromLE (slice bs 20 2), wcount := fromLE (slice bs 22 2) }
    if op = 0 ∨ op > 2 ∨ fromLE (slice bs 3 1) ≠ 0 ∨ x.rcount > 16383 ∨ x.wcount > 16383 then (s, 0x0402)
    else if bs.length ≠ 24 + 4 * x.need then (s, 0x0401)
    else if !stageRoom s x then (s, 0x0501)
    else
      let n := match (validNums s).find? fun i => (s.slot i).seg == x.seg with
        | some i => i
        | none => ((List.range 64).find? fun i => !(s.slot i).valid).getD 0
      let data := Tbl.setMany [] 0 0 ((List.range x.need).map fun i => w (24 + 4 * i))
      let s := stageInto s n { x with data := data, ptr := x.need }
      (controlItem s 0xFF itemStaging bs, 0)

/-- A staged record's bytes, as the partner receives it (R451). -/
def Staged.bytes (x : Staged) : List Byte :=
  toLE 2 x.seg ++ toLE 1 (if x.remove then 2 else 1) ++ toLE 1 0 ++ wordBytes [x.hdr.w0, 0, x.hdr.w2, x.hdr.w3]
    ++ toLE 2 x.rcount ++ toLE 2 x.wcount ++ wordBytes (x.data.getMany 0 0 x.need)

/-- A record has been withdrawn: no set is left where it was the last (R151). -/
def stagedLeft (s : State) : State :=
  if (validNums s).isEmpty then s.modGz fun g => { g with stg := .empty } else s

/-- The record of a segment is withdrawn, as the active module has withdrawn it (R151, R451). -/
def stageWithdraw (s : State) (seg : Nat) : State :=
  if !stagingOpen s || !((validSlots s).any fun x => x.seg == seg) then s
  else stagedLeft (s.modGz fun g => { g with
    slots := g.slots.map fun e => (e.1, if e.2.seg == seg then { e.2 with valid := false } else e.2) })

/-- A write to SEG_STGNUM: a valid record is withdrawn, a record is accepted, or the fields are written (R151, R162, R451). A
write of VALID = 1 to a valid slot judges it anew; one that is not accepted leaves the record (DESIGN CHOICE, log 95). -/
def stgnumWrite (s : State) (w : Word) : State :=
  if !stagingOpen s then s
  else
    let n := s.fld SEG_STGSEL_SLOT
    let old := s.slot n
    let x := { old with remove := wbit w 30, seg := wbits w 15 0, valid := false }
    let put (y : Staged) : State := s.modGz fun g => { g with slots := g.slots.set {} n y }
    if wbit w 31 then
      if x.ptr = x.need ∧ stageRoom (put x) x then controlItem (stageInto s n x) 0xFF itemStaging x.bytes
      else (if old.valid then s else put x).setFlag SEG_STGSTAT_SLOTERR true
    else if old.valid then controlItem (stagedLeft (put x)) 0xFF itemStaging (toLE 2 old.seg)
    else put x

/-- A write to a staging register of the selected slot (R163, R164). -/
def stgSlotWrite (s : State) (f : Staged → Staged) : State :=
  let n := s.fld SEG_STGSEL_SLOT
  s.modGz fun g => { g with slots := g.slots.modify {} n f }

/-- The slot takes writes to its counts, pointer and data. -/
def slotOpen (s : State) : Bool := stagingOpen s && !(s.slot (s.fld SEG_STGSEL_SLOT)).valid

def stgdataWrite (s : State) (w : Word) : State :=
  if slotOpen s then
    stgSlotWrite s fun x => if x.ptr > 36862 then x else { x with data := x.data.set 0 x.ptr w, ptr := x.ptr + 1 }
  else s

/-! ### Replacement (R148, R152 to R155) -/

/-- The staged set goes from STAGING to BUILDING; refused in PREPARING and STOPPING (R155, R165). -/
def stgCommit (s : State) : State × Nat :=
  if s.tsk.prog = .preparing ∨ s.tsk.prog = .stopping then (s, 0x0701)
  else if s.gz.stg = .staging then (s.modGz fun g => { g with stg := .building, stgErr := 0, stgErrSeg := 0 }, 0)
  else (s, 0)

/-- The set fails with an error and a segment (R152). -/
def stgFail (s : State) (err seg : Nat) : State := s.modGz fun g => { g with stg := .failed, stgErr := err, stgErrSeg := seg }

/-- The staged records in ascending segment number. -/
def stagedSet (s : State) : List Staged :=
  (dedup ((validSlots s).map (·.seg))).filterMap fun g => (validSlots s).find? fun x => x.seg == g

/-- The task that the set names: that of its first record. -/
def stagedTask (s : State) : Nat := match stagedSet s with | x :: _ => x.hdr.task | [] => 0

/-- The staged set has not been swapped when the program stops (R152). -/
def stgStopped (s : State) : State :=
  if s.gz.stg = .building ∨ s.gz.stg = .validating ∨ s.gz.stg = .armed then
    stgFail s 0x08 (match stagedSet s with | x :: _ => x.seg | [] => 0)
  else s

/-- The staged set is discarded: from BUILDING to ARMED the state is then FAILED with ERR 0x08, else EMPTY (R148, R152,
R153, R165, log 28). -/
def stgAbort (s : State) : State :=
  let t := stgStopped s
  t.modGz fun g => { g with
    slots := g.slots.filter fun e => !e.2.valid,
    stg := if s.gz.stg = t.gz.stg then .empty else .failed,
    stgErr := if s.gz.stg = t.gz.stg then 0 else t.gz.stgErr,
    stgErrSeg := if s.gz.stg = t.gz.stg then 0 else t.gz.stgErrSeg }

/-- A subscription entry as a word. -/
def Sub.word (e : Sub) (last : Bool) : Word :=
  toWord (b2n last * 2 ^ 31 + b2n e.writer * 2 ^ 30 + e.bytes * 2 ^ 26 + e.rank * 65536 + e.seg)

/-- Directory and entries for lists that stand one after the other in ascending G: where the module places lists is open
(log 27). -/
def buildLists (es : List (Nat × Sub)) : Tbl Word × Tbl Word :=
  (dedup (es.map (·.1))).foldl (fun (r : Tbl Word × Tbl Word × Nat) g =>
    let l := (es.filter (·.1 == g)).map (·.2)
    let n := l.length
    let ws := (l.zip (List.range n)).map fun e => e.1.word (e.2 + 1 == n)
    (r.1 ++ [(g, toWord (2 ^ 31 + r.2.2))],
      r.2.1 ++ ((ws.zip (List.range n)).map fun e => (r.2.2 + e.2, e.1)), r.2.2 + n)) ([], [], 0)
    |> fun r => (r.1, r.2.1.filter fun e => e.2 != 0)

/-- The entries that a staged record brings. -/
def Staged.entries (x : Staged) : List (Nat × Sub) :=
  if x.remove then [] else
  (List.range (x.rcount + x.wcount)).map fun i =>
    let w := x.set i
    (wbits w 18 0, ⟨decide (x.rcount ≤ i), wbits w 22 19, x.hdr.rank, x.seg⟩)

/-- The lowest place in the code store that is free for `n` words beside those in use (log 27). -/
def placeCode (used : List (Nat × Nat)) (n : Nat) : Option Nat :=
  least ((0 :: used.map (·.2)).filter fun c =>
    decide (c + n ≤ 2097152) && used.all fun u => decide (c + n ≤ u.1) || decide (u.2 ≤ c))

/-- Places for records one after the other; `none` where one finds none. -/
def placeAll (used : List (Nat × Nat)) : List Staged → Option (List Nat)
  | [] => some []
  | x :: rest =>
    match placeCode used x.codeLen with
    | none => none
    | some p => (placeAll ((p, p + x.codeLen) :: used) rest).map (p :: ·)

/-- The records with code, and their places beside the code of every segment. -/
def stagedNews (s : State) : List Staged := (stagedSet s).filter fun x => !x.remove
def stagedPlaces (s : State) : Option (List Nat) :=
  placeAll ((s.gz.hdr.filter fun e => e.2.cls != 0).map fun e => (e.2.start, e.2.start + e.2.len)) (stagedNews s)

/-- Headers, code and lists as they stand after the swap; the old code's words become free with the swap (R154). -/
def swapped (s : State) : State :=
  let xs := stagedSet s
  let staged (n : Nat) : Bool := xs.any fun x => x.seg == n
  let t := ((stagedNews s).zip ((stagedPlaces s).getD (List.replicate 64 0))).foldl (fun t e =>
    let x := e.1
    let old := s.hdr x.seg
    let ver := if old.cls = 0 then 0 else (old.version + 1) % 128
    let h : Hdr := ⟨(x.hdr.w0 &&& ~~~0x7F#32) ||| toWord ver, toWord e.2, x.hdr.w2, x.hdr.w3⟩
    { t with
      mem := { t.mem with
        code := (x.code.zip (List.range x.codeLen)).foldl (fun m c => Mem.setWord m 0 (4 * (e.2 + c.2)) c.1) t.mem.code }
      gz := { t.gz with hdr := Tbl.set t.gz.hdr {} x.seg h } }) s
  let es := (allSubs s).filter (fun e => !staged e.2.seg) ++ xs.flatMap Staged.entries
  let l := buildLists es
  t.modGz fun g => { g with
    hdr := g.hdr.filter fun e => !(xs.any fun x => x.remove && x.seg == e.1),
    dir := l.1, ent := l.2, eccDir := [], eccEnt := [] }

/-- The image operands of a record's code. -/
def Staged.uses (x : Staged) : List Use :=
  if x.hdr.cls = 1 then laneUses x.code else codeUses x.code (x.code.length + 1) 0

/-- The sets of a record cover an image operand: an instance record or an edge memory in %M may stand in the write set alone
(R127). -/
def covered (x : Staged) (u : Use) : Bool :=
  let has (writer : Bool) : Bool := (x.entries.filter fun e => e.1 == u.g && (e.2.writer == writer)).any fun e =>
    e.2.bytes &&& u.bytes == u.bytes
  (!u.wr || has true) && (!u.rd || has false || (u.inst && isMarker u.g && has true))

/-- The first check of R152 that the set fails, with its segment. -/
def stgCheck (s : State) : Option (Nat × Nat) :=
  let xs := stagedSet s
  let k := stagedTask s
  let news := stagedNews s
  let first (p : Staged → Bool) (l : List Staged) : Option Nat := (l.find? p).map (·.seg)
  let words := news.foldl (fun n x => n + x.codeLen) 0
  let ents := news.foldl (fun n x => n + x.rcount + x.wcount) 0
  let head := match news with | x :: _ => x.seg | [] => 0
  -- the set does not count as held while it is judged
  let pool := s.modGz fun g => { g with stg := .building }
  match first (fun x => segCheck x.hdr x.code != x.hdr.w3.toNat) news with
  | some n => some (0x01, n)
  | none =>
    match first (fun x => x.hdr.task != k || decide (23 < x.hdr.task)
        || (if (s.hdr x.seg).cls = 0 then x.remove else (s.hdr x.seg).task != k)) xs with
    | some n => some (0x02, n)
    | none =>
      match first (fun x => x.hdr.cls == 0 || x.hdr.cls == 3 || (x.hdr.cls == 1 && !laneJudged x.code)) news with
      | some n => some (0x03, n)
      | none =>
        match least (r113Bad (swapped s) k) with
        | some n => some (0x04, n)
        | none =>
          match first (fun x => x.uses.any fun u => !covered x u) news with
          | some n => some (0x05, n)
          | none =>
            if codeFree pool < words || (stagedPlaces s).isNone then
              some (0x06, head)
            else if entriesFree pool < ents then some (0x07, head)
            else none

/-- The armed set is swapped in one step: the state, and the replaced and added segments, which are marked (R154). -/
def swap (s : State) : State × List Nat :=
  let xs := stagedSet s
  let k := stagedTask s
  let news := (stagedNews s).map (·.seg)
  let added := news.filter fun n => (s.hdr n).cls == 0
  let mine (n : Nat) : Bool := xs.any fun x => x.seg == n
  let s := abandonAudit (swapped s) k
  let s := s.modGz fun g => { g with
    next := g.next.filter fun n => !mine n, settle := g.settle.filter fun n => !mine n,
    trig := g.trig.filter fun n => !mine n, pending := g.pending.filter fun n => !mine n,
    wheel := g.wheel.filter fun e => !mine e.1, cache := g.cache.filter fun c => !mine (c % 65536),
    cacheBad := g.cacheBad.filter fun c => !mine (c % 65536),
    slots := g.slots.filter fun e => !e.2.valid, stg := .empty }
  let s := { s with prog := { s.prog with win := s.prog.win.filter fun e => !added.contains (e.1 / 4) } }
  let s := s.count32 SEG_GEN 1
  let s := (s.setReg SEG_SWAPTL (toWord s.now)).setReg SEG_SWAPTH (toWord (s.now / 2 ^ 32))
  (s.record 0x0122 0 1 k [k, (s.reg SEG_GEN).toNat, xs.length], news)

end Sys2Proof.Machine
end

