-- ==== Sys2Proof/Machine/SafetyBase.lean ====
section
/-!
DEFINITION. SafetyBase.lean: what the rings and the field side see of the safety partition (R602, R611 to R613): safety
frames, connections and their containers; the partition's state.
-/
namespace Sys2Proof.Machine

def State.modSaf (s : State) (f : SafState → SafState) : State := { s with saf := f s.saf }
def State.setConn (s : State) (n : Nat) (c : SafConn) : State := s.modSaf fun x => { x with conns := x.conns.set {} n c }
def State.setAxis (s : State) (a : Nat) (x : SafAxis) : State := s.modSaf fun y => { y with axes := y.axes.set {} a x }
def State.setInput (s : State) (i : Nat) (x : SafInput) : State := s.modSaf fun y => { y with inputs := y.inputs.set {} i x }
def State.sto (s : State) (o : Nat) : StoOut := s.saf.stos.get {} o
def State.setSto (s : State) (o : Nat) (x : StoOut) : State := s.modSaf fun y => { y with stos := y.stos.set {} o x }

/-- States of R599. -/
def safUnconfigured : Nat := 0
def safUnconfirmed : Nat := 1
def safRunning : Nat := 2
def safStopped : Nat := 3

/-- The partition changes state: EV58 and a record (R599). -/
def setSafState (s : State) (st : Nat) : State :=
  if s.saf.state = st then s
  else
    let old := s.saf.state
    ((s.modSaf fun x => { x with state := st }).raise 58).record 0x0800 3 7 0 [old, st, s.saf.cause]

/-- The safety domain works: it stops in a freeze and in reset (R20, R601). -/
def safAlive (s : State) : Bool := !s.boot.held && !s.frz.frozen

/-- The partition opens connections and switches STO outputs on: RUNNING, and not on a standby (R623). -/
def safActs (s : State) : Bool := safAlive s && s.saf.state == safRunning && !standsBy s

/-! ### Parameters (R627 to R629) -/

def axisPar (s : State) (a sub : Nat) : Nat := s.objNum (0x7310 + a) sub
def connPar (s : State) (n sub : Nat) : Nat := s.objNum (0x7320 + n) sub
def inputPar (s : State) (i sub : Nat) : Nat := s.objNum (0x7340 + i) sub
def stoPar (s : State) (o sub : Nat) : Nat := s.objNum (0x7350 + o) sub

/-- The channels A and B of STO output o. -/
def stoChannels (s : State) (o : Nat) : List Nat := [stoPar s o 1, stoPar s o 2].filter fun c => decide (c < 32)

/-- The test-pulse sources of the safety inputs. -/
def pulseSources (s : State) : List Nat :=
  dedup (((List.range 8).flatMap fun i => [inputPar s i 3, inputPar s i 4]).filter fun c => decide (c < 32))

/-- The channels and encoder pairs that the partition's configuration claims (R608). -/
def safetyClaims (s : State) : List Nat :=
  let ch := (List.range 8).flatMap (fun i => [inputPar s i 1, inputPar s i 2])
    ++ (List.range 4).flatMap (fun o => [stoPar s o 1, stoPar s o 2])
  let enc := ((List.range 8).filter fun a => axisPar s a 1 != 0).map (fun a => axisPar s a 6)
  dedup (ch.filter (fun c => decide (c < 32)) ++ pulseSources s
    ++ (enc.filter fun j => decide (j < 16)).flatMap fun j => [32 + j, 2 * j, 2 * j + 1])

/-! ### Safety frames (R602) -/

/-- Every channel of the safety partition follows what the last frame permits. -/
def driveSafety (s : State) : State := ((List.range 32).filter fun k => (s.dchan k).mode == 5).foldl dDrive s

/-- SAFETY_FRAME_SEND: every 250 µs the partition tells the field side which STO channels it switches on and which test-pulse
sources it drives (R602, R607). In STOPPED and unconfigured it sends none. -/
def execSafetyFrameSend (s : State) : Host.Outcome State Fault Refusal :=
  if !safAlive s || (s.saf.state != safRunning && s.saf.state != safUnconfirmed) then .next s
  else
    let s := s.at (ceilDiv s.now 250000 * 250000)
    let on := if safActs s then
        ((List.range 4).filter fun o => (s.sto o).on && !(s.sto o).fault).flatMap (stoChannels s) else []
    .next (driveSafety (s.modField fun f => { f with safAt := s.now, stoOn := dedup on, pulses := pulseSources s }))

/-- SAFETY_SILENCE: no valid safety frame for 3 ms: the field side switches every STO output off and stops every test-pulse
source (R602). -/
def execSafetySilence (s : State) : Host.Outcome State Fault Refusal :=
  let s := s.at (s.field.safAt + 3000000)
  .next (driveSafety (s.modField fun f => { f with stoOn := [], pulses := [] }))

/-! ### Containers (R611 to R613) -/

/-- A connection is configured with its station. -/
def connKey (s : State) (n : Nat) : Nat := connPar s n 1 % 1024

/-- The connection of a station. -/
def connOf (s : State) (key : Nat) : Option Nat :=
  if s.saf.state = safUnconfigured then none
  else (List.range 32).find? fun n => connPar s n 1 != 0 && connKey s n == key

/-- Bytes that a station's container adds to its input and its output area. -/
def containerLen (s : State) (key : Nat) : Nat := if (connOf s key).isSome then 28 else 0

/-- A container. -/
def container (connid seq flags len : Nat) (data : List Byte) : List Byte :=
  let body := toLE 2 connid ++ toLE 2 seq ++ toLE 1 flags ++ toLE 1 len ++ toLE 2 0 ++ listFit 0 16 (data.take len)
  body ++ toLE 4 (crc32 body)

/-- The partition's container of connection n, with output data (R612, R613). -/
def connContainer (s : State) (n : Nat) (data : List Byte) : List Byte :=
  let c := s.safConn n
  let len := connPar s n 4 / 256
  container (connPar s n 2) c.seq (b2n (c.state != 2) + 2 * b2n (c.seq == 0)) len data

/-- A failure of a connection: zeros for its data, FSV, and it opens again (R613). -/
def connFail (s : State) (n : Nat) : State :=
  let c := s.safConn n
  s.setConn n { c with
    state := 3, seq := 0, sentAt := none, data := [], fsv := true, rxAt := none, fails := c.fails + 1 }

/-- A container from the station (R613): a bad CRC or an old SEQ is discarded, a wrong CONNID fails the connection. -/
def connReceive (s : State) (n : Nat) (bs : List Byte) : State :=
  let c := s.safConn n
  if !safActs s || c.state = 0 || bs.length ≠ 28 then s
  else if crc32 (bs.take 24) ≠ fromLE (slice bs 24 4) then s
  else if fromLE (slice bs 0 2) ≠ connPar s n 2 then connFail s n
  else if c.sentAt.isNone ∨ fromLE (slice bs 2 2) ≠ c.seq then s
  else
    let fsv := bit (fromLE (slice bs 4 1)) 0
    let data := (slice bs 8 16).take (connPar s n 4 % 256)
    s.setConn n { c with
      state := 2, seq := if c.seq = 0xFFFF then 1 else c.seq + 1, sentAt := none, rxAt := some s.now, fsv := fsv,
      data := if fsv then [] else data }

/-- A station's received container waits for the release of its task (R611). -/
def containerIn (s : State) (key : Nat) (bs : List Byte) : State :=
  s.modSaf fun x => { x with rx := x.rx.set [] key bs }

/-- At release the containers of a task's stations are delivered to the partition (R611). -/
def containersDeliver (s : State) (k : Nat) : State :=
  (taskStations s k).foldl (fun s key =>
    match connOf s key, s.saf.rx.get [] key with
    | some n, b :: bs => (connReceive s n (b :: bs)).modSaf fun x => { x with rx := x.rx.set [] key [] }
    | _, _ => s) s

/-- The latest container of a station, as the transmit copy takes it (R611). -/
def containerOut (s : State) (key : Nat) : List Byte :=
  match connOf s key with
  | none => []
  | some n => listFit 0 28 (s.safConn n).out

/-- The container is taken at an end of evaluation: the watchdog of its SEQ starts when that is first sent (R613). -/
def containerTaken (s : State) (key : Nat) : State :=
  match connOf s key with
  | none => s
  | some n =>
    let c := s.safConn n
    if c.sentAt.isNone && (c.state == 1 || c.state == 2 || c.state == 3) && fromLE (slice c.out 2 2) == c.seq
        && !c.out.isEmpty then
      s.setConn n { c with sentAt := some s.now }
    else s

/-- CONNECTION_WATCHDOG: the sent SEQ has not come back within W: the connection fails (R613). -/
def execConnectionWatchdog (conn : Fin 32) (s : State) : Host.Outcome State Fault Refusal :=
  let n := conn.val
  let c := s.safConn n
  match c.sentAt with
  | none => .next s
  | some t =>
    if !safActs s || c.state = 3 then .next s
    else .next (connFail (s.at (t + connPar s n 3 * 1000000)) n)

end Sys2Proof.Machine
end

