-- ==== Sys2Proof/Machine/Stop.lean ====
section
/-!
DEFINITION. Stop.lean: program stops (R77 to R80, R88) and the task watchdog (R81 to R86).
-/
namespace Sys2Proof.Machine

def State.modTsk (s : State) (f : TskState → TskState) : State := { s with tsk := f s.tsk }

/-! ### Program stops (R80) -/

/-- What a task keeps when its evaluation halts: its counts, its grid and the time of its last evaluated cycle. -/
def TaskSt.halted (t : TaskSt) : TaskSt :=
  { t with
    active := false, released := false, relBusy := false, exchBusy := false, evaluating := false, rank := 0,
    startPending := false, first := false, full := false, inline := false, struck := false, ended := false,
    late := t.late || (!t.released && t.latePrev), latePrev := false }

/-- All task evaluation halts; writes already committed stay, what has been struck is published, and no catch-up goes on (R56,
R80, R141, R414). -/
def haltEvaluation (s : State) : State :=
  let s := dropRun (abandonAny s) fun _ => true
  let s := s.modGz fun g => { g with ready := [], extra := [] }
  let s := (List.range 24).foldl (fun s k => s.modTask k TaskSt.halted) (applyHeld s)
  replan (s.modNrg fun n => { n with catch_ := [] })

/-- The program is STOPPED once every stop is acknowledged or timed out; the recorder records the cause (R80). -/
def finishStop (s : State) : State :=
  if s.tsk.prog = .stopping ∧ noStops s then
    let s := s.modTsk fun t => { t with prog := .stopped }
    let sev := if s.tsk.cause = 1 ∨ s.tsk.cause = 9 then 1 else 2
    let k := s.tsk.stopTask
    s.record (0x0100 + s.tsk.cause) sev (if k < 24 then 1 else 0) (if k < 24 then k else 0)
      [k, s.tsk.stopTime % 2 ^ 32, s.tsk.stopTime / 2 ^ 32]
  else s

/-- What a stopping program leaves besides its cause: evaluation and loops halted, cyclic transactions cancelled, a staged
set failed, the program's waiting CAN frames aborted, the task watchdog off (R80, R86, R152, R297, R584). -/
def haltProgram (s : State) : State :=
  let s := canProgramStop (cancelCyclic (stgStopped (haltLoops (haltEvaluation s))) false)
  s.modTsk fun t => { t with wdStart := none, wdDupNow := [] }

/-- A program stop with a cause and a task (R77, R80). Only a module that acts queues stops and commands the safe pattern
(R439); in a pair a common-mode stop travels to the partner (R464). -/
def programStop (s : State) (cause k : Nat) : State :=
  if s.tsk.prog = .running then
    let s := s.modTsk fun t => { t with prog := .stopping, cause := cause, stopTask := k, stopTime := s.now }
    let s := haltProgram s
    let s := if 2 ≤ cause ∧ cause ≤ 5 then s.raise 49 else s
    let s := if cause ≤ 5 ∨ cause = 7 then controlItem s 0xFF itemStop (toLE 1 cause ++ toLE 1 k) else s
    let s := if s.acts then fieldCmd (queueStops s) .safe else s
    finishStop s
  else s

/-- A stop of a program that is being prepared: STOPPED at once, with no stops (R88). A start that is refused with cause 0x06 is
refused on both modules of a pair (R464). -/
def stopPreparing (s : State) (cause k : Nat) : State :=
  if s.tsk.prog = .preparing then
    let s := s.modTsk fun t => { t with
      prog := .stopping, cause := cause, stopTask := k, stopTime := s.now, prepEnd := none }
    finishStop (if cause = 6 then controlItem s 0xFF itemStop (toLE 1 6 ++ toLE 1 k) else s)
  else s

/-- A stop command, which succeeds in every state (R88). -/
def stopCommand (s : State) : State := programStop (stopPreparing s 1 0xFF) 1 0xFF

/-! ### The end of shadow evaluation (R436, R446, R447) -/

/-- A partner leaves READY: its shadow evaluation halts, and it takes another role. -/
def leaveShadow (s : State) (r : Nat) : State :=
  let s := (haltLoops (haltEvaluation s)).modTsk fun t => { t with
    prog := .stopped, prepEnd := none, wdStart := none, wdDupNow := [] }
  setRole (s.modHsb fun h => { h with
    switch := none, takeover := none, planned := false, deltas := [],
    copying := r == roleSyncing, copyAt := if r = roleSyncing then s.now else h.copyAt }) r

/-- A digest mismatch; the third within 1 h makes the partner UNFIT (R447). -/
def digestMismatch (s : State) (k cycle : Nat) : State :=
  let recent := (s.now :: s.hsb.mismatches).filter fun t => decide (s.now < t + 3600000000000)
  let s := ((s.raise 54).count32 HSB_DIGERR 1).record 0x0401 2 1 k [k, cycle]
  leaveShadow (s.modHsb fun h => { h with mismatches := recent }) (if 3 ≤ recent.length then roleUnfit else roleSyncing)

/-- The digest of an END record is compared with that of the shadow evaluation, which has ended (R446, R447). -/
def digestJudge (s : State) (k : Nat) : State :=
  let d := s.delta k
  let s := s.setDelta k { d with digest := [], endDue := false }
  if s.role ≠ roleReady then s
  else if d.digest = deltaDigest s k then prove s 2
  else digestMismatch s k (d.rx.getD 0)

/-! ### Task watchdog (R81 to R86) -/

def wdOn (s : State) : Bool := s.flag TSK_WDCTRL_EN
def wdWatched (s : State) (k : Nat) : Bool := bit (s.fld TSK_WDMASK_MAP) k
def wdAuto (s : State) (k : Nat) : Bool := bit (s.fld TSK_WDAUTO_MAP) k
def wdSeen (s : State) (k : Nat) : Bool := bit (s.fld TSK_WDSEEN_MAP) k

/-- W in ns. -/
def wdW (s : State) : Nat := s.fld TSK_WDCTRL_WIN * 1000000

/-- The watched, enabled cyclic tasks. -/
def wdCyclic (s : State) : List Nat := (cyclicTasks s).filter (wdWatched s)

/-- W is at least twice the period of every watched cyclic task; the lowest-numbered one that breaks this (R82). -/
def wdBad (s : State) : Option Nat := ((List.range 16).filter (wdWatched s)).find? fun k => decide (wdW s < 2 * taskP s k)

/-- A window begins. -/
def wdWindow (s : State) (t : Nat) : State :=
  (s.setFld TSK_WDSEEN_MAP 0).modTsk fun x => { x with wdStart := some t, wdDupNow := [] }

/-- The first window of a watchdog that was enabled at the start (R81): at the entry to RUNNING without watched cyclic task,
else when every one has completed its first evaluation. -/
def wdFirst (s : State) (entry : Bool) : State :=
  if wdOn s && s.running && s.acts && s.tsk.wdStart.isNone &&
      (if (wdCyclic s).isEmpty then entry else (wdCyclic s).all fun k => (s.task k).evaluated) then wdWindow s s.now
  else s

/-- The end of a window: a watched task that has not checked in trips the watchdog; else the next window begins (R86). -/
def wdWindowEnd (s : State) : State :=
  match s.tsk.wdStart with
  | none => s
  | some t =>
    let s := s.at (t + wdW s)
    let miss := s.fld TSK_WDMASK_MAP &&& (0xFFFFFF ^^^ s.fld TSK_WDSEEN_MAP)
    if miss ≠ 0 then
      let k := ((List.range 24).find? fun k => bit miss k).getD 0
      programStop ((s.setFld TSK_WDMISS_MAP miss).setFld TSK_WDSEEN_MAP 0) 3 k
    else wdWindow s (t + wdW s)

/-- A window whose end has come ends before a check-in at that instant (R84). -/
def wdDue (s : State) : State :=
  match s.tsk.wdStart with
  | some t => if t + wdW s ≤ s.now then wdWindowEnd s else s
  | none => s

/-- A task checks in: in the window that contains the instant (R84, R85). -/
def checkIn (s : State) (k : Nat) : State :=
  let s := wdDue s
  if !wdOn s || !wdWatched s k || s.tsk.wdStart.isNone then s
  else if wdSeen s k then
    let s := s.setFlag ⟨TSK_WDDUP, k, k⟩ true
    if s.flag TSK_WDCTRL_STRICT then programStop (s.setFld TSK_WDMISS_MAP 0) 3 k
    else if s.tsk.wdDupNow.contains k then s
    else (s.modTsk fun t => { t with wdDupNow := t.wdDupNow.add k }).raise 48
  else s.setFlag ⟨TSK_WDSEEN, k, k⟩ true

/-- The automatic check-in at the end of a task's first evaluation in a window (R83). -/
def autoCheckIn (s : State) (k : Nat) : State :=
  if wdAuto s k then
    let s := wdDue s
    if wdSeen s k then s else checkIn s k
  else s

/-- The watched tasks and the automatic check-ins that 0x4020 has accepted go into their registers at an enable (R107). -/
def wdMaps (s : State) : State :=
  let put (s : State) (sub : Nat) (f : Fld) : State := if (s.obj 0x4020 sub).isEmpty then s else s.setFld f (s.objNum 0x4020 sub)
  if s.tsk.wdNext then (put (put s 4 TSK_WDMASK_MAP) 5 TSK_WDAUTO_MAP).modTsk fun t => { t with wdNext := false } else s

/-- A write to TSK_WDCTRL (R82, R104, log 87): WIN and STRICT hold while EN is 1; an enabling write that breaks R82 sets BADCFG. -/
def wdctrlWrite (s : State) (w : Word) : State :=
  let s := if wbit w 2 then s.setFlag TSK_WDCTRL_BADCFG false else s
  if wdOn s then
    if wbit w 0 then s
    else
      ((s.setFlag TSK_WDCTRL_EN false).setFld TSK_WDSEEN_MAP 0).modTsk fun t => { t with wdStart := none, wdDupNow := [] }
  else
    let s := (s.setFld TSK_WDCTRL_WIN (wbits w 31 16)).setFlag TSK_WDCTRL_STRICT (wbit w 1)
    let t := wdMaps s
    if !wbit w 0 then s
    else if (wdBad t).isSome then s.setFlag TSK_WDCTRL_BADCFG true
    else
      let s := t.setFlag TSK_WDCTRL_EN true
      if s.running then wdWindow s s.now else s

end Sys2Proof.Machine
end

