-- ==== Sys2Proof/Machine/Release.lean ====
section
/-!
DEFINITION. Release.lean: a cycle from its sample instant to its release (R49 to R60, R70 to R76, R123, R128 to R135, R142):
sampling, the exchange copy, what release does to the image and which segments it marks.
-/
namespace Sys2Proof.Machine

/-! ### Marking (R123, R128, R129) -/

/-- The groups whose change bits a task's release clears: those it owns, its check-in word among them, and the slots and status
words that it watches (R46, R123). -/
def taskGroups (s : State) (k : Nat) : List Nat :=
  let used := usedGroups s ++ s.prog.app.map (·.2.g)
  dedup (inputGroups s k ++ (used.filter fun g => groupOwner s g == some k) ++ (gMD (checkInWord k) :: (watchedWords s k).map gMD))

/-- Gauze meets an uncorrectable error in a group's list: EV60, and full scan from the next release (R156). -/
def subsRead (s : State) (k g : Nat) : State :=
  if subsBad s g then (s.raise 60).modTask k fun t => { t with eccFull := true } else s

/-- A reader of a changed group is marked: pending at a release; at a commit of rank r pending when its rank is higher, else
for the next cycle. -/
def markOne (s : State) (r : Option Nat) (e : Sub) : State :=
  s.modGz fun g =>
    if (match r with | none => true | some n => decide (n < e.rank)) then
      { g with pending := g.pending.add e.seg, extra := g.extra.del e.seg }
    else { g with next := g.next.add e.seg }

/-- Changed groups with their changed bytes: change bits, and marks for the task's own readers (R129, R130). -/
def markChanges (s : State) (k : Nat) (r : Option Nat) (chg : List (Nat × Nat)) : State :=
  chg.foldl (fun s c =>
    let s := subsRead (s.modGz fun g => { g with change := g.change.add c.1 }) k c.1
    ((subs s c.1).filter fun e =>
      !e.writer && (s.hdr e.seg).task == k && (s.hdr e.seg).cls != 0 && e.bytes &&& c.2 != 0).foldl
        (fun s e => markOne s r e) s) s

/-- What a release finds before it marks: the groups that edits changed, and whether a swap or an edit took place. -/
structure Prep where
  s      : State
  edited : List Nat := []
  swap   : Bool := false
  edit   : Bool := false

/-- The steps of a release before any marking, and the first pending set (R130): edits and a swap are applied, change and run
bits are cleared, and next, settle, always, triggered and due wheel entries become pending. A partner applies edits and a set
only at the release where the active module did (R451). -/
def releasePrep (s : State) (k : Nat) (mayEdit maySwap : Bool) : Prep :=
  let s := abandonAudit s k
  let hasEdit := mayEdit && s.gz.edits.any fun e => e.task == k
  let e := if mayEdit then editsApply s k else (s, [], [])
  let s := e.1
  let hasSwap := maySwap && s.gz.stg == .armed && stagedTask s == k
  let w := if hasSwap then swap s else (s, [])
  let s := w.1
  let tt := (s.task k).ts
  let always := (taskSegs s k).filter fun n => (s.hdr n).always
  let due := ((s.gz.wheel.filter fun x => x.2 != 0 && decide (x.2 ≤ tt)).map (·.1)).filter fun n => (taskSegs s k).contains n
  let marks := (e.2.2 ++ w.2).filter fun n => (taskSegs s k).contains n
  let first := dedup (ofTask s k (s.gz.next ++ s.gz.settle ++ s.gz.trig) ++ always ++ due ++ marks)
  let mine := taskGroups s k
  let s := s.modGz fun g => { g with
    change := g.change.filter (fun x => !mine.contains x), cleared := g.cleared.map (·.addAll mine),
    run := notTask s k g.run,
    pending := NSet.addAll (notTask s k g.pending) first,
    next := notTask s k g.next, settle := notTask s k g.settle, trig := notTask s k g.trig,
    wheel := g.wheel.filter fun x => !due.contains x.1 }
  { s := s, edited := e.2.1, swap := hasSwap, edit := hasEdit }

/-! ### Release (R51) -/

/-- Every bound station is committed and every bound local input delivered (R51). -/
def allIn (s : State) (k : Nat) : Bool :=
  (taskStations s k).all (fun key => s.img.comm.contains key)
    && ((localInGroups s k).isEmpty || s.img.comm.contains (localKey k))

/-- Stations whose inputs are not committed count as missing; the others as ready. A station lost or found again is an event
of its ring (R35, R51, R322, log 30). -/
def judgeStations (s : State) (k : Nat) : State :=
  (taskStations s k).foldl (fun s key =>
    let old := (s.srec key).state
    if s.img.comm.contains key then
      let s := if old = 4 then s.raise (32 + key / 256) else s
      s.modSrec key fun x => { x with state := 3 }
    else
      let s := if old = 3 then s.raise (32 + key / 256) else s
      stnBad (s.modSrec key fun x => { x with
        missing := holdAt 0xFFFFFFFF (x.missing + 1), state := if x.config then 4 else x.state }) k key) s

/-- MODE of an INPUT record (R443). -/
def modeBits (first full resync inline swap edit : Bool) : Nat :=
  b2n first + 2 * b2n full + 4 * b2n resync + 8 * b2n inline + 16 * b2n swap + 32 * b2n edit

/-- Marks the release: the changes, then every segment where the cycle evaluates all of them. What it would not have marked
is kept for an inline audit. -/
def markRelease (s : State) (k : Nat) (chg : List (Nat × Nat)) (whole inline : Bool) : State :=
  let s := markChanges s k none chg
  if whole then
    let all := taskSegs s k
    s.modGz fun g => { g with
      extra := if inline then NSet.addAll (notTask s k g.extra) (all.filter fun n => !g.pending.contains n)
               else notTask s k g.extra,
      pending := NSet.addAll g.pending all,
      mismatch := if inline then notTask s k g.mismatch else g.mismatch }
  else s.modGz fun g => { g with extra := notTask s k g.extra }

/-- The audit interval at a release: it counts from the first cycle, and from the first change-driven release after
full-scan mode (R138); `whole`: this cycle evaluates every segment. -/
def auditAtRelease (s : State) (k : Nat) (whole : Bool) : State :=
  let t := s.task k
  let a := s.aud k
  let s := if t.first then auditInterval s k t.ts else if a.wasFull && !whole then auditInterval s k s.now else s
  s.modAud k fun a => { a with
    wasFull := fullScan s k || (a.wasFull && whole), inBytes := 0, inSeg := 0, inAddr := 0 }

/-- The release is in progress; evaluation waits for its end (R51). -/
def released (s : State) (k : Nat) (whole inline : Bool) : State :=
  s.modTask k fun t => { t with
    released := true, relTime := s.now, relBusy := true, resync := false, full := whole, inline := inline }

/-- A batch of records holds an entry of the transaction table until it is acknowledged (R448). -/
def holdDelta (s : State) (k : Nat) : State :=
  if s.role = roleActive then
    match freeEntryIn s 252 256 with
    | some tag => issueTx s tag { typ := .delta, task := k, cycle := (s.task k).cycles % 2 ^ 32 }
    | none => s
  else s

/-- Release of a task's cycle: substitution, forcing, quality, status words, marking, the INPUT record (R51, R130, R443). -/
def release (s : State) (k : Nat) : State :=
  let s := withdraw s fun t => t.typ == .srd && t.task == k
  let s := containersDeliver (judgeStations s k) k
  let f := takeForces s k true
  let p := releasePrep f.1 k true true
  let s := p.s
  let t := s.task k
  let inline := inlineAt s k s.now
  let whole := t.first || t.resync || fullScan s k || inline
  let mode := modeBits t.first (fullScan s k) t.resync inline p.swap p.edit
  let s := if inline then forcedDuty s false k else s
  let words := statusWords s k
  let before := words.map fun w => s.img.m.get 0 w
  let r := formInputs s (releaseValues s k)
  let s := stationStatus (keepLast r.1 k false) k
  let s := s.setM (taskStatusWord k) (taskStatus s k whole)
  let forcedG := f.2.map fun g => (g, 15)
  let inputs := r.2.filter (fun c => !f.2.contains c.1) ++ forcedG
  let w := watchChanges s k
  let s := markRelease w.1 k (inputs ++ w.2 ++ p.edited.map fun g => (g, 15)) whole inline
  let s := auditAtRelease s k whole
  let changedWords := ((words.zip before).filter fun e => s.img.m.get 0 e.1 != e.2).map fun e => gMD e.1
  let groups := dedup (inputs.map (·.1) ++ changedWords)
  let body := toLE 8 t.ts ++ toLE 1 mode ++ toLE 3 0 ++ groups.flatMap fun g => deltaEntry g (s.evalOf g)
  let s := holdDelta (if s.role = roleActive then deltaRecord s recInput k body else s) k
  loopsAtRelease (released s k whole inline) k

/-- Release takes place as soon as every input is in (R51, R74). -/
def releaseIfIn (s : State) (k : Nat) : State :=
  let t := s.task k
  if t.active && !t.released && allIn s k then release s k else s

/-! ### Sampling (R50, R56, R70) -/

/-- The image's commit marks of a task's stations and local inputs are cleared. -/
def clearCommits (s : State) (k : Nat) : State :=
  let mine := localKey k :: taskStations s k
  s.modImg fun i => { i with comm := i.comm.filter fun x => !mine.contains x }

/-- A cycle of a task begins at an instant; what the last one left becomes "the cycle before". -/
def TaskSt.begin (t : TaskSt) (ts : Nat) : TaskSt :=
  { t with
    ts := ts, active := true, released := false, relBusy := false, evaluating := false, rank := 0,
    first := decide (t.cycles = 0), full := false, inline := false, missPrev := t.miss, miss := false,
    latePrev := t.late, late := false, struck := false, ended := false, shadow := false, cycles := t.cycles + 1,
    hs := [0, 0, 0, 0], badPrev := t.bad, bad := [] }

/-- The exchange copy of a task, taken at once; it is in progress until EXCHANGE_COPY_COMPLETE, if there is anything to copy
(R56). -/
def startExchange (s : State) (k : Nat) : State :=
  (exchangeCopy s k).modTask k fun t => { t with exchBusy := !(exchanges s k).isEmpty }

/-- The reads of a task's usable stations join their issue queues (R289, R295, R319). -/
def queueReads (s : State) (k : Nat) : State :=
  ((taskStations s k).filter (stnUsable s)).foldl (fun s key =>
    queueTx s { typ := .srd, ring := key / 256, stn := key % 256, task := k, time := (s.task k).ts,
                data := List.replicate (inBytes s key + containerLen s key) 0 }) s

/-- A station configured before this T_s is used from now on (R322). -/
def useStations (s : State) (k : Nat) : State :=
  (taskStations s k).foldl (fun s key => s.modSrec key fun x => { x with usable := x.config }) s

/-- An unpaired module takes a new epoch after a rejection (R462). -/
def unpairedEpoch (s : State) : State :=
  if s.phr.newEpoch && !s.paired then
    let old := (s.reg PHR_EPOCH).toNat
    let s := takeEpoch (s.modPhr fun p => { p with newEpoch := false })
    s.record 0x0405 2 0 0 [old, (s.reg PHR_EPOCH).toNat]
  else s

/-- A start of an event task's execution at the present instant (R74): its local inputs are sampled and the exchange copy is
made. -/
def startEvent (s : State) (k : Nat) : State :=
  let s := (clearCommits s k).modTask k fun t => { t.begin s.now with startPending := false }
  let s := replan (startDelta (fieldLatch (startExchange s k) k) k)
  releaseIfIn s k

/-- A planned switchover has passed its instant: cycles that begin from then on are the partner's (R467). -/
def switched (s : State) : Bool := match s.hsb.switch with | some x => x.acked && decide (x.th ≤ s.now) | none => false

/-- A cycle evaluated in shadow whose outputs the failed module did not strike (R455); after a planned switchover its partner
strikes them (R467). -/
def unstruck (s : State) (k : Nat) : Bool := (s.task k).shadow && s.acts && !s.hsb.planned && !switched s

/-- A cycle of its own is left to the old active module of a planned switchover: begun and not struck, or an execution of an
event task. -/
def ownCycle (s : State) (k : Nat) : Bool :=
  let t := s.task k
  t.active && !t.shadow && (decide (16 ≤ k) || !t.struck)

/-- When its last cycle has been struck the old active module becomes READY (R467). -/
def handoverDone (s : State) : State :=
  if s.role == roleActive && switched s && !((List.range 24).any (ownCycle s)) then
    setRole (s.modHsb fun h => { h with switch := none, takeover := none, planned := false }) roleReady
  else s

/-- A delivery to a task's event (R74, R75): it starts, or is held as one pending start, or is merged. -/
def eventToTask (s : State) (k : Nat) : State :=
  let t := s.task k
  if !s.running || !s.acts || switched s then s
  else if !t.active then startEvent s k
  else if t.startPending then
    (s.count32 (TSK_EVMRG k) 1).modTask k fun t => { t with mrgCnt := holdAt 0xFFFFFFFF (t.mrgCnt + 1) }
  else s.modTask k fun t => { t with startPending := true }

/-- The sample instant of a cyclic task whose cycle this module runs (R50, R54, R70). -/
def sampleTask (s : State) (k : Nat) : State :=
  let s := unpairedEpoch s
  let s := useStations (clearCommits s k) k
  let s := s.modTask k fun t => { t.begin s.now with nextTs := t.nextTs + taskP s k }
  let s := (fieldLatch s k).raise k
  let s := loopsAtSample (startExchange s k) k
  let s := queueReads (traceTask s k) k
  releaseIfIn (replan (startDelta s k)) k

end Sys2Proof.Machine
end

