-- ==== Sys2Proof/Machine/Eval.lean ====
section
/-!
DEFINITION. Eval.lean: evaluation of a cycle (R73, R130 to R137, R139 to R143, R219, R220): units take segments, runs end,
ranks commit, and the end of evaluation.
-/
namespace Sys2Proof.Machine

/-! ### Runs (R73, R219) -/

/-- The cluster of a lane, and its lanes. -/
def laneCluster (l : Nat) : Nat := l / 8

/-- A unit takes segments: not in a run, not stopped, and not in an exception handler (R231, R233). -/
def unitFree (s : State) (u : Nat) : Bool :=
  let x := s.unit u
  x.run.isNone && !x.halted && !x.exl

/-- Units on which a segment may run (R111). EN of a cluster is not looked at here (DESIGN CHOICE, log 96). -/
def unitsFor (h : Hdr) : List Nat :=
  if h.cls = 1 then (List.range 8).map fun j => 16 + 8 * h.cluster + j
  else if h.cls = 2 then [0, 1, 2, 3] else []

/-- The state of a unit at the start of a run (R219). -/
def runUnit (s : State) (u seg : Nat) (r : Run) : UnitSt :=
  let old := s.unit u
  let h := s.hdr seg
  if 16 ≤ u then { evpend := old.evpend, priv := 0, pc := r.lo, ttime := r.taskTime, run := some r }
  else
    let w (i : Nat) : Word := s.prog.win.get 0 (4 * seg + i)
    let top := if (w 2).toNat < (w 3).toNat then toWord ((w 3).toNat / 8 * 8) else 0
    { old with
      g := (List.replicate 16 0).set 14 top, pc := r.lo, exl := false, priv := if h.sys then 1 else 0,
      arith := 0, hndl := 0, ttime := r.taskTime, slot := [], wait := .none,
      pw0b := w 0 &&& ~~~7#32, pw0l := w 1 &&& ~~~7#32, pw1b := w 2 &&& ~~~7#32, pw1l := w 3 &&& ~~~7#32, run := some r }

/-- The cluster's segment-code cache meets a segment. Which segments it has dropped once it is full is open: a free bit (R120,
log 1). -/
def cacheMeet (s : State) (c seg : Nat) : State :=
  let key := 65536 * c + seg
  let held := (s.gz.cache.filter fun x => x / 65536 == c).foldl (fun n x => n + (s.hdr (x % 65536)).len) 0
  let d := if s.gz.cache.contains key ∧ 16384 < held then s.drawBit else (false, s)
  let s := d.2
  if s.gz.cache.contains key && !d.1 then s
  else (s.count32 (LANE_CLMISS c) 1).modGz fun g => { g with cache := g.cache.add key }

/-- A unit starts a run of a segment (R73, R219). -/
def startRun (s : State) (u seg k : Nat) (audit : Bool) (time : Nat) : State :=
  let h := s.hdr seg
  let r : Run := { seg := seg, task := k, rank := h.rank, audit := audit, taskTime := time, lo := 4 * h.start,
                   hi := 4 * (h.start + h.len) }
  let s := if h.cls = 1 then
      let s := cacheMeet s h.cluster seg
      s.count32 (if audit then LANE_CLAUD h.cluster else LANE_CLRUNS h.cluster) 1
    else s
  let s := if audit then s else s.modGz fun g => { g with pending := g.pending.del seg, run := g.run.add seg }
  s.setUnit u (runUnit s u seg r)

/-- An audit run gives way to foreground work: it is run again later (R140, R18). -/
def yieldAudit (s : State) (u : Nat) : State :=
  match (s.unit u).run with
  | some r =>
    (s.modUnit u UnitSt.leave).modGz fun g =>
      { g with audit := g.audit.map fun a => { a with todo := r.seg :: a.todo } }
  | none => s

/-- The unit that takes a segment now: a free one, else one with an audit run. -/
def unitFor (s : State) (h : Hdr) : Option Nat :=
  match (unitsFor h).find? (unitFree s) with
  | some u => some u
  | none => (unitsFor h).find? fun u => match (s.unit u).run with | some r => r.audit && !r.done | none => false

/-- A pending segment of the present rank goes to a unit, if one takes it. -/
def giveSegment (s : State) (k seg : Nat) : State :=
  match unitFor s (s.hdr seg) with
  | some u => startRun (yieldAudit s u) u seg k false (s.task k).ts
  | none => s

/-- Tasks in order of priority (R72, R73). -/
def byPriority (s : State) (ks : List Nat) : List Nat :=
  (List.range 32).flatMap fun p => ks.filter fun k => s.fld (TSK_CTRL_PRIO k) == p

/-- Free units take pending segments, of the highest-priority task first (R73). -/
def fill (s : State) : State :=
  (byPriority s ((List.range 24).filter fun k => (s.task k).evaluating)).foldl (fun s k =>
    ((ofTask s k s.gz.pending).filter fun n => (s.hdr n).rank == (s.task k).rank).foldl (fun s n => giveSegment s k n) s) s

/-! ### Commit (R130, R131, R216) -/

/-- Finished runs of a task that wait for the commit of their rank, in ascending segment number. -/
def readyRuns (s : State) (k : Nat) : List Run := (s.gz.ready.map (·.2)).filter fun r => r.task == k

/-- Image groups and data SRAM words that a write buffer names. -/
def bufGroups (m : Mem) : List Nat :=
  dedup (m.filterMap fun e => if e.1 < 0x10000000 ∨ 0x10400000 ≤ e.1 then none else (viewGroup (e.1 - 0x10000000)).map (·.1))
def bufSram (m : Mem) : List Nat :=
  dedup (m.filterMap fun e => if 0x20000000 ≤ e.1 ∧ e.1 < 0x21000000 then some (e.1 / 4 * 4) else none)

/-- One buffered byte reaches memory. -/
def applyByte (s : State) (a : Nat) (b : Byte) : State :=
  if 0x20000000 ≤ a then { s with mem := { s.mem with sram := s.mem.sram.set 0 a b } }
  else
    match viewGroup (a - 0x10000000) with
    | some (g, i) => s.setEval g (withByte (s.evalOf g) i b)
    | none => s

/-- The byte of the image that a buffered byte would replace, as the owner sees it. -/
def ownerByte (s : State) (a : Nat) : Byte :=
  match viewGroup (a - 0x10000000) with
  | some (g, i) => byteOf (s.evalOf g) i
  | none => 0

/-- The image bytes of a run that differ from the image (R139, R142). -/
def differing (s : State) (r : Run) : List Nat :=
  (r.wbuf.filter fun e => decide (0x10000000 ≤ e.1) && decide (e.1 < 0x10400000) && ownerByte s e.1 != e.2).map (·.1)

/-- What an inline audit finds at a commit (R142). -/
def inlineCompare (s : State) (k : Nat) (rs : List Run) : State :=
  (rs.filter fun r => s.gz.extra.contains r.seg).foldl (fun s r =>
    match differing s r with
    | [] => s
    | a :: more =>
      let s := s.modAud k fun x => { x with
        inBytes := x.inBytes + 1 + more.length, inSeg := if x.inBytes = 0 then r.seg else x.inSeg,
        inAddr := if x.inBytes = 0 then a else x.inAddr }
      s.modGz fun g => { g with mismatch := g.mismatch.add r.seg }) s

/-- The wheel entry and the settle bit that a run leaves (R132, R133). -/
def runMarks (s : State) (r : Run) : State :=
  s.modGz fun g => { g with
    wheel := g.wheel.set 0 r.seg (r.wheel.getD 0), settle := if r.edge then g.settle.add r.seg else g.settle }

/-- The commit of a rank (R130): writes in ascending segment number, marks of readers, check-ins, GROUPS and DATA records. -/
def commitRank (s : State) (k : Nat) : State :=
  let rs := readyRuns s k
  let rank := (s.task k).rank
  let gs := dedup (rs.flatMap fun r => bufGroups r.wbuf)
  let ws := dedup (rs.flatMap fun r => bufSram r.wbuf)
  let before := gs.map s.evalOf
  let s := if (s.task k).inline then inlineCompare s k rs else s
  let s := s.modGz fun g => { g with ready := g.ready.filter fun e => e.2.task != k }
  let s := rs.foldl (fun s r => r.wbuf.foldl (fun s e => applyByte s e.1 e.2) s) s
  let chg := ((gs.zip before).map fun e => (e.1, diffBytes e.2 (s.evalOf e.1))).filter fun c => c.2 != 0
  let s := markChanges s k (some rank) chg
  let s := deltaEntries s recGroups k (chg.map fun c => (c.1, s.evalOf c.1))
  let s := deltaEntries s recData k (ws.map fun a => (a, s.mem.sram.word 0 a))
  if gs.contains (gMD (checkInWord k)) && !wdAuto s k then
    rs.foldl (fun s r => if (bufGroups r.wbuf).contains (gMD (checkInWord k)) then checkIn s k else s) s
  else s

/-! ### End of evaluation (R50, R64, R79, R83) -/

/-- A strike miss of a task (R79). -/
def strikeMiss (s : State) (k : Nat) : State :=
  if s.flag (TSK_CTRL_MISSACT k) then
    let s := (s.setFlag (TSK_STAT_MISS k) true).count (TSK_LATE_MISSCNT k) 0xFFFF 1
    s.modTask k fun t => { t with miss := true, missCnt := holdAt 0xFFFFFFFF (t.missCnt + 1) }
  else programStop s 4 k

/-- The transmit copy of a task is formed with the output forces (R50, R64, R353, R355). -/
def formTransmit (s : State) (k : Nat) : State :=
  let s := (takeForces s k false).1
  (outputGroups s k).foldl (fun s g =>
    let w := match loopOf s g with
      | some n => loopXmit s n g
      | none => s.evalOf g
    s.setXmit g (forced s g w)) s

/-- A copy of exchange groups is in progress, which holds publications (R56). -/
def exchanging (s : State) : Bool := (List.range 24).any fun k => (s.task k).exchBusy

/-- A publication takes place, or is held as it stands while an exchange copy is in progress (R53, R56). -/
def publishPub (s : State) (p : Pub) : State :=
  if exchanging s then s.modTsk fun t => { t with held := t.held ++ [p] } else applyPub s p

/-- The stable copies of a task are published; the outputs and aligned loops only when they were struck (R50, R79, R355). -/
def publish (s : State) (k : Nat) : State :=
  let p := if (s.task k).miss then inputPub s k else (inputPub s k).and (outputPub s k)
  publishPub (dropAligned s k) p

/-- The outputs and aligned loops of a task alone are published. -/
def publishOutputs (s : State) (k : Nat) : State := publishPub (dropAligned s k) (outputPub s k)

/-- The output data of a station from the transmit copy, with its safety container. -/
def outputData (s : State) (key : Nat) : List Byte :=
  (stnOut s key).flatMap (fun g => toLE 4 (s.img.xmit.get 0 g).toNat) ++ containerOut s key

/-- The writes of a task's stations join their issue queues (R296, R343, R445). -/
def queueWrites (s : State) (k : Nat) : State :=
  let late := s.role == roleActive && !(s.task k).shadow && (s.delta k).ackIn != some ((s.task k).cycles % 2 ^ 32)
  let s := if late then s.count32 HSB_ACKLATE 1 else s
  ((taskStations s k).filter (stnUsable s)).foldl (fun s key =>
    containerTaken (queueTx s { typ := .swr, ring := key / 256, stn := key % 256, task := k, time := taskTo s k,
                                outen := stnObj s key 18 != 0, data := outputData s key }) key) s

/-- The LOOPS record of a cycle (R443, R444). -/
def loopsRecord (s : State) (k : Nat) : State :=
  let ls := (hostedLoops s k).filter fun n => (s.loop n).carrySend.isSome
  let body := ls.flatMap fun n => toLE 4 n ++ wordBytes ((s.loop n).carrySend.getD [])
  let s := if ls.isEmpty then s else deltaRecord s recLoops k body
  ls.foldl (fun s n => s.modLoop n fun l => { l with carrySend := none }) s

/-- The verdict of an inline audit (R142, R143). -/
def inlineVerdict (s : State) (k : Nat) : State :=
  let a := s.aud k
  if a.inBytes = 0 then (auditDone s k).raise 46
  else equivFault ((auditInterval s k s.now).modAud k fun x => { x with req := false }) k a.inSeg a.inAddr a.inBytes

/-- Counts at the end of evaluation (R100, R182). -/
def evalCounts (s : State) (k : Nat) : State :=
  let us := (s.now - (s.task k).relTime) / 1000
  let s := (s.setReg (TSK_EVLAST k) (toWord us)).maxFld ⟨TSK_EVMAX k, 31, 0⟩ (Nat.min 0xFFFFFFFF us)
  let s := s.setFld (GZ_RUNS_COUNT k) (ofTask s k s.gz.run).length
  s.setFld (GZ_CHG_COUNT k) ((taskGroups s k).filter (changed s)).length

/-! ### Strikes (R50, R54, R79, R455) -/

/-- A cycle that the failed module did not strike counts as a strike miss with MISSACT = 1 (R455). -/
def shadowMiss (s : State) (k : Nat) : State :=
  let s := (s.setFlag (TSK_STAT_MISS k) true).count (TSK_LATE_MISSCNT k) 0xFFFF 1
  s.modTask k fun t => { t with miss := true, missCnt := holdAt 0xFFFFFFFF (t.missCnt + 1) }

/-- What a task's T_o publishes. A cycle in shadow that has not ended publishes its inputs; its outputs follow at its end. -/
def strikePublish (s : State) (k : Nat) : State :=
  let t := s.task k
  if t.shadow && !unstruck s k && !t.ended then
    (if t.released then publishPub s (inputPub s k) else s)
  else if t.shadow && !t.released then s
  else publish s k

/-- T_o of a cyclic task: waiting writes are withdrawn, the field side strikes, the stable copies are published (R50, R79,
R293, R529). A cycle that has not ended by now is a strike miss. -/
def strike (s : State) (k : Nat) : State :=
  let t := s.task k
  if !t.active || t.struck then s
  else
    let s := s.at (taskTo s k)
    let s := withdraw s fun x => x.typ == .swr && x.task == k
    let s := if unstruck s k then shadowMiss s k
             else if !t.ended && !t.miss && !t.shadow && s.acts then strikeMiss s k else s
    if !s.running then s
    else
      let s := if s.acts && !t.shadow && !(s.task k).miss then fieldStrike s k else s
      (strikePublish s k).modTask k fun t => { t with
        struck := true, active := t.active && !(t.ended || (t.shadow && !t.released)) }

/-- Numbers put in order of a key, equal keys as they stand. -/
def orderBy (f : Nat → Nat) (l : List Nat) : List Nat :=
  l.foldl (fun out n => out.filter (fun m => decide (f m ≤ f n)) ++ n :: out.filter fun m => decide (f n < f m)) []

/-- Publications due at or before an instant: the cyclic tasks whose T_o lies there, under their numbers, and the immediate
loops whose outputs wait for such an instant, under 16 + their numbers; in the order of their instants (R54, R352). -/
def publicationsDue (s : State) (t : Nat) : List Nat :=
  let ks := (List.range 16).filter fun k => (s.task k).active && !(s.task k).struck && decide (taskTo s k ≤ t)
  let due (l : LoopSt) : Bool := !l.aligned && match l.out with | some o => decide (o.t ≤ t) | none => false
  let at_ (e : Nat) : Nat := if e < 16 then taskTo s e else match (s.loop (e - 16)).out with | some o => o.t | none => 0
  orderBy at_ (ks ++ (s.lpe.loops.filter fun e => due e.2).map fun e => 16 + e.1)

/-- Strikes and loop publications that fall at or before an instant take place before what reads the stable copies there
(R54, R352). -/
def publishDue (s : State) (t : Nat) : State :=
  (publicationsDue s t).foldl (fun s e => if e < 16 then strike s e else loopPublish s (e - 16)) s

/-- The end of a cyclic task's evaluation: late, it is a strike miss (R79); in time, its writes are issued. A cycle that the
module only shadows strikes nothing; when its T_o has passed its outputs are published now (R447, R455). -/
def endCyclic (s : State) (k : Nat) : State :=
  let t := s.task k
  let s := if taskTod s k < s.now ∧ !t.miss ∧ !t.shadow ∧ s.acts then strikeMiss s k else s
  if !s.running then s
  else
    let s := if s.acts && !(s.task k).miss && !t.struck && !t.shadow then queueWrites s k else s
    if t.struck then
      let s := if t.shadow && !unstruck s k then publishOutputs s k else s
      s.modTask k fun t => { t with active := false }
    else s

/-- The end of an event task's execution: its outputs are published and go to the field side; a pending start follows, after the
strikes and publications that fall on this instant (R54, R74, R75). -/
def endEvent (s : State) (k : Nat) : State :=
  let s := if s.acts && !(s.task k).shadow then fieldOutputs s k else s
  let s := publishDue (publish (s.modTask k fun t => { t with active := false }) k) s.now
  if !s.running then s
  else if s.acts && !switched s && (s.task k).startPending then startEvent s k
  else handoverDone s

/-- The end of evaluation of a task (R50, R81, R83, R142, R143, R413, R443, R446). -/
def endOfEval (s : State) (k : Nat) : State :=
  let s := evalCounts (formTransmit s k) k
  let s := if (s.task k).inline && !(s.task k).shadow then inlineVerdict s k else s
  let s := feltEvaluated (s.modTask k fun t => { t with
    evaluating := false, ended := true, evaluated := true, lastTime := t.ts, first := false, inline := false }) k
  let s := sendEnd (loopsRecord (if k < 16 then s.raise (16 + k) else s) k) k
  let s := if (s.delta k).digest = [] then s else digestJudge s k
  let s := autoCheckIn (wdFirst s false) k
  if !s.running then s
  else if k < 16 then endCyclic s k
  else endEvent s k

/-! ### Ranks (R131) -/

/-- A run of the task's foreground evaluation is in progress. -/
def runsOn (s : State) (k : Nat) : Bool :=
  s.units.any fun e => match e.2.run with | some r => r.task == k && !r.audit | none => false

/-- The evaluation goes on from the present rank: it waits while runs are in progress or pending in it, commits it, and goes
to the next rank with a pending segment; with none left, and the aligned loops done, it ends. -/
def advance (s : State) (k : Nat) : Nat → State
  | 0 => s
  | n + 1 =>
    let t := s.task k
    let mine := ofTask s k s.gz.pending
    if !t.evaluating || !s.running || runsOn s k then s
    else if mine.any fun g => (s.hdr g).rank == t.rank then s
    else if !(readyRuns s k).isEmpty then advance (commitRank s k) k n
    else
      match least ((mine.map fun g => (s.hdr g).rank).filter fun r => decide (t.rank < r)) with
      | some r => advance (s.modTask k fun t => { t with rank := r }) k n
      | none => if alignedDone s k then endOfEval s k else s

/-- An audit run is on a unit. -/
def auditRunning (s : State) : Bool := s.units.any fun e => match e.2.run with | some r => r.audit | none => false

/-- A slice of the idle audit of a task is in force. -/
def auditFunded (s : State) (k : Nat) : Bool :=
  match s.nrg.slice with
  | some x => (match x.duty with | .audit t => t.val == k | _ => false)
  | none => false

/-- The next run of the idle audit in progress starts, in a slice granted to it, when a unit is free for it, one run at a time
(R403, log 35). -/
def auditNext (s : State) : State :=
  if auditRunning s then s else
  match s.gz.audit with
  | none => s
  | some a =>
    if !auditFunded s a.task then s else
    match a.todo with
    | [] => s
    | seg :: rest =>
      match (unitsFor (s.hdr seg)).find? (unitFree s) with
      | some u => startRun (s.modGz fun g => { g with audit := some { a with todo := rest } }) u seg a.task true a.time
      | none => s

/-- A task's evaluation goes on, free units take what it has marked, and an idle audit that gave way resumes. -/
def goOn (s : State) (k : Nat) : State := auditNext (fill (advance s k 2100))

/-- Evaluation begins once release and exchange copy are complete (R51). -/
def beginEval (s : State) (k : Nat) : State :=
  let t := s.task k
  if t.active && t.released && !t.relBusy && !t.exchBusy && !t.evaluating && !t.ended then
    goOn (s.modTask k fun t => { t with evaluating := true, rank := 0 }) k
  else s

/-! ### Ends of runs (R137, R220) -/

/-- Handshakes of a lane run, in units of 256: open (R172, log 1). -/
def countHandshakes (s : State) (u : Nat) : State :=
  if 16 ≤ u then
    let w := s.drawWord
    w.2.count32 (LANE_CLHS (laneCluster (u - 16))) (w.1.toNat % 2 ^ 16)
  else s

/-- A run ends by END: its wheel entry and settle bit are set, its writes wait for the commit; an audit run waits for its comparison (R139, R220). -/
def runEnd (s : State) (u : Nat) : State :=
  match (s.unit u).run with
  | none => s
  | some r =>
    let s := countHandshakes s u
    if r.audit then s.modUnit u fun x => { x with run := some { r with done := true }, slot := [] }
    else
      let s := runMarks (s.modUnit u UnitSt.leave) r
      goOn (s.modGz fun g => { g with ready := Tbl.set g.ready {} r.seg r }) r.task

/-- A run ends without commit (R137): the fault is recorded, and the rank goes on. An audit run ends with nothing to compare.
`code` is that of LANE_CLFLT, or the exception's cause. -/
def runFault (s : State) (u code : Nat) : State :=
  match (s.unit u).run with
  | none => s
  | some r =>
    let s := countHandshakes s u
    if r.audit then
      s.modUnit u fun x => { x with run := some { r with done := true, wbuf := [] }, slot := [], wait := .none }
    else
      let s := s.modUnit u UnitSt.leave
      let s := if 16 ≤ u then
          let c := laneCluster (u - 16)
          ((s.setFld (LANE_CLFLT_SEGMENT c) r.seg).setFld (LANE_CLFLT_CODE c) code).count32 LANE_FAULTCNT 1
        else s
      let s := (s.setFld (GZ_FLT_LASTSEG r.task) r.seg).count (GZ_FLT_COUNT r.task) 0xFFFF 1
      goOn (s.record 0x0120 2 1 r.task [r.task, r.seg, code]) r.task

/-! ### Idle audits (R139 to R141) -/

/-- The idle audit is at its end: complete, or an equivalence fault (R139, R143). -/
def auditFinish (s : State) : State :=
  match s.gz.audit with
  | some a =>
    if a.todo.isEmpty && !auditRunning s then
      let s := s.modGz fun g => { g with audit := none }
      if a.found then equivFault (s.modAud a.task fun x => { x with req := false }) a.task a.firstSeg a.firstAddr a.bytes
      else (auditDone s a.task).raise 46
    else s
  | none => s

end Sys2Proof.Machine
end

