-- ==== Sys2Proof/Machine/Prepare.lean ====
section
/-!
DEFINITION. Prepare.lean: starting the program (R87 to R90, R262, R371, R716 to R718): start commands, the checks that
PREPARING makes, what a warm or cold start sets up, and the payload of a save bank.
-/
namespace Sys2Proof.Machine

/-! ### The watchdog's settings (R668, R669, R695) -/

/-- A write to WDG_CTRL: one that breaks R669, or with MIN at or above WIN, is ignored and sets BADCFG; another restarts the
count and returns the key logic to idle. -/
def wdgCtrlWrite (s : State) (w : Word) : State :=
  let win := wbits w 31 16
  let long := wbit w 1
  let limit := if long then 10000 else 1000
  if win = 0 ∨ limit < win ∨ win ≤ wbits w 15 4 ∨ (long ∧ !s.flag WDG_CTRL_LONG ∧ !s.stopped) then
    s.setFlag WDG_STAT_BADCFG true
  else
    let s := (((s.setFld WDG_CTRL_WIN win).setFld WDG_CTRL_MIN (wbits w 15 4)).setFlag WDG_CTRL_LONG long).setFlag
      WDG_CTRL_CLKSEL (wbit w 0)
    { s with wdg := { s.wdg with last := s.now, armed := none } }

/-- Firmware applies 0x1C00 to the watchdog, with the long-window mode given (R669, R706). -/
def wdgApply (s : State) (long : Bool) : State :=
  wdgCtrlWrite s (toWord (s.objNum 0x1C00 1 * 65536 + s.objNum 0x1C00 2 % 4096 * 16 + b2n long * 2 + s.objNum 0x1C00 3 % 2))

/-! ### Retentive data and the save bank (R90, R719) -/

/-- The %M words of retentive data: those declared retentive, and the words of timer, counter and edge instance records in %M
(R89). -/
def retWords (s : State) : NSet :=
  let recs := (s.prog.timers.filter fun a => decide (a < 0x20000000)).flatMap fun a =>
    (List.range 4).map fun i => (a - 0x10090000) / 4 + i
  NSet.addAll (NSet.addAll s.prog.retM s.prog.instM) recs

/-- Bytes of retentive data. -/
def retLen (s : State) : Nat := 4 * (retWords s).length + s.prog.retSram.length

/-- The retentive data in the order of the save bank: %M words, then bytes of data SRAM, both rising (log 34). -/
def retBytes (s : State) : List Byte :=
  ((retWords s).flatMap fun k => toLE 4 (s.img.m.get 0 k).toNat) ++ s.prog.retSram.map fun a => s.mem.sram.get 0 a

/-- The payload of a save bank (R719). -/
def savePayload (s : State) : List Byte :=
  toLE 4 (s.ctr ctrRun) ++ toLE 4 s.prog.check.toNat ++ toLE 8 s.tsk.stopTime
    ++ (List.range 24).flatMap (fun k => toLE 8 (s.task k).lastTime) ++ toLE 4 (retLen s) ++ List.replicate 44 0
    ++ retBytes s ++ (List.range 4096).flatMap fun n => wordBytes (s.loop n).saved

/-- The save bank is valid (R717). -/
def bankValid (s : State) : Bool :=
  let p := bankPayload s
  s.flag NVM_SAVE_VALID && fromLE (slice p 4 4) == s.prog.check.toNat && fromLE (slice p 0 4) == s.ctr ctrRun

/-- A warm start has a source (R716). -/
def warmSource (s : State) : Bool := s.boot.ranSince || bankValid s

/-! ### Start commands (R88, R439, R718) -/

/-- A start command: the state and its status. `firmware`: firmware itself starts the program, and takes the watchdog out of
long-window mode before. At the entry to PREPARING the program's claims go, and a field side in SILENT is released (R532,
R560). -/
def startCommand (s : State) (cold firmware : Bool) : State × Nat :=
  if !s.acts || !s.stopped then (s, 0x0701)
  else
    let lost := !cold && !warmSource s
    let refuse := lost && s.objNum 0x1041 2 == 1
    let s := if lost then s.record 0x0A01 2 0 0 [b2n refuse, (s.reg NVM_SAVE).toNat] else s
    if refuse then (s, 0x0701)
    else
      let s := wdgApply s (!firmware && s.flag WDG_CTRL_LONG)
      let s := fieldCmd (takeAtStart (releaseClaims s ownProgram)) .release
      (s.modTsk fun t => { t with prog := .preparing, cold := cold || lost, prepEnd := none }, 0)

/-- A stop command by its status: refused in a role that does not act (R439). -/
def stopRequest (s : State) : State × Nat := if s.acts then (stopCommand s, 0) else (s, 0x0701)

/-! ### Checks of PREPARING -/

/-- A number's bits that are 1. -/
def popCount (n : Nat) : Nat := (List.range 32).foldl (fun c i => if bit n i then c + 1 else c) 0

/-- The groups that a station, a channel, a segment or a loop names. -/
def namedGroups (s : State) : List Nat :=
  dedup ((configuredStations s).flatMap (fun key => stnIn s key ++ stnOut s key)
    ++ (localIn s ++ localOut s).map (·.g) ++ usedGroups s
    ++ s.lpe.loops.filterMap fun e => if e.2.configured then loopDest e.2 else none)

/-- R45: the limits of configured points. -/
def badPoints (s : State) : Bool :=
  let gs := namedGroups s
  let d := (gs.filter isDigital).foldl (fun n g => n + popCount (configuredBits s g)) 0
  let a := (gs.filter fun g => !isDigital g && !isMarker g).length
  decide (262144 < d) || decide (65536 < a)

/-- R46: tasks that share what one of them must own: written groups, groups that are read and have no writer, input groups
fed from two sides. -/
def badOwners (s : State) : List Nat :=
  let loc := localIn s
  (usedGroups s).flatMap (fun g =>
    let w := subTasks s true g
    (if 1 < w.length then w else []) ++ (if sharedGroup s g then subTasks s false g else []))
  ++ loc.flatMap (fun x => (loc.filter fun y => y.g == x.g && y.task != x.task).map (·.task))

/-- R343: stations whose areas do not lie in the image, are too large, meet another station's or channel's, or name output
groups that another task owns; and R310, hold times. -/
def badStation (s : State) (key : Nat) : Bool :=
  let k := stnTask s key
  let o (sub : Nat) : Nat := stnObj s key sub
  let others := (configuredStations s).filter (· != key)
  let ins := stnIn s key
  let outs := stnOut s key
  let extra := containerLen s key
  let pMs := taskP s k
  let pf := least ((cyclicTasks s).map (taskP s))
  let hold := o 17 * 1000000
  decide (15 < k) || decide (1472 < 4 * (o 7 + o 9) + extra) || decide (1472 < 4 * (o 11 + o 13) + extra)
    || decide (8192 < o 6 + o 7) || decide (65536 < o 8 + o 9) || decide (8192 < o 10 + o 11) || decide (65536 < o 12 + o 13)
    || others.any (fun j => (stnIn s j).any ins.contains || (stnOut s j).any outs.contains)
    || (localIn s).any (fun x => ins.contains x.g) || (localOut s).any (fun x => outs.contains x.g)
    || outs.any (fun g => match outputTask s g with | some j => j != k | none => false)
    || o 17 = 0 || decide (60000 < o 17) || decide (hold < 2 * pMs + 1000000)
    || (s.paired && (match pf with | some p => decide (hold < pMs + 2 * p + 1000000) | none => false))

/-- A frame with its line overhead in bytes: preamble, header, data with padding, FCS, gap. -/
def lineBytes (len : Nat) : Nat := Nat.max 64 (42 + len) + 20

/-- Line bytes of a station's SRD and SWR frames. -/
def srdLine (s : State) (key : Nat) : Nat := lineBytes (inBytes s key + containerLen s key)
def swrLine (s : State) (key : Nat) : Nat := lineBytes (outBytes s key + containerLen s key)

/-- The stations of a task on a ring. -/
def ringStations (s : State) (r k : Nat) : List Nat := (taskStations s k).filter fun key => key / 256 == r

/-- A sum of loads a cycle normalised to 1 ms, rounded up: `load k` counts for one cycle of task k (R323). -/
def perMs (s : State) (ks : List Nat) (load : Nat → Nat) : Nat :=
  let f := ks.foldl (fun (x : Nat × Nat) k =>
    let n := Nat.max 1 (taskP s k)
    (x.1 * n + load k * 1000000 * x.2, x.2 * n)) (0, 1)
  ceilDiv f.1 f.2

/-- The three quantities of R323 of a ring: fast input payload, fast output payload, line time with reserve. -/
def ringBudget (s : State) (r : Nat) : Nat × Nat × Nat :=
  let ks := cyclicTasks s
  let fast := ks.filter fun k => decide (taskP s k ≤ 1000000)
  let sum (k : Nat) (f : Nat → Nat) : Nat := (ringStations s r k).foldl (fun n key => n + f key) 0
  (perMs s fast fun k => sum k fun key => inBytes s key + containerLen s key,
    perMs s fast fun k => sum k fun key => outBytes s key + containerLen s key,
    perMs s ks (fun k => sum k fun key => srdLine s key + swrLine s key) + 5000)

/-- The path time of a ring in ns; in a pair with N + 1 (R324, R433). -/
def pathNs (s : State) (r : Nat) : Nat :=
  1600 * (ringN s r + b2n s.paired) + 10 * s.fld (PHR_RCABLE_METRES r)

/-- R325: the least output margin of a task in ns; 0 without stations. -/
def minMargin (s : State) (k : Nat) : Nat :=
  let one (r : Nat) : Nat :=
    let all := (cyclicTasks s).flatMap (ringStations s r)
    let blk := 8 * (all.map fun key => Nat.max (srdLine s key) (swrLine s key)).foldl Nat.max 0
    blk + 8 * ((ringStations s r k).foldl (fun n key => n + swrLine s key) 0) + pathNs s r
  let rs := (List.range 4).filter fun r => !(ringStations s r k).isEmpty
  if rs.isEmpty then 0 else ceilDiv (3000 + (rs.map one).foldl Nat.max 0) 1000 * 1000

/-- R72 and R76: the parameters of an enabled task. -/
def badParams (s : State) (k : Nat) : Bool :=
  let us (f : Fld) : Nat := s.fld f
  let clash := (enabledTasks s).any fun j => j != k && s.fld (TSK_CTRL_PRIO j) == s.fld (TSK_CTRL_PRIO k)
  let m := us (TSK_OUTM_VALUE k)
  let prio := decide (23 < s.fld (TSK_CTRL_PRIO k)) || clash
  if 16 ≤ k then prio || decide (m < 50) || decide (10000000 < m)
  else
    let n := us (TSK_PERIOD_N k)
    let p := n * 50
    let l := us (TSK_STRIKE_VALUE k)
    let d := us (TSK_INDL_VALUE k)
    prio || decide (n < 2) || decide (200000 < n) || decide (p ≤ us (TSK_PHASE_VALUE k)) || decide (l < 50) || decide (p < l)
      || decide (d < 20) || decide (l < d + m + 20) || decide (m < 20) || decide (l < m + 40)
      || decide (taskM s k < minMargin s k)

/-- R110, R113, R118, R119, R156, R761: segments that must not be started, by their tasks. -/
def badSegments (s : State) : List Nat :=
  let own := (segments s).filter fun n =>
    let h := s.hdr n
    let code := segCode s n
    h.cls == 3 || decide (23 < h.task) || decide (2097152 < h.start + h.len) || segCheck h code != h.w3.toNat
      || (h.cls == 1 && (!laneJudged code || !s.flag (LANE_CLCTRL_EN h.cluster)))
  own.map (fun n => (s.hdr n).task) ++ (List.range 24).filter fun k => !(r113Bad s k).isEmpty

/-- A source names an existing point or a configured loop. -/
def sourceExists (s : State) (w : Word) : Bool :=
  w == 0xFFFFFFFF#32 ||
    (sourceOk w && (if wbits w 31 29 = 5 then (s.loop (wbits w 11 0)).configured
      else match valueOf w with | some g => isMarker g || configuredBits s g != 0 | none => false))

/-- R347 to R350: a configured loop that must not be started; a local channel that its output feeds is bound to its host. -/
def badLoop (s : State) (n : Nat) : Bool :=
  let l := s.loop n
  let host := l.host
  let p := (l.word 4).toNat
  let ph := (l.word 5).toNat
  let pt := taskP s host
  let dest := l.word 0x0B
  decide (15 < host) || p = 0 || decide (60000 < p) || decide (p * 1000 ≤ ph)
    || (l.aligned && (pt = 0 || p * 1000000 % pt != 0 || decide (ph * 1000 < taskPhase s host)
        || (ph * 1000 - taskPhase s host) % pt != 0))
    || !sourceExists s (l.word 6) || !sourceExists s (l.word 0x0A) || !sourceExists s (l.word 0x0C)
    || (dest != 0xFFFFFFFF#32 && (loopDest l).isNone)
    || (match loopDest l with
        | some g => !(subs s g).isEmpty || (localOut s).any (fun x => x.g == g && x.task != host) || s.lpe.loops.any fun e => e.1 != n && e.2.configured && loopDest e.2 == some g
        | none => false)

/-- The worst-case delta of a task in bytes a cycle (R448): every input group, status and quality word, every group of its
write sets, every data word of its core-class segments, every loop (log 33). -/
def worstDelta (s : State) (k : Nat) : Nat :=
  let ranks := dedup ((taskSegs s k).map fun n => (s.hdr n).rank)
  let groups := (usedGroups s).filter fun g => (subs s g).any fun e => e.writer && (s.hdr e.seg).task == k
  let data := ((taskSegs s k).filter fun n => (s.hdr n).cls == 2).foldl (fun n g => n + (segWin s g 1 - segWin s g 0) / 4) 0
  20 + 8 * ((inputGroups s k).length + (statusWords s k).length) + 16 * ranks.length + 8 * groups.length + 8 * data
    + 8 + 32 * (hostedLoops s k).length + 48

/-- HSB_DWORST. -/
def worstDeltas (s : State) : Nat := perMs s (cyclicTasks s) (worstDelta s)

/-- The first check that the configuration fails, as STOPTASK then reads: in the order of R87, the lowest-numbered task that
fails it, or 0xFF where it concerns none (log 32). -/
def configBad (s : State) : Option Nat :=
  let any (b : Bool) : Option Nat := if b then some 0xFF else none
  let budget := (enabledRings s).any fun r =>
    let b := ringBudget s r
    decide (40960 < b.1) || decide (40960 < b.2.1) || decide (112500 < b.2.2)
  (any (s.nv.prot == 3 || s.flag WDG_CTRL_LONG))
    <|> any (badPoints s)
    <|> least (badOwners s)
    <|> least ((enabledTasks s).filter (badParams s))
    <|> (if wdOn s then wdBad s else none)
    <|> any (decide (1048576 < retLen s))
    <|> least (badSegments s)
    <|> least ((s.lpe.loops.filter fun e => e.2.configured && badLoop s e.1).map fun e => e.2.host)
    <|> least (((configuredStations s).filter (badStation s)).map (stnTask s))
    <|> any budget
    <|> any (s.paired && ((enabledRings s).any (fun r => decide (1000000 < pathNs s r)) || decide (262144 < worstDeltas s)))

/-- The quantities that PREPARING shows in registers (R323, R448). -/
def showBudget (s : State) : State :=
  let s := (List.range 4).foldl (fun s r =>
    let b := ringBudget s r
    ((s.setFld (PHR_RLOAD_INPAY r) (Nat.min 0xFFFF b.1)).setFld (PHR_RLOAD_OUTPAY r) (Nat.min 0xFFFF b.2.1)).setFld
      (PHR_RWIRE_WIRE r) (Nat.min 0x1FFFF b.2.2)) s
  if s.paired then s.setFld HSB_DWORST_BYTES (Nat.min 0x7FFFF (worstDeltas s)) else s

/-! ### What a start sets up (R89, R262, R371) -/

/-- The retentive %M words and data SRAM bytes as a start finds them: `none` at a cold start. -/
def retSource (s : State) : Option (List Byte) :=
  if s.tsk.cold then none
  else if s.boot.ranSince then some (retBytes s)
  else some (slice (bankPayload s) 256 (retLen s))

/-- Station-status bits read 1 until the first release. -/
def statusAtStart : Tbl Word :=
  (List.range 32).map fun i => (statusBase + i, if i % 8 = 0 then 0xFFFFFFFE#32 else 0xFFFFFFFF#32)

/-- The image and data SRAM of a start. -/
def startImage (s : State) : State :=
  let ret := retSource s
  let outs := s.prog.init.filter fun e => isOutput e.1
  let m := ((s.prog.init.filter fun e => isMarker e.1 && !isStatus e.1).map fun e => (e.1 - 147456, e.2)) ++ statusAtStart
  let s := s.modImg fun i => { i with
    samp := [], eval := outs, xmit := outs, stable := outs, m := m, comm := [], bad := [], good := [], last := [],
    seen := [] }
  let s := { s with mem := { s.mem with sram := s.prog.initSram } }
  match ret with
  | none => s
  | some bs =>
    let n := (retWords s).length
    let s := ((retWords s).zip (List.range n)).foldl (fun s e => s.setM e.1 (toWord (fromLE (slice bs (4 * e.2) 4)))) s
    let rest := bs.drop (4 * n)
    let sram := (s.prog.retSram.zip rest).foldl (fun t e => Tbl.set t 0 e.1 e.2) s.mem.sram
    { s with mem := { s.mem with sram := sram } }

/-- A 32-bit word at a byte address of %M or data SRAM, as firmware reads and writes it. -/
def recWord (s : State) (a : Nat) : Word :=
  if 0x20000000 ≤ a then s.mem.sram.word 0 a else s.img.m.get 0 ((a - 0x10090000) / 4)
def setRecWord (s : State) (a : Nat) (w : Word) : State :=
  if 0x20000000 ≤ a then { s with mem := { s.mem with sram := s.mem.sram.setWord 0 a w } }
  else s.setM ((a - 0x10090000) / 4) w

/-- The task of an instance record: the owner of its %M group, or that of the segment whose private data holds it (R262). -/
def recordTask (s : State) (a : Nat) : Option Nat :=
  if 0x20000000 ≤ a then
    ((segments s).find? fun n => decide (segWin s n 0 ≤ a) && decide (a < segWin s n 1)).map fun n => (s.hdr n).task
  else groupOwner s (gMD ((a - 0x10090000) / 4))

/-- The timers that run are moved by the time their task was stopped (R262). -/
def shiftTimers (s : State) (tRun : Nat) : State :=
  let p := bankPayload s
  let kept := s.boot.ranSince
  let tStop := if kept then s.tsk.stopTime else fromLE (slice p 8 8)
  s.prog.timers.foldl (fun s a =>
    if !wbit (recWord s (a + 4)) 2 then s
    else
      match recordTask s a with
      | none => s
      | some k =>
        let old := (recWord s (a + 8)).toNat + (recWord s (a + 12)).toNat * 2 ^ 32
        let d : Int := if k < 16 then ((s.task k).nextTs : Int) - (s.task k).lastTime else (tRun : Int) - tStop
        let new := (BitVec.ofInt 64 (Int.ofNat old + d)).toNat
        setRecWord (setRecWord s (a + 8) (toWord new)) (a + 12) (toWord (new / 2 ^ 32))) s

/-- The loop states that a save bank holds. -/
def loopsFromBank (s : State) : State :=
  let p := bankPayload s
  let base := 256 + fromLE (slice p 208 4)
  s.lpe.loops.foldl (fun s e =>
    let w (i : Nat) : Word := toWord (fromLE (slice p (base + 28 * e.1 + 4 * i) 4))
    let l := ((((((s.loop e.1).setWord 1 (w 0)).setWord 9 (w 1)).setWord 0x14 (w 2)).setWord 0x1D (w 3)).setWord 0x1E
      (w 4)).setWord 0x1F (w 5)
    s.setLoop e.1 { (l.setWord 0x20 (w 6)) with pub := w 3 }) s

/-- Gauze at a start: every group counts as changed, nothing is marked, no wheel entry, no run. -/
def startGauze (s : State) : State :=
  let s := s.modGz fun g => { g with
    change := [], cleared := some [], pending := [], next := [], settle := [], trig := [], run := [], mismatch := [],
    wheel := [], ready := [], extra := [], audit := none }
  (List.range 24).foldl (fun s k => s.modAud k fun a => { a with start := 0, wasFull := false, req := false }) s

/-- Tasks at a start: counts 0, the grid's first instant at least 1 ms after PREPARING (R88, R89). -/
def startTasks (s : State) : State :=
  (List.range 24).foldl (fun s k =>
    let s := ((s.setReg (TSK_LATE k) 0).setReg (TSK_EVMRG k) 0).setReg (TSK_EVMAX k) 0
    s.modTask k fun t => {
      nextTs := if k < 16 ∧ taskEn s k then gridNext s k (s.now + 1000000) else 0, first := true,
      ts := t.ts, eccFull := t.eccFull, resync := t.resync, lastTime := t.lastTime }) s

/-- After a reset the task times of the last evaluated cycles are those of the save bank (R262, R719). -/
def tasksFromBank (s : State) : State :=
  (List.range 24).foldl (fun s k => s.modTask k fun t => { t with lastTime := fromLE (slice (bankPayload s) (16 + 8 * k) 8) }) s

/-- The instant at which the program enters RUNNING. -/
def runAt (s : State) : Nat := (least ((cyclicTasks s).map fun k => (s.task k).nextTs)).getD (s.now + 1000000)

/-- The program set up for its run. -/
def setUp (s : State) : State :=
  let s := if s.tsk.cold then clearForces s else s
  let s := startTasks (startGauze (startImage s))
  let tRun := runAt s
  let s := if s.tsk.cold || s.boot.ranSince then s else loopsFromBank (tasksFromBank s)
  let s := if s.tsk.cold then s else shiftTimers s tRun
  let s := startLoops s s.tsk.cold
  let s := (s.setFld TSK_WDSEEN_MAP 0).modHsb fun h => { h with deltas := [] }
  let s := renewTable s 0x2D8000 0x300000
  fieldCmd (s.modTsk fun t => { t with prepEnd := some s.now, runAt := tRun, wdStart := none, wdDupNow := [] })
    (.config true)

/-- The program's claims (R558 to R560). -/
def programClaim (s : State) : State × Bool := claim s ownProgram (programClaims s)

/-- PREPARING_END: PREPARING completes its checks and its set-up; a configuration that fails a check or whose claims are
refused returns the program to STOPPED with cause 0x06 (R87 to R90). -/
def execPreparingEnd (s : State) : Host.Outcome State Fault Refusal :=
  if s.tsk.prog ≠ .preparing || s.tsk.prepEnd.isSome || s.boot.held || s.frz.frozen then .next s
  else
    let s := showBudget s
    match configBad s with
    | some k => .next (stopPreparing s 6 k)
    | none =>
      let c := programClaim s
      if c.2 then .next (setUp c.1) else .next (stopPreparing c.1 6 0xFF)

/-- PROGRAM_RUNNING_ENTRY: the program enters RUNNING at the first grid instant at least 1 ms after PREPARING; the run counter
rises, the field side enters RUN, SYS_OK is driven (R88, R714, R715, R717, R530). -/
def execProgramRunningEntry (s : State) : Host.Outcome State Fault Refusal :=
  if s.tsk.prog ≠ .preparing || s.tsk.prepEnd.isNone || s.boot.held || s.frz.frozen then .next s
  else
    let s := (s.at s.tsk.runAt).ctrUp ctrRun
    let s := s.modTsk fun t => { t with prog := .running, prepEnd := none }
    let s := { s with boot := { s.boot with
      runUs := if s.boot.ranSince then s.boot.runUs else s.now / 1000, ranSince := true } }
    let s := (wdFirst s true).setFlag SYS_SYSOK_DRIVE true
    .next (if s.acts then fieldCmd s (.state fsRun) else s)

end Sys2Proof.Machine
end

