-- ==== Sys2Proof/Machine/Cycle.lean ====
section
/-!
DEFINITION. Cycle.lean: the instants of a task's cycle as commands (R50 to R56, R70 to R79, R86), event delivery (R36 to R38),
loop executions that end, and idle audits (R139 to R143).
-/
namespace Sys2Proof.Machine

/-- The module is held in reset or frozen: nothing of a cycle takes place (R20, R674). -/
def halted (s : State) : Bool := s.boot.held || s.frz.frozen

/-! ### Strikes (R50, R54) -/

/-- STRIKE_INSTANT: the timebase reaches T_o of a cyclic task (R50). -/
def execStrikeInstant (task : Fin 16) (s : State) : Host.Outcome State Fault Refusal :=
  if !s.running || halted s then .next s else .next (handoverDone (strike s task.val))

/-- STRIKE_MISS: T_od has passed and the evaluation has not ended: the miss is judged at the first later value of the timebase
(R79, R760). -/
def execStrikeMiss (task : Fin 16) (s : State) : Host.Outcome State Fault Refusal :=
  let k := task.val
  let t := s.task k
  if !s.running || halted s || !s.acts || !t.active || t.ended || t.miss || t.shadow then .next s
  else .next (strikeMiss (s.at (taskTod s k + 1)) k)

/-! ### Sample instants (R54, R70, R78, R447, R453, R467) -/

/-- This module begins, releases and strikes the task's cycles from now on: it acts, has not handed over, and after a takeover
the task's first cycle of its own is reached (R453, R467). -/
def owns (s : State) (k : Nat) : Bool :=
  s.acts && !switched s &&
    (match s.hsb.takeover with
     | some x => decide ((if x.task = k then x.ta else x.tx) ≤ s.now)
     | none => true)

/-- This module begins the task's cycles in shadow: a READY partner, or the old active module after a handover (R447, R467). -/
def shadows (s : State) : Bool := s.role == roleReady || (s.acts && switched s)

/-- T_s of a cycle that this module evaluates in shadow: its exchange copy and its loops' samples are its own; the inputs come
with the INPUT record (R447, R435). -/
def shadowSample (s : State) (k : Nat) : State :=
  let s := s.modTask k fun t => { t.begin s.now with nextTs := t.nextTs + taskP s k, shadow := true }
  replan (startDelta (traceTask (loopsAtSample (startExchange (s.raise k) k) k) k) k)

/-- The grid goes on without a cycle. -/
def skipSample (s : State) (k : Nat) : State := s.modTask k fun t => { t with nextTs := t.nextTs + taskP s k }

/-- SAMPLE_INSTANT: the timebase reaches T_s of a cyclic task, after the strikes that fall on it. An evaluation that has not
ended is a cycle overrun (R54, R70, R78). -/
def execSampleInstant (task : Fin 16) (s : State) : Host.Outcome State Fault Refusal :=
  let k := task.val
  if !s.running || halted s || !taskEn s k then .next s
  else
    let ts := (s.task k).nextTs
    let s := handoverDone ((publishDue s ts).at ts)
    let t := s.task k
    if !s.running then .next s
    else if s.acts && t.active && !t.ended && (!t.shadow || (t.released && !switched s)) then .next (programStop s 2 k)
    else if owns s k then .next (sampleTask s k)
    else if shadows s && !(t.active && t.shadow && t.evaluating) then .next (shadowSample s k)
    else .next (skipSample s k)

/-! ### Release and evaluation (R51, R56, R74) -/

/-- Publications that an exchange copy has held take place when no copy is in progress any more (R56). -/
def publishHeld (s : State) : State :=
  if exchanging s then s else applyHeld s

/-- EXCHANGE_COPY_COMPLETE: a task's exchange copy is complete (R56). -/
def execExchangeCopyComplete (task : TaskId) (s : State) : Host.Outcome State Fault Refusal :=
  let k := task.val
  if !s.running || halted s || !(s.task k).exchBusy then .next s
  else .next (beginEval (publishHeld (s.modTask k fun t => { t with exchBusy := false })) k)

/-- INPUT_DEADLINE: the timebase reaches T_s + D with inputs missing (R51). -/
def execInputDeadline (task : Fin 16) (s : State) : Host.Outcome State Fault Refusal :=
  let k := task.val
  let t := s.task k
  if !s.running || halted s || !t.active || t.released || t.shadow then .next s
  else .next (release (s.at (t.ts + taskD s k)) k)

/-- RELEASE_COMPLETE: the release steps are complete (R51). -/
def execReleaseComplete (task : TaskId) (s : State) : Host.Outcome State Fault Refusal :=
  let k := task.val
  if !s.running || halted s || !(s.task k).relBusy then .next s
  else .next (beginEval (s.modTask k fun t => { t with relBusy := false }) k)

/-- EVENT_TASK_RELEASE_TIMEOUT: 20 µs after T_e the local inputs of an event task have not been delivered (R74). -/
def execEventTaskReleaseTimeout (task : TaskId) (s : State) : Host.Outcome State Fault Refusal :=
  let k := task.val
  let t := s.task k
  if !s.running || halted s || k < 16 || !t.active || t.released || t.shadow then .next s
  else .next (release (s.at (t.ts + 20000)) k)

/-- EXECUTION_TIME_EXCEEDED: an event task's execution has not ended when its maximum time has passed (R76, R760). -/
def execExecutionTimeExceeded (task : TaskId) (s : State) : Host.Outcome State Fault Refusal :=
  let k := task.val
  let t := s.task k
  if !s.running || halted s || k < 16 || !s.acts || !t.active || t.ended then .next s
  else .next (programStop (s.at (t.ts + taskM s k + 1)) 5 k)

/-- LOCAL_INPUT_DELIVERY: the field side delivers what it sampled at T_s or T_e (R51, R529). -/
def execLocalInputDelivery (task : TaskId) (s : State) : Host.Outcome State Fault Refusal :=
  let k := task.val
  let t := s.task k
  if !s.running || halted s || !t.active || t.released || t.shadow || !s.field.link || (localInGroups s k).isEmpty then .next s
  else .next (releaseIfIn (deliverLocal s k) k)

/-- LOOP_EXECUTION_COMPLETE: a loop execution ends; an aligned one may have been what the host's end of evaluation waited for
(R355, R363). -/
def execLoopExecutionComplete (unit : Fin 4) (s : State) : Host.Outcome State Fault Refusal :=
  match Tbl.range s.lpe.units unit.val 1 with
  | [] => .next s
  | (_, e) :: _ =>
    if halted s || !s.running then .next s
    else .next (goOn (loopComplete s unit.val) (s.loop e.loop).host)

/-- LOOP_SAMPLE_INSTANT: an immediate-mode loop reads its sources at t_L, after the publications that fall on it, and its
execution becomes ready; outside RUNNING or in a freeze the instant is skipped and counted (R349, R351, R352, R370). -/
def execLoopSampleInstant (loop : Fin 4096) (s : State) : Host.Outcome State Fault Refusal :=
  let n := loop.val
  let l := s.loop n
  if !l.configured || s.boot.held || (l.aligned && lpeRuns s) then .next s
  else
    let t := loopNext s l
    let s := if s.running && !s.frz.frozen then handoverDone (publishDue s t) else s
    let s := (s.at t).modLoop n fun l => { l with sampled := some (max s.now t) }
    if !s.running || s.frz.frozen then .next (s.count32 LPE_SKIP 1)
    else if !lpeOn s then .next s
    else .next (s.modLpe fun p => { p with
      queue := p.queue ++ [{ loop := n, tl := s.now, ready := s.now, cap := captureSources s n }] })

/-- LOOP_PUBLICATION: an immediate output is published at t_pub (R353, R357). -/
def execLoopPublication (loop : Fin 4096) (s : State) : Host.Outcome State Fault Refusal :=
  if s.frz.frozen then .next s else .next (loopPublish s loop.val)

/-- TASK_WATCHDOG_WINDOW_END: the task watchdog's window ends (R86). -/
def execTaskWatchdogWindowEnd (s : State) : Host.Outcome State Fault Refusal :=
  if !s.running || halted s then .next s else .next (wdWindowEnd s)

/-! ### Events (R36 to R38, R74, R134, R203, R691) -/

/-- The cores among a pulse's destinations; the supervisor core is number 4. -/
def eventCores (d : Nat) : List Nat := (List.range 5).filter fun i => bit d i

/-- The event reaches Gauze: the triggers of segments, then the event tasks bound to the source, whose starts come after the
strikes and publications of the same instant (R54, R74, R134). -/
def eventToGauze (s : State) (n : Nat) : State :=
  let tasks := ((List.range 24).filter fun k => decide (16 ≤ k)).filter fun k => taskEn s k && s.fld (TSK_CTRL_EVSRC k) == n
  let s := if s.running then
      ((List.range 32).filter fun i => s.flag (GZ_TRIG_EN i) && s.fld (GZ_TRIG_EVSRC i) == n).foldl (fun s i =>
        s.modGz fun g => { g with trig := g.trig.add (s.fld (GZ_TRIG_SEGMENT i)) }) s
    else s
  if tasks.isEmpty then s
  else tasks.foldl eventToTask (if s.running then handoverDone (publishDue s s.now) else s)

/-- A latched pulse reaches every destination; a core that waits for its reset takes none (R38). One that finds the source pending at a core is merged there (R37, R43). -/
def deliver (s : State) (n d : Nat) : State :=
  let cores := (eventCores d).filter fun c => !(s.unit c).halted
  let s := if cores.any fun c => (s.unit c).evpend.contains n then s.countMerge n else s
  let s := cores.foldl (fun s c => s.modUnit c fun u => { u with evpend := u.evpend.add n }) s
  let s := if bit d 5 then eventToGauze s n else s
  if bit d 15 then recTrigger s n else s

/-- EVENT_DELIVERY: a latched pulse reaches the destinations of its route; nothing is delivered in a freeze (R37, R38). -/
def execEventDelivery (src : Fin 128) (s : State) : Host.Outcome State Fault Refusal :=
  let n := src.val
  let old := s.evc.latched.get 0 n
  if halted s || old = 0 then .next s
  else
    let d := s.eventDests n old
    .next (deliver { s with evc := { s.evc with latched := s.evc.latched.set 0 n 0 } } n d)

/-! ### Updates of the field side (R528, R529) -/

/-- FIELD_SIDE_UPDATE: every 50 µs; a strike of the same instant is applied first, then the commands that had come in, then the
diagnostics (R528, R529). -/
def execFieldSideUpdate (lowCurrent cooled : Word) (vfieldMv : Nat) (s : State) : Host.Outcome State Fault Refusal :=
  let s := s.at (updateAt s)
  let cmds := s.field.cmds
  let s := s.modField fun f => { f with lastUpd := some s.now, cmds := [] }
  let s := if s.running && !halted s then publishDue s s.now else s
  .next (fieldUpdated (cmds.foldl applyCmd s) lowCurrent cooled vfieldMv)

/-! ### Idle audits (R139 to R143) -/

/-- The segments that an idle audit of a task runs, in the order of their ranks (R139). -/
def auditSegments (s : State) (k : Nat) : List Nat :=
  let out := fun n => (s.hdr n).always || s.gz.next.contains n || s.gz.settle.contains n || s.gz.trig.contains n
  orderBy (fun n => (s.hdr n).rank) ((taskSegs s k).filter fun n => !out n)

/-- An idle audit of a task may begin: audits are made, none is in progress, and the task is idle after a change-driven cycle
(R138, R139). A partner makes none (R447). -/
def auditMay (s : State) (k : Nat) : Bool :=
  let t := s.task k
  s.running && !halted s && s.flag GZ_CTRL_AUDEN && feltRuns s && s.gz.audit.isNone && s.role != roleReady
    && t.evaluated && !t.full && !t.evaluating && !(t.active && !t.ended) && (s.aud k).start != 0 && !fullScan s k

/-- IDLE_AUDIT_START: in a slice that Felt has granted, an idle audit of a task begins with its first run (R138, R139, R403). -/
def execIdleAuditStart (task : TaskId) (s : State) : Host.Outcome State Fault Refusal :=
  let k := task.val
  if !auditMay s k || !auditFunded s k then .next s
  else
    let a : Audit := { task := k, time := (s.task k).lastTime, todo := auditSegments s k }
    .next (auditFinish (auditNext (s.modGz fun g => { g with mismatch := notTask s k g.mismatch, audit := some a })))

/-- What an audit run found: a broken rule counts once, at its instruction; an overflow is no finding (R139, R140). -/
def auditFound (s : State) (r : Run) : List Nat :=
  match r.broken with
  | some a => [a]
  | none => if r.overflow then [] else differing s r

/-- AUDIT_RUN_END: an audit run has ended; its writes are compared with the image and discarded (R139). -/
def execAuditRunEnd (unit : UnitId) (s : State) : Host.Outcome State Fault Refusal :=
  let u := UnitId.key unit
  match (s.unit u).run, s.gz.audit with
  | some r, some a =>
    if !r.audit || !r.done || halted s then .next s
    else
      let s := s.modUnit u UnitSt.leave
      match auditFound s r with
      | [] => .next (auditFinish (auditNext s))
      | x :: more =>
        let b : Audit := { a with
          bytes := a.bytes + 1 + more.length, found := true,
          firstSeg := if a.found then a.firstSeg else r.seg, firstAddr := if a.found then a.firstAddr else x }
        .next (auditFinish (auditNext (s.modGz fun g => { g with audit := some b, mismatch := g.mismatch.add r.seg })))
  | _, _ => .next s

/-! ### Grants (R403, R404) -/

/-- The idle audits that wait for a grant: the one in progress, or those that may begin. -/
def auditsWaiting (s : State) : List Nat :=
  match s.gz.audit with
  | some a => [a.task]
  | none => (List.range 24).filter (auditMay s)

/-- The place of a class 3 duty in the order of the table of R401. -/
def dutyOrder : Duty → Nat
  | .replace => 0
  | .editCheck => 1
  | .traceWrite _ => 2
  | _ => 3

/-- Class 3 work waits at a place of that order: a set in BUILDING or VALIDATING, an edit record, a trace sample (R401). -/
def class3Waits (s : State) (place : Nat) : Bool :=
  if place = 0 then s.gz.stg == .building || s.gz.stg == .validating
  else if place = 1 then !s.jrn.edits.isEmpty
  else (List.range 8).any fun b => !(s.trcb b).waiting.isEmpty

/-- It is the duty's turn (R403): among class 2 the nearest deadline is first, and an unforced scrub keeps to its target line
(R406, log 92); among class 3 the order of R401 holds. -/
def nearest (s : State) (d : Duty) : Bool :=
  match d with
  | .audit t => (auditsWaiting s).all (fun k => decide (auditDeadline s t.val ≤ auditDeadline s k))
      && (!scrubWaits s || decide (auditDeadline s t.val ≤ scrubDeadline s))
  | .scrub => scrubWaits s && (auditsWaiting s).all fun k => decide (scrubDeadline s ≤ auditDeadline s k)
  | d => (List.range (dutyOrder d)).all fun p => !class3Waits s p

/-- A slice that has been asked for and is not granted is the next of its class; a granted one is so no longer (R404). -/
def nextSlice (s : State) (d : Duty) (est : Nat) : State :=
  s.modNrg fun n => if dutyClass d = 2 then { n with next2 := est } else { n with next3 := est }

/-- SLICE_GRANT: Felt grants a slice when the funds for its class hold at that moment and it is the duty's turn; an idle audit
that had yielded goes on (R403, R409). -/
def execSliceGrant (duty : Duty) (estUj : Nat) (s : State) : Host.Outcome State Fault Refusal :=
  if !feltRuns s || s.nrg.slice.isSome || !nearest s duty then .next s
  else if !funded s duty estUj then .next (nextSlice s duty estUj)
  else .next (auditNext ((nextSlice s duty 0).modNrg fun n => { n with slice := some ⟨duty, s.now⟩ }))

end Sys2Proof.Machine
end

