-- ==== Sys2Proof/Machine/JurnoBase.lean ====
section
/-!
DEFINITION. JurnoBase.lean: Jurno messages and answers (R500 to R510): the bytes of a message, sessions and their keys, TAGs,
and how an answer leaves.
-/
namespace Sys2Proof.Machine

def State.modJrn (s : State) (f : JrnState → JrnState) : State := { s with jrn := f s.jrn }

/-! ### Messages (R500) -/

/-- The bytes of a message. -/
def msgBytes (m : JMsg) : List Byte :=
  [m.service, m.reqid] ++ toLE 2 m.status.toNat ++ toLE 2 m.index.toNat ++ [m.sub, m.flags] ++ toLE 2 m.target.toNat
    ++ toLE 4 m.offset.toNat ++ toLE 2 m.len.toNat ++ m.data

/-- The message that bytes spell: a header, and the bytes after it as data. -/
def msgOf (bs : List Byte) : JMsg :=
  let n (i k : Nat) : Nat := fromLE (slice bs i k)
  { service := BitVec.ofNat 8 (n 0 1), reqid := BitVec.ofNat 8 (n 1 1), status := BitVec.ofNat 16 (n 2 2),
    index := BitVec.ofNat 16 (n 4 2), sub := BitVec.ofNat 8 (n 6 1), flags := BitVec.ofNat 8 (n 7 1),
    target := BitVec.ofNat 16 (n 8 2), offset := toWord (n 10 4), len := BitVec.ofNat 16 (n 14 2), data := bs.drop 16 }

/-- The answer to a request, with a status, data, and FLAGS. -/
def msgAnswer (q : JMsg) (status : Nat) (data : List Byte) (flags : Nat := 0) : JMsg :=
  { q with service := q.service ||| 0x80#8, status := BitVec.ofNat 16 status, flags := BitVec.ofNat 8 flags,
           len := BitVec.ofNat 16 data.length, data := data }

/-- RETRY of a busy answer, in ms. -/
def retryData (ms : Nat) : List Byte := toLE 2 ms

/-! ### Sessions (R505 to R508) -/

/-- The slot of the open session with a number. -/
def sessionSlot (s : State) (sid : Nat) : Option Nat :=
  (s.jrn.sessions.find? fun e => match e.2 with | some x => x.sid == sid && sid != 0 | none => false).map (·.1)

def sessionAt (s : State) (slot : Nat) : Option JSess := s.jrn.sessions.get none slot
def setSession (s : State) (slot : Nat) (x : Option JSess) : State :=
  s.modJrn fun j => { j with sessions := j.sessions.set none slot x }

/-- The session that a source names. -/
def sessionOf (s : State) (src : JSrc) : Option JSess :=
  match src with
  | .eth _ _ sid _ _ =>
    (match sessionSlot s sid.toNat with
     | some k => sessionAt s k
     | none => none)
  | .can _ _ => none

/-- The session key Ks (R506). -/
def sessionKey (k : List Byte) (x : JSess) : List Byte :=
  hmac k (strBytes "JRNK" ++ toLE 4 x.sid ++ x.nc ++ x.ns)

/-- TAG of a payload's bytes (R506). -/
def tagOf (ks payload : List Byte) : List Byte := (hmac ks payload).take 16

/-- The bytes of a UDP payload before its TAG (R505). -/
def payloadOf (sid seq : Word) (m : JMsg) : List Byte := toLE 4 sid.toNat ++ toLE 4 seq.toNat ++ msgBytes m

/-- Service codes (R501). -/
def svcRead : Nat := 1
def svcWrite : Nat := 2
def svcGwrite : Nat := 3
def svcDescribe : Nat := 4
def svcReadtime : Nat := 5
def svcOpen : Nat := 0x10
def svcAuth : Nat := 0x11
def svcClose : Nat := 0x12

/-- An answer of a session is kept for its request's SEQ (R507). -/
def keepAnswer (s : State) (sid seq : Nat) (m : JMsg) : State :=
  match sessionSlot s sid with
  | none => s
  | some k =>
    match sessionAt s k with
    | none => s
    | some x => setSession s k (some { x with kept := x.kept.map fun e => if e.1 = seq then (seq, some m) else e })

/-- A message to a source leaves: as a datagram, with its TAG, or as segments on CAN FD. -/
def sendTo (s : State) (src : JSrc) (m : JMsg) : State :=
  match src with
  | .eth ip port sid seq _ =>
    let tag := match sessionOf s src with
      | some x => if x.authed && m.service.toNat % 128 != svcAuth then tagOf x.key (payloadOf sid seq m) else []
      | none => []
    s.send (.jurno (.eth ip port sid seq tag) m)
  | .can ctrl node => canAnswer s ctrl.val node.toNat (msgBytes m)

/-- The session of a source ends (R508). -/
def endSession (s : State) (src : JSrc) : State :=
  match src with
  | .eth _ _ sid _ _ =>
    (match sessionSlot s sid.toNat with
     | some k => setSession s k none
     | none => s)
  | .can _ _ => s

/-- A request is answered; the answer to CLOSE is the last of its session (R508). -/
def answer (s : State) (q : JReq) (m : JMsg) : State :=
  let s := match q.src with
    | .eth _ _ sid seq _ => keepAnswer s sid.toNat seq.toNat m
    | .can _ _ => s
  let s := sendTo s q.src m
  if q.msg.service.toNat = svcClose && m.status == 0#16 then endSession s q.src else s

/-- A request is answered with a status, and with RETRY in ms. -/
def answerStatus (s : State) (q : JReq) (status : Nat) : State := answer s q (msgAnswer q.msg status [])
def answerRetry (s : State) (q : JReq) (status ms : Nat) : State := answer s q (msgAnswer q.msg status (retryData ms))

/-- The answer of a station to a routed request, with the client's REQID (R512). -/
def answerRouted (s : State) (q : JReq) (bs : List Byte) : State :=
  answer s q { (msgOf bs) with reqid := q.msg.reqid, service := (msgOf bs).service ||| 0x80#8 }

/-- A routed request whose transfer failed or expired (R512). -/
def answerFailed (s : State) (t : Tx) : State :=
  match t.req with
  | some q => answerRetry s q 0x0101 100
  | none => s

/-! ### Posted writes (R633, R641) -/

/-- The oldest posted write is made, or does not read back; a request that waited for its record is answered (R486, R641). -/
def postedStep (s : State) (fail : Bool) : State :=
  if !postedReady s then s
  else
    let r := postedWrite s fail
    match r.2 with
    | none => r.1
    | some (q, ok) => if ok then answerStatus r.1 q 0 else answerRetry r.1 q 0x0101 100

/-- POSTED_WRITE_COMPLETE: the NV controller makes the oldest posted write (R633). -/
def execPostedWriteComplete (verifyFail : Bool) (s : State) : Host.Outcome State Fault Refusal :=
  if s.boot.held then .next s else .next (postedStep s verifyFail)

/-- Every posted write is made, as far as none has to wait for the power-fail save. -/
def postedAll (s : State) : Nat → State
  | 0 => s
  | n + 1 => postedAll (postedStep s false) n

end Sys2Proof.Machine
end

