-- ==== Sys2Proof/Machine/Completion.lean ====
section
/-!
DEFINITION. Completion.lean: how ring transactions end (R291 to R297, R313, R322, R460, R462, R512): returning copies,
expiries and withdrawals, and what each does to the task, the station, the client and the module's role.
-/
namespace Sys2Proof.Machine

/-! ### Rejections (R313, R460, R462) -/

/-- Every transaction is cancelled, waiting or in flight, without EV36; clients of routed requests are told (R460, R512). -/
def cancelAll (s : State) : State :=
  let busy := s.phr.entries.filter fun e => e.2.busy
  let waiting := s.phr.queues.flatMap (·.2)
  let s := busy.foldl (fun s e => cancelEntry s e.1) s
  let s := s.modPhr fun p => { p with queues := [] }
  (busy.map (·.2.tx) ++ waiting).foldl answerFailed s

/-- An active module of a pair demotes itself: evaluation halts, no stop is issued, the cause and time of the last stop stay
(R460). -/
def demote (s : State) : State :=
  let s := cancelAll (haltProgram s)
  let s := s.modTsk fun t => { t with prog := .stopped, prepEnd := none }
  setRole (s.modHsb fun h => { h with switch := none, takeover := none, planned := false }) roleDemoted

/-- A completion with status 0x02: EV38, the epoch reported, and what the module does next (R313, R460, R462). -/
def superseded (s : State) (epoch : Nat) : State :=
  let s := s.raise 38
  let s := if (s.reg PHR_SUPERSEDED).toNat < epoch then s.setReg PHR_SUPERSEDED (toWord epoch) else s
  if !s.paired then s.modPhr fun p => { p with newEpoch := true }
  else if s.role = roleActive then demote s
  else s

/-! ### Enumeration by SRW (R317, R319, R322) -/

/-- The identity that a station's record expects. -/
def identMatches (s : State) (key : Nat) (f : StnIdent) : Bool :=
  stnObj s key 1 != 0 && f.vendorProduct.toNat == stnObj s key 1 && f.revisions.toNat == stnObj s key 2

/-- The writes that configure a station, in their order: period, phase and hold time; the safe values, in parts that fit a frame; the
lengths last (R287, R317). -/
def configWrites (s : State) (key : Nat) : List (Nat × List Byte) :=
  let k := stnObj s key 5
  let safe := safeBytes s key
  (0x20, toLE 8 (taskP s k) ++ toLE 8 (taskPhase s k) ++ toLE 4 (1000 * stnObj s key 17))
    :: (List.range ((safe.length + 1463) / 1464)).map (fun i => (0x1000 + 1464 * i, slice safe (1464 * i) 1464))
    ++ [(0x34, toLE 2 (inBytes s key + containerLen s key) ++ toLE 2 (outBytes s key + containerLen s key))]

/-- The write of a station's configuration at a place joins the issue queue; after the last one the station is configured (R317,
R322). -/
def configStep (s : State) (key step : Nat) : State :=
  match (configWrites s key)[step]? with
  | some w => queueTx s { typ := .srw, ring := key / 256, stn := key % 256, data := srwData w.1 0 w.2, aim := .config step }
  | none =>
    let old := s.srec key
    let s := s.setSrec key { old with state := 3, config := true, usable := old.usable && old.config }
    if s.running && !old.config then s.raise (32 + key / 256) else s

/-- A configured station is lost while the program runs: EV32 + r (R322). -/
def lostEvent (s : State) (key : Nat) (was : Bool) : State := if was && s.running then s.raise (32 + key / 256) else s

/-- What the reading of a station's identity gives: its configuration begins, or it is recorded as wrong, or absent (R317, R319,
R322). -/
def foundStation (s : State) (key : Nat) (f : Option StnIdent) : State :=
  let old := s.srec key
  match f with
  | none => lostEvent (s.setSrec key { old with state := 0, config := false, usable := false }) key old.config
  | some id =>
    let new := { old with vp := id.vendorProduct, rev := id.revisions, serial := id.serial }
    if stnObj s key 1 = 0 then s.setSrec key new
    else if identMatches s key id then
      configStep (s.setSrec key { new with state := if old.config then old.state else 2 }) key 0
    else
      lostEvent ((s.setSrec key { new with state := 1, config := false, usable := false }).record 0x0201 2 3 key
        [id.vendorProduct.toNat, id.revisions.toNat]) key old.config

/-- The identity that registers 0x0000 to 0x000F hold (R287). -/
def identOf (bs : List Byte) : StnIdent :=
  { vendorProduct := toWord (fromLE (slice bs 0 4)), revisions := BitVec.ofNat 16 (fromLE (slice bs 4 2)),
    serial := BitVec.ofNat 64 (fromLE (slice bs 8 8)) }

/-- An SRW of an enumeration has ended (R317). -/
def srwEnded (s : State) (t : Tx) (ok : Bool) (data : List Byte) : State :=
  match t.aim with
  | .none => s
  | .ident => foundStation s t.key (if ok then some (identOf (data.drop 8)) else none)
  | .config i => if ok then configStep s t.key (i + 1) else s

/-- SRW transactions of a ring's enumeration are waiting or in flight. -/
def enumBusy (s : State) (r : Nat) : Bool :=
  (s.queue r).any (fun t => t.aim != .none) || s.phr.entries.any fun e => e.2.busy && e.2.tx.ring == r && e.2.tx.aim != .none

/-! ### Completions (R291, R295, R296, R297, R512) -/

/-- A read that a station answered in time is committed; one that comes after release is discarded and counted (R52, R295). -/
def readCompleted (s : State) (t : Tx) (data : List Byte) : State :=
  let k := t.task
  let c := s.task k
  if c.active && !c.released && !c.shadow && decide (c.ts = t.time) then
    let n := inBytes s t.key
    let s := containerIn (commitStation s t.key (data.take n)) t.key (data.drop n)
    releaseIfIn s k
  else
    (s.count (TSK_LATE_LATECNT k) 0xFFFF 1).modTask k fun c => { c with lateCnt := holdAt 0xFFFFFFFF (c.lateCnt + 1) }

/-- What a transaction's end means apart from its status: a stop may end the program's stopping, a routed request is
answered. -/
def endTx (s : State) (t : Tx) (ok : Bool) (data : List Byte) : State :=
  match t.typ with
  | .stop => finishStop s
  | .srd => if ok then readCompleted s t data else cyclicFailed s t
  | .swr => if ok then s else cyclicFailed s t
  | .srw => srwEnded s t ok data
  | .dxf => if ok then (match t.req with | some q => answerRouted s q data | none => s) else answerFailed s t
  | _ => s

/-- An entry completes with what a copy brought back. -/
def completeTx (s : State) (tag : Nat) (f : PFrame) : State :=
  let e := s.entry tag
  let t := e.tx
  let st := f.status.toNat
  let s := (freeEntry s tag).modSrec t.key fun x => { x with
    lastPath := if t.typ = .srd then s.now - e.issue else x.lastPath, rejects := if st = 1 then x.rejects else holdAt 0xFFFFFFFF (x.rejects + 1) }
  let s := endTx s t (st == 1) f.data
  let s := if st = 8 then stationLost s t.key else s
  if st = 2 then superseded s f.epoch.toNat else s

/-- A copy comes back for an entry that it does not belong to: a second copy, and one of a cancelled transaction, is discarded,
another is a stray (R291, R297). -/
def strayCopy (s : State) (tag gen : Nat) : State :=
  if (s.entry tag).lastGen = some gen ∨ (s.entry tag).cancelled.contains gen then s else s.count32 PHR_STRAY 1

/-- COPY_RETURN: a copy of one of the module's own transactions comes back at a port (R291). -/
def execCopyReturn (ring : RingId) (port : Bool) (fcsOk : Bool) (frame : PFrame) (s : State) :
    Host.Outcome State Fault Refusal :=
  if halted s || s.phr.linksDown then .next s
  else if !fcsOk then .next (badFcs s ring.val port)
  else
    let tag := frame.tag.toNat
    let e := s.entry tag
    if !e.busy || e.gen ≠ frame.gen.toNat then .next (strayCopy s tag frame.gen.toNat)
    else if !wbit (frame.flags.setWidth 32) 7 then
      (if e.unans = 0 then .next (s.setEntry tag { e with unans := 1 })
       else .next (endTx (freeEntry s tag) e.tx false []))
    else .next (completeTx s tag frame)

/-! ### Expiries (R292, R293) -/

/-- A transaction expires or is withdrawn: EV36 and the ring's count (R292, R293). -/
def expireTx (s : State) (t : Tx) : State := endTx ((s.raise 36).count32 (PHR_RTMO t.ring) 1) t false []

/-- The oldest transaction of a queue that waits for an entry of the shared pool, by its place. -/
def oldestAcyclic (q : List Tx) : Option (Nat × Tx) :=
  ((List.range q.length).zip q).find? fun e => !e.2.typ.cyclic && e.2.typ != .delta && e.2.typ != .stop

/-- TRANSACTION_EXPIRY: an entry has not completed by its expiry, or an acyclic transaction has waited in its queue for
PHR_TMO.ACYC (R292, R293). -/
def execTransactionExpiry (target : TxTarget) (s : State) : Host.Outcome State Fault Refusal :=
  if halted s then .next s
  else
    match target with
    | .entry tag =>
      let e := s.entry tag.toNat
      if !e.busy || awaitsRelease s e then .next s
      else
        (match txExpiry s e with
         | none => .next s
         | some t => .next (expireTx (expireEntry (s.at t) tag.toNat) e.tx))
    | .queue ring =>
      match oldestAcyclic (s.queue ring.val) with
      | none => .next s
      | some (i, t) =>
        let s := s.at (t.since + s.fld PHR_TMO_ACYC * 1000000)
        .next (expireTx (s.setQueue ring.val ((s.queue ring.val).eraseIdx i)) t)

end Sys2Proof.Machine
end

