-- ==== Sys2Proof/Machine/MemMap.lean ====
section
/-!
DEFINITION. MemMap.lean: the address space (R26 to R28): its areas, what each privilege level may do in them, the bytes they
hold; the special registers as they read (R196 to R203); and the spaces of the test access port (R682).
-/
namespace Sys2Proof.Machine

/-! ### Areas (R26) -/

/-- The areas of the address space. -/
inductive Area where
  | code | image | sram | trace | mram | flash | fw | periph | rom
deriving DecidableEq, Repr

/-- The area that holds an address; `none` outside every range. -/
def areaOf (a : Nat) : Option Area :=
  if a < 0x00800000 then some .code
  else if 0x10000000 ≤ a ∧ a < 0x10400000 then some .image
  else if 0x20000000 ≤ a ∧ a < 0x21000000 then some .sram
  else if 0x30000000 ≤ a ∧ a < 0x30400000 then some .trace
  else if 0x40000000 ≤ a ∧ a < 0x41000000 then some .mram
  else if 0x50000000 ≤ a ∧ a < 0x54000000 then some .flash
  else if 0x60000000 ≤ a ∧ a < 0x60400000 then some .fw
  else if 0xF0000000 ≤ a ∧ a < 0xF0160000 then some .periph
  else if 0xFFFF0000 ≤ a ∧ a < 0x100000000 then some .rom
  else none

/-- Kinds of access. -/
inductive Access where
  | read | write | fetch
deriving DecidableEq, Repr

/-- The permissions of R26 by privilege level: 0 user, 1 system, 2 supervisor. What a peripheral block permits at system
privilege follows R29. -/
def Area.allows (ar : Area) (priv : Nat) (acc : Access) : Bool :=
  match ar, acc with
  | .code, .fetch => true
  | .code, .read => decide (1 ≤ priv)
  | .code, .write => decide (2 ≤ priv)
  | .image, .fetch => false
  | .image, _ => true
  | .sram, .fetch => false
  | .sram, _ => true
  | .trace, .read => decide (1 ≤ priv)
  | .trace, .write => decide (2 ≤ priv)
  | .trace, .fetch => false
  | .mram, .fetch => false
  | .mram, _ => decide (1 ≤ priv)
  | .flash, .read => decide (1 ≤ priv)
  | .flash, _ => false
  | .fw, .write => decide (2 ≤ priv)
  | .fw, _ => decide (1 ≤ priv)
  | .periph, .fetch => false
  | .periph, _ => decide (1 ≤ priv)
  | .rom, .write => false
  | .rom, _ => decide (2 ≤ priv)

/-- A byte of a memory as a reader sees it; `none` where no memory holds it, or where R47 permits no read. `reader` is the task
of the segment that reads, `sup` supervisor privilege. -/
def spaceByte (s : State) (reader : Option Nat) (sup : Bool) (a : Nat) : Option Byte :=
  match areaOf a with
  | some .code => some (s.mem.code.get 0 a)
  | some .image => imageByte s reader sup (a - 0x10000000)
  | some .sram => some (s.mem.sram.get 0 a)
  | some .trace => some (s.mem.trace.get 0 (a - 0x30000000))
  | some .mram => some (mramByte s (a - 0x40000000))
  | some .flash => some (flashByte s (a - 0x50000000))
  | some .fw => some (s.mem.fw.get 0xFF (a - 0x60000000))
  | some .rom => some (s.mem.rom.get 0 (a - 0xFFFF0000))
  | some .periph => none
  | none => none

/-- Where the bytes of safety memory stand in the list of addresses that ECC cannot correct. -/
def safetyBase : Nat := 0x100000000

/-- ECC cannot correct one of the `n` bytes from an address (R229). -/
def eccBad (s : State) (a n : Nat) : Bool :=
  s.mem.ecc.any (fun x => decide (a ≤ x) && decide (x < a + n))
    || (areaOf a == some .mram &&
          s.nv.ecc.any fun x => decide (a ≤ 0x40000000 + x) && decide (0x40000000 + x < a + n))

/-! ### Special registers (R196 to R203) -/

/-- The privilege level of a unit: the supervisor core is always at supervisor privilege (R195). -/
def privOf (s : State) (u : Nat) : Nat := if u = 4 then 2 else (s.unit u).priv

/-- CSTAT (R197). -/
def cstat (s : State) (u : Nat) : Nat := b2n (s.unit u).exl * 128 + privOf s u * 16

/-- A word of EVPEND (R203). -/
def evpendWord (x : UnitSt) (bank : Nat) : Nat :=
  x.evpend.foldl (fun n e => if e / 32 = bank then n ||| 2 ^ (e % 32) else n) 0

/-- The lowest pending event of a bank that a mask names. -/
def pendingMatch (x : UnitSt) (mask : Word) (bank : Nat) : Option Nat :=
  (List.range 32).findSome? fun i => if wbit mask i && x.evpend.contains (32 * bank + i) then some (32 * bank + i) else none

/-- Special register n of unit u as it reads. -/
def specPeek (s : State) (u n : Nat) : Nat :=
  let x := s.unit u
  match n with
  | 0 => cstat s u
  | 1 => x.arith.toNat
  | 2 => x.hndl.toNat
  | 3 => x.expc.toNat
  | 4 => x.exstat.toNat
  | 5 => x.excause.toNat
  | 6 => x.exaddr.toNat
  | 7 => x.vbase.toNat
  | 8 => u % 8
  | 9 => evpendWord x 0
  | 10 => evpendWord x 1
  | 11 => evpendWord x 2
  | 12 => evpendWord x 3
  | 13 => x.ttime % 2 ^ 32
  | 14 => x.ttime / 2 ^ 32 % 2 ^ 32
  | 15 => x.pw0b.toNat
  | 16 => x.pw0l.toNat
  | 17 => x.pw1b.toNat
  | 18 => x.pw1l.toNat
  | _ => 0

/-! ### Read-out spaces (R682) -/

/-- A word read out, and whether ECC could not correct it; `none` for an address that the space does not hold. -/
abbrev TapWord := Option (Nat × Bool)

/-- Space 0x00: the address space as the supervisor core sees it. A register is read without its side effect. -/
def tapMemory (s : State) (a : Nat) : TapWord :=
  if areaOf a = some .periph then
    (if (regDefAt a).isSome then some (regPeek s a, false) else none)
  else
    match spaceByte s none true a, spaceByte s none true (a + 1), spaceByte s none true (a + 2), spaceByte s none true (a + 3) with
    | some b0, some b1, some b2, some b3 => some (fromLE [b0, b1, b2, b3], eccBad s a 4)
    | _, _, _, _ => none

/-- The state of a core: general and special registers, next instruction address, pending delay-slot load. -/
def tapCore (s : State) (u o : Nat) : TapWord :=
  let x := s.unit u
  if o < 0x40 then some ((x.g.getD (o / 4) 0).toNat, false)
  else if o < 0x40 + 4 * 19 then some (specPeek s u ((o - 0x40) / 4), false)
  else if o = 0xC0 then some (x.pc, false)
  else if o = 0xC4 then some (match x.slot with | (_, v) :: _ => v.toNat | [] => 0, false)
  else none

/-- The words of a write buffer or audit buffer, in ascending address: address and value, bytes that are not buffered 0
(log 38). -/
def bufWords (m : Mem) : List (Nat × Nat) :=
  (dedup (m.map fun e => e.1 / 4 * 4)).map fun a => (a, (m.word 0 a).toNat)

/-- The state of a lane. -/
def tapLane (s : State) (j o : Nat) : TapWord :=
  let x := s.unit (16 + j)
  if o < 0x40 then some ((x.g.getD (o / 4) 0).toNat, false)
  else if o = 0x40 then some (x.pc, false)
  else if o = 0x44 then some (match x.run with | some r => r.seg | none => 0, false)
  else if o = 0x48 then some (match x.run with | some r => (bufWords r.wbuf).length | none => 0, false)
  else none

/-- Space 0x03: buffers of lanes 0 to 63 and cores 64 to 68. -/
def tapBuffer (s : State) (i o : Nat) : TapWord :=
  let x := s.unit (if i < 64 then 16 + i else i - 64)
  let audit := decide (0x20000 ≤ o)
  let entries := if audit ∨ i < 64 then 4096 else 16384
  let e := o % 0x20000 / 8
  if i < 69 ∧ e < entries then
    let buf : Mem := match x.run with
      | some r => if r.audit = audit then r.wbuf else []
      | none => []
    let w := (bufWords buf).getD e (0, 0)
    some (if o % 8 = 0 then w.1 else w.2, false)
  else none

/-- The word at an address of a space; the segment-code cache, whose contents are open (log 38), is left to the caller. -/
def tapRead (s : State) (space a : Nat) : TapWord :=
  match space with
  | 0 => tapMemory s a
  | 1 => if a / 0x100 < 5 then tapCore s (a / 0x100) (a % 0x100) else none
  | 2 => if a / 0x100 < 64 then tapLane s (a / 0x100) (a % 0x100) else none
  | 3 => tapBuffer s (a / 0x40000) (a % 0x40000)
  | 4 =>
    if a / 4 < 409600 then some ((s.gz.dir.get 0 (a / 4)).toNat, s.gz.eccDir.contains (a / 4))
    else if 0x1000000 ≤ a ∧ a < 0x1800000 then
      let i := (a - 0x1000000) / 4
      some ((s.gz.ent.get 0 i).toNat, s.gz.eccEnt.contains i)
    else none
  | 5 =>
    if a < 0x100000 then some (((s.hdr (a / 16)).word (a % 16 / 4)).toNat, false)
    else if a < 0x100000 + 16 * 64 then some (((s.slot ((a - 0x100000) / 16)).hdr.word (a % 16 / 4)).toNat, false)
    else none
  | 6 => if a < 0x80000 then some (0, false) else none
  | 7 => if a < 128 * 4096 then some (((s.loop (a / 128)).word (a % 128 / 4 + 1)).toNat, false) else none
  | 8 => if a < 16 * 256 then some (((txView s (a / 16)).getD (a % 16 / 4) 0).toNat, false) else none
  | 9 =>
    if a < 0x100000 then some ((s.mem.safety.word 0 a).toNat, eccBad s (safetyBase + a) 4)
    else if 0x10000000 ≤ a ∧ a < 0x10000100 then tapCore s safetyUnit (a % 0x100)
    else none
  | _ => none

end Sys2Proof.Machine
end

