-- ==== Sys2Proof/Machine/Reset.lean ====
section
/-!
DEFINITION. Reset.lean: module resets and their sources (R710, R711), the hardware watchdog (R667 to R671), the freeze (R673 to
R678), the test access port (R680 to R683), thermal shutdown (R417) and the power-fail sequence (R720, R721).
-/
namespace Sys2Proof.Machine

def State.modBoot (s : State) (f : BootState → BootState) : State := { s with boot := f s.boot }
def State.modFrz (s : State) (f : FrzState → FrzState) : State := { s with frz := f s.frz }
def State.modWdg (s : State) (f : WdgState → WdgState) : State := { s with wdg := f s.wdg }

/-! ### Module resets (R710, R711) -/

/-- The reset sources, coded as in R710. -/
def srcPowerOn : Nat := 1
def srcExternal : Nat := 2
def srcWatchdog : Nat := 3
def srcDoubleFault : Nat := 4
def srcThermal : Nat := 5
def srcSoftware : Nat := 6
def srcPowerFail : Nat := 7

/-- What the non-volatile store keeps: its array, a flash operation that runs to its end, the factory values. Posted writes
that have not begun are lost. -/
def NvState.kept (n : NvState) : NvState :=
  { ({} : NvState) with
    prot := n.prot, recs := n.recs, ctrs := n.ctrs, flash := n.flash, begun := n.begun, incomplete := n.incomplete,
    factory := n.factory, ecc := n.ecc, saveLen := n.saveLen, saveUs := n.saveUs, saveAt := n.saveAt }

/-- What the backup domain keeps; an armed or staged time and the cores' shadows belong to the core domain. -/
def RtcState.kept (r : RtcState) : RtcState := { r with defer := false, armed := none, stage := 0, shadows := [] }

/-- The module in reset: every domain of R20 at its reset state but the backup domain, the field side and the timebase; MRAM
and flash keep what they hold, and so do the program store and the stations outside. -/
def inReset (s : State) (sources : Nat) : State :=
  { now := s.now, pending := s.pending, draws := s.draws, sent := s.sent, stations := s.stations
    units := [(4, UnitSt.atReset 4)]
    mem := { mram := s.mem.mram, flash := s.mem.flash, rom := s.mem.rom }
    prog := s.prog
    nv := s.nv.kept
    rtc := s.rtc.kept
    wdg := { last := s.now, count := s.wdg.count, lastCause := s.wdg.lastCause }
    frz := { strap := s.frz.strap, pinLow := s.frz.pinLow, ir := s.frz.ir }
    boot := { held := true, sources := sources, thermal := s.boot.thermal, saved := s.boot.saved, opLast := s.boot.opLast,
              fuse := s.boot.fuse, loaderVer := s.boot.loaderVer, fwVer := s.boot.fwVer,
              setFormat := s.boot.setFormat, forcesLost := s.boot.forcesLost || !s.img.fmask.isEmpty }
    hsb := { pfwCnt := s.hsb.pfwCnt }
    nrg := { pass := s.now, lastPass := s.now }
    field := { s.field with link := false, owners := [] }
    saf := { image := s.saf.image, conf := s.saf.conf, lsErr := s.saf.lsErr } }

/-- A module reset from a source; in a pair, the active module sends notice 1 first (R452). A source that acts while the module
is held in reset sets its bit (R711). -/
def moduleReset (s : State) (source : Nat) : State :=
  if s.boot.held then s.modBoot fun b => { b with sources := b.sources ||| 2 ^ (source - 1) }
  else inReset (if s.frz.frozen then s else sendNotice s 1) (2 ^ (source - 1))

/-! ### Power (R710, R720, R721) -/

/-- The bank that a save was being written to stays invalid, or whole and unmarked: which of the two is open (R721, log 1). -/
def tornSave (s : State) : State :=
  match s.nv.saving with
  | none => s
  | some payload =>
    let d := s.drawBit
    let s := bankSave d.2 payload
    let o := bankOff (bankRec s).loser
    let mram := mramPut s.mem.mram (o + 16) (List.replicate 8 0)
    let mram := if d.1 then mram else mramPut mram (o + 12) ((mram.getMany 0 (o + 12) 4).map (· ^^^ 0xFF#8))
    { s with mem := { s.mem with mram := mram }, nv := { s.nv with saving := none } }

/-- A record write in progress when power is lost may leave its losing copy invalid (R639, log 1). -/
def tornRecord (s : State) : State :=
  match s.nv.posted with
  | .record key format payload _ :: _ =>
    let d := s.drawBit
    if d.1 then d.2.setNvRec key ((d.2.nvRec key).spoil format payload) else d.2
  | _ => s

/-- Bytes whose value is open after an interrupted flash operation. -/
def openFlash (s : State) (off n : Nat) : State :=
  let bs := (List.range n).map fun i => (Config.freeWord (s.draws + i)).extractLsb' 0 8
  { s with draws := s.draws + n, mem := { s.mem with flash := s.mem.flash.setMany 0xFF off bs } }

/-- A flash operation in progress when power is lost leaves the bytes it works on open (R726, log 1). -/
def tornFlash (s : State) : State :=
  match s.nv.flash with
  | none => s
  | some (.erase sector) => openFlash { s with nv := { s.nv with flash := none } } (65536 * sector) 65536
  | some (.program off bs) => openFlash { s with nv := { s.nv with flash := none } } off bs.length

/-- The supply is gone: the module holds nothing but what needs no supply; the local outputs are off (R534). -/
def powerDown (s : State) : State :=
  let s := inReset (tornFlash (tornRecord (tornSave s))) 0
  { s with field := {}, boot := { s.boot with thermal := false } }

/-- POWER_LOSS: the supply is lost, a power-fail sequence in progress with it (R721). -/
def execPowerLoss (s : State) : Host.Outcome State Fault Refusal := .next (powerDown s)

/-- POWER_ON: the supply rises: a power-on reset, which clears the timebase and the watchdog's counts (R710, R21). The
sub-second phase of the backup domain and the stations' times go on. -/
def execPowerOn (s : State) : Host.Outcome State Fault Refusal :=
  let t := s.now
  let s := powerDown s
  .next { s with
    now := 0
    rtc := { s.rtc with bound := s.rtc.bound - Int.ofNat t }
    wdg := {}
    nrg := {}
    boot := { s.boot with sources := 1, opLast := 0 }
    stations := s.stations.map fun e => (e.1, { e.2 with lastStrike := e.2.lastStrike - t }) }

/-- RESET_N: held low for 10 µs; ignored from a power-fail warning to the power-fail reset (R710, R711). -/
def execResetN (s : State) : Host.Outcome State Fault Refusal :=
  if s.boot.pfw then .next s else .next (moduleReset s srcExternal)

/-- A write to SYS_SWRST with the right key (R733, R711). -/
def swrstWrite (s : State) (w : Word) : State :=
  if wbits w 31 16 ≠ 0x7E51 ∨ s.boot.pfw then s
  else (moduleReset s srcSoftware).modBoot fun b => { b with ldrReq := wbit w 0 }

/-! ### Watchdog (R667 to R671) -/

/-- The watchdog expires with a cause: its counts rise, and the module resets (R671, R706). A paused watchdog does not. -/
def watchdogExpire (s : State) (cause : Nat) : State :=
  if s.wdg.paused then s
  else
    moduleReset ((s.modWdg fun w => { w with count := holdAt 255 (w.count + 1), lastCause := cause }).ctrUp ctrWdg)
      srcWatchdog

/-- A write to WDG_KEY (R668). -/
def wdgKeyWrite (s : State) (w : Word) : State :=
  let v := wbits w 15 0
  let armed := match s.wdg.armed with | some t => decide (s.now ≤ t + 100000) | none => false
  if v = 0x5A3C then s.modWdg fun w => { w with armed := some s.now }
  else if v = 0xC3A5 ∧ armed = true then
    (if wdgElapsed s < s.fld WDG_CTRL_MIN * 1000000 then watchdogExpire s 3
     else s.modWdg fun w => { w with last := if w.paused then 0 else s.now, armed := none })
  else watchdogExpire s 2

/-- WDG_PAIR_WINDOW_TIMEOUT: no second key for 100 µs (R668). -/
def execWdgPairWindowTimeout (s : State) : Host.Outcome State Fault Refusal :=
  match s.wdg.armed with
  | none => .next s
  | some t => if halted s then .next s else .next ((s.at (t + 100000)).modWdg fun w => { w with armed := none })

/-- WATCHDOG_EXPIRY: the count reaches the window (R667, R671). -/
def execWatchdogExpiry (s : State) : Host.Outcome State Fault Refusal :=
  if halted s || s.wdg.paused then .next s
  else .next (watchdogExpire (s.at (s.wdg.last + wdgWindowNs s)) 1)

/-- CLOCK_STOP: the RC oscillator, or the 25 MHz reference, has stopped for more than 50 µs (R670). -/
def execClockStop (rc : Bool) (s : State) : Host.Outcome State Fault Refusal :=
  if halted s then .next s
  else if rc && !s.flag WDG_CTRL_CLKSEL then .next ((s.setFlag WDG_STAT_ALTSTOP true).record 0x0016 2 0 0 [])
  else .next (watchdogExpire s 4)

/-! ### Freeze (R673 to R678) -/

/-- The watchdog stops counting; `last` holds its count while it is paused. -/
def wdgPause (s : State) : State :=
  if s.wdg.paused then s else s.modWdg fun w => { w with paused := true, last := s.now - w.last }

/-- FREEZE_N: held low for 1 µs (R673). -/
def execFreezeN (s : State) : Host.Outcome State Fault Refusal :=
  let s := s.modFrz fun f => { f with pinLow := true }
  if s.boot.held then .next s else .next (freezeRequest s 1 0)

/-- A frame that controller m is sending is cut off and stays requested (R675). -/
def canCut (s : State) (m : Nat) : State :=
  let c := s.canst m
  match c.onBus with
  | some b => canResult (s.setCanst m { c with onBus := none }) m b 1
  | none => s

/-- FREEZE_HALT: t_w of a freeze that has been requested: notice 3 is sent, acknowledges are withheld, every unit halts, the
links go down (R674, R675). -/
def execFreezeHalt (s : State) : Host.Outcome State Fault Refusal :=
  if halted s || s.frz.request.isNone then .next s
  else
    let s := wdgPause (sendNotice s 3)
    let s := s.modFrz fun f => { f with
      frozen := true, tw := s.now, wasActive := s.role == roleActive, limitRun := false, released := false,
      extested := false, eccErr := false, badAddr := false, fzaddr := 0 }
    let s := (s.count32 FRZ_COUNT 1).modPhr fun p => { p with linksDown := true }
    let s := canCut (canCut s 0) 1
    .next (s.modField fun f => { f with link := false })

/-- A core that waits in WTU, with no event of its mask pending, goes on with g0 = 1 at a freeze's release if its time has
passed (R225). -/
def wtuResume (s : State) (u : Nat) : State :=
  s.modUnit u fun x =>
    match x.wait with
    | .wtu time mask bank =>
      if time ≤ s.now ∧ pendingMatch x mask bank = none then { x with g := x.g.set 0 1, wait := .none } else x
    | _ => x

/-- The freeze ends (R677, R678): the watchdog restarts at 0, acknowledges resume. An unpaired module stops its program with
cause 0x01; a paired one listens first. After EXTEST the module resets instead; its reset source is open (log 1). -/
def freezeRelease (s : State) : State :=
  if s.frz.extested then
    let d := s.drawWord
    moduleReset d.2 (d.1.toNat % 7 + 1)
  else
    let s := s.modFrz fun f => { f with
      frozen := false, request := none, released := true, limitRun := false, dur := (s.now - f.tw) / 1000, dr := 0 }
    let s := s.modWdg fun w => { w with paused := false, last := s.now, armed := none }
    let s := canSelect (canSelect ([0, 1, 2, 3, 4].foldl wtuResume s) 0) 1
    if s.paired then s.modHsb fun h => { h with listen := s.now, heard := none } else stopCommand s

/-- FREEZE_LIMIT_EXPIRY: FRZ_CTRL.LIMIT seconds since t_w: release, or at the rise of FREEZE_N (R677). -/
def execFreezeLimitExpiry (s : State) : Host.Outcome State Fault Refusal :=
  if !s.frz.frozen || s.fld FRZ_CTRL_LIMIT = 0 then .next s
  else
    let s := s.at (s.frz.tw + s.fld FRZ_CTRL_LIMIT * 1000000000)
    if s.frz.pinLow then .next (s.modFrz fun f => { f with limitRun := true }) else .next (freezeRelease s)

/-- FREEZE_N_RISE: the pin is high; a freeze whose limit has run out is released (R677). -/
def execFreezeNRise (s : State) : Host.Outcome State Fault Refusal :=
  let s := s.modFrz fun f => { f with pinLow := false }
  if s.frz.frozen && s.frz.limitRun then .next (freezeRelease s) else .next s

/-- The program of a module that does not control the plant any more stops with no transaction: STOPPED, its cause and time
as they were (R460). -/
def quietStop (s : State) : State :=
  (cancelAll (haltProgram s)).modTsk fun t => { t with prog := .stopped, prepEnd := none }

/-- LINKS_UP_AFTER_RELEASE: the Phider links come up after a release; a paired module, which has listened for 1 ms, takes its
role or stops its program; the freeze is recorded (R678). The levels of the eight links are those of ports A and B of ring 0,
then of ring 1, and so on. -/
def execLinksUpAfterRelease (links : BitVec 8) (s : State) : Host.Outcome State Fault Refusal :=
  if halted s || !s.frz.released then .next s
  else
    let f := s.frz
    let s := (List.range 4).foldl (fun s r => s.modRing r fun x => { x with
      linkA := links.getLsbD (2 * r), linkB := links.getLsbD (2 * r + 1) }) s
    let s := (s.modPhr fun p => { p with linksDown := false }).modFrz fun f => { f with released := false }
    let heard := match s.hsb.heard with | some p => p.role == roleActive | none => false
    let s :=
      if !s.paired then s
      else if heard then (if f.wasActive then demote s else setRole (quietStop s) roleSyncing)
      else if f.wasActive then stopCommand s
      else (setRole (quietStop s) roleStarting).modHsb fun h => { h with listen := s.now, heard := none }
    .next (s.record 0x0014 1 0 0
      [f.source, f.trigSrc, f.tw % 2 ^ 32, f.tw / 2 ^ 32 % 2 ^ 32, holdAt 0xFFFFFFFF f.dur])

/-! ### Test access port (R680 to R683) -/

/-- FZSTAT (R683). -/
def fzstatWord (s : State) : Nat :=
  let f := s.frz
  b2n f.frozen * 2 ^ 31 + b2n f.strap * 2 ^ 30 + b2n f.extested * 2 ^ 29 + b2n f.eccErr * 2 ^ 28 + b2n f.badAddr * 2 ^ 27
    + f.source % 8 * 2 ^ 24

/-- An instruction is selected, with what its data register captures. -/
def tapSelect (s : State) (ir : TapIr) (dr : Nat) : State := s.modFrz fun f => { f with ir := ir, dr := dr }

/-- EXTEST: frozen only, and noted; else BYPASS. What the boundary-scan register holds lies outside the spec. -/
def execExtest (s : State) : Host.Outcome State Fault Refusal :=
  if s.frz.frozen then .next (tapSelect (s.modFrz fun f => { f with extested := true }) .extest 0)
  else .next (tapSelect s .bypass 0)

/-- SAMPLE_PRELOAD: the boundary scan is selected. -/
def execSamplePreload (s : State) : Host.Outcome State Fault Refusal := .next (tapSelect s .sample 0)

/-- FZSTAT: the status word is captured. -/
def execFzstat (s : State) : Host.Outcome State Fault Refusal := .next (tapSelect s .fzstat (fzstatWord s))

/-- FZADDR: space and address are set while frozen; else the register reads 0. The address is a multiple of 4. -/
def execFzaddr (value : BitVec 40) (s : State) : Host.Outcome State Fault Refusal :=
  if s.frz.frozen then
    let s := tapSelect s .fzaddr s.frz.fzaddr
    .next (s.modFrz fun f => { f with fzaddr := value.toNat / 4 * 4 })
  else .next (tapSelect s .fzaddr 0)

/-- FZDATA: the word at the address is captured, and the address rises by 4 (R681, R682). The contents of a segment-code cache
are open (log 38). -/
def execFzdata (s : State) : Host.Outcome State Fault Refusal :=
  if !s.frz.frozen then .next (tapSelect s .fzdata 0)
  else
    let space := s.frz.fzaddr / 2 ^ 32
    let a := s.frz.fzaddr % 2 ^ 32
    let w := tapRead s space a
    let d := if space = 6 ∧ w.isSome then s.drawWord else (toWord (w.getD (0, false)).1, s)
    let s := tapSelect d.2 .fzdata d.1.toNat
    .next (s.modFrz fun f => { f with
      eccErr := (w.getD (0, false)).2, badAddr := w.isNone, fzaddr := space * 2 ^ 32 + (a + 4) % 2 ^ 32 })

/-- FZREL: release is requested; it is made with FREEZE_N high (R677, R681). -/
def execFzrel (s : State) : Host.Outcome State Fault Refusal :=
  let s := tapSelect s .fzrel 0
  if s.frz.frozen && !s.frz.pinLow then .next (freezeRelease s) else .next s

/-- BYPASS. -/
def execBypass (s : State) : Host.Outcome State Fault Refusal := .next (tapSelect s .bypass 0)

/-! ### Thermal shutdown (R417) -/

/-- THERMAL_SHUTDOWN: a sensor has read 125 °C or more for 100 µs: the field side takes its safe pattern, and the module enters
reset, which is held. A power-fail save in progress is cut short (R721). -/
def execThermalShutdown (s : State) : Host.Outcome State Fault Refusal :=
  let s := match s.nrg.hot with | some t => s.at (t + 100000) | none => s
  let s := fieldCmd (tornSave s) .safe
  .next ((moduleReset s srcThermal).modBoot fun b => { b with thermal := true })

/-- THERMAL_RESET_RELEASE: with every sensor below 100 °C the reset is held no longer. Temperatures in units of 0.1 °C. -/
def execThermalResetRelease (temps : List Int) (s : State) : Host.Outcome State Fault Refusal :=
  if temps.all fun t => decide (t < 1000) then .next (s.modBoot fun b => { b with thermal := false }) else .next s

/-! ### Power fail (R473, R720) -/

/-- Evaluation halts at a power-fail warning: with a READY partner the module issues nothing and its field side takes the
standby pattern; else stops and the safe pattern follow (R720). -/
def powerFailStop (s : State) : State :=
  if !s.running then s
  else if s.role == roleActive && s.hsb.partner.role == roleReady then
    let s := s.modTsk fun t => { t with prog := .stopping, cause := 9, stopTask := 0xFF, stopTime := s.now }
    fieldCmd (finishStop (cancelAll (haltProgram s))) (.state fsStandby)
  else programStop s 9 0xFF

/-- POWER_FAIL_WARNING: the supply has been below 17.0 V for 100 µs: EV57, notice 2, SYS_OK released, the watchdog paused,
evaluation halted, the save begun (R473, R720). A freeze is released first (R677). -/
def execPowerFailWarning (s : State) : Host.Outcome State Fault Refusal :=
  if s.boot.held || s.boot.pfw then .next s
  else
    let s := if s.frz.frozen then freezeRelease s else s
    if s.boot.held then .next s
    else
      let save := s.boot.ranSince && s.tsk.prog != .preparing && decide (s.nv.prot < 3)
      let s := ((s.raise 57).setFlag HSB_PWR_PFW true).setFlag HSB_PWR_PFWSEEN true
      let s := sendNotice (s.modHsb fun h => { h with pfwCnt := holdAt 0xFFFFFFFF (h.pfwCnt + 1) }) 2
      let s := powerFailStop (wdgPause (s.modBoot fun b => { b with pfw := true }))
      .next { s with nv := { s.nv with saving := if save then some (savePayload s) else none, saveAt := s.now } }

/-- SAVE_COMPLETE: the save is in its bank, and the power-fail reset begins (R720). -/
def execSaveComplete (s : State) : Host.Outcome State Fault Refusal :=
  if !s.boot.pfw || s.boot.held then .next s
  else
    let s := match s.nv.saving with
      | none => s
      | some p =>
        let s := bankSave s p
        { s with
          nv := { s.nv with saving := none, saveLen := p.length, saveUs := (s.now - s.nv.saveAt) / 1000 }
          boot := { s.boot with saved := true } }
    .next (moduleReset s srcPowerFail)

end Sys2Proof.Machine
end

