-- ==== Sys2Proof/Machine/Standby.lean ====
section
/-!
DEFINITION. Standby.lean: the pair at work (R437 to R478): heartbeats and notices, roles, takeover, the records of the state
delta as a partner takes them, the full copy, planned switchover, and the power feeds.
-/
namespace Sys2Proof.Machine

/-! ### Becoming the module that controls the plant (R437, R438, R453, R467, R714) -/

/-- The start after power-up, once every enumeration is done (R714, R718, R730). -/
def autoStartNow (s : State) : State :=
  if s.boot.autoStart && s.acts && !enumerating s && !((enabledRings s).any fun r => (s.ring r).enumReq) then
    let s := s.modBoot fun b => { b with autoStart := false }
    (startCommand s (s.objNum 0x4021 4 == 2) true).1
  else s

/-- A module that is unpaired or has become ACTIVE after a reset serves its rings as PTP master and enumerates them; 0x4021:03
decides on a start. -/
def takeCharge (s : State) : State :=
  let s := startEnum ((enabledRings s).foldl requestEnum (ptpSettle s))
  autoStartNow (s.modBoot fun b => { b with autoStart := s.objNum 0x4021 3 == 1 && !b.noStart })

/-- ENUMERATION_COMPLETE: the stations of the ring have been numbered, identified and configured: every SRW of the enumeration has
ended. The ring takes the state that the probes give, Sync goes on at the fast interval, and the next ring's turn comes (R298, R317). How
long the module's own work has taken since is the command's operand, in ns (log 23). -/
def execEnumerationComplete (ring : RingId) (spent : Nat) (s : State) : Host.Outcome State Fault Refusal :=
  let r := ring.val
  if (s.ring r).state ≠ 1 || enumBusy s r || s.boot.held || s.frz.frozen then .next s
  else
    let s := s.at (s.now + spent)
    let s := setRingState (s.modRing r fun x => { x with enumAt := some s.now }) r (s.ring r).prev
    .next (autoStartNow (startEnum s))

/-- The operating seconds at which the module last became ACTIVE (R469). -/
def nowActive (s : State) : State :=
  let t := s.ctr ctrOpSec
  (s.persistNow recLastActive (toLE 8 t)).modHsb fun h => { h with lastActive := some t }

/-- The module takes a new epoch and becomes ACTIVE (R438). -/
def becomeActive (s : State) : State :=
  let s := nowActive (setRole (takeEpoch s) roleActive)
  s.modHsb fun h => { h with
    switch := none, takeover := none, planned := false, copying := false, relisten := false, follow := false }

/-- A new active module takes every configured station as configured by its predecessor (log 39). -/
def adoptStations (s : State) : State :=
  (configuredStations s).foldl (fun s key => s.modSrec key fun x => { x with state := 3, config := true, usable := true }) s

/-- F: the enabled cyclic task with the shortest period, the lowest-numbered on a tie (R453). -/
def fastTask (s : State) : Option Nat := (orderBy (taskP s) (cyclicTasks s)).head?

/-- A cycle begun in shadow at its sample instant becomes the module's own. -/
def adoptCycle (s : State) (k : Nat) : State :=
  let s := (useStations (clearCommits s k) k).modTask k fun t => { t with shadow := false }
  releaseIfIn (queueReads (fieldLatch s k) k) k

/-- The values that a station last struck: the stable output values of its task, with its safety container (R454). -/
def struckData (s : State) (key : Nat) : List Byte :=
  (stnOut s key).flatMap (fun g => toLE 4 (s.img.stable.get 0 g).toNat) ++ containerOut s key

/-- The stations of every task but F, with the values that they last struck (R454). -/
def takeoverData (s : State) (f : Nat) : List (Nat × List Byte) :=
  ((enabledTasks s).filter fun k => k != f).flatMap fun k => (taskStations s k).map fun key => (key, struckData s key)

/-- A READY partner declares the active module failed and takes over (R452, R453, R455, R457, R459). -/
def failover (s : State) : State :=
  let s := publishDue s s.now
  let held := takeoverData s
  let s := adoptStations (becomeActive s)
  let s := s.count HSB_SWCNT_TAKEOVER 0xFFFF 1
  let d := s.drawWord
  let s := d.2.record 0x0402 2 0 0 [(s.reg PHR_EPOCH).toNat, d.1.toNat]
  match (if s.running then fastTask s else none) with
  | none => s
  | some f =>
    let ta := gridNext s f s.now
    let s := if (s.task f).ts = ta then s else s.modTask f fun t => { t with nextTs := ta }
    s.modHsb fun h => { h with takeover := some { task := f, ta := ta, tx := ta + taskL s f, data := held f } }

/-- In maintenance mode, which either module reports (R452, R465). -/
def maintenance (s : State) : Bool := s.flag HSB_CTRL_MAINT || bit s.hsb.partner.flags 0

/-- A notice of the partner (R452, R465). Only a READY partner declares a failure. -/
def noticeIn (s : State) (code : Nat) : State :=
  let s := s.modHsb fun h => { h with
    rxNotice := if code = 0 then h.rxNotice else code, partner := { h.partner with notice := code } }
  if s.role = roleReady ∧ (code = 1 ∨ code = 2 ∨ code = 4 ∨ code = 5 ∨ (code = 3 ∧ !maintenance s)) then failover s else s

/-! ### Heartbeats (R440 to R442) -/

/-- A frame of the partner with a good CRC: its TYPE, and what it says. -/
def parseHb (bs : List Byte) : Option (Nat × Partner) :=
  let n (i k : Nat) : Nat := fromLE (slice bs i k)
  if bs.length ≠ 18 ∨ n 16 2 ≠ crc16 (bs.take 16) then none
  else some (n 0 1, { role := bits (n 1 1) 7 4, unit := bits (n 1 1) 1 0, flags := n 2 1, notice := n 3 1, epoch := n 4 4,
                      seq := n 8 4, check := toWord (n 12 4) })

/-- The block takes part in the pair: paired, out of reset, not frozen. -/
def pairUp (s : State) : Bool := s.paired && !halted s && s.boot.stage != .rom

/-- Program and firmware of the active partner match the module's own (R430, R436, R729). -/
def matches_ (s : State) (p : Partner) : Bool :=
  p.check == s.prog.check && (match s.hsb.pairCompat with | some v => v == s.boot.pairCompat | none => true)

/-- The instant of the next heartbeat (R441). -/
def hbInstant (s : State) : Nat :=
  let off := if s.hsb.unit = 1 then 0 else 125000
  let from_ := match s.hsb.hbSent with | some t => Nat.max s.now (t + 1) | none => s.now
  from_ + (250000 + off - from_ % 250000) % 250000

/-- The instant at which the unit may drive the TIA-485 line: in its window, at once; a module whose timebase does not yet follow
the partner's waits until the line has been idle for 20 µs (R441). -/
def line485At (s : State) : Nat :=
  match s.hsb.line485 with
  | some t => if s.acts || s.hsb.follow then s.now else Nat.max s.now (t + 20000)
  | none => s.now

/-- HEARTBEAT_SEND: at its instant the unit sends a heartbeat on both paths, a notice's TIA-485 copy before it. The next two
heartbeats repeat a notice; notice 7 stands until T_h (R440, R441, R466). A loader sends none (R731) unless it was entered at the
partner's request: then it sends them, in STARTING (R728). -/
def execHeartbeatSend (s : State) : Host.Outcome State Fault Refusal :=
  if !pairUp s || (s.boot.stage ≠ .firmware && !s.boot.relReq) then .next s
  else
    let s := s.at (hbInstant s)
    let h := s.hsb
    let code := if h.repeats ≠ 0 then h.notice else if h.switch.isSome && s.role == roleActive then 7 else 0
    let f := hbFrame s 1 code
    let note := hbFrame s 2 h.notice
    let s := (s.send (.hsb 0 f)).modHsb fun h => { h with
      wait485 := false, repeats := h.repeats - 1, seq := (h.seq + 1) % 2 ^ 32, hbSent := some s.now }
    let s := s.at (line485At s)
    .next ((if h.wait485 then s.send (.hsb 1 note) else s).send (.hsb 1 f))

/-- An ACTIVE partner's heartbeat on the sync link disciplines the timebase to the partner's: by one step before the plant's
program runs, by the rate alone while it runs, and within ±100 ns once it follows. The offset found and the rate are open, free
values (R449, logs 1 and 99). -/
def followTime (s : State) (p : Partner) : State :=
  let d := s.drawWord
  let r := d.2.drawWord
  let b := r.2.drawBit
  let s := b.2.modPhr fun x => { x with ptpRate := signed 32 r.1.toNat }
  let near (s : State) : State :=
    prove ((s.modHsb fun h => { h with follow := true }).setReg HSB_TOFF (intWord (Int.ofNat (d.1.toNat % 201) - 100))) 6
  if s.hsb.follow then near s
  else if bit p.flags 1 then (if b.1 then near s else s.setReg HSB_TOFF d.1)
  else near (stepTime s (signed 32 d.1.toNat))

/-- A path has brought a valid heartbeat: it is restored, and proven; over the sync link the timebase follows an ACTIVE
partner's (R442, R449, R468). -/
def pathHeard (s : State) (path : Nat) (p : Partner) : State :=
  let s := if path = 0 ∧ p.role = roleActive ∧ !s.acts then followTime s p else s
  prove (s.modHsb fun h => { h with hb := h.hb.set path s.now, lost := h.lost.set path false }) (3 + path)

/-- A non-acting module follows what an ACTIVE partner says: its new epoch is stored, and the role follows (R436, R437, R438,
R451, R463). -/
def followActive (s : State) (p : Partner) : State :=
  let s := if p.epoch = s.hsb.epStore then s else storeEpoch s p.epoch
  let ok := matches_ s p
  if s.boot.stage ≠ .firmware then s
  else if s.role = roleStarting then
    (if s.hsb.relisten then leaveShadow s (if ok then roleSyncing else roleIncompatible) else s)
  else if s.role = roleDemoted then (if s.flag HSB_CTRL_AUTORESYNC then leaveShadow s roleSyncing else s)
  else if s.role = roleIncompatible then (if ok && !s.hsb.badSet then leaveShadow s roleSyncing else s)
  else if s.role = roleSyncing then (if ok then s else leaveShadow s roleIncompatible)
  else s

/-- Bytes of a force record that sets a group's force. -/
def forceBytes (s : State) (g : Nat) : List Byte :=
  let sp := if g < 8192 then (0, g) else if g < 16384 then (1, g - 8192) else if g < 81920 then (2, g - 16384) else (3, g - 81920)
  toLE 1 sp.1 ++ toLE 1 1 ++ toLE 2 sp.2 ++ toLE 4 (s.img.fmask.get 0 g).toNat ++ toLE 4 (s.img.fval.get 0 g).toNat

/-- The states of the configured loops, in the form of LOOPS records (R443, R450). -/
def loopsCopy (s : State) : List Byte :=
  (s.lpe.loops.filter fun e => e.2.configured).flatMap fun e => toLE 4 e.1 ++ wordBytes e.2.saved

/-- The active module sends a full copy to a partner that is SYNCING, once while that role lasts; analogue forces travel as items
(R450, log 14). -/
def copyFor (s : State) (p : Partner) : State :=
  if s.role ≠ roleActive then s
  else if p.role = roleSyncing ∧ !s.hsb.copying then
    let s := (s.modHsb fun h => { h with copying := true, copyAt := s.now }).send (.fullCopy s.img s.mem.sram (loopsCopy s))
    (s.img.fmask.filter fun e => !isDigital e.1).foldl (fun s e => controlItem s 0xFF itemForce (forceBytes s e.1)) s
  else if p.role ≠ roleSyncing then s.modHsb fun h => { h with copying := false }
  else s

/-- What a module that listens keeps of a heartbeat: an ACTIVE partner, else the last one. -/
def listen (s : State) (p : Partner) : State :=
  if s.role = roleStarting ∧ s.hsb.relisten then s.modHsb fun h => { h with listen := s.now }
  else s.modHsb fun h => { h with
    heard := match h.heard with
      | some x => if x.role = roleActive then some x else some p
      | none => some p }

/-- A frame has passed on the TIA-485 line (R441). -/
def heard485 (s : State) (path : Nat) : State :=
  if path = 1 then s.modHsb fun h => { h with line485 := some s.now } else s

/-- HEARTBEAT_RECEIVE: a valid heartbeat on one path (R440). A frame with a bad CRC is discarded. -/
def execHeartbeatReceive (path : Fin 2) (bytes : List Byte) (s : State) : Host.Outcome State Fault Refusal :=
  if !pairUp s then .next s
  else
    let s := heard485 s path.val
    match parseHb bytes with
    | some (1, p) =>
      let s := listen ((pathHeard s path.val p).modHsb fun h => { h with partner := p }) p
      let s := noticeIn (copyFor s p) p.notice
      .next (if p.role = roleActive ∧ !s.acts then followActive s p else s)
    | _ => .next s

/-- NOTICE_RECEIVE: a notice of the partner (R441, R452). -/
def execNoticeReceive (path : Fin 2) (bytes : List Byte) (s : State) : Host.Outcome State Fault Refusal :=
  if !pairUp s then .next s
  else
    let s := heard485 s path.val
    match parseHb bytes with
    | some (2, p) => .next (noticeIn s p.notice)
    | _ => .next s

/-- Both paths are lost: a READY partner declares the failure, a SYNCING one listens again (R436, R452, R465). -/
def partnerLost (s : State) : State :=
  if s.role = roleReady then (if s.hsb.partner.notice = 3 ∧ maintenance s then s else failover s)
  else if s.role = roleSyncing then
    (leaveShadow s roleStarting).modHsb fun h => { h with listen := s.now, heard := none, relisten := false }
  else s

/-- PATH_LOSS: no valid heartbeat has arrived on a path for 1 ms (R442). -/
def execPathLoss (path : Fin 2) (s : State) : Host.Outcome State Fault Refusal :=
  let i := path.val
  if !pairUp s || s.pathLost i then .next s
  else
    let s := s.at (s.hsb.hb.getD i 0 + 1000000)
    let s := s.modHsb fun h => { h with lost := h.lost.set i true, follow := h.follow && i != 0 }
    let s := (s.raise 53).count (if i = 0 then HSB_HBMISS_SL else HSB_HBMISS_RS485) 0xFFFF 1
    .next (if s.pathLost 0 && s.pathLost 1 then partnerLost s else s)

/-- STARTING_LISTEN_END: after 20 ms of listening the module takes its role; unit 2 listens on where it has heard a partner in
another role than ACTIVE (R437). -/
def execStartingListenEnd (s : State) : Host.Outcome State Fault Refusal :=
  if !pairUp s || s.role ≠ roleStarting || s.boot.stage ≠ .firmware then .next s
  else
    let s := s.at (s.hsb.listen + 20000000)
    match s.hsb.heard with
    | none => .next (takeCharge (becomeActive s))
    | some p =>
      if p.role = roleActive then .next (leaveShadow s (if matches_ s p then roleSyncing else roleIncompatible))
      else if s.hsb.unit = 1 then .next (takeCharge (becomeActive s))
      else .next (s.modHsb fun h => { h with relisten := true, listen := s.now, heard := none })

/-! ### Takeover (R453, R454) -/

/-- A takeover SWR for every station of every task but F, with what it last struck before T_d. -/
def takeoverWrites (s : State) (x : Takeover) : State :=
  (x.data.filter fun e => stnUsable s e.1).foldl (fun s e =>
    queueTx s { typ := .swr, ring := e.1 / 256, stn := e.1 % 256, task := stnTask s e.1, time := x.tx, outen := true,
                data := e.2 }) s

/-- TAKEOVER_ISSUE: at T_a the new active module issues the reads of F's cycle and the takeover SWRs (R453). -/
def execTakeoverIssue (s : State) : Host.Outcome State Fault Refusal :=
  match s.hsb.takeover with
  | none => .next s
  | some x =>
    if x.issued || !s.running || halted s || s.role ≠ roleActive then .next s
    else
      let s := (publishDue s x.ta).at x.ta
      if !s.running then .next s
      else
        let t := s.task x.task
        let s := if t.nextTs = x.ta then sampleTask s x.task
                 else if t.ts = x.ta ∧ t.shadow ∧ !t.released then adoptCycle s x.task else s
        .next (takeoverWrites (s.modHsb fun h => { h with takeover := some { x with issued := true } }) x)

/-! ### Records of the state delta (R443 to R451) -/

/-- A record arrives: it is counted and acknowledged (R445, R477). -/
def takeRecord (s : State) (r : HsbRec) : State :=
  (countDelta s (8 + r.body.length)).send (.ack r.task.toNat r.cycle.toNat)

/-- The 8-byte entries of a record. -/
def recEntries (bs : List Byte) : List (Nat × Word) :=
  (List.range (bs.length / 8)).map fun i => (fromLE (slice bs (8 * i) 4), toWord (fromLE (slice bs (8 * i + 4) 4)))

/-- The module evaluates in shadow on this record: READY, or in the course of a planned switchover (R447, R467). -/
def takesInput (s : State) : Bool :=
  s.role == roleReady || (s.role == roleActive && (switched s || s.hsb.planned))

/-- A group of the image as a SYNCING partner takes it: every copy (R450). -/
def copyGroup (s : State) (g : Nat) (w : Word) : State :=
  let s := s.setEval g w
  if isMarker g then s else if isOutput g then (s.setXmit g w).setStable g w else s.setStable g w

/-- The cycle that an INPUT record names, begun in shadow at its sample instant or, where that has not come to the module,
now. -/
def shadowCycle (s : State) (k ts cycle : Nat) : State :=
  let t := s.task k
  let s := if t.active && t.shadow && t.ts == ts && !t.released then s
    else
      let s := s.modTask k fun t => { t.begin ts with nextTs := if k < 16 then ts + taskP s k else t.nextTs, shadow := true }
      let s := startExchange s k
      replan (startDelta (if k < 16 then traceTask (loopsAtSample s k) k else s) k)
  s.modTask k fun t => { t with cycles := cycle }

/-- The release of a shadow cycle: edits, forces and a set take effect as on the active module, the evaluation copy is formed
from the record, and the cycle evaluates in the mode that MODE names (R447, R451). -/
def shadowRelease (s : State) (k mode : Nat) (es : List (Nat × Word)) : State :=
  let f := takeForces s k true
  let p := releasePrep f.1 k (bit mode 5) (bit mode 4)
  if bit mode 4 && !p.swap then
    leaveShadow (p.s.modHsb fun h => { h with badSet := true }) roleIncompatible
  else
    let s := p.s.modTask k fun t => { t with first := bit mode 0 }
    let whole := bit mode 0 || bit mode 1 || bit mode 2 || bit mode 3 || (s.task k).resync
    let old := es.map fun e => s.evalOf e.1
    let s := keepLast (es.foldl (fun s e => s.setEval e.1 e.2) s) k true
    let chg := ((es.zip old).filter fun e => isInput e.1.1 && !f.2.contains e.1.1).map fun e => (e.1.1, diffBytes e.2 e.1.2)
    let w := watchChanges s k
    let marks := chg.filter (fun c => c.2 != 0) ++ (f.2.map fun g => (g, 15)) ++ w.2 ++ p.edited.map fun g => (g, 15)
    loopsAtRelease (released (auditAtRelease (markRelease w.1 k marks whole false) k whole) k whole false) k

/-- The program runs on the partner as it does on the active module; what waited for its start takes effect (R341, R342). -/
def shadowRun (s : State) : State :=
  if s.running then s
  else
    let s := (takeAtStart s).modTsk fun t => { t with prog := .running, prepEnd := none, wdStart := none }
    (cyclicTasks s).foldl (fun s k => s.modTask k fun t => { t with nextTs := gridNext s k s.now }) s

/-- A READY partner takes an INPUT record. -/
def shadowInput (s : State) (r : HsbRec) (k : Nat) : State :=
  let d := s.delta k
  let t := s.task k
  let cycle := r.cycle.toNat
  let skipped := match d.rx with | some c => cycle != (c + 1) % 2 ^ 32 | none => false
  let running := t.active && t.shadow && t.released && !t.ended
  if (skipped || running) && s.role == roleReady then leaveShadow s roleSyncing
  else
    let s := shadowCycle (shadowRun s) k (fromLE (slice r.body 0 8)) cycle
    let s := s.modDelta k fun d => { d with rx := some cycle, rxAt := s.now, endDue := true, digest := [] }
    shadowRelease s k (fromLE (slice r.body 8 1)) (recEntries (r.body.drop 12))

/-- INPUT_RECORD: a READY partner begins its shadow evaluation; a SYNCING one applies what the record carries. -/
def execInputRecord (rec : HsbRec) (s : State) : Host.Outcome State Fault Refusal :=
  let k := rec.task.toNat
  if !pairUp s || 24 ≤ k then .next s
  else
    let s := takeRecord s rec
    if takesInput s then .next (shadowInput s rec k)
    else if s.role = roleSyncing then
      let mode := fromLE (slice rec.body 8 1)
      let s := if bit mode 5 then (editsApply s k).1 else s
      let swapNow := s.gz.stg == .armed && stagedTask s == k
      if bit mode 4 && !swapNow then .next (leaveShadow (s.modHsb fun h => { h with badSet := true }) roleIncompatible)
      else
        let s := if bit mode 4 then (swap s).1 else s
        .next ((recEntries (rec.body.drop 12)).foldl (fun s e => copyGroup s e.1 e.2) (takeForces s k true).1)
    else .next s

/-- GROUPS_RECORD: the groups that changed at a rank's commit (R443). A READY partner computes them itself. -/
def execGroupsRecord (rec : HsbRec) (s : State) : Host.Outcome State Fault Refusal :=
  if !pairUp s then .next s
  else
    let s := takeRecord s rec
    if s.role ≠ roleSyncing then .next s
    else .next ((recEntries rec.body).foldl (fun s e => copyGroup s e.1 e.2) s)

/-- DATA_RECORD: the data SRAM words committed (R443). -/
def execDataRecord (rec : HsbRec) (s : State) : Host.Outcome State Fault Refusal :=
  if !pairUp s then .next s
  else
    let s := takeRecord s rec
    if s.role ≠ roleSyncing then .next s
    else
      .next { s with mem := { s.mem with
        sram := (recEntries rec.body).foldl (fun m e =>
          if 0x20000000 ≤ e.1 ∧ e.1 < 0x21000000 then Mem.setWord m 0 (e.1 / 4 * 4) e.2 else m) s.mem.sram } }

/-- The 28 bytes of state of a loop (R371). -/
def loopState (s : State) (n : Nat) (bs : List Byte) : State :=
  let w (i : Nat) : Word := toWord (fromLE (slice bs (4 * i) 4))
  let l := ((((((s.loop n).setWord 1 (w 0)).setWord 9 (w 1)).setWord 0x14 (w 2)).setWord 0x1D (w 3)).setWord 0x1E (w 4)).setWord
    0x1F (w 5)
  s.setLoop n { (l.setWord 0x20 (w 6)) with pub := w 3 }

/-- LOOPS_RECORD: the loop states of the cycle (R444). -/
def execLoopsRecord (rec : HsbRec) (s : State) : Host.Outcome State Fault Refusal :=
  if !pairUp s then .next s
  else
    let s := takeRecord s rec
    if s.role ≠ roleSyncing then .next s
    else
      .next ((List.range (rec.body.length / 32)).foldl (fun s i =>
        let n := fromLE (slice rec.body (32 * i) 4)
        if n < 4096 then loopState s n (slice rec.body (32 * i + 4) 28) else s) s)

/-- END_RECORD: the partner compares the digests, or keeps the record's until its own evaluation has ended (R446, R447). -/
def execEndRecord (rec : HsbRec) (s : State) : Host.Outcome State Fault Refusal :=
  let k := rec.task.toNat
  if !pairUp s || 24 ≤ k then .next s
  else
    let s := takeRecord s rec
    if s.role ≠ roleReady then .next s
    else
      let d := s.delta k
      if d.rx ≠ some rec.cycle.toNat then .next (if d.rx.isNone then s else leaveShadow s roleSyncing)
      else
        let s := s.setDelta k { d with digest := listFit 0 32 rec.body, endDue := false }
        .next (if (s.task k).ended then digestJudge s k else s)

/-- END_RECORD_TIMEOUT: no END record within one period of the task (R447). -/
def execEndRecordTimeout (task : TaskId) (s : State) : Host.Outcome State Fault Refusal :=
  let k := task.val
  let d := s.delta k
  if !pairUp s || s.role ≠ roleReady || !d.endDue || 16 ≤ k then .next s
  else .next (leaveShadow (s.at (d.rxAt + taskP s k)) roleSyncing)

/-- Instants of the LEDGER record's audit deadlines; 0 stands for none. -/
def ledgerDeadline (s : State) (k : Nat) : Nat := if (s.aud k).start = 0 then 0 else auditDeadline s k

/-- LEDGER_RECORD_SEND: once per millisecond the active module sends balance, state bits and audit deadlines (R418, R443). -/
def execLedgerRecordSend (s : State) : Host.Outcome State Fault Refusal :=
  if !pairUp s || s.role ≠ roleActive then .next s
  else
    let body := toLE 4 (viewNrg s NRG_BAL 0) ++ toLE 4 (viewNrg s NRG_STAT (s.reg NRG_STAT).toNat)
      ++ (List.range 24).flatMap fun k => toLE 8 (ledgerDeadline s k)
    .next ((countDelta s (8 + body.length)).send (.delta recLedger { task := 0xFF, cycle := 0, body := body }))

/-- LEDGER_RECORD: the partner reports the balance and state bits, and keeps its audit deadlines in step (R418). -/
def execLedgerRecord (rec : HsbRec) (s : State) : Host.Outcome State Fault Refusal :=
  if !pairUp s then .next s
  else
    let s := takeRecord s rec
    if s.acts then .next s
    else
      let n (i k : Nat) : Nat := fromLE (slice rec.body i k)
      let s := s.modHsb fun h => { h with pBal := toWord (n 0 4), pStat := toWord (n 4 4) }
      let len := s.fld GZ_AUDINT_SECONDS * 1000000000
      .next ((List.range 24).foldl (fun s k => s.modAud k fun a => { a with start := n (8 + 8 * k) 8 - len }) s)

/-- The handover item is acknowledged: its CYCLE is T_h (log 14). -/
def ackSwitch (s : State) (cycle : Word) : State :=
  match s.hsb.switch with
  | some x => if toWord x.th = cycle then s.modHsb fun h => { h with switch := some { x with acked := true } } else s
  | none => s

/-- RECORD_ACKNOWLEDGEMENT: the partner has acknowledged a record; the batch gives its entry back (R445, R448, R468). The task
is 0xFF for an item that names none. -/
def execRecordAcknowledgement (task : Byte) (cycle : Word) (s : State) : Host.Outcome State Fault Refusal :=
  let k := task.toNat
  if !pairUp s || s.role ≠ roleActive then .next s
  else
    let s := prove s 3
    if 24 ≤ k then .next (ackSwitch s cycle)
    else
      let s := s.modDelta k fun d => { d with ackIn := some cycle.toNat }
      .next ((s.phr.entries.filter fun e =>
        e.2.busy && e.2.tx.typ == .delta && e.2.tx.task == k && e.2.tx.cycle == cycle.toNat).foldl
          (fun s e => freeEntry s e.1) s)

/-! ### The full copy (R450) -/

/-- A byte of the digital forcing table is copied. -/
def copyForce (s : State) (o : Nat) (b : Byte) : State :=
  let g := o % 0x8000 / 4
  let put (t : Tbl Word) (k : Nat) : Tbl Word := t.set 0 k (withByte (t.get 0 k) (o % 4) b)
  match o / 0x8000 with
  | 0 => s.modImg fun i => { i with fmask := put i.fmask (gIX g) }
  | 1 => s.modImg fun i => { i with fval := put i.fval (gIX g) }
  | 2 => s.modImg fun i => { i with fmask := put i.fmask (gQX g) }
  | _ => s.modImg fun i => { i with fval := put i.fval (gQX g) }

/-- A byte of the full copy at its address: the views of the image, the tables behind it, data SRAM. The Gauze area takes no
part (R450). -/
def copyByte (s : State) (a : Nat) (b : Byte) : State :=
  if 0x20000000 ≤ a ∧ a < 0x21000000 then { s with mem := { s.mem with sram := s.mem.sram.set 0 a b } }
  else if 0x10000000 ≤ a ∧ a < 0x10300000 then
    let o := a - 0x10000000
    match viewGroup o with
    | some (g, i) => copyGroup s g (withByte (s.evalOf g) i b)
    | none =>
      if o < 0x2B0000 then s
      else if o < 0x2D0000 then copyForce s (o - 0x2B0000) b
      else s.modImg fun i => { i with sup := i.sup.set 0 o (b ^^^ tableByte s o) }
  else s

/-- Where chunks carry loop states: 32 bytes a loop, in the form of a LOOPS record, at addresses that no memory has (log 14). -/
def loopChunk : Nat := 0xE0000000

/-- FULL_COPY_CHUNK: a chunk of the full copy arrives and is applied in order with the running deltas (R450). -/
def execFullCopyChunk (addr : Word) (data : List Byte) (s : State) : Host.Outcome State Fault Refusal :=
  if !pairUp s || s.role ≠ roleSyncing then .next s
  else
    let a := addr.toNat
    if loopChunk ≤ a ∧ a < loopChunk + 131072 then
      .next ((List.range (data.length / 32)).foldl (fun s i =>
        loopState s ((a - loopChunk) / 32 + i) (slice data (32 * i + 4) 28)) s)
    else .next ((data.zip (List.range data.length)).foldl (fun s e => copyByte s (a + e.2) e.1) s)

/-- FULL_COPY_COMPLETE: the partner becomes READY; its first shadow cycle of every task is a resync cycle (R450). A READY
module drives SYS_OK (R715). -/
def execFullCopyComplete (s : State) : Host.Outcome State Fault Refusal :=
  if !pairUp s || s.role ≠ roleSyncing then .next s
  else
    let s := s.modHsb fun h => { h with copying := false, deltas := [] }
    let s := (List.range 24).foldl (fun s k => s.setTask k {
      nextTs := if k < 16 then gridNext s k s.now else 0, resync := true, evaluated := true, lastTime := (s.task k).lastTime,
      eccFull := (s.task k).eccFull, cycles := 1 }) s
    let s := if bit s.hsb.partner.flags 1 then shadowRun s else s
    .next ((setRole s roleReady).setFlag SYS_SYSOK_DRIVE true)

/-! ### Staged sets of a pair (R148, R152, R155, R451) -/

/-- The plant's program runs: this module's own, or that of the active partner which it follows. -/
def plantRuns (s : State) : Bool :=
  !s.stopped || ((s.role == roleSyncing || s.role == roleReady) && bit s.hsb.partner.flags 1)

/-- A set has failed; a partner that follows the active module becomes INCOMPATIBLE (R451). -/
def setFailed (s : State) (err seg : Nat) : State :=
  let s := stgFail s err seg
  if s.role = roleSyncing ∨ s.role = roleReady then leaveShadow (s.modHsb fun h => { h with badSet := true }) roleIncompatible
  else s

/-- BUILDING_COMPLETE: Gauze has built the new lists, in a funded slice of class 3; it fails where the entries do not suffice
(R148, R402). -/
def execBuildingComplete (s : State) : Host.Outcome State Fault Refusal :=
  if s.gz.stg ≠ .building || !feltRuns s || !inSlice s .replace then .next s
  else
    let ents := (stagedNews s).foldl (fun n x => n + x.rcount + x.wcount) 0
    if entriesFree s < ents then
      match stgCheck s with
      | some e => .next (setFailed s e.1 e.2)
      | none => .next (setFailed s 0x07 0)
    else .next (s.modGz fun g => { g with stg := .validating })

/-- VALIDATION_COMPLETE: in a funded slice of class 3 the set becomes ARMED, or FAILED on the first failing check; in STOPPED it
is swapped at once, and the marks wait for the task's next release (R152, R155, R402). -/
def execValidationComplete (s : State) : Host.Outcome State Fault Refusal :=
  if s.gz.stg ≠ .validating || !feltRuns s || !inSlice s .replace then .next s
  else
    match stgCheck s with
    | some e => .next (setFailed s e.1 e.2)
    | none => if plantRuns s then .next (s.modGz fun g => { g with stg := .armed }) else .next (swap s).1

/-! ### PAIRCOMPAT (R729) -/

/-- The module's PAIRCOMPAT leaves over the sync link. -/
def sendCompat (s : State) : State := s.send (.compat s.boot.pairCompat)

/-- PAIR_COMPATIBILITY_FRAME: the partner's PAIRCOMPAT; the module answers one it has not answered yet (R729). -/
def execPairCompatibilityFrame (bytes : List Byte) (s : State) : Host.Outcome State Fault Refusal :=
  if !pairUp s then .next s
  else
    let v := fromLE (bytes.take 2)
    let s := if s.role ≠ roleStarting ∨ s.hsb.pairCompat.isNone then sendCompat s else s
    .next (s.modHsb fun h => { h with pairCompat := some v })

/-! ### Commands (R452, R463, R466, R475, R479) -/

/-- A planned switchover is requested: T_h is the first T_s of F at least 2 ms ahead (R466). -/
def requestSwitch (s : State) : State × Nat :=
  if s.role ≠ roleActive ∨ s.hsb.partner.role ≠ roleReady ∨ s.hsb.switch.isSome then (s, 0x0701)
  else
    let th := match fastTask s with | some f => gridNext s f (s.now + 2000000) | none => s.now + 2000000
    let s := s.modHsb fun h => { h with switch := some { th := th, since := s.now } }
    (sendNotice (controlRecord s 0xFF th itemHandover (toLE 8 th)) 7, 0)

/-- SWITCHOVER_ACK_TIMEOUT: the handover item has not been acknowledged within 1 ms (R466). -/
def execSwitchoverAckTimeout (s : State) : Host.Outcome State Fault Refusal :=
  match s.hsb.switch with
  | none => .next s
  | some x =>
    if x.acked || s.role ≠ roleActive || !pairUp s then .next s
    else
      let s := (s.at (x.since + 1000000)).modHsb fun h => { h with switch := none, repeats := 0 }
      .next (s.record 0x0403 1 0 0 [x.th % 2 ^ 32, x.th / 2 ^ 32])

/-- The new active module at T_h: a new epoch, every cycle from T_h on, no acyclic transaction for the longest period
(R467, R469). -/
def takeHandover (s : State) (th : Nat) : State :=
  let s := adoptStations (becomeActive s)
  let s := s.count HSB_SWCNT_PLANNED 0xFFFF 1
  let longest := (enabledTasks s).foldl (fun n k => if k < 16 then Nat.max n (taskP s k) else n) 0
  let s := s.modHsb fun h => { h with planned := true, noAcyc := th + longest }
  (cyclicTasks s).foldl (fun s k =>
    let t := s.task k
    if t.active && t.shadow && !t.released && decide (th ≤ t.ts) then adoptCycle s k else s) s

/-- HANDOVER: the timebase reaches T_h of a planned switchover (R467). -/
def execHandover (s : State) : Host.Outcome State Fault Refusal :=
  match s.hsb.switch with
  | none => .next s
  | some x =>
    if !x.acked || !pairUp s then .next s
    else
      let s := (publishDue s x.th).at x.th
      if s.role = roleReady then .next (takeHandover s x.th) else .next (handoverDone s)

/-- A resynchronise command (R436, R463, R475). -/
def resync (s : State) : State × Nat :=
  if s.role = roleDemoted ∨ s.role = roleUnfit ∨ s.role = roleReady ∨ s.role = roleIncompatible then
    (leaveShadow s roleSyncing, 0)
  else (s, 0x0701)

/-- The active module declares itself failed: notice 5, then DEMOTED (R452, R475). -/
def declareFail (s : State) : State × Nat :=
  if s.role = roleActive then (demote (sendNotice s 5), 0) else (s, 0x0701)

/-- A write to HSB_CMD (R475). -/
def hsbCmdWrite (s : State) (w : Word) : State :=
  let s := if wbit w 0 then (requestSwitch s).1 else s
  let s := if wbit w 1 then (resync s).1 else s
  if wbit w 2 then (declareFail s).1 else s

/-! ### Power feeds (R472) -/

/-- The state of a feed with a voltage. A voltage within the tolerance of a threshold leaves the state open, a free bit
(log 1). -/
def feedState (s : State) (old mv : Nat) : State × Nat :=
  let d := s.drawBit
  if old = 3 ∧ 30500 ≤ mv then (s, 3)
  else if 32000 < mv then (s, 3)
  else if 31000 ≤ mv then (d.2, if d.1 then 3 else 2)
  else if mv < 9000 then (s, 0)
  else if 19200 ≤ mv then (s, 2)
  else if mv < 18300 then (s, 1)
  else (d.2, if d.1 then 2 else 1)

/-- FEED_STATE_CHANGE: a feed has crossed a threshold for the filter time; its measurements show, and a change of state
raises EV56 (R472, R478). -/
def execFeedStateChange (feed : Fin 2) (mv ma : Nat) (s : State) : Host.Outcome State Fault Refusal :=
  if s.boot.held then .next s
  else
    let a := if feed.val = 0 then HSB_FEEDA else HSB_FEEDB
    let old := wbits (s.reg a) 31 30
    let n := feedState s old mv
    let s := n.1.setReg a (toWord (n.2 * 2 ^ 30 + Nat.min 1023 (ma / 2) * 65536 + Nat.min 0xFFFF mv))
    .next (if n.2 = old then s
      else (s.modHsb fun h => { h with feedCnt := holdAt 0xFFFFFFFF (h.feedCnt + 1) }).raise 56)

end Sys2Proof.Machine
end

