-- ==== Sys2Proof/Machine/Update.lean ====
section
/-!
DEFINITION. Update.lean: firmware images and their verification (R723, R724), the update of this module by its resident loader
(R725 to R727), and the relay of an update to the partner (R728, R729).
-/
namespace Sys2Proof.Machine

/-! ### Firmware images (R722 to R724) -/

/-- Where the firmware region begins in the flash. -/
def fwRegion : Nat := 16 * 65536

/-- Header checks of R724 on block 0, all but SIG: the reason of 0x1040:06, `none` where they hold. -/
def headerReason (s : State) (hd : List Byte) : Option Nat :=
  let n (i k : Nat) : Nat := fromLE (slice hd i k)
  let len := n 16 4
  let load := n 24 4
  if n 0 4 ≠ 0x5A544657 ∨ n 4 2 ≠ 1 ∨ len < 8192 ∨ 8388608 < len ∨ len % 4096 ≠ 0 ∨ n 22 2 ≠ 0 ∨ n 28 4 ≠ 0
      ∨ load < 4096 ∨ 3145728 < load ∨ load % 4096 ≠ 0 ∨ len - 4096 < load
      ∨ (slice hd 160 3936).any (fun b => b != 0) then some 1
  else if sha256 (slice hd 32 64) ≠ s.boot.fuse then some 2
  else if s.boot.loaderVer < n 12 4 then some 3
  else none

/-- Bytes of the flash. -/
def flashBytes (s : State) (off n : Nat) : List Byte := (List.range n).map fun i => flashByte s (off + i)

/-- Why the image in the firmware region does not verify (R724). -/
def imageReason (s : State) : Option Nat :=
  let hd := flashBytes s fwRegion 4096
  match headerReason s hd with
  | some r => some r
  | none =>
    let len := fromLE (slice hd 16 4)
    let image := hd.take 96 ++ List.replicate 64 0 ++ hd.drop 160 ++ flashBytes s (fwRegion + 4096) (len - 4096)
    if ecdsaVerify (slice hd 32 64) (slice hd 96 64) (sha256 image) then none else some 8

/-! ### Answers -/

/-- A relayed frame: a kind, 1 begin, 2 block, 3 activate, 4 abort, with 0x80 added in an answer; then a block or a status. The
form is the model's (log 40). -/
def relayAnswer (s : State) (kind status : Nat) : State :=
  if s.boot.relReq then s.send (.relay (toLE 1 (0x80 + kind) ++ toLE 2 status)) else s

/-- The answer to a block: to the client, or to the active partner. -/
def answerBlock (s : State) (req : Option JReq) (status : Nat) : State :=
  match req with
  | some q => answerStatus s q status
  | none => relayAnswer s 2 status

/-- The update fails with a reason (R725, R738). -/
def updFail (s : State) (reason block : Nat) : State :=
  (s.modBoot fun b => { b with upd := .failed, updReason := reason, updWork := none, updReq := none }).record 0x0A05 2 0 0
    [reason, block]

/-! ### Blocks (R726) -/

/-- A block's next page is programmed. -/
def updOp (s : State) (w : UpdWork) : State :=
  let off := fwRegion + 4096 * w.block
  { s with nv := { s.nv with flash := some (.program (off + 256 * w.page) (slice w.data (256 * w.page) 256)) } }

/-- Begins a block: at the first block of a sector the sector's erase, marked as begun. -/
def startBlock (s : State) (w : UpdWork) : State :=
  let s := s.modBoot fun b => { b with updWork := some w }
  let sector := flashSector (fwRegion + 4096 * w.block)
  if w.block % 16 = 0 then
    { s with nv := { s.nv with begun := s.nv.begun.add sector, flash := some (.erase sector) } }
  else updOp s w

/-- A flash operation of an update has ended: the next page, or the block's answer. A program error ends the update. -/
def updStep (s : State) (op : FlashOp) (ok : Bool) : State :=
  match s.boot.updWork with
  | none => s
  | some w =>
    if !ok then answerBlock (updFail s 10 w.block) w.req 0x0402
    else
      match op with
      | .erase sector => updOp { s with nv := { s.nv with begun := s.nv.begun.del sector } } w
      | .program _ _ =>
        if w.page + 1 < 16 then
          let w := { w with page := w.page + 1 }
          updOp (s.modBoot fun b => { b with updWork := some w }) w
        else
          let s := s.modBoot fun b => { b with updWork := none, updNext := w.block + 1, updLast := some w.block }
          answerBlock s w.req 0

/-- FLASH_OPERATION_COMPLETE: a sector erase or page program ends, also during a freeze (R647, R676). What a failed
verification leaves in the flash is as programmed. An update goes on (R726). -/
def execFlashOperationComplete (verifyOk : Bool) (s : State) : Host.Outcome State Fault Refusal :=
  match s.nv.flash with
  | none => .next s
  | some op => .next (updStep (flashEnd s verifyOk) op verifyOk)

/-- A block is written to the resident loader: the state, and the status unless it is programmed first. -/
def updBlock (s : State) (req : Option JReq) (bs : List Byte) : State × Option Nat :=
  let n := fromLE (slice bs 0 4)
  let data := slice bs 8 4096
  if s.boot.upd ≠ .receiving then (s, some 0x0701)
  else if s.boot.updWork.isSome || s.nv.flash.isSome then (s, some 0x0101)
  else if crc32c data ≠ fromLE (slice bs 4 4) then (s.modBoot fun b => { b with updReason := 4 }, some 0x0402)
  else if s.boot.updLast = some n then (s, some 0)
  else if n ≠ s.boot.updNext ∨ (n ≠ 0 ∧ s.boot.updLen ≤ n) then (s.modBoot fun b => { b with updReason := 5 }, some 0x0402)
  else
    let w : UpdWork := { req := req, block := n, data := data, page := 0 }
    if n ≠ 0 then (startBlock s w, none)
    else
      match headerReason s data with
      | some r => (updFail s r 0, some 0x0402)
      | none =>
        let s := { s with nv := { s.nv with incomplete := true } }
        let s := s.modBoot fun b => { b with updVer := fromLE (slice data 8 4), updLen := fromLE (slice data 16 4) / 4096 }
        (startBlock s w, none)

/-! ### Commands of 0x1040:01 (R725) -/

/-- A transfer begins from block 0. -/
def receive (s : State) (partner : Bool) : State :=
  s.modBoot fun b => { b with
    upd := .receiving, updReason := 0, updNext := 0, updLast := none, updLen := 0, updVer := 0, updPartner := partner,
    updWork := none, updReq := none }

/-- Command 1 as firmware takes it: its status. -/
def updBeginStatus (s : State) : Nat :=
  if s.boot.upd ≠ .idle then 0x0701
  else if s.boot.stage ≠ .firmware then 0
  else if s.objNum 0x1040 2 = 0 then
    (if s.stopped ∧ !(s.paired && s.hsb.partner.role == roleReady) then 0 else 0x0701)
  else if s.role = roleActive then 0 else 0x0701

/-- Command 1: the resident loader receives; firmware resets into the loader, or asks the partner to (R725, R728). -/
def updBegin (s : State) : State :=
  if s.boot.stage ≠ .firmware then receive s false
  else if s.objNum 0x1040 2 = 0 then
    let s := s.record 0x0A03 1 0 0 [0, s.boot.updVer]
    (moduleReset s srcSoftware).modBoot fun b => { b with ldrReq := true }
  else
    let s := (receive s true).record 0x0A03 1 0 0 [1, 0]
    (s.send (.relay (toLE 1 1))).modHsb fun h => { h with relayAt := some s.now }

/-- Command 2: RECEIVING to VERIFYING; relayed to the partner. -/
def updActivate (s : State) : State × Nat :=
  if s.boot.upd ≠ .receiving ∨ s.boot.updWork.isSome then (s, 0x0701)
  else
    let s := s.modBoot fun b => { b with upd := .verifying }
    if s.boot.updPartner then
      ((s.send (.relay (toLE 1 3))).modHsb fun h => { h with relayAt := some s.now }, 0)
    else (s, 0)

/-- Command 3: RECEIVING or FAILED to IDLE. -/
def updAbort (s : State) : State × Nat :=
  if s.boot.upd = .receiving ∨ s.boot.upd = .failed then
    let s := if s.boot.updPartner then (s.send (.relay (toLE 1 4))).modHsb fun h => { h with relayAt := none } else s
    (s.modBoot fun b => { b with upd := .idle, updReason := 0, updWork := none, updReq := none, updPartner := false }, 0)
  else (s, 0x0701)

/-- VERIFY_COMPLETE: verification ends (R725): the image is activated, with a software reset, or the update fails. -/
def execVerifyComplete (s : State) : Host.Outcome State Fault Refusal :=
  if s.boot.upd ≠ .verifying || s.boot.updPartner || s.boot.held || s.frz.frozen then .next s
  else
    match imageReason s with
    | some r => .next (relayAnswer (updFail s r s.boot.updNext) 3 0x0402)
    | none =>
      let s := { s with nv := { s.nv with incomplete := false } }
      let s := relayAnswer (s.record 0x0A04 1 0 0 [s.boot.fwVer, s.boot.updVer]) 3 0
      .next ((moduleReset s srcSoftware).modBoot fun b => { b with ldrReq := false })

/-! ### Relay (R728) -/

/-- A block for the partner: checked for pair compatibility at block 0 and sent on; `none` while the partner's loader has not
answered (R728, R729). -/
def relayBlock (s : State) (q : JReq) (bs : List Byte) : State × Option Nat :=
  let n := fromLE (slice bs 0 4)
  if s.boot.upd ≠ .receiving then (s, some 0x0701)
  else if s.boot.updReq.isSome then (s, some 0x0101)
  else if n = 0 ∧ s.running ∧ fromLE (slice bs 14 2) ≠ s.boot.pairCompat then (updFail s 6 0, some 0x0402)
  else
    let s := (s.send (.relay (toLE 1 2 ++ bs))).modHsb fun h => { h with relayAt := some s.now }
    (s.modBoot fun b => { b with
      updReq := some q, updLast := some n, updVer := if n = 0 then fromLE (slice bs 16 4) else b.updVer }, none)

/-- The partner's loader has answered; a block just accepted and sent again counts once (R726). -/
def relayed (s : State) (kind status : Nat) : State :=
  let s := s.modHsb fun h => { h with relayAt := none }
  if kind = 0x82 then
    match s.boot.updReq with
    | none => s
    | some q =>
      let s := s.modBoot fun b => { b with
        updReq := none, updNext := if status = 0 ∧ b.updLast = some b.updNext then b.updNext + 1 else b.updNext }
      answerStatus s q status
  else if kind = 0x83 ∧ s.boot.upd = .verifying then
    (if status = 0 then s.modBoot fun b => { b with upd := .idle, updPartner := false } else updFail s 8 s.boot.updNext)
  else s

/-- UPDATE_RELAY: a relayed frame: a request that the partner's firmware or loader serves, or the loader's answer at the active
module (R728). -/
def execUpdateRelay (bytes : List Byte) (s : State) : Host.Outcome State Fault Refusal :=
  if !pairUp s then .next s
  else
    let kind := fromLE (bytes.take 1)
    if s.role = roleActive then
      (if s.boot.updPartner then .next (relayed s kind (fromLE (slice bytes 1 2))) else .next s)
    else if kind = 1 then
      (if s.boot.stage = .firmware then .next ((moduleReset s srcSoftware).modBoot fun b => { b with relReq := true })
       else .next (relayAnswer ((receive s false).modBoot fun b => { b with relReq := true }) 1 0))
    else if s.boot.stage ≠ .loader || !s.boot.resident then .next s
    else if kind = 2 then
      let r := updBlock s none (bytes.drop 1)
      (match r.2 with
       | some st => .next (relayAnswer r.1 2 st)
       | none => .next r.1)
    else if kind = 3 then .next (updActivate s).1
    else if kind = 4 then .next (updAbort s).1
    else .next s

/-- PARTNER_UPDATE_TIMEOUT: the partner's loader has not answered for 1 s (R728). -/
def execPartnerUpdateTimeout (s : State) : Host.Outcome State Fault Refusal :=
  match s.hsb.relayAt with
  | none => .next s
  | some t =>
    if !s.boot.updPartner || !pairUp s then .next s
    else
      let s := (s.at (t + 1000000000)).modHsb fun h => { h with relayAt := none }
      let q := s.boot.updReq
      let s := updFail s 7 s.boot.updNext
      match q with
      | some q => .next (answerStatus s q 0x0402)
      | none => .next s

/-! ### The loader (R713, R726, R727) -/

/-- Every erase whose marker reads begun is made again and completed (R726). -/
def finishErases (s : State) : State :=
  s.nv.begun.foldl (fun s sector =>
    let s := (eraseSector s sector).ctrUp (ctrErase sector)
    ({ s with nv := { s.nv with begun := s.nv.begun.del sector } }).record 0x0A08 2 0 0 [sector])
    { s with nv := { s.nv with flash := none } }

/-- The loader verifies the image, and stays resident where R713 has it: the state then. A failed verification is recorded; an
interrupted update shows FAILED with reason 9 (R727); entered for the partner it receives (R728); else its update state is IDLE, as
after command 1 to firmware (R725). -/
def loaderVerdict (s : State) : State :=
  let bad := imageReason s
  let s := match bad with
    | some r => s.record 0x0A09 3 0 0 [r]
    | none => s
  let b := s.boot
  if s.nv.incomplete then s.modBoot fun b => { b with resident := true, upd := .failed, updReason := 9 }
  else if b.relReq then (receive s false).modBoot fun b => { b with resident := true }
  else if bad.isSome || b.ldrReq then s.modBoot fun b => { b with resident := true }
  else s

end Sys2Proof.Machine
end

