-- ==== Sys2Proof/Machine/SafetyPart.lean ====
section
/-!
DEFINITION. SafetyPart.lean: the safety partition's own functions (R598 to R602, R605 to R610, R614 to R619, R623): its state,
its program image, local safety inputs and STO outputs, axes and their stop functions, commissioning.
-/
namespace Sys2Proof.Machine

/-! ### The program image (R605) -/

/-- A word of an image's header. -/
def imgWord (bs : List Byte) (i : Nat) : Nat := fromLE (slice bs i 4)

/-- An image has the form of R605. -/
def safImageOk (bs : List Byte) : Bool :=
  let code := imgWord bs 8
  let data := imgWord bs 12
  let entry (i : Nat) : Bool := decide (64 ≤ imgWord bs i) && decide (imgWord bs i < 64 + code)
  decide (64 ≤ bs.length) && decide (bs.length ≤ 524288) && imgWord bs 0 == 0x5A535047 && fromLE (slice bs 4 2) == 1
    && fromLE (slice bs 6 2) == 0 && code % 4 == 0 && bs.length == 64 + code + data && entry 20 && entry 24
    && imgWord bs 28 % 8 == 0 && (slice bs 32 32).all (· == 0)
    && decide (64 + code + data + imgWord bs 16 + imgWord bs 28 ≤ 1048576)

/-- The image in safety memory, with its BSS at 0; the rest keeps what it holds. -/
def loadImage (s : State) : State :=
  let bs := s.saf.image
  let m := (s.mem.safety.clearRange 0 (bs.length + imgWord bs 16)).setMany 0 0 bs
  { s with mem := { s.mem with safety := m } }

/-! ### Axes and outputs -/

/-- Axis states (R616). -/
def axOff : Nat := 0
def axRun : Nat := 1
def axRamp : Nat := 2
def axFault : Nat := 3

/-- An axis changes state: EV58 and a record (R599). -/
def setAxisState (s : State) (a st fault : Nat) : State :=
  let x := s.safAxis a
  let s := s.setAxis a { x with state := st, fault := fault, reset := false }
  if x.state = st then s else (s.raise 58).record 0x0801 2 7 a [x.state, st, fault]

/-- Every axis goes to TORQUE_OFF with no fault, and every STO output off. -/
def axesOff (s : State) : State :=
  let s := (List.range 8).foldl (fun s a => setAxisState s a axOff 0) s
  s.modSaf fun x => { x with stos := x.stos.map fun e => (e.1, { e.2 with on := false }) }

/-- Every axis is TORQUE_OFF. -/
def allOffAxes (s : State) : Bool := (List.range 8).all fun a => (s.safAxis a).state == axOff

/-! ### States of the partition (R599, R600, R607) -/

/-- The lock-stepped pair at rest. -/
def pairIdle (s : State) : State := s.setUnit safetyUnit { priv := 0 }

/-- The partition works anew: axes in TORQUE_OFF, inputs and outputs without history, connections to be opened, the write area
0, INIT still to be run. -/
def partFresh (s : State) : State :=
  let s := pairIdle (axesOff s)
  s.modSaf fun x => { x with
    call := none, callAt := s.now, initDone := false, cycles := 0, served := s.now, io := [], inputs := [], stos := [],
    axes := x.axes.map fun e => (e.1, { e.2 with diffAt := none, overs := 0, count := none, reset := false })
    conns := (List.range 32).foldl (fun t n =>
      if connPar s n 1 = 0 then t else Tbl.set t {} n { state := 1, fails := (s.safConn n).fails }) [] }

/-- The safety configuration is loaded: its claims come first, and with one refused it is not loaded (R608). -/
def partLoad (s : State) : State × Bool :=
  let c := claim (releaseClaims s ownSafety) ownSafety (safetyClaims s)
  if c.2 then (fieldCmd (loadImage c.1) (.config true), true) else (c.1, false)

/-- A restart of the partition: at a safety reset or a module reset (R599, R600). -/
def safRestart (s : State) : State :=
  if s.saf.image.isEmpty then setSafState s safUnconfigured
  else
    let l := partLoad s
    if !l.2 then setSafState (axesOff l.1) safUnconfigured
    else setSafState (partFresh l.1) (if safConfirmed l.1 then safRunning else safUnconfirmed)

/-- A partition fault (R600). The first cause stands; a running main program stops with cause 0x07. -/
def safStop (s : State) (cause : Nat) : State :=
  if s.saf.state ≠ safRunning ∧ s.saf.state ≠ safUnconfirmed then s
  else
    let s := s.modSaf fun x => { x with
      cause := cause, call := none, stos := x.stos.map fun e => (e.1, { e.2 with on := false }) }
    programStop (pairIdle (setSafState s safStopped)) 7 0xFF

/-- LOCKSTEP_MISMATCH: the comparator finds the two cores apart (R600, R625). -/
def execLockstepMismatch (s : State) : Host.Outcome State Fault Refusal :=
  if !safAlive s then .next s
  else .next (safStop (s.modSaf fun x => { x with lsErr := holdAt 0xFFFFFFFF (x.lsErr + 1) }) 1)

/-- SAFETY_SUPPLY_FAULT: the domain's supply has been out of range for 10 µs (R600). -/
def execSafetySupplyFault (s : State) : Host.Outcome State Fault Refusal :=
  if !safAlive s then .next s
  else .next (safStop { s with boot := { s.boot with safetyUp := false } } 5)

/-- SAFETY_WATCHDOG_EXPIRY: the safety program has not served its watchdog for 2 ms (R600, R607). -/
def execSafetyWatchdogExpiry (s : State) : Host.Outcome State Fault Refusal :=
  if !safAlive s || s.saf.state ≠ safRunning || !s.saf.initDone then .next s
  else .next (safStop (s.at (s.saf.served + 2000000)) 2)

/-- SAFETY_INIT_TIMEOUT: INIT has not returned within 100 ms (R607). -/
def execSafetyInitTimeout (s : State) : Host.Outcome State Fault Refusal :=
  if !safAlive s || s.saf.state ≠ safRunning || s.saf.initDone then .next s
  else .next (safStop (s.at (s.saf.callAt + 100000000)) 6)

/-- SAFETY_CYCLE_OVERRUN: CYCLE has not returned 800 µs after the cycle instant (R607). -/
def execSafetyCycleOverrun (s : State) : Host.Outcome State Fault Refusal :=
  if !safAlive s || s.saf.state ≠ safRunning || s.saf.call ≠ some .cycle then .next s
  else .next (safStop (s.at (s.saf.callAt + 800000)) 6)

/-- A safety reset, with which the domain is in regulation again (R600, R32). -/
def safetyReset (s : State) : State :=
  if safAlive s then safRestart { s with boot := { s.boot with safetyUp := true } } else s

/-! ### Commissioning (R605, R618, R619) -/

/-- A safety parameter or program may be written now (R619). -/
def safWritable (s : State) : Bool := s.saf.state != safRunning || allOffAxes s

/-- A parameter or the program has been written: the confirmation is cleared (R619). STOPPED is left only by a reset. -/
def safChanged (s : State) : State :=
  let s := (s.persistNow recConf []).modSaf fun x => { x with conf := none }
  if s.saf.state = safStopped then s
  else if s.saf.state = safUnconfigured then
    (if s.saf.image.isEmpty then s
     else
       let l := partLoad s
       if l.2 then setSafState (partFresh l.1) safUnconfirmed else l.1)
  else setSafState (pairIdle ((axesOff s).modSaf fun x => { x with call := none })) safUnconfirmed

/-- A program image is written (R605). -/
def safProgramWrite (s : State) (bs : List Byte) : State × Nat :=
  if !safWritable s then (s, 0x0701)
  else if !safImageOk bs then (s, 0x0402)
  else (safChanged ((s.persistNow recSafety bs).modSaf fun x => { x with image := bs }), 0)

/-- A check value is confirmed (R618). A mismatch is recorded. The configuration takes effect now. -/
def safConfirm (s : State) (v : Word) : State × Nat :=
  if s.saf.image.isEmpty ∨ v.toNat ≠ safCheck s then (s.record 0x0802 1 7 0 [v.toNat, safCheck s], 0x0402)
  else
    let s := (s.persistNow recConf (toLE 4 v.toNat)).modSaf fun x => { x with conf := some v }
    (if s.saf.state = safStopped then s else safRestart s, 0)

/-! ### Local safety inputs (R609) -/

/-- A channel of a safety input reads on, as the field side reports it. -/
def safOn (s : State) (ch : Nat) : Bool := decide (ch < 32) && s.field.link && (s.dchan ch).raw

/-- Input i is configured. -/
def inputUsed (s : State) (i : Nat) : Bool := decide (inputPar s i 1 < 32) && decide (inputPar s i 2 < 32)

/-- The filter of an input: the reading turns when the channels have shown the other one for the filter time, at opening as at
closing; `own` is that both read on (R609, R620, R621, log 102). -/
def inputFilter (x : SafInput) (own : Bool) (filter now : Nat) : SafInput :=
  let turnAt := if own == x.filt then none else some (x.turnAt.getD now)
  match turnAt with
  | none => { x with turnAt := none }
  | some t => if t + filter ≤ now then { x with filt := own, turnAt := none } else { x with turnAt := some t }

/-- A safety input at a cycle: filter, discrepancy, and the clearing of a fault: both channels have read open together, and then
closed together. -/
def inputStep (s : State) (i : Nat) : State :=
  if !inputUsed s i then s
  else
    let x := s.safInput i
    let a := safOn s (inputPar s i 1)
    let b := safOn s (inputPar s i 2)
    let y := inputFilter x (a && b) (inputPar s i 5 * 1000000) s.now
    let diffAt := if a != b then some (x.diffAt.getD s.now) else none
    let late := match diffAt with | some t => decide (t + inputPar s i 6 * 1000000 < s.now) | none => false
    let fault := x.fault && !(x.sawOpen && y.filt) || late
    s.setInput i { y with
      closed := y.filt && !fault, fault := fault, sawOpen := fault && (x.sawOpen || (!a && !b && !y.filt)) && !late,
      diffAt := diffAt }

/-- A safety input takes a fault and reads open. -/
def inputFault (s : State) (i : Nat) : State :=
  s.setInput i { s.safInput i with fault := true, closed := false, sawOpen := false }

/-- SAFETY_INPUT_DISCREPANCY: an input's channels have disagreed for longer than its discrepancy time (R609). -/
def execSafetyInputDiscrepancy (input : Fin 8) (s : State) : Host.Outcome State Fault Refusal :=
  let i := input.val
  match (s.safInput i).diffAt with
  | none => .next s
  | some t =>
    if !safAlive s || !inputUsed s i then .next s
    else .next (inputFault (s.at (t + inputPar s i 6 * 1000000)) i)

/-- A dark pulse of a source shows at an input's channels as it should: at a closed channel that it feeds, and at no other
(R609). -/
def pulseBad (s : State) (src : Nat) (dipped : Word) (ch own : Nat) : Bool :=
  if own = src then safOn s ch && !wbit dipped ch else decide (ch < 32) && wbit dipped ch

/-- TEST_PULSE: a test-pulse source makes its dark pulse; `dipped` names the channels that show it (R609). -/
def execTestPulse (src : Fin 32) (dipped : Word) (s : State) : Host.Outcome State Fault Refusal :=
  let k := src.val
  if !safAlive s || !(s.field.pulses.contains k) then .next s
  else
    .next ((List.range 8).foldl (fun s i =>
      let pa := inputPar s i 3
      let pb := inputPar s i 4
      if inputUsed s i && (pa == k || pb == k)
          && (pulseBad s k dipped (inputPar s i 1) pa || pulseBad s k dipped (inputPar s i 2) pb) then inputFault s i
      else s) s)

/-! ### STO outputs (R610) -/

/-- The axes that use local STO output o. -/
def axesOf (s : State) (o : Nat) : List Nat := (List.range 8).filter fun a => axisPar s a 1 != 0 && axisPar s a 2 == o

/-- The read-back of STO output o has not followed: both channels are held off, and every axis that uses it goes to FAULT
(R610, R616). -/
def stoHeldOff (s : State) (o : Nat) : State :=
  let s := s.setSto o { on := false, fault := true }
  (axesOf s o).foldl (fun s a =>
    if (s.safAxis a).state = axRun ∨ (s.safAxis a).state = axRamp then setAxisState s a axFault 2 else s) s

/-- RBERR: the read-back has disagreed with the commanded state for 1 ms: at an output its live bit is set (R540), and an STO
output is held off, whose read-back must follow each switching (R610). -/
def execRberr (ch : Fin 32) (s : State) : Host.Outcome State Fault Refusal :=
  let k := ch.val
  let c := s.dchan k
  if c.latched || s.field.vflow || s.field.state == fsStandby || c.state == c.want then .next s
  else if c.mode = 2 then .next (dLive (s.at (c.wantAt + 1100000)) k 3)
  else if c.mode = 5 ∧ safAlive s = true then
    let os := (List.range 4).filter fun o => (stoChannels s o).contains k
    .next (if os.isEmpty then s else os.foldl stoHeldOff (s.at (c.wantAt + 1100000)))
  else .next s

/-- STO_DARK_PULSE: a channel of an STO output in the on state makes its dark pulse; a read-back that does not follow holds both
channels off and puts every axis that uses the output into FAULT (R610). -/
def execStoDarkPulse (out : Fin 4) (chB : Bool) (followed : Bool) (s : State) : Host.Outcome State Fault Refusal :=
  let o := out.val
  let _ := chB
  if !safAlive s || !(s.sto o).on || followed then .next s
  else .next (stoHeldOff s o)

/-! ### Axes (R614 to R617) -/

/-- A bit of a connection's input data; fail-safe data reads 0. -/
def connBit (s : State) (n b : Nat) : Bool := wbit (((s.safConn n).data.getD (b / 8) 0).setWidth 32) (b % 8)

/-- The local safety inputs assigned to an axis. -/
def axisInputs (s : State) (a : Nat) : List Nat := (List.range 8).filter fun i => bit (axisPar s a 3) i

/-- A stop request is in force; `word` is the safety program's stop request word (R614). -/
def axisRequest (s : State) (a word : Nat) : Bool :=
  let remote := axisPar s a 4
  let q := toWord (axisPar s a 5)
  (axisInputs s a).any (fun i => !(s.safInput i).closed)
    || (remote != 0xFFFF && !connBit s (remote / 256 % 32) (remote % 256))
    || bit word a
    || (match pointOf q with | some (g, b) => wbit (s.img.stable.get 0 g) b | none => false)

/-- The encoder speed in rpm and its validity; the count is that of the cycle before (R615). -/
def encSpeed (s : State) (a : Nat) : Nat × Bool :=
  let j := axisPar s a 6
  if 16 ≤ j ∨ !s.field.link then (0, false)
  else
    let cpr := f32toIntScaled (toWord (axisPar s a 7)) 1000 1 10000000000
    match (s.safAxis a).count with
    | none => (0, true)
    | some c =>
      let d := ((s.encPair j).count - c).toInt.natAbs
      (holdAt 65535 (divNearest (Int.ofNat (d * 60000000)) cpr.toNat).toNat, true)

/-- The drive's speed and its validity (R615). -/
def driveSpeed (s : State) (a : Nat) : Nat × Bool :=
  let p := axisPar s a 8
  let n := p / 256 % 32
  let c := s.safConn n
  let fresh := match c.rxAt with | some t => decide (s.now ≤ t + connPar s n 3 * 1000000) | none => false
  if p = 0xFFFF ∨ c.fsv ∨ !fresh then (0, false)
  else ((signed 16 (fromLE (slice (listFit 0 16 c.data) (p % 256) 2))).natAbs, true)

/-- An axis after its speeds are sampled: v, the discrepancy, and its fault of R615: 0, 3 or 4. -/
def axisSpeed (s : State) (a : Nat) : State × Nat :=
  if axisPar s a 1 ≠ 2 then (s, 0)
  else
    let e := encSpeed s a
    let d := driveSpeed s a
    let x := s.safAxis a
    let p := axisPar s a 14
    let apart := e.2 && d.2 && decide (p / 65536 < e.1 - d.1 + (d.1 - e.1))
    let diffAt := if apart then some (x.diffAt.getD s.now) else none
    let long := match diffAt with | some t => decide (t + p % 65536 * 1000000 ≤ s.now) | none => false
    let v := Nat.max (if e.2 then e.1 else 0) (if d.2 then d.1 else 0)
    let j := axisPar s a 6
    (s.setAxis a { x with v := v, diffAt := diffAt, count := if j < 16 then some (s.encPair j).count else none },
      if !e.2 || !d.2 then 4 else if long then 3 else 0)

/-- The fault that an axis meets now: 1 input, 2 STO output, 3 and 4 its speeds; `sp` is that of its speeds. -/
def axisFaultOf (s : State) (a sp : Nat) : Nat :=
  let o := axisPar s a 2
  if (axisInputs s a).any fun i => (s.safInput i).fault then 1
  else if o < 4 ∧ (s.sto o).fault then 2
  else sp

/-- v lies above the envelope of R617; in units of 10⁻⁶ rpm. -/
def aboveEnvelope (s : State) (a : Nat) : Bool :=
  let x := s.safAxis a
  let t := (s.now - x.t0) / 1000000
  let td := axisPar s a 10
  let big : Int := 1000000000000
  let decel := f32toIntScaled (toWord (axisPar s a 9)) 1000 0 big
  let tol := f32toIntScaled (toWord (axisPar s a 11)) 1000 0 big
  let base : Int := x.v0 * 1000000
  let ramp := if t < td then base else max (base - decel * (t - td)) 0
  decide (ramp + tol * 1000 < x.v * 1000000)

/-- v is at or below the standstill speed. -/
def standstill (s : State) (a : Nat) : Bool :=
  decide ((s.safAxis a).v * 1000 ≤ (f32toIntScaled (toWord (axisPar s a 12)) 1000 0 1000000000000).toNat)

/-- An axis in a safety cycle (R616). -/
def axisStep (s : State) (a word : Nat) : State :=
  let ss1 := axisPar s a 1 == 2
  let sp := axisSpeed s a
  let s := sp.1
  let x := s.safAxis a
  let fault := axisFaultOf s a sp.2
  let req := axisRequest s a word
  if axisPar s a 1 = 0 then s
  else if x.state = axOff ∨ x.state = axFault then
    let s := s.setAxis a { x with reset := false }
    if x.reset && !req && fault == 0 && safActs s then setAxisState s a axRun 0 else s
  else if fault ≠ 0 then setAxisState s a axFault fault
  else if x.state = axRun then
    (if !req then s
     else if ss1 then setAxisState (s.setAxis a { x with t0 := s.now, v0 := x.v, overs := 0 }) a axRamp 0
     else setAxisState s a axOff 0)
  else
    let overs := if aboveEnvelope s a then x.overs + 1 else 0
    let s := s.setAxis a { x with overs := overs }
    if 2 ≤ overs then setAxisState s a axFault 5
    else if standstill s a || decide (x.t0 + axisPar s a 13 * 1000000 ≤ s.now) then setAxisState s a axOff 0
    else s

/-- A reset command of an axis: the state and its status; it takes effect at the next safety cycle. The axis's own state
is checked before the check value (R484, R616). `word` is the program's, as it stands. -/
def axisResetCmd (s : State) (a : Nat) : State × Nat :=
  let x := s.safAxis a
  let word := fromLE (Tbl.getMany s.saf.io 0 0x500 1)
  if (x.state ≠ axOff ∧ x.state ≠ axFault) ∨ axisPar s a 1 = 0 ∨ axisRequest s a word then (s, 0x0701)
  else if !safConfirmed s then (s, 0x0901)
  else if s.saf.state ≠ safRunning then (s, 0x0701)
  else (s.setAxis a { x with reset := true }, 0)

/-- The axis permits torque. -/
def permits (s : State) (a : Nat) : Bool := (s.safAxis a).state == axRun || (s.safAxis a).state == axRamp

/-- STO output o is on while every axis that uses it permits torque. -/
def stosStep (s : State) : State :=
  (List.range 4).foldl (fun s o =>
    let axes := axesOf s o
    let on := !axes.isEmpty && axes.all (permits s) && !(s.sto o).fault
    s.setSto o { s.sto o with on := on }) s

/-! ### The safety I/O window (R606, R607) -/

/-- The read area at the start of a cycle. -/
def readArea (s : State) : List Byte :=
  toLE 8 s.now ++ toLE 4 s.saf.cycles ++ toLE 4 (safInputs s)
    ++ (List.range 8).flatMap (fun a => toLE 4 (safAxWord (s.safAxis a))) ++ List.replicate 16 0
    ++ (List.range 32).flatMap (fun n => toLE 4 (safConnWord (s.safConn n))) ++ List.replicate 64 0
    ++ (List.range 32).flatMap fun n => listFit 0 16 (s.safConn n).data

/-- The start of a safety cycle: inputs, and the read area (R607). -/
def cycleStart (s : State) : State :=
  let s := (List.range 8).foldl inputStep s
  s.modSaf fun x => { x with io := x.io.setMany 0 0 (readArea s) }

/-- A bit of output data that the partition drives itself: 1 or 0 for a bit it drives (R606, R617). -/
def drivenBit (s : State) (n b : Nat) : Option Bool :=
  let stos := (List.range 8).filter fun a =>
    axisPar s a 1 != 0 && axisPar s a 2 != 0xFFFF && decide (0x8000 ≤ axisPar s a 2) && axisPar s a 2 / 256 % 32 == n
      && axisPar s a 2 % 256 == b
  let ss1 := (List.range 8).filter fun a =>
    b == 1 && axisPar s a 1 == 2 && axisPar s a 8 != 0xFFFF && axisPar s a 8 / 256 % 32 == n
  if !stos.isEmpty then some (stos.all (permits s))
  else if !ss1.isEmpty then some (ss1.any fun a => (s.safAxis a).state == axRamp)
  else none

/-- The output data of a connection: the program's values, and the partition's bits after them. -/
def connOut (s : State) (n : Nat) : List Byte :=
  (List.range 16).map fun i =>
    let b := (s.saf.io.get 0 (0x300 + 16 * n + i)).toNat
    BitVec.ofNat 8 ((List.range 8).foldl (fun acc j =>
      acc + b2n ((drivenBit s n (8 * i + j)).getD (bit b j)) * 2 ^ j) 0)

/-- The end of a safety cycle: the write area is taken, the axes are evaluated, and containers are made (R607). -/
def cycleEnd (s : State) : State :=
  let word := fromLE (Tbl.getMany s.saf.io 0 0x500 1)
  let s := (List.range 8).foldl (fun s a => axisStep s a word) s
  let s := stosStep s
  let s := (List.range 32).foldl (fun s n =>
    let c := s.safConn n
    if c.state = 0 ∨ !safActs s then s else s.setConn n { c with out := connContainer s n (connOut s n) }) s
  s.modSaf fun x => { x with call := none, cycles := (x.cycles + 1) % 2 ^ 32 }

end Sys2Proof.Machine
end

