-- ==== Sys2Proof/Machine/Except.lean ====
section
/-!
DEFINITION. Except.lean: exceptions of the cores (R229 to R233): entry, traps caught within a segment, double faults; and the
end of a load's delay slot, which comes before them (R218).
-/
namespace Sys2Proof.Machine

/-- A write of a general register. -/
def UnitSt.setG (x : UnitSt) (r : Nat) (v : Word) : UnitSt := { x with g := x.g.set r v }

/-- The load whose delay slot is the present instruction writes its registers (R217). -/
def UnitSt.loadDone (x : UnitSt) : UnitSt :=
  { x.slot.foldl (fun (x : UnitSt) (e : Nat × Word) => x.setG e.1 e.2) x with slot := [] }

/-- The causes of R229. -/
def exIllegal : Nat := 1
def exPrivilege : Nat := 2
def exAccess : Nat := 3
def exMisaligned : Nat := 4
def exArith : Nat := 5
def exFloat : Nat := 6
def exEcc : Nat := 7
def exTrap : Nat := 8

/-- A trap is caught within the segment (R232). -/
def trapCaught (x : UnitSt) (cause : Nat) : Bool :=
  (cause == exArith || cause == exFloat) && x.hndl != 0 && !x.exl

/-- A double fault (R233): a Serge core stops until the fabric control resets it, and a run on it ends; the supervisor core's
resets the module. -/
def doubleFault (s : State) (u cause : Nat) : State :=
  if u = 4 then moduleReset s srcDoubleFault
  else
    let s := s.record 0x0012 3 0 0 [u, cause, (s.unit u).expc.toNat]
    runFault (s.modUnit u fun x => { x with halted := true, wait := .none }) u cause

/-- Entry into the exception (R231): the runtime ends a segment run in progress (R137, R232). -/
def enterExc (s : State) (u cause info addr ret : Nat) : State :=
  let st := toWord (cstat s u)
  let s := s.modUnit u fun x => { x with
    expc := toWord ret, exstat := st, excause := toWord (info * 256 + cause), exaddr := toWord addr,
    priv := if u = 4 then 2 else 1, exl := true, wait := .none
    pc := (x.vbase.toNat + 0x40 * cause) % 2 ^ 32 }
  runFault s u cause

/-- An exception on the safety cores stops the partition (R600, R603). -/
def safExc (s : State) (cause : Nat) : State := safStop s (if cause = exEcc then 4 else 3)

/-- An exception of core u (R229 to R233): `addr` goes to EXADDR and `ret` is the return address. An uncorrectable error raises
EV60 as well. -/
def raiseExc (s : State) (u cause info addr ret : Nat) : State :=
  let s := s.modUnit u UnitSt.loadDone
  let s := if cause = exEcc then s.raise 60 else s
  let x := s.unit u
  if trapCaught x cause then
    s.setUnit u { (x.setG 0 (toWord cause)).setG 15 (toWord ret) with pc := x.hndl.toNat, hndl := 0 }
  else if u = safetyUnit then safExc s cause
  else if x.exl then doubleFault s u cause
  else enterExc s u cause info addr ret

/-- CORE_RESET_COMPLETE: the fabric control has reset a core that a double fault stopped; it takes work again (R73, R233). -/
def execCoreResetComplete (core : Fin 4) (s : State) : Host.Outcome State Fault Refusal :=
  let u := core.val
  if halted s || !(s.unit u).halted then .next s else .next (auditNext (fill (s.setUnit u (UnitSt.atReset u))))

end Sys2Proof.Machine
end

