-- ==== Sys2Proof/Machine/RegWrite.lean ====
section
/-!
DEFINITION. RegWrite.lean: writes and reads of the peripheral registers (R7 to R9, R29): what each block permits, what a
write does beyond setting fields, and what a read does. `none` is an access fault.
-/
namespace Sys2Proof.Machine

/-! ### Fields (R7, R8) -/

/-- A field after a write of `w` to its register, whose old word is `n`. -/
def FieldDef.written (f : FieldDef) (w n : Nat) : Nat :=
  match f.acc with
  | .rw => putBits n f.hi f.lo (bits w f.hi f.lo)
  | .w1c => n - (n &&& w &&& f.mask)
  | _ => n

/-- A register after a write under the access codes alone. -/
def RegDef.written (d : RegDef) (w n : Nat) : Nat := d.fields.foldl (fun n f => f.written w n) n

/-- A write that sets fields and clears W1C bits. -/
def regWrite (s : State) (a : Nat) (v : Word) : State :=
  match regDefAt a with
  | some d => s.setReg a (toWord (d.written v.toNat (s.reg a).toNat))
  | none => s

/-- The fields of a register that a read clears are cleared. -/
def regClear (s : State) (a : Nat) : State :=
  match regDefAt a with
  | some d => s.setReg a (toWord (d.fields.foldl (fun n f => if f.acc = .rc then putBits n f.hi f.lo 0 else n) (s.reg a).toNat))
  | none => s

/-- Two words agree in a field. -/
def sameFld (f : Fld) (v w : Word) : Bool := wbits v f.hi f.lo == wbits w f.hi f.lo

/-- A write that is allowed, or is refused with an access fault. -/
def allowIf (ok : Bool) (s : State) : Option State := if ok then some s else none

/-! ### What R29 permits -/

/-- The blocks that system privilege may write (R29). -/
def systemBlocks : List Nat := [1, 2, 3, 4, 5, 6, 9, 10, 11, 12, 13, 21]

def blockOf (a : Nat) : Nat := (a - 0xF0000000) / 0x10000

/-- R29 permits the access at a privilege level. -/
def regPermits (priv a : Nat) (write : Bool) : Bool :=
  if write then priv == 2 || (priv == 1 && (systemBlocks.contains (blockOf a) || a == EVC_RAISE)) else decide (1 ≤ priv)

/-- A register lies at an address that a core can name (log 8). -/
def regThere (a : Nat) : Bool :=
  (regDefAt a).isSome && !((blockOf a == 12 || blockOf a == 13) && decide (0xF000 ≤ a % 0x10000))

/-- Before READY no register of the NVM block may be accessed but NVM_STAT for reading (R637). -/
def nvmGate (s : State) (a : Nat) (write : Bool) : Bool := blockOf a != 15 || s.nv.ready || (!write && a == NVM_STAT)

/-! ### Blocks SYS, TSK, SEG -/

/-- An island reset: its clusters i and i + 4 go idle, their caches are empty, their pending work is gone; its SYS_DOMSTAT bit is 0 until it completes
(R22, R33). -/
def islandReset (s : State) (i : Nat) : State :=
  let clusters := [i, i + 4]
  let s := (clusters.flatMap fun c => (List.range 8).map fun j => 16 + 8 * c + j).foldl (fun s u => s.setUnit u {}) s
  let keep := fun (x : Nat) => !clusters.contains (x / 65536)
  let idle := fun (n : Nat) => !((s.hdr n).cls == 1 && clusters.contains (s.hdr n).cluster)
  let s := s.modGz fun g => { g with
    cache := g.cache.filter keep, cacheBad := g.cacheBad.filter keep, pending := g.pending.filter idle }
  s.setFld SYS_DOMSTAT_ISLAND (putBits (s.fld SYS_DOMSTAT_ISLAND) i i 0)

/-- A write to SYS_ISLRST (R22). -/
def islrstWrite (s : State) (v : Word) : Option State :=
  let is := (List.range 4).filter (wbit v)
  if is.isEmpty then some s else allowIf s.stopped (is.foldl islandReset s)

def writeSys (s : State) (a : Nat) (v : Word) : Option State :=
  if a = SYS_ISLRST then islrstWrite s v
  else if a = SYS_SWRST then some (swrstWrite s v)
  else some (regWrite s a v)

/-- A write to TSK_GCTRL; a start together with a stop is ignored (R91). -/
def gctrlWrite (s : State) (v : Word) : State :=
  if wbit v 1 then (stopRequest s).1 else if wbit v 0 then (startCommand s (wbit v 2) false).1 else s

/-- A write to TSK_CTRLk: outside STOPPED only FULLSCAN may change (R95). -/
def tskCtrlWrite (s : State) (k : Nat) (v : Word) : Option State :=
  let t := regWrite s (TSK_CTRL k) v
  let old := s.reg (TSK_CTRL k)
  allowIf (s.stopped || [TSK_CTRL_EVSRC k, TSK_CTRL_PRIO k, TSK_CTRL_MISSACT k, TSK_CTRL_EN k].all fun f => sameFld f v old) t

def writeTsk (s : State) (a : Nat) (v : Word) : Option State :=
  let k := (a - TSK_CTRL 0) / 0x40
  if a = TSK_GCTRL then some (gctrlWrite s v)
  else if a = TSK_WDCTRL then some (wdctrlWrite s v)
  else if TSK_CTRL 0 ≤ a ∧ a < TSK_CTRL 24 then
    if a = TSK_CTRL k then tskCtrlWrite s k v
    else if a ≤ TSK_OUTM k then allowIf s.stopped (regWrite s a v)
    else if a = TSK_EVMAX k then some (if v = 0 then s.setReg a 0 else s)
    else some (regWrite s a v)
  else some (regWrite s a v)

/-- COMMIT or ABORT of the staged set. The partner makes it as well: the item carries 1 or 2 (R451, log 14). -/
def stgCommand (s : State) (commit : Bool) : State × Nat :=
  let r := if commit then stgCommit s else (stgAbort s, 0)
  if r.2 = 0 then (controlItem r.1 0xFF itemStaging (toLE 1 (if commit then 1 else 2)), 0) else r

/-- A write to SEG_STGCTRL (R165). Of COMMIT and ABORT together the commit comes first (DESIGN CHOICE, log 95). -/
def stgctrlWrite (s : State) (v : Word) : State :=
  let s := if wbit v 0 && s.gz.stg == .staging then (stgCommand s true).1 else s
  if wbit v 1 then (stgCommand s false).1 else s

def writeSeg (s : State) (a : Nat) (v : Word) : Option State :=
  let seg := s.fld SEG_HSEL_SEGMENT
  if SEG_HDR 0 ≤ a ∧ a < SEG_HDR 4 then
    allowIf s.stopped (s.modGz fun g => { g with
      hdr := g.hdr.set {} seg ((g.hdr.get {} seg).setWord ((a - SEG_HDR 0) / 4) v) })
  else if a = SEG_STGNUM then some (stgnumWrite s v)
  else if SEG_STGHDR 0 ≤ a ∧ a < SEG_STGHDR 4 then
    some (stgSlotWrite s fun x => { x with hdr := x.hdr.setWord ((a - SEG_STGHDR 0) / 4) v })
  else if a = SEG_STGCNT then
    some (if slotOpen s then stgSlotWrite s fun x => { x with rcount := wbits v 13 0, wcount := wbits v 29 16 } else s)
  else if a = SEG_STGPTR then some (if slotOpen s then stgSlotWrite s fun x => { x with ptr := wbits v 15 0 } else s)
  else if a = SEG_STGDATA then some (stgdataWrite s v)
  else if a = SEG_STGCTRL then some (stgctrlWrite s v)
  else some (regWrite s a v)

/-! ### Blocks LANE, GZ -/

/-- A write to LANE_CLCTRLc (R171): EN changes in STOPPED only, and FLUSH is ignored elsewhere. -/
def clctrlWrite (s : State) (c : Nat) (v : Word) : Option State :=
  let t := regWrite s (LANE_CLCTRL c) v
  let flush := wbit v 1 && s.stopped
  let keep := fun (x : Nat) => x / 65536 != c
  allowIf (s.stopped || sameFld (LANE_CLCTRL_EN c) v (s.reg (LANE_CLCTRL c)))
    (if flush then t.modGz fun g => { g with cache := g.cache.filter keep, cacheBad := g.cacheBad.filter keep } else t)

def writeLane (s : State) (a : Nat) (v : Word) : Option State :=
  let c := (a - LANE_CLCTRL 0) / 0x20
  if LANE_CLCTRL 0 ≤ a ∧ a = LANE_CLCTRL c then clctrlWrite s c v else some (regWrite s a v)

/-- Each access to GZ_SUBDATA moves GZ_SUBSEL on (R180). -/
def subselNext (s : State) : State :=
  s.setFld GZ_SUBSEL_INDEX ((s.fld GZ_SUBSEL_INDEX + 1) % 2097152)

/-- Writes to the registers of Gauze. A directory word is held with its reserved bits as written (DESIGN CHOICE, log 93). -/
def writeGz (s : State) (a : Nat) (v : Word) : Option State :=
  if a = GZ_CTRL then some (setAuden s (wbit v 8))
  else if a = GZ_CMD then some (gzCmdWrite s v)
  else if a = GZ_AUDINT then some (if 1 ≤ wbits v 11 0 ∧ wbits v 11 0 ≤ 3600 then regWrite s a v else s)
  else if a = GZ_DIRDATA then
    let i := s.fld GZ_DIRSEL_G
    allowIf s.stopped (if groupCount ≤ i then s else s.modGz fun g => { g with dir := g.dir.set 0 i v, eccDir := g.eccDir.del i })
  else if a = GZ_SUBDATA then
    let i := s.fld GZ_SUBSEL_INDEX
    allowIf s.stopped (subselNext (s.modGz fun g => { g with ent := g.ent.set 0 i v, eccEnt := g.eccEnt.del i }))
  else some (regWrite s a v)

/-! ### Blocks PHR, LPE, NRG, HSB, JRN -/

/-- A write to PHR_CTRL: RINGEN changes in STOPPED only; ENUM requests enumerations (R326). -/
def phrCtrlWrite (s : State) (v : Word) : Option State :=
  let same := sameFld PHR_CTRL_RINGEN v (s.reg PHR_CTRL)
  let t := if same then s else enableRings (dropAtStart s ringEnKeys) (wbits v 3 0)
  allowIf (s.stopped || same) (((List.range 4).filter fun r => wbit v (8 + r)).foldl requestEnum t)

/-- A write to PHR_TMO: a field outside its range keeps its value (R329). -/
def phrTmoWrite (s : State) (v : Word) : State :=
  let a := wbits v 31 16
  let w := wbits v 15 0
  let s := if 1 ≤ a ∧ a ≤ 10000 then s.setFld PHR_TMO_ACYC a else s
  if 20 ≤ w ∧ w ≤ 10000 then s.setFld PHR_TMO_WRITE w else s

/-- A write to PHR_PTPCTRL: a domain above 127 is ignored (R334). -/
def ptpctrlWrite (s : State) (v : Word) : State :=
  let old := s.fld PHR_PTPCTRL_DOMAIN
  let t := regWrite (dropAtStart s ptpKeys) PHR_PTPCTRL v
  ptpChanged (if wbits v 15 8 ≤ 127 then t else t.setFld PHR_PTPCTRL_DOMAIN old) old

def writePhr (s : State) (priv a : Nat) (v : Word) : Option State :=
  let r := (a - PHR_RCTRL 0) / 0x40
  let e := wbits v 15 0
  if a = PHR_CTRL then phrCtrlWrite s v
  else if a = PHR_ETYPE then allowIf s.stopped (if e = 0x88F7 ∨ e < 0x600 then s else regWrite s a v)
  else if a = PHR_EPOCH then allowIf (priv == 2) (epochWrite s v)
  else if a = PHR_TMO then some (phrTmoWrite s v)
  else if a = PHR_TXSEL then some (txselWrite s v)
  else if a = PHR_PTPCTRL then allowIf s.stopped (ptpctrlWrite s v)
  else if PHR_RCTRL 0 ≤ a ∧ (a = PHR_RCTRL r ∨ a = PHR_RCABLE r) then allowIf s.stopped (regWrite s a v)
  else some (regWrite s a v)

/-- A write to LPE_RWORDw: R368 with an access fault in place of each refusal (R383). -/
def rwordWrite (s : State) (sub : Nat) (v : Word) : Option State :=
  if loopReadOnly sub then some s
  else
    let r := loopWrite s (s.fld LPE_RSEL_LOOP) sub v
    allowIf (r.2 == 0) r.1

def writeLpe (s : State) (a : Nat) (v : Word) : Option State :=
  if a = LPE_CTRL then allowIf s.stopped (regWrite s a v)
  else if a = LPE_MAXLAT then some (if v = 0 then s.setReg a 0 else s)
  else if LPE_RWORD 0 ≤ a ∧ a < LPE_RWORD 32 then rwordWrite s ((a - LPE_RWORD 0) / 4 + 1) v
  else some (regWrite s a v)

/-- A write to NRG_CTRL: EN acts at once; the slack and the idle code from the next re-plan on, as fixed set-points do (R415,
R428, R429). -/
def nrgCtrlWrite (s : State) (v : Word) : State :=
  let t := regWrite s NRG_CTRL v
  if t.flag NRG_CTRL_EN = s.flag NRG_CTRL_EN then t else replan t

def writeNrg (s : State) (a : Nat) (v : Word) : Option State :=
  let within (f : Fld) (lo hi : Nat) : State :=
    if lo ≤ wbits v f.hi f.lo ∧ wbits v f.hi f.lo ≤ hi then regWrite s a v else s
  if a = NRG_CTRL then some (nrgCtrlWrite s v)
  else if a = NRG_ALLOW then some (within NRG_ALLOW_MW 8000 24000)
  else if a = NRG_CAP then some (within NRG_CAP_MJ 100 10000)
  else if a = NRG_TJ then some (peakReset s)
  else if a = NRG_SCRUB then some (within NRG_SCRUB_HOURS 1 24)
  else some (regWrite s a v)

/-- A write to HSB_CTRL: UNIT is persistent, and in force from the next module reset (R474). -/
def hsbCtrlWrite (s : State) (v : Word) : State :=
  let t := regWrite s HSB_CTRL v
  if sameFld HSB_CTRL_UNIT v (s.reg HSB_CTRL) then t
  else t.persist (objKey 0x1800 1) (toLE 1 (let u := wbits v 1 0; if u = 3 then 0 else u)) none

def writeHsb (s : State) (a : Nat) (v : Word) : Option State :=
  if a = HSB_CTRL then some (hsbCtrlWrite s v)
  else if a = HSB_CMD then some (hsbCmdWrite s v)
  else some (regWrite s a v)

/-- JRN_DONE.SEND: the answer in the selected slot is sent and the slot is free (R519). -/
def jrnDoneWrite (s : State) (v : Word) : State :=
  let k := s.fld JRN_SLOTSEL_SLOT
  match s.jrn.slots.get none k with
  | none => s
  | some j =>
    if wbit v 0 then
      let m := msgOf j.msg
      answer (s.modJrn fun x => { x with slots := x.slots.set none k none }) j.req { m with data := m.data.take m.len.toNat }
    else s

/-- A write of four bytes of the message in the selected slot (R519). -/
def jrnMsgWrite (s : State) (w : Nat) (v : Word) : State :=
  let k := s.fld JRN_SLOTSEL_SLOT
  match s.jrn.slots.get none k with
  | none => s
  | some j =>
    let m := listFit 0 (Nat.max j.msg.length (4 * w + 4)) j.msg
    let m := m.take (4 * w) ++ toLE 4 v.toNat ++ m.drop (4 * w + 4)
    s.modJrn fun x => { x with slots := x.slots.set none k (some { j with msg := m }) }

def writeJrn (s : State) (a : Nat) (v : Word) : Option State :=
  if a = JRN_DONE then some (jrnDoneWrite s v)
  else if JRN_MSG 0 ≤ a ∧ a < JRN_MSG 260 then some (jrnMsgWrite s ((a - JRN_MSG 0) / 4) v)
  else some (regWrite s a v)

/-! ### Blocks DIO, AIO -/

/-- A setting changes: the field side takes what takes effect while the program runs. -/
def settingWrite (s : State) (a : Nat) (v : Word) : State := fieldCmd (regWrite s a v) (.config false)

/-- A write to a register of digital channel k (R565 to R568). -/
def dioChanWrite (s : State) (k a : Nat) (v : Word) : Option State :=
  let old := s.reg a
  if s.owner k = ownSafety ∨ s.owner k = ownTrim then none
  else if a = DIO_CFG k then
    let t := settingWrite s a v
    let t := if 3 ≤ wbits v 2 0 then t.setFld (DIO_CFG_MODE k) (s.fld (DIO_CFG_MODE k)) else t
    allowIf (s.stopped || [DIO_CFG_OWDET k, DIO_CFG_TASK k, DIO_CFG_MODE k].all fun f => sameFld f v old) t
  else if a = DIO_MAP k ∨ a = DIO_RBMAP k then allowIf s.stopped (regWrite s a v)
  else if a = DIO_DIAG k then
    let c := s.dchan k
    some (s.setDchan k { c with seen := c.seen - (c.seen &&& wbits v 12 8) })
  else some (settingWrite s a v)

def writeDio (s : State) (a : Nat) (v : Word) : Option State :=
  let k := (a - DIO_CFG 0) / 0x20
  let j := (a - DIO_ENCCTRL 0) / 0x10
  if a = DIO_FCTRL then some (if 2 ≤ wbits v 25 16 ∧ wbits v 25 16 ≤ 1000 then settingWrite s a v else s)
  else if a = DIO_FCMD then some (fcmdWrite s v)
  else if DIO_CFG 0 ≤ a ∧ a < DIO_CFG 32 then dioChanWrite s k a v
  else if DIO_ENCCTRL 0 ≤ a ∧ a < DIO_ENCCTRL 16 then
    if a = DIO_ENCCTRL j then allowIf s.stopped (encctrlWrite s j v).1
    else if a = DIO_ENCMAP j then allowIf s.stopped (regWrite s a v)
    else if a = DIO_ENCCNT j then some (fieldCmd s (.encoder j v))
    else some (regWrite s a v)
  else some (regWrite s a v)

/-- A write to a register of analogue channel c (R571 to R573). -/
def aioChanWrite (s : State) (c a : Nat) (v : Word) : Option State :=
  if a = AIO_CFG c then
    allowIf (s.stopped || [AIO_CFG_TASK c, AIO_CFG_MODE c].all fun f => sameFld f v (s.reg a)) (settingWrite s a v)
  else if a = AIO_MAP c ∨ a = AIO_RBMAP c then allowIf s.stopped (regWrite s a v)
  else if a = AIO_FILT c then some (if 1 ≤ wbits v 9 0 ∧ wbits v 9 0 ≤ 1000 then settingWrite s a v else s)
  else if a = AIO_DIAG c then
    let x := s.achan c
    some (s.setAchan c { x with seen := x.seen - (x.seen &&& wbits v 15 8) })
  else some (settingWrite s a v)

def writeAio (s : State) (a : Nat) (v : Word) : Option State :=
  if a = AIO_TRIM then some (trimWrite s v).1
  else if AIO_CFG 0 ≤ a ∧ a < AIO_CFG 8 then aioChanWrite s ((a - AIO_CFG 0) / 0x40) a v
  else some (regWrite s a v)

/-! ### Block CAN -/

/-- A write to a register of transmit buffer b, at offset `o` of its set (R583, R594). -/
def canBufWrite (s : State) (m b o : Nat) (v : Word) : Option State :=
  let a := canBuf m b + o
  if o = 0 then canTxctrlWrite s m b v
  else allowIf (!canPending s m b && !canJurnos s m b) (regWrite s a v)

def writeCan (s : State) (m a : Nat) (v : Word) : Option State :=
  let o := a - CAN_CTRL m
  let on := s.flag (CAN_CTRL_EN m)
  if a = CAN_CTRL m then canCtrlWrite s m v
  else if a = CAN_NBT m then allowIf (!on) (canNbtWrite s m v)
  else if a = CAN_DBT m ∨ a = CAN_TDC m then allowIf (!on) (regWrite s a v)
  else if 0x100 ≤ o ∧ o < 0x180 then (if o = 0x108 then some s else canBufWrite s m 0 (o - 0x100) v)
  else if 0x180 ≤ o ∧ o < 0x200 then (if o = 0x188 then some s else canBufWrite s m 1 (o - 0x180) v)
  else if 0x200 ≤ o ∧ o < 0x250 then (if o = 0x208 ∨ o = 0x20C then some s else canBufWrite s m 2 (o - 0x200) v)
  else if a = CAN_RXPOP m then some (canRxpop s m v)
  else if 0x400 ≤ o ∧ o < 0x480 then
    some (if o % 8 = 0 then canFltidWrite s m ((o - 0x400) / 8) v else canFltmskWrite s m ((o - 0x400) / 8) v)
  else some (regWrite s a v)

/-! ### Blocks SAF, NVM, RTC, WDG, FRZ, REC, EVC, TRC -/

def writeNvm (s : State) (a : Nat) (v : Word) : Option State :=
  if a = NVM_PROT then allowIf (protAllowed s (wbits v 1 0)) (setProt s (wbits v 1 0))
  else if a = NVM_FCMD then some (flashCommand s v)
  else some (regWrite s a v)

def writeRtc (s : State) (a : Nat) (v : Word) : State :=
  if a = RTC_STGL then rtcStageWrite s false v
  else if a = RTC_STGH then rtcStageWrite s true v
  else if a = RTC_CMD then rtcCmdWrite s v
  else if a = RTC_STAT then s.modRtc fun r => { r with almf := r.almf && !wbit v 7, defer := r.defer && !wbit v 6 }
  else if a = RTC_MODEL0 then s.modRtc fun r => { r with model0 := v }
  else if a = RTC_MODEL1 then s.modRtc fun r => { r with model1 := v }
  else if a = RTC_MODEL2 then s.modRtc fun r => { r with model2 := toWord (wbits v 15 0) }
  else if a = RTC_ALML then s.modRtc fun r => { r with alarm := putBits r.alarm 31 0 v.toNat }
  else if a = RTC_ALMH then s.modRtc fun r => { r with alarm := putBits r.alarm 39 32 (wbits v 7 0), almEn := wbit v 8 }
  else regWrite s a v

def writeWdg (s : State) (a : Nat) (v : Word) : State :=
  if a = WDG_KEY then wdgKeyWrite s v else if a = WDG_CTRL then wdgCtrlWrite s v else regWrite s a v

def writeFrz (s : State) (a : Nat) (v : Word) : State :=
  if a = FRZ_CTRL then (if wbits v 11 0 ≤ 3600 then regWrite s a v else s)
  else if a = FRZ_CMD then (if wbit v 0 then freezeRequest s 2 0 else s)
  else regWrite s a v

def writeRec (s : State) (a : Nat) (v : Word) : State :=
  if a = REC_CTRL then recCtrlWrite s v
  else if a = REC_RATE then recRateWrite s v
  else if a = REC_CLR then recClrWrite s v
  else if a = REC_WSUB then recSubmit s v
  else regWrite s a v

/-- A write to EVC_RAISE (R41). -/
def raiseWrite (s : State) (v : Word) : State :=
  let n := wbits v 6 0
  if 96 ≤ n then s.raise n else s.setFlag EVC_STAT_BADRAISE true

def writeEvc (s : State) (a : Nat) (v : Word) : State :=
  if a = EVC_RAISE then raiseWrite s v
  else if EVC_PEND 0 ≤ a ∧ a < EVC_PEND 4 then
    let m := (a - EVC_PEND 0) / 4
    { s with evc := { s.evc with latched := s.evc.latched.filter fun e => !(e.1 / 32 == m && wbit v (e.1 % 32)) } }
  else regWrite s a v

/-- A write to a register of trace buffer b: its settings hold while it is ARMED or TRIGGERED (R385 to R388). -/
def writeTrc (s : State) (a : Nat) (v : Word) : Option State :=
  let b := (a - TRC_CFG 0) / 0x80
  let busy := trcState s b == trcArmed || trcState s b == trcTriggered
  if a = TRC_CMD b then some (trcCmd s b v)
  else if a ≤ TRC_LEVEL b ∨ TRC_SIG b 0 ≤ a then allowIf (!busy) (regWrite s a v)
  else some (regWrite s a v)

/-! ### Any register -/

/-- A word written to the register at an address by a core; `none` is an access fault (R7, R29). -/
def periphWrite (s : State) (core a : Nat) (v : Word) : Option State :=
  let priv := privOf s core
  if !regThere a || !regPermits priv a true || !nvmGate s a true then none
  else
    match blockOf a with
    | 0 => writeSys s a v
    | 1 => writeTsk s a v
    | 2 => writeSeg s a v
    | 3 => writeLane s a v
    | 4 => writeGz s a v
    | 5 => writePhr s priv a v
    | 6 => writeLpe s a v
    | 7 => writeNrg s a v
    | 8 => writeHsb s a v
    | 9 => writeJrn s a v
    | 10 => writeDio s a v
    | 11 => writeAio s a v
    | 12 => writeCan s 0 a v
    | 13 => writeCan s 1 a v
    | 14 => some (if a = SAF_CMD then (if wbit v 0 then safetyReset s else s) else regWrite s a v)
    | 15 => writeNvm s a v
    | 16 => some (writeRtc s a v)
    | 17 => some (writeWdg s a v)
    | 18 => some (writeFrz s a v)
    | 19 => some (writeRec s a v)
    | 20 => some (writeEvc s a v)
    | _ => writeTrc s a v

/-! ### Writes that the partner shares (R430, R451) -/

/-- Firmware holds the value persistently; it reaches the partner as a CONTROL item (R486). -/
def ObjDef.persistent (d : ObjDef) : Bool := bit d.flags 0

/-- Values written at run time that reach the partner though they are not persistent. -/
def runtimeShared (index sub : Nat) : Bool :=
  (decide (0x5400 ≤ index) && decide (index < 0x5800) && sub == 0x12)
    || (decide (0x7110 ≤ index) && decide (index < 0x7148) && sub == 9)
    || (decide (0x4000 ≤ index) && decide (index < 0x4018) && sub == 8)
    || (decide (0x6000 ≤ index) && decide (index < 0x7000))
    || (index == 0x4020 && sub == 1) || (index == 0x4100 && sub == 1) || (index == 0x4022 && sub == 3)
    || (index == 0x7300 && (sub == 2 || sub == 4)) || index == 0x3FFF || (index == 0x1800 && sub == 2)

/-- Writes to an object travel to the partner: all but that of the unit's number, which differs between the two (R430, log 100). -/
def shared (index sub : Nat) (d : ObjDef) : Bool :=
  (d.persistent || runtimeShared index sub) && !(index == 0x1800 && sub == 1)

/-- The objects that have their home in the register at an address. -/
def objectsAt (a : Nat) : List (Nat × ObjDef × Fld) :=
  objClasses.flatMap fun c => c.subs.filterMap fun d =>
    match d.home with
    | .field f stride =>
      let n := (a - f.addr) / stride
      if a = f.addr then some (c.base, d, f)
      else if f.addr < a ∧ stride ≠ 0 ∧ a = f.addr + stride * n ∧ n < c.count then some (c.base + n, d, { f with addr := a })
      else none
    | _ => none

/-- A register write of the active module that changes what an object shows travels like a write of the object (R451, log
100). -/
def shareRegister (old s : State) (a : Nat) : State :=
  if s.role ≠ roleActive then s
  else if LPE_RWORD 0 ≤ a ∧ a < LPE_RWORD 32 then
    let n := s.fld LPE_RSEL_LOOP
    let sub := (a - LPE_RWORD 0) / 4 + 1
    controlItem s 0xFF itemConfig (toLE 2 (0x6000 + n) ++ toLE 1 sub ++ toLE 4 ((s.loop n).accepted sub).toNat)
  else
    (objectsAt a).foldl (fun s e =>
      if e.2.1.wr ≠ 0 ∧ shared e.1 e.2.1.lo e.2.1 ∧ s.fld e.2.2 ≠ old.fld e.2.2 then
        controlItem s 0xFF itemConfig (toLE 2 e.1 ++ toLE 1 e.2.1.lo ++ toLE (typeBytes e.2.1.typ) (s.fld e.2.2))
      else s) s

/-- A word that a core writes to the register at an address; what it changes of the configuration reaches the partner. -/
def registerWrite (s : State) (core a : Nat) (v : Word) : Option State := (periphWrite s core a v).map fun t => shareRegister s t a

/-- A register takes no word at all at present: a write even of the word that it holds is refused. Refusals that depend on the
word written are no part of this. -/
def regClosed (s : State) (core a : Nat) : Bool :=
  !(a == NVM_PROT || (decide (LPE_RWORD 0 ≤ a) && decide (a < LPE_RWORD 32))) && (periphWrite s core a (s.reg a)).isNone

/-- A core may read the register at an address. -/
def periphReadable (s : State) (core a : Nat) : Bool :=
  regThere a && regPermits (privOf s core) a false && nvmGate s a false

/-- A core reads the register at an address: the word, and what the read does (R7, R180, R633, R649). -/
def periphRead (s : State) (core a : Nat) : Nat × State :=
  if isRtcFive a then rtcRead s core a
  else
    let s := if a = NVM_SYNC then postedAll s s.nv.posted.length else s
    let v := regPeek s a
    (v, if a = GZ_SUBDATA then subselNext s else regClear s a)

end Sys2Proof.Machine
end

