-- ==== Sys2Proof/Machine/Regs.lean ====
section
/-!
DEFINITION. Regs.lean: the register-access commands: a core writes or reads a peripheral register with a 32-bit access. A refused
access raises its exception in the core (R9, R29, R229); the rows that name a register are accesses to that register.
-/
namespace Sys2Proof.Machine

/-! ### Accesses -/

/-- An audit run meets what it may not do: it ends, with the instruction as its finding (R140). -/
def auditBreak (s : State) (u a : Nat) : State :=
  s.modUnit u fun x => { x with run := x.run.map fun r => { r with done := true, broken := some a } }

/-- A unit is in an audit run. -/
def auditing (s : State) (u : Nat) : Bool := match (s.unit u).run with | some r => r.audit | none => false

/-- A unit executes: the module is neither in reset nor frozen, and the unit neither stopped nor waiting nor done with its
audit run. -/
def unitLive (s : State) (u : Nat) : Bool :=
  let x := s.unit u
  !halted s && !x.halted && x.wait == .none && !(match x.run with | some r => r.done | none => false)

/-- A core's write of a word to an address of the peripheral area. A refused write changes nothing, and raises cause 0x04 or
0x03 at the core's present instruction, for operand 1 (R212, R29). -/
def coreStore (s : State) (u : Nat) (a : Nat) (v : Word) : State :=
  let pc := (s.unit u).pc
  if !unitLive s u || areaOf a != some .periph then s
  else if auditing s u then auditBreak s u pc
  else if a % 4 ≠ 0 then raiseExc s u exMisaligned 1 a pc
  else
    match registerWrite s u a v with
    | some t => t
    | none => raiseExc s u exAccess 1 a pc

/-- A core's read of a word of the peripheral area, for operand 2. -/
def coreLoad (s : State) (u : Nat) (a : Nat) : State :=
  let pc := (s.unit u).pc
  if !unitLive s u || areaOf a != some .periph then s
  else if auditing s u then auditBreak s u pc
  else if a % 4 ≠ 0 then raiseExc s u exMisaligned 2 a pc
  else if periphReadable s u a then
    let r := periphRead s u a
    { r.2 with rdata := toWord r.1 }
  else raiseExc s u exAccess 2 a pc

/-- Where a core names CANm_TXCTRLb (R594). -/
def canBus (m b : Nat) : Nat := CAN_CTRL m + 0x100 + 0x80 * b

/-! ### Any register -/

/-- REGISTER_WRITE: a write to a peripheral register (R7, R9, R29). -/
def execRegisterWrite (core : CoreId) (addr value : Word) (s : State) : Host.Outcome State Fault Refusal :=
  .next (coreStore s core.val addr.toNat value)

/-- REGISTER_READ: a read of a peripheral register, which clears its RC fields (R7, R9, R29). -/
def execRegisterRead (core : CoreId) (addr : Word) (s : State) : Host.Outcome State Fault Refusal :=
  .next (coreLoad s core.val addr.toNat)

/-! ### Single registers -/

/-- GZ_SUBDATA_ACCESS: a write or a read of GZ_SUBDATA, after which GZ_SUBSEL names the next entry (R180). -/
def execGzSubdataAccess (core : CoreId) (write : Option Word) (s : State) : Host.Outcome State Fault Refusal :=
  match write with
  | some v => .next (coreStore s core.val GZ_SUBDATA v)
  | none => .next (coreLoad s core.val GZ_SUBDATA)

/-- NVM_SYNC_READ: the read returns once every write posted before it is in the array (R633, R659). -/
def execNvmSyncRead (core : CoreId) (s : State) : Host.Outcome State Fault Refusal :=
  .next (coreLoad s core.val NVM_SYNC)

/-- RTC_STAGE_WRITE: RTC_STGL or RTC_STGH (R651, R661). -/
def execRtcStageWrite (core : CoreId) (high : Bool) (value : Word) (s : State) : Host.Outcome State Fault Refusal :=
  .next (coreStore s core.val (if high then RTC_STGH else RTC_STGL) value)

/-- RTC_SHADOW_CAPTURE: a read of one of the five RTC registers captures them all for the core (R649). -/
def execRtcShadowCapture (core : CoreId) (addr : Word) (s : State) : Host.Outcome State Fault Refusal :=
  .next (coreLoad s core.val addr.toNat)

/-- ISLAND_RESET_COMPLETE: within 10 µs the island is out of reset (R33). -/
def execIslandResetComplete (isl : Fin 4) (s : State) : Host.Outcome State Fault Refusal :=
  if halted s then .next s else .next (s.setFld SYS_DOMSTAT_ISLAND (putBits (s.fld SYS_DOMSTAT_ISLAND) isl.val isl.val 1))

/-- TSK_GCTRL_START: START is written (R88, R91). -/
def execTskGctrlStart (core : CoreId) (value : Word) (s : State) : Host.Outcome State Fault Refusal :=
  .next (coreStore s core.val TSK_GCTRL value)

/-- TSK_GCTRL_STOP: STOP is written: a program stop with cause 0x01 (R91). -/
def execTskGctrlStop (core : CoreId) (value : Word) (s : State) : Host.Outcome State Fault Refusal :=
  .next (coreStore s core.val TSK_GCTRL value)

/-- TSK_WDCTRL_ENABLE: the task watchdog is enabled, if R82 holds (R82, R104). -/
def execTskWdctrlEnable (core : CoreId) (value : Word) (s : State) : Host.Outcome State Fault Refusal :=
  .next (coreStore s core.val TSK_WDCTRL value)

/-- EVC_RAISE: a software event is raised, or BADRAISE is set (R41). -/
def execEvcRaise (core : CoreId) (value : Word) (s : State) : Host.Outcome State Fault Refusal :=
  .next (coreStore s core.val EVC_RAISE value)

/-- SYS_ISLRST: islands are reset in program stop (R22, R33). -/
def execSysIslrst (core : CoreId) (value : Word) (s : State) : Host.Outcome State Fault Refusal :=
  .next (coreStore s core.val SYS_ISLRST value)

/-- GZ_CMD_EQCLR: the equivalence fault of a task is cleared (R144, R175). -/
def execGzCmdEqclr (core : CoreId) (value : Word) (s : State) : Host.Outcome State Fault Refusal :=
  .next (coreStore s core.val GZ_CMD value)

/-- GZ_CMD_AUDREQ: an idle audit of a task is requested (R175). -/
def execGzCmdAudreq (core : CoreId) (value : Word) (s : State) : Host.Outcome State Fault Refusal :=
  .next (coreStore s core.val GZ_CMD value)

/-- GZ_CTRL_AUDEN: audits are enabled or disabled (R138, R174). -/
def execGzCtrlAuden (core : CoreId) (value : Word) (s : State) : Host.Outcome State Fault Refusal :=
  .next (coreStore s core.val GZ_CTRL value)

/-- SEG_STGNUM_VALID: the selected slot becomes a staged record (R151, R162). -/
def execSegStgnumValid (core : CoreId) (value : Word) (s : State) : Host.Outcome State Fault Refusal :=
  .next (coreStore s core.val SEG_STGNUM value)

/-- SEG_STGNUM_WITHDRAW: the record of the selected slot is withdrawn (R151, R162). -/
def execSegStgnumWithdraw (core : CoreId) (value : Word) (s : State) : Host.Outcome State Fault Refusal :=
  .next (coreStore s core.val SEG_STGNUM value)

/-- SEG_STGDATA: a word goes to the selected slot's data (R164). -/
def execSegStgdata (core : CoreId) (value : Word) (s : State) : Host.Outcome State Fault Refusal :=
  .next (coreStore s core.val SEG_STGDATA value)

/-- SEG_STGCTRL_COMMIT: the staged set goes to BUILDING (R165). -/
def execSegStgctrlCommit (core : CoreId) (value : Word) (s : State) : Host.Outcome State Fault Refusal :=
  .next (coreStore s core.val SEG_STGCTRL value)

/-- SEG_STGCTRL_ABORT: the staged set is discarded (R165). -/
def execSegStgctrlAbort (core : CoreId) (value : Word) (s : State) : Host.Outcome State Fault Refusal :=
  .next (coreStore s core.val SEG_STGCTRL value)

/-- LANE_CLCTRL_FLUSH: a cluster's segment-code cache is emptied, in STOPPED (R171). -/
def execLaneClctrlFlush (core : CoreId) (cluster : Fin 8) (value : Word) (s : State) : Host.Outcome State Fault Refusal :=
  .next (coreStore s core.val (LANE_CLCTRL cluster.val) value)

/-- PHR_CTRL_ENUM: enumerations are requested (R317, R322, R326). -/
def execPhrCtrlEnum (core : CoreId) (value : Word) (s : State) : Host.Outcome State Fault Refusal :=
  .next (coreStore s core.val PHR_CTRL value)

/-- PHR_EPOCH_WRITE: the epoch is written, at supervisor privilege only (R311, R328). -/
def execPhrEpochWrite (core : CoreId) (value : Word) (s : State) : Host.Outcome State Fault Refusal :=
  .next (coreStore s core.val PHR_EPOCH value)

/-- PHR_TXSEL_WRITE: an entry of the transaction table is shown, as it is now (R333). -/
def execPhrTxselWrite (core : CoreId) (value : Word) (s : State) : Host.Outcome State Fault Refusal :=
  .next (coreStore s core.val PHR_TXSEL value)

/-- LPE_MAXLAT_CLEAR: 0 clears the largest latency; another value is ignored (R382). -/
def execLpeMaxlatClear (core : CoreId) (value : Word) (s : State) : Host.Outcome State Fault Refusal :=
  .next (coreStore s core.val LPE_MAXLAT value)

/-- TRC_CMD_ARM: a trace buffer is armed (R378, R388). -/
def execTrcCmdArm (core : CoreId) (buf : Fin 8) (value : Word) (s : State) : Host.Outcome State Fault Refusal :=
  .next (coreStore s core.val (TRC_CMD buf.val) value)

/-- TRC_CMD_STOP: a trace buffer's recording ends (R388). -/
def execTrcCmdStop (core : CoreId) (buf : Fin 8) (value : Word) (s : State) : Host.Outcome State Fault Refusal :=
  .next (coreStore s core.val (TRC_CMD buf.val) value)

/-- TRC_CMD_FORCE: a trace buffer is triggered (R378, R388). -/
def execTrcCmdForce (core : CoreId) (buf : Fin 8) (value : Word) (s : State) : Host.Outcome State Fault Refusal :=
  .next (coreStore s core.val (TRC_CMD buf.val) value)

/-- NRG_TJ_WRITE: TJMAX takes the present T_j (R423). -/
def execNrgTjWrite (core : CoreId) (value : Word) (s : State) : Host.Outcome State Fault Refusal :=
  .next (coreStore s core.val NRG_TJ value)

/-- HSB_CMD_SWITCH: a planned switchover is requested (R466, R475). -/
def execHsbCmdSwitch (core : CoreId) (value : Word) (s : State) : Host.Outcome State Fault Refusal :=
  .next (coreStore s core.val HSB_CMD value)

/-- HSB_CMD_RESYNC: the module enters SYNCING (R463, R475). -/
def execHsbCmdResync (core : CoreId) (value : Word) (s : State) : Host.Outcome State Fault Refusal :=
  .next (coreStore s core.val HSB_CMD value)

/-- HSB_CMD_FAIL: the active module declares itself failed (R475). -/
def execHsbCmdFail (core : CoreId) (value : Word) (s : State) : Host.Outcome State Fault Refusal :=
  .next (coreStore s core.val HSB_CMD value)

/-- JRN_DONE_SEND: the answer in the selected slot is sent (R519). -/
def execJrnDoneSend (core : CoreId) (value : Word) (s : State) : Host.Outcome State Fault Refusal :=
  .next (coreStore s core.val JRN_DONE value)

/-- DIO_FCMD_RELEASE: SILENT is released (R532, R563). -/
def execDioFcmdRelease (core : CoreId) (value : Word) (s : State) : Host.Outcome State Fault Refusal :=
  .next (coreStore s core.val DIO_FCMD value)

/-- DIO_FCMD_SAFE: the safe pattern is commanded (R563). -/
def execDioFcmdSafe (core : CoreId) (value : Word) (s : State) : Host.Outcome State Fault Refusal :=
  .next (coreStore s core.val DIO_FCMD value)

/-- AIO_TRIM_EN: the trim buttons are enabled or disabled (R559, R570). -/
def execAioTrimEn (core : CoreId) (value : Word) (s : State) : Host.Outcome State Fault Refusal :=
  .next (coreStore s core.val AIO_TRIM value)

/-- DIO_ENCCTRL_EN: an encoder pair is enabled or disabled (R559, R569). -/
def execDioEncctrlEn (core : CoreId) (pair : Fin 16) (value : Word) (s : State) : Host.Outcome State Fault Refusal :=
  .next (coreStore s core.val (DIO_ENCCTRL pair.val) value)

/-- DIO_ENCCNT_WRITE: an encoder's count is set at the next update (R569). -/
def execDioEnccntWrite (core : CoreId) (pair : Fin 16) (value : Word) (s : State) : Host.Outcome State Fault Refusal :=
  .next (coreStore s core.val (DIO_ENCCNT pair.val) value)

/-- CAN_ENABLE: a controller is enabled, if its timing is right (R581, R587, R590). -/
def execCanEnable (core : CoreId) (ctrl : Fin 2) (value : Word) (s : State) : Host.Outcome State Fault Refusal :=
  .next (coreStore s core.val (CAN_CTRL ctrl.val) value)

/-- CAN_RECOV: bus-off recovery starts (R586, R590). -/
def execCanRecov (core : CoreId) (ctrl : Fin 2) (value : Word) (s : State) : Host.Outcome State Fault Refusal :=
  .next (coreStore s core.val (CAN_CTRL ctrl.val) value)

/-- CAN_TX_REQUEST: a frame is requested (R584, R594). -/
def execCanTxRequest (core : CoreId) (ctrl : Fin 2) (buf : Fin 3) (value : Word) (s : State) :
    Host.Outcome State Fault Refusal :=
  .next (coreStore s core.val (canBus ctrl.val buf.val) value)

/-- CAN_TX_ABORT: a request is aborted (R584, R594). -/
def execCanTxAbort (core : CoreId) (ctrl : Fin 2) (buf : Fin 3) (value : Word) (s : State) :
    Host.Outcome State Fault Refusal :=
  .next (coreStore s core.val (canBus ctrl.val buf.val) value)

/-- CAN_RXPOP: the oldest received frame is removed (R595). -/
def execCanRxpop (core : CoreId) (ctrl : Fin 2) (value : Word) (s : State) : Host.Outcome State Fault Refusal :=
  .next (coreStore s core.val (CAN_RXPOP ctrl.val) value)

/-- CAN_FILTER_ENABLE: a filter is written; one that claims Jurno's identifiers is refused (R585, R596). -/
def execCanFilterEnable (core : CoreId) (ctrl : Fin 2) (flt : Fin 16) (value : Word) (s : State) :
    Host.Outcome State Fault Refusal :=
  .next (coreStore s core.val (CAN_FLTID ctrl.val flt.val) value)

/-- SAF_CMD_SRESET: safety reset (R600, R625). -/
def execSafCmdSreset (core : CoreId) (value : Word) (s : State) : Host.Outcome State Fault Refusal :=
  .next (coreStore s core.val SAF_CMD value)

/-- FLASH_ERASE: a flash sector is erased (R647, R659). -/
def execFlashErase (core : CoreId) (value : Word) (s : State) : Host.Outcome State Fault Refusal :=
  .next (coreStore s core.val NVM_FCMD value)

/-- FLASH_PROGRAM: a flash page is programmed (R647, R659). -/
def execFlashProgram (core : CoreId) (value : Word) (s : State) : Host.Outcome State Fault Refusal :=
  .next (coreStore s core.val NVM_FCMD value)

/-- NVM_PROT_WRITE: the protection level changes (R636, R659). -/
def execNvmProtWrite (core : CoreId) (value : Word) (s : State) : Host.Outcome State Fault Refusal :=
  .next (coreStore s core.val NVM_PROT value)

/-- RTC_ARM: the staged time is armed (R651, R661). -/
def execRtcArm (core : CoreId) (value : Word) (s : State) : Host.Outcome State Fault Refusal :=
  .next (coreStore s core.val RTC_CMD value)

/-- RTC_BKCOMMIT: the staged backup bytes are taken (R657, R661). -/
def execRtcBkcommit (core : CoreId) (value : Word) (s : State) : Host.Outcome State Fault Refusal :=
  .next (coreStore s core.val RTC_CMD value)

/-- WDG_KEY_ARM: the first service key (R668, R694). -/
def execWdgKeyArm (core : CoreId) (value : Word) (s : State) : Host.Outcome State Fault Refusal :=
  .next (coreStore s core.val WDG_KEY value)

/-- WDG_KEY_SERVICE: the second service key (R668, R694). -/
def execWdgKeyService (core : CoreId) (value : Word) (s : State) : Host.Outcome State Fault Refusal :=
  .next (coreStore s core.val WDG_KEY value)

/-- WDG_KEY_BAD: any other key, or the second without the first (R668, R671). -/
def execWdgKeyBad (core : CoreId) (value : Word) (s : State) : Host.Outcome State Fault Refusal :=
  .next (coreStore s core.val WDG_KEY value)

/-- WDG_CTRL_WRITE: window and modes of the watchdog (R669, R695). -/
def execWdgCtrlWrite (core : CoreId) (value : Word) (s : State) : Host.Outcome State Fault Refusal :=
  .next (coreStore s core.val WDG_CTRL value)

/-- FRZ_CMD_FREEZE: a freeze is requested (R673, R698). -/
def execFrzCmdFreeze (core : CoreId) (value : Word) (s : State) : Host.Outcome State Fault Refusal :=
  .next (coreStore s core.val FRZ_CMD value)

/-- REC_WSUB: a record is submitted (R705). -/
def execRecWsub (core : CoreId) (value : Word) (s : State) : Host.Outcome State Fault Refusal :=
  .next (coreStore s core.val REC_WSUB value)

/-- REC_CTRL_RFREEZE: a recorder freeze starts or ends (R689, R701). -/
def execRecCtrlRfreeze (core : CoreId) (value : Word) (s : State) : Host.Outcome State Fault Refusal :=
  .next (coreStore s core.val REC_CTRL value)

/-- REC_CLR: the recorder is cleared (R692, R703). -/
def execRecClr (core : CoreId) (value : Word) (s : State) : Host.Outcome State Fault Refusal :=
  .next (coreStore s core.val REC_CLR value)

/-- SYS_SWRST: software reset (R711, R733). -/
def execSysSwrst (core : CoreId) (value : Word) (s : State) : Host.Outcome State Fault Refusal :=
  .next (coreStore s core.val SYS_SWRST value)

end Sys2Proof.Machine
end

