-- ==== Sys2Proof/Machine/Operands.lean ====
section
/-!
DEFINITION. Operands.lean: instruction fetch, operand addresses, access checks, reads and writes of operands, the write buffer
(R206 to R220), and the steps of an instruction that every instruction shares (R211, R217, R218, R229, R230).
-/
namespace Sys2Proof.Machine

/-! ### Exceptions of an instruction -/

/-- What an instruction raises: cause, INFO and EXADDR. -/
structure Exc where
  cause : Nat
  info  : Nat := 0
  addr  : Nat
deriving DecidableEq, Repr

/-- An audit run needs more than its audit buffer holds: it stops, without a finding (R140). -/
def exAuditFull : Nat := 0x100

/-- A fetch meets an uncorrectable error in a lane's segment-code cache (R173, R228). -/
def exCacheEcc : Nat := 0x107

/-- A result, or what the instruction raises. -/
abbrev Res (α : Type) := Except Exc α

/-- The first exception of a list of checks. -/
def firstExc : List (Option Exc) → Option Exc
  | [] => none
  | some e :: _ => some e
  | none :: rest => firstExc rest

/-- A unit is a lane. -/
def isLane (u : Nat) : Bool := decide (16 ≤ u) && decide (u < 80)

/-! ### Runs and the bytes that a unit sees (R115, R140, R216) -/

def UnitSt.inRun (x : UnitSt) : Bool := x.run.isSome

/-- Bytes lie wholly within the code of the running segment. -/
def UnitSt.inCode (x : UnitSt) (a n : Nat) : Bool :=
  match x.run with
  | some r => decide (r.lo ≤ a) && decide (a + n ≤ r.hi)
  | none => false

/-- The task of the segment that a unit runs: the reader of R49. -/
def UnitSt.reader (x : UnitSt) : Option Nat := x.run.map (·.task)

/-- A buffered byte. -/
def UnitSt.buffered (x : UnitSt) (a : Nat) : Option Byte :=
  match x.run with
  | some r => (r.wbuf.find? fun e => e.1 == a).map (·.2)
  | none => none

/-- A byte of the safety address space (R604). -/
def safByte (s : State) (a : Nat) : Byte :=
  if a < 0x100000 then s.mem.safety.get 0 a else s.saf.io.get 0 (a - 0x100000)

/-- The safety cores may read, or write, bytes of their address space (R604, R606). -/
def safMay (write : Bool) (a n : Nat) : Bool :=
  let within (lo hi : Nat) : Bool := decide (lo ≤ a) && decide (a + n ≤ hi)
  within 0 0x100000 || within 0x100300 0x100508
    || (!write && (within 0x100000 0x100030 || within 0x100040 0x1000C0 || within 0x100100 0x100508))

/-- A byte of an exchange slot or status word in an audit run: as the cycle that it audits left it, whatever a later sample
instant has written there (R140). -/
def auditedByte (s : State) (x : UnitSt) (a : Nat) : Option Byte :=
  match x.run with
  | none => none
  | some r =>
    if !r.audit || decide (a < 0x10000000) then none
    else
      match viewGroup (a - 0x10000000) with
      | some (g, i) =>
        if isMarker g && g != gMD (checkInWord r.task) && (watchedWords s r.task).contains (g - 147456) then
          some (byteOf (s.img.seen.get 0 (262144 * r.task + (g - 147456))) i)
        else none
      | none => none

/-- A byte as a unit reads it: from its buffer, else from memory. -/
def unitByte (s : State) (u a : Nat) : Byte :=
  let x := s.unit u
  if u = safetyUnit then safByte s a else
  match x.buffered a with
  | some b => b
  | none =>
    match auditedByte s x a with
    | some b => b
    | none => (spaceByte s x.reader (privOf s u == 2) a).getD 0

def unitBytes (s : State) (u a n : Nat) : List Byte := (List.range n).map fun i => unitByte s u (a + i)

/-- Words of image and data SRAM that a buffer holds. -/
def bufLen (m : Mem) : Nat := (dedup ((m.filter fun e => decide (e.1 < 0x30000000)).map fun e => e.1 / 4)).length

/-- Words that a unit's buffer may hold (R140, R216). -/
def bufLimit (u : Nat) (r : Run) : Nat := if r.audit || isLane u then 4096 else 16384

/-- Bytes put into a buffer. -/
def bufPut (m : Mem) (a : Nat) (bs : List Byte) : Mem :=
  match bs with
  | [] => m
  | b :: rest => bufPut ((m.erase a).insert a b) (a + 1) rest

/-! ### Access checks (R26, R27, R48, R212 to R215) -/

/-- Bytes lie wholly within a data window. -/
def UnitSt.inWindow (x : UnitSt) (i a n : Nat) : Bool :=
  let b := if i = 0 then x.pw0b else x.pw1b
  let l := if i = 0 then x.pw0l else x.pw1l
  decide (b.toNat ≤ a) && decide (a + n ≤ l.toNat)

/-- The windows permit an access to data SRAM (R214). -/
def sramOpen (s : State) (u a n : Nat) : Bool :=
  privOf s u != 0 || (s.unit u).inWindow 0 a n || (s.unit u).inWindow 1 a n

/-- A segment run may write an image group: it is in the segment's write set and owned by its task (R215). -/
def groupWritable (s : State) (u g : Nat) : Bool :=
  match (s.unit u).run with
  | some r => (subs s g).any (fun e => e.writer && e.seg == r.seg) && groupOwner s g == some r.task
  | none => false

/-- The groups of the views that bytes of image memory touch; `none` where they leave the views. -/
def viewGroups (a n : Nat) : Option (List Nat) :=
  let gs := (List.range n).map fun i => viewGroup (a + i - 0x10000000)
  if gs.all (·.isSome) then some (dedup (gs.filterMap fun e => e.map (·.1))) else none

/-- Image memory may be written: a view by R215; the forcing and ownership tables and the Gauze area at supervisor privilege (R26,
R47, log 42). -/
def imageWritable (s : State) (u a n : Nat) : Bool :=
  match viewGroups a n with
  | some gs => gs.all (groupWritable s u)
  | none => privOf s u == 2 && decide (0x102B0000 ≤ a) && decide (a + n ≤ 0x10400000)

/-- A unit may read bytes of memory; `pc` for PC-relative mode (R213). A lane reads memory in that mode only. -/
def unitMayRead (s : State) (u : Nat) (pc : Bool) (a n : Nat) : Bool :=
  if u = safetyUnit then safMay false a n
  else if pc && (s.unit u).inCode a n then true
  else if isLane u then false
  else
    match areaOf a with
    | none => false
    | some ar =>
      areaOf (a + n - 1) == some ar && ar.allows (privOf s u) .read &&
        match ar with
        | .image => (List.range n).all fun i => (spaceByte s (s.unit u).reader (privOf s u == 2) (a + i)).isSome
        | .sram => sramOpen s u a n
        | .mram => s.nv.ready
        | .periph => n == 4 && periphReadable s u a
        | _ => true

/-- A unit may write bytes of memory. A register that takes no word at all is refused here, in operand order (R230); whether one
takes the word itself is judged when it is written. -/
def unitMayWrite (s : State) (u : Nat) (pc : Bool) (a n : Nat) : Bool :=
  if u = safetyUnit then safMay true a n
  else if pc || isLane u then false
  else
    match areaOf a with
    | none => false
    | some ar =>
      areaOf (a + n - 1) == some ar && ar.allows (privOf s u) .write &&
        match ar with
        | .image => imageWritable s u a n
        | .sram => sramOpen s u a n
        | .mram => s.nv.ready && mramWritable s (a - 0x40000000) n
        | .periph => n == 4 && regThere a && regPermits (privOf s u) a true && nvmGate s a true && !regClosed s u a
        | _ => true

/-- A byte that ECC cannot correct is among those that a unit reads from memory. -/
def eccMet (s : State) (u a n : Nat) : Bool :=
  if u = safetyUnit then eccBad s (safetyBase + a) n
  else eccBad s a n && (List.range n).any fun i => ((s.unit u).buffered (a + i)).isNone && eccBad s (a + i) 1

/-- An access of an operand: the operand's number, where, how many bytes, its alignment, what is checked: reading, writing,
errors that a read meets. -/
structure Acc1 where
  op    : Nat
  pc    : Bool := false
  a     : Nat
  n     : Nat
  align : Nat := 1
  rd    : Bool := false
  wr    : Bool := false
  ecc   : Bool := false

/-- What an access raises: 0x04, then 0x03, then 0x07 (R230). -/
def Acc1.fault (x : Acc1) (s : State) (u : Nat) : Option Exc :=
  if x.a % x.align ≠ 0 then some ⟨exMisaligned, x.op, x.a⟩
  else if (x.rd && !unitMayRead s u x.pc x.a x.n) || (x.wr && !unitMayWrite s u x.pc x.a x.n) then some ⟨exAccess, x.op, x.a⟩
  else if x.ecc && eccMet s u x.a x.n then some ⟨exEcc, x.op, x.a⟩
  else none

/-! ### Operand locations (R206, R211, R215) -/

/-- Where an operand is: a register, memory, an image bit, an image value, or a value itself. -/
inductive Loc where
  | reg (r : Nat)
  | mem (a : Nat) (pc : Bool)
  | bit (g b : Nat)
  | val (g : Nat)
  | imm (v : Nat)
deriving DecidableEq, Repr

/-- The view address of a group (R47, R121). -/
def viewAddr (g : Nat) : Nat := 0x10000000 + 4 * g

/-- A general register among the working values. -/
def gAt (g : List Word) (r : Nat) : Nat := (g.getD r 0).toNat

/-- An address computed modulo 2³² (R212). -/
def addr32 (n : Int) : Nat := (n % 4294967296).toNat

/-- An operand's location, and the registers after its addressing step. `at_` is the opcode word's address. -/
def locOf (g : List Word) (at_ : Nat) (z : Sz) : Opnd → Loc × List Word
  | .reg r => (.reg r, g)
  | .ind r => (.mem (gAt g r) false, g)
  | .inc r => (.mem (gAt g r) false, g.set r (toWord (gAt g r + z.bytes)))
  | .dec r =>
    let a := addr32 ((gAt g r : Int) - z.bytes)
    (.mem a false, g.set r (toWord a))
  | .disp b d => (.mem (addr32 ((gAt g b : Int) + d)) false, g)
  | .index b i k => (.mem (addr32 ((gAt g b : Int) + (g.getD i 0).toInt * k)) false, g)
  | .abs a => (.mem a false, g)
  | .pcrel off => (.mem (addr32 ((at_ : Int) + off)) true, g)
  | .imm v => (.imm v, g)
  | .ibit g' b => (.bit g' b, g)
  | .ival g' => (.val g', g)

/-- The locations of all operands, in operand order (R211). -/
def locsOf (g : List Word) (at_ : Nat) : List ((Kind × Sz) × Opnd) → List (Kind × Sz × Loc) × List Word
  | [] => ([], g)
  | ((k, z), o) :: rest =>
    let l := locOf g at_ z o
    let r := locsOf l.2 at_ rest
    ((k, z, l.1) :: r.1, r.2)

/-- The first byte of a location in memory or in the views. -/
def Loc.addr : Loc → Nat
  | .mem a _ => a
  | .bit g b => viewAddr g + b / 8
  | .val g => viewAddr g
  | _ => 0

/-- The operand kinds whose value an instruction reads, and those that it writes. -/
def Kind.reads : Kind → Bool
  | .rd => true | .rw => true | .flag => true | .record => true | _ => false
def Kind.writes : Kind → Bool
  | .wr => true | .rw => true | .flag => true | .res => true | _ => false

/-- Bytes of an operand in memory. -/
def memBytes (k : Kind) (z : Sz) : Nat := match k with | .flag => 1 | _ => z.bytes

/-- The accesses of an instance record: all of it is read, and words 1 to 3 are written, by all but TET. -/
def recordAccs (op : Op) (i : Nat) (pc : Bool) (a : Nat) : List Acc1 :=
  [{ op := i, pc := pc, a := a, n := 16, align := 16, rd := true }]
    ++ (if op = .tet then [] else [{ op := i, pc := pc, a := a + 4, n := 12, wr := true }])
    ++ [{ op := i, pc := pc, a := a, n := 16, ecc := true }]

/-- The accesses that an operand makes. Branch targets, blocks and LEA's operand are not accessed here. -/
def accsOf (op : Op) (i : Nat) (k : Kind) (z : Sz) (l : Loc) : List Acc1 :=
  let a := l.addr
  if k = .record then
    match l with
    | .mem _ pc => recordAccs op i pc a
    | .val _ => recordAccs op i false a
    | _ => []
  else if k.reads || k.writes then
    let n := memBytes k z
    match l with
    | .mem _ pc => [{ op := i, pc := pc, a := a, n := n, align := n, rd := k.reads, wr := k.writes, ecc := k.reads }]
    | .bit _ _ => [{ op := i, a := a, n := 1, wr := k.writes, ecc := k.reads }]
    | .val _ => [{ op := i, a := a, n := 4, wr := k.writes, ecc := k.reads }]
    | _ => []
  else []

/-- An image-point access: reads are always permitted, and writes follow R215; a lane makes them too. -/
def Acc1.pointFault (x : Acc1) (s : State) (u : Nat) : Option Exc :=
  if x.a % x.align ≠ 0 then some ⟨exMisaligned, x.op, x.a⟩
  else if x.wr && !imageWritable s u x.a x.n then some ⟨exAccess, x.op, x.a⟩
  else if x.ecc && eccMet s u x.a x.n then some ⟨exEcc, x.op, x.a⟩
  else none

/-- What an operand's accesses raise. -/
def operandFault (s : State) (u : Nat) (op : Op) (i : Nat) (k : Kind) (z : Sz) (l : Loc) : Option Exc :=
  let point := match l with | .mem _ _ => false | _ => true
  firstExc ((accsOf op i k z l).map fun x => if point then x.pointFault s u else x.fault s u)

/-- What the operands raise, in operand order. -/
def operandsFault (s : State) (u : Nat) (op : Op) (i : Nat) : List (Kind × Sz × Loc) → Option Exc
  | [] => none
  | (k, z, l) :: rest =>
    match operandFault s u op i k z l with
    | some e => some e
    | none => operandsFault s u op (i + 1) rest

/-- An operand lies in the peripheral area and is accessed; LEA forms its address alone. -/
def touchesPeriph (op : Op) (ls : List (Kind × Sz × Loc)) : Bool :=
  ls.any fun e => match e.2.2 with
    | .mem a _ => (e.1 != .ea || op != .lea) && e.1 != .target && areaOf a == some .periph
    | _ => false

/-! ### Reading operands -/

/-- A value of `n` bytes in memory as a unit reads it, with what the read of a register does. -/
def readMem (s : State) (u a n : Nat) : Nat × State :=
  if areaOf a = some .periph then periphRead s u a else (fromLE (unitBytes s u a n), s)

/-- An operand's value at its size. -/
def readLoc (s : State) (u : Nat) (k : Kind) (z : Sz) : Loc → Nat × State
  | .reg r =>
    let g := (s.unit u).g
    if k = .flag then (gAt g r % 2, s)
    else if z.isPair then (gAt g r + gAt g (r + 1) * 2 ^ 32, s)
    else (gAt g r % 2 ^ z.width, s)
  | .mem a _ => let v := readMem s u a (memBytes k z); if k = .flag then (v.1 % 2, v.2) else v
  | .bit g b => (b2n (wbit (BitVec.setWidth 32 (unitByte s u (viewAddr g + b / 8))) (b % 8)), s)
  | .val g => (fromLE (unitBytes s u (viewAddr g) 4), s)
  | .imm v => (v, s)

/-- The values of the operands that are read, in operand order; 0 stands for the others. -/
def readAll (s : State) (u : Nat) : List (Kind × Sz × Loc) → List Nat × State
  | [] => ([], s)
  | (k, z, l) :: rest =>
    let v := if k == .rd || k == .rw || k == .reg || k == .flag then readLoc s u k z l else (0, s)
    let r := readAll v.2 u rest
    (v.1 :: r.1, r.2)

/-! ### Writing (R216) -/

/-- A byte of the digital forcing table is written (R47). -/
def forceByteWrite (s : State) (o : Nat) (b : Byte) : State :=
  let g := o % 0x8000 / 4
  let put (t : Tbl Word) (k : Nat) : Tbl Word := t.set 0 k (withByte (t.get 0 k) (o % 4) b)
  s.modImg fun i => match o / 0x8000 with
    | 0 => { i with fmask := put i.fmask (gIX g) }
    | 1 => { i with fval := put i.fval (gIX g) }
    | 2 => { i with fmask := put i.fmask (gQX g) }
    | _ => { i with fval := put i.fval (gQX g) }

/-- A set whose members stand in byte `b` of its bit map as `v` has them. -/
def mapPut (t : NSet) (b : Nat) (v : Byte) : NSet :=
  (List.range 8).foldl (fun t i => if v.getLsbD i then t.add (8 * b + i) else t.del (8 * b + i)) t

/-- A byte of the Gauze area is written (R47, R122, log 42); reserved bytes take nothing. -/
def gauzeByteWrite (s : State) (o : Nat) (b : Byte) : State :=
  let mine : NSet := NSet.addAll [] ((List.range 8).map fun i => 8 * o + i)
  s.modGz fun g =>
    if o < 0xC800 then { g with change := mapPut g.change o b, cleared := g.cleared.map (·.addAll mine) }
    else if o < 0x10000 then g
    else if o < 0x12000 then { g with pending := mapPut g.pending (o - 0x10000) b }
    else if o < 0x14000 then { g with next := mapPut g.next (o - 0x12000) b }
    else if o < 0x16000 then { g with settle := mapPut g.settle (o - 0x14000) b }
    else if o < 0x18000 then { g with run := mapPut g.run (o - 0x16000) b }
    else if o < 0x1A000 then { g with mismatch := mapPut g.mismatch (o - 0x18000) b }
    else if o < 0x80000 then g
    else
      let n := (o - 0x80000) / 8
      let old := toLE 8 (g.wheel.get 0 n)
      { g with wheel := g.wheel.set 0 n (fromLE (old.set (o % 8) b)) }

/-- A byte reaches memory. Its new contents have no error. -/
def storeByte (s : State) (a : Nat) (b : Byte) : State :=
  let s := if s.mem.ecc.contains a || s.mem.eccOne.contains a then
      { s with mem := { s.mem with ecc := s.mem.ecc.del a, eccOne := s.mem.eccOne.del a } } else s
  match areaOf a with
  | some .code => { s with mem := { s.mem with code := s.mem.code.set 0 a b } }
  | some .sram => { s with mem := { s.mem with sram := s.mem.sram.set 0 a b } }
  | some .trace => { s with mem := { s.mem with trace := s.mem.trace.set 0 (a - 0x30000000) b } }
  | some .fw => { s with mem := { s.mem with fw := s.mem.fw.set 0xFF (a - 0x60000000) b } }
  | some .image =>
    if a < 0x102D0000 then forceByteWrite s (a - 0x102B0000) b
    else if a < 0x10300000 then
      s.modImg fun i => { i with sup := i.sup.set 0 (a - 0x10000000) (b ^^^ tableByte s (a - 0x10000000)) }
    else gauzeByteWrite s (a - 0x10300000) b
  | _ => s

def storeBytes (s : State) (a : Nat) : List Byte → State
  | [] => s
  | b :: rest => storeBytes (storeByte s a b) (a + 1) rest

/-- A write goes into the buffer: to the views; to data SRAM on a Serge core outside the stack window; every write of an audit
run, which never reaches memory (R140, R216). -/
def buffers (x : UnitSt) (a n : Nat) : Bool :=
  match x.run with
  | none => false
  | some r => r.audit || areaOf a == some .image && decide (a < 0x10190000) || areaOf a == some .sram && !x.inWindow 1 a n

/-- Bytes written by the safety cores. The service word takes the value that serves the safety watchdog, and no other (R606). -/
def safPut (s : State) (a : Nat) (bs : List Byte) : State :=
  if a < 0x100000 then
    { s with mem := { s.mem with
        safety := s.mem.safety.setMany 0 a bs
        ecc := s.mem.ecc.filter fun x => !(decide (safetyBase + a ≤ x) && decide (x < safetyBase + a + bs.length)) } }
  else
    let o := a - 0x100000
    let serves := decide (o ≤ 0x504) && decide (0x508 ≤ o + bs.length) && fromLE (slice bs (0x504 - o) 4) == 0x5AFE
    let bs := if serves then bs else bs.take (0x504 - o)
    s.modSaf fun x => { x with
      io := x.io.setMany 0 o bs
      served := if serves then s.now else x.served }

/-- Bytes written by a unit; a peripheral write takes effect, or is refused, here (R216, R29). -/
def putBytes (s : State) (u i a : Nat) (bs : List Byte) : Res State :=
  let x := s.unit u
  if u = safetyUnit then .ok (safPut s a bs)
  else if areaOf a = some .periph then
    match registerWrite s u a (toWord (fromLE bs)) with
    | some t => .ok t
    | none => .error ⟨exAccess, i, a⟩
  else if buffers x a bs.length then
    match x.run with
    | none => .ok s
    | some r =>
      let w := bufPut r.wbuf a bs
      if bufLimit u r < bufLen w then .error ⟨if r.audit then exAuditFull else exAccess, 0xFF, a⟩
      else .ok (s.setUnit u { x with run := some { r with wbuf := w } })
  else if areaOf a = some .mram then .ok (mramPost s (a - 0x40000000) bs)
  else .ok (storeBytes s a bs)

/-- A value written to operand `i`'s location. A result or flag operand takes 0 or 1. -/
def writeLoc (s : State) (u i : Nat) (k : Kind) (z : Sz) (v : Nat) : Loc → Res State
  | .reg r =>
    .ok (s.modUnit u fun x =>
      if z.isPair then (x.setG r (toWord v)).setG (r + 1) (toWord (v / 2 ^ 32)) else x.setG r (toWord (v % 2 ^ z.width)))
  | .mem a _ => putBytes s u i a (toLE (memBytes k z) v)
  | .bit g b =>
    let a := viewAddr g + b / 8
    putBytes s u i a [BitVec.ofNat 8 (putBits (unitByte s u a).toNat (b % 8) (b % 8) v)]
  | .val g => putBytes s u i (viewAddr g) (toLE 4 v)
  | .imm _ => .ok s

/-! ### Fetch (R26, R220, R230) -/

/-- A unit may fetch a word. -/
def mayFetch (s : State) (u a : Nat) : Bool :=
  if u = safetyUnit then decide (a + 4 ≤ 0x100000)
  else if (s.unit u).inRun then (s.unit u).inCode a 4
  else !isLane u && match areaOf a with | some ar => ar.allows (privOf s u) .fetch | none => false

/-- The cache of a lane's cluster holds the running segment with an error that ECC cannot correct (R228). -/
def cacheErr (s : State) (u : Nat) : Bool :=
  isLane u && match (s.unit u).run with
    | some r => s.gz.cacheBad.contains (65536 * laneCluster (u - 16) + r.seg)
    | none => false

/-- A word fetched by a unit. -/
def fetchWord (s : State) (u a : Nat) : Res Word :=
  if !mayFetch s u a then .error ⟨exAccess, 0, a⟩
  else if u = safetyUnit then
    (if eccBad s (safetyBase + a) 4 then .error ⟨exEcc, 0, a⟩ else .ok (s.mem.safety.word 0 a))
  else if cacheErr s u then .error ⟨exCacheEcc, 0, a⟩
  else if eccBad s a 4 then .error ⟨exEcc, 0, a⟩
  else .ok (toWord (fromLE ((List.range 4).map fun i => (spaceByte s none true (a + i)).getD 0)))

/-- `n` words fetched one after the other. -/
def fetchWords (s : State) (u a : Nat) : Nat → Res (List Word)
  | 0 => .ok []
  | n + 1 =>
    match fetchWord s u a with
    | .error e => .error e
    | .ok w =>
      match fetchWords s u (a + 4) n with
      | .error e => .error e
      | .ok ws => .ok (w :: ws)

/-- The form is one that the safety cores execute (R603). -/
def Form.onSafety (f : Form) : Bool :=
  f.modes.all (fun m => m != 0xB && m != 0xC) && !([.wfe, .wtu, .sev, .end_, .rte].contains f.op)

/-- The operation of the unit's next instruction, where its opcode word has one; and its form and operands, or what it raises
(R210, R227, R230). -/
def fetchInsn (s : State) (u : Nat) : Option Op × Res (Form × List Opnd) :=
  let pc := (s.unit u).pc
  match fetchWord s u pc with
  | .error e => (none, .error e)
  | .ok w =>
    let op := (opRow (wbits w 31 22)).map (·.op)
    match formOf w with
    | none => (op, .error ⟨exIllegal, 0, pc⟩)
    | some f =>
      if (isLane u && !f.onLane) || (u == safetyUnit && !f.onSafety) then (op, .error ⟨exIllegal, 0, pc⟩)
      else
        match fetchWords s u (pc + 4) (f.words - 1) with
        | .error e => (op, .error e)
        | .ok ws =>
          match opndsOf f.kinds f.modes ws with
          | none => (op, .error ⟨exIllegal, 0, pc⟩)
          | some os => (op, .ok (f, os))

/-! ### The steps that instructions share (R211, R217, R218, R199) -/

/-- What an instruction's meaning works on: the unit, the addresses of its opcode word and of the next instruction, its form,
its operands' locations and the values read from them. -/
structure Ctx where
  u    : Nat
  pc   : Nat
  next : Nat
  form : Form
  locs : List (Kind × Sz × Loc)
  vals : List Nat

/-- How an instruction ends: the state; where execution goes on; the conditions of R198 that it met; the registers that it
loads after its delay slot; and what happens last. -/
structure Done where
  s     : State
  pc    : Nat
  cond  : Nat := 0
  load  : List (Nat × Word) := []
  after : State → State := id

/-- Lane fault codes (R173, R228). -/
def laneCode (cause : Nat) : Nat := if cause = exIllegal then 1 else if cause = exCacheEcc then 3 else 2

/-- An instruction raises an exception. An uncorrectable error in the code store or image memory, met by a run or by the runtime,
is told to the partner (R452). -/
def raiseInsn (s : State) (u pc : Nat) (e : Exc) : State :=
  let s := if e.cause = exEcc ∧ u ≠ 4 ∧ u ≠ safetyUnit ∧ (areaOf e.addr = some .code ∨ areaOf e.addr = some .image) then sendNotice s 4 else s
  if e.cause = exAuditFull then
    s.modUnit u fun x => { x with run := x.run.map fun r => { r with done := true, overflow := true } }
  else if isLane u then runFault (if e.cause = exEcc ∨ e.cause = exCacheEcc then s.raise 60 else s) u (laneCode e.cause)
  else raiseExc s u e.cause e.info e.addr pc

/-- The trap that conditions raise with their enables set (R199): integer conditions first (R230). -/
def trapOf (arith cond : Nat) : Option Nat :=
  let met := cond &&& (arith >>> 16)
  if met &&& 0xF ≠ 0 then some exArith else if met &&& 0x1F00 ≠ 0 then some exFloat else none

/-- The end of an instruction: the load in whose delay slot it stood writes its registers; sticky bits are set; a trap is
raised. A lane keeps no ARITH (R244). -/
def complete (c : Ctx) (d : Done) : State :=
  let cond := if isLane c.u then 0 else d.cond
  let s := d.s.modUnit c.u fun x => { x.loadDone with slot := d.load, pc := d.pc, arith := x.arith ||| toWord cond }
  match trapOf (s.unit c.u).arith.toNat cond with
  | some cause => raiseExc s c.u cause 0 c.pc d.pc
  | none => d.after s

/-- Operations that an audit run may not reach (R140). -/
def auditForbids (op : Op) : Bool := op == .rdtb || op == .wfe || op == .wtu || op == .sev

/-- A special register may be read, or written, at a privilege level (R196). -/
def specMay (n priv : Nat) (write : Bool) : Bool :=
  if n = 8 then !write
  else if n = 0 then !write || decide (1 ≤ priv)
  else if n = 1 ∨ n = 2 ∨ (9 ≤ n ∧ n ≤ 12) then true
  else decide (1 ≤ priv)

/-- The privilege that an MFS or MTS asks for is held; the safety partition reaches ARITH and HNDL alone (R196, R603). -/
def privHeld (s : State) (u : Nat) (f : Form) : Bool :=
  if f.op == .mfs || f.op == .mts then
    let n := f.row.num % 32
    if u = safetyUnit then n == 1 || n == 2 else specMay n (privOf s u) (f.op == .mts)
  else true

/-- The count of a block instruction, where it can be read: its value, and the state after the read. A count of 0 reads nothing
else, writes nothing and raises nothing (R269). -/
def blockCount (s : State) (u : Nat) (op : Op) (ls : List (Kind × Sz × Loc)) : Option (Nat × State) :=
  if op == .movb || op == .fill || op == .crcc then
    match ls[2]? with
    | some (k, z, l) => if (operandFault s u op 3 k z l).isNone then some (readLoc s u k z l) else none
    | none => none
  else none

/-- An instruction with its form and operands: locations, faults, sources, its meaning, its end. One that raises an exception
leaves everything as it was (R211). A privilege violation, which the meaning finds, comes before what the operands raise (R230). -/
def runForm (s : State) (u : Nat) (f : Form) (os : List Opnd) (act : Ctx → State → Res Done) : State :=
  let x := s.unit u
  let ls := locsOf x.g x.pc (f.kinds.zip os)
  if auditing s u && (auditForbids f.op || touchesPeriph f.op ls.1) then auditBreak s u x.pc
  else
    let s1 := s.setUnit u { x with g := ls.2 }
    let ctx (vals : List Nat) : Ctx :=
      { u := u, pc := x.pc, next := (x.pc + 4 * f.words) % 2 ^ 32, form := f, locs := ls.1, vals := vals }
    match blockCount s1 u f.op ls.1 with
    | some (0, t) => complete (ctx []) { s := t, pc := (ctx []).next }
    | _ =>
      match operandsFault s1 u f.op 1 ls.1 with
      | some e => raiseInsn s u x.pc (if privHeld s u f then e else ⟨exPrivilege, 0, x.pc⟩)
      | none =>
        let vs := readAll s1 u ls.1
        match act (ctx vs.1) vs.2 with
        | .error e => raiseInsn s u x.pc e
        | .ok d => complete (ctx vs.1) d

/-- A unit executes its next instruction, if that is `op`. A fetch that faults, and a word that is no instruction, are met
whatever was expected. -/
def insn (s : State) (u : Nat) (op : Op) (act : Ctx → State → Res Done) : State :=
  if !unitLive s u || (isLane u && !(s.unit u).inRun) then s
  else
    let i := fetchInsn s u
    if i.1.isSome && i.1 != some op then s
    else
      match i.2 with
      | .error e => raiseInsn s u (s.unit u).pc e
      | .ok (f, os) => runForm s u f os act

/-! ### What meanings use -/

/-- The value of operand i, 0 for the first. -/
def Ctx.val (c : Ctx) (i : Nat) : Nat := c.vals.getD i 0

/-- Kind, size and location of operand i. -/
def Ctx.opnd (c : Ctx) (i : Nat) : Kind × Sz × Loc := c.locs.getD i (.rd, .i32, .imm 0)
def Ctx.loc (c : Ctx) (i : Nat) : Loc := (c.opnd i).2.2

/-- The value written to operand i. -/
def Ctx.write (c : Ctx) (s : State) (i v : Nat) : Res State :=
  let o := c.opnd i
  writeLoc s c.u (i + 1) o.1 o.2.1 v o.2.2

/-- The instruction ends with a value and conditions for operand 1. -/
def Ctx.result (c : Ctx) (s : State) (r : Nat × Nat) : Res Done :=
  match c.write s 0 r.1 with
  | .ok t => .ok { s := t, pc := c.next, cond := r.2 }
  | .error e => .error e

/-- The instruction ends with nothing more than a state. -/
def Ctx.ends (c : Ctx) (s : State) : Res Done := .ok { s := s, pc := c.next }

/-- The two sources (R208), and the one. -/
def Ctx.two (c : Ctx) : Nat × Nat := if c.form.nops = 2 then (c.val 0, c.val 1) else (c.val 1, c.val 2)
def Ctx.one (c : Ctx) : Nat := if c.form.nops = 1 then c.val 0 else c.val 1

end Sys2Proof.Machine
end

