-- ==== Sys2Proof/Machine/Arith.lean ====
section
/-!
DEFINITION. Arith.lean: moves and loads, arithmetic, conversions (R240 to R244, R249 to R253).
-/
namespace Sys2Proof.Machine

/-! ### Moves and loads (R217, R240, R241) -/

/-- A value moves to operand 1 as it is. -/
def moveAct (c : Ctx) (s : State) : Res Done := c.result s (c.val 1, 0)

/-- A value is loaded after the delay slot. -/
def loadAct (c : Ctx) (s : State) : Res Done :=
  match c.loc 0 with
  | .reg r =>
    let v := c.val 1
    let low := (r, toWord v)
    .ok { s := s, pc := c.next, load := if c.form.sz.isPair then [low, (r + 1, toWord (v / 2 ^ 32))] else [low] }
  | _ => c.ends s

/-- A value extended to 32 bits, or from 32 to 64. -/
def extendAct (sign : Bool) (c : Ctx) (s : State) : Res Done :=
  let w := c.form.sz.width
  let dw := if c.form.sz = .i32 then 64 else 32
  c.result s (if sign then wrap dw (signed w (c.val 1)) else c.val 1, 0)

/-- An address, or the timebase. -/
def leaAct (c : Ctx) (s : State) : Res Done := c.result s ((c.loc 1).addr, 0)
def rdtbAct (c : Ctx) (s : State) : Res Done := c.result s (s.now % 2 ^ 64, 0)

/-- MOV: d := b; bits are copied (R240, R241). -/
def execMov (u : UnitId) (s : State) : Host.Outcome State Fault Refusal := .next (insn s (UnitId.key u) .mov moveAct)

/-- LDG: a register is loaded, after the delay slot (R217, R218, R240). -/
def execLdg (u : UnitId) (s : State) : Host.Outcome State Fault Refusal := .next (insn s (UnitId.key u) .ldg loadAct)

/-- LDGP: a register pair is loaded, after the delay slot (R217, R218, R240). -/
def execLdgp (u : UnitId) (s : State) : Host.Outcome State Fault Refusal := .next (insn s (UnitId.key u) .ldgp loadAct)

/-- EXTS: d := b sign-extended (R240). -/
def execExts (u : UnitId) (s : State) : Host.Outcome State Fault Refusal :=
  .next (insn s (UnitId.key u) .exts (extendAct true))

/-- EXTZ: d := b zero-extended (R240). -/
def execExtz (u : UnitId) (s : State) : Host.Outcome State Fault Refusal :=
  .next (insn s (UnitId.key u) .extz (extendAct false))

/-- LEA: d := ea(2), with no access to memory (R240). -/
def execLea (u : UnitId) (s : State) : Host.Outcome State Fault Refusal := .next (insn s (UnitId.key u) .lea leaAct)

/-- RDTB: d := the live timebase (R221, R240). -/
def execRdtb (u : UnitId) (s : State) : Host.Outcome State Fault Refusal := .next (insn s (UnitId.key u) .rdtb rdtbAct)

/-! ### Arithmetic (R242 to R244, R249 to R251) -/

/-- An operation on two sources, and on one. -/
def binaryAct (f : Sz → Nat → Nat → Nat × Nat) (c : Ctx) (s : State) : Res Done :=
  c.result s (f c.form.sz c.two.1 c.two.2)
def unaryAct (f : Sz → Nat → Nat × Nat) (c : Ctx) (s : State) : Res Done := c.result s (f c.form.sz c.one)

/-- ADD: the sum (R242, R243). -/
def execAdd (u : UnitId) (s : State) : Host.Outcome State Fault Refusal :=
  .next (insn s (UnitId.key u) .add (binaryAct aluAdd))

/-- SUB: the difference, first source minus second (R242, R243). -/
def execSub (u : UnitId) (s : State) : Host.Outcome State Fault Refusal :=
  .next (insn s (UnitId.key u) .sub (binaryAct aluSub))

/-- MUL: the product (R242, R243). -/
def execMul (u : UnitId) (s : State) : Host.Outcome State Fault Refusal :=
  .next (insn s (UnitId.key u) .mul (binaryAct aluMul))

/-- MULHS: bits [63:32] of the signed product (R242, R243). -/
def execMulhs (u : UnitId) (s : State) : Host.Outcome State Fault Refusal :=
  .next (insn s (UnitId.key u) .mulhs (binaryAct (fun _ a b => (mulHighS a b, 0))))

/-- MULHU: bits [63:32] of the unsigned product (R242, R243). -/
def execMulhu (u : UnitId) (s : State) : Host.Outcome State Fault Refusal :=
  .next (insn s (UnitId.key u) .mulhu (binaryAct (fun _ a b => (mulHighU a b, 0))))

/-- DIV: the quotient; for integers truncated toward zero (R242, R243). -/
def execDiv (u : UnitId) (s : State) : Host.Outcome State Fault Refusal :=
  .next (insn s (UnitId.key u) .div (binaryAct aluDiv))

/-- DIVU: the unsigned quotient (R242, R243). -/
def execDivu (u : UnitId) (s : State) : Host.Outcome State Fault Refusal :=
  .next (insn s (UnitId.key u) .divu (binaryAct (fun _ a b => natDiv a b)))

/-- REM: the signed remainder (R242, R243). -/
def execRem (u : UnitId) (s : State) : Host.Outcome State Fault Refusal :=
  .next (insn s (UnitId.key u) .rem (binaryAct (fun z a b => intRem z.width a b)))

/-- REMU: the unsigned remainder (R242, R243). -/
def execRemu (u : UnitId) (s : State) : Host.Outcome State Fault Refusal :=
  .next (insn s (UnitId.key u) .remu (binaryAct (fun _ a b => natRem a b)))

/-- MIN: the smaller value (R242, R243). -/
def execMin (u : UnitId) (s : State) : Host.Outcome State Fault Refusal :=
  .next (insn s (UnitId.key u) .min (binaryAct (fun z a b => aluMinMax z false a b)))

/-- MAX: the larger value (R242, R243). -/
def execMax (u : UnitId) (s : State) : Host.Outcome State Fault Refusal :=
  .next (insn s (UnitId.key u) .max (binaryAct (fun z a b => aluMinMax z true a b)))

/-- NEG: negation (R242, R243, R250, R251). -/
def execNeg (u : UnitId) (s : State) : Host.Outcome State Fault Refusal :=
  .next (insn s (UnitId.key u) .neg (unaryAct aluNeg))

/-- ABS: the absolute value (R242, R243, R250, R251). -/
def execAbs (u : UnitId) (s : State) : Host.Outcome State Fault Refusal :=
  .next (insn s (UnitId.key u) .abs (unaryAct aluAbs))

/-- SQRT: the square root (R242, R243, R250, R251). -/
def execSqrt (u : UnitId) (s : State) : Host.Outcome State Fault Refusal :=
  .next (insn s (UnitId.key u) .sqrt (unaryAct (fun z a => z.fmt.sqrt a)))

/-! ### Conversions (R252, R253) -/

/-- An integer of `w` bits converted to a float, and a float converted to one. -/
def fromIntAct (w : Nat) (c : Ctx) (s : State) : Res Done := c.result s (c.form.sz.fmt.ofInt (signed w (c.val 1)))
def toIntAct (w : Nat) (trunc : Bool) (c : Ctx) (s : State) : Res Done :=
  let r := c.form.sz.fmt.toInt w trunc (c.val 1)
  c.result s (wrap w r.1, r.2)

/-- A float converted from the other format. -/
def convAct (c : Ctx) (s : State) : Res Done :=
  let src := if c.form.sz = .f32 then fmt64 else fmt32
  c.result s (src.conv c.form.sz.fmt (c.val 1))

/-- CVTIF: a 32-bit integer to a float (R252, R253). -/
def execCvtif (u : UnitId) (s : State) : Host.Outcome State Fault Refusal :=
  .next (insn s (UnitId.key u) .cvtif (fromIntAct 32))

/-- CVTLF: a 64-bit integer to a float (R252, R253). -/
def execCvtlf (u : UnitId) (s : State) : Host.Outcome State Fault Refusal :=
  .next (insn s (UnitId.key u) .cvtlf (fromIntAct 64))

/-- CVTFI: a float to a 32-bit integer, to nearest with ties to even (R252, R253). -/
def execCvtfi (u : UnitId) (s : State) : Host.Outcome State Fault Refusal :=
  .next (insn s (UnitId.key u) .cvtfi (toIntAct 32 false))

/-- TRNFI: a float to a 32-bit integer, toward zero (R252, R253). -/
def execTrnfi (u : UnitId) (s : State) : Host.Outcome State Fault Refusal :=
  .next (insn s (UnitId.key u) .trnfi (toIntAct 32 true))

/-- CVTFL: a float to a 64-bit integer, to nearest with ties to even (R252, R253). -/
def execCvtfl (u : UnitId) (s : State) : Host.Outcome State Fault Refusal :=
  .next (insn s (UnitId.key u) .cvtfl (toIntAct 64 false))

/-- TRNFL: a float to a 64-bit integer, toward zero (R252, R253). -/
def execTrnfl (u : UnitId) (s : State) : Host.Outcome State Fault Refusal :=
  .next (insn s (UnitId.key u) .trnfl (toIntAct 64 true))

/-- CVTFF: a float to the other format (R252, R253). -/
def execCvtff (u : UnitId) (s : State) : Host.Outcome State Fault Refusal := .next (insn s (UnitId.key u) .cvtff convAct)

end Sys2Proof.Machine
end

