-- ==== Sys2Proof/Machine/Blocks.lean ====
section
/-!
DEFINITION. Blocks.lean: block and string instructions (R268 to R273).
-/
namespace Sys2Proof.Machine

/-! ### Checks (R269, R271, R273) -/

/-- What the elements of a block raise: the first that fails, in ascending address. -/
def elemsFault (s : State) (u i : Nat) (pc write : Bool) (a size : Nat) : Nat → Option Exc
  | 0 => none
  | n + 1 =>
    match ({ op := i, pc := pc, a := a % 2 ^ 32, n := size, align := size, rd := !write, wr := write } : Acc1).fault s u with
    | some e => some e
    | none => elemsFault s u i pc write (a + size) size n

/-- What reading the elements' bytes raises: an error that ECC cannot correct. -/
def elemsEcc (s : State) (u i : Nat) (a size : Nat) : Nat → Option Exc
  | 0 => none
  | n + 1 =>
    let p := a % 2 ^ 32
    if eccMet s u p size then some ⟨exEcc, i, p⟩ else elemsEcc s u i (a + size) size n

/-- The elements of a block are read, in ascending address. -/
def readElems (s : State) (u a size : Nat) : Nat → List Byte × State
  | 0 => ([], s)
  | n + 1 =>
    let v := readMem s u (a % 2 ^ 32) size
    let r := readElems v.2 u (a + size) size n
    (toLE size v.1 ++ r.1, r.2)

/-- Elements are written, in ascending address. -/
def writeElems (s : State) (u i a size : Nat) (bs : List Byte) : Nat → Res State
  | 0 => .ok s
  | n + 1 =>
    match putBytes s u i (a % 2 ^ 32) (bs.take size) with
    | .error e => .error e
    | .ok t => writeElems t u i (a + size) size (bs.drop size) n

/-- An operand is in PC-relative mode. -/
def Loc.isPc : Loc → Bool
  | .mem _ pc => pc
  | _ => false

/-- A count breaks the limit of 4,096 bytes: cause 0x03, naming the count operand (R269). -/
def limitFault (c : Ctx) (bytes : Nat) : Option Exc :=
  if 4096 < bytes then some ⟨exAccess, 3, (c.loc 0).addr⟩ else none

/-! ### Blocks (R268, R270) -/

/-- MOVB, of c elements. -/
def movbAct (c : Ctx) (s : State) : Res Done :=
  let z := c.form.sz.bytes
  let n := c.val 2
  let d := (c.loc 0).addr
  let a := (c.loc 1).addr
  match firstExc [limitFault c (n * z)] with
  | some e => .error e
  | none =>
    match firstExc [elemsFault s c.u 1 (c.loc 0).isPc true d z n, elemsFault s c.u 2 (c.loc 1).isPc false a z n,
                    elemsEcc s c.u 2 a z n] with
    | some e => .error e
    | none =>
      let r := readElems s c.u a z n
      match writeElems r.2 c.u 1 d z r.1 n with
      | .error e => .error e
      | .ok t => c.ends t

/-- FILL, of c elements. -/
def fillAct (c : Ctx) (s : State) : Res Done :=
  let z := c.form.sz.bytes
  let n := c.val 2
  let d := (c.loc 0).addr
  match limitFault c (n * z) with
  | some e => .error e
  | none =>
    match elemsFault s c.u 1 (c.loc 0).isPc true d z n with
    | some e => .error e
    | none =>
      match writeElems s c.u 1 d z ((List.replicate n (toLE z (c.val 1))).flatten) n with
      | .error e => .error e
      | .ok t => c.ends t

/-- CRCC, over c bytes. -/
def crccAct (c : Ctx) (s : State) : Res Done :=
  let n := c.val 2
  let a := (c.loc 1).addr
  match limitFault c n with
  | some e => .error e
  | none =>
    match firstExc [elemsFault s c.u 2 (c.loc 1).isPc false a 1 n, elemsEcc s c.u 2 a 1 n] with
    | some e => .error e
    | none =>
      let r := readElems s c.u a 1 n
      c.result r.2 ((crcc (c.val 0) r.1), 0)

/-- MOVB: a block is copied (R268, R269). -/
def execMovb (u : UnitId) (s : State) : Host.Outcome State Fault Refusal := .next (insn s (UnitId.key u) .movb movbAct)

/-- FILL: a block is filled with a value (R268, R269). -/
def execFill (u : UnitId) (s : State) : Host.Outcome State Fault Refusal := .next (insn s (UnitId.key u) .fill fillAct)

/-- CRCC: the CRC-32C register advanced over a block (R268 to R270). -/
def execCrcc (u : UnitId) (s : State) : Host.Outcome State Fault Refusal := .next (insn s (UnitId.key u) .crcc crccAct)

/-! ### Strings (R271 to R273) -/

/-- A string operand: its operand number, mode, address, whether it is written, and its header once it has been read. -/
structure Str where
  i    : Nat
  pc   : Bool
  a    : Nat
  wr   : Bool
  head : Nat := 0

def Ctx.str (c : Ctx) (i : Nat) (wr : Bool) : Str :=
  { i := i + 1, pc := (c.loc i).isPc, a := (c.loc i).addr, wr := wr }

/-- What a string's header raises. -/
def Str.headFault (x : Str) (s : State) (u : Nat) : Option Exc :=
  ({ op := x.i, pc := x.pc, a := x.a, n := 4, align := 4, rd := true, wr := x.wr, ecc := true } : Acc1).fault s u

/-- The headers are checked and read, in operand order; a register as a header is read as any read of it (R269, R273). -/
def readHeads (s : State) (u : Nat) : List Str → Res (List Str × State)
  | [] => .ok ([], s)
  | x :: rest =>
    match x.headFault s u with
    | some e => .error e
    | none =>
      let v := readMem s u x.a 4
      match readHeads v.2 u rest with
      | .error e => .error e
      | .ok r => .ok ({ x with head := v.1 } :: r.1, r.2)

/-- CAP and LEN of a string as R271 limits them. -/
def Str.cap (x : Str) : Nat := Nat.min 4092 (x.head % 65536)
def Str.len (x : Str) : Nat := Nat.min x.cap (x.head / 65536)

/-- What the bytes after the header raise (R273). -/
def Str.bodyFault (x : Str) (s : State) (u : Nat) : Option Exc :=
  elemsFault s u x.i x.pc x.wr (x.a + 4) 1 (if x.wr then x.cap else x.len)

def Str.text (x : Str) (s : State) (u : Nat) : List Byte :=
  (List.range x.len).map fun i => unitByte s u ((x.a + 4 + i) % 2 ^ 32)

/-- What the rest of each string raises, then errors in the texts read. -/
def strFault (s : State) (u : Nat) (xs : List Str) : Option Exc :=
  firstExc (xs.map (fun x => x.bodyFault s u)
    ++ (xs.filter fun x => !x.wr).map fun x => elemsEcc s u x.i (x.a + 4) 1 x.len)

/-- LEN of a string and text from a position are written. -/
def strWrite (s : State) (u : Nat) (x : Str) (len at_ : Nat) (text : List Byte) : Res State :=
  match putBytes s u x.i (x.a + 2) (toLE 2 len) with
  | .error e => .error e
  | .ok t => writeElems t u x.i (x.a + 4 + at_) 1 text text.length

/-- A string instruction on two strings goes on once its checks pass. -/
def withStrs (s : State) (u : Nat) (x y : Str) (k : Str → Str → State → Res Done) : Res Done :=
  match readHeads s u [x, y] with
  | .error e => .error e
  | .ok r =>
    let a := r.1.getD 0 x
    let b := r.1.getD 1 y
    match strFault r.2 u [a, b] with
    | some e => .error e
    | none => k a b r.2

def scpyAct (c : Ctx) (s : State) : Res Done :=
  withStrs s c.u (c.str 0 true) (c.str 1 false) fun d b s =>
    let n := Nat.min b.len d.cap
    match strWrite s c.u d n 0 ((b.text s c.u).take n) with
    | .error e => .error e
    | .ok t => c.ends t

def scatAct (c : Ctx) (s : State) : Res Done :=
  withStrs s c.u (c.str 0 true) (c.str 1 false) fun d b s =>
    let n := Nat.min b.len (d.cap - d.len)
    match strWrite s c.u d (d.len + n) d.len ((b.text s c.u).take n) with
    | .error e => .error e
    | .ok t => c.ends t

def slenAct (c : Ctx) (s : State) : Res Done :=
  match readHeads s c.u [c.str 1 false] with
  | .error e => .error e
  | .ok r =>
    match strFault r.2 c.u r.1 with
    | some e => .error e
    | none => c.result r.2 ((r.1.map Str.len).headD 0, 0)

/-- The order of two texts, bytes unsigned: −1, 0 or 1. -/
def textCompare : List Byte → List Byte → Int
  | [], [] => 0
  | [], _ :: _ => -1
  | _ :: _, [] => 1
  | a :: as, b :: bs => if a = b then textCompare as bs else if a.toNat < b.toNat then -1 else 1

def scmpAct (c : Ctx) (s : State) : Res Done :=
  withStrs s c.u (c.str 1 false) (c.str 2 false) fun x y s =>
    c.result s (wrap 32 (textCompare (x.text s c.u) (y.text s c.u)), 0)

/-- The first position, from `p`, at which a text occurs; 0 for none. -/
def textFind (pat : List Byte) (p : Nat) : List Byte → Nat
  | [] => 0
  | a :: as => if pat.isPrefixOf (a :: as) then p else textFind pat (p + 1) as

def sfndAct (c : Ctx) (s : State) : Res Done :=
  withStrs s c.u (c.str 1 false) (c.str 2 false) fun x y s =>
    let pat := y.text s c.u
    c.result s (if pat.isEmpty then 1 else textFind pat 1 (x.text s c.u), 0)

/-- SCPY: a string is copied (R271 to R273). -/
def execScpy (u : UnitId) (s : State) : Host.Outcome State Fault Refusal := .next (insn s (UnitId.key u) .scpy scpyAct)

/-- SCAT: a string is appended (R271 to R273). -/
def execScat (u : UnitId) (s : State) : Host.Outcome State Fault Refusal := .next (insn s (UnitId.key u) .scat scatAct)

/-- SLEN: the length of a string (R271 to R273). -/
def execSlen (u : UnitId) (s : State) : Host.Outcome State Fault Refusal := .next (insn s (UnitId.key u) .slen slenAct)

/-- SCMP: two strings are compared (R271 to R273). -/
def execScmp (u : UnitId) (s : State) : Host.Outcome State Fault Refusal := .next (insn s (UnitId.key u) .scmp scmpAct)

/-- SFND: one string is found in another (R271 to R273). -/
def execSfnd (u : UnitId) (s : State) : Host.Outcome State Fault Refusal := .next (insn s (UnitId.key u) .sfnd sfndAct)

end Sys2Proof.Machine
end

