-- ==== Sys2Proof/Machine/JurnoObj.lean ====
section
/-!
DEFINITION. JurnoObj.lean: writes to dictionary objects (R482 to R499): the checks of R484 in their order, the range of every
object, and what an accepted write does.
-/
namespace Sys2Proof.Machine

/-! ### Attributes (R482, R491) -/

/-- Factory calibration objects (R497). Of their subindexes the spec gives those of 0x2030 alone. -/
def factoryIndex (i : Nat) : Bool :=
  decide (0x2000 ≤ i) && decide (i < 0x2044) &&
    (decide (i < 0x2008) || (decide (0x2010 ≤ i) && decide (i < 0x2016)) || (decide (0x2020 ≤ i) && decide (i < 0x2025))
      || i == 0x2030 || decide (0x2040 ≤ i))

def groupIndex (i : Nat) : Bool := decide (0x1300 ≤ i) && decide (i ≤ 0x1302)

def appAt (s : State) (index sub : Nat) : AppObj := s.prog.app.get {} (objKey index sub)

/-- The attributes of an exported object: a write takes effect at the next release of the owner (R495). -/
def appDef (o : AppObj) (sub : Nat) : ObjDef :=
  ⟨sub, sub, o.typ, o.rd % 32, o.wr % 32, if o.wr % 32 = 0 then 0 else 2, 0, o.dflt, .any, .calc, ""⟩

/-- The subindexes of a group object (R492): those of its members that are group-writable; 0x00 reads the highest. -/
def groupDef (index sub : Nat) : Option ObjDef :=
  let m : List ObjDef × Nat := if index = 0x1300 then (objs6000, 0x18) else if index = 0x1301 then (objs5400, 0x12) else (objs7110, 9)
  if sub = 0 then some ⟨0, 0, 6, 0x1F, 0, 0, 0, m.2, .any, .const, "Highest subindex"⟩
  else
    match findSub m.1 sub with
    | some d => if bit d.flags 1 then some d else none
    | none => none

/-- The attributes of a subindex, wherever its index lies. -/
def defOf (s : State) (index sub : Nat) : Option ObjDef :=
  let head : Option ObjDef := (headSub s index sub).map fun n => ⟨0, 0, 6, 0x1F, 0, 0, 0, n, .any, .calc, "Highest subindex"⟩
  if head.isSome && (decide (0x8000 ≤ index) || factoryIndex index) then head
  else if 0x8000 ≤ index then
    let o := appAt s index sub
    if o.typ = 0 then none else some (appDef o sub)
  else if groupIndex index then groupDef index sub
  else if factoryIndex index && index != 0x2030 then
    if (s.nv.factory.get [] (objKey index sub)).isEmpty then none
    else some ⟨sub, sub, 14, 0x1F, 0, 0, 0, 0, .len 0 1024, .calc, ""⟩
  else objDefAt index sub

/-- The index is assigned (R491, R495). -/
def indexAssigned (s : State) (index : Nat) : Bool :=
  if 0x8000 ≤ index then s.prog.app.any fun e => e.1 / 256 == index
  else groupIndex index || factoryIndex index || (objClassAt index).isSome

/-- Checks 2 and 3 of R484. -/
def nameStatus (s : State) (index sub : Nat) : Nat :=
  if !indexAssigned s index then 0x0201 else if (defOf s index sub).isNone then 0x0202 else 0

/-- The object is a register field or lies in a hardware table: the Jurno engine serves it (R514). -/
def ObjDef.engine (d : ObjDef) : Bool :=
  match d.home with
  | .field _ _ => true
  | .loop => true
  | _ => false

/-! ### Lengths and ranges (checks 6 and 7 of R484) -/

/-- A type's number (R483). -/
def typeInt (typ n : Nat) : Int :=
  if 2 ≤ typ ∧ typ ≤ 5 ∨ typ = 12 then signed (8 * typeBytes typ) n else Int.ofNat n

/-- A number by which the values of a type are ordered; `none` for a NaN. -/
def valueKey (typ n : Nat) : Option Int :=
  let real (f : Fmt) : Option Int :=
    if f.isNaN n then none else some (if f.signOf n then -Int.ofNat (f.abs n) else Int.ofNat n)
  if typ = 10 then real fmt32 else if typ = 11 then real fmt64 else some (typeInt typ n)

/-- The length fits the type. Words of register lists come whole. -/
def lenOk (index sub : Nat) (d : ObjDef) (bs : List Byte) : Bool :=
  let whole := (index == 0x1C20 && sub == 0x0D) || (decide (0x7010 ≤ index) && decide (index < 0x7018) && sub == 5)
  if typeBytes d.typ ≠ 0 then bs.length == typeBytes d.typ
  else
    (match d.range with
     | .len lo hi => decide (lo ≤ bs.length) && decide (bs.length ≤ hi)
     | _ => decide (bs.length ≤ 524288)) && (!whole || bs.length % 4 == 0)

/-- Nominal timing, data timing and delay compensation of a CAN FD controller (R581); the other two as accepted. -/
def canTimingOk (s : State) (index sub : Nat) (v : Word) : Bool :=
  let w (i : Nat) : Word := if sub = i then v else toWord (s.objNum index i)
  let n := w 4
  let d := w 5
  let t := w 6
  let nbit := (wbits n 4 0 + 1) * (3 + wbits n 31 24 + wbits n 23 17)
  let dbit := (wbits d 4 0 + 1) * (3 + wbits d 28 24 + wbits d 23 20)
  match sub with
  | 4 => decide (80 ≤ nbit) && decide (nbit ≤ 8000) && decide (wbits n 16 10 ≤ wbits n 23 17)
  | 5 => decide (10 ≤ dbit) && decide (dbit ≤ nbit) && decide (wbits d 19 16 ≤ wbits d 23 20)
  | _ => !(wbit t 15 && decide (1 < wbits d 4 0))

/-- A channel number, or 255 for none. -/
def channelOk (n top : Nat) : Bool := decide (n ≤ top) || n == 255

/-- A connection in [12:8] and a number in [7:0], or 0xFFFF for none. -/
def connRefOk (n : Nat) : Bool := n == 0xFFFF || decide (n < 0x2000)

/-- Ranges of the safety objects that are no plain interval (R627 to R629). -/
def safetyRangeOk (s : State) (index sub n : Nat) : Bool :=
  if index < 0x7320 then
    match sub with
    | 2 => n == 0xFFFF || decide (n < 4) || (decide (0x8000 ≤ n) && decide (n < 0xA000))
    | 5 => n == 0xFFFFFFFF || n / 2 ^ 29 == 1 && (pointOf (toWord n)).isSome
    | 6 => channelOk n 15
    | 14 => decide (2 ≤ n % 65536) && decide (n % 65536 ≤ 1000)
    | _ => connRefOk n
  else if index < 0x7340 then
    match sub with
    | 1 => n == 0 || (decide (n < 1024) && n % 256 != 0)
    | 2 => decide (1 ≤ n) && (List.range 32).all fun c => 0x7320 + c == index || connPar s c 2 != n
    | _ => decide (n % 256 ≤ 16) && decide (n / 256 ≤ 16)
  else channelOk n 31

/-- Ranges that are no plain interval. -/
def specialOk (s : State) (index sub : Nat) (bs : List Byte) : Bool :=
  let n := fromLE bs
  let v := toWord n
  let none_ := n == 0xFFFFFFFF
  if index = 0x1010 then
    (if sub = 1 then decide (1 ≤ n / 2 ^ 24) && decide (n / 2 ^ 24 ≤ 223)
     else let m := 2 ^ 32 - 1 - n; m &&& (m + 1) == 0)
  else if index = 0x1400 then decide (n ≤ s.fld NRG_CAP_MJ)
  else if index = 0x1C00 then decide (n < s.objNum 0x1C00 1)
  else if index = 0x1C20 then n &&& 0x7C == 0
  else if 0x3000 ≤ index ∧ index < 0x4000 then
    (if sub = 1 then if index = 0x3030 then n % 2 ^ 31 == 0 else f32within v 0x3F000000#32
     else if index < 0x3008 then f32within v fOne else f32finite v)
  else if index < 0x4018 then
    let k := index - 0x4000
    if sub = 1 then n == 0 || (n == 1 && decide (k < 16)) || (n == 2 && decide (16 ≤ k)) else decide (1000 * n < taskP s k)
  else if index = 0x5000 then decide (0x600 ≤ n) && n != 0x88F7
  else if 0x6000 ≤ index ∧ index < 0x7000 then loopRangeOk (s.loop (index - 0x6000)) sub v
  else if index < 0x7018 then n &&& 0x78 == 0
  else if index < 0x7130 then none_ || ((pointOf v).isSome && decide (n / 2 ^ 29 ≤ (if sub = 3 then 1 else 0)))
  else if index < 0x7148 then
    none_ || ((valueOf v).isSome && decide (n / 2 ^ 29 ≤ (if sub = 3 ∧ 0x7140 ≤ index then 1 else 0)))
  else if index = 0x7150 then
    (if sub = 2 then decide (n < 32) && n != s.fld AIO_TRIM_ZBTN
     else decide (n < 8) && (s.fld (AIO_CFG_MODE n) == 1 || s.fld (AIO_CFG_MODE n) == 2))
  else if index < 0x7300 then canTimingOk s index sub v
  else safetyRangeOk s index sub n

/-- The value lies in its range. -/
def rangeOk (s : State) (index sub : Nat) (d : ObjDef) (bs : List Byte) : Bool :=
  let n := fromLE bs
  let v := toWord n
  if 0x8000 ≤ index then
    let o := appAt s index sub
    (d.typ != 1 || decide (n ≤ 1)) && (!o.bounded ||
      match valueKey o.typ n, valueKey o.typ o.min, valueKey o.typ o.max with
      | some x, some lo, some hi => decide (lo ≤ x) && decide (x ≤ hi)
      | _, _, _ => false)
  else
    match d.range with
    | .any => d.typ != 1 || decide (n ≤ 1)
    | .int lo hi => decide (lo ≤ typeInt d.typ n) && decide (typeInt d.typ n ≤ hi)
    | .real lo hi => f32le (f32ofInt lo) v && f32le v (f32ofInt hi)
    | .finite => f32finite v
    | .number => !f32isNaN v
    | .len _ _ => true
    | .special => specialOk s index sub bs

/-! ### Roles and states (checks 4, 5 and 8 of R484) -/

/-- The role may write the value: a start needs Engineer, declaring a module failed and the highest unlock their own roles; no
unlock is written over CAN FD (R108, R479, R525, R511). -/
def valueRole (q : JReq) (role index sub : Nat) (bs : List Byte) : Bool :=
  let n := fromLE bs
  let can := match q.src with | .can _ _ => true | .eth .. => false
  !((index == 0x4021 && sub == 2 && (n == 1 || n == 2) && decide (role < 2))
    || (index == 0x1800 && sub == 7 && n == 3 && decide (role < 3))
    || (index == 0x1031 && sub == 1 && (can || decide (role < fromLE (slice bs 2 1)))))

/-- A write of a configuration outside STOPPED that would change what the running program rests on (R106, R368; log 43). -/
def nextStart (index sub : Nat) (d : ObjDef) : Bool :=
  d.persistent && index != 0x1C00 && index != 0x1041 && (d.eff == 7 || (index == 0x4021 && sub == 3))

/-- Check 8: R439, R515, and objects that change in STOPPED only. The resident loader serves its objects in every role (log 43). -/
def stateStatus (s : State) (index sub : Nat) (d : ObjDef) : Nat :=
  if !s.acts && s.boot.stage == .firmware && !(decide (0x1800 ≤ index) && decide (index < 0x1C00)) then 0x0701
  else if s.tsk.prog = .preparing ∧ d.persistent then 0x0701
  else if nextStart index sub d && !s.stopped then 0x0701
  else 0

/-- Checks 2 to 8 of a write, as far as they do not depend on what the object does. An edit record is judged whole (R147). -/
def writeStatus (s : State) (q : JReq) (role index sub : Nat) (bs : List Byte) : Nat :=
  let name := nameStatus s index sub
  if name ≠ 0 then name
  else if groupIndex index then 0x0701
  else
    match defOf s index sub with
    | none => 0x0202
    | some d =>
      if d.wr = 0 then 0x0302
      else if !bit d.wr role || !valueRole q role index sub bs then 0x0301
      else if index = 0x4101 then stateStatus s index sub d
      else if !lenOk index sub d bs then 0x0401
      else if !rangeOk s index sub d bs then 0x0402
      else stateStatus s index sub d

/-- The record that a write stores, by the object or by what it sets: the user layer of a trim or of a clear, the safety program
and its confirmation. -/
def storedKey (index sub : Nat) (d : ObjDef) : Option Nat :=
  if d.persistent then some (objKey index sub)
  else if index = 0x7300 ∧ sub = 2 then some recSafety
  else if index = 0x7300 ∧ sub = 4 then some recConf
  else if index = 0x3FFF then some (objKey 0x3000 1)
  else if 0x7140 ≤ index ∧ index < 0x7148 ∧ 0x0E ≤ sub then some (objKey (index - 0x7140 + 0x3000) 1)
  else none

/-- Check 11: the record lies in a protected region (R635). -/
def blocked (s : State) (index sub : Nat) (d : ObjDef) : Bool :=
  match storedKey index sub d with
  | some k => keyBlocked s k
  | none => false

/-! ### Effects by home -/

/-- The part of a register's word that a write sets. -/
def rwPart (a : Nat) (w : Word) : Nat :=
  match regDefAt a with
  | none => 0
  | some d => d.fields.foldl (fun n f => if f.acc = .rw then putBits n f.hi f.lo (bits w.toNat f.hi f.lo) else n) 0

/-- A field takes a value as the engine writes it: the register's other fields stay. -/
def engineWrite (s : State) (f : Fld) (a n : Nat) : Option State :=
  periphWrite s 4 a (toWord (putBits (rwPart a (s.reg a)) f.hi f.lo n))

/-- A write to the trim-button object (R559, R578). -/
def trimObject (s : State) (sub n : Nat) : State × Nat :=
  let w := s.reg AIO_TRIM
  if sub = 4 then
    let r := trimWrite s (toWord (putBits w.toNat 31 31 n))
    (r.1, if r.2 then 0 else 0x0501)
  else if s.flag AIO_TRIM_EN then (s, 0x0701)
  else (s.setFld (if sub = 1 then AIO_TRIM_ZBTN else if sub = 2 then AIO_TRIM_SBTN else AIO_TRIM_TARGET) n, 0)

/-- A value that takes effect at the next start although its register may change in STOPPED at once (R341, R342). -/
def atStartWrite (s : State) (index sub n : Nat) : State × Nat :=
  (s.modPhr fun p => { p with atStart := p.atStart.set none (objKey index sub) (some n) }, 0)

/-- A value goes to a register field. -/
def fieldWrite (s : State) (index sub : Nat) (f : Fld) (a n : Nat) : State × Nat :=
  if index = 0x7150 then trimObject s sub n
  else if 0x7130 ≤ index ∧ index < 0x7140 ∧ sub = 1 then
    let r := encctrlWrite s (index - 0x7130) (toWord n)
    (r.1, if r.2 then 0 else 0x0501)
  else if index = 0x1800 ∧ sub = 1 then (s.setFld HSB_CTRL_UNIT n, 0)
  else if index = 0x5001 then atStartWrite s index sub n
  else
    match engineWrite s f a n with
    | some t => (t, 0)
    | none =>
      let o := if 0x7110 ≤ index ∧ index < 0x7130 then s.owner (index - 0x7110) else 0
      (s, if o = ownSafety ∨ o = ownTrim then 0x0501 else 0x0701)

/-- The task watchdog's registers take the accepted values (R107). -/
def wdLoad (s : State) : State :=
  let put (s : State) (sub : Nat) (f : Fld) : State := if (s.obj 0x4020 sub).isEmpty then s else s.setFld f (s.objNum 0x4020 sub)
  wdMaps (put (put s 2 TSK_WDCTRL_STRICT) 3 TSK_WDCTRL_WIN)

/-- A value goes to the object store. -/
def storeWrite (s : State) (index sub : Nat) (bs : List Byte) : State × Nat :=
  let t := s.setObj index sub bs
  if 0x7310 ≤ index ∧ index < 0x7360 then (if safWritable s then (t, 0) else (s, 0x0701))
  else if index = 0x4020 then
    let t := if sub = 4 ∨ sub = 5 then t.modTsk fun x => { x with wdNext := true } else t
    (if wdOn s then t else wdLoad t, 0)
  else if 0x3000 ≤ index ∧ index < 0x3008 then
    let c := index - 0x3000
    (fieldCmd t (.trim c (userCal t c).1 (userCal t c).2), 0)
  else if index = 0x3030 ∨ index = 0x3015 then (loadRtcModel t, 0)
  else if 0x7140 ≤ index ∧ index < 0x7148 ∧ 0x0E ≤ sub then
    let r := trimCommand s (index - 0x7140) (sub == 0x0F) (toWord (fromLE bs))
    if r.2 = 0 then (r.1.setObj index sub bs, 0) else r
  else (t, 0)

/-- The bytes of an edit record that replaces a %M word. -/
def wordEdit (k : Nat) (v : Word) : List Byte :=
  toLE 1 1 ++ toLE 3 0 ++ toLE 4 (0x10090000 + 4 * k) ++ toLE 4 v.toNat ++ toLE 4 0xFFFFFFFF

/-- A write to an exported object: an edit of its %M word, or of its two words, at the next release of their task (R495). -/
def appWrite (s : State) (o : AppObj) (bs : List Byte) : State × Nat :=
  let gs := if typeBytes o.typ = 8 then [o.g, o.g + 1] else [o.g]
  let n := fromLE bs
  let ws := if typeBytes o.typ = 8 then [toWord (n % 2 ^ 32), toWord (n / 2 ^ 32)] else [intWord (typeInt o.typ n)]
  if s.tsk.prog = .preparing ∨ s.tsk.prog = .stopping then (s, 0x0701)
  else if gs.any fun g => !isMarker g || isStatus g || (subs s g).any (·.writer) then (s, 0x0501)
  else
    match groupOwner s o.g with
    | none => (s, 0x0501)
    | some k =>
      let rec_ := ((gs.map fun g => g - gMD 0).zip ws).flatMap fun e => wordEdit e.1 e.2
      (controlItem (s.modGz fun g => { g with edits := g.edits ++ [⟨k, editItems rec_⟩] }) k itemEdit rec_, 0)

/-! ### Objects of 0x1000 to 0x1FFF that are commands or tables -/

/-- The role that a node on a CAN FD controller has (R511). -/
def canRole (s : State) (ctrl node : Nat) : Nat :=
  match s.jrn.unlocks.find? fun e => match e.2 with | some u => u.ctrl == ctrl && u.node == node && decide (s.now < u.until_) | none => false with
  | some (_, some u) => u.role
  | _ => 1

/-- An unlock record (R511, R525): it replaces its node's unlock, a duration of 0 revokes it, a ninth is refused. -/
def unlockWrite (s : State) (bs : List Byte) : State × Nat :=
  let b (i n : Nat) : Nat := fromLE (slice bs i n)
  let u : JUnlock := { ctrl := b 0 1, node := b 1 1, role := b 2 1, until_ := s.now + b 4 2 * 1000000000 }
  if u.ctrl > 1 ∨ u.node = 0 ∨ u.node > 127 ∨ u.role < 2 ∨ u.role > 3 ∨ b 3 1 ≠ 0 ∨ b 4 2 > 3600 then (s, 0x0402)
  else
    let own := (List.range 8).find? fun i =>
      match s.jrn.unlocks.get none i with | some x => x.ctrl == u.ctrl && x.node == u.node | none => false
    let put (i : Nat) (x : Option JUnlock) : State := s.modJrn fun j => { j with unlocks := j.unlocks.set none i x }
    if b 4 2 = 0 then (match own with | some i => (put i none, 0) | none => (s, 0))
    else
      match own.orElse fun _ => (List.range 8).find? fun i => (s.jrn.unlocks.get none i).isNone with
      | some i => (put i (some u), 0)
      | none => (s, 0x0501)

/-- The command of 0x1040:01 (R725). A reset into the loader follows the answer. -/
def updCommand (s : State) (q : Option JReq) (n : Nat) : State × Option Nat :=
  if n = 1 then
    let st := updBeginStatus s
    if st ≠ 0 then (s, some st)
    else if s.boot.stage = .firmware ∧ s.objNum 0x1040 2 = 0 then
      (updBegin (match q with | some q => answerStatus s q 0 | none => s), none)
    else (updBegin s, some 0)
  else
    let r := if n = 2 then updActivate s else updAbort s
    (r.1, some r.2)

/-- A block of 0x1040:03 (R726, R728). -/
def updBlockWrite (s : State) (q : Option JReq) (bs : List Byte) : State × Option Nat :=
  match q with
  | none => (s, some 0x0701)
  | some q => if s.boot.updPartner then relayBlock s q bs else updBlock s (some q) bs

/-- A word list goes to consecutive registers; the rest of them read 0. -/
def putWords (s : State) (reg : Nat → Nat) (count : Nat) (bs : List Byte) : State :=
  (List.range count).foldl (fun s i => s.setReg (reg i) (toWord (fromLE (slice bs (4 * i) 4)))) s

/-- The command of 0x1800:07 (R479). -/
def pairCommand (s : State) (n : Nat) : State × Nat :=
  match n with
  | 1 => requestSwitch s
  | 2 => resync s
  | _ => declareFail s

def calcWrite1 (s : State) (q : Option JReq) (role index sub : Nat) (bs : List Byte) : State × Option Nat :=
  let n := fromLE bs
  let ok (t : State) : State × Option Nat := (t, some 0)
  let st (r : State × Nat) : State × Option Nat := (r.1, some r.2)
  match index, sub with
  | 0x1031, _ => st (unlockWrite s bs)
  | 0x1040, 0x01 => updCommand s q n
  | 0x1040, _ => updBlockWrite s q bs
  | 0x1400, _ => ok (peakReset s)
  | 0x1800, _ => st (pairCommand s n)
  | 0x1801, _ => ok (s.modHsb fun h => { h with failed := h.failed - (h.failed &&& n) })
  | 0x1C10, _ => (freezeRequest s 2 0, some (if s.frz.strap && s.nv.ready then 0 else 0x0701))
  | 0x1C20, 0x0B => if recCanClear s then ok (recClear s role) else (s, some 0x0701)
  | 0x1C20, 0x0C => ok (putWords s REC_FRZMASK 4 bs)
  | 0x1C20, 0x0D => ok (putWords s REC_SNAP 24 bs)
  | 0x1C20, _ => ok ((s.setFlag REC_CTRL_APPEND (bit n 7)).setFld REC_CTRL_TRIGSEV (n % 4))
  | 0x1C21, _ =>
    ok (match q with
      | some q => { s with rcd := { s.rcd with readPos := s.rcd.readPos.set 0 (readKey q.src) n } }
      | none => s)
  | 0x1E00, 0x01 => ok (rtcArm s n)
  | 0x1E00, _ => ok (s.modRtc fun r => { r with alarm := n, almEn := n != 0 })
  | 0x1E01, 0x01 => ok (bkCommit s bs)
  | _, _ => ok (bkCommit s (List.replicate 64 0))

/-! ### Objects of 0x3000 to 0x4FFF that are commands or tables -/

/-- The user calibration objects (R497). -/
def userObjects : List Nat :=
  (List.range 8).map (0x3000 + ·) ++ (List.range 6).map (0x3010 + ·) ++ (List.range 5).map (0x3020 + ·) ++ [0x3030]
    ++ (List.range 4).map (0x3040 + ·)

/-- Every user gain and offset becomes 0.0 in one step, is stored and recorded (R499). -/
def clearCalibration (s : State) : State :=
  let s := userObjects.foldl (fun s i =>
    let s := (s.setObj i 1 (toLE 4 0)).setObj i 2 (toLE 4 0)
    (s.persistNow (objKey i 1) (toLE 4 0)).persistNow (objKey i 2) (toLE 4 0)) s
  let s := (List.range 8).foldl (fun s c => fieldCmd s (.trim c 0 0)) s
  (loadRtcModel s).record 0x0501 1 0 0 []

/-- 0x4020:01 (R82, R107): the accepted settings take effect at an enabling write. -/
def wdEnable (s : State) (n : Nat) : State × Nat :=
  let t := if n = 1 && !wdOn s then wdLoad s else s
  let t := wdctrlWrite t (toWord (t.fld TSK_WDCTRL_WIN * 65536 + t.fld TSK_WDCTRL_STRICT * 2 + n))
  if n = 1 && !wdOn t then (s, 0x0402) else (t, 0)

/-- 0x4021:02 (R108). -/
def programCommand (s : State) (n : Nat) : State × Nat :=
  match n with
  | 1 => startCommand s false false
  | 2 => startCommand s true false
  | _ => stopRequest s

/-- Every force is removed, at each owner's next release or end of evaluation, at once in STOPPED (R67, R109, log 13). -/
def removeForces (s : State) : State :=
  if s.stopped then clearForces s
  else
    let gs := dedup (s.img.fmask.map (·.1) ++ s.img.fwait.map (·.g))
    let any := !s.img.fmask.isEmpty
    let s := s.modImg fun i => { i with fwait := i.fwait ++ gs.map fun g => ⟨g, 0, 0⟩ }
    if any then s.record 0x0110 1 0 0 [] else s

/-- A force record of 0x4022:05; it reaches the partner (R68, R451). -/
def forceWrite (s : State) (bs : List Byte) : State × Nat :=
  let st := forceStatus s bs
  if st ≠ 0 then (s, st) else (controlItem (forceAccept s bs) 0xFF itemForce bs, 0)

/-- An edit record of 0x4101:01 waits for its validation, which is class 3 work, and is answered after it (R145, R401). -/
def editWrite (s : State) (q : Option JReq) (role : Nat) (bs : List Byte) : State × Option Nat :=
  match q with
  | some q => (s.modJrn fun j => { j with edits := j.edits ++ [⟨q, role, bs⟩] }, none)
  | none => (s, some 0)

def calcWrite4 (s : State) (index sub : Nat) (bs : List Byte) : State × Nat :=
  let n := fromLE bs
  if index = 0x4020 then wdEnable s n
  else if index = 0x4021 then programCommand s n
  else if index = 0x4022 then (if sub = 0x03 then (removeForces s, 0) else forceWrite s bs)
  else if index = 0x4100 then (if sub = 0x07 then (clearEquiv s n, 0) else (requestAudit s n, 0))
  else if index = 0x4102 then (if sub = 0x01 then stageRecord s bs else stgCommand s (n == 1))
  else
    let k := index - 0x4000
    match engineWrite s (TSK_CTRL_EN k) (TSK_CTRL k) (b2n (n != 0)) with
    | some t => (t, 0)
    | none => (s, 0x0701)

/-! ### Objects of 0x5000 to 0x7FFF that are commands or tables -/

/-- A trace buffer's image signals; only while it is neither ARMED nor TRIGGERED (R392). -/
def trcObject (s : State) (b sub : Nat) (bs : List Byte) : State × Nat :=
  let n := fromLE bs
  let busy := trcState s b == trcArmed || trcState s b == trcTriggered
  if sub = 0x0D then (trcCommand s b n, 0)
  else if sub = 0x11 then (s.setTrcb b { s.trcb b with readOff := n }, 0)
  else if busy then (s, 0x0701)
  else if sub = 5 then ((putWords s (TRC_SIG b) 8 bs).setFld (TRC_CFG_NSIG b) (bs.length / 4), 0)
  else ((s.setFlag (TRC_TRIG_TINT b) (bit n 7)).setFld (TRC_TRIG_TSIG b) (n % 8), 0)

def calcWrite7 (s : State) (index sub : Nat) (bs : List Byte) : State × Nat :=
  let n := fromLE bs
  if index < 0x5014 then atStartWrite s index sub n
  else if index = 0x7000 then (clearAlarms s bs, 0)
  else if index < 0x7018 then trcObject s (index - 0x7010) sub bs
  else if index = 0x7100 then (fcmdWrite s 2, 0)
  else if index < 0x7202 then (canRecover s (index - 0x7200), 0)
  else if index = 0x7300 then
    match sub with
    | 2 => safProgramWrite s bs
    | 4 => safConfirm s (toWord n)
    | _ => (safetyReset s, 0)
  else axisResetCmd s (index - 0x7310)

/-! ### Any object -/

/-- What a write does. `none` is an answer that comes later; a refusal by the object's own rules carries its status. -/
def objEffect (s : State) (q : Option JReq) (role index sub : Nat) (d : ObjDef) (bs : List Byte) : State × Option Nat :=
  let st (r : State × Nat) : State × Option Nat := (r.1, some r.2)
  if 0x8000 ≤ index then st (appWrite s (appAt s index sub) bs)
  else
    match d.home with
    | .const => (s, some 0x0302)
    | .field f stride =>
      st (fieldWrite s index sub f (f.addr + stride * (index - ((objClassAt index).map (·.base)).getD index)) (fromLE bs))
    | .loop => st (loopWrite s (index - 0x6000) sub (toWord (fromLE bs)))
    | .store => st (storeWrite s index sub bs)
    | .calc =>
      if index < 0x3000 then calcWrite1 s q role index sub bs
      else if index < 0x4000 then (clearCalibration s, some 0)
      else if index = 0x4101 then editWrite s q role bs
      else if index < 0x5000 then st (calcWrite4 s index sub bs)
      else st (calcWrite7 s index sub bs)

/-- An accepted write travels to the partner as a CONTROL item (R451, R489, log 14). -/
def shareWrite (s : State) (index sub : Nat) (d : ObjDef) (bs : List Byte) : State :=
  if shared index sub d then controlItem s 0xFF itemConfig (toLE 2 index ++ toLE 1 sub ++ bs) else s

/-- After a safety parameter has been stored the confirmation goes (R619). -/
def afterStore (s : State) (index : Nat) : State := if 0x7310 ≤ index ∧ index < 0x7360 then safChanged s else s

/-- A write that has passed checks 2 to 8: its effect, checks 8 to 11 as the object has them, and storing (R486). An object that
the engine serves is answered once its record is in MRAM; firmware waits for that itself (R633). -/
def objAccept (s : State) (q : JReq) (role index sub : Nat) (d : ObjDef) (bs : List Byte) : State × Option Nat :=
  let r := objEffect s (some q) role index sub d bs
  if r.2 ≠ some 0 then r
  else if blocked s index sub d then (s, some 0x0601)
  else if !d.persistent then (shareWrite r.1 index sub d bs, some 0)
  else if d.engine then (shareWrite (r.1.persist (objKey index sub) bs (some q)) index sub d bs, none)
  else (shareWrite (afterStore (r.1.persistNow (objKey index sub) bs) index) index sub d bs, some 0)

/-- A value that has been accepted before takes its place again: at the start of firmware from its record, on the partner of an
active module from a CONTROL item (`store`). -/
def objLoad (s : State) (store : Bool) (index sub : Nat) (bs : List Byte) : State :=
  match defOf s index sub with
  | none => s
  | some d =>
    let r := objEffect s none 3 index sub d bs
    if r.2 ≠ some 0 then s
    else if store && d.persistent then afterStore (r.1.persistNow (objKey index sub) bs) index
    else r.1

end Sys2Proof.Machine
end

