-- ==== Sys2Proof/Machine/Jurno.lean ====
section
/-!
DEFINITION. Jurno.lean: the Jurno protocol (R500 to R515, R650): what a request passes before it is served, its services, and
the commands that are reads or writes of dictionary objects.

What firmware serves is done when the request is accepted; its answer lies in a slot until JRN_DONE.SEND (log 43).
-/
namespace Sys2Proof.Machine

/-! ### Sources (R505, R510, R513) -/

def isEth : JSrc → Bool
  | .eth .. => true
  | .can .. => false

/-- Two requests come from one source: a session, an address without a session, a node on a controller (R513). -/
def sameSource (a b : JSrc) : Bool :=
  match a, b with
  | .eth ip _ sid _ _, .eth ip' _ sid' _ _ => sid == sid' && (sid != 0#32 || ip == ip')
  | .can c n, .can c' n' => c == c' && n == n'
  | _, _ => false

/-- A message that is discarded for its form (R500, R505): LEN, reserved bits, or the TAG it should or should not carry. A READ
with PART carries the number of bytes wanted in LEN (R501). -/
def msgBad (q : JReq) : Bool :=
  let m := q.msg
  let svc := m.service.toNat
  let flags := m.flags.toNat
  let lenBad := if svc = svcRead ∧ bit flags 1 then !m.data.isEmpty else m.len.toNat != m.data.length
  let tagBad := match q.src with
    | .eth _ _ sid _ tag => (sid == 0#32 || svc == svcAuth) && !tag.isEmpty
    | .can _ _ => false
  lenBad || tagBad || decide (1024 < m.len.toNat) || decide (128 ≤ svc) || decide (4 ≤ flags) || m.status != 0#16
    || (m.target != 0xFFFF#16 && decide (1024 ≤ m.target.toNat))

/-- A message is discarded and counted (R500, R507). -/
def discard (s : State) (q : JReq) : State :=
  let s := s.count32 JRN_DISCARD 1
  if isEth q.src then s.modJrn fun j => { j with badFrames := j.badFrames + 1 } else s

/-- What a request's source gives it (R505 to R507, R511). -/
inductive Gate where
  | drop
  | again (m : Option JMsg)
  | status (st : Nat)
  | go (role : Nat) (slot : Option Nat)
deriving DecidableEq, Repr

/-- The session, TAG and SEQ of a request, and the role that it is served with. OPEN needs no role (log 43). -/
def gate (s : State) (q : JReq) : Gate :=
  let svc := q.msg.service.toNat
  match q.src with
  | .can ctrl node => .go (canRole s ctrl.val node.toNat) none
  | .eth _ _ sid seq tag =>
    if sid = 0#32 then (if svc = svcOpen || s.flag JRN_CTRL_OBSOPEN then .go 0 none else .status 0x0301)
    else
      match sessionSlot s sid.toNat with
      | none => .drop
      | some k =>
        match sessionAt s k with
        | none => .drop
        | some x =>
          if svc = svcAuth then .go x.role none
          else if !x.authed || tag != tagOf x.key (payloadOf sid seq q.msg) then .drop
          else
            match x.kept.find? fun e => e.1 == seq.toNat with
            | some e => .again e.2
            | none =>
              match x.seq with
              | some last => if seq.toNat ≤ last then .drop else .go x.role (some k)
              | none => .go x.role (some k)

/-- A request of a session is accepted: the session is active, and SEQ moves on (R507, R508). -/
def acceptSeq (s : State) (slot : Option Nat) (src : JSrc) : State :=
  match slot, src with
  | some k, .eth _ _ _ seq _ =>
    (match sessionAt s k with
     | none => s
     | some x => setSession s k (some { x with last := s.now, seq := some seq.toNat, kept := ((seq.toNat, none) :: x.kept).take 8 }))
  | _, _ => s

/-! ### Answers by engine and firmware (R514, R519) -/

/-- A request goes to the firmware queue, with EV41; its answer is in the slot. -/
def toFirmware (s : State) (q : JReq) (role : Nat) (m : JMsg) : State :=
  match (List.range 64).find? fun k => (s.jrn.slots.get none k).isNone with
  | none => s
  | some k =>
    (s.modJrn fun j => { j with
      slots := j.slots.set none k (some { req := q, role := role, seqno := j.slotSeq, msg := msgBytes m })
      slotSeq := j.slotSeq + 1 }).raise 41

def fwStatus (s : State) (q : JReq) (role st : Nat) : State := toFirmware s q role (msgAnswer q.msg st [])
def fwAnswer (s : State) (q : JReq) (role : Nat) (data : List Byte) : State := toFirmware s q role (msgAnswer q.msg 0 data)

/-- An answer of the engine, or of firmware. -/
def reply (s : State) (engine : Bool) (q : JReq) (role : Nat) (m : JMsg) : State :=
  if engine then answer s q m else toFirmware s q role m

/-- The engine serves READ and WRITE of the object. -/
def engineObject (s : State) (index sub : Nat) : Bool :=
  match defOf s index sub with
  | some d => !groupIndex index && d.engine
  | none => false

/-! ### READ (R484, R502, R690, R392) -/

/-- Checks 2 to 5 of a read. -/
def readStatus (s : State) (role index sub : Nat) : Nat :=
  let name := nameStatus s index sub
  if name ≠ 0 then name
  else if groupIndex index then 0x0701
  else
    match defOf s index sub with
    | none => 0x0202
    | some d => if d.rd = 0 then 0x0302 else if bit d.rd role then 0 else 0x0301

/-- The value that a read gives, and the state once all of it has been read. -/
def readValue (s : State) (src : JSrc) (index sub : Nat) : List Byte × State :=
  if index = 0x1C21 ∧ sub = 1 then (toLE 4 (s.rcd.readPos.get 0 (readKey src)), s)
  else if index = 0x1C21 ∧ sub = 2 then
    (match recNext s (readKey src) with
     | none => ([], s)
     | some r => (r.2, recRead s (readKey src) r.1))
  else if 0x7010 ≤ index ∧ index < 0x7018 ∧ sub = 0x12 then (trcRead s (index - 0x7010), s)
  else (objPeek s index sub, s)

def serveRead (s : State) (q : JReq) (role : Nat) : State :=
  let m := q.msg
  let index := m.index.toNat
  let sub := m.sub.toNat
  let engine := engineObject s index sub
  let st := readStatus s role index sub
  if st ≠ 0 then reply s engine q role (msgAnswer m st [])
  else
    let v := readValue s q.src index sub
    let part := bit m.flags.toNat 1
    let off := if part then m.offset.toNat else 0
    let n := if part then m.len.toNat else 1024
    if v.1.length < off then reply s engine q role (msgAnswer m 0x0402 [])
    else
      let whole := decide (v.1.length ≤ off + n)
      let bs := slice v.1 off n
      let t := if 0x7010 ≤ index ∧ index < 0x7018 ∧ sub = 0x12 then trcAdvance s (index - 0x7010) bs.length
        else if whole then v.2 else s
      reply t engine q role (msgAnswer m 0 bs (b2n whole + 2 * b2n part))

/-! ### WRITE (R484, R486, R502) -/

/-- A whole value is written. -/
def writeWhole (s : State) (q : JReq) (role : Nat) (bs : List Byte) : State :=
  let index := q.msg.index.toNat
  let sub := q.msg.sub.toNat
  let engine := engineObject s index sub
  let st := writeStatus s q role index sub bs
  if st ≠ 0 then reply s engine q role (msgAnswer q.msg st [])
  else
    match defOf s index sub with
    | none => s
    | some d =>
      let r := objAccept s q role index sub d bs
      match r.2 with
      | none => r.1
      | some st => reply r.1 engine q role (msgAnswer q.msg st [])

def setPart (s : State) (key : Nat) (p : Option JPart) : State := s.modJrn fun j => { j with parts := j.parts.set none key p }

/-- A part of a value (R502). -/
def writePart (s : State) (q : JReq) (role : Nat) : State :=
  let m := q.msg
  let key := objKey m.index.toNat m.sub.toNat
  let last := bit m.flags.toNat 0
  let engine := engineObject s m.index.toNat m.sub.toNat
  let go (before : List Byte) : State :=
    let bs := before ++ m.data
    if last then writeWhole (setPart s key none) q role bs
    else reply (setPart s key (some { src := q.src, bytes := bs, at_ := s.now })) engine q role (msgAnswer m 0 [])
  match s.jrn.parts.get none key with
  | none => if m.offset = 0#32 then go [] else reply s engine q role (msgAnswer m 0x0402 [])
  | some p =>
    if !sameSource p.src q.src then reply s engine q role (msgAnswer m 0x0501 [])
    else if m.offset.toNat = p.bytes.length ∧ p.bytes.length ≠ 0 then go p.bytes
    else reply (setPart s key none) engine q role (msgAnswer m 0x0402 [])

def serveWrite (s : State) (q : JReq) (role : Nat) : State :=
  if bit q.msg.flags.toNat 1 then writePart s q role else writeWhole s q role q.msg.data

/-! ### GWRITE (R492 to R494) -/

/-- The configured members of a group object: their indexes, with their membership words. An analogue MODE of 4 to 7 is taken as 0
(R571). -/
def groupMembers (s : State) (index : Nat) : List (Nat × Nat) :=
  if index = 0x1300 then
    (s.lpe.loops.filter fun e => e.2.configured).map fun e => (0x6000 + e.1, (e.2.word 0x1B).toNat)
  else if index = 0x1301 then (configuredStations s).map fun key => (0x5400 + key, s.objNum (0x5400 + key) 0x13)
  else
    ((List.range 32).filter fun k => dioMode s k != 0).map (fun k => (0x7110 + k, s.objNum (0x7110 + k) 0x0A))
      ++ ((List.range 8).filter fun c => s.fld (AIO_CFG_MODE c) != 0 && decide (s.fld (AIO_CFG_MODE c) ≤ 3)).map
        fun c => (0x7140 + c, s.objNum (0x7140 + c) 0x0A)

/-- A member that takes group writes: of the local channels, the outputs that the program may drive (R557). -/
def memberTakes (s : State) (index : Nat) : Bool :=
  if index < 0x7110 then true
  else if index < 0x7130 then dioMode s (index - 0x7110) == 2
  else index - 0x7140 < 8 && s.fld (AIO_CFG_MODE (index - 0x7140)) == 3

/-- Role, type and range, checked once; the order of a loop's output limits is a member's own (R493). -/
def groupStatus (s : State) (role index sub : Nat) (data : List Byte) : Nat :=
  let name := nameStatus s index sub
  if name ≠ 0 then name
  else if !groupIndex index then 0x0701
  else
    match groupDef index sub with
    | none => 0x0202
    | some d =>
      let member := if index = 0x1300 then 0x6000 else if index = 0x1301 then 0x5401 else 0x7110
      let v := data.drop 4
      let rangeFits := if index = 0x1300 ∧ (sub = 0x12 ∨ sub = 0x13) then f32finite (toWord (fromLE v)) else rangeOk s member sub d v
      if d.wr = 0 then 0x0302
      else if !bit d.wr role then 0x0301
      else if data.length ≠ 4 + typeBytes d.typ then 0x0401
      else if !rangeFits then 0x0402
      else if stateStatus s index sub d ≠ 0 then 0x0701
      else if blocked s member sub d then 0x0601
      else 0

/-- One member takes the value, or is skipped. -/
def groupApply (s : State) (sub : Nat) (d : ObjDef) (v : List Byte) (index : Nat) : State × Bool :=
  if !memberTakes s index then (s, false)
  else
    let r := objEffect s none 3 index sub d v
    if r.2 ≠ some 0 then (s, false)
    else
      let t := if d.persistent then r.1.persistNow (objKey index sub) v else r.1
      (shareWrite t index sub d v, true)

def serveGwrite (s : State) (q : JReq) (role : Nat) : State :=
  let m := q.msg
  let index := m.index.toNat
  let sub := m.sub.toNat
  let st := groupStatus s role index sub m.data
  if st ≠ 0 then fwStatus s q role st
  else
    let mask := fromLE (m.data.take 4)
    let chosen := (groupMembers s index).filter fun e => mask == 0 || e.2 &&& mask != 0
    let r := chosen.foldl (fun (r : State × Nat) e =>
      match objDefAt e.1 sub with
      | none => r
      | some d =>
        let t := groupApply r.1 sub d (m.data.drop 4) e.1
        (t.1, r.2 + b2n t.2)) (s, 0)
    fwAnswer r.1 q role (toLE 2 r.2 ++ toLE 2 (chosen.length - r.2))

/-! ### DESCRIBE (R503) -/

/-- UTF-8. -/
def utf8 (c : Char) : List Byte :=
  let n := c.toNat
  if n < 0x80 then toLE 1 n
  else if n < 0x800 then [BitVec.ofNat 8 (0xC0 + n / 64), BitVec.ofNat 8 (0x80 + n % 64)]
  else [BitVec.ofNat 8 (0xE0 + n / 4096), BitVec.ofNat 8 (0x80 + n / 64 % 64), BitVec.ofNat 8 (0x80 + n % 64)]

/-- The least and the largest value of a type: where an object's range is all of it, or no plain interval (log 43). -/
def typeRange (typ : Nat) : Nat × Nat :=
  let n := 8 * typeBytes typ
  if typ = 1 then (0, 1)
  else if 2 ≤ typ ∧ typ ≤ 5 ∨ typ = 12 then (2 ^ (n - 1), 2 ^ (n - 1) - 1)
  else if typ = 10 then (fmt32.inf true, fmt32.inf false)
  else if typ = 11 then (fmt64.inf true, fmt64.inf false)
  else (0, 2 ^ n - 1)

/-- MIN and MAX of an object. -/
def descRange (s : State) (index sub : Nat) (d : ObjDef) : Nat × Nat :=
  let enc (v : Int) : Nat := (BitVec.ofInt (8 * typeBytes d.typ) v).toNat
  let o := appAt s index sub
  if 0x8000 ≤ index then (if o.bounded then (o.min, o.max) else typeRange o.typ)
  else if typeBytes d.typ = 0 then (match d.range with | .len _ hi => (0, hi) | _ => (0, 524288))
  else
    match d.range with
    | .int lo hi => (enc lo, enc hi)
    | .real lo hi => ((f32ofInt lo).toNat, (f32ofInt hi).toNat)
    | .finite => (0xFF7FFFFF, 0x7F7FFFFF)
    | _ => typeRange d.typ

/-- The answer data of DESCRIBE. -/
def describe (s : State) (index sub : Nat) (d : ObjDef) : List Byte :=
  let r := descRange s index sub d
  let dflt := if 0x8000 ≤ index ∨ groupIndex index then d.dflt else fromLE (objDefault index sub)
  toLE 1 d.typ ++ toLE 1 d.eff ++ toLE 1 d.rd ++ toLE 1 d.wr ++ toLE 1 (d.flags % 4) ++ toLE 3 0 ++ toLE 8 r.1 ++ toLE 8 r.2
    ++ toLE 8 dflt ++ (d.name.toList.flatMap utf8).take 48

def serveDescribe (s : State) (q : JReq) (role : Nat) : State :=
  let index := q.msg.index.toNat
  let sub := q.msg.sub.toNat
  let st := nameStatus s index sub
  match defOf s index sub with
  | some d => if st ≠ 0 then fwStatus s q role st else fwAnswer s q role (describe s index sub d)
  | none => fwStatus s q role st

/-! ### READTIME (R650) -/

/-- A matched reading: seconds, sub-seconds, flags, and the timebase. Nothing moves between the reads of one command. -/
def serveReadtime (s : State) (q : JReq) (role : Nat) : State :=
  fwAnswer s q role (toLE 8 s.rtc.sec ++ toLE 2 (rtcSub s) ++ toLE 1 (regPeek s RTC_STAT % 16) ++ toLE 1 0 ++ toLE 8 s.now)

/-! ### Sessions (R506 to R509) -/

/-- The key of a role; `none` while it is not set. -/
def roleKey (s : State) (role : Nat) : Option (List Byte) :=
  let set_ := s.obj 0x1021 (role + 1)
  if role = 4 then some (Config.manufactureKey 4)
  else if !set_.isEmpty then some set_
  else if role = 3 then some (Config.manufactureKey 3)
  else none

/-- An address is locked out (R508). -/
def lockedOut (s : State) (ip : Word) : Bool := decide (s.now < s.jrn.locks.get 0 ip.toNat)

/-- A new session number: a drawn one, or the next above it that is neither 0 nor in use (log 43). -/
def newSid (s : State) (w : Nat) : Nat :=
  (((List.range 10).map fun i => (w + i) % 2 ^ 32).find? fun n => n != 0 && (sessionSlot s n).isNone).getD 1

/-- A nonce of 16 bytes, freshly drawn. -/
def drawNonce (s : State) : List Byte × State :=
  (List.range 4).foldl (fun r _ => let d := r.2.drawWord; (r.1 ++ toLE 4 d.1.toNat, d.2)) ([], s)

def serveOpen (s : State) (q : JReq) (role : Nat) : State :=
  let bs := q.msg.data
  let want := fromLE (bs.take 1)
  match q.src with
  | .can _ _ => fwStatus s q role 0x0701
  | .eth ip _ sid _ _ =>
    if sid ≠ 0#32 then fwStatus s q role 0x0701
    else if bs.length ≠ 17 then fwStatus s q role 0x0401
    else if 4 < want then fwStatus s q role 0x0402
    else
      match if lockedOut s ip then none else roleKey s want with
      | none => fwStatus s q role 0x0801
      | some key =>
        match (List.range 8).find? fun k => (sessionAt s k).isNone with
        | none => fwStatus s q role 0x0501
        | some k =>
          let d := s.drawWord
          let r := drawNonce d.2
          let x : JSess := { sid := newSid s d.1.toNat, role := want, ip := ip, nc := bs.drop 1, ns := r.1, key := key,
                             openAt := s.now, last := s.now, idle := s.objNum 0x1020 2 }
          fwAnswer (setSession r.2 k (some x)) q role (toLE 4 x.sid ++ x.ns)

/-- A failed AUTH (R508). -/
def authFailed (s : State) (ip : Word) (role : Nat) : State :=
  let s := (s.count32 JRN_AUTHFAIL 1).record 0x0500 2 0 0 [ip.toNat, role]
  let fails := s.now :: ((s.jrn.fails.get [] ip.toNat).filter fun t => decide (s.now < t + 60000000000))
  s.modJrn fun j =>
    if 5 ≤ fails.length then { j with fails := j.fails.set [] ip.toNat [], locks := j.locks.set 0 ip.toNat (s.now + 60000000000) }
    else { j with fails := j.fails.set [] ip.toNat fails }

def serveAuth (s : State) (q : JReq) (role : Nat) : State :=
  match q.src with
  | .can _ _ => fwStatus s q role 0x0701
  | .eth ip _ sid _ _ =>
    match sessionSlot s sid.toNat with
    | none => fwStatus s q role 0x0701
    | some k =>
      match sessionAt s k with
      | none => fwStatus s q role 0x0701
      | some x =>
        let id := toLE 4 x.sid
        if x.authed then fwStatus s q role 0x0701
        else if q.msg.data.length ≠ 32 then fwStatus s q role 0x0401
        else if q.msg.data = hmac x.key (strBytes "JRNA" ++ id ++ x.nc ++ x.ns) then
          fwAnswer (setSession s k (some { x with authed := true, key := sessionKey x.key x, last := s.now })) q role
            (hmac x.key (strBytes "JRNB" ++ id ++ x.ns ++ x.nc))
        else fwStatus (authFailed (setSession s k none) ip x.role) q role 0x0801

/-- CLOSE: the session ends with its answer. -/
def serveClose (s : State) (q : JReq) (role : Nat) : State :=
  match sessionOf s q.src with
  | none => fwStatus s q role 0x0701
  | some _ => fwStatus s q role 0

/-! ### Slices that end (R401, R403) -/

/-- The edit records that wait are validated in turn, and answered (R145 to R147). -/
def judgeEdits (s : State) : State :=
  s.jrn.edits.foldl (fun s e =>
    let r := editAccept s e.bytes
    toFirmware r.1 e.req e.role (msgAnswer e.req.msg r.2 [])) (s.modJrn fun j => { j with edits := [] })

/-- What a slice of a duty has done at its end: the self-test sweep tests its items (R468, R470); edit records are validated
(R147); the scrub and the MRAM's reading go on (R406, R646). -/
def sliceDone (s : State) (d : Duty) : State :=
  match d with
  | .scrub => scrubOn s 0
  | .selfTest => [7, 8, 9].foldl selfTest s
  | .editCheck => judgeEdits s
  | .wear => wearOn s
  | _ => s

/-- SLICE_END: the slice ends and its metered energy is debited (R403). A run of an idle audit ends first. -/
def execSliceEnd (meteredUj : Nat) (s : State) : Host.Outcome State Fault Refusal :=
  match s.nrg.slice with
  | none => .next s
  | some x =>
    if !feltRuns s || (dutyClass x.duty == 2 && x.duty != .scrub && auditRunning s) then .next s
    else
      let s := s.modNrg fun n => { n with slice := none, bal := balClamp s (n.bal - meteredUj) }
      .next (overCheck (sliceDone s x.duty))

/-! ### Routing (R512) -/

/-- A request for a station goes out as a dictionary transfer. -/
def route (s : State) (q : JReq) (role : Nat) : State :=
  let m := q.msg
  let svc := m.service.toNat
  let r := m.target.toNat / 256
  let key := m.target.toNat % 1024
  if svc = 0 ∨ svcReadtime < svc then fwStatus s q role 0x0701
  else if (svc = svcWrite ∨ svc = svcGwrite) ∧ role < 2 then fwStatus s q role 0x0301
  else if s.objNum 0x1020 9 = 0 ∨ !(configuredStations s).contains key ∨ !ringEn s r ∨ !s.acts then fwStatus s q role 0x0701
  else
    let out := { m with target := 0xFFFF#16, flags := m.flags ||| BitVec.ofNat 8 (role * 16) }
    (queueTx s { typ := .dxf, ring := r, stn := key % 256, data := msgBytes out, req := some q }).raise 41

/-! ### Receiving (R484, R513 to R515) -/

/-- The limits of R513 leave no room for a request. -/
def noRoom (s : State) (src : JSrc) : Bool :=
  let open_ := openRequests s
  decide (64 ≤ open_.length) || decide (8 ≤ (open_.filter fun x => sameSource x.src src).length)

/-- An accepted request is served. A resident loader knows 0x1000 and 0x1040 alone (R713). -/
def serve (s : State) (q : JReq) (role : Nat) : State :=
  let m := q.msg
  let svc := m.service.toNat
  let known := m.index == 0x1000#16 || m.index == 0x1040#16
  if s.boot.stage ≠ .firmware && !(svc == svcOpen || svc == svcAuth || svc == svcClose || (m.target == 0xFFFF#16 && known)) then
    fwStatus s q role 0x0701
  else if m.target ≠ 0xFFFF#16 then route s q role
  else if svc = svcRead then serveRead s q role
  else if svc = svcWrite then serveWrite s q role
  else if svc = svcGwrite then serveGwrite s q role
  else if svc = svcDescribe then serveDescribe s q role
  else if svc = svcReadtime then serveReadtime s q role
  else if svc = svcOpen then serveOpen s q role
  else if svc = svcAuth then serveAuth s q role
  else if svc = svcClose then serveClose s q role
  else fwStatus s q role 0x0701

/-- What is left of a time, in whole ms rounded up. -/
def msLeft (s : State) (t : Nat) : Nat := ceilDiv (t - s.now) 1000000

/-- A request in phase 3. -/
def admitReq (s : State) (q : JReq) : State :=
  match gate s q with
  | .drop => discard s q
  | .again none => s
  | .again (some m) => sendTo s q.src m
  | .status st => answerStatus s q st
  | .go role slot =>
    if noRoom s q.src then answerRetry (s.count32 JRN_BUSYCNT 1) q 0x0101 5
    else serve (acceptSeq s slot q.src) q role

/-- A Jurno message arrives. -/
def jurnoReceive (s : State) (q : JReq) : State :=
  if halted s || s.jrn.phase == 0 then s
  else
    let s := if isEth q.src then s.modJrn fun j => { j with rxFrames := j.rxFrames + 1 } else s
    if !s.flag JRN_CTRL_EN then (if isEth q.src then s.modJrn fun j => { j with badFrames := j.badFrames + 1 } else s)
    else if msgBad q then discard s q
    else if s.jrn.phase = 1 then answerRetry s q 0x0102 (msLeft s (s.jrn.phaseAt + 3500000))
    else if s.jrn.phase = 2 then answerRetry s q 0x0101 (msLeft s (s.jrn.phaseAt + 40000000))
    else if !isEth q.src && s.boot.stage != .firmware then s
    else admitReq s q

/-! ### Commands: services -/

/-- A command that carries a request of one service. -/
def ofService (s : State) (q : JReq) (svc : Nat) : Host.Outcome State Fault Refusal :=
  if q.msg.service.toNat = svc then .next (jurnoReceive s q) else .next s

/-- READ (R484). -/
def execRead (q : JReq) (s : State) : Host.Outcome State Fault Refusal := ofService s q svcRead
/-- WRITE (R484). -/
def execWrite (q : JReq) (s : State) : Host.Outcome State Fault Refusal := ofService s q svcWrite
/-- GWRITE (R493). -/
def execGwrite (q : JReq) (s : State) : Host.Outcome State Fault Refusal := ofService s q svcGwrite
/-- DESCRIBE (R503). -/
def execDescribe (q : JReq) (s : State) : Host.Outcome State Fault Refusal := ofService s q svcDescribe
/-- READTIME (R650). -/
def execReadtime (q : JReq) (s : State) : Host.Outcome State Fault Refusal := ofService s q svcReadtime
/-- OPEN (R506). -/
def execOpen (q : JReq) (s : State) : Host.Outcome State Fault Refusal := ofService s q svcOpen
/-- AUTH (R506). -/
def execAuth (q : JReq) (s : State) : Host.Outcome State Fault Refusal := ofService s q svcAuth
/-- CLOSE (R508). -/
def execClose (q : JReq) (s : State) : Host.Outcome State Fault Refusal := ofService s q svcClose

/-! ### Commands: writes and reads of objects -/

/-- The request is of a service and names an object. -/
def names (q : JReq) (svc index sub : Nat) : Bool :=
  q.msg.service.toNat == svc && q.msg.index.toNat == index && q.msg.sub.toNat == sub

/-- The request is of a service and names a subindex of one of `n` objects. -/
def namesOf (q : JReq) (svc index n sub : Nat) : Bool :=
  q.msg.service.toNat == svc && decide (index ≤ q.msg.index.toNat) && decide (q.msg.index.toNat < index + n) && q.msg.sub.toNat == sub

/-- A command that is a request for one object; a request that is none of its kind changes nothing. -/
def objectCommand (s : State) (q : JReq) (ok : Bool) : Host.Outcome State Fault Refusal :=
  if ok then .next (jurnoReceive s q) else .next s

/-- A write of one byte to an object. -/
def writes (q : JReq) (index sub v : Nat) : Bool := names q svcWrite index sub && q.msg.data == toLE 1 v

/-- PROGRAM_WARM_START (R108). -/
def execProgramWarmStart (q : JReq) (s : State) : Host.Outcome State Fault Refusal := objectCommand s q (writes q 0x4021 2 1)
/-- PROGRAM_COLD_START (R108). -/
def execProgramColdStart (q : JReq) (s : State) : Host.Outcome State Fault Refusal := objectCommand s q (writes q 0x4021 2 2)
/-- PROGRAM_STOP_COMMAND (R108). -/
def execProgramStopCommand (q : JReq) (s : State) : Host.Outcome State Fault Refusal := objectCommand s q (writes q 0x4021 2 3)
/-- FORCE_RECORD (R68). -/
def execForceRecord (q : JReq) (s : State) : Host.Outcome State Fault Refusal := objectCommand s q (names q svcWrite 0x4022 5)
/-- REMOVE_ALL_FORCES (R109). -/
def execRemoveAllForces (q : JReq) (s : State) : Host.Outcome State Fault Refusal := objectCommand s q (writes q 0x4022 3 1)
/-- CLEAR_EQUIVALENCE_FAULT (R144). -/
def execClearEquivalenceFault (q : JReq) (s : State) : Host.Outcome State Fault Refusal :=
  objectCommand s q (names q svcWrite 0x4100 7)
/-- REQUEST_AUDIT (R187). -/
def execRequestAudit (q : JReq) (s : State) : Host.Outcome State Fault Refusal := objectCommand s q (names q svcWrite 0x4100 8)
/-- EDIT_RECORD (R147). -/
def execEditRecord (q : JReq) (s : State) : Host.Outcome State Fault Refusal := objectCommand s q (names q svcWrite 0x4101 1)
/-- STAGING_RECORD (R149). -/
def execStagingRecord (q : JReq) (s : State) : Host.Outcome State Fault Refusal := objectCommand s q (names q svcWrite 0x4102 1)
/-- STAGING_COMMIT (R189). -/
def execStagingCommit (q : JReq) (s : State) : Host.Outcome State Fault Refusal := objectCommand s q (writes q 0x4102 2 1)
/-- STAGING_ABORT (R189). -/
def execStagingAbort (q : JReq) (s : State) : Host.Outcome State Fault Refusal := objectCommand s q (writes q 0x4102 2 2)

/-- LOOP_RECORD_WRITE (R368): through LPE_RWORDw of the loop that LPE_RSEL selects, or by a request for the loop's object. -/
def execLoopRecordWrite (w : LoopWriter) (loop : Fin 4096) (sub : Fin 32) (value : Word) (s : State) :
    Host.Outcome State Fault Refusal :=
  match w with
  | .core c =>
    if s.fld LPE_RSEL_LOOP = loop.val then .next (coreStore s c.val (LPE_RWORD sub.val) value) else .next s
  | .jurno q =>
    objectCommand s q (names q svcWrite (0x6000 + loop.val) (sub.val + 1) && q.msg.data == toLE 4 value.toNat)

/-- TRACE_ARM (R392). -/
def execTraceArm (q : JReq) (s : State) : Host.Outcome State Fault Refusal :=
  objectCommand s q (namesOf q svcWrite 0x7010 8 0x0D && q.msg.data == toLE 1 1)
/-- TRACE_STOP (R392). -/
def execTraceStop (q : JReq) (s : State) : Host.Outcome State Fault Refusal :=
  objectCommand s q (namesOf q svcWrite 0x7010 8 0x0D && q.msg.data == toLE 1 2)
/-- TRACE_FORCE (R392). -/
def execTraceForce (q : JReq) (s : State) : Host.Outcome State Fault Refusal :=
  objectCommand s q (namesOf q svcWrite 0x7010 8 0x0D && q.msg.data == toLE 1 3)
/-- TRACE_READ_DATA (R392). -/
def execTraceReadData (q : JReq) (s : State) : Host.Outcome State Fault Refusal :=
  objectCommand s q (namesOf q svcRead 0x7010 8 0x12)
/-- PEAK_TEMPERATURE_RESET (R428). -/
def execPeakTemperatureReset (q : JReq) (s : State) : Host.Outcome State Fault Refusal :=
  objectCommand s q (names q svcWrite 0x1400 0x0E)
/-- PLANNED_SWITCHOVER (R466). -/
def execPlannedSwitchover (q : JReq) (s : State) : Host.Outcome State Fault Refusal := objectCommand s q (writes q 0x1800 7 1)
/-- RESYNCHRONISE (R436). -/
def execResynchronise (q : JReq) (s : State) : Host.Outcome State Fault Refusal := objectCommand s q (writes q 0x1800 7 2)
/-- DECLARE_FAILED (R452). -/
def execDeclareFailed (q : JReq) (s : State) : Host.Outcome State Fault Refusal := objectCommand s q (writes q 0x1800 7 3)
/-- UNLOCK (R511). -/
def execUnlock (q : JReq) (s : State) : Host.Outcome State Fault Refusal := objectCommand s q (names q svcWrite 0x1031 1)
/-- CALIBRATION_CLEAR (R499). -/
def execCalibrationClear (q : JReq) (s : State) : Host.Outcome State Fault Refusal := objectCommand s q (writes q 0x3FFF 1 1)
/-- FIELD_RELEASE (R574). -/
def execFieldRelease (q : JReq) (s : State) : Host.Outcome State Fault Refusal := objectCommand s q (writes q 0x7100 3 1)
/-- ZERO_TRIM (R555). -/
def execZeroTrim (q : JReq) (s : State) : Host.Outcome State Fault Refusal := objectCommand s q (namesOf q svcWrite 0x7140 8 0x0E)
/-- SPAN_TRIM (R555). -/
def execSpanTrim (q : JReq) (s : State) : Host.Outcome State Fault Refusal := objectCommand s q (namesOf q svcWrite 0x7140 8 0x0F)
/-- TRIM_BUTTONS_ENABLE (R578). -/
def execTrimButtonsEnable (q : JReq) (s : State) : Host.Outcome State Fault Refusal := objectCommand s q (names q svcWrite 0x7150 4)
/-- RECOVER_FROM_BUS_OFF (R597). -/
def execRecoverFromBusOff (q : JReq) (s : State) : Host.Outcome State Fault Refusal :=
  objectCommand s q (namesOf q svcWrite 0x7200 2 0x0A && q.msg.data == toLE 1 1)
/-- SAFETY_RESET (R600). -/
def execSafetyReset (q : JReq) (s : State) : Host.Outcome State Fault Refusal := objectCommand s q (writes q 0x7300 7 1)
/-- CONFIRM_CHECK_VALUE (R618). -/
def execConfirmCheckValue (q : JReq) (s : State) : Host.Outcome State Fault Refusal := objectCommand s q (names q svcWrite 0x7300 4)
/-- SAFETY_PROGRAM_WRITE (R605). -/
def execSafetyProgramWrite (q : JReq) (s : State) : Host.Outcome State Fault Refusal := objectCommand s q (names q svcWrite 0x7300 2)
/-- AXIS_RESET (R616). -/
def execAxisReset (q : JReq) (s : State) : Host.Outcome State Fault Refusal :=
  objectCommand s q (namesOf q svcWrite 0x7310 8 0x0F && q.msg.data == toLE 1 1)
/-- BLOCK_PROTECTION (R636). -/
def execBlockProtection (q : JReq) (s : State) : Host.Outcome State Fault Refusal := objectCommand s q (names q svcWrite 0x1F00 1)
/-- RTC_SET_TIME (R651). -/
def execRtcSetTime (q : JReq) (s : State) : Host.Outcome State Fault Refusal := objectCommand s q (names q svcWrite 0x1E00 1)
/-- BACKUP_MEMORY_WRITE (R663). -/
def execBackupMemoryWrite (q : JReq) (s : State) : Host.Outcome State Fault Refusal := objectCommand s q (names q svcWrite 0x1E01 1)
/-- BACKUP_MEMORY_CLEAR (R663). -/
def execBackupMemoryClear (q : JReq) (s : State) : Host.Outcome State Fault Refusal := objectCommand s q (writes q 0x1E01 2 1)
/-- FREEZE_NOW (R707). -/
def execFreezeNow (q : JReq) (s : State) : Host.Outcome State Fault Refusal := objectCommand s q (writes q 0x1C10 2 1)
/-- LOG_CLEAR (R692). -/
def execLogClear (q : JReq) (s : State) : Host.Outcome State Fault Refusal := objectCommand s q (names q svcWrite 0x1C20 0x0B)
/-- NEXT_RECORD (R690). -/
def execNextRecord (q : JReq) (s : State) : Host.Outcome State Fault Refusal := objectCommand s q (names q svcRead 0x1C21 2)
/-- UPDATE_BEGIN (R725). -/
def execUpdateBegin (q : JReq) (s : State) : Host.Outcome State Fault Refusal := objectCommand s q (writes q 0x1040 1 1)
/-- UPDATE_ACTIVATE (R725). -/
def execUpdateActivate (q : JReq) (s : State) : Host.Outcome State Fault Refusal := objectCommand s q (writes q 0x1040 1 2)
/-- UPDATE_ABORT (R725). -/
def execUpdateAbort (q : JReq) (s : State) : Host.Outcome State Fault Refusal := objectCommand s q (writes q 0x1040 1 3)
/-- UPDATE_BLOCK (R726). -/
def execUpdateBlock (q : JReq) (s : State) : Host.Outcome State Fault Refusal := objectCommand s q (names q svcWrite 0x1040 3)

/-! ### Commands: the management port -/

/-- The management port receives frames (R515). -/
def portUp (s : State) : Bool := !halted s && s.jrn.phase != 0

/-- ARP_REQUEST: answered when it asks for the module's address (R505). -/
def execArpRequest (mac : BitVec 48) (ip targetIp : Word) (s : State) : Host.Outcome State Fault Refusal :=
  if !portUp s then .next s
  else
    let s := s.modJrn fun j => { j with rxFrames := j.rxFrames + 1 }
    if targetIp = s.jrn.ip then .next (s.send (.arp mac ip)) else .next s

/-- ICMP_ECHO (R505). -/
def execIcmpEcho (srcIp dstIp : Word) (data : List Byte) (s : State) : Host.Outcome State Fault Refusal :=
  if !portUp s then .next s
  else
    let s := s.modJrn fun j => { j with rxFrames := j.rxFrames + 1 }
    if dstIp = s.jrn.ip then .next (s.send (.icmp srcIp data)) else .next s

/-! ### Commands: times that run out -/

/-- PART_ASSEMBLY_TIMEOUT: an assembly with no part for 1 s is abandoned (R502). -/
def execPartAssemblyTimeout (index : BitVec 16) (sub : Byte) (s : State) : Host.Outcome State Fault Refusal :=
  let key := objKey index.toNat sub.toNat
  match s.jrn.parts.get none key with
  | none => .next s
  | some p => if halted s then .next s else .next (setPart (s.at (p.at_ + 1000000000)) key none)

/-- SESSION_AUTH_TIMEOUT: a session not authenticated within 5 s of OPEN is dropped (R506). -/
def execSessionAuthTimeout (slot : Fin 8) (s : State) : Host.Outcome State Fault Refusal :=
  match sessionAt s slot.val with
  | none => .next s
  | some x => if x.authed || halted s then .next s else .next (setSession (s.at (x.openAt + 5000000000)) slot.val none)

/-- SESSION_INACTIVITY: a session ends after its inactivity time (R508). -/
def execSessionInactivity (slot : Fin 8) (s : State) : Host.Outcome State Fault Refusal :=
  match sessionAt s slot.val with
  | none => .next s
  | some x =>
    if !x.authed || halted s then .next s else .next (setSession (s.at (x.last + x.idle * 1000000000)) slot.val none)

/-- ADDRESS_LOCKOUT_END (R508). -/
def execAddressLockoutEnd (ip : Word) (s : State) : Host.Outcome State Fault Refusal :=
  let t := s.jrn.locks.get 0 ip.toNat
  if t = 0 || halted s then .next s
  else .next ((s.at t).modJrn fun j => { j with locks := j.locks.set 0 ip.toNat 0 })

/-- UNLOCK_EXPIRY: an unlock whose duration has run out ends (R511). -/
def execUnlockExpiry (slot : Fin 8) (s : State) : Host.Outcome State Fault Refusal :=
  match s.jrn.unlocks.get none slot.val with
  | none => .next s
  | some u =>
    if halted s then .next s else .next ((s.at u.until_).modJrn fun j => { j with unlocks := j.unlocks.set none slot.val none })

end Sys2Proof.Machine
end

