-- ==== Sys2Proof/Machine/Can.lean ====
section
/-!
DEFINITION. Can.lean: frames that a CAN FD controller receives (R579, R585, R586), and Jurno's segments on their way in (R510).
-/
namespace Sys2Proof.Machine

/-! ### Jurno's segments (R510) -/

/-- Bytes of a whole message, by its header: a READ with PART carries the number of bytes wanted in LEN. -/
def messageLength (bs : List Byte) : Nat :=
  let m := msgOf bs
  if m.service.toNat = svcRead ∧ bit m.flags.toNat 1 then 16 else 16 + m.len.toNat

/-- A partial message is discarded, and counted (R510, R519). -/
def dropPart (s : State) (m node : Nat) : State :=
  let c := s.canst m
  let s := s.setCanst m { c with parts := c.parts.erase node }
  (s.count32 JRN_DISCARD 1).modJrn fun j => { j with reasmErr := holdAt 0xFFFFFFFF (j.reasmErr + 1) }

/-- A message is complete. Its last frame has the smallest length that holds its bytes: else LEN disagrees, and it is discarded
(R500). `before` bytes came in earlier frames, `bs` is all of it with the padding. -/
def takeMessage (s : State) (ctrl : Fin 2) (node : BitVec 7) (before : Nat) (bs : List Byte) : State :=
  let n := messageLength bs
  let c := s.canst ctrl.val
  let s := s.setCanst ctrl.val { c with parts := c.parts.erase node.toNat }
  if n ≤ before ∨ bs.length < n ∨ bs.length - before + 1 ≠ (canFit (n - before + 1)).2 then s.count32 JRN_DISCARD 1
  else jurnoReceive s { src := .can ctrl node, msg := msgOf (bs.take n) }

/-- The partial message of a node, with a gap of at most 100 ms behind it. -/
def livePart (s : State) (m node : Nat) : Option CanPart :=
  match (s.canst m).parts.find? fun e => e.1 == node with
  | some (_, p) => if s.now ≤ p.at_ + 100000000 then some p else none
  | none => none

/-- A segment from a node: byte 0 holds FIRST, LAST and the counter; every frame but the last has 64 bytes. -/
def takeSegment (s : State) (ctrl : Fin 2) (node : BitVec 7) (data : List Byte) : State :=
  let m := ctrl.val
  let k := node.toNat
  let had := (s.canst m).parts.any fun e => e.1 == k
  let live := livePart s m k
  let h := fromLE (data.take 1)
  let last := bit h 6
  let keep (p : CanPart) (s : State) : State :=
    let c := s.canst m
    s.setCanst m { c with parts := c.parts.set ⟨[], 0, 0⟩ k p }
  let whole := last || decide (data.length = 64)
  if bit h 7 then
    let s := if had then dropPart s m k else s
    if h % 64 ≠ 0 || !whole then dropPart s m k
    else if last then takeMessage s ctrl node 0 (data.drop 1)
    else keep { bytes := data.drop 1, next := 1, at_ := s.now } s
  else
    match live with
    | none => dropPart s m k
    | some p =>
      let bs := p.bytes ++ data.drop 1
      if h % 64 ≠ p.next || !whole then dropPart s m k
      else if last then takeMessage s ctrl node p.bytes.length bs
      else keep { bytes := bs, next := (p.next + 1) % 64, at_ := s.now } s

/-! ### Received frames (R585) -/

/-- A good frame lowers REC by 1; from above 127 the standard has it between 119 and 127: a free value (log 36). -/
def recDown (s : State) (m : Nat) : State :=
  let n := s.fld (CAN_STAT_REC m)
  if 127 < n then
    let d := s.drawWord
    d.2.setFld (CAN_STAT_REC m) (119 + d.1.toNat % 9)
  else s.setFld (CAN_STAT_REC m) (n - 1)

/-- CAN_FRAME_RECEIVED: a valid frame is acknowledged, and goes to Jurno, or through the filters to the FIFO. With FD frames
disabled an FD frame is a form error, its FDF bit taken as the reserved bit it then is (R579). -/
def execCanFrameReceived (ctrl : Fin 2) (frame : CanFrame) (s : State) : Host.Outcome State Fault Refusal :=
  let m := ctrl.val
  if canHalted s || !canOnline s m then .next s
  else if frame.fdf && !s.flag (CAN_CTRL_FDEN m) then
    .next (canConfine ((canError s m .form false).count (CAN_STAT_REC m) 255 1) m)
  else
    let f := storedFrame frame
    let s := canConfine (recDown s m) m
    if !forJurno s m f then .next (intoFifo s m f)
    else if wbit (f.id.setWidth 32) 14 || f.rtr || f.data.isEmpty then .next s
    else .next (takeSegment s ctrl (f.id.extractLsb' 0 7) f.data)

/-- CAN_SEGMENT_TIMEOUT: no segment for 100 ms after one of a message that is not complete (R510). -/
def execCanSegmentTimeout (ctrl : Fin 2) (node : BitVec 7) (s : State) : Host.Outcome State Fault Refusal :=
  let m := ctrl.val
  match (s.canst m).parts.find? fun e => e.1 == node.toNat with
  | none => .next s
  | some (_, p) => if canHalted s then .next s else .next (dropPart (s.at (p.at_ + 100000000)) m node.toNat)

end Sys2Proof.Machine
end

