-- ==== Sys2Proof/Machine/Control.lean ====
section
/-!
DEFINITION. Control.lean: control flow, special registers, events, TRAP (R193 to R203, R220 to R226, R231, R266, R267, R274, R275).
-/
namespace Sys2Proof.Machine

/-! ### Jumps (R218, R220, R266, R267) -/

/-- The address that a target operand names; bits [1:0] are taken as 0. -/
def Ctx.target (c : Ctx) (s : State) (i : Nat) : Nat :=
  let a := match c.loc i with
    | .reg r => gAt (s.unit c.u).g r
    | l => l.addr
  a / 4 * 4

/-- A jump is taken: within the running segment's code, or to where the unit may fetch. -/
def jump (c : Ctx) (s : State) (i a : Nat) : Res Done :=
  if mayFetch s c.u a then .ok { s := s, pc := a } else .error ⟨exAccess, i, a⟩

def braAct (c : Ctx) (s : State) : Res Done := jump c s 1 (c.target s 0)

/-- A jump on a register that is zero, or is not. -/
def bzAct (zero : Bool) (c : Ctx) (s : State) : Res Done :=
  if (c.val 0 == 0) == zero then jump c s 2 (c.target s 1) else c.ends s

def callAct (c : Ctx) (s : State) : Res Done :=
  match jump c s 1 (c.target s 0) with
  | .ok d => .ok { d with s := d.s.modUnit c.u fun x => x.setG 15 (toWord c.next) }
  | .error e => .error e

def retAct (c : Ctx) (s : State) : Res Done := jump c s 0 (gAt (s.unit c.u).g 15 / 4 * 4)

/-- END outside a run is a privilege violation (R238). -/
def endAct (c : Ctx) (s : State) : Res Done :=
  if (s.unit c.u).inRun then .ok { s := s, pc := c.next, after := fun t => runEnd t c.u }
  else .error ⟨exPrivilege, 0, c.pc⟩

/-- RTE restores CSTAT from EXSTAT and goes on at EXPC (R231); a core that has left its handler takes work again (R73). -/
def rteAct (c : Ctx) (s : State) : Res Done :=
  let x := s.unit c.u
  if privOf s c.u = 0 then .error ⟨exPrivilege, 0, c.pc⟩
  else
    let priv := if c.u = 4 then 2 else Nat.min 1 (wbits x.exstat 5 4)
    .ok { s := s.setUnit c.u { x with exl := wbit x.exstat 7, priv := priv }, pc := x.expc.toNat
          after := fun t => auditNext (fill t) }

/-- BRA: jump (R266, R267). -/
def execBra (u : UnitId) (s : State) : Host.Outcome State Fault Refusal := .next (insn s (UnitId.key u) .bra braAct)

/-- BZ: jump if a = 0 (R194, R266). -/
def execBz (u : UnitId) (s : State) : Host.Outcome State Fault Refusal := .next (insn s (UnitId.key u) .bz (bzAct true))

/-- BNZ: jump if a ≠ 0 (R194, R266). -/
def execBnz (u : UnitId) (s : State) : Host.Outcome State Fault Refusal := .next (insn s (UnitId.key u) .bnz (bzAct false))

/-- CALL: g15 := the address of the next instruction; jump (R193, R266). -/
def execCall (u : UnitId) (s : State) : Host.Outcome State Fault Refusal := .next (insn s (UnitId.key u) .call callAct)

/-- RET: jump to the address in g15 (R266). -/
def execRet (u : UnitId) (s : State) : Host.Outcome State Fault Refusal := .next (insn s (UnitId.key u) .ret retAct)

/-- END: the segment run ends (R220, R266). -/
def execEnd (u : UnitId) (s : State) : Host.Outcome State Fault Refusal := .next (insn s (UnitId.key u) .end_ endAct)

/-- RTE: return from exception (R231, R266). -/
def execRte (u : UnitId) (s : State) : Host.Outcome State Fault Refusal := .next (insn s (UnitId.key u) .rte rteAct)

/-- NOP: no operation (R266). -/
def execNop (u : UnitId) (s : State) : Host.Outcome State Fault Refusal := .next (insn s (UnitId.key u) .nop Ctx.ends)

/-! ### Special registers (R196 to R203, R275) -/

/-- A word written to special register n. -/
def UnitSt.setSpec (x : UnitSt) (n : Nat) (w : Word) : UnitSt :=
  let low (k : Nat) : Word := toWord (w.toNat / k * k)
  match n with
  | 0 => { x with exl := wbit w 7 }
  | 1 => { x with arith := w &&& 0x1F0F1F0F#32 }
  | 2 => { x with hndl := low 4 }
  | 3 => { x with expc := low 4 }
  | 4 => { x with exstat := (x.exstat &&& ~~~0x80#32) ||| (w &&& 0x80#32) }
  | 5 => { x with excause := w &&& 0xFFFF#32 }
  | 6 => { x with exaddr := w }
  | 7 => { x with vbase := low 512 }
  | 13 => { x with ttime := putBits x.ttime 31 0 w.toNat }
  | 14 => { x with ttime := putBits x.ttime 63 32 w.toNat }
  | 15 => { x with pw0b := low 8 }
  | 16 => { x with pw0l := low 8 }
  | 17 => { x with pw1b := low 8 }
  | 18 => { x with pw1l := low 8 }
  | _ => if 9 ≤ n ∧ n ≤ 12 then { x with evpend := x.evpend.filter fun e => !(e / 32 == n - 9 && wbit w (e % 32)) } else x

/-- The register that an MFS or MTS names. -/
def Ctx.spec (c : Ctx) : Nat := c.form.row.num % 32

def mfsAct (c : Ctx) (s : State) : Res Done :=
  if specMay c.spec (privOf s c.u) false then c.result s (specPeek s c.u c.spec, 0) else .error ⟨exPrivilege, 0, c.pc⟩

def mtsAct (c : Ctx) (s : State) : Res Done :=
  if specMay c.spec (privOf s c.u) true then c.ends (s.modUnit c.u fun x => x.setSpec c.spec (toWord (c.val 0)))
  else .error ⟨exPrivilege, 0, c.pc⟩

/-- MFS: d := a special register (R274, R275). -/
def execMfs (u : UnitId) (s : State) : Host.Outcome State Fault Refusal := .next (insn s (UnitId.key u) .mfs mfsAct)

/-- MTS: a special register := a (R274, R275). -/
def execMts (u : UnitId) (s : State) : Host.Outcome State Fault Refusal := .next (insn s (UnitId.key u) .mts mtsAct)

/-! ### Events (R222 to R226) -/

/-- WFE's condition is looked at: the event is taken, and its number goes to g0; else the core waits. -/
def wfeCheck (s : State) (u : Nat) (mask : Word) (bank : Nat) : State :=
  s.modUnit u fun x =>
    if mask = 0 then { x.setG 0 0xFFFFFFFF#32 with wait := .none }
    else
      match pendingMatch x mask bank with
      | some n => { x.setG 0 (toWord n) with wait := .none, evpend := x.evpend.del n }
      | none => { x with wait := .wfe mask bank }

/-- WTU's conditions are looked at: an event is pending, or the time is reached; else the core waits. That the register pair and the
timebase are compared as unsigned numbers is the model's choice (DESIGN CHOICE, log 97). -/
def wtuCheck (s : State) (u time : Nat) (mask : Word) (bank : Nat) : State :=
  s.modUnit u fun x =>
    if (pendingMatch x mask bank).isSome then { x.setG 0 0 with wait := .none }
    else if time ≤ s.now then { x.setG 0 1 with wait := .none }
    else { x with wait := .wtu time mask bank }

def wfeAct (c : Ctx) (s : State) : Res Done :=
  if 3 < c.val 1 then .error ⟨exIllegal, 0, c.pc⟩
  else .ok { s := s, pc := c.next, after := fun t => wfeCheck t c.u (toWord (c.val 0)) (c.val 1) }

def wtuAct (c : Ctx) (s : State) : Res Done :=
  if 3 < c.val 2 then .error ⟨exIllegal, 0, c.pc⟩
  else .ok { s := s, pc := c.next, after := fun t => wtuCheck t c.u (c.val 0) (toWord (c.val 1)) (c.val 2) }

/-- SEV: a software event to the destinations named, or through its route. What a cluster gains by it shows in time only. -/
def sevAct (c : Ctx) (s : State) : Res Done :=
  let n := c.val 0
  let d := c.val 1
  if n < 96 ∨ 127 < n ∨ 0x4000 ≤ d then .error ⟨exIllegal, 0, c.pc⟩
  else c.ends (if d = 0 then s.raise n else s.latch n d)

/-- WFE: wait for an event (R223). -/
def execWfe (u : UnitId) (s : State) : Host.Outcome State Fault Refusal := .next (insn s (UnitId.key u) .wfe wfeAct)

/-- WTU: wait until a time, or an event (R224). -/
def execWtu (u : UnitId) (s : State) : Host.Outcome State Fault Refusal := .next (insn s (UnitId.key u) .wtu wtuAct)

/-- SEV: a software event is raised (R226). -/
def execSev (u : UnitId) (s : State) : Host.Outcome State Fault Refusal := .next (insn s (UnitId.key u) .sev sevAct)

/-- WFE_WAKE: an event of the mask has been delivered to a core that waits in WFE (R222, R223). -/
def execWfeWake (core : CoreId) (s : State) : Host.Outcome State Fault Refusal :=
  match (s.unit core.val).wait with
  | .wfe mask bank => if halted s then .next s else .next (wfeCheck s core.val mask bank)
  | _ => .next s

/-- WTU_WAKE: an event of the mask has been delivered to a core that waits in WTU, or its time is reached (R222, R224). -/
def execWtuWake (core : CoreId) (s : State) : Host.Outcome State Fault Refusal :=
  let u := core.val
  match (s.unit u).wait with
  | .wtu time mask bank =>
    if halted s then .next s
    else if (pendingMatch (s.unit u) mask bank).isSome then .next (wtuCheck s u time mask bank)
    else .next (wtuCheck (s.at time) u time mask bank)
  | _ => .next s

/-! ### TRAP (R229, R274) -/

def trapAct (c : Ctx) (s : State) : Res Done :=
  .ok { s := s, pc := c.next, after := fun t => raiseExc t c.u exTrap (c.form.row.num % 256) c.pc c.next }

/-- TRAP n: cause 0x08 with INFO n (R229, R274). -/
def execTrap (u : UnitId) (s : State) : Host.Outcome State Fault Refusal := .next (insn s (UnitId.key u) .trap trapAct)

end Sys2Proof.Machine
end

