-- ==== Sys2Proof/Machine/Items.lean ====
section
/-!
DEFINITION. Items.lean: CONTROL records as the partner of the active module takes them (R451, R443, R464, R466).
-/
namespace Sys2Proof.Machine

/-- The module keeps step with the active one. -/
def follows (s : State) : Bool := s.role == roleSyncing || s.role == roleReady

/-- A force of the active module: at the release that it waits for there, at once while the plant's program is STOPPED. -/
def itemForceIn (s : State) (bs : List Byte) : State := if plantRuns s then forceQueue s bs else forceAccept s bs

/-- A staging record; the commit (1) or abort (2) of the set, one byte; a withdrawn record, its segment in two (log 14). -/
def itemStagingIn (s : State) (bs : List Byte) : State :=
  if bs.length = 1 then (stgCommand s (fromLE bs == 1)).1
  else if bs.length = 2 then stageWithdraw s (fromLE bs)
  else (stageRecord s bs).1

/-- An equivalence fault of a task, or its clearing (R143, R144). -/
def itemFaultIn (s : State) (bs : List Byte) : State :=
  let n (i k : Nat) : Nat := fromLE (slice bs i k)
  let k := n 0 1
  if 24 ≤ k then s
  else if n 1 1 = 1 then
    s.modAud k fun a => { a with fault := true, eqCount := holdAt 255 (n 8 4), eqSeg := n 2 2, eqAddr := n 4 4 }
  else clearEquiv s k

/-- A program stop of the active module: cause 0x08, with its task (R464). A SYNCING partner, which runs no program, notes it; so is
a refused start noted, with its own cause 0x06. -/
def itemStopIn (s : State) (cause k : Nat) : State :=
  if s.running then programStop s 8 k
  else if s.stopped then
    finishStop (s.modTsk fun t => { t with
      prog := .stopping, cause := if cause = 6 then 6 else 8, stopTask := k, stopTime := s.now })
  else s

/-- A handover: T_h of the planned switchover. -/
def itemHandoverIn (s : State) (th : Nat) : State :=
  if s.role = roleReady then s.modHsb fun h => { h with switch := some { th := th, since := s.now, acked := true } } else s

/-- CONTROL_RECORD: an item of the active module takes effect at the release that it names, or at once (R451). -/
def execControlRecord (rec : HsbRec) (s : State) : Host.Outcome State Fault Refusal :=
  if !pairUp s || s.boot.stage ≠ .firmware then .next s
  else
    let s := takeRecord s rec
    let kind := fromLE (rec.body.take 1)
    let bs := rec.body.drop 1
    if s.acts then .next s
    else if kind = itemConfig then .next (objLoad s true (fromLE (slice bs 0 2)) (fromLE (slice bs 2 1)) (bs.drop 3))
    else if !follows s then .next s
    else if kind = itemForce then .next (itemForceIn s bs)
    else if kind = itemEdit then .next (s.modGz fun g => { g with edits := g.edits ++ [⟨rec.task.toNat, editItems bs⟩] })
    else if kind = itemStaging then .next (itemStagingIn s bs)
    else if kind = itemFault then .next (itemFaultIn s bs)
    else if kind = itemStop then .next (itemStopIn s (fromLE (bs.take 1)) (fromLE (slice bs 1 1)))
    else if kind = itemHandover then .next (itemHandoverIn s (fromLE (slice bs 0 8)))
    else .next s

end Sys2Proof.Machine
end

