-- ==== Sys2Proof/Machine/Logic.lean ====
section
/-!
DEFINITION. Logic.lean: word logic, shifts, comparisons, bit logic, edge detection (R245 to R248, R254 to R256).
-/
namespace Sys2Proof.Machine

/-! ### Word logic and shifts (R245, R246) -/

/-- AND: bitwise AND (R245). -/
def execAnd (u : UnitId) (s : State) : Host.Outcome State Fault Refusal :=
  .next (insn s (UnitId.key u) .and (binaryAct (fun _ a b => (a &&& b, 0))))

/-- OR: bitwise OR (R245). -/
def execOr (u : UnitId) (s : State) : Host.Outcome State Fault Refusal :=
  .next (insn s (UnitId.key u) .or (binaryAct (fun _ a b => (a ||| b, 0))))

/-- XOR: bitwise exclusive OR (R245). -/
def execXor (u : UnitId) (s : State) : Host.Outcome State Fault Refusal :=
  .next (insn s (UnitId.key u) .xor (binaryAct (fun _ a b => (a ^^^ b, 0))))

/-- NOT: bitwise complement (R245). -/
def execNot (u : UnitId) (s : State) : Host.Outcome State Fault Refusal :=
  .next (insn s (UnitId.key u) .not (unaryAct (fun z a => (bitNot z.width a, 0))))

/-- SHL: shift left, filling with 0 (R245, R246). -/
def execShl (u : UnitId) (s : State) : Host.Outcome State Fault Refusal :=
  .next (insn s (UnitId.key u) .shl (binaryAct (fun z a n => (shiftLeft z.width a n, 0))))

/-- SHR: logical shift right (R245, R246). -/
def execShr (u : UnitId) (s : State) : Host.Outcome State Fault Refusal :=
  .next (insn s (UnitId.key u) .shr (binaryAct (fun z a n => (shiftRight z.width a n, 0))))

/-- SAR: arithmetic shift right (R245, R246). -/
def execSar (u : UnitId) (s : State) : Host.Outcome State Fault Refusal :=
  .next (insn s (UnitId.key u) .sar (binaryAct (fun z a n => (shiftArith z.width a n, 0))))

/-- ROL: rotate left (R245, R246). -/
def execRol (u : UnitId) (s : State) : Host.Outcome State Fault Refusal :=
  .next (insn s (UnitId.key u) .rol (binaryAct (fun z a n => (rotLeft z.width a n, 0))))

/-- ROR: rotate right (R245, R246). -/
def execRor (u : UnitId) (s : State) : Host.Outcome State Fault Refusal :=
  .next (insn s (UnitId.key u) .ror (binaryAct (fun z a n => (rotRight z.width a n, 0))))

/-! ### Comparisons (R247, R248) -/

/-- A condition between the second and the third operand. -/
def compareAct (f : Sz → Nat → Nat → Bool × Nat) (c : Ctx) (s : State) : Res Done :=
  let r := f c.form.sz (c.val 1) (c.val 2)
  c.result s (b2n r.1, r.2)

/-- CEQ: b = c (R247, R248). -/
def execCeq (u : UnitId) (s : State) : Host.Outcome State Fault Refusal :=
  .next (insn s (UnitId.key u) .ceq (compareAct cmpEq))

/-- CNE: b ≠ c (R247, R248). -/
def execCne (u : UnitId) (s : State) : Host.Outcome State Fault Refusal :=
  .next (insn s (UnitId.key u) .cne (compareAct (fun z a b => (!(cmpEq z a b).1, (cmpEq z a b).2))))

/-- CLT: b < c, integers signed (R247, R248). -/
def execClt (u : UnitId) (s : State) : Host.Outcome State Fault Refusal :=
  .next (insn s (UnitId.key u) .clt (compareAct cmpLt))

/-- CLE: b ≤ c, integers signed (R247, R248). -/
def execCle (u : UnitId) (s : State) : Host.Outcome State Fault Refusal :=
  .next (insn s (UnitId.key u) .cle (compareAct cmpLe))

/-- CLTU: b < c, unsigned (R247, R248). -/
def execCltu (u : UnitId) (s : State) : Host.Outcome State Fault Refusal :=
  .next (insn s (UnitId.key u) .cltu (compareAct (fun _ a b => (decide (a < b), 0))))

/-- CLEU: b ≤ c, unsigned (R247, R248). -/
def execCleu (u : UnitId) (s : State) : Host.Outcome State Fault Refusal :=
  .next (insn s (UnitId.key u) .cleu (compareAct (fun _ a b => (decide (a ≤ b), 0))))

/-! ### Bit logic (R254) -/

/-- BAND: AND (R254). -/
def execBand (u : UnitId) (s : State) : Host.Outcome State Fault Refusal :=
  .next (insn s (UnitId.key u) .band (binaryAct (fun _ a b => (a * b, 0))))

/-- BOR: OR (R254). -/
def execBor (u : UnitId) (s : State) : Host.Outcome State Fault Refusal :=
  .next (insn s (UnitId.key u) .bor (binaryAct (fun _ a b => (a ||| b, 0))))

/-- BXOR: exclusive OR (R254). -/
def execBxor (u : UnitId) (s : State) : Host.Outcome State Fault Refusal :=
  .next (insn s (UnitId.key u) .bxor (binaryAct (fun _ a b => (a ^^^ b, 0))))

/-- BANDN: first source AND NOT second (R254). -/
def execBandn (u : UnitId) (s : State) : Host.Outcome State Fault Refusal :=
  .next (insn s (UnitId.key u) .bandn (binaryAct (fun _ a b => (a * (1 - b), 0))))

/-- BORN: first source OR NOT second (R254). -/
def execBorn (u : UnitId) (s : State) : Host.Outcome State Fault Refusal :=
  .next (insn s (UnitId.key u) .born (binaryAct (fun _ a b => (a ||| (1 - b), 0))))

/-- BNOT: NOT (R254). -/
def execBnot (u : UnitId) (s : State) : Host.Outcome State Fault Refusal :=
  .next (insn s (UnitId.key u) .bnot (unaryAct (fun _ a => (1 - a, 0))))

/-! ### Edge detection (R255, R256) -/

/-- An edge: the memory is written before d; a 1 written to d is noted for the settle bit. -/
def edgeAct (rising : Bool) (c : Ctx) (s : State) : Res Done :=
  let b := c.val 1
  let d := if rising then b * (1 - c.val 2) else (1 - b) * c.val 2
  match c.write s 2 b with
  | .error e => .error e
  | .ok s =>
    let s := if d = 1 then s.modUnit c.u fun x => { x with run := x.run.map fun r => { r with edge := true } } else s
    c.result s (d, 0)

/-- REDGE: d := b AND NOT m; then m := b (R255, R256). -/
def execRedge (u : UnitId) (s : State) : Host.Outcome State Fault Refusal :=
  .next (insn s (UnitId.key u) .redge (edgeAct true))

/-- FEDGE: d := NOT b AND m; then m := b (R255, R256). -/
def execFedge (u : UnitId) (s : State) : Host.Outcome State Fault Refusal :=
  .next (insn s (UnitId.key u) .fedge (edgeAct false))

end Sys2Proof.Machine
end

