-- ==== Sys2Proof/Machine/Timers.lean ====
section
/-!
DEFINITION. Timers.lean: timers and counters (R257 to R265).
-/
namespace Sys2Proof.Machine

/-! ### Instance records (R236, R257, R263) -/

/-- The address of the record in operand i. -/
def Ctx.record (c : Ctx) (i : Nat) : Nat := (c.loc i).addr

/-- Word w of a record as the unit reads it. -/
def instWord (s : State) (u a w : Nat) : Nat := fromLE (unitBytes s u (a + 4 * w) 4)

/-- Words 1 to 3 of a record are written. -/
def instWrite (s : State) (u i a : Nat) (w1 w2 w3 : Nat) : Res State :=
  putBytes s u i (a + 4) (toLE 4 w1 ++ toLE 4 w2 ++ toLE 4 w3)

/-! ### Timers (R257 to R261) -/

/-- A timer as its record holds it. -/
structure Timer where
  q      : Bool
  inprev : Bool
  run    : Bool
  done   : Bool
  start  : Nat
deriving DecidableEq, Repr

def timerAt (s : State) (u a : Nat) : Timer :=
  let w := instWord s u a 1
  { q := bit w 0, inprev := bit w 1, run := bit w 2, done := bit w 3,
    start := instWord s u a 2 + instWord s u a 3 * 2 ^ 32 }

/-- The preset of a record, in ns; and whether it counts ms. -/
def preset (w : Nat) : Nat × Bool :=
  let ms := bit w 31
  (bits w 30 0 * (if ms then 1000000 else 1000), ms)

/-- The end of the interval: Q takes `q` (R259). -/
def Timer.expire (t : Timer) (now pt : Nat) (q : Bool) : Timer :=
  if t.run ∧ pt ≤ now - t.start then { t with q := q, run := false, done := true } else t

def Timer.ton (t : Timer) (input : Bool) (now pt : Nat) : Timer :=
  let t := if !input then { t with q := false, run := false, done := false }
    else if !t.q && !t.run then { t with run := true, start := now } else t
  t.expire now pt true

def Timer.tof (t : Timer) (input : Bool) (now pt : Nat) : Timer :=
  let t := if input then { t with q := true, run := false, done := false }
    else if t.q && !t.run then { t with run := true, start := now } else t
  t.expire now pt false

def Timer.tp (t : Timer) (input : Bool) (now pt : Nat) : Timer :=
  let t := if input && !t.inprev && !t.run && decide (0 < pt) then
      { t with q := true, run := true, done := false, start := now } else t
  let t := t.expire now pt false
  if !input && !t.run then { t with done := false } else t

/-- A candidate for the segment's wheel entry (R261). -/
def offerWheel (s : State) (u at_ : Nat) : State :=
  s.modUnit u fun x => { x with run := x.run.map fun r => { r with
    wheel := some (match r.wheel with | some w => Nat.min w at_ | none => at_) } }

/-- A timer instruction: its record is written before d (R259, R260). START + pt is taken modulo 2⁶⁴. -/
def timerAct (f : Timer → Bool → Nat → Nat → Timer) (c : Ctx) (s : State) : Res Done :=
  let a := c.record 2
  let input := c.val 1 == 1
  let pt := (preset (instWord s c.u a 0)).1
  let t := { f (timerAt s c.u a) input (s.unit c.u).ttime pt with inprev := input }
  let w1 := b2n t.q + 2 * b2n t.inprev + 4 * b2n t.run + 8 * b2n t.done
  match instWrite s c.u 3 a w1 (t.start % 2 ^ 32) (t.start / 2 ^ 32) with
  | .error e => .error e
  | .ok s => c.result (if t.run then offerWheel s c.u ((t.start + pt) % 2 ^ 64) else s) (b2n t.q, 0)

/-- TET: the elapsed time, in the unit of the preset. -/
def tetAct (c : Ctx) (s : State) : Res Done :=
  let a := c.record 1
  let p := preset (instWord s c.u a 0)
  let t := timerAt s c.u a
  let e := if t.run then Nat.min ((s.unit c.u).ttime - t.start) p.1 else if t.done then p.1 else 0
  c.result s (e / (if p.2 then 1000000 else 1000), 0)

/-- TON: on-delay timer (R258 to R261). -/
def execTon (u : UnitId) (s : State) : Host.Outcome State Fault Refusal :=
  .next (insn s (UnitId.key u) .ton (timerAct Timer.ton))

/-- TOF: off-delay timer (R258 to R261). -/
def execTof (u : UnitId) (s : State) : Host.Outcome State Fault Refusal :=
  .next (insn s (UnitId.key u) .tof (timerAct Timer.tof))

/-- TP: pulse timer (R258 to R261). -/
def execTp (u : UnitId) (s : State) : Host.Outcome State Fault Refusal :=
  .next (insn s (UnitId.key u) .tp (timerAct Timer.tp))

/-- TET: elapsed time (R258 to R261). -/
def execTet (u : UnitId) (s : State) : Host.Outcome State Fault Refusal := .next (insn s (UnitId.key u) .tet tetAct)

/-! ### Counters (R263 to R265) -/

/-- A counter as its record holds it. -/
structure Counter where
  pv     : Int
  cv     : Int
  cuprev : Bool
  cdprev : Bool
deriving DecidableEq, Repr

def counterAt (s : State) (u a : Nat) : Counter :=
  let w := instWord s u a 1
  { pv := signed 32 (instWord s u a 0), cv := signed 32 (instWord s u a 2), cuprev := bit w 1, cdprev := bit w 2 }

def Counter.qu (k : Counter) : Bool := decide (k.pv ≤ k.cv)
def Counter.qd (k : Counter) : Bool := decide (k.cv ≤ 0)

def Counter.ctu (k : Counter) (b : Bool) : Counter :=
  { k with cv := if b && !k.cuprev && decide (k.cv < 2147483647) then k.cv + 1 else k.cv, cuprev := b }
def Counter.ctd (k : Counter) (b : Bool) : Counter :=
  { k with cv := if b && !k.cdprev && decide (-2147483648 < k.cv) then k.cv - 1 else k.cv, cdprev := b }
def Counter.load (k : Counter) (b : Bool) : Counter := if b then { k with cv := k.pv } else k
def Counter.reset (k : Counter) (b : Bool) : Counter := if b then { k with cv := 0 } else k

/-- A counter's record is written (R265). -/
def counterWrite (s : State) (u i a : Nat) (k : Counter) : Res State :=
  instWrite s u i a (b2n k.qu + 2 * b2n k.cuprev + 4 * b2n k.cdprev + 8 * b2n k.qd) (wrap 32 k.cv) 0

/-- CTU and CTD: the record is written before d. -/
def countAct (f : Counter → Bool → Counter) (out : Counter → Bool) (c : Ctx) (s : State) : Res Done :=
  let a := c.record 2
  let k := f (counterAt s c.u a) (c.val 1 == 1)
  match counterWrite s c.u 3 a k with
  | .error e => .error e
  | .ok s => c.result s (b2n (out k), 0)

/-- CLD and CRST. -/
def setCountAct (f : Counter → Bool → Counter) (c : Ctx) (s : State) : Res Done :=
  let a := c.record 0
  match counterWrite s c.u 1 a (f (counterAt s c.u a) (c.val 1 == 1)) with
  | .error e => .error e
  | .ok s => c.ends s

/-- CTU: count up (R264, R265). -/
def execCtu (u : UnitId) (s : State) : Host.Outcome State Fault Refusal :=
  .next (insn s (UnitId.key u) .ctu (countAct Counter.ctu Counter.qu))

/-- CTD: count down (R264, R265). -/
def execCtd (u : UnitId) (s : State) : Host.Outcome State Fault Refusal :=
  .next (insn s (UnitId.key u) .ctd (countAct Counter.ctd Counter.qd))

/-- CLD: CV := PV (R264, R265). -/
def execCld (u : UnitId) (s : State) : Host.Outcome State Fault Refusal :=
  .next (insn s (UnitId.key u) .cld (setCountAct Counter.load))

/-- CRST: CV := 0 (R264, R265). -/
def execCrst (u : UnitId) (s : State) : Host.Outcome State Fault Refusal :=
  .next (insn s (UnitId.key u) .crst (setCountAct Counter.reset))

end Sys2Proof.Machine
end

