-- ==== Sys2Proof/Machine/SafetyRun.lean ====
section
/-!
DEFINITION. SafetyRun.lean: the safety program's run (R598, R603 to R607): the instructions of the lock-stepped pair, the calls of
INIT and CYCLE, the safety cycle.
-/
namespace Sys2Proof.Machine

/-! ### Instructions on the safety cores (R603) -/

/-- The address that a call returns to (R607). -/
def safReturn : Nat := 0xFFFFFFF0

/-- RET ends the call when g15 holds its return address. -/
def safRetAct (c : Ctx) (s : State) : Res Done :=
  if gAt (s.unit c.u).g 15 = safReturn then .ok { s := s, pc := safReturn } else retAct c s

/-- MFS and MTS reach ARITH and HNDL. -/
def safSpec (act : Ctx → State → Res Done) (c : Ctx) (s : State) : Res Done :=
  if c.spec = 1 ∨ c.spec = 2 then act c s else .error ⟨exPrivilege, 0, c.pc⟩

/-- Moves, arithmetic and conversions. -/
def safActA (op : Op) : Ctx → State → Res Done :=
  match op with
  | .mov => moveAct | .ldg => loadAct | .ldgp => loadAct
  | .exts => extendAct true | .extz => extendAct false | .lea => leaAct | .rdtb => rdtbAct
  | .add => binaryAct aluAdd | .sub => binaryAct aluSub | .mul => binaryAct aluMul
  | .mulhs => binaryAct fun _ a b => (mulHighS a b, 0)
  | .mulhu => binaryAct fun _ a b => (mulHighU a b, 0)
  | .div => binaryAct aluDiv
  | .divu => binaryAct fun _ a b => natDiv a b
  | .rem => binaryAct fun z a b => intRem z.width a b
  | .remu => binaryAct fun _ a b => natRem a b
  | .min => binaryAct fun z a b => aluMinMax z false a b
  | .max => binaryAct fun z a b => aluMinMax z true a b
  | .neg => unaryAct aluNeg | .abs => unaryAct aluAbs
  | .sqrt => unaryAct fun z a => z.fmt.sqrt a
  | .cvtif => fromIntAct 32 | .cvtlf => fromIntAct 64
  | .cvtfi => toIntAct 32 false | .trnfi => toIntAct 32 true
  | .cvtfl => toIntAct 64 false | .trnfl => toIntAct 64 true
  | .cvtff => convAct
  | _ => Ctx.ends

/-- Logic, comparisons, timers, counters, blocks, strings. -/
def safActB (op : Op) : Ctx → State → Res Done :=
  match op with
  | .and => binaryAct fun _ a b => (a &&& b, 0)
  | .or => binaryAct fun _ a b => (a ||| b, 0)
  | .xor => binaryAct fun _ a b => (a ^^^ b, 0)
  | .not => unaryAct fun z a => (bitNot z.width a, 0)
  | .shl => binaryAct fun z a n => (shiftLeft z.width a n, 0)
  | .shr => binaryAct fun z a n => (shiftRight z.width a n, 0)
  | .sar => binaryAct fun z a n => (shiftArith z.width a n, 0)
  | .rol => binaryAct fun z a n => (rotLeft z.width a n, 0)
  | .ror => binaryAct fun z a n => (rotRight z.width a n, 0)
  | .ceq => compareAct cmpEq
  | .cne => compareAct fun z a b => (!(cmpEq z a b).1, (cmpEq z a b).2)
  | .clt => compareAct cmpLt | .cle => compareAct cmpLe
  | .cltu => compareAct fun _ a b => (decide (a < b), 0)
  | .cleu => compareAct fun _ a b => (decide (a ≤ b), 0)
  | .band => binaryAct fun _ a b => (a * b, 0)
  | .bor => binaryAct fun _ a b => (a ||| b, 0)
  | .bxor => binaryAct fun _ a b => (a ^^^ b, 0)
  | .bandn => binaryAct fun _ a b => (a * (1 - b), 0)
  | .born => binaryAct fun _ a b => (a ||| (1 - b), 0)
  | .bnot => unaryAct fun _ a => (1 - a, 0)
  | .redge => edgeAct true | .fedge => edgeAct false
  | .ton => timerAct Timer.ton | .tof => timerAct Timer.tof | .tp => timerAct Timer.tp | .tet => tetAct
  | .ctu => countAct Counter.ctu Counter.qu | .ctd => countAct Counter.ctd Counter.qd
  | .cld => setCountAct Counter.load | .crst => setCountAct Counter.reset
  | .movb => movbAct | .fill => fillAct | .crcc => crccAct
  | .scpy => scpyAct | .scat => scatAct | .slen => slenAct | .scmp => scmpAct | .sfnd => sfndAct
  | _ => safActA op

/-- The meaning of an operation on the safety cores. -/
def safAct (op : Op) : Ctx → State → Res Done :=
  match op with
  | .bra => braAct | .bz => bzAct true | .bnz => bzAct false | .call => callAct | .ret => safRetAct | .nop => Ctx.ends
  | .mfs => safSpec mfsAct | .mts => safSpec mtsAct | .trap => trapAct
  | _ => safActB op

/-- The pair executes its next instruction. -/
def safInsn (s : State) : State :=
  match (fetchInsn s safetyUnit).2 with
  | .error e => raiseInsn s safetyUnit (s.unit safetyUnit).pc e
  | .ok (f, os) => runForm s safetyUnit f os (safAct f.op)

/-! ### Calls (R607) -/

/-- A call has returned. -/
def safReturned (s : State) : Bool := (s.unit safetyUnit).pc == safReturn

/-- At most `fuel` instructions of the call in progress. -/
def safRun (s : State) : Nat → State
  | 0 => s
  | fuel + 1 => if s.saf.call.isNone || safReturned s then s else safRun (safInsn s) fuel

/-- INIT or CYCLE is called. -/
def safCall (s : State) (what : SafCall) : State :=
  let entry := imgWord s.saf.image (match what with | .init => 20 | .cycle => 24)
  let s := s.modUnit safetyUnit fun x => { x with
    g := List.replicate 14 0#32 ++ [0x00100000#32, 0xFFFFFFF0#32], pc := entry / 4 * 4, slot := [] }
  s.modSaf fun x => { x with call := some what, callAt := s.now }

/-- INIT runs before the first cycle; when it has returned, the watchdog of the cycles begins. -/
def safInit (s : State) (fuel : Nat) : State :=
  let s := if s.saf.call.isNone then safCall s .init else s
  let s := if s.saf.callAt + 100000000 < s.now then safStop s 6 else safRun s fuel
  if s.saf.call = some .init ∧ safReturned s then
    s.modSaf fun x => { x with call := none, initDone := true, served := s.now }
  else s

/-- A safety cycle with the program: inputs, the read area, CYCLE, and on its return the write area, the axes and the
containers. -/
def safCycle (s : State) (fuel : Nat) : State :=
  if s.saf.call.isSome then safStop s 6
  else if s.saf.served + 2000000 < s.now then safStop s 2
  else
    let s := safRun (safCall (cycleStart s) .cycle) fuel
    if s.saf.call = some .cycle ∧ safReturned s then cycleEnd s else s

/-- SAFETY_CYCLE: at each instant t with t mod 1 ms = 0 the safety cycle runs (R598, R607). `fuel` bounds the instructions that
a call executes before its deadline. Outside RUNNING only the safety inputs are evaluated. -/
def execSafetyCycle (fuel : Nat) (s : State) : Host.Outcome State Fault Refusal :=
  if !safAlive s || s.saf.state = safUnconfigured || s.saf.state = safStopped then .next s
  else
    let s := s.at (ceilDiv (Nat.max s.now (s.saf.callAt + 1)) 1000000 * 1000000)
    if s.saf.state ≠ safRunning then .next ((List.range 8).foldl inputStep s)
    else
      let s := if s.saf.initDone then s else safInit s fuel
      .next (if s.saf.initDone && s.saf.state == safRunning then safCycle s fuel else s)

end Sys2Proof.Machine
end

