-- ==== Sys2Proof/Machine/Startup.lean ====
section
/-!
DEFINITION. Startup.lean: from the release of a module reset to running firmware (R515, R712 to R714, R28, R730): the boot ROM,
the recall of the communication objects, the loader, and what firmware does first.
-/
namespace Sys2Proof.Machine

/-! ### Copies of the flash in firmware memory (R28) -/

/-- Bytes of one memory copied to another that reads the same where nothing is listed: `n` bytes from `off` to `dst`. -/
def copyMem (m src : Mem) (dst off n : Nat) : Mem :=
  (m.filter fun e => decide (e.1 < dst)) ++ (src.range off n).map (fun (e : Nat × Byte) => (e.1 - off + dst, e.2))
    ++ m.filter fun e => decide (dst + n ≤ e.1)

/-- Firmware memory with `n` bytes of the flash from `off` at `dst`. -/
def flashToFw (s : State) (dst off n : Nat) : State :=
  { s with mem := { s.mem with fw := copyMem s.mem.fw s.mem.flash dst off n } }

/-! ### The boot ROM (R712, R745) -/

/-- MODULE_RESET_RELEASE: the straps are sampled, the domains are out of reset, and the boot ROM copies and checks the loader. It
clears LDRLOCK only in factory mode, the strap pattern BOOTM1, BOOTM0 = 0b01. Where a loader keeps its key and signature the spec does not say: whether it passes is a free bit (log 41). -/
def execModuleResetRelease (straps : Straps) (s : State) : Host.Outcome State Fault Refusal :=
  let b := s.boot
  if !b.held || b.thermal || b.sources = 0 then .next s
  else
    let d := s.drawBit
    let s := flashToFw d.2 0x300000 0 0x100000
    let s := if straps.factory then s.setFlag NVM_FSTAT_LDRLOCK false else s
    .next { s with
      boot := { b with held := false, stage := .rom, stuck := !d.1, release := s.now, safetyUp := true,
                       opLast := if bit b.sources 0 then Int.ofNat s.now else b.opLast }
      frz := { s.frz with strap := straps.freeze }
      wdg := { s.wdg with last := s.now } }

/-! ### Communication objects (R515) -/

/-- An object's number as its record holds it, else its default. -/
def recalledNum (s : State) (index sub : Nat) : Nat :=
  match s.nvValue (objKey index sub) with
  | some bs => fromLE bs
  | none => match objDefAt index sub with | some d => d.dflt | none => 0

/-- A CAN FD controller takes its objects, and integrates where it is enabled (R597, R524). -/
def recallCan (s : State) (m : Nat) : State :=
  let n (sub : Nat) : Nat := recalledNum s (0x7200 + m) sub
  let s := s.setCanst m { s.canst m with
    jurno := recalledNum s 0x1030 (1 + 2 * m) == 1, node := recalledNum s 0x1030 (2 + 2 * m), base := recalledNum s 0x1030 5 }
  let s := canNbtWrite s m (toWord (n 4))
  let s := (s.setReg (CAN_DBT m) (toWord (n 5))).setReg (CAN_TDC m) (toWord (n 6))
  (canCtrlWrite s m (toWord (n 7 * 32 + n 2 * 8 + n 3 * 4 + n 1))).getD s

/-- JURNO_PHASE_RECALL: 0.5 ms after release the communication objects are recalled first, and Jurno is in the recall phase; in
the next one if the recall has ended already (R515). -/
def execJurnoPhaseRecall (s : State) : Host.Outcome State Fault Refusal :=
  if s.boot.held || s.jrn.phase ≠ 0 then .next s
  else
    let s := s.at (s.boot.release + 500000)
    let s := (recallCan (recallCan s 0) 1).setFld JRN_CTRL_OBSOPEN (recalledNum s 0x1020 1)
    .next (s.modJrn fun j => { j with
      phase := if s.nv.ready then 2 else 1, phaseAt := s.now, ip := toWord (recalledNum s 0x1010 1) })

/-! ### The loader (R713) -/

/-- An object takes its recorded value, for the loader to serve. -/
def loaderObject (s : State) (index sub : Nat) : State :=
  match s.nvValue (objKey index sub) with
  | some bs => objLoad s false index sub bs
  | none => s

/-- The controller is off while a loader is resident (R713). -/
def canOffNow (s : State) (m : Nat) : State :=
  ((s.setCanst m {}).setFlag (CAN_CTRL_EN m) false).setFld (CAN_STAT_STATE m) canOff

/-- Jurno's third phase: requests are served. Whether the management port has a link depends on the other end: a free bit
(log 1). -/
def serveJurno (s : State) : State :=
  let d := s.drawBit
  d.2.modJrn fun j => { j with phase := 3, phaseAt := s.now, linkUp := d.1 }

/-- A resident loader serves the objects that it knows, with the sessions of R506. -/
def stayResident (s : State) : State :=
  let s := serveJurno (canOffNow (canOffNow s 0) 1)
  let s := [(0x1000, 0x0A), (0x1020, 2), (0x1021, 1), (0x1021, 2), (0x1021, 3), (0x1021, 4)].foldl
    (fun s (e : Nat × Nat) => loaderObject s e.1 e.2) s
  relayAnswer s 1 0

/-- LOADER_START: after the recall the loader runs, unless the boot ROM has refused it: it completes interrupted erases,
verifies the image, and stays resident where R713 has it. The unit number comes into force (R474). -/
def execLoaderStart (s : State) : Host.Outcome State Fault Refusal :=
  if halted s || s.boot.stage ≠ .rom || s.boot.stuck || s.jrn.phase ≠ 2 then .next s
  else
    let u := recalledNum s 0x1800 1
    let u := if u = 3 then 0 else u
    let s := (s.setFld HSB_CTRL_UNIT u).modHsb fun h => { h with unit := u, role := if u = 0 then roleSingle else roleStarting }
    let s := loaderVerdict (finishErases (s.modBoot fun b => { b with stage := .loader }))
    .next (if s.boot.resident then stayResident s else s)

/-! ### Firmware: the program store and the records (R714, R730) -/

/-- The program that the store holds is loaded: headers, lists, code, registers (log 37). -/
def loadProgram (s : State) : State :=
  let p := s.prog
  let s := p.regs.foldl (fun s e => s.setReg e.1 e.2) s
  { s with gz := { s.gz with hdr := p.hdr, dir := p.dir, ent := p.ent }, mem := { s.mem with code := p.code } }

/-- Firmware delivers EV32 to EV63 to the supervisor and the recorder (R39). -/
def routeEvents (s : State) : State :=
  (List.range 32).foldl (fun s i =>
    (s.setFlag (EVC_ROUTE_SUP (32 + i)) true).setFlag (EVC_ROUTE_REC (32 + i)) true) s

/-- A persistent object takes its recorded value. Claims are made afterwards, in the order of R560. -/
def loadValue (s : State) (index sub : Nat) (bs : List Byte) : State :=
  let n := fromLE bs
  if 0x6000 ≤ index ∧ index < 0x7000 then
    let k := index - 0x6000
    (s.setLoop k ((s.loop k).setWord sub (if sub = 2 then toWord n &&& 0x3F#32 else toWord n))).setObj index sub (if sub = 1 ∨ sub = 9 ∨ sub = 0x14 then bs else [])
  else if 0x7130 ≤ index ∧ index < 0x7140 ∧ sub = 1 then s.setFld (DIO_ENCCTRL_EN (index - 0x7130)) n
  else if index = 0x7150 then
    match sub with
    | 1 => s.setFld AIO_TRIM_ZBTN n
    | 2 => s.setFld AIO_TRIM_SBTN n
    | 3 => s.setFld AIO_TRIM_TARGET n
    | _ => s
  else if 0x7310 ≤ index ∧ index < 0x7360 then s.setObj index sub bs
  else objLoad s false index sub bs

/-- A configuration record at the start of firmware: one of an older format is migrated, one of a newer is not used (R730). A
migration keeps the value (log 9). -/
def loadRecord (s : State) (e : Nat × NvRec) : State :=
  let key := e.1
  let current := s.boot.setFormat
  match (match e.2.win with | some b => e.2.copy b | none => none) with
  | none => s
  | some c =>
    if recEpoch ≤ key then s
    else if current < c.format then
      (s.record 0x0A07 2 0 0 [key, c.format]).modBoot fun b => { b with noStart := true }
    else
      let s := if c.format < current then (s.persistNow key c.payload).record 0x0A06 1 0 0 [key, c.format, current] else s
      loadValue s (key / 256) (key % 256) c.payload

/-- What the records beside the objects hold: the epoch, the last-active time, the safety program and its confirmation. -/
def loadOther (s : State) : State :=
  let conf := (s.nvValue recConf).getD []
  let s := s.modSaf fun x => { x with
    image := (s.nvValue recSafety).getD [], conf := if conf.isEmpty then none else some (toWord (fromLE conf)) }
  s.modHsb fun h => { h with
    epStore := fromLE ((s.nvValue recEpoch).getD []), lastActive := (s.nvValue recLastActive).map fromLE }

/-- Claims in the order of R560: the safety partition as it restarts, Jurno, the trim buttons. -/
def firstClaims (s : State) : State :=
  let s := safRestart s
  let s := [0, 1].foldl (fun s m => if (s.canst m).jurno then (claim s ownJurno [66 + 4 * m]).1 else s) s
  if s.nvValue (objKey 0x7150 4) = some [1#8] then
    (trimWrite s (toWord (putBits (s.reg AIO_TRIM).toNat 31 31 1))).1
  else s

/-! ### Firmware: records of the start, and taking charge -/

/-- What the recorder is told at the start (R67, R637, R671, R656, R721, R738). -/
def startRecords (s : State) : State :=
  let s := s.record 0x0A00 1 0 0 [regPeek s SYS_RSTSRC, s.boot.fwVer, s.boot.fwUs]
  let s := passFindings s
  let s := if s.boot.forcesLost then (s.record 0x0110 1 0 0 []).modBoot fun b => { b with forcesLost := false } else s
  let s := if bit s.boot.sources 2 then s.record 0x0011 3 0 0 [s.wdg.lastCause, (s.reg WDG_CTRL).toNat] else s
  let s := if s.boot.saved then
      (s.record 0x0A02 1 0 0 [s.nv.saveLen, s.nv.saveUs]).modBoot fun b => { b with saved := false }
    else s
  if !s.rtc.tvalid || s.rtc.bkunc then s.record 0x0901 2 0 0 [regPeek s RTC_STAT, regPeek s RTC_VBAT] else s

/-- The loader copies the loadable part of the image and starts it (R28, R723). -/
def enterFirmware (s : State) : State :=
  let n (i k : Nat) : Nat := fromLE (flashBytes s (fwRegion + i) k)
  let s := flashToFw s 0 (fwRegion + 4096) (n 24 4)
  s.modBoot fun b => { b with
    stage := .firmware, fwVer := n 8 4, pairCompat := n 6 2, setFormat := n 20 2, fwUs := (s.now - b.release) / 1000 }

/-- A paired module listens for its role; an unpaired one takes a new epoch before its first frame, and enumerates (R437, R438,
R714). -/
def takePlace (s : State) : State :=
  if s.paired then sendCompat (s.modHsb fun h => { h with listen := s.now, heard := none }) else takeCharge (takeEpoch s)

/-- FIRMWARE_START: a verified image runs. Firmware loads the program and the records, the span button's channel with its default
of 1 before them (R578), writes its records, makes the claims, loads the field side, and goes on to its place (R714). -/
def execFirmwareStart (s : State) : Host.Outcome State Fault Refusal :=
  if halted s || s.boot.stage ≠ .loader || s.boot.resident then .next s
  else
    let s := routeEvents (loadProgram (serveJurno (enterFirmware s)))
    let s := loadOther (s.nv.recs.foldl loadRecord (s.setFld AIO_TRIM_SBTN 1))
    let s := fieldCmd (loadRtcModel (firstClaims (startRecords s))) (.config true)
    .next (takePlace (takeAtStart s))

end Sys2Proof.Machine
end

