-- ==== Sys2Proof/Machine/Dispatch.lean ====
section
/-!
DEFINITION. Dispatch.lean: one arm for each command, each a direct call of the command's meaning.
-/
namespace Sys2Proof.Machine

def exec (i : Instr) (s : State) : Host.Outcome State Fault Refusal :=
  match i with
  | .registerWrite core addr value => Sys2Proof.Machine.execRegisterWrite core addr value s
  | .eventDelivery src => Sys2Proof.Machine.execEventDelivery src s
  | .evcRaise core value => Sys2Proof.Machine.execEvcRaise core value s
  | .sysIslrst core value => Sys2Proof.Machine.execSysIslrst core value s
  | .islandResetComplete isl => Sys2Proof.Machine.execIslandResetComplete isl s
  | .sampleInstant task => Sys2Proof.Machine.execSampleInstant task s
  | .exchangeCopyComplete task => Sys2Proof.Machine.execExchangeCopyComplete task s
  | .inputDeadline task => Sys2Proof.Machine.execInputDeadline task s
  | .releaseComplete task => Sys2Proof.Machine.execReleaseComplete task s
  | .strikeInstant task => Sys2Proof.Machine.execStrikeInstant task s
  | .strikeMiss task => Sys2Proof.Machine.execStrikeMiss task s
  | .eventTaskReleaseTimeout task => Sys2Proof.Machine.execEventTaskReleaseTimeout task s
  | .executionTimeExceeded task => Sys2Proof.Machine.execExecutionTimeExceeded task s
  | .tskGctrlStart core value => Sys2Proof.Machine.execTskGctrlStart core value s
  | .tskGctrlStop core value => Sys2Proof.Machine.execTskGctrlStop core value s
  | .programWarmStart q => Sys2Proof.Machine.execProgramWarmStart q s
  | .programColdStart q => Sys2Proof.Machine.execProgramColdStart q s
  | .programStopCommand q => Sys2Proof.Machine.execProgramStopCommand q s
  | .preparingEnd => Sys2Proof.Machine.execPreparingEnd s
  | .programRunningEntry => Sys2Proof.Machine.execProgramRunningEntry s
  | .taskWatchdogWindowEnd => Sys2Proof.Machine.execTaskWatchdogWindowEnd s
  | .tskWdctrlEnable core value => Sys2Proof.Machine.execTskWdctrlEnable core value s
  | .forceRecord q => Sys2Proof.Machine.execForceRecord q s
  | .removeAllForces q => Sys2Proof.Machine.execRemoveAllForces q s
  | .idleAuditStart task => Sys2Proof.Machine.execIdleAuditStart task s
  | .auditRunEnd unit => Sys2Proof.Machine.execAuditRunEnd unit s
  | .gzCmdEqclr core value => Sys2Proof.Machine.execGzCmdEqclr core value s
  | .gzCmdAudreq core value => Sys2Proof.Machine.execGzCmdAudreq core value s
  | .gzCtrlAuden core value => Sys2Proof.Machine.execGzCtrlAuden core value s
  | .clearEquivalenceFault q => Sys2Proof.Machine.execClearEquivalenceFault q s
  | .requestAudit q => Sys2Proof.Machine.execRequestAudit q s
  | .editRecord q => Sys2Proof.Machine.execEditRecord q s
  | .stagingRecord q => Sys2Proof.Machine.execStagingRecord q s
  | .segStgnumValid core value => Sys2Proof.Machine.execSegStgnumValid core value s
  | .segStgnumWithdraw core value => Sys2Proof.Machine.execSegStgnumWithdraw core value s
  | .segStgdata core value => Sys2Proof.Machine.execSegStgdata core value s
  | .segStgctrlCommit core value => Sys2Proof.Machine.execSegStgctrlCommit core value s
  | .segStgctrlAbort core value => Sys2Proof.Machine.execSegStgctrlAbort core value s
  | .stagingCommit q => Sys2Proof.Machine.execStagingCommit q s
  | .stagingAbort q => Sys2Proof.Machine.execStagingAbort q s
  | .buildingComplete => Sys2Proof.Machine.execBuildingComplete s
  | .validationComplete => Sys2Proof.Machine.execValidationComplete s
  | .laneClctrlFlush core cluster value => Sys2Proof.Machine.execLaneClctrlFlush core cluster value s
  | .gzSubdataAccess core write => Sys2Proof.Machine.execGzSubdataAccess core write s
  | .mov u => Sys2Proof.Machine.execMov u s
  | .ldg u => Sys2Proof.Machine.execLdg u s
  | .ldgp u => Sys2Proof.Machine.execLdgp u s
  | .exts u => Sys2Proof.Machine.execExts u s
  | .extz u => Sys2Proof.Machine.execExtz u s
  | .lea u => Sys2Proof.Machine.execLea u s
  | .rdtb u => Sys2Proof.Machine.execRdtb u s
  | .add u => Sys2Proof.Machine.execAdd u s
  | .sub u => Sys2Proof.Machine.execSub u s
  | .mul u => Sys2Proof.Machine.execMul u s
  | .mulhs u => Sys2Proof.Machine.execMulhs u s
  | .mulhu u => Sys2Proof.Machine.execMulhu u s
  | .div u => Sys2Proof.Machine.execDiv u s
  | .divu u => Sys2Proof.Machine.execDivu u s
  | .rem u => Sys2Proof.Machine.execRem u s
  | .remu u => Sys2Proof.Machine.execRemu u s
  | .neg u => Sys2Proof.Machine.execNeg u s
  | .abs u => Sys2Proof.Machine.execAbs u s
  | .min u => Sys2Proof.Machine.execMin u s
  | .max u => Sys2Proof.Machine.execMax u s
  | .sqrt u => Sys2Proof.Machine.execSqrt u s
  | .cvtif u => Sys2Proof.Machine.execCvtif u s
  | .cvtlf u => Sys2Proof.Machine.execCvtlf u s
  | .cvtfi u => Sys2Proof.Machine.execCvtfi u s
  | .trnfi u => Sys2Proof.Machine.execTrnfi u s
  | .cvtfl u => Sys2Proof.Machine.execCvtfl u s
  | .trnfl u => Sys2Proof.Machine.execTrnfl u s
  | .cvtff u => Sys2Proof.Machine.execCvtff u s
  | .and u => Sys2Proof.Machine.execAnd u s
  | .or u => Sys2Proof.Machine.execOr u s
  | .xor u => Sys2Proof.Machine.execXor u s
  | .not u => Sys2Proof.Machine.execNot u s
  | .shl u => Sys2Proof.Machine.execShl u s
  | .shr u => Sys2Proof.Machine.execShr u s
  | .sar u => Sys2Proof.Machine.execSar u s
  | .rol u => Sys2Proof.Machine.execRol u s
  | .ror u => Sys2Proof.Machine.execRor u s
  | .ceq u => Sys2Proof.Machine.execCeq u s
  | .cne u => Sys2Proof.Machine.execCne u s
  | .clt u => Sys2Proof.Machine.execClt u s
  | .cle u => Sys2Proof.Machine.execCle u s
  | .cltu u => Sys2Proof.Machine.execCltu u s
  | .cleu u => Sys2Proof.Machine.execCleu u s
  | .band u => Sys2Proof.Machine.execBand u s
  | .bor u => Sys2Proof.Machine.execBor u s
  | .bxor u => Sys2Proof.Machine.execBxor u s
  | .bandn u => Sys2Proof.Machine.execBandn u s
  | .born u => Sys2Proof.Machine.execBorn u s
  | .bnot u => Sys2Proof.Machine.execBnot u s
  | .redge u => Sys2Proof.Machine.execRedge u s
  | .fedge u => Sys2Proof.Machine.execFedge u s
  | .ton u => Sys2Proof.Machine.execTon u s
  | .tof u => Sys2Proof.Machine.execTof u s
  | .tp u => Sys2Proof.Machine.execTp u s
  | .tet u => Sys2Proof.Machine.execTet u s
  | .ctu u => Sys2Proof.Machine.execCtu u s
  | .ctd u => Sys2Proof.Machine.execCtd u s
  | .cld u => Sys2Proof.Machine.execCld u s
  | .crst u => Sys2Proof.Machine.execCrst u s
  | .bra u => Sys2Proof.Machine.execBra u s
  | .bz u => Sys2Proof.Machine.execBz u s
  | .bnz u => Sys2Proof.Machine.execBnz u s
  | .call u => Sys2Proof.Machine.execCall u s
  | .ret u => Sys2Proof.Machine.execRet u s
  | .endPass u => Sys2Proof.Machine.execEnd u s
  | .rte u => Sys2Proof.Machine.execRte u s
  | .nop u => Sys2Proof.Machine.execNop u s
  | .movb u => Sys2Proof.Machine.execMovb u s
  | .fill u => Sys2Proof.Machine.execFill u s
  | .crcc u => Sys2Proof.Machine.execCrcc u s
  | .scpy u => Sys2Proof.Machine.execScpy u s
  | .scat u => Sys2Proof.Machine.execScat u s
  | .slen u => Sys2Proof.Machine.execSlen u s
  | .scmp u => Sys2Proof.Machine.execScmp u s
  | .sfnd u => Sys2Proof.Machine.execSfnd u s
  | .mfs u => Sys2Proof.Machine.execMfs u s
  | .mts u => Sys2Proof.Machine.execMts u s
  | .wfe u => Sys2Proof.Machine.execWfe u s
  | .wtu u => Sys2Proof.Machine.execWtu u s
  | .sev u => Sys2Proof.Machine.execSev u s
  | .trap u => Sys2Proof.Machine.execTrap u s
  | .wfeWake core => Sys2Proof.Machine.execWfeWake core s
  | .wtuWake core => Sys2Proof.Machine.execWtuWake core s
  | .coreResetComplete core => Sys2Proof.Machine.execCoreResetComplete core s
  | .probeSend links => Sys2Proof.Machine.execProbeSend links s
  | .probeCopyReturn ring port fcsOk frame => Sys2Proof.Machine.execProbeCopyReturn ring port fcsOk frame s
  | .probeCopyTimeout ring dirB => Sys2Proof.Machine.execProbeCopyTimeout ring dirB s
  | .transactionIssue ring => Sys2Proof.Machine.execTransactionIssue ring s
  | .copyReturn ring port fcsOk frame => Sys2Proof.Machine.execCopyReturn ring port fcsOk frame s
  | .transactionExpiry target => Sys2Proof.Machine.execTransactionExpiry target s
  | .phrCtrlEnum core value => Sys2Proof.Machine.execPhrCtrlEnum core value s
  | .enumerationComplete ring spent => Sys2Proof.Machine.execEnumerationComplete ring spent s
  | .phrEpochWrite core value => Sys2Proof.Machine.execPhrEpochWrite core value s
  | .phrTxselWrite core value => Sys2Proof.Machine.execPhrTxselWrite core value s
  | .ptpMessage msg => Sys2Proof.Machine.execPtpMessage msg s
  | .ptpSyncSend => Sys2Proof.Machine.execPtpSyncSend s
  | .announceReceiptTimeout => Sys2Proof.Machine.execAnnounceReceiptTimeout s
  | .stationLatch ring stn inputs => Sys2Proof.Machine.execStationLatch ring stn inputs s
  | .stationFrame ring arrival frame answer => Sys2Proof.Machine.execStationFrame ring arrival frame answer s
  | .stationEnm ring arrival frame => Sys2Proof.Machine.execStationEnm ring arrival frame s
  | .stationStrike ring stn => Sys2Proof.Machine.execStationStrike ring stn s
  | .holdTimeExpiry ring stn => Sys2Proof.Machine.execHoldTimeExpiry ring stn s
  | .loopSampleInstant loop => Sys2Proof.Machine.execLoopSampleInstant loop s
  | .loopExecutionStart unit => Sys2Proof.Machine.execLoopExecutionStart unit s
  | .loopExecutionComplete unit => Sys2Proof.Machine.execLoopExecutionComplete unit s
  | .loopPublication loop => Sys2Proof.Machine.execLoopPublication loop s
  | .loopRecordWrite w loop sub value => Sys2Proof.Machine.execLoopRecordWrite w loop sub value s
  | .lpeMaxlatClear core value => Sys2Proof.Machine.execLpeMaxlatClear core value s
  | .trcCmdArm core buf value => Sys2Proof.Machine.execTrcCmdArm core buf value s
  | .trcCmdStop core buf value => Sys2Proof.Machine.execTrcCmdStop core buf value s
  | .trcCmdForce core buf value => Sys2Proof.Machine.execTrcCmdForce core buf value s
  | .traceArm q => Sys2Proof.Machine.execTraceArm q s
  | .traceStop q => Sys2Proof.Machine.execTraceStop q s
  | .traceForce q => Sys2Proof.Machine.execTraceForce q s
  | .traceRecordWrite buf funded => Sys2Proof.Machine.execTraceRecordWrite buf funded s
  | .traceReadData q => Sys2Proof.Machine.execTraceReadData q s
  | .ledgerUpdate inputUj islandUj => Sys2Proof.Machine.execLedgerUpdate inputUj islandUj s
  | .temperatureRead islands coreTemp => Sys2Proof.Machine.execTemperatureRead islands coreTemp s
  | .thermalLimitTimeout => Sys2Proof.Machine.execThermalLimitTimeout s
  | .thermalShutdown => Sys2Proof.Machine.execThermalShutdown s
  | .thermalResetRelease temps => Sys2Proof.Machine.execThermalResetRelease temps s
  | .paceRead paces => Sys2Proof.Machine.execPaceRead paces s
  | .catchUp task => Sys2Proof.Machine.execCatchUp task s
  | .sliceGrant duty estUj => Sys2Proof.Machine.execSliceGrant duty estUj s
  | .sliceEnd meteredUj => Sys2Proof.Machine.execSliceEnd meteredUj s
  | .forcedScrub => Sys2Proof.Machine.execForcedScrub s
  | .nrgTjWrite core value => Sys2Proof.Machine.execNrgTjWrite core value s
  | .peakTemperatureReset q => Sys2Proof.Machine.execPeakTemperatureReset q s
  | .heartbeatSend => Sys2Proof.Machine.execHeartbeatSend s
  | .heartbeatReceive path bytes => Sys2Proof.Machine.execHeartbeatReceive path bytes s
  | .noticeReceive path bytes => Sys2Proof.Machine.execNoticeReceive path bytes s
  | .pathLoss path => Sys2Proof.Machine.execPathLoss path s
  | .startingListenEnd => Sys2Proof.Machine.execStartingListenEnd s
  | .takeoverIssue => Sys2Proof.Machine.execTakeoverIssue s
  | .inputRecord rec => Sys2Proof.Machine.execInputRecord rec s
  | .controlRecord rec => Sys2Proof.Machine.execControlRecord rec s
  | .groupsRecord rec => Sys2Proof.Machine.execGroupsRecord rec s
  | .dataRecord rec => Sys2Proof.Machine.execDataRecord rec s
  | .loopsRecord rec => Sys2Proof.Machine.execLoopsRecord rec s
  | .endRecord rec => Sys2Proof.Machine.execEndRecord rec s
  | .ledgerRecord rec => Sys2Proof.Machine.execLedgerRecord rec s
  | .ledgerRecordSend => Sys2Proof.Machine.execLedgerRecordSend s
  | .recordAcknowledgement task cycle => Sys2Proof.Machine.execRecordAcknowledgement task cycle s
  | .endRecordTimeout task => Sys2Proof.Machine.execEndRecordTimeout task s
  | .fullCopyComplete => Sys2Proof.Machine.execFullCopyComplete s
  | .pairCompatibilityFrame bytes => Sys2Proof.Machine.execPairCompatibilityFrame bytes s
  | .updateRelay bytes => Sys2Proof.Machine.execUpdateRelay bytes s
  | .plannedSwitchover q => Sys2Proof.Machine.execPlannedSwitchover q s
  | .hsbCmdSwitch core value => Sys2Proof.Machine.execHsbCmdSwitch core value s
  | .resynchronise q => Sys2Proof.Machine.execResynchronise q s
  | .hsbCmdResync core value => Sys2Proof.Machine.execHsbCmdResync core value s
  | .declareFailed q => Sys2Proof.Machine.execDeclareFailed q s
  | .hsbCmdFail core value => Sys2Proof.Machine.execHsbCmdFail core value s
  | .switchoverAckTimeout => Sys2Proof.Machine.execSwitchoverAckTimeout s
  | .handover => Sys2Proof.Machine.execHandover s
  | .feedStateChange feed mv ma => Sys2Proof.Machine.execFeedStateChange feed mv ma s
  | .powerFailWarning => Sys2Proof.Machine.execPowerFailWarning s
  | .saveComplete => Sys2Proof.Machine.execSaveComplete s
  | .read q => Sys2Proof.Machine.execRead q s
  | .write q => Sys2Proof.Machine.execWrite q s
  | .gwrite q => Sys2Proof.Machine.execGwrite q s
  | .describe q => Sys2Proof.Machine.execDescribe q s
  | .readtime q => Sys2Proof.Machine.execReadtime q s
  | .open q => Sys2Proof.Machine.execOpen q s
  | .auth q => Sys2Proof.Machine.execAuth q s
  | .close q => Sys2Proof.Machine.execClose q s
  | .arpRequest mac ip targetIp => Sys2Proof.Machine.execArpRequest mac ip targetIp s
  | .icmpEcho srcIp dstIp data => Sys2Proof.Machine.execIcmpEcho srcIp dstIp data s
  | .partAssemblyTimeout index sub => Sys2Proof.Machine.execPartAssemblyTimeout index sub s
  | .sessionAuthTimeout slot => Sys2Proof.Machine.execSessionAuthTimeout slot s
  | .sessionInactivity slot => Sys2Proof.Machine.execSessionInactivity slot s
  | .addressLockoutEnd ip => Sys2Proof.Machine.execAddressLockoutEnd ip s
  | .jrnDoneSend core value => Sys2Proof.Machine.execJrnDoneSend core value s
  | .canSegmentTimeout ctrl node => Sys2Proof.Machine.execCanSegmentTimeout ctrl node s
  | .unlock q => Sys2Proof.Machine.execUnlock q s
  | .unlockExpiry slot => Sys2Proof.Machine.execUnlockExpiry slot s
  | .calibrationClear q => Sys2Proof.Machine.execCalibrationClear q s
  | .jurnoPhaseRecall => Sys2Proof.Machine.execJurnoPhaseRecall s
  | .fieldSideUpdate lowCurrent cooled vfieldMv => Sys2Proof.Machine.execFieldSideUpdate lowCurrent cooled vfieldMv s
  | .localInputDelivery task => Sys2Proof.Machine.execLocalInputDelivery task s
  | .linkFrame => Sys2Proof.Machine.execLinkFrame s
  | .silenceTimeout => Sys2Proof.Machine.execSilenceTimeout s
  | .dioFcmdRelease core value => Sys2Proof.Machine.execDioFcmdRelease core value s
  | .dioFcmdSafe core value => Sys2Proof.Machine.execDioFcmdSafe core value s
  | .fieldRelease q => Sys2Proof.Machine.execFieldRelease q s
  | .rawLevelChange ch level => Sys2Proof.Machine.execRawLevelChange ch level s
  | .debounceExpiry ch => Sys2Proof.Machine.execDebounceExpiry ch s
  | .encoderEdge pair a b => Sys2Proof.Machine.execEncoderEdge pair a b s
  | .ovl ch => Sys2Proof.Machine.execOvl ch s
  | .ot ch => Sys2Proof.Machine.execOt ch s
  | .rberr ch => Sys2Proof.Machine.execRberr ch s
  | .liveBitClear analogue ch bit => Sys2Proof.Machine.execLiveBitClear analogue ch bit s
  | .vflow vfieldMv => Sys2Proof.Machine.execVflow vfieldMv s
  | .vfhigh vfieldMv => Sys2Proof.Machine.execVfhigh vfieldMv s
  | .analogConversion ch ua limiter => Sys2Proof.Machine.execAnalogConversion ch ua limiter s
  | .compl ch => Sys2Proof.Machine.execCompl ch s
  | .complClear ch => Sys2Proof.Machine.execComplClear ch s
  | .rbfault ch => Sys2Proof.Machine.execRbfault ch s
  | .zeroTrim q => Sys2Proof.Machine.execZeroTrim q s
  | .spanTrim q => Sys2Proof.Machine.execSpanTrim q s
  | .trimDriveTimeout ch => Sys2Proof.Machine.execTrimDriveTimeout ch s
  | .zeroButtonHold => Sys2Proof.Machine.execZeroButtonHold s
  | .spanButtonHold => Sys2Proof.Machine.execSpanButtonHold s
  | .clearButtonHold => Sys2Proof.Machine.execClearButtonHold s
  | .trimButtonsEnable q => Sys2Proof.Machine.execTrimButtonsEnable q s
  | .aioTrimEn core value => Sys2Proof.Machine.execAioTrimEn core value s
  | .dioEncctrlEn core pair value => Sys2Proof.Machine.execDioEncctrlEn core pair value s
  | .dioEnccntWrite core pair value => Sys2Proof.Machine.execDioEnccntWrite core pair value s
  | .canEnable core ctrl value => Sys2Proof.Machine.execCanEnable core ctrl value s
  | .canRecov core ctrl value => Sys2Proof.Machine.execCanRecov core ctrl value s
  | .recoverFromBusOff q => Sys2Proof.Machine.execRecoverFromBusOff q s
  | .canTxRequest core ctrl buf value => Sys2Proof.Machine.execCanTxRequest core ctrl buf value s
  | .canTxAbort core ctrl buf value => Sys2Proof.Machine.execCanTxAbort core ctrl buf value s
  | .canRxpop core ctrl value => Sys2Proof.Machine.execCanRxpop core ctrl value s
  | .canFilterEnable core ctrl flt value => Sys2Proof.Machine.execCanFilterEnable core ctrl flt value s
  | .canIntegrationComplete ctrl => Sys2Proof.Machine.execCanIntegrationComplete ctrl s
  | .canRecoveryComplete ctrl => Sys2Proof.Machine.execCanRecoveryComplete ctrl s
  | .canFrameReceived ctrl frame => Sys2Proof.Machine.execCanFrameReceived ctrl frame s
  | .canTxAttemptEnd ctrl buf how tdcv => Sys2Proof.Machine.execCanTxAttemptEnd ctrl buf how tdcv s
  | .safetyCycle fuel => Sys2Proof.Machine.execSafetyCycle fuel s
  | .safetyInitTimeout => Sys2Proof.Machine.execSafetyInitTimeout s
  | .safetyCycleOverrun => Sys2Proof.Machine.execSafetyCycleOverrun s
  | .safetyWatchdogExpiry => Sys2Proof.Machine.execSafetyWatchdogExpiry s
  | .lockstepMismatch => Sys2Proof.Machine.execLockstepMismatch s
  | .safetySupplyFault => Sys2Proof.Machine.execSafetySupplyFault s
  | .safetyFrameSend => Sys2Proof.Machine.execSafetyFrameSend s
  | .safetySilence => Sys2Proof.Machine.execSafetySilence s
  | .connectionWatchdog conn => Sys2Proof.Machine.execConnectionWatchdog conn s
  | .safetyInputDiscrepancy input => Sys2Proof.Machine.execSafetyInputDiscrepancy input s
  | .testPulse src dipped => Sys2Proof.Machine.execTestPulse src dipped s
  | .stoDarkPulse out chB followed => Sys2Proof.Machine.execStoDarkPulse out chB followed s
  | .safetyReset q => Sys2Proof.Machine.execSafetyReset q s
  | .safCmdSreset core value => Sys2Proof.Machine.execSafCmdSreset core value s
  | .confirmCheckValue q => Sys2Proof.Machine.execConfirmCheckValue q s
  | .safetyProgramWrite q => Sys2Proof.Machine.execSafetyProgramWrite q s
  | .axisReset q => Sys2Proof.Machine.execAxisReset q s
  | .recallComplete => Sys2Proof.Machine.execRecallComplete s
  | .nvmSyncRead core => Sys2Proof.Machine.execNvmSyncRead core s
  | .postedWriteComplete verifyFail => Sys2Proof.Machine.execPostedWriteComplete verifyFail s
  | .flashErase core value => Sys2Proof.Machine.execFlashErase core value s
  | .flashProgram core value => Sys2Proof.Machine.execFlashProgram core value s
  | .flashOperationComplete verifyOk => Sys2Proof.Machine.execFlashOperationComplete verifyOk s
  | .nvmProtWrite core value => Sys2Proof.Machine.execNvmProtWrite core value s
  | .blockProtection q => Sys2Proof.Machine.execBlockProtection q s
  | .rtcSecondBoundary => Sys2Proof.Machine.execRtcSecondBoundary s
  | .rtcArm core value => Sys2Proof.Machine.execRtcArm core value s
  | .rtcSetTime q => Sys2Proof.Machine.execRtcSetTime q s
  | .rtcStageWrite core high value => Sys2Proof.Machine.execRtcStageWrite core high value s
  | .rtcBkcommit core value => Sys2Proof.Machine.execRtcBkcommit core value s
  | .backupMemoryWrite q => Sys2Proof.Machine.execBackupMemoryWrite q s
  | .backupMemoryClear q => Sys2Proof.Machine.execBackupMemoryClear q s
  | .rtcCompensation tempCenti vbatMv => Sys2Proof.Machine.execRtcCompensation tempCenti vbatMv s
  | .rtcSwitchToVbat vbatMv => Sys2Proof.Machine.execRtcSwitchToVbat vbatMv s
  | .rtcSwitchToRail vbatMv => Sys2Proof.Machine.execRtcSwitchToRail vbatMv s
  | .backupDomainPowerOn => Sys2Proof.Machine.execBackupDomainPowerOn s
  | .rtcShadowCapture core addr => Sys2Proof.Machine.execRtcShadowCapture core addr s
  | .rtcShadowFreezeEnd core => Sys2Proof.Machine.execRtcShadowFreezeEnd core s
  | .plantTimeCheck plantSeconds => Sys2Proof.Machine.execPlantTimeCheck plantSeconds s
  | .operatingSeconds => Sys2Proof.Machine.execOperatingSeconds s
  | .wdgKeyArm core value => Sys2Proof.Machine.execWdgKeyArm core value s
  | .wdgKeyService core value => Sys2Proof.Machine.execWdgKeyService core value s
  | .wdgKeyBad core value => Sys2Proof.Machine.execWdgKeyBad core value s
  | .wdgPairWindowTimeout => Sys2Proof.Machine.execWdgPairWindowTimeout s
  | .wdgCtrlWrite core value => Sys2Proof.Machine.execWdgCtrlWrite core value s
  | .watchdogExpiry => Sys2Proof.Machine.execWatchdogExpiry s
  | .clockStop rc => Sys2Proof.Machine.execClockStop rc s
  | .freezeN => Sys2Proof.Machine.execFreezeN s
  | .frzCmdFreeze core value => Sys2Proof.Machine.execFrzCmdFreeze core value s
  | .freezeNow q => Sys2Proof.Machine.execFreezeNow q s
  | .freezeHalt => Sys2Proof.Machine.execFreezeHalt s
  | .freezeLimitExpiry => Sys2Proof.Machine.execFreezeLimitExpiry s
  | .linksUpAfterRelease links => Sys2Proof.Machine.execLinksUpAfterRelease links s
  | .extest => Sys2Proof.Machine.execExtest s
  | .samplePreload => Sys2Proof.Machine.execSamplePreload s
  | .fzstat => Sys2Proof.Machine.execFzstat s
  | .fzaddr value => Sys2Proof.Machine.execFzaddr value s
  | .fzdata => Sys2Proof.Machine.execFzdata s
  | .fzrel => Sys2Proof.Machine.execFzrel s
  | .bypass => Sys2Proof.Machine.execBypass s
  | .recWsub core value => Sys2Proof.Machine.execRecWsub core value s
  | .recordToken code => Sys2Proof.Machine.execRecordToken code s
  | .recorderFreezeEnd => Sys2Proof.Machine.execRecorderFreezeEnd s
  | .recCtrlRfreeze core value => Sys2Proof.Machine.execRecCtrlRfreeze core value s
  | .recClr core value => Sys2Proof.Machine.execRecClr core value s
  | .logClear q => Sys2Proof.Machine.execLogClear q s
  | .nextRecord q => Sys2Proof.Machine.execNextRecord q s
  | .indexRebuildComplete => Sys2Proof.Machine.execIndexRebuildComplete s
  | .powerOn => Sys2Proof.Machine.execPowerOn s
  | .resetN => Sys2Proof.Machine.execResetN s
  | .sysSwrst core value => Sys2Proof.Machine.execSysSwrst core value s
  | .moduleResetRelease straps => Sys2Proof.Machine.execModuleResetRelease straps s
  | .loaderStart => Sys2Proof.Machine.execLoaderStart s
  | .firmwareStart => Sys2Proof.Machine.execFirmwareStart s
  | .updateBegin q => Sys2Proof.Machine.execUpdateBegin q s
  | .updateActivate q => Sys2Proof.Machine.execUpdateActivate q s
  | .updateAbort q => Sys2Proof.Machine.execUpdateAbort q s
  | .updateBlock q => Sys2Proof.Machine.execUpdateBlock q s
  | .verifyComplete => Sys2Proof.Machine.execVerifyComplete s
  | .registerRead core addr => Sys2Proof.Machine.execRegisterRead core addr s
  | .powerLoss => Sys2Proof.Machine.execPowerLoss s
  | .freezeNRise => Sys2Proof.Machine.execFreezeNRise s
  | .ringFrameForward ring port fcsOk frame => Sys2Proof.Machine.execRingFrameForward ring port fcsOk frame s
  | .enmCopyReturn ring frame => Sys2Proof.Machine.execEnmCopyReturn ring frame s
  | .stationPowerUp ring pos ident powerSafe => Sys2Proof.Machine.execStationPowerUp ring pos ident powerSafe s
  | .partnerUpdateTimeout => Sys2Proof.Machine.execPartnerUpdateTimeout s
  | .canReceiveError ctrl kind dataPhase => Sys2Proof.Machine.execCanReceiveError ctrl kind dataPhase s
  | .announceSend => Sys2Proof.Machine.execAnnounceSend s
  | .fullCopyChunk addr data => Sys2Proof.Machine.execFullCopyChunk addr data s

end Sys2Proof.Machine
end

