-- ==== Sys2Proof/Safety.lean ====
section
/-!
DEFINITION. Safety.lean: what counts as a safe run, and what no command may change: the commands that wait behind the one that is
taken, the factory values and pages (R632), the fuses (R712).
-/
namespace Sys2Proof

/-- A step from the state answers a next state. -/
def Completes (s : Machine.State) : Prop := ∃ t, Machine.step s = .next t

/-- `n` steps from the state all answer a next state. -/
def SafeFor : Nat → Machine.State → Prop
  | 0, _ => True
  | n + 1, s => ∃ t, Machine.step s = .next t ∧ SafeFor n t

namespace Machine

/-- A core executes outside an audit run, at a privilege that may write the register, and the register's block may be accessed
(R29, R140, R637): a write of a register that lies at the address is made. -/
abbrev MayWrite (s : State) (core : CoreId) (a : Nat) : Prop :=
  unitLive s core.val = true ∧ auditing s core.val = false ∧ regPermits (privOf s core.val) a true = true
    ∧ nvmGate s a true = true

/-- The same for a read. -/
abbrev MayRead (s : State) (core : CoreId) (a : Nat) : Prop :=
  unitLive s core.val = true ∧ auditing s core.val = false ∧ regPermits (privOf s core.val) a false = true
    ∧ nvmGate s a false = true

/-- A command answers a next state, of which a property holds. -/
def Answers (c : Instr) (s : State) (p : State → Prop) : Prop := ∃ t, exec c s = .next t ∧ p t

/-- A unit stands at an instruction with operation `op` whose fetch and operands raise nothing: it executes, a lane in a run, and the
words at its pc are that instruction; an audit run may make it; no access of an operand fails. `c` is what the instruction's meaning
works on, and `t` the state after the addressing steps, with the sources read (R140, R211, R220, R230). -/
def Stands (s : State) (u : Nat) (op : Op) (c : Ctx) (t : State) : Prop :=
  unitLive s u = true ∧ (isLane u = true → (s.unit u).inRun = true) ∧
  ∃ os g, fetchInsn s u = (some op, .ok (c.form, os)) ∧
    locsOf (s.unit u).g (s.unit u).pc (c.form.kinds.zip os) = (c.locs, g) ∧
    (auditing s u = true → auditForbids c.form.op = false ∧ touchesPeriph c.form.op c.locs = false) ∧
    (∀ t, blockCount (s.setUnit u { s.unit u with g := g }) u c.form.op c.locs ≠ some (0, t)) ∧
    operandsFault (s.setUnit u { s.unit u with g := g }) u c.form.op 1 c.locs = none ∧
    readAll (s.setUnit u { s.unit u with g := g }) u c.locs = (c.vals, t) ∧
    c.u = u ∧ c.pc = (s.unit u).pc ∧ c.next = ((s.unit u).pc + 4 * c.form.words) % 2 ^ 32

/-- A unit stands at a block instruction whose count can be read and is 0; `t` is the state after that read (R269). -/
def StandsAtZero (s : State) (u : Nat) (op : Op) (c : Ctx) (t : State) : Prop :=
  unitLive s u = true ∧ (isLane u = true → (s.unit u).inRun = true) ∧
  ∃ os g, fetchInsn s u = (some op, .ok (c.form, os)) ∧
    locsOf (s.unit u).g (s.unit u).pc (c.form.kinds.zip os) = (c.locs, g) ∧
    (auditing s u = true → auditForbids c.form.op = false ∧ touchesPeriph c.form.op c.locs = false) ∧
    blockCount (s.setUnit u { s.unit u with g := g }) u c.form.op c.locs = some (0, t) ∧
    c.u = u ∧ c.pc = (s.unit u).pc ∧ c.next = ((s.unit u).pc + 4 * c.form.words) % 2 ^ 32

/-- What a resident loader serves: sessions, and the objects 0x1000 and 0x1040 (R713). -/
def loaderServes (q : JReq) : Bool :=
  q.msg.service.toNat == svcOpen || q.msg.service.toNat == svcAuth || q.msg.service.toNat == svcClose
    || q.msg.index == 0x1000#16 || q.msg.index == 0x1040#16

/-- A request passes every gate of R484, R505, R507, R513 and R515 and is served with a role: `u` is the state in which it is, with the
frame counted and the session's SEQ moved on. -/
def Served (s : State) (q : JReq) (role : Nat) (u : State) : Prop :=
  halted s = false ∧ s.jrn.phase ≠ 0 ∧ s.jrn.phase ≠ 1 ∧ s.jrn.phase ≠ 2 ∧ s.flag JRN_CTRL_EN = true ∧ msgBad q = false ∧
  (s.boot.stage = .firmware ∨ isEth q.src = true ∧ loaderServes q = true) ∧ q.msg.target = 0xFFFF#16 ∧
  ∃ slot t, t = (if isEth q.src then s.modJrn fun j => { j with rxFrames := j.rxFrames + 1 } else s) ∧
    gate t q = .go role slot ∧ noRoom t q.src = false ∧ u = acceptSeq t slot q.src

/-- The value that a write completes, and the state with its assembly closed: the data of a request without PART, or an assembly of
the same source with the part that is its last; `none` where no value is complete (R502). -/
def wholeValue (u : State) (q : JReq) : Option (State × List Byte) :=
  let key := objKey q.msg.index.toNat q.msg.sub.toNat
  if bit q.msg.flags.toNat 1 = false then some (u, q.msg.data)
  else if bit q.msg.flags.toNat 0 = false then none
  else
    match u.jrn.parts.get none key with
    | none => if q.msg.offset = 0#32 then some (setPart u key none, q.msg.data) else none
    | some p =>
      if sameSource p.src q.src = true ∧ q.msg.offset.toNat = p.bytes.length ∧ p.bytes ≠ [] then
        some (setPart u key none, p.bytes ++ q.msg.data)
      else none

/-- What follows the effect of a value's write: an answer that comes later, a refusal's status, or what is stored, shared with the
partner and answered (R484, R486, R489). -/
def afterWrite (u : State) (q : JReq) (role : Nat) (d : ObjDef) (bs : List Byte) (e : State × Option Nat) : State :=
  let index := q.msg.index.toNat
  let sub := q.msg.sub.toNat
  let done (t : State) (st : Nat) : State := reply t (engineObject u index sub) q role (msgAnswer q.msg st [])
  match e.2 with
  | none => e.1
  | some 0 =>
    if !d.persistent then done (shareWrite e.1 index sub d bs) 0
    else if d.engine then shareWrite (e.1.persist (objKey index sub) bs (some q)) index sub d bs
    else done (shareWrite (afterStore (e.1.persistNow (objKey index sub) bs) index) index sub d bs) 0
  | some st => done e.1 st

/-- The bytes of the MRAM array in the factory pages (R631). -/
def factoryPages (m : Mem) : Mem := m.filter fun e => decide (0xFF0000 ≤ e.1)

/-- What no command reaches: the queue of waiting commands, the factory values, the key hash in the fuses, the factory pages. -/
def State.locked (s : State) : List Instr × Tbl (List Byte) × List Byte × Mem :=
  (s.pending, s.nv.factory, s.boot.fuse, factoryPages s.mem.mram)

/-- The canonical form of the memories: addresses strictly rise, and no entry equals what an unlisted byte reads as, which is 0xFF in
flash and firmware memory and 0 in the others (log 3). -/
def Memories.wf (m : Memories) : Bool :=
  Tbl.wf 0 m.code && Tbl.wf 0 m.sram && Tbl.wf 0 m.trace && Tbl.wf 0xFF m.fw && Tbl.wf 0 m.rom && Tbl.wf 0 m.mram
    && Tbl.wf 0xFF m.flash && Tbl.wf 0 m.safety

end Machine

end Sys2Proof
end

