-- ==== Sys2Proof/WellFormed.lean ====
section
/-!
DEFINITION. WellFormed.lean: the commands that say what their row of the table says: a register row's value holds the bit that is
its command, a dictionary row's request names its object, a frame has a length that frames have. A term that fails is no command
of its row; a general row (REGISTER_WRITE, WRITE, READ) takes it.
-/
namespace Sys2Proof

/-- A Phider frame's DATA is no longer than LEN allows (R282). -/
def PFrame.wf (f : PFrame) : Bool := decide (f.data.length ≤ 1472)

/-- A frame of the rings: a Phider frame, or a PTP frame that fits an Ethernet frame (R432). -/
def RingFrame.wf : RingFrame → Bool
  | .phider f => f.wf
  | .ptp bs _ => decide (bs.length ≤ 1500)

/-- The data bytes that a DLC means (R579). -/
def dlcBytes (fdf : Bool) (dlc : Nat) : Nat :=
  if dlc ≤ 8 then dlc else if !fdf then 8 else [12, 16, 20, 24, 32, 48, 64].getD (dlc - 9) 64

/-- A CAN frame: 11 bits of identifier without IDE; the data that its DLC means, and none in a remote frame, which is classical; bit
rate switching in FD frames only (R579). -/
def CanFrame.wf (f : CanFrame) : Bool :=
  (f.ide || decide (f.id.toNat < 2048)) && (f.fdf || (!f.brs && !f.esi)) && !(f.fdf && f.rtr)
    && f.data.length == (if f.rtr then 0 else dlcBytes f.fdf f.dlc.toNat)

/-- A request of a service for a subindex of one of `n` objects from an index. -/
def asks (q : JReq) (svc index n sub : Nat) : Bool :=
  q.msg.service.toNat == svc && decide (index ≤ q.msg.index.toNat) && decide (q.msg.index.toNat < index + n)
    && q.msg.sub.toNat == sub

/-- The five registers whose read captures the shadow (R649). -/
def rtcTimeAddr (a : Word) : Bool := [0xF0100000#32, 0xF0100004#32, 0xF0100008#32, 0xF010000C#32, 0xF0100014#32].contains a

/-- The words that LOOP_RECORD_WRITE's two writers name (R368). -/
def LoopWriter.wf (w : LoopWriter) (loop : Fin 4096) (sub : Fin 32) : Bool :=
  match w with
  | .core _ => true
  | .jurno q => asks q 0x02 (0x6000 + loop.val) 1 (sub.val + 1) && q.msg.data.length == 4

/-- A command is one of its row. -/
def Instr.wf : Instr → Bool
  | .sysIslrst _ value => value.extractLsb' 4 28 == 0#28
  | .tskGctrlStart _ value => value.getLsbD 0
  | .tskGctrlStop _ value => value.getLsbD 1
  | .programWarmStart q => asks q 0x02 0x4021 1 2 && q.msg.data == [1#8]
  | .programColdStart q => asks q 0x02 0x4021 1 2 && q.msg.data == [2#8]
  | .programStopCommand q => asks q 0x02 0x4021 1 2 && q.msg.data == [3#8]
  | .tskWdctrlEnable _ value => value.getLsbD 0
  | .forceRecord q => asks q 0x02 0x4022 1 5
  | .removeAllForces q => asks q 0x02 0x4022 1 3 && q.msg.data == [1#8]
  | .gzCmdEqclr _ value => value.getLsbD 8
  | .gzCmdAudreq _ value => value.getLsbD 9
  | .clearEquivalenceFault q => asks q 0x02 0x4100 1 7
  | .requestAudit q => asks q 0x02 0x4100 1 8
  | .editRecord q => asks q 0x02 0x4101 1 1
  | .stagingRecord q => asks q 0x02 0x4102 1 1
  | .segStgnumValid _ value => value.getLsbD 31
  | .segStgnumWithdraw _ value => !value.getLsbD 31
  | .segStgctrlCommit _ value => value.getLsbD 0
  | .segStgctrlAbort _ value => value.getLsbD 1
  | .stagingCommit q => asks q 0x02 0x4102 1 2 && q.msg.data == [1#8]
  | .stagingAbort q => asks q 0x02 0x4102 1 2 && q.msg.data == [2#8]
  | .laneClctrlFlush _ _ value => value.getLsbD 1
  | .probeCopyReturn _ _ _ frame => frame.wf
  | .copyReturn _ _ _ frame => frame.wf
  | .phrCtrlEnum _ value => value.extractLsb' 8 4 != 0#4
  | .stationLatch _ stn inputs => stn != 0#8 && decide (inputs.length ≤ 1472)
  | .stationFrame _ a frame _ => a.pos != 0#8 && frame.wf
  | .stationEnm _ a frame => a.pos != 0#8 && frame.wf
  | .stationStrike _ stn => stn != 0#8
  | .holdTimeExpiry _ stn => stn != 0#8
  | .loopRecordWrite w l k _ => w.wf l k
  | .lpeMaxlatClear _ value => value == 0#32
  | .trcCmdArm _ _ value => value.getLsbD 0
  | .trcCmdStop _ _ value => value.getLsbD 1
  | .trcCmdForce _ _ value => value.getLsbD 2
  | .traceArm q => asks q 0x02 0x7010 8 0x0D && q.msg.data == [1#8]
  | .traceStop q => asks q 0x02 0x7010 8 0x0D && q.msg.data == [2#8]
  | .traceForce q => asks q 0x02 0x7010 8 0x0D && q.msg.data == [3#8]
  | .traceReadData q => asks q 0x01 0x7010 8 0x12
  | .ledgerUpdate _ islandUj => islandUj.length == 4
  | .temperatureRead islands _ => islands.length == 4
  | .thermalResetRelease temps => temps.length == 4
  | .paceRead paces => paces.length == 4
  | .peakTemperatureReset q => asks q 0x02 0x1400 1 0x0E
  | .plannedSwitchover q => asks q 0x02 0x1800 1 7 && q.msg.data == [1#8]
  | .hsbCmdSwitch _ value => value.getLsbD 0
  | .resynchronise q => asks q 0x02 0x1800 1 7 && q.msg.data == [2#8]
  | .hsbCmdResync _ value => value.getLsbD 1
  | .declareFailed q => asks q 0x02 0x1800 1 7 && q.msg.data == [3#8]
  | .hsbCmdFail _ value => value.getLsbD 2
  | .read q => q.msg.service == 0x01#8
  | .write q => q.msg.service == 0x02#8
  | .gwrite q => q.msg.service == 0x03#8
  | .describe q => q.msg.service == 0x04#8
  | .readtime q => q.msg.service == 0x05#8
  | .open q => q.msg.service == 0x10#8
  | .auth q => q.msg.service == 0x11#8
  | .close q => q.msg.service == 0x12#8
  | .jrnDoneSend _ value => value.getLsbD 0
  | .unlock q => asks q 0x02 0x1031 1 1
  | .calibrationClear q => asks q 0x02 0x3FFF 1 1 && q.msg.data == [1#8]
  | .dioFcmdRelease _ value => value.getLsbD 1
  | .dioFcmdSafe _ value => value.getLsbD 0
  | .fieldRelease q => asks q 0x02 0x7100 1 3 && q.msg.data == [1#8]
  | .liveBitClear analogue ch _ => decide (ch.val < if analogue then 8 else 32)
  | .zeroTrim q => asks q 0x02 0x7140 8 0x0E
  | .spanTrim q => asks q 0x02 0x7140 8 0x0F
  | .trimButtonsEnable q => asks q 0x02 0x7150 1 4
  | .canEnable _ _ value => value.getLsbD 0
  | .canRecov _ _ value => value.getLsbD 7
  | .recoverFromBusOff q => asks q 0x02 0x7200 2 0x0A && q.msg.data == [1#8]
  | .canTxRequest _ _ _ value => value.getLsbD 9
  | .canTxAbort _ _ _ value => value.getLsbD 10
  | .canRxpop _ _ value => value.getLsbD 0
  | .canFilterEnable _ _ _ value => value.getLsbD 31
  | .canFrameReceived _ frame => frame.wf
  | .safetyReset q => asks q 0x02 0x7300 1 7 && q.msg.data == [1#8]
  | .safCmdSreset _ value => value.getLsbD 0
  | .confirmCheckValue q => asks q 0x02 0x7300 1 4
  | .safetyProgramWrite q => asks q 0x02 0x7300 1 2
  | .axisReset q => asks q 0x02 0x7310 8 0x0F && q.msg.data == [1#8]
  | .flashErase _ value => value.extractLsb' 0 2 == 1#2
  | .flashProgram _ value => value.extractLsb' 0 2 == 2#2
  | .blockProtection q => asks q 0x02 0x1F00 1 1
  | .rtcArm _ value => value.getLsbD 0
  | .rtcSetTime q => asks q 0x02 0x1E00 1 1
  | .rtcBkcommit _ value => value.getLsbD 1
  | .backupMemoryWrite q => asks q 0x02 0x1E01 1 1
  | .backupMemoryClear q => asks q 0x02 0x1E01 1 2 && q.msg.data == [1#8]
  | .rtcShadowCapture _ addr => rtcTimeAddr addr
  | .wdgKeyArm _ value => value.extractLsb' 0 16 == 0x5A3C#16
  | .wdgKeyService _ value => value.extractLsb' 0 16 == 0xC3A5#16
  | .wdgKeyBad _ value => value.extractLsb' 0 16 != 0x5A3C#16
  | .frzCmdFreeze _ value => value.getLsbD 0
  | .freezeNow q => asks q 0x02 0x1C10 1 2 && q.msg.data == [1#8]
  | .logClear q => asks q 0x02 0x1C20 1 0x0B
  | .nextRecord q => asks q 0x01 0x1C21 1 2
  | .updateBegin q => asks q 0x02 0x1040 1 1 && q.msg.data == [1#8]
  | .updateActivate q => asks q 0x02 0x1040 1 1 && q.msg.data == [2#8]
  | .updateAbort q => asks q 0x02 0x1040 1 1 && q.msg.data == [3#8]
  | .updateBlock q => asks q 0x02 0x1040 1 3
  | .ringFrameForward _ _ _ frame => frame.wf
  | .enmCopyReturn _ frame => frame.wf
  | .fullCopyChunk addr data => decide (addr.toNat + data.length ≤ 2 ^ 32)
  | .registerWrite _ _ _ | .eventDelivery _ | .evcRaise _ _ | .islandResetComplete _ | .sampleInstant _
  | .exchangeCopyComplete _ | .inputDeadline _ | .releaseComplete _ | .strikeInstant _ | .strikeMiss _
  | .eventTaskReleaseTimeout _ | .executionTimeExceeded _ | .preparingEnd | .programRunningEntry | .taskWatchdogWindowEnd
  | .idleAuditStart _ | .auditRunEnd _ | .gzCtrlAuden _ _ | .segStgdata _ _ | .buildingComplete | .validationComplete
  | .gzSubdataAccess _ _ | .mov _ | .ldg _ | .ldgp _ | .exts _ | .extz _ | .lea _ | .rdtb _ | .add _ | .sub _ | .mul _
  | .mulhs _ | .mulhu _ | .div _ | .divu _ | .rem _ | .remu _ | .neg _ | .abs _ | .min _ | .max _ | .sqrt _ | .cvtif _
  | .cvtlf _ | .cvtfi _ | .trnfi _ | .cvtfl _ | .trnfl _ | .cvtff _ | .and _ | .or _ | .xor _ | .not _ | .shl _ | .shr _
  | .sar _ | .rol _ | .ror _ | .ceq _ | .cne _ | .clt _ | .cle _ | .cltu _ | .cleu _ | .band _ | .bor _ | .bxor _ | .bandn _
  | .born _ | .bnot _ | .redge _ | .fedge _ | .ton _ | .tof _ | .tp _ | .tet _ | .ctu _ | .ctd _ | .cld _ | .crst _ | .bra _
  | .bz _ | .bnz _ | .call _ | .ret _ | .endPass _ | .rte _ | .nop _ | .movb _ | .fill _ | .crcc _ | .scpy _ | .scat _ | .slen _
  | .scmp _ | .sfnd _ | .mfs _ | .mts _ | .wfe _ | .wtu _ | .sev _ | .trap _ | .wfeWake _ | .wtuWake _
  | .coreResetComplete _ | .probeSend _ | .probeCopyTimeout _ _ | .transactionIssue _ | .transactionExpiry _
  | .phrEpochWrite _ _ | .phrTxselWrite _ _ | .ptpMessage _ | .ptpSyncSend | .enumerationComplete _ _ | .announceReceiptTimeout | .loopSampleInstant _
  | .loopExecutionStart _ | .loopExecutionComplete _ | .loopPublication _ | .traceRecordWrite _ _ | .thermalLimitTimeout
  | .thermalShutdown | .catchUp _ | .sliceGrant _ _ | .sliceEnd _ | .forcedScrub | .nrgTjWrite _ _ | .heartbeatSend
  | .heartbeatReceive _ _ | .noticeReceive _ _ | .pathLoss _ | .startingListenEnd | .takeoverIssue | .inputRecord _
  | .controlRecord _ | .groupsRecord _ | .dataRecord _ | .loopsRecord _ | .endRecord _ | .ledgerRecord _ | .ledgerRecordSend
  | .recordAcknowledgement _ _ | .endRecordTimeout _ | .fullCopyComplete | .pairCompatibilityFrame _ | .updateRelay _
  | .switchoverAckTimeout | .handover | .feedStateChange _ _ _ | .powerFailWarning | .saveComplete | .arpRequest _ _ _
  | .icmpEcho _ _ _ | .partAssemblyTimeout _ _ | .sessionAuthTimeout _ | .sessionInactivity _ | .addressLockoutEnd _
  | .canSegmentTimeout _ _ | .unlockExpiry _ | .jurnoPhaseRecall | .fieldSideUpdate _ _ _ | .localInputDelivery _
  | .linkFrame | .silenceTimeout | .rawLevelChange _ _ | .debounceExpiry _ | .encoderEdge _ _ _ | .ovl _ | .ot _ | .rberr _
  | .vflow _ | .vfhigh _ | .analogConversion _ _ _ | .compl _ | .complClear _ | .rbfault _ | .trimDriveTimeout _
  | .zeroButtonHold | .spanButtonHold | .clearButtonHold | .aioTrimEn _ _ | .dioEncctrlEn _ _ _ | .dioEnccntWrite _ _ _
  | .canIntegrationComplete _ | .canRecoveryComplete _ | .canTxAttemptEnd _ _ _ _ | .safetyCycle _ | .safetyInitTimeout
  | .safetyCycleOverrun | .safetyWatchdogExpiry | .lockstepMismatch | .safetySupplyFault | .safetyFrameSend | .safetySilence
  | .connectionWatchdog _ | .safetyInputDiscrepancy _ | .testPulse _ _ | .stoDarkPulse _ _ _ | .recallComplete
  | .nvmSyncRead _ | .postedWriteComplete _ | .flashOperationComplete _ | .nvmProtWrite _ _ | .rtcSecondBoundary
  | .rtcStageWrite _ _ _ | .rtcCompensation _ _ | .rtcSwitchToVbat _ | .rtcSwitchToRail _ | .backupDomainPowerOn
  | .rtcShadowFreezeEnd _ | .plantTimeCheck _ | .operatingSeconds | .wdgPairWindowTimeout | .wdgCtrlWrite _ _
  | .watchdogExpiry | .clockStop _ | .freezeN | .freezeHalt | .freezeLimitExpiry | .linksUpAfterRelease _ | .extest
  | .samplePreload | .fzstat | .fzaddr _ | .fzdata | .fzrel | .bypass | .recWsub _ _ | .recordToken _ | .recorderFreezeEnd
  | .recCtrlRfreeze _ _ | .recClr _ _ | .indexRebuildComplete | .powerOn | .resetN | .sysSwrst _ _ | .moduleResetRelease _
  | .loaderStart | .firmwareStart | .verifyComplete | .registerRead _ _ | .powerLoss | .freezeNRise
  | .stationPowerUp _ _ _ _ | .partnerUpdateTimeout | .canReceiveError _ _ _ | .announceSend => true

end Sys2Proof
end

