-- ==== Sys2Proof/Certificates/Slice0/Obligations.lean ====
section
/-!
DEFINITION. Obligations.lean: the statements about the model, family by family. Each docstring names the rule that it formalises;
where a clause rests on a choice of the model, it says so and names the log entry.
-/
section

open Sys2Proof Sys2Proof.Machine

/-! ### The queue and the step -/

/-- A step takes the command at the front of the queue and runs it on the state with the rest of the queue. With no command waiting the
block idles: a nanosecond passes and nothing else changes, which is the model's choice (log 4). -/
def Obligations.StepRunsFront : Prop :=
  (∀ (c : Instr) (rest : List Instr) (s : State), step { s with pending := c :: rest } = exec c { s with pending := rest }) ∧
  (∀ s : State, s.pending = [] → step s = .next { s with now := s.now + 1 })

/-- The invariant of the locked part: whatever the factory values, the fuses and the factory pages of the MRAM are, a step leaves
them as they are, and takes just one command from the queue (R632). -/
def Obligations.StepKeepsFactory : Prop :=
  ∀ (f : Tbl (List Byte)) (h : List Byte) (m : Mem) (q : List Instr) (s t : State),
    s.nv.factory = f → s.boot.fuse = h → factoryPages s.mem.mram = m → s.pending = q → step s = .next t →
    t.nv.factory = f ∧ t.boot.fuse = h ∧ factoryPages t.mem.mram = m ∧ t.pending = q.tail

/-- After reset the locked part is that of a new module: no factory value is listed, no fuse byte, nothing in the pages, and no
command waits. The model lists a module's factory data only where its state is given with them (log 12). -/
def Obligations.ResetFactory : Prop :=
  State.reset.nv.factory = [] ∧ State.reset.boot.fuse = [] ∧ factoryPages State.reset.mem.mram = [] ∧ State.reset.pending = []

/-- What reset leaves (R7, R30, R88, R95, R192, R231): the supervisor core at the first byte of the boot ROM with supervisor
privilege, the program STOPPED, the memories in canonical form, a general register 0 (DESIGN CHOICE, log 5), and in registers the
reset values of their maps. -/
def Obligations.ResetLeaves : Prop :=
  (State.reset.unit 4).pc = 0xFFFF0000 ∧ privOf State.reset 4 = 2 ∧ State.reset.stopped = true ∧
  State.reset.boot.held = true ∧ State.reset.mem.wf = true ∧ (State.reset.unit 0).g = List.replicate 16 0 ∧
  State.reset.fld SYS_ID_VENDOR = 0x59A1 ∧ State.reset.fld SYS_DOMSTAT_ISLAND = 15 ∧
  (∀ k : Fin 24, State.reset.fld (TSK_CTRL_PRIO k.val) = k.val) ∧
  (∀ a : Nat, State.reset.reg a = toWord (regReset a))

/-! ### Events (R34 to R43, R226) -/

/-- EVENT_DELIVERY: a latched pulse goes to the destinations of its route, and is latched no longer. Where they are cores only, each
that does not wait for its reset gains the source in its EVPEND, no other core does, and memory, image, tasks and every register but
EVC_OVFCNT and EVC_STAT stay. Where Gauze is among them and the recorder is not, the program runs and no enabled event task is bound
to the source, each enabled trigger on it marks its segment, and memory, image and tasks stay (R37, R38, R134).
That a merged pulse counts once is a reading (log 21). -/
def Obligations.EventDelivery : Prop :=
  ∀ (n : Fin 128) (s : State), halted s = false → s.evc.latched.get 0 n.val ≠ 0 →
    let d := s.eventDests n.val (s.evc.latched.get 0 n.val)
    let u := { s with evc := { s.evc with latched := s.evc.latched.set 0 n.val 0 } }
    exec (.eventDelivery n) s = .next (deliver u n.val d) ∧
    (d < 32 → Answers (.eventDelivery n) s fun t =>
      (∀ c < 5, (t.unit c).evpend
        = if bit d c && !(s.unit c).halted then (s.unit c).evpend.add n.val else (s.unit c).evpend) ∧
      t.evc.latched.get 0 n.val = 0 ∧ t.mem = s.mem ∧ t.img = s.img ∧ t.tsk = s.tsk ∧
      ∀ a, a ≠ EVC_OVFCNT → a ≠ EVC_STAT → t.reg a = s.reg a) ∧
    (bit d 5 = true → bit d 15 = false → s.running = true →
      (∀ k < 24, 16 ≤ k → taskEn s k = true → s.fld (TSK_CTRL_EVSRC k) ≠ n.val) →
      Answers (.eventDelivery n) s fun t =>
        (∀ i < 32, s.flag (GZ_TRIG_EN i) = true → s.fld (GZ_TRIG_EVSRC i) = n.val →
          t.gz.trig.contains (s.fld (GZ_TRIG_SEGMENT i)) = true) ∧
        t.evc.latched.get 0 n.val = 0 ∧ t.mem = s.mem ∧ t.img = s.img ∧ t.tsk = s.tsk)

/-- EVC_RAISE: a write with a software event, EV96 to EV127, latches its pulse for its route; any other source sets BADRAISE and
latches nothing (R41). -/
def Obligations.EvcRaise : Prop :=
  ∀ (core : CoreId) (v : Word) (s : State), MayWrite s core EVC_RAISE →
    (96 ≤ wbits v 6 0 → exec (.evcRaise core v) s = .next (s.raise (wbits v 6 0)) ∧
      Answers (.evcRaise core v) s fun t =>
        t.evc.latched.get 0 (wbits v 6 0) = s.evc.latched.get 0 (wbits v 6 0) ||| 0x4000 ∧ t.mem = s.mem ∧ t.units = s.units) ∧
    (wbits v 6 0 < 96 → Answers (.evcRaise core v) s fun t =>
      t.flag EVC_STAT_BADRAISE = true ∧ t.evc = s.evc ∧ t.mem = s.mem ∧ t.units = s.units ∧
      ∀ a, a ≠ EVC_STAT → t.reg a = s.reg a)

/-! ### Any register (R7, R9, R29) -/

/-- REGISTER_WRITE: a write that the register's block takes has that effect, and tells a partner what it changes of the configuration.
In a register that only holds its fields the RW fields take the bits written, the W1C bits written 1 are cleared, and every other bit,
every other register, memory and the units stay (R7). A write at an address that is no multiple of 4, of a core that executes, is refused with cause 0x04 (R9); one that privilege,
the block or the lack of a register does not permit, with cause 0x03 (R29). -/
def Obligations.RegisterWrite : Prop :=
  ∀ (core : CoreId) (a v : Word) (s : State), unitLive s core.val = true → auditing s core.val = false →
    areaOf a.toNat = some .periph →
    (∀ t, a.toNat % 4 = 0 → registerWrite s core.val a.toNat v = some t → exec (.registerWrite core a v) s = .next t) ∧
    (∀ d, MayWrite s core a.toNat → regDefAt a.toNat = some d →
      a.toNat ∈ [GZ_SUBSEL, GZ_DIRSEL, SEG_HSEL, SEG_STGSEL, LPE_RSEL, JRN_SLOTSEL, EVC_STAT, TSK_WDMASK, TSK_WDAUTO, REC_WSRC,
        DIO_OWNSEL, NVM_FADDR] →
      Answers (.registerWrite core a v) s fun t =>
        t.reg a.toNat = toWord (d.written v.toNat (s.reg a.toNat).toNat) ∧ (∀ b, b ≠ a.toNat → t.reg b = s.reg b) ∧
        t.mem = s.mem ∧ t.units = s.units) ∧
    (a.toNat % 4 ≠ 0 → exec (.registerWrite core a v) s
      = .next (raiseExc s core.val exMisaligned 1 a.toNat (s.unit core.val).pc)) ∧
    (a.toNat % 4 = 0 → regPermits (privOf s core.val) a.toNat true = false ∨ regThere a.toNat = false →
      exec (.registerWrite core a v) s = .next (raiseExc s core.val exAccess 1 a.toNat (s.unit core.val).pc))

/-- REGISTER_READ: the core gets the word that the register shows, and the fields with access code RC are cleared; a read that is not
permitted raises cause 0x03, a misaligned one cause 0x04 (R7, R9, R29). -/
def Obligations.RegisterRead : Prop :=
  ∀ (core : CoreId) (a : Word) (s : State), unitLive s core.val = true → auditing s core.val = false →
    areaOf a.toNat = some .periph →
    (a.toNat % 4 = 0 → periphReadable s core.val a.toNat = true →
      Answers (.registerRead core a) s fun t =>
        t.rdata = toWord (periphRead s core.val a.toNat).1 ∧ t.regs = (periphRead s core.val a.toNat).2.regs ∧
        t.mem = (periphRead s core.val a.toNat).2.mem) ∧
    (a.toNat % 4 = 0 → periphReadable s core.val a.toNat = true → isRtcFive a.toNat = false → a.toNat ≠ NVM_SYNC →
      a.toNat ≠ GZ_SUBDATA →
      Answers (.registerRead core a) s fun t =>
        t.rdata = toWord (regPeek s a.toNat) ∧ (∀ b, b ≠ a.toNat → t.reg b = s.reg b) ∧ t.mem = s.mem ∧ t.units = s.units) ∧
    (a.toNat % 4 ≠ 0 → exec (.registerRead core a) s
      = .next (raiseExc s core.val exMisaligned 2 a.toNat (s.unit core.val).pc)) ∧
    (a.toNat % 4 = 0 → periphReadable s core.val a.toNat = false →
      exec (.registerRead core a) s = .next (raiseExc s core.val exAccess 2 a.toNat (s.unit core.val).pc))

/-! ### Resets of islands and of the module by registers (R22, R33, R711, R733) -/

/-- SYS_ISLRST and ISLAND_RESET_COMPLETE: in STOPPED each island named in bits [3:0] is reset: its SYS_DOMSTAT bit reads 0, until the
completion sets it, and every lane of its two clusters stands as after a reset; memory, image and tasks stay. A write that names an
island while the program is not STOPPED is refused with an access fault, and one that names none changes nothing (R22, R33). -/
def Obligations.IslandReset : Prop :=
  (∀ (core : CoreId) (v : Word) (s : State), MayWrite s core SYS_ISLRST → s.stopped = true →
    exec (.sysIslrst core v) s = .next (((List.range 4).filter (wbit v)).foldl islandReset s) ∧
    Answers (.sysIslrst core v) s fun t =>
      (∀ i < 4, wbit v i = true → bit (t.fld SYS_DOMSTAT_ISLAND) i = false ∧
        ∀ j < 8, t.unit (16 + 8 * i + j) = {} ∧ t.unit (48 + 8 * i + j) = {}) ∧
      t.mem = s.mem ∧ t.img = s.img ∧ t.tsk = s.tsk) ∧
  (∀ (core : CoreId) (v : Word) (s : State), MayWrite s core SYS_ISLRST → s.stopped = false →
    (wbits v 3 0 ≠ 0 → exec (.sysIslrst core v) s = .next (raiseExc s core.val exAccess 1 SYS_ISLRST (s.unit core.val).pc)) ∧
    (wbits v 3 0 = 0 → exec (.sysIslrst core v) s = .next s)) ∧
  (∀ (i : Fin 4) (s : State), halted s = false →
    Answers (.islandResetComplete i) s fun t =>
      bit (t.fld SYS_DOMSTAT_ISLAND) i.val = true ∧ (∀ a, a ≠ SYS_DOMSTAT → t.reg a = s.reg a) ∧ t.mem = s.mem ∧
        t.units = s.units)

/-- SYS_SWRST: with its key, and no power-fail warning in progress, the module is reset with source 6, and MODE is kept for the
loader; the program is STOPPED and the memories that a reset clears list nothing. With another key nothing happens (R711, R733). -/
def Obligations.SoftwareReset : Prop :=
  ∀ (core : CoreId) (v : Word) (s : State), MayWrite s core SYS_SWRST →
    (wbits v 31 16 = 0x7E51 → s.boot.pfw = false → Answers (.sysSwrst core v) s fun t =>
      t.boot.held = true ∧ t.boot.sources = 2 ^ (srcSoftware - 1) ∧ t.boot.ldrReq = wbit v 0 ∧ t.stopped = true ∧
      t.mem.sram = [] ∧ t.mem.code = [] ∧ t.mem.mram = s.mem.mram ∧ t.mem.flash = s.mem.flash ∧ t.regs = []) ∧
    (wbits v 31 16 ≠ 0x7E51 → exec (.sysSwrst core v) s = .next s)

/-! ### The program (R87 to R91) -/

/-- TSK_GCTRL_START: START without STOP, from STOPPED on a module that acts, enters PREPARING, a cold start where COLD is set, a warm
start where it is not and the retentive data are there. It changes no data memory, no image and no unit, and where no ring value waits
for the start no memory at all. Otherwise than from STOPPED, or on a module that does not act, it does nothing (R88, R91). -/
def Obligations.ProgramStart : Prop :=
  ∀ (core : CoreId) (v : Word) (s : State), MayWrite s core TSK_GCTRL → wbit v 0 = true → wbit v 1 = false →
    (s.acts = true → s.stopped = true → wbit v 2 = true ∨ warmSource s = true →
      Answers (.tskGctrlStart core v) s fun t =>
        t.tsk.prog = .preparing ∧ t.tsk.cold = wbit v 2 ∧ t.tsk.prepEnd = none ∧ t.mem.sram = s.mem.sram ∧
        t.mem.code = s.mem.code ∧ t.mem.flash = s.mem.flash ∧ (s.phr.atStart = [] → t.mem = s.mem) ∧ t.img = s.img ∧
        t.units = s.units) ∧
    (s.acts = false ∨ s.stopped = false → exec (.tskGctrlStart core v) s = .next s)

/-- TSK_GCTRL_STOP: STOP, on a module that acts, is the program stop with cause 0x01 and task 0xFF; a START in the same write is
ignored (R88, R91). -/
def Obligations.ProgramStop : Prop :=
  ∀ (core : CoreId) (v : Word) (s : State), MayWrite s core TSK_GCTRL → wbit v 1 = true →
    (s.acts = true → exec (.tskGctrlStop core v) s = .next (stopCommand s)) ∧
    (s.acts = true → s.running = true → Answers (.tskGctrlStop core v) s fun t =>
      (t.tsk.prog = .stopping ∨ t.tsk.prog = .stopped) ∧ t.tsk.cause = 1 ∧ t.tsk.stopTask = 0xFF ∧ t.tsk.stopTime = s.now) ∧
    (s.acts = false → exec (.tskGctrlStop core v) s = .next s)

/-- A stop from RUNNING keeps its cause, the task that it names and its instant, and the program is STOPPING, or STOPPED where no
stop is to be acknowledged (R77, R80). -/
def Obligations.StopKeepsItsCause : Prop :=
  ∀ (s : State) (cause k : Nat), s.running = true →
    let t := programStop s cause k
    (t.tsk.prog = .stopping ∨ t.tsk.prog = .stopped) ∧ t.tsk.cause = cause ∧ t.tsk.stopTask = k ∧ t.tsk.stopTime = s.now

/-- PREPARING_END and PROGRAM_RUNNING_ENTRY: a configuration that fails a check, or whose claims are refused, ends PREPARING with a
stop of cause 0x06; else the program is set up, and enters RUNNING at its instant: SYS_OK is driven, a module that acts sends its
field side to RUN (R87 to R90, R530, R715).
The order of the checks and the task that the stop names are the model's choice (log 32). -/
def Obligations.ProgramRuns : Prop :=
  (∀ (s : State) (k : Nat), s.tsk.prog = .preparing → s.tsk.prepEnd = none → halted s = false →
    configBad (showBudget s) = some k → exec .preparingEnd s = .next (stopPreparing (showBudget s) 6 k)) ∧
  (∀ s : State, s.tsk.prog = .preparing → s.tsk.prepEnd = none → halted s = false →
    configBad (showBudget s) = none → (programClaim (showBudget s)).2 = false →
    exec .preparingEnd s = .next (stopPreparing (programClaim (showBudget s)).1 6 0xFF)) ∧
  (∀ s : State, s.tsk.prog = .preparing → s.tsk.prepEnd = none → halted s = false →
    configBad (showBudget s) = none → (programClaim (showBudget s)).2 = true →
    Answers .preparingEnd s fun t => t = setUp (programClaim (showBudget s)).1 ∧ t.tsk.prepEnd.isSome = true ∧
      t.tsk.wdStart = none) ∧
  (∀ s : State, s.tsk.prog = .preparing → s.tsk.prepEnd.isSome = true → halted s = false →
    Answers .programRunningEntry s fun t =>
      t.tsk.prog = .running ∧ t.tsk.prepEnd = none ∧ t.boot.ranSince = true ∧ t.flag SYS_SYSOK_DRIVE = true ∧
      t.now = max s.now s.tsk.runAt ∧ t.nv = (s.ctrUp ctrRun).nv ∧ t.mem = s.mem ∧
      t.field.cmds = s.field.cmds ++ if s.acts then [.state fsRun] else [])

/-! ### The task watchdog (R81 to R86, R104) -/

/-- TSK_WDCTRL_ENABLE and TASK_WATCHDOG_WINDOW_END: an enabling write takes WIN and STRICT, and the watched tasks that 0x4020 has
accepted; where R82 holds it sets EN, and while the program runs the first window begins; where it does not it sets BADCFG and leaves
EN 0. At a window's end a watched task that has not checked in stops the program with cause 0x03, the lowest-numbered one as its task;
TSK_WDMISS then holds the missing tasks and the bitmap is clear. Where none is missing the next window begins (R82, R86). -/
def Obligations.TaskWatchdog : Prop :=
  (∀ (core : CoreId) (v : Word) (s u : State), MayWrite s core TSK_WDCTRL → wdOn s = false → wbit v 0 = true →
    u = ((if wbit v 2 then s.setFlag TSK_WDCTRL_BADCFG false else s).setFld TSK_WDCTRL_WIN (wbits v 31 16)).setFlag
      TSK_WDCTRL_STRICT (wbit v 1) →
    (wdBad (wdMaps u) = none → Answers (.tskWdctrlEnable core v) s fun t =>
      wdOn t = true ∧ t.fld TSK_WDCTRL_WIN = wbits v 31 16 ∧ t.flag TSK_WDCTRL_STRICT = wbit v 1 ∧ t.mem = s.mem ∧
      (s.running = true → t.tsk.wdStart = some s.now ∧ t.fld TSK_WDSEEN_MAP = 0)) ∧
    (wdBad (wdMaps u) ≠ none → Answers (.tskWdctrlEnable core v) s fun t =>
      wdOn t = false ∧ t.flag TSK_WDCTRL_BADCFG = true ∧ t.tsk = s.tsk ∧ t.mem = s.mem)) ∧
  (∀ (s : State) (t0 miss : Nat), s.running = true → halted s = false → s.tsk.wdStart = some t0 →
    miss = s.fld TSK_WDMASK_MAP &&& (0xFFFFFF ^^^ s.fld TSK_WDSEEN_MAP) →
    (miss = 0 → Answers .taskWatchdogWindowEnd s fun t =>
      t.tsk.wdStart = some (t0 + wdW s) ∧ t.fld TSK_WDSEEN_MAP = 0 ∧ t.running = true ∧ t.mem = s.mem) ∧
    (miss ≠ 0 → Answers .taskWatchdogWindowEnd s fun t =>
      t.tsk.cause = 3 ∧ bit miss t.tsk.stopTask = true ∧ (∀ j < t.tsk.stopTask, bit miss j = false) ∧ t.running = false ∧
        t.fld TSK_WDMISS_MAP = miss ∧ t.fld TSK_WDSEEN_MAP = 0))

/-! ### The instants of a cycle (R49 to R56, R70 to R79) -/

/-- SAMPLE_INSTANT: after the strikes and publications that fall on it, T_s of an enabled cyclic task begins its cycle where the module
owns it, begins it in shadow on a partner that can, and else only moves the grid on; a cyclic task whose evaluation has not ended by its
next T_s is a cycle overrun, which stops the program with cause 0x02 (R54, R70, R78, R447). -/
def Obligations.SampleInstant : Prop :=
  ∀ (k : Fin 16) (s u : State), s.running = true → halted s = false → taskEn s k.val = true →
    u = handoverDone ((publishDue s (s.task k.val).nextTs).at (s.task k.val).nextTs) → u.running = true →
    let late := u.acts && (u.task k.val).active && !(u.task k.val).ended
      && (!(u.task k.val).shadow || ((u.task k.val).released && !switched u))
    let may := shadows u && !((u.task k.val).active && (u.task k.val).shadow && (u.task k.val).evaluating)
    (late = true → Answers (.sampleInstant k) s fun t =>
      t = programStop u 2 k.val ∧ t.tsk.cause = 2 ∧ t.tsk.stopTask = k.val ∧ t.tsk.stopTime = u.now ∧ t.running = false) ∧
    (late = false → owns u k.val = true → exec (.sampleInstant k) s = .next (sampleTask u k.val)) ∧
    (late = false → owns u k.val = false → may = true → exec (.sampleInstant k) s = .next (shadowSample u k.val)) ∧
    (late = false → owns u k.val = false → may = false → Answers (.sampleInstant k) s fun t =>
      t = skipSample u k.val ∧ (t.task k.val).nextTs = (u.task k.val).nextTs + taskP u k.val ∧ t.mem = u.mem ∧ t.img = u.img)

/-- INPUT_DEADLINE, EVENT_TASK_RELEASE_TIMEOUT, LOCAL_INPUT_DELIVERY: a cycle that is not released yet is released at its deadline
T_s + D, an event task's execution 20 µs after T_e: the cycle counts as released, and its release is in progress. A delivery of local
inputs is noted, and releases the cycle where every station of the task is committed; else the cycle waits on. A cycle that is released
already, or runs in shadow, has no deadline (R51, R74, R447, R529). -/
def Obligations.CycleRelease : Prop :=
  (∀ (k : Fin 16) (s : State), s.running = true → halted s = false → (s.task k.val).active = true →
    (s.task k.val).released = false → (s.task k.val).shadow = false → Answers (.inputDeadline k) s fun t =>
      t = release (s.at ((s.task k.val).ts + taskD s k.val)) k.val ∧ (t.task k.val).released = true ∧
      (t.task k.val).relBusy = true) ∧
  (∀ (k : TaskId) (s : State), s.running = true → halted s = false → 16 ≤ k.val → (s.task k.val).active = true →
    (s.task k.val).released = false → (s.task k.val).shadow = false → Answers (.eventTaskReleaseTimeout k) s fun t =>
      t = release (s.at ((s.task k.val).ts + 20000)) k.val ∧ (t.task k.val).released = true ∧ (t.task k.val).relBusy = true) ∧
  (∀ (k : TaskId) (s : State), s.running = true → halted s = false → (s.task k.val).active = true →
    (s.task k.val).released = false → (s.task k.val).shadow = false → s.field.link = true →
    (localInGroups s k.val).isEmpty = false →
    ((taskStations s k.val).all (fun key => s.img.comm.contains key) = true → Answers (.localInputDelivery k) s fun t =>
      t = release (deliverLocal s k.val) k.val ∧ (t.task k.val).released = true ∧ (t.task k.val).relBusy = true) ∧
    ((taskStations s k.val).any (fun key => key != localKey k.val && !s.img.comm.contains key) = true →
      Answers (.localInputDelivery k) s fun t =>
        t = deliverLocal s k.val ∧ t.img.comm.contains (localKey k.val) = true ∧ t.tsk = s.tsk ∧ t.mem = s.mem)) ∧
  (∀ (k : Fin 16) (s : State), (s.task k.val).released = true ∨ (s.task k.val).shadow = true →
    exec (.inputDeadline k) s = .next s)

/-- RELEASE_COMPLETE, EXCHANGE_COPY_COMPLETE, LOOP_EXECUTION_COMPLETE. The first of release and exchange copy to complete only ends, the
copy with the publications that it has held where no other copy is in progress. With the second of them the evaluation of the released
cycle begins at rank 0 and goes on: where a segment of that rank is pending the task is evaluating, and image and memory are as they
were. The end of a loop's execution frees its unit; the loop holds its output for t_L + 500 µs, and its new states as what is to
be saved; an evaluation of its host goes on (R51, R56, R353, R355). -/
def Obligations.EvaluationBegins : Prop :=
  (∀ (k : TaskId) (s : State), s.running = true → halted s = false → (s.task k.val).relBusy = true →
    ((s.task k.val).exchBusy = true →
      exec (.releaseComplete k) s = .next (s.modTask k.val fun t => { t with relBusy := false })) ∧
    ((s.task k.val).exchBusy = false → (s.task k.val).active = true → (s.task k.val).released = true →
      (s.task k.val).evaluating = false → (s.task k.val).ended = false →
      exec (.releaseComplete k) s
        = .next (goOn (s.modTask k.val fun t => { t with relBusy := false, evaluating := true, rank := 0 }) k.val) ∧
      ((∃ n ∈ s.gz.pending, (s.hdr n).cls ≠ 0 ∧ (s.hdr n).task = k.val ∧ (s.hdr n).rank = 0) → Answers (.releaseComplete k) s fun t =>
        (t.task k.val).evaluating = true ∧ (t.task k.val).rank = 0 ∧ (t.task k.val).relBusy = false ∧
        (∀ j, j ≠ k.val → t.task j = s.task j) ∧ t.img = s.img ∧ t.mem = s.mem))) ∧
  (∀ (k : TaskId) (s : State), s.running = true → halted s = false → (s.task k.val).exchBusy = true →
    let u := s.modTask k.val fun t => { t with exchBusy := false }
    ((s.task k.val).relBusy = true → exchanging u = true → exec (.exchangeCopyComplete k) s = .next u) ∧
    ((s.task k.val).relBusy = true → exchanging u = false → Answers (.exchangeCopyComplete k) s fun t =>
      t = applyHeld u ∧ t.tsk.held = [] ∧ (t.task k.val).exchBusy = false ∧ t.units = s.units ∧ t.mem = s.mem ∧ t.regs = s.regs) ∧
    ((s.task k.val).relBusy = false → (s.task k.val).active = true → (s.task k.val).released = true →
      (s.task k.val).evaluating = false → (s.task k.val).ended = false → s.tsk.held = [] →
      (∃ n ∈ s.gz.pending, (s.hdr n).cls ≠ 0 ∧ (s.hdr n).task = k.val ∧ (s.hdr n).rank = 0) → Answers (.exchangeCopyComplete k) s fun t =>
        (t.task k.val).evaluating = true ∧ (t.task k.val).rank = 0 ∧ (t.task k.val).exchBusy = false ∧
        (∀ j, j ≠ k.val → t.task j = s.task j) ∧ t.img = s.img ∧ t.mem = s.mem)) ∧
  (∀ (u : Fin 4) (s : State) (i : Nat) (e : LoopExec) (rest : Tbl LoopExec), s.running = true → halted s = false →
    Tbl.range s.lpe.units u.val 1 = (i, e) :: rest →
    exec (.loopExecutionComplete u) s = .next (goOn (loopComplete s u.val) (s.loop e.loop).host) ∧
    ((s.task (s.loop e.loop).host).evaluating = false → Answers (.loopExecutionComplete u) s fun t =>
      t.lpe.units = Tbl.erase s.lpe.units u.val ∧ t.lpe.queue = s.lpe.queue ∧
      (let l := ((s.loop e.loop).execute e.cap e.writes).loop
       ∃ o, (t.loop e.loop).out = some o ∧ o.t = e.tl + 500000 ∧ o.u = l.word 0x1D ∧ o.state = l.saved)))

/-- STRIKE_INSTANT, STRIKE_MISS, EXECUTION_TIME_EXCEEDED: T_o strikes the cycle once; an evaluation that has not ended after T_od is a
strike miss, which by MISSACT is counted or stops the program with cause 0x04; an event task's execution that has exceeded its
maximum time stops it with cause 0x05 (R50, R76, R79). -/
def Obligations.Strikes : Prop :=
  (∀ (k : Fin 16) (s : State), s.running = true → halted s = false →
    exec (.strikeInstant k) s = .next (handoverDone (strike s k.val)) ∧
    ((s.task k.val).active = true → (s.task k.val).struck = false → Answers (.strikeInstant k) s fun t =>
      t.running = true → (t.task k.val).struck = true)) ∧
  (∀ (k : Fin 16) (s : State), s.running = true → halted s = false → s.acts = true → (s.task k.val).active = true →
    (s.task k.val).ended = false → (s.task k.val).miss = false → (s.task k.val).shadow = false →
    (s.flag (TSK_CTRL_MISSACT k.val) = true → Answers (.strikeMiss k) s fun t =>
      (t.task k.val).miss = true ∧ t.flag (TSK_STAT_MISS k.val) = true ∧ t.running = true ∧
      (t.task k.val).missCnt = holdAt 0xFFFFFFFF ((s.task k.val).missCnt + 1) ∧ t.mem = s.mem ∧ t.img = s.img) ∧
    (s.flag (TSK_CTRL_MISSACT k.val) = false → Answers (.strikeMiss k) s fun t =>
      t.tsk.cause = 4 ∧ t.tsk.stopTask = k.val ∧ t.running = false)) ∧
  (∀ (k : TaskId) (s : State), s.running = true → halted s = false → 16 ≤ k.val → s.acts = true →
    (s.task k.val).active = true → (s.task k.val).ended = false →
    Answers (.executionTimeExceeded k) s fun t => t.tsk.cause = 5 ∧ t.tsk.stopTask = k.val ∧ t.running = false ∧
      t.tsk.stopTime = max s.now ((s.task k.val).ts + taskM s k.val + 1))


/-! ### Instructions (R191 to R275) -/

/-- The integer edges of R243: ADD, SUB and MUL give the true result modulo 2^w, with IOVF (8) just where it lies outside the signed
range; a divisor 0 and the most negative number over −1 give the table's results with DZERO (4) or DOVF (2), and the negation of the
most negative number gives it with NEG (1); elsewhere no integer condition is met. -/
def Obligations.IntegerEdges : Prop :=
  ∀ z ∈ szInt, ∀ a b : Nat, a < 2 ^ z.width → b < 2 ^ z.width →
    let w := z.width
    let x := signed w a
    let y := signed w b
    (∀ p ∈ [(aluAdd z a b, x + y), (aluSub z a b, x - y), (aluMul z a b, x * y)],
      (p.1.1 : Int) = p.2 % 2 ^ w ∧ p.1.2 = if p.2 < -2 ^ (w - 1) ∨ 2 ^ (w - 1) - 1 < p.2 then 8 else 0) ∧
    (b = 0 → aluDiv z a b = (0, 4) ∧ natDiv a b = (0, 4) ∧ intRem w a b = (a, 4) ∧ natRem a b = (a, 4)) ∧
    (x = -2 ^ (w - 1) → y = -1 → aluDiv z a b = (a, 2) ∧ intRem w a b = (0, 2)) ∧
    (b ≠ 0 → ¬(x = -2 ^ (w - 1) ∧ y = -1) →
      signed w (aluDiv z a b).1 = Int.tdiv x y ∧ signed w (intRem w a b).1 = Int.tmod x y ∧
      (aluDiv z a b).2 = 0 ∧ (intRem w a b).2 = 0 ∧ (natDiv a b).2 = 0 ∧ (natRem a b).2 = 0) ∧
    (x = -2 ^ (w - 1) → aluNeg z a = (a, 1) ∧ aluAbs z a = (a, 1)) ∧
    (x ≠ -2 ^ (w - 1) → signed w (aluNeg z a).1 = -x ∧ signed w (aluAbs z a).1 = x.natAbs ∧
      (aluNeg z a).2 = 0 ∧ (aluAbs z a).2 = 0) ∧
    (∀ big, (aluMinMax z big a b).2 = 0 ∧ signed w (aluMinMax z big a b).1 = if big then max x y else min x y)

/-- The instructions that end with a value and conditions for operand 1 (R240 to R254, R275): where a unit stands at one and the write
of its value to operand 1's location succeeds, the instruction completes with that write, and goes on at the next instruction.
When a floating result is tiny is a reading (log 24). -/
def Obligations.ValueInstructions : Prop :=
  ∀ (u : UnitId) (s t t' : State) (c : Ctx),
    let z := c.form.sz
    let a := c.two.1
    let b := c.two.2
    let w := z.width
    ∀ p ∈ [(Instr.mov u, Op.mov, (c.val 1, 0)),
        (Instr.exts u, Op.exts, (wrap (if z = .i32 then 64 else 32) (signed w (c.val 1)), 0)),
        (Instr.extz u, Op.extz, (c.val 1, 0)), (Instr.lea u, Op.lea, ((c.loc 1).addr, 0)),
        (Instr.rdtb u, Op.rdtb, (t.now % 2 ^ 64, 0)),
        (Instr.add u, Op.add, aluAdd z a b), (Instr.sub u, Op.sub, aluSub z a b), (Instr.mul u, Op.mul, aluMul z a b),
        (Instr.mulhs u, Op.mulhs, (mulHighS a b, 0)), (Instr.mulhu u, Op.mulhu, (mulHighU a b, 0)),
        (Instr.div u, Op.div, aluDiv z a b), (Instr.divu u, Op.divu, natDiv a b),
        (Instr.rem u, Op.rem, intRem w a b), (Instr.remu u, Op.remu, natRem a b),
        (Instr.min u, Op.min, aluMinMax z false a b), (Instr.max u, Op.max, aluMinMax z true a b),
        (Instr.neg u, Op.neg, aluNeg z c.one), (Instr.abs u, Op.abs, aluAbs z c.one),
        (Instr.sqrt u, Op.sqrt, z.fmt.sqrt c.one),
        (Instr.cvtif u, Op.cvtif, z.fmt.ofInt (signed 32 (c.val 1))), (Instr.cvtlf u, Op.cvtlf, z.fmt.ofInt (signed 64 (c.val 1))),
        (Instr.cvtfi u, Op.cvtfi, (wrap 32 (z.fmt.toInt 32 false (c.val 1)).1, (z.fmt.toInt 32 false (c.val 1)).2)),
        (Instr.trnfi u, Op.trnfi, (wrap 32 (z.fmt.toInt 32 true (c.val 1)).1, (z.fmt.toInt 32 true (c.val 1)).2)),
        (Instr.cvtfl u, Op.cvtfl, (wrap 64 (z.fmt.toInt 64 false (c.val 1)).1, (z.fmt.toInt 64 false (c.val 1)).2)),
        (Instr.trnfl u, Op.trnfl, (wrap 64 (z.fmt.toInt 64 true (c.val 1)).1, (z.fmt.toInt 64 true (c.val 1)).2)),
        (Instr.cvtff u, Op.cvtff, (if z = .f32 then fmt64 else fmt32).conv z.fmt (c.val 1)),
        (Instr.and u, Op.and, (a &&& b, 0)), (Instr.or u, Op.or, (a ||| b, 0)), (Instr.xor u, Op.xor, (a ^^^ b, 0)),
        (Instr.not u, Op.not, (2 ^ w - 1 - c.one % 2 ^ w, 0)),
        (Instr.shl u, Op.shl, (if w ≤ b then 0 else a * 2 ^ b % 2 ^ w, 0)), (Instr.shr u, Op.shr, (a / 2 ^ b * b2n (decide (b < w)), 0)),
        (Instr.sar u, Op.sar, (wrap w (signed w a / (2 ^ (Nat.min b w) : Nat)), 0)),
        (Instr.rol u, Op.rol, (rotLeft w a b, 0)), (Instr.ror u, Op.ror, (rotRight w a b, 0)),
        (Instr.ceq u, Op.ceq, (b2n (cmpEq z (c.val 1) (c.val 2)).1, (cmpEq z (c.val 1) (c.val 2)).2)),
        (Instr.cne u, Op.cne, (b2n (!(cmpEq z (c.val 1) (c.val 2)).1), (cmpEq z (c.val 1) (c.val 2)).2)),
        (Instr.clt u, Op.clt, (b2n (cmpLt z (c.val 1) (c.val 2)).1, (cmpLt z (c.val 1) (c.val 2)).2)),
        (Instr.cle u, Op.cle, (b2n (cmpLe z (c.val 1) (c.val 2)).1, (cmpLe z (c.val 1) (c.val 2)).2)),
        (Instr.cltu u, Op.cltu, (b2n (decide (c.val 1 < c.val 2)), 0)), (Instr.cleu u, Op.cleu, (b2n (decide (c.val 1 ≤ c.val 2)), 0)),
        (Instr.band u, Op.band, (a * b, 0)), (Instr.bor u, Op.bor, (a ||| b, 0)), (Instr.bxor u, Op.bxor, (a ^^^ b, 0)),
        (Instr.bandn u, Op.bandn, (a * (1 - b), 0)), (Instr.born u, Op.born, (a ||| (1 - b), 0)),
        (Instr.bnot u, Op.bnot, (1 - c.one, 0))],
      Stands s (UnitId.key u) p.2.1 c t → c.write t 0 p.2.2.1 = .ok t' →
      exec p.1 s = .next (complete c { s := t', pc := c.next, cond := p.2.2.2 })

/-- What an instruction's end leaves, on a core whose instruction raises no trap and stands in no delay slot: ARITH gains the
conditions, the core goes on at the given address, and all else is as the meaning left it. With a register as its destination it has
written that register alone, in memory nothing, and a lane's ARITH stays 0 (R198, R199, R211, R244). -/
def Obligations.InstructionEnds : Prop :=
  ∀ (s t t' : State) (c : Ctx) (op : Op) (v cond : Nat), Stands s c.u op c t → (t.unit c.u).slot = [] →
    isLane c.u = false → cond < 0x10000 → trapOf (t.unit c.u).arith.toNat cond = none → c.write t 0 v = .ok t' →
    (∀ k z r, c.opnd 0 = (k, z, .reg r) → z.isPair = false →
      let d := complete c { s := t', pc := c.next, cond := cond }
      d.unit c.u = { (t.unit c.u) with
        g := (t.unit c.u).g.set r (toWord (v % 2 ^ z.width)), pc := c.next, arith := (t.unit c.u).arith ||| toWord cond } ∧
      (∀ k, k ≠ c.u → d.unit k = t.unit k) ∧ d.mem = t.mem ∧ d.regs = t.regs ∧ d.img = t.img) ∧
    (∀ k z r, c.opnd 0 = (k, z, .reg r) → z.isPair = true → r + 1 < 16 →
      let d := complete c { s := t', pc := c.next, cond := cond }
      (d.unit c.u).g = ((t.unit c.u).g.set r (toWord v)).set (r + 1) (toWord (v / 2 ^ 32)) ∧
      (d.unit c.u).pc = c.next ∧ d.mem = t.mem ∧ d.regs = t.regs ∧ d.img = t.img)

/-- A store of an instruction outside the runs that buffer it: the bytes at its address take the value's, least significant first, and
every other byte of the code store, of data SRAM, of trace and of firmware memory reads as before, as do all registers (R212, R216). -/
def Obligations.StoreFrame : Prop :=
  ∀ (s t : State) (u i a : Nat) (bs : List Byte), u ≠ safetyUnit → (s.unit u).run = none → bs ≠ [] →
    areaOf a = some .sram → areaOf (a + bs.length - 1) = some .sram → putBytes s u i a bs = .ok t →
    (∀ k < bs.length, t.mem.sram.get 0 (a + k) = bs.getD k 0) ∧
    (∀ b, b < a ∨ a + bs.length ≤ b → t.mem.sram.get 0 b = s.mem.sram.get 0 b) ∧
    t.mem.code = s.mem.code ∧ t.mem.trace = s.mem.trace ∧ t.mem.fw = s.mem.fw ∧ t.mem.mram = s.mem.mram ∧
    t.mem.flash = s.mem.flash ∧ t.regs = s.regs ∧ t.units = s.units ∧ t.img = s.img

/-- Edges, timers and counters (R255 to R265): the memory or the record is written first, then operand 1. The edge is 1 just where
the bit and its memory differ the right way; TON, TOF and TP write the record that R259 gives, with INPREV the input and Q for d;
counters write QU, QD, CUPREV, CDPREV and CV. -/
def Obligations.EdgesTimersCounters : Prop :=
  ∀ (u : UnitId) (s t t1 t2 : State) (c : Ctx),
    (∀ p ∈ [(Instr.redge u, Op.redge, c.val 1 * (1 - c.val 2)), (Instr.fedge u, Op.fedge, (1 - c.val 1) * c.val 2)],
      Stands s (UnitId.key u) p.2.1 c t → c.write t 2 (c.val 1) = .ok t1 →
      c.write (if p.2.2 = 1 then t1.modUnit c.u fun x => { x with run := x.run.map fun r => { r with edge := true } } else t1) 0 p.2.2
        = .ok t2 →
      exec p.1 s = .next (complete c { s := t2, pc := c.next })) ∧
    (∀ p ∈ [(Instr.ton u, Op.ton, Timer.ton), (Instr.tof u, Op.tof, Timer.tof), (Instr.tp u, Op.tp, Timer.tp)],
      let pt := (preset (instWord t c.u (c.record 2) 0)).1
      let r := { p.2.2 (timerAt t c.u (c.record 2)) (c.val 1 == 1) (t.unit c.u).ttime pt with inprev := c.val 1 == 1 }
      Stands s (UnitId.key u) p.2.1 c t →
      instWrite t c.u 3 (c.record 2) (b2n r.q + 2 * b2n r.inprev + 4 * b2n r.run + 8 * b2n r.done) (r.start % 2 ^ 32)
        (r.start / 2 ^ 32) = .ok t1 →
      c.write (if r.run then offerWheel t1 c.u ((r.start + pt) % 2 ^ 64) else t1) 0 (b2n r.q) = .ok t2 →
      exec p.1 s = .next (complete c { s := t2, pc := c.next })) ∧
    (Stands s (UnitId.key u) .tet c t →
      let q := preset (instWord t c.u (c.record 1) 0)
      let r := timerAt t c.u (c.record 1)
      let e := if r.run then Nat.min ((t.unit c.u).ttime - r.start) q.1 else if r.done then q.1 else 0
      c.write t 0 (e / (if q.2 then 1000000 else 1000)) = .ok t1 →
      exec (.tet u) s = .next (complete c { s := t1, pc := c.next })) ∧
    (∀ p ∈ [(Instr.ctu u, Op.ctu, Counter.ctu, Counter.qu), (Instr.ctd u, Op.ctd, Counter.ctd, Counter.qd)],
      let k := p.2.2.1 (counterAt t c.u (c.record 2)) (c.val 1 == 1)
      Stands s (UnitId.key u) p.2.1 c t → counterWrite t c.u 3 (c.record 2) k = .ok t1 →
      c.write t1 0 (b2n (p.2.2.2 k)) = .ok t2 → exec p.1 s = .next (complete c { s := t2, pc := c.next })) ∧
    (∀ p ∈ [(Instr.cld u, Op.cld, Counter.load), (Instr.crst u, Op.crst, Counter.reset)],
      Stands s (UnitId.key u) p.2.1 c t →
      counterWrite t c.u 1 (c.record 0) (p.2.2 (counterAt t c.u (c.record 0)) (c.val 1 == 1)) = .ok t1 →
      exec p.1 s = .next (complete c { s := t1, pc := c.next }))

/-- The rules that timers and counters work by (R259, R264): a TON whose input is 0 is off and idle; one that starts takes the task
time as START; Q is 1 just when the input has stayed 1 for the preset; TOF is on with its input; TP starts only at a rising input while
idle, with a preset above 0. Counters count rising inputs and saturate at their limits. -/
def Obligations.TimerRules : Prop :=
  (∀ (t : Timer) (now pt : Nat), (t.ton false now pt).q = false ∧ (t.ton false now pt).run = false ∧
    (t.ton false now pt).done = false) ∧
  (∀ (t : Timer) (now pt : Nat), t.q = false → t.run = false →
    (t.ton true now pt).start = now ∧ (t.ton true now pt).q = decide (pt = 0) ∧ (t.ton true now pt).run = decide (0 < pt)) ∧
  (∀ (t : Timer) (now pt : Nat), t.q = false → t.run = true →
    (t.ton true now pt).q = decide (pt ≤ now - t.start) ∧ (t.ton true now pt).done = (t.done || decide (pt ≤ now - t.start)) ∧
      (t.ton true now pt).start = t.start) ∧
  (∀ (t : Timer) (now pt : Nat), (t.tof true now pt).q = true ∧ (t.tof true now pt).run = false) ∧
  (∀ (t : Timer) (now pt : Nat), t.q = true → t.run = true →
    (t.tof false now pt).q = !decide (pt ≤ now - t.start) ∧ (t.tof false now pt).run = !decide (pt ≤ now - t.start)) ∧
  (∀ (t : Timer) (now pt : Nat) (b : Bool), t.run = false →
    (t.tp b now pt).q = ((b && !t.inprev && decide (0 < pt)) || t.q)) ∧
  (∀ (k : Counter), (k.cv < 2147483647 → k.cuprev = false → (k.ctu true).cv = k.cv + 1) ∧ (k.cuprev = true → (k.ctu true).cv = k.cv) ∧
    (k.ctu false).cv = k.cv ∧ (2147483647 ≤ k.cv → (k.ctu true).cv = k.cv) ∧
    (-2147483648 < k.cv → k.cdprev = false → (k.ctd true).cv = k.cv - 1) ∧ (k.cv ≤ -2147483648 → (k.ctd true).cv = k.cv) ∧
    (k.load true).cv = k.pv ∧ (k.reset true).cv = 0 ∧ k.load false = k ∧ k.reset false = k)

/-- Control flow (R194, R218, R220, R231, R266): a jump to where the unit may fetch is taken, to an address that is a multiple of 4;
to elsewhere it is refused with cause 0x03; BZ and BNZ jump on their register; CALL leaves the next instruction's address in g15, to
which RET returns; END ends the segment run, and outside a run, as RTE at user privilege, is a privilege violation; RTE restores EXL
and the privilege and goes on at EXPC, where no segment waits that the core could take. -/
def Obligations.ControlFlow : Prop :=
  ∀ (u : UnitId) (s t : State) (c : Ctx),
    (∀ p ∈ [(Instr.bra u, Op.bra, c.target t 0, 1, t),
        (Instr.call u, Op.call, c.target t 0, 1, t.modUnit c.u fun x => x.setG 15 (toWord c.next)),
        (Instr.ret u, Op.ret, gAt (t.unit c.u).g 15 / 4 * 4, 0, t)],
      Stands s (UnitId.key u) p.2.1 c t →
      (mayFetch t c.u p.2.2.1 = true → exec p.1 s = .next (complete c { s := p.2.2.2.2, pc := p.2.2.1 })) ∧
      (mayFetch t c.u p.2.2.1 = false → exec p.1 s = .next (raiseInsn s c.u c.pc ⟨exAccess, p.2.2.2.1, p.2.2.1⟩))) ∧
    (∀ p ∈ [(Instr.bz u, Op.bz, c.val 0 == 0), (Instr.bnz u, Op.bnz, c.val 0 != 0)], Stands s (UnitId.key u) p.2.1 c t →
      (p.2.2 = false → exec p.1 s = .next (complete c { s := t, pc := c.next })) ∧
      (p.2.2 = true → mayFetch t c.u (c.target t 1) = true →
        exec p.1 s = .next (complete c { s := t, pc := c.target t 1 })) ∧
      (p.2.2 = true → mayFetch t c.u (c.target t 1) = false →
        exec p.1 s = .next (raiseInsn s c.u c.pc ⟨exAccess, 2, c.target t 1⟩))) ∧
    (Stands s (UnitId.key u) .nop c t → exec (.nop u) s = .next (complete c { s := t, pc := c.next })) ∧
    (Stands s (UnitId.key u) .end_ c t →
      ((t.unit c.u).inRun = true → exec (.endPass u) s = .next (complete c { s := t, pc := c.next, after := fun r => runEnd r c.u })) ∧
      ((t.unit c.u).inRun = false → exec (.endPass u) s = .next (raiseInsn s c.u c.pc ⟨exPrivilege, 0, c.pc⟩))) ∧
    (Stands s (UnitId.key u) .rte c t →
      (privOf t c.u = 0 → exec (.rte u) s = .next (raiseInsn s c.u c.pc ⟨exPrivilege, 0, c.pc⟩)) ∧
      (privOf t c.u ≠ 0 → (t.unit c.u).slot = [] → isLane c.u = false → t.gz.pending = [] → t.gz.audit = none →
        Answers (.rte u) s fun r =>
        (r.unit c.u).pc = (t.unit c.u).expc.toNat ∧ (r.unit c.u).exl = wbit (t.unit c.u).exstat 7 ∧
        (c.u ≠ 4 → (r.unit c.u).priv = Nat.min 1 (wbits (t.unit c.u).exstat 5 4)) ∧ (r.unit c.u).g = (t.unit c.u).g ∧
        r.mem = t.mem ∧ r.regs = t.regs))

/-- Blocks and strings (R268 to R273). A block instruction with count 0 only ends. Within the limit of 4,096 bytes and where no element
raises anything, MOVB copies, FILL fills and CRCC advances the CRC over the block; beyond the limit they raise cause 0x03, and an
element that fails raises what it raises. With the headers read and the strings' bytes in order, SCPY and SCAT write what fits of
the text, with its LEN; SLEN, SCMP and SFND give a length, an order and a position; a header or a byte that fails raises what it
raises. -/
def Obligations.BlocksStrings : Prop :=
  (∀ (u : UnitId) (s t : State) (c : Ctx), ∀ p ∈ [(Instr.movb u, Op.movb), (Instr.fill u, Op.fill), (Instr.crcc u, Op.crcc)],
    StandsAtZero s (UnitId.key u) p.2 c t → exec p.1 s = .next (complete c { s := t, pc := c.next })) ∧
  (∀ (u : UnitId) (s t t1 : State) (c : Ctx),
    let z := c.form.sz.bytes
    let n := c.val 2
    let d := (c.loc 0).addr
    let b := (c.loc 1).addr
    (Stands s (UnitId.key u) .movb c t → n * z ≤ 4096 →
      let e := firstExc [elemsFault t c.u 1 (c.loc 0).isPc true d z n, elemsFault t c.u 2 (c.loc 1).isPc false b z n,
        elemsEcc t c.u 2 b z n]
      (∀ x, e = some x → exec (.movb u) s = .next (raiseInsn s c.u c.pc x)) ∧
      (e = none → writeElems (readElems t c.u b z n).2 c.u 1 d z (readElems t c.u b z n).1 n = .ok t1 →
        exec (.movb u) s = .next (complete c { s := t1, pc := c.next }))) ∧
    (∀ p ∈ [(Instr.movb u, Op.movb, n * z), (Instr.fill u, Op.fill, n * z), (Instr.crcc u, Op.crcc, n)],
      Stands s (UnitId.key u) p.2.1 c t → 4096 < p.2.2 → exec p.1 s = .next (raiseInsn s c.u c.pc ⟨exAccess, 3, d⟩)) ∧
    (Stands s (UnitId.key u) .fill c t → n * z ≤ 4096 →
      let e := elemsFault t c.u 1 (c.loc 0).isPc true d z n
      (∀ x, e = some x → exec (.fill u) s = .next (raiseInsn s c.u c.pc x)) ∧
      (e = none → writeElems t c.u 1 d z ((List.replicate n (toLE z (c.val 1))).flatten) n = .ok t1 →
        exec (.fill u) s = .next (complete c { s := t1, pc := c.next }))) ∧
    (Stands s (UnitId.key u) .crcc c t → n ≤ 4096 →
      let e := firstExc [elemsFault t c.u 2 (c.loc 1).isPc false b 1 n, elemsEcc t c.u 2 b 1 n]
      (∀ x, e = some x → exec (.crcc u) s = .next (raiseInsn s c.u c.pc x)) ∧
      (e = none → c.write (readElems t c.u b 1 n).2 0 (crcc (c.val 0) (readElems t c.u b 1 n).1) = .ok t1 →
        exec (.crcc u) s = .next (complete c { s := t1, pc := c.next })))) ∧
  (∀ (u : UnitId) (s t t1 r : State) (c : Ctx) (x y : Str),
    (∀ p ∈ [(Instr.scpy u, Op.scpy, Nat.min y.len x.cap, 0, Nat.min y.len x.cap),
        (Instr.scat u, Op.scat, x.len + Nat.min y.len (x.cap - x.len), x.len, Nat.min y.len (x.cap - x.len))],
      Stands s (UnitId.key u) p.2.1 c t → readHeads t c.u [c.str 0 true, c.str 1 false] = .ok ([x, y], r) →
      (∀ e, strFault r c.u [x, y] = some e → exec p.1 s = .next (raiseInsn s c.u c.pc e)) ∧
      (strFault r c.u [x, y] = none →
        strWrite r c.u x p.2.2.1 p.2.2.2.1 ((y.text r c.u).take p.2.2.2.2) = .ok t1 →
        exec p.1 s = .next (complete c { s := t1, pc := c.next }))) ∧
    (Stands s (UnitId.key u) .slen c t → readHeads t c.u [c.str 1 false] = .ok ([x], r) →
      (∀ e, strFault r c.u [x] = some e → exec (.slen u) s = .next (raiseInsn s c.u c.pc e)) ∧
      (strFault r c.u [x] = none → c.write r 0 x.len = .ok t1 → exec (.slen u) s = .next (complete c { s := t1, pc := c.next }))) ∧
    (∀ p ∈ [(Instr.scmp u, Op.scmp, wrap 32 (textCompare (x.text r c.u) (y.text r c.u))),
        (Instr.sfnd u, Op.sfnd, if (y.text r c.u).isEmpty then 1 else textFind (y.text r c.u) 1 (x.text r c.u))],
      Stands s (UnitId.key u) p.2.1 c t → readHeads t c.u [c.str 1 false, c.str 2 false] = .ok ([x, y], r) →
      (∀ e, strFault r c.u [x, y] = some e → exec p.1 s = .next (raiseInsn s c.u c.pc e)) ∧
      (strFault r c.u [x, y] = none → c.write r 0 p.2.2 = .ok t1 → exec p.1 s = .next (complete c { s := t1, pc := c.next }))) ∧
    (∀ p ∈ [(Instr.scpy u, Op.scpy, [c.str 0 true, c.str 1 false]), (Instr.scat u, Op.scat, [c.str 0 true, c.str 1 false]),
        (Instr.slen u, Op.slen, [c.str 1 false]), (Instr.scmp u, Op.scmp, [c.str 1 false, c.str 2 false]),
        (Instr.sfnd u, Op.sfnd, [c.str 1 false, c.str 2 false])],
      ∀ e, Stands s (UnitId.key u) p.2.1 c t → readHeads t c.u p.2.2 = .error e →
        exec p.1 s = .next (raiseInsn s c.u c.pc e)))

/-- LDG and LDGP end with their value waiting for the register until the delay slot is over; MFS gives the word of the special register
and MTS writes it, each where the privilege permits it, and is a privilege violation where it does not; WFE and WTU with a bank up to 3
look at their conditions once they have ended; SEV with a source from 96 to 127 and a mask below 0x4000 raises its event, through
the route where the mask is 0; with other operands these three are illegal instructions; TRAP ends in the exception of cause 0x08 with
its number as INFO, which returns to the next instruction (R196, R217, R223 to R226, R229, R275). -/
def Obligations.LoadsAndSystem : Prop :=
  ∀ (u : UnitId) (s t t1 : State) (c : Ctx),
    (∀ p ∈ [(Instr.ldg u, Op.ldg), (Instr.ldgp u, Op.ldgp)], ∀ r, Stands s (UnitId.key u) p.2 c t → c.loc 0 = .reg r →
      exec p.1 s = .next (complete c { s := t, pc := c.next, load :=
        if c.form.sz.isPair then [(r, toWord (c.val 1)), (r + 1, toWord (c.val 1 / 2 ^ 32))] else [(r, toWord (c.val 1))] })) ∧
    (Stands s (UnitId.key u) .mfs c t → specMay c.spec (privOf t c.u) false = true → c.write t 0 (specPeek t c.u c.spec) = .ok t1 →
      exec (.mfs u) s = .next (complete c { s := t1, pc := c.next })) ∧
    (Stands s (UnitId.key u) .mts c t → specMay c.spec (privOf t c.u) true = true →
      exec (.mts u) s = .next (complete c { s := t.modUnit c.u fun x => x.setSpec c.spec (toWord (c.val 0)), pc := c.next })) ∧
    (∀ p ∈ [(Instr.mfs u, Op.mfs, false), (Instr.mts u, Op.mts, true)], Stands s (UnitId.key u) p.2.1 c t →
      specMay c.spec (privOf t c.u) p.2.2 = false → exec p.1 s = .next (raiseInsn s c.u c.pc ⟨exPrivilege, 0, c.pc⟩)) ∧
    (Stands s (UnitId.key u) .wfe c t → c.val 1 ≤ 3 → exec (.wfe u) s = .next (complete c
      { s := t, pc := c.next, after := fun r => wfeCheck r c.u (toWord (c.val 0)) (c.val 1) })) ∧
    (Stands s (UnitId.key u) .wtu c t → c.val 2 ≤ 3 → exec (.wtu u) s = .next (complete c
      { s := t, pc := c.next, after := fun r => wtuCheck r c.u (c.val 0) (toWord (c.val 1)) (c.val 2) })) ∧
    (Stands s (UnitId.key u) .sev c t → 96 ≤ c.val 0 → c.val 0 ≤ 127 → c.val 1 < 0x4000 →
      exec (.sev u) s = .next (complete c
        { s := if c.val 1 = 0 then t.raise (c.val 0) else t.latch (c.val 0) (c.val 1), pc := c.next })) ∧
    (∀ p ∈ [(Instr.wfe u, Op.wfe, decide (3 < c.val 1)), (Instr.wtu u, Op.wtu, decide (3 < c.val 2)),
        (Instr.sev u, Op.sev, decide (c.val 0 < 96 ∨ 127 < c.val 0 ∨ 0x4000 ≤ c.val 1))],
      Stands s (UnitId.key u) p.2.1 c t → p.2.2 = true → exec p.1 s = .next (raiseInsn s c.u c.pc ⟨exIllegal, 0, c.pc⟩)) ∧
    (Stands s (UnitId.key u) .trap c t → exec (.trap u) s = .next (complete c
      { s := t, pc := c.next, after := fun r => raiseExc r c.u exTrap (c.form.row.num % 256) c.pc c.next }))

/-- Waiting cores and reset cores (R222 to R224, R233): a delivery that matches ends WFE, with the lowest matching event in g0, taken
from EVPEND; WTU ends with 0 in g0 at a matching event, which stays pending, and with 1 at its time; a core that a double fault
stopped is reset and takes work again: where none is pending it stands as after its reset. -/
def Obligations.CoresWake : Prop :=
  ∀ (core : CoreId) (s : State), halted s = false →
    (∀ mask bank n, (s.unit core.val).wait = .wfe mask bank → mask ≠ 0 → pendingMatch (s.unit core.val) mask bank = some n →
      Answers (.wfeWake core) s fun t =>
        (t.unit core.val).wait = .none ∧ (t.unit core.val).g = (s.unit core.val).g.set 0 (toWord n) ∧
        (t.unit core.val).evpend = (s.unit core.val).evpend.del n ∧ t.mem = s.mem ∧ t.regs = s.regs) ∧
    (∀ time mask bank, (s.unit core.val).wait = .wtu time mask bank → (pendingMatch (s.unit core.val) mask bank).isSome = true →
      Answers (.wtuWake core) s fun t =>
        (t.unit core.val).wait = .none ∧ (t.unit core.val).g = (s.unit core.val).g.set 0 0 ∧
        (t.unit core.val).evpend = (s.unit core.val).evpend ∧ t.mem = s.mem ∧ t.regs = s.regs) ∧
    (∀ time mask bank, (s.unit core.val).wait = .wtu time mask bank → pendingMatch (s.unit core.val) mask bank = none →
      Answers (.wtuWake core) s fun t =>
        (t.unit core.val).wait = .none ∧ (t.unit core.val).g = (s.unit core.val).g.set 0 1 ∧ time ≤ t.now ∧
        (t.unit core.val).evpend = (s.unit core.val).evpend ∧ t.mem = s.mem ∧ t.regs = s.regs) ∧
    (∀ k : Fin 4, (s.unit k.val).halted = true →
      exec (.coreResetComplete k) s = .next (auditNext (fill (s.setUnit k.val (UnitSt.atReset k.val)))) ∧
      Answers (.coreResetComplete k) s fun t => (t.unit k.val).halted = false ∧ t.mem = s.mem ∧ t.img = s.img ∧ t.tsk = s.tsk ∧
        (s.gz.pending = [] → s.gz.audit = none →
          t.unit k.val = UnitSt.atReset k.val ∧ (∀ j, j ≠ k.val → t.unit j = s.unit j) ∧ t.regs = s.regs))

/-- Exceptions of a core (R229 to R233): entry saves the return address and CSTAT, writes EXCAUSE and EXADDR, raises the privilege,
sets EXL and goes on at VBASE + 0x40 × cause. A trap with HNDL written and EXL 0 is caught within the segment instead. With EXL 1 it
is a double fault, which stops a Serge core and resets the module where the supervisor core meets it. -/
def Obligations.Exceptions : Prop :=
  ∀ (s : State) (u cause info addr ret : Nat), u < 5 → cause ≠ exEcc → (s.unit u).slot = [] →
    ((s.unit u).exl = false → (s.unit u).run = none → trapCaught (s.unit u) cause = false →
      (raiseExc s u cause info addr ret).unit u = { (s.unit u) with
        expc := toWord ret, exstat := toWord (cstat s u), excause := toWord (info * 256 + cause), exaddr := toWord addr,
        priv := if u = 4 then 2 else 1, exl := true, wait := .none, pc := ((s.unit u).vbase.toNat + 0x40 * cause) % 2 ^ 32 } ∧
      (raiseExc s u cause info addr ret).mem = s.mem ∧ (raiseExc s u cause info addr ret).regs = s.regs) ∧
    (cause = exArith ∨ cause = exFloat → (s.unit u).hndl ≠ 0 → (s.unit u).exl = false →
      (raiseExc s u cause info addr ret).unit u = { (s.unit u) with
        g := ((s.unit u).g.set 0 (toWord cause)).set 15 (toWord ret), pc := (s.unit u).hndl.toNat, hndl := 0 } ∧
      (raiseExc s u cause info addr ret).mem = s.mem ∧ (raiseExc s u cause info addr ret).regs = s.regs) ∧
    ((s.unit u).exl = true → u ≠ 4 → (s.unit u).run = none → ((raiseExc s u cause info addr ret).unit u).halted = true) ∧
    ((s.unit u).exl = true → u = 4 → (raiseExc s u cause info addr ret).boot.held = true ∧
      bit (raiseExc s u cause info addr ret).boot.sources (srcDoubleFault - 1) = true)

/-! ### The commands that are writes of registers (R7, R29) -/

/-- Each command that is a write of a register has the effect of its register, where the core may write there; the active module of a
pair tells its partner what that changes of the configuration, and any other module, as any write of a register that shows no
object, has that effect alone. Where the register refuses the write the core raises cause 0x03, and nothing else changes (R29, R41, R143, R151, R163, R165, R171, R175, R326,
R330, R381, R385, R444, R519, R566). -/
def Obligations.RegisterCommands : Prop :=
  ∀ (core : CoreId) (v : Word) (s : State) (c : Fin 8) (r : Fin 16) (m : Fin 2) (b : Fin 3),
    ∀ p ∈ ([(Instr.gzCmdEqclr core v, GZ_CMD, some (gzCmdWrite s v)), (Instr.gzCmdAudreq core v, GZ_CMD, some (gzCmdWrite s v)),
        (Instr.gzCtrlAuden core v, GZ_CTRL, some (setAuden s (wbit v 8))),
        (Instr.segStgnumValid core v, SEG_STGNUM, some (stgnumWrite s v)),
        (Instr.segStgnumWithdraw core v, SEG_STGNUM, some (stgnumWrite s v)),
        (Instr.segStgdata core v, SEG_STGDATA, some (stgdataWrite s v)),
        (Instr.segStgctrlCommit core v, SEG_STGCTRL, some (stgctrlWrite s v)),
        (Instr.segStgctrlAbort core v, SEG_STGCTRL, some (stgctrlWrite s v)),
        (Instr.laneClctrlFlush core c v, LANE_CLCTRL c.val, clctrlWrite s c.val v),
        (Instr.phrCtrlEnum core v, PHR_CTRL, phrCtrlWrite s v),
        (Instr.phrEpochWrite core v, PHR_EPOCH, if privOf s core.val = 2 then some (epochWrite s v) else none),
        (Instr.phrTxselWrite core v, PHR_TXSEL, some (txselWrite s v)),
        (Instr.lpeMaxlatClear core v, LPE_MAXLAT, some (if v = 0 then s.setReg LPE_MAXLAT 0 else s)),
        (Instr.trcCmdArm core c v, TRC_CMD c.val, some (trcCmd s c.val v)),
        (Instr.trcCmdStop core c v, TRC_CMD c.val, some (trcCmd s c.val v)),
        (Instr.trcCmdForce core c v, TRC_CMD c.val, some (trcCmd s c.val v)),
        (Instr.nrgTjWrite core v, NRG_TJ, some (peakReset s)),
        (Instr.hsbCmdSwitch core v, HSB_CMD, some (hsbCmdWrite s v)), (Instr.hsbCmdResync core v, HSB_CMD, some (hsbCmdWrite s v)),
        (Instr.hsbCmdFail core v, HSB_CMD, some (hsbCmdWrite s v)), (Instr.jrnDoneSend core v, JRN_DONE, some (jrnDoneWrite s v)),
        (Instr.dioFcmdRelease core v, DIO_FCMD, some (fcmdWrite s v)), (Instr.dioFcmdSafe core v, DIO_FCMD, some (fcmdWrite s v)),
        (Instr.aioTrimEn core v, AIO_TRIM, some (trimWrite s v).1),
        (Instr.dioEncctrlEn core r v, DIO_ENCCTRL r.val, if s.stopped then some (encctrlWrite s r.val v).1 else none),
        (Instr.dioEnccntWrite core r v, DIO_ENCCNT r.val, some (fieldCmd s (.encoder r.val v))),
        (Instr.canEnable core m v, CAN_CTRL m.val, canCtrlWrite s m.val v),
        (Instr.canRecov core m v, CAN_CTRL m.val, canCtrlWrite s m.val v),
        (Instr.canTxRequest core m b v, canBus m.val b.val, canTxctrlWrite s m.val b.val v),
        (Instr.canTxAbort core m b v, canBus m.val b.val, canTxctrlWrite s m.val b.val v),
        (Instr.canRxpop core m v, CAN_RXPOP m.val, some (canRxpop s m.val v)),
        (Instr.canFilterEnable core m r v, CAN_FLTID m.val r.val, some (canFltidWrite s m.val r.val v)),
        (Instr.safCmdSreset core v, SAF_CMD, some (if wbit v 0 then safetyReset s else s)),
        (Instr.flashErase core v, NVM_FCMD, some (flashCommand s v)), (Instr.flashProgram core v, NVM_FCMD, some (flashCommand s v)),
        (Instr.nvmProtWrite core v, NVM_PROT, if protAllowed s (wbits v 1 0) then some (setProt s (wbits v 1 0)) else none),
        (Instr.rtcArm core v, RTC_CMD, some (rtcCmdWrite s v)), (Instr.rtcBkcommit core v, RTC_CMD, some (rtcCmdWrite s v)),
        (Instr.rtcStageWrite core false v, RTC_STGL, some (rtcStageWrite s false v)),
        (Instr.rtcStageWrite core true v, RTC_STGH, some (rtcStageWrite s true v)),
        (Instr.wdgKeyArm core v, WDG_KEY, some (wdgKeyWrite s v)), (Instr.wdgKeyService core v, WDG_KEY, some (wdgKeyWrite s v)),
        (Instr.wdgKeyBad core v, WDG_KEY, some (wdgKeyWrite s v)), (Instr.wdgCtrlWrite core v, WDG_CTRL, some (wdgCtrlWrite s v)),
        (Instr.frzCmdFreeze core v, FRZ_CMD, some (if wbit v 0 then freezeRequest s 2 0 else s)),
        (Instr.recWsub core v, REC_WSUB, some (recSubmit s v)), (Instr.recCtrlRfreeze core v, REC_CTRL, some (recCtrlWrite s v)),
        (Instr.recClr core v, REC_CLR, some (recClrWrite s v))] : List (Instr × Nat × Option State)),
      MayWrite s core p.2.1 →
      (∀ t, p.2.2 = some t → exec p.1 s = .next (shareRegister s t p.2.1) ∧
        (t.role ≠ roleActive ∨ objectsAt p.2.1 = [] → exec p.1 s = .next t)) ∧
      (p.2.2 = none → exec p.1 s = .next (raiseExc s core.val exAccess 1 p.2.1 (s.unit core.val).pc))

/-! ### Gauze and segments (R139 to R156, R175, R180) -/

/-- Equivalence faults and audits. EQCLR clears the fault that a task holds and restarts its interval (R144, R175); AUDREQ asks for an
idle audit (R139). In a slice granted to it an idle audit begins with the task's silent segments in the order of their ranks: the first
runs in audit mode with the task time of the last cycle on a unit that is free for it, and with none the audit is complete and the
interval restarts. At the end of a run its unit is free; a run that differs from the image or breaks a rule is marked, and is the
audit's first finding (R140); one that does not leaves the findings as they are. With no run left an audit without a finding is
complete, one with a finding is an equivalence fault (R139).
The runs of an idle audit are made one at a time (DESIGN CHOICE, log 35). -/
def Obligations.Audits : Prop :=
  (∀ (core : CoreId) (v : Word) (s : State), MayWrite s core GZ_CMD → wbits v 4 0 < 24 →
    (wbit v 8 = true → wbit v 9 = false → (s.aud (wbits v 4 0)).fault = true → Answers (.gzCmdEqclr core v) s fun t =>
      (t.aud (wbits v 4 0)).fault = false ∧ (t.aud (wbits v 4 0)).start = s.now ∧ (t.task (wbits v 4 0)).resync = true ∧
        t.mem = s.mem ∧ t.img = s.img ∧ t.units = s.units) ∧
    (wbit v 8 = false → wbit v 9 = true → Answers (.gzCmdAudreq core v) s fun t =>
      (t.aud (wbits v 4 0)).req = true ∧ (∀ k, k ≠ wbits v 4 0 → t.aud k = s.aud k) ∧ t.mem = s.mem ∧ t.regs = s.regs)) ∧
  (∀ (k : TaskId) (s : State), auditMay s k.val = true → auditFunded s k.val = true →
    let a : Audit := { task := k.val, time := (s.task k.val).lastTime, todo := auditSegments s k.val }
    exec (.idleAuditStart k) s
      = .next (auditFinish (auditNext (s.modGz fun g => { g with mismatch := notTask s k.val g.mismatch, audit := some a }))) ∧
    (auditRunning s = false → auditSegments s k.val = [] → Answers (.idleAuditStart k) s fun t =>
      t.gz.audit = none ∧ (t.aud k.val).start = s.now ∧ (t.aud k.val).req = false ∧ t.img = s.img ∧ t.mem = s.mem) ∧
    (∀ seg rest u, auditRunning s = false → auditSegments s k.val = seg :: rest →
      (unitsFor (s.hdr seg)).find? (unitFree s) = some u → Answers (.idleAuditStart k) s fun t =>
        t.gz.audit = some { a with todo := rest } ∧
        (∃ r, (t.unit u).run = some r ∧ r.audit = true ∧ r.seg = seg ∧ r.taskTime = (s.task k.val).lastTime) ∧
        t.gz.pending = s.gz.pending ∧ t.img = s.img ∧ t.mem = s.mem)) ∧
  (∀ (u : UnitId) (s t : State) (r : Run) (a : Audit), (s.unit (UnitId.key u)).run = some r → s.gz.audit = some a →
    r.audit = true → r.done = true → halted s = false → t = s.modUnit (UnitId.key u) UnitSt.leave →
    (auditFound t r = [] → exec (.auditRunEnd u) s = .next (auditFinish (auditNext t)) ∧
      (a.todo = [] → auditRunning t = false → a.found = false → Answers (.auditRunEnd u) s fun x =>
        x.gz.audit = none ∧ (x.aud a.task).start = s.now ∧ (x.aud a.task).req = false ∧ x.unit (UnitId.key u) = t.unit (UnitId.key u) ∧
        x.img = s.img ∧ x.mem = s.mem)) ∧
    (∀ x more, auditFound t r = x :: more → a.found = false →
      let b := { a with bytes := a.bytes + 1 + more.length, found := true, firstSeg := r.seg, firstAddr := x }
      exec (.auditRunEnd u) s
        = .next (auditFinish (auditNext (t.modGz fun g => { g with audit := some b, mismatch := g.mismatch.add r.seg }))) ∧
      (a.todo = [] → auditRunning t = false → Answers (.auditRunEnd u) s fun y =>
        y.gz.audit = none ∧ (y.aud a.task).fault = true ∧ (y.aud a.task).eqSeg = r.seg ∧ (y.aud a.task).eqAddr = x ∧
        (y.aud a.task).eqCount = holdAt 255 (a.bytes + 1 + more.length) ∧ y.gz.mismatch.contains r.seg = true ∧
        y.img = s.img)))

/-- Staging (R148, R151, R152, R165). COMMIT alone takes a staged set from STAGING to BUILDING in STOPPED or RUNNING, with no error
shown, and is ignored in any other state and while the program is PREPARING or STOPPING; ABORT alone discards the staged set: the state
is EMPTY, or FAILED with error 0x08 where BUILDING had begun. In a slice of class 3 that is granted to it the building of the lists
ends in VALIDATING where the entries suffice; where they do not the set fails, with the error of the first check of R152 that it fails.
Validation refuses the whole set on the first failing check, with that check's error and segment; a set that passes is ARMED while the
program runs, and is swapped at once where it does not. Where a set fails on a module that follows an active partner it becomes
INCOMPATIBLE. Without such a slice neither ends. Through the lists' window an entry is written only in STOPPED, and each access moves the
index on (R180).
That a set aborted after COMMIT is FAILED with error 0x08 is read from R165 with R152 (log 28). -/
def Obligations.Staging : Prop :=
  (∀ (core : CoreId) (v : Word) (s : State), MayWrite s core SEG_STGCTRL →
    (wbit v 0 = true → wbit v 1 = false → s.gz.stg = .staging → s.stopped = true ∨ s.running = true →
      Answers (.segStgctrlCommit core v) s fun t => t.gz.stg = .building ∧ t.gz.stgErr = 0 ∧ t.gz.slots = s.gz.slots ∧
        t.mem = s.mem ∧ t.regs = s.regs) ∧
    (wbit v 0 = true → wbit v 1 = false → s.gz.stg ≠ .staging ∨ s.tsk.prog = .preparing ∨ s.tsk.prog = .stopping →
      exec (.segStgctrlCommit core v) s = .next s) ∧
    (wbit v 0 = false → wbit v 1 = true → Answers (.segStgctrlAbort core v) s fun t =>
      (∀ e ∈ t.gz.slots, e.2.valid = false) ∧ t.mem = s.mem ∧ t.regs = s.regs ∧
      (s.gz.stg = .empty ∨ s.gz.stg = .staging ∨ s.gz.stg = .failed → t.gz.stg = .empty) ∧
      (s.gz.stg = .building ∨ s.gz.stg = .validating ∨ s.gz.stg = .armed → t.gz.stg = .failed ∧ t.gz.stgErr = 8))) ∧
  (∀ s : State, s.gz.stg = .building ∨ s.gz.stg = .validating → feltRuns s = false ∨ inSlice s .replace = false →
    exec .buildingComplete s = .next s ∧ exec .validationComplete s = .next s) ∧
  (∀ s : State, s.gz.stg = .building → feltRuns s = true → inSlice s .replace = true →
    let n := (stagedNews s).foldl (fun n x => n + x.rcount + x.wcount) 0
    (n ≤ entriesFree s → Answers .buildingComplete s fun t =>
      t = s.modGz (fun g => { g with stg := .validating }) ∧ t.gz.stg = .validating) ∧
    (entriesFree s < n → Answers .buildingComplete s fun t =>
      t.gz.stg = .failed ∧ t.gz.slots = s.gz.slots ∧ t.gz.hdr = s.gz.hdr ∧ t.mem.code = s.mem.code ∧
      (∀ e, stgCheck s = some e → t.gz.stgErr = e.1 ∧ t.gz.stgErrSeg = e.2))) ∧
  (∀ s : State, s.gz.stg = .validating → feltRuns s = true → inSlice s .replace = true →
    (∀ e, stgCheck s = some e → Answers .validationComplete s fun t =>
      t.gz.stg = .failed ∧ t.gz.stgErr = e.1 ∧ t.gz.stgErrSeg = e.2 ∧ t.gz.slots = s.gz.slots ∧ t.gz.hdr = s.gz.hdr ∧
      t.mem.code = s.mem.code ∧ (s.role = roleSyncing ∨ s.role = roleReady → t.role = roleIncompatible)) ∧
    (stgCheck s = none → plantRuns s = true → Answers .validationComplete s fun t =>
      t = s.modGz (fun g => { g with stg := .armed }) ∧ t.gz.stg = .armed) ∧
    (stgCheck s = none → plantRuns s = false → Answers .validationComplete s fun t =>
      t = (swap s).1 ∧ t.gz.stg = .empty ∧ (∀ e ∈ t.gz.slots, e.2.valid = false) ∧ t.img = s.img ∧ t.mem.sram = s.mem.sram)) ∧
  (∀ (core : CoreId) (v : Word) (s : State), MayWrite s core GZ_SUBDATA →
    (s.stopped = true → Answers (.gzSubdataAccess core (some v)) s fun t =>
      t.gz.ent.get 0 (s.fld GZ_SUBSEL_INDEX) = v ∧ t.fld GZ_SUBSEL_INDEX = (s.fld GZ_SUBSEL_INDEX + 1) % 2097152 ∧
      (∀ i, i ≠ s.fld GZ_SUBSEL_INDEX → t.gz.ent.get 0 i = s.gz.ent.get 0 i) ∧ t.mem = s.mem) ∧
    (s.stopped = false →
      exec (.gzSubdataAccess core (some v)) s = .next (raiseExc s core.val exAccess 1 GZ_SUBDATA (s.unit core.val).pc))) ∧
  (∀ (core : CoreId) (s : State), MayRead s core GZ_SUBDATA →
    Answers (.gzSubdataAccess core none) s fun t =>
      t.rdata = s.gz.ent.get 0 (s.fld GZ_SUBSEL_INDEX) ∧ t.gz = s.gz ∧
      t.fld GZ_SUBSEL_INDEX = (s.fld GZ_SUBSEL_INDEX + 1) % 2097152)

/-! ### The rings (R280 to R340) -/

/-- Probes and enumeration (R280, R317, R319, R322, R432). PROBE_SEND takes the levels of the links, and where the module may issue sends
a probe out of both ports of an enabled ring. A good probe copy that comes back where it left, looped, gives its side's result; one
that comes back at the other port gives that the side is unlooped, and with both sides unlooped the ring is CLOSED; one that is lost
gives the values of R280 for its side. A copy with a bad FCS is counted for its port. An ENM copy that returns unlooped with HOPS other
than N is recorded. An enumeration whose transactions have ended gives the ring the state of its probes, and the next ring its turn.
A Phider frame of another module goes out of the ring's other port unchanged, a PTP message with its residence time added. -/
def Obligations.Probes : Prop :=
  (∀ (links : BitVec 8) (s : State), mayIssue s = false ∨ enabledRings s = [] → Answers (.probeSend links) s fun t =>
    t.sent = s.sent ∧ t.mem = s.mem ∧ t.img = s.img ∧ t.regs = s.regs ∧
    ∀ r < 4, (t.ring r).linkA = links.getLsbD (2 * r) ∧ (t.ring r).linkB = links.getLsbD (2 * r + 1)) ∧
  (∀ (links : BitVec 8) (r : RingId) (s : State), mayIssue s = true → enabledRings s = [r.val] → s.phr.linksDown = false →
    links.getLsbD (2 * r.val) = true → links.getLsbD (2 * r.val + 1) = true → Answers (.probeSend links) s fun t =>
      t.sent = .ring r.val true (frameFrom s r.val true ftPRB) :: .ring r.val false (frameFrom s r.val false ftPRB) :: s.sent ∧
      (t.ring r.val).resA = none ∧ (t.ring r.val).resB = none ∧ t.regs = s.regs ∧ t.mem = s.mem) ∧
  (∀ (r : RingId) (port : Bool) (f : PFrame) (s : State), ringEn s r.val = true → mayIssue s = true →
    f.typ = BitVec.ofNat 8 ftPRB →
    (f.loop = true → port = f.dirB → exec (.probeCopyReturn r port true f) s
      = .next (probeResult s r.val f.dirB (if f.loopStn = 0#8 then .noAddr else .looped f.loopStn.toNat))) ∧
    (f.loop = false → port ≠ f.dirB →
      exec (.probeCopyReturn r port true f) s = .next (probeResult s r.val f.dirB .unlooped) ∧
      ((if f.dirB then (s.ring r.val).resA else (s.ring r.val).resB) = some .unlooped →
        ((s.ring r.val).linkA || (s.ring r.val).linkB) = true → (s.ring r.val).state ≠ 1 → s.running = false →
        (∀ q < 4, (s.ring q).enumReq = false) → Answers (.probeCopyReturn r port true f) s fun t =>
          (t.ring r.val).state = 2 ∧ t.img = s.img ∧ t.mem.sram = s.mem.sram))) ∧
  (∀ (r : RingId) (port : Bool) (f : PFrame) (s : State),
    exec (.probeCopyReturn r port false f) s = .next (badFcs s r.val port)) ∧
  (∀ (r : RingId) (d : Bool) (s : State), ringEn s r.val = true → mayIssue s = true →
    ((if d then (s.ring r.val).resB else (s.ring r.val).resA) = none →
      exec (.probeCopyTimeout r d) s = .next (probeResult s r.val d (.looped (if d then ringN s r.val + 1 else 0)))) ∧
    ((if d then (s.ring r.val).resB else (s.ring r.val).resA) ≠ none → exec (.probeCopyTimeout r d) s = .next s)) ∧
  (∀ (r : RingId) (f : PFrame) (s : State), ringEn s r.val = true → mayIssue s = true → f.typ = BitVec.ofNat 8 ftENM →
    f.loop = false →
    (f.hops.toNat ≠ ringN s r.val → exec (.enmCopyReturn r f) s
      = .next (s.record 0x0201 2 3 (256 * r.val) [0, 0, f.hops.toNat, ringN s r.val])) ∧
    (f.hops.toNat = ringN s r.val → exec (.enmCopyReturn r f) s = .next s)) ∧
  (∀ (r : RingId) (d : Nat) (s : State), (s.ring r.val).state = 1 → halted s = false →
    let w := s.at (s.now + d)
    (enumBusy s r.val = true → exec (.enumerationComplete r d) s = .next s) ∧
    (enumBusy s r.val = false →
      exec (.enumerationComplete r d) s = .next (autoStartNow (startEnum
        (setRingState (w.modRing r.val fun x => { x with enumAt := some w.now }) r.val (s.ring r.val).prev))) ∧
      (s.boot.autoStart = false → (∀ q < 4, (s.ring q).enumReq = false) → Answers (.enumerationComplete r d) s fun t =>
        (t.ring r.val).state = (s.ring r.val).prev ∧ (t.ring r.val).enumAt = some (s.now + d) ∧ t.img = s.img ∧
        t.units = s.units))) ∧
  (∀ (r : RingId) (port : Bool) (s : State), s.phr.linksDown = false → s.boot.held = false →
    (if port then (s.ring r.val).linkA else (s.ring r.val).linkB) = true →
    (∀ f, Answers (.ringFrameForward r port true (.phider f)) s fun t => t.sent = .ring r.val (!port) f :: s.sent ∧
      t.hsb.ports.get 0 (2 * r.val + b2n port) = s.now + 1 ∧ t.mem = s.mem ∧ t.img = s.img ∧ t.regs = s.regs) ∧
    (∀ bs ns, Answers (.ringFrameForward r port true (.ptp bs ns)) s fun t =>
      t.sent = .ringPtp r.val (!port) (addResidence bs ns) :: s.sent ∧ t.mem = s.mem ∧ t.img = s.img ∧ t.regs = s.regs))

/-- Transactions (R288 to R295). The module issues the next waiting one that an entry is free for: the entry takes it with the next
generation, it leaves the queue, and its frame leaves both ports where both are up. Of a transaction in flight the first unanswered copy
is noted, the second ends it unanswered, and an answered copy completes it; a copy that belongs to no transaction in flight is a second
copy or one of a cancelled transaction, which changes nothing, or a stray, which is counted; one with a bad FCS is counted for its port.
An entry expires at its expiry, a read not before its task's release; a waiting acyclic transaction PHR_TMO.ACYC ms after it joined its
queue. -/
def Obligations.Transactions : Prop :=
  (∀ (r : RingId) (s : State) (i tag : Nat), mayIssue s = true → ringEn s r.val = true → nextTx s r.val = some (i, tag) →
    let x := (s.queue r.val).getD i {}
    Answers (.transactionIssue r) s fun t =>
      t = issueTx (s.setQueue r.val ((s.queue r.val).eraseIdx i)) tag x ∧ (t.entry tag).busy = true ∧ (t.entry tag).tx = x ∧
      (t.entry tag).gen = ((s.entry tag).gen + 1) % 256 ∧ (t.entry tag).issue = s.now ∧
      t.queue r.val = (s.queue r.val).eraseIdx i ∧ t.img = s.img ∧ t.mem = s.mem ∧ t.regs = s.regs ∧
      (x.typ ≠ .delta → ringLink s x.ring false = true → ringLink s x.ring true = true → t.sent
        = .ring x.ring true (txFrame s tag (t.entry tag) true) :: .ring x.ring false (txFrame s tag (t.entry tag) false) :: s.sent)) ∧
  (∀ (r : RingId) (port : Bool) (f : PFrame) (s : State), halted s = false → s.phr.linksDown = false →
    let e := s.entry f.tag.toNat
    (e.busy = true → e.gen = f.gen.toNat → wbit (f.flags.setWidth 32) 7 = true →
      exec (.copyReturn r port true f) s = .next (completeTx s f.tag.toNat f)) ∧
    (e.busy = true → e.gen = f.gen.toNat → wbit (f.flags.setWidth 32) 7 = false → e.unans = 0 →
      Answers (.copyReturn r port true f) s fun t => t.entry f.tag.toNat = { e with unans := 1 } ∧
        t.mem = s.mem ∧ t.img = s.img ∧ t.regs = s.regs ∧ t.tsk = s.tsk) ∧
    (e.busy = true → e.gen = f.gen.toNat → wbit (f.flags.setWidth 32) 7 = false → e.unans ≠ 0 →
      exec (.copyReturn r port true f) s = .next (endTx (freeEntry s f.tag.toNat) e.tx false [])) ∧
    (e.busy = false ∨ e.gen ≠ f.gen.toNat →
      (e.lastGen = some f.gen.toNat ∨ e.cancelled.contains f.gen.toNat = true → exec (.copyReturn r port true f) s = .next s) ∧
      (e.lastGen ≠ some f.gen.toNat → e.cancelled.contains f.gen.toNat = false → Answers (.copyReturn r port true f) s fun t =>
        t = s.count32 PHR_STRAY 1 ∧ t.phr = s.phr ∧ t.img = s.img ∧ t.tsk = s.tsk)) ∧
    exec (.copyReturn r port false f) s = .next (badFcs s r.val port)) ∧
  (∀ (tag : Byte) (s : State), halted s = false → (s.entry tag.toNat).busy = true →
    (awaitsRelease s (s.entry tag.toNat) = true → exec (.transactionExpiry (.entry tag)) s = .next s) ∧
    (∀ x, awaitsRelease s (s.entry tag.toNat) = false → txExpiry s (s.entry tag.toNat) = some x →
      exec (.transactionExpiry (.entry tag)) s = .next (expireTx (expireEntry (s.at x) tag.toNat) (s.entry tag.toNat).tx))) ∧
  (∀ (r : RingId) (s : State) (i : Nat) (x : Tx), halted s = false → oldestAcyclic (s.queue r.val) = some (i, x) →
    exec (.transactionExpiry (.queue r)) s
      = .next (let u := s.at (x.since + s.fld PHR_TMO_ACYC * 1000000)
               expireTx (u.setQueue r.val ((u.queue r.val).eraseIdx i)) x))

/-- Time on the rings (R298 to R302). A module that does not issue takes no PTP message. In grandmaster mode the management port takes
none either. In boundary-clock mode an Announce of the domain is followed where no clock is, or where its clock is better than the one
that is; one of the clock that is followed renews it; one of a clock that is no better, or of another domain, changes nothing. A
two-step Sync changes nothing, a one-step one is counted; a Follow_Up of the clock that is followed corrects the timebase, state 3, and
one of another clock does nothing; without an Announce for 3 s the module is in holdover, state 4, and follows none. A station's
Delay_Req at a ring port is answered there. At a ring's Sync instant a two-step Sync and its Follow_Up leave its two ports, and a station
follows it by R302; every 1 s the module announces itself on them.
Which clock is better is presumed (log 90). -/
def Obligations.RingTime : Prop :=
  (∀ (m : PtpMsg) (s : State), mayIssue s = false → exec (.ptpMessage m) s = .next s) ∧
  (∀ (d : Byte) (c : PtpClock) (src : DWord) (b : Bool) (off : Int) (s : State), ptpGrandmaster s = true →
    exec (.ptpMessage (.announce d c)) s = .next s ∧ exec (.ptpMessage (.sync d src b)) s = .next s ∧
    exec (.ptpMessage (.followUp d src off)) s = .next s) ∧
  (∀ (d : Byte) (c : PtpClock) (s : State), mayIssue s = true → ptpGrandmaster s = false →
    (d.toNat = s.fld PHR_PTPCTRL_DOMAIN →
      (s.phr.gm = none ∨ (∃ g, s.phr.gm = some g ∧ c.ident ≠ g.ident ∧ rankLess (clockRank c) (clockRank g) = true) →
        Answers (.ptpMessage (.announce d c)) s fun t =>
          t.phr.gm = some c ∧ t.phr.lastAnn = s.now ∧ t.fld PHR_PTPSTAT_STATE = 2 ∧ t.now = s.now ∧ t.mem = s.mem ∧ t.img = s.img) ∧
      (∀ g, s.phr.gm = some g → c.ident = g.ident → Answers (.ptpMessage (.announce d c)) s fun t =>
        t.phr.gm = some c ∧ t.phr.lastAnn = s.now ∧ t.regs = s.regs ∧ t.mem = s.mem ∧ t.now = s.now) ∧
      (∀ g, s.phr.gm = some g → c.ident ≠ g.ident → rankLess (clockRank c) (clockRank g) = false →
        exec (.ptpMessage (.announce d c)) s = .next s)) ∧
    (d.toNat ≠ s.fld PHR_PTPCTRL_DOMAIN → exec (.ptpMessage (.announce d c)) s = .next s)) ∧
  (∀ (d : Byte) (src : DWord) (s : State), mayIssue s = true → ptpGrandmaster s = false → d.toNat = s.fld PHR_PTPCTRL_DOMAIN →
    exec (.ptpMessage (.sync d src true)) s = .next s ∧
    exec (.ptpMessage (.sync d src false)) s = .next (s.modPhr fun p => { p with oneStep := p.oneStep + 1 }) ∧
    (∀ off, fromGm s src = true → exec (.ptpMessage (.followUp d src off)) s = .next (sendDelayReq (setPtp (ptpCorrect s off) 3)) ∧
      Answers (.ptpMessage (.followUp d src off)) s fun t => t.fld PHR_PTPSTAT_STATE = 3 ∧ t.mem = s.mem ∧ t.img = s.img) ∧
    (∀ off, fromGm s src = false → exec (.ptpMessage (.followUp d src off)) s = .next s)) ∧
  (∀ (r : RingId) (b : Bool) (d : Byte) (src : DWord) (s : State), mayIssue s = true → d.toNat = s.fld PHR_PTPCTRL_DOMAIN →
    ringEn s r.val = true → ringLink s r.val b = true → exec (.ptpMessage (.delayReq r b d src)) s
      = .next (s.send (.ptp { ptpFrom s (2 * r.val + b2n b) 9 (-4) with client := src }))) ∧
  (∀ s : State, ptpGrandmaster s = false → mayIssue s = true →
    (s.fld PHR_PTPSTAT_STATE = 2 ∨ s.fld PHR_PTPSTAT_STATE = 3 → Answers .announceReceiptTimeout s fun t =>
      t.fld PHR_PTPSTAT_STATE = 4 ∧ t.phr.gm = none ∧ t.now = max s.now (s.phr.lastAnn + 3000000000) ∧ t.mem = s.mem ∧
      t.img = s.img) ∧
    (s.fld PHR_PTPSTAT_STATE ≠ 2 → s.fld PHR_PTPSTAT_STATE ≠ 3 → exec .announceReceiptTimeout s = .next s)) ∧
  (∀ (r : RingId) (s : State), mayIssue s = true → enabledRings s = [r.val] → ringLink s r.val false = true →
    ringLink s r.val true = true →
    let w := (ptpSettle s).at (syncDue (ptpSettle s) r.val)
    let i : Int := if fastSync w r.val then -7 else -4
    Answers .ptpSyncSend s fun t =>
      t.sent = .ptp (ptpFrom w (2 * r.val + 1) 8 i) :: .ptp (ptpFrom w (2 * r.val) 8 i)
        :: .ptp { ptpFrom w (2 * r.val + 1) 0 i with twoStep := true } :: .ptp { ptpFrom w (2 * r.val) 0 i with twoStep := true }
        :: s.sent ∧
      (t.ring r.val).syncAt = some w.now ∧ t.now = w.now ∧
      (∀ key, key / 256 = r.val → (s.stn key).present = true → ∃ m, t.stn key = (s.stn key).meet w.now m) ∧
      (∀ key, key / 256 ≠ r.val ∨ (s.stn key).present = false → t.stn key = s.stn key)) ∧
  (∀ s : State, mayIssue s = true → enabledRings s = [] → exec .ptpSyncSend s = .next (ptpSettle s)) ∧
  (∀ (x : Station) (now : Nat) (m : SyncMeet), (x.meet now m).fromB =
    if x.fromB then decide (¬(m.portA = true ∧ 2 ≤ x.runA)) else decide (m.portA = false ∧ 2 ≤ x.missA)) ∧
  (∀ (r : RingId) (s : State), mayIssue s = true → enabledRings s = [r.val] → ringLink s r.val false = true →
    ringLink s r.val true = true →
    let a (p : Nat) : PtpOut := { ptpFrom s p 11 0 with prio1 := s.fld PHR_PTPCTRL_PRIO1, prio2 := s.fld PHR_PTPCTRL_PRIO2 }
    Answers .announceSend s fun t => t.sent = .ptp (a (2 * r.val + 1)) :: .ptp (a (2 * r.val)) :: s.sent ∧ t.regs = s.regs ∧
      t.mem = s.mem ∧ t.stations = s.stations)

/-- Stations (R279, R282, R303 to R318). A station that is configured and in step latches its inputs at its next latch instant. A frame
with a bad FCS goes on with a wrong one; a good one that is not addressed to the station goes on: one higher in HOPS in a type that it
knows, else unchanged, and looped back with the station's address where the onward link is down. Of those addressed to it, it refuses a
frame of an older epoch with status 2 and its own epoch, acts on one of its epoch, and drops its pending set for one of a newer epoch
before it acts. ENM gives a station without address the one of its place, seen from either side; while the program runs a station that
holds another address gives it up, with its configuration, and goes to its safe values. At its strike instant a station takes the
outputs that wait, or its safe values where they were not enabled; when no strike comes for its hold time it goes to its safe values;
at power-up its outputs are its power-on safe values, without address or configuration. -/
def Obligations.StationsAct : Prop :=
  (∀ (r : RingId) (n : Byte) (inputs : List Byte) (s : State),
    let x := s.stn (stnKey r.val n.toNat)
    x.present = true → x.sync = true → x.config = true → x.period ≠ 0 → Answers (.stationLatch r n inputs) s fun t =>
      ∃ at_, (t.stn (stnKey r.val n.toNat)).latch = some (at_, inputs) ∧ s.now ≤ at_ ∧ at_ < s.now + x.period ∧
        at_ % x.period = x.phase % x.period ∧ t.regs = s.regs ∧ t.img = s.img) ∧
  (∀ (r : RingId) (pos : Byte) (on ok : Bool) (f : PFrame) (answer : List Byte) (s : State),
    let key := stnKey r.val pos.toNat
    let x := s.stn key
    let n := b2n (decide (1 ≤ f.typ.toNat ∧ f.typ.toNat ≤ 5) || f.typ.toNat == 8 || f.typ.toNat == 9)
    (x.present = false → exec (.stationFrame r ⟨pos, on, ok⟩ f answer) s = .next s) ∧
    (x.present = true → ok = false → exec (.stationFrame r ⟨pos, on, ok⟩ f answer) s = .next (s.setStn key (x.sendOn on true n f))) ∧
    (x.present = true → ok = true → f.typ.toNat ≠ 8 → x.addressed f = false → Answers (.stationFrame r ⟨pos, on, ok⟩ f answer) s fun t =>
      t.stn key = x.sendOn on false n f ∧ (∀ j, j ≠ key → t.stn j = s.stn j) ∧ t.regs = s.regs ∧ t.mem = s.mem ∧
      (on = true → f.loop = false →
        (t.stn key).reply = some { frame := { f with hops := f.hops + BitVec.ofNat 8 n } }) ∧
      (on = false →
        (t.stn key).reply = some { frame := { f with loop := true, loopStn := BitVec.ofNat 8 x.addr }, back := true })) ∧
    (x.present = true → ok = true → x.addressed f = true →
      (f.epoch.toNat < x.epoch.toNat → Answers (.stationFrame r ⟨pos, on, ok⟩ f answer) s fun t =>
        t.stn key = x.sendOn on false 1 { stnReply x f 2 f.data with epoch := x.epoch } ∧ (∀ j, j ≠ key → t.stn j = s.stn j)) ∧
      (x.epoch = f.epoch →
        let a := stnAct s x f answer
        exec (.stationFrame r ⟨pos, on, ok⟩ f answer) s
          = .next (a.2.2.2.setStn key (a.1.sendOn on false 1 (stnReply a.1 f a.2.1 a.2.2.1)))) ∧
      (x.epoch.toNat < f.epoch.toNat →
        let a := stnAct s { x with epoch := f.epoch, pend := none } f answer
        exec (.stationFrame r ⟨pos, on, ok⟩ f answer) s
          = .next (a.2.2.2.setStn key (a.1.sendOn on false 1 (stnReply a.1 f a.2.1 a.2.2.1)))))) ∧
  (∀ (r : RingId) (pos : Byte) (on : Bool) (f : PFrame) (s : State),
    let key := stnKey r.val pos.toNat
    let x := s.stn key
    let hops := (f.hops.toNat + 1) % 256
    let place := if f.dirB then (f.station.toNat + 1 + 256 - hops) % 256 else hops
    x.present = true → f.loop = false → f.typ = BitVec.ofNat 8 ftENM →
      (x.addr = 0 → Answers (.stationEnm r ⟨pos, on, true⟩ f) s fun t =>
        (t.stn key).addr = place ∧ (t.stn key).outputs = x.outputs ∧ (t.stn key).config = x.config ∧ t.regs = s.regs) ∧
      (x.addr ≠ 0 → x.addr ≠ place → wbit (f.flags.setWidth 32) 2 = true → Answers (.stationEnm r ⟨pos, on, true⟩ f) s fun t =>
        (t.stn key).addr = place ∧ (t.stn key).outputs = x.safeNow ∧ (t.stn key).safe = true ∧ (t.stn key).config = false ∧
        t.regs = s.regs) ∧
      (x.addr = place ∨ wbit (f.flags.setWidth 32) 2 = false → x.addr ≠ 0 → Answers (.stationEnm r ⟨pos, on, true⟩ f) s fun t =>
        (t.stn key).addr = x.addr ∧ (t.stn key).outputs = x.outputs ∧ (t.stn key).config = x.config ∧ t.regs = s.regs)) ∧
  (∀ (r : RingId) (n : Byte) (s : State) (x : Nat) (on : Bool) (v : List Byte),
    let k := stnKey r.val n.toNat
    (s.stn k).pend = some (x, on, v) →
    (on = true → Answers (.stationStrike r n) s fun t => (t.stn k).outputs = v ∧ (t.stn k).safe = false ∧ (t.stn k).lastStrike = x ∧
      (t.stn k).pend = none ∧ t.now = max s.now x ∧ t.regs = s.regs) ∧
    (on = false → Answers (.stationStrike r n) s fun t =>
      (t.stn k).outputs = (s.stn k).safeNow ∧ (t.stn k).safe = true ∧ (t.stn k).pend = none ∧ (t.stn k).lastStrike = x ∧
      t.now = max s.now x ∧ t.regs = s.regs)) ∧
  (∀ (r : RingId) (n : Byte) (s : State),
    let k := stnKey r.val n.toNat
    (s.stn k).present = true → (s.stn k).safe = false → Answers (.holdTimeExpiry r n) s fun t =>
      (t.stn k).outputs = (s.stn k).safeNow ∧ (t.stn k).safe = true ∧ (t.stn k).pend = (s.stn k).pend ∧
      t.now = max s.now ((s.stn k).lastStrike + (s.stn k).holdUs * 1000) ∧ t.regs = s.regs) ∧
  (∀ (r : RingId) (pos : Byte) (id : StnIdent) (ps : List Byte) (s : State),
    let k := stnKey r.val pos.toNat
    Answers (.stationPowerUp r pos id ps) s fun t =>
      (t.stn k).outputs = ps ∧ (t.stn k).ident = id ∧ (t.stn k).addr = 0 ∧ (t.stn k).config = false ∧
      (t.stn k).nvStore = (s.stn k).nvStore ∧ t.regs = s.regs ∧ t.mem = s.mem ∧ ∀ j, j ≠ k → t.stn j = s.stn j)

/-! ### Loops, the trace and the energy ledger (R350 to R437) -/

/-- Loops (R351 to R358, R368, R370, R383). At its next sample instant a configured immediate loop reads its sources, after the
publications of that instant, and joins the queue of ready executions; while the program does not run the instant is skipped and
counted. A free unit takes the ready execution that comes first, with the writes accepted until then. An immediate output is published
at its instant, with the force in effect, and its state is kept for the next delta record. A core's write to the selected loop's record
has the effect of the loop's object, which a partner is told; where the object would refuse it, it raises cause 0x03. -/
def Obligations.Loops : Prop :=
  (∀ (n : Fin 4096) (s : State), (s.loop n.val).configured = true → s.boot.held = false → s.frz.frozen = false →
    (s.loop n.val).aligned = false →
    let x := loopNext s (s.loop n.val)
    let at_ (v : State) : State := (v.at x).modLoop n.val fun l => { l with sampled := some (max v.now x) }
    (s.running = false → exec (.loopSampleInstant n) s = .next ((at_ s).count32 LPE_SKIP 1)) ∧
    (s.running = true → lpeOn s = true → publicationsDue s x = [] → switched s = false →
      Answers (.loopSampleInstant n) s fun t =>
        t = (at_ s).modLpe (fun p => { p with queue := p.queue ++
          [{ loop := n.val, tl := max s.now x, ready := max s.now x, cap := captureSources (at_ s) n.val }] }) ∧
        (t.loop n.val).sampled = some (max s.now x) ∧ t.img = s.img ∧ t.mem = s.mem ∧ t.regs = s.regs) ∧
    (s.running = true →
      let v := handoverDone (publishDue s x)
      v.running = true → v.frz.frozen = false → lpeOn v = true → exec (.loopSampleInstant n) s
        = .next ((at_ v).modLpe fun p => { p with queue := p.queue ++
          [{ loop := n.val, tl := max v.now x, ready := max v.now x, cap := captureSources (at_ v) n.val }] }))) ∧
  (∀ (u : Fin 4) (s : State) (e : LoopExec), nextExec s.lpe.queue = some e → lpeRuns s = true →
    Tbl.range s.lpe.units u.val 1 = [] → Answers (.loopExecutionStart u) s fun t =>
      t.lpe.queue = s.lpe.queue.erase e ∧
      t.lpe.units = Tbl.insert s.lpe.units u.val { e with start := s.now, writes := (s.loop e.loop).writes } ∧
      (t.loop e.loop).writes = [] ∧ t.mem = s.mem ∧ t.img = s.img ∧ t.regs = s.regs) ∧
  (∀ (n : Fin 4096) (s : State) (o : LoopOut), (s.loop n.val).out = some o → (s.loop n.val).aligned = false →
    s.running = true → s.frz.frozen = false →
    let l := { s.loop n.val with out := none, pub := o.u, pubBad := o.bad, carry := some o.state }
    (∀ w g, o.word = some w → loopDest (s.loop n.val) = some g → Answers (.loopPublication n) s fun t =>
      t = ((s.at o.t).setLoop n.val { l with pubWord := some w }).setStable g
        (forced ((s.at o.t).setLoop n.val { l with pubWord := some w }) g w) ∧
      t.loop n.val = { l with pubWord := some w } ∧ t.now = max s.now o.t ∧ t.mem = s.mem ∧ t.regs = s.regs) ∧
    (o.word = none → Answers (.loopPublication n) s fun t =>
      t = (s.at o.t).setLoop n.val l ∧ t.loop n.val = l ∧ t.img = s.img ∧ t.mem = s.mem ∧ t.regs = s.regs)) ∧
  (∀ (core : CoreId) (n : Fin 4096) (sub : Fin 32) (v : Word) (s : State), MayWrite s core (LPE_RWORD sub.val) →
    s.fld LPE_RSEL_LOOP = n.val → loopReadOnly (sub.val + 1) = false →
    ((loopWrite s n.val (sub.val + 1) v).2 = 0 → exec (.loopRecordWrite (.core core) n sub v) s
      = .next (shareRegister s (loopWrite s n.val (sub.val + 1) v).1 (LPE_RWORD sub.val))) ∧
    ((loopWrite s n.val (sub.val + 1) v).2 ≠ 0 → exec (.loopRecordWrite (.core core) n sub v) s
      = .next (raiseExc s core.val exAccess 1 (LPE_RWORD sub.val) (s.unit core.val).pc)))

/-- The energy ledger and its slices (R379, R395 to R414). At each millisecond the meters count, and outside a freeze the balance gains
the allowance and loses the input energy, within its bounds. A slice whose turn it is and that its class's funds cover is granted; with
one in force, out of turn, or without funds it is not. At its end the metered energy is debited. A scrub pass behind its line is forced
as class 1 work, whatever the balance; an evaluation still running past its predicted time sends its islands to code 66. Every 10 µs the
paces are read, into the demand of each task between its release and the end of its evaluation. A trace record is written in a slice of
its buffer, or marks a gap. One background slice at a time is the model's choice (log 65). -/
def Obligations.EnergyLedger : Prop :=
  (∀ (i : Nat) (isl : List Nat) (s u : State), s.boot.held = false → u = metered (s.at (ledgerNext s)) i isl →
    (s.frz.frozen = true → Answers (.ledgerUpdate i isl) s fun t => t = u ∧ t.nrg.bal = s.nrg.bal ∧ t.mem = s.mem) ∧
    (s.frz.frozen = false → Answers (.ledgerUpdate i isl) s fun t =>
      t = settle u (inputEnergy (s.at (ledgerNext s)) i) ∧
      t.nrg.bal = clampInt (-2147483648000) (((s.fld NRG_CAP_MJ : Nat) : Int) * 1000)
        (s.nrg.bal + ((s.fld NRG_ALLOW_MW : Nat) : Int) - ((inputEnergy (s.at (ledgerNext s)) i : Nat) : Int)) ∧
      t.now = Nat.max s.now (ledgerNext s) ∧ t.mem.sram = s.mem.sram ∧ t.img = s.img ∧ t.units = s.units)) ∧
  (∀ (d : Duty) (est : Nat) (s : State), feltRuns s = true → s.nrg.slice = none → nearest s d = true →
    (funded s d est = true → Answers (.sliceGrant d est) s fun t =>
      t.nrg.slice = some ⟨d, s.now⟩ ∧ t.nrg.bal = s.nrg.bal ∧ t.img = s.img ∧ t.mem = s.mem ∧
      (s.gz.audit = none → t.regs = s.regs ∧ t.units = s.units)) ∧
    (funded s d est = false → Answers (.sliceGrant d est) s fun t =>
      t = nextSlice s d est ∧ t.nrg.slice = none ∧ t.nrg.bal = s.nrg.bal ∧ t.regs = s.regs)) ∧
  (∀ (d : Duty) (est : Nat) (s : State), feltRuns s = false ∨ s.nrg.slice.isSome = true ∨ nearest s d = false →
    exec (.sliceGrant d est) s = .next s) ∧
  (∀ (m : Nat) (s : State) (x : Slice), s.nrg.slice = some x → feltRuns s = true →
    dutyClass x.duty = 3 ∨ x.duty = .scrub ∨ auditRunning s = false →
    let u := s.modNrg fun n => { n with slice := none, bal := balClamp s (n.bal - m) }
    exec (.sliceEnd m) s = .next (overCheck (sliceDone u x.duty)) ∧
    (x.duty ≠ .selfTest → x.duty ≠ .scrub → x.duty ≠ .editCheck → Answers (.sliceEnd m) s fun t =>
      t.nrg.slice = none ∧ t.nrg.bal = balClamp s (s.nrg.bal - m) ∧ t.mem.sram = s.mem.sram ∧ t.img = s.img ∧ t.units = s.units)) ∧
  (∀ s : State, feltRuns s = true →
    (s.nrg.done * 86400000000000 < (s.now - s.nrg.pass) * scrubTotal →
      exec .forcedScrub s = .next (scrubOn (forcedDuty s true 0) 1048576)) ∧
    ((s.now - s.nrg.pass) * scrubTotal ≤ s.nrg.done * 86400000000000 → exec .forcedScrub s = .next s)) ∧
  (∀ (k : TaskId) (s : State) (d : List Nat), feltRuns s = true → (s.task k.val).evaluating = true → s.flag NRG_CTRL_EN = true →
    (s.nrg.hist.get [] (2 * k.val + b2n (wholeCycle s k.val))).isEmpty = false →
    d = (taskIslands s k.val).map (fun i => if s.fld (NRG_ISLSTAT_PACE i) = 0 then 0
      else demand s k.val (wholeCycle s k.val) i * 1000 / s.fld (NRG_ISLSTAT_PACE i)) →
    Answers (.catchUp k) s fun t =>
      t = replan ((s.at ((s.task k.val).relTime + d.foldl Nat.max 0)).modNrg fun n => { n with catch_ := n.catch_.add k.val }) ∧
      ((s.task k.val).active = true → (s.task k.val).ended = false →
        ∀ i < 4, (taskIslands s k.val).contains i = true → s.flag (NRG_ISLCTRL_FIX i) = false →
          t.fld (NRG_ISLSTAT_CODE i) = 66) ∧
      t.mem = s.mem ∧ t.img = s.img) ∧
  (∀ (p : List Nat) (s : State), feltRuns s = true → Answers (.paceRead p) s fun t =>
    (∀ i < 4, t.fld (NRG_ISLSTAT_PACE i) = Nat.min 0xFFFF (p.getD i 0)) ∧
    (∀ k < 24, (s.task k).active = true → (s.task k).released = true → (s.task k).ended = false →
      (t.task k).hs = (List.range 4).map fun i => (s.task k).hs.getD i 0 + 10 * Nat.min 0xFFFF (p.getD i 0)) ∧
    t.mem = s.mem ∧ t.img = s.img ∧ t.units = s.units) ∧
  (∀ (b : Fin 8) (s : State) (x : TrcSample) (rest : List TrcSample), (s.trcb b.val).waiting = x :: rest → feltRuns s = true →
    (inSlice s (.traceWrite b) = true → exec (.traceRecordWrite b true) s
      = .next (trcAfter (trcWrite (s.setTrcb b.val { s.trcb b.val with waiting := rest }) b.val x false) b.val)) ∧
    (inSlice s (.traceWrite b) = false → exec (.traceRecordWrite b true) s = .next s) ∧
    exec (.traceRecordWrite b false) s
      = .next (trcShed (s.setTrcb b.val { s.trcb b.val with waiting := rest }) b.val))

/-- Temperatures (R394, R416, R417). Every 100 µs the junction temperature is the highest of the cores' and the islands' readings, with
their corrections, and the peak follows it upwards; at 110 °C LIMITING begins, below 107 °C it ends, and between it stays. Where
LIMITING has lasted 10 ms with every island at the lowest code that its tasks allow and still 110 °C, LIMITSEEN is set, once an entry.
A thermal shutdown puts the field side to its safe pattern and the module into a reset with its source, which is released only once
every temperature is below 100 °C. -/
def Obligations.Temperatures : Prop :=
  (∀ (isl : List Int) (c : Int) (s : State), feltRuns s = true →
    let x := ((List.range 4).map fun i => userEff s (0x3010 + i) (isl.getD i 0) 10).foldl Max.max (userEff s 0x3014 c 10)
    Answers (.temperatureRead isl c) s fun t =>
      t.fld NRG_TJ_TJ = (BitVec.ofInt 16 x).toNat ∧
      t.fld NRG_TJ_TJMAX = (if s.fldInt NRG_TJ_TJMAX < x then (BitVec.ofInt 16 x).toNat else s.fld NRG_TJ_TJMAX) ∧
      (s.flag NRG_STAT_LIMITING = false → 1100 ≤ x → t.flag NRG_STAT_LIMITING = true ∧ t.nrg.limit = some t.now) ∧
      (s.flag NRG_STAT_LIMITING = true → x < 1070 → t.flag NRG_STAT_LIMITING = false) ∧
      (1070 ≤ x → x < 1100 → t.flag NRG_STAT_LIMITING = s.flag NRG_STAT_LIMITING) ∧
      t.mem = s.mem ∧ t.img = s.img ∧ t.units = s.units ∧ s.now ≤ t.now ∧ t.now < s.now + 100000 ∧ t.now % 100000 = 0) ∧
  (∀ (s : State) (x : Nat), s.nrg.limit = some x → feltRuns s = true → s.nrg.limited = false → 1100 ≤ tj s →
    (∀ i < 4, s.flag (NRG_ISLCTRL_FIX i) = true ∨ s.flag NRG_CTRL_EN = false ∨ s.fld (NRG_ISLSTAT_CODE i) = planCode s i) →
    Answers .thermalLimitTimeout s fun t =>
      t.nrg.limited = true ∧ t.flag NRG_STAT_LIMITSEEN = true ∧ t.mem.sram = s.mem.sram ∧ t.img = s.img ∧ t.units = s.units ∧
      t.now = max s.now (x + 10000000)) ∧
  (∀ s : State, s.boot.held = false → Answers .thermalShutdown s fun t =>
    t.boot.held = true ∧ t.boot.thermal = true ∧ t.boot.sources = 2 ^ (srcThermal - 1) ∧ t.stopped = true ∧ t.regs = [] ∧
    t.units = [(4, UnitSt.atReset 4)] ∧ .safe ∈ t.field.cmds) ∧
  (∀ (temps : List Int) (s : State),
    (temps.all (fun t => decide (t < 1000)) = true → exec (.thermalResetRelease temps) s
      = .next (s.modBoot fun b => { b with thermal := false })) ∧
    (temps.all (fun t => decide (t < 1000)) = false → exec (.thermalResetRelease temps) s = .next s))

/-! ### The pair (R430 to R480) -/

/-- Heartbeats and notices (R436, R438, R440 to R442, R450, R452, R465, R729). At its next instant a unit sends a heartbeat on both
paths, a notice's TIA-485 copy before it. Of a frame with a bad CRC only that the TIA-485 line was in use is kept; one that comes to a
module held or frozen changes nothing. A valid heartbeat without a notice restores its path and is kept: an active module whose partner
is SYNCING sends it a full copy, a READY one stores the active module's epoch. A READY partner that hears notice 1, 2, 4 or 5, or loses
its second path, becomes ACTIVE; a path is lost 1 ms after its last heartbeat. A module that has listened for 20 ms follows the active
partner it heard, or with none heard becomes ACTIVE. PAIRCOMPAT is kept, and answered but in STARTING once it is known.
That a loader entered at the partner's request sends heartbeats is a reading (log 47). -/
def Obligations.PairHeartbeats : Prop :=
  (∀ s : State, pairUp s = true → s.boot.stage = .firmware ∨ s.boot.relReq = true → s.hsb.wait485 = false → Answers .heartbeatSend s fun t =>
    let code := if s.hsb.repeats ≠ 0 then s.hsb.notice else if s.hsb.switch.isSome && s.role == roleActive then 7 else 0
    t.sent = .hsb 1 (hbFrame s 1 code) :: .hsb 0 (hbFrame s 1 code) :: s.sent ∧ t.hsb.seq = (s.hsb.seq + 1) % 2 ^ 32 ∧
      t.hsb.hbSent = some (max s.now (hbInstant s)) ∧ t.hsb.repeats = s.hsb.repeats - 1 ∧ t.regs = s.regs ∧ t.mem = s.mem ∧
      t.img = s.img) ∧
  (∀ s : State, pairUp s = true → s.boot.stage = .firmware → s.hsb.wait485 = true → s.hsb.repeats ≠ 0 → Answers .heartbeatSend s fun t =>
    t.sent = .hsb 1 (hbFrame s 1 s.hsb.notice) :: .hsb 1 (hbFrame s 2 s.hsb.notice) :: .hsb 0 (hbFrame s 1 s.hsb.notice) :: s.sent ∧
      t.hsb.wait485 = false ∧ t.hsb.repeats = s.hsb.repeats - 1 ∧ t.regs = s.regs ∧ t.mem = s.mem ∧ t.img = s.img) ∧
  (∀ (path : Fin 2) (bs : List Byte) (s : State),
    (pairUp s = false → exec (.heartbeatReceive path bs) s = .next s ∧ exec (.noticeReceive path bs) s = .next s) ∧
    (pairUp s = true → parseHb bs = none →
      exec (.heartbeatReceive path bs) s = .next (heard485 s path.val) ∧
      exec (.noticeReceive path bs) s = .next (heard485 s path.val))) ∧
  (∀ (path : Fin 2) (bs : List Byte) (s : State) (p : Partner), pairUp s = true → parseHb bs = some (1, p) → p.notice = 0 →
    s.hsb.lost.length = 2 → s.hsb.hb.length = 2 →
    (s.role = roleActive → p.role ≠ roleSyncing → Answers (.heartbeatReceive path bs) s fun t =>
      t.hsb.partner = p ∧ t.pathLost path.val = false ∧ t.hsb.hb.getD path.val 0 = s.now ∧ t.role = roleActive ∧
      t.hsb.copying = false ∧ t.mem = s.mem ∧ t.img = s.img ∧ t.sent = s.sent) ∧
    (s.role = roleActive → p.role = roleSyncing → s.hsb.copying = false → Answers (.heartbeatReceive path bs) s fun t =>
      t.hsb.copying = true ∧ .fullCopy s.img s.mem.sram (loopsCopy s) ∈ t.sent ∧ t.role = roleActive) ∧
    (s.role = roleReady → p.role = roleActive → s.boot.stage = .firmware → Answers (.heartbeatReceive path bs) s fun t =>
      t.hsb.epStore = p.epoch ∧ t.hsb.partner = p ∧ t.role = roleReady ∧ t.pathLost path.val = false)) ∧
  (∀ (path : Fin 2) (bs : List Byte) (s : State) (p : Partner), pairUp s = true → parseHb bs = some (2, p) →
    (s.role ≠ roleReady → Answers (.noticeReceive path bs) s fun t => t.hsb.partner.notice = p.notice ∧ t.role = s.role ∧
      t.mem = s.mem ∧ t.regs = s.regs ∧ t.img = s.img) ∧
    (s.role = roleReady → p.notice = 1 ∨ p.notice = 2 ∨ p.notice = 4 ∨ p.notice = 5 → Answers (.noticeReceive path bs) s fun t =>
      t.role = roleActive ∧ t.hsb.rxNotice = p.notice)) ∧
  (∀ (path : Fin 2) (s : State), pairUp s = true → s.pathLost path.val = false → s.hsb.lost.length = 2 →
    (s.pathLost (1 - path.val) = false → Answers (.pathLoss path) s fun t =>
      t.pathLost path.val = true ∧ t.pathLost (1 - path.val) = false ∧ t.role = s.role ∧
      t.now = max s.now (s.hsb.hb.getD path.val 0 + 1000000)) ∧
    (s.pathLost (1 - path.val) = true → s.role = roleReady → s.hsb.partner.notice ≠ 3 → Answers (.pathLoss path) s fun t =>
      t.role = roleActive)) ∧
  (∀ (s : State) (p : Partner), pairUp s = true → s.role = roleStarting → s.boot.stage = .firmware → s.hsb.heard = some p →
    p.role = roleActive → Answers .startingListenEnd s fun t =>
      t.role = (if matches_ s p then roleSyncing else roleIncompatible) ∧ t.stopped = true ∧
      t.now = max s.now (s.hsb.listen + 20000000)) ∧
  (∀ s : State, pairUp s = true → s.role = roleStarting → s.boot.stage = .firmware → s.hsb.heard = none →
    exec .startingListenEnd s = .next (takeCharge (becomeActive (s.at (s.hsb.listen + 20000000)))) ∧
    (becomeActive (s.at (s.hsb.listen + 20000000))).role = roleActive) ∧
  (∀ (bs : List Byte) (s : State), pairUp s = true → Answers (.pairCompatibilityFrame bs) s fun t =>
    t.hsb.pairCompat = some (fromLE (bs.take 2)) ∧ t.role = s.role ∧ t.regs = s.regs ∧ t.mem = s.mem ∧
    (s.role = roleStarting → s.hsb.pairCompat.isSome = true → t.sent = s.sent) ∧
    (s.role ≠ roleStarting → t.sent = .compat s.boot.pairCompat :: s.sent))

/-- Records of the state delta (R418, R443 to R450, R466, R477): each is acknowledged; a SYNCING partner applies what they carry; a READY
one evaluates in shadow on an INPUT record, and goes back to SYNCING where one was missed, where no END comes within a period of a cyclic
task, or where the digest differs, to UNFIT at the third within 1 h. The active module sends a LEDGER record of 200 bytes, and notes the
acknowledgements; the partner keeps balance, state bits and audit deadlines of one. A CONTROL record brings a force or the instant of a
handover. A full copy that is complete makes the partner READY, and every task's next cycle a resync cycle. The places
of loop states in a full copy and the form of CONTROL items are the model's (log 14). -/
def Obligations.PairRecords : Prop :=
  (∀ (r : HsbRec) (s : State) (a : Nat) (w : Word), pairUp s = true → s.role = roleSyncing → r.body = deltaEntry a w → a < 2 ^ 32 →
    (0x20000000 ≤ a → a < 0x21000000 → Answers (.dataRecord r) s fun t =>
      t.mem.sram = Mem.setWord s.mem.sram 0 (a / 4 * 4) w ∧ t.regs = s.regs ∧ t.img = s.img ∧
      t.sent = .ack r.task.toNat r.cycle.toNat :: s.sent) ∧
    exec (.groupsRecord r) s = .next (copyGroup (takeRecord s r) a w)) ∧
  (∀ (r : HsbRec) (s : State), pairUp s = true → s.role ≠ roleSyncing →
    exec (.dataRecord r) s = .next (takeRecord s r) ∧ exec (.groupsRecord r) s = .next (takeRecord s r) ∧
    exec (.loopsRecord r) s = .next (takeRecord s r)) ∧
  (∀ (r : HsbRec) (s : State) (n : Nat) (bs : List Byte), pairUp s = true → s.role = roleSyncing → n < 4096 → bs.length = 28 →
    r.body = toLE 4 n ++ bs → exec (.loopsRecord r) s = .next (loopState (takeRecord s r) n bs)) ∧
  (∀ (r : HsbRec) (s : State), pairUp s = true → r.task.toNat < 24 →
    (∀ c, s.role = roleReady → (s.delta r.task.toNat).rx = some c → r.cycle.toNat ≠ (c + 1) % 2 ^ 32 →
      Answers (.inputRecord r) s fun t => t.role = roleSyncing ∧ t.stopped = true) ∧
    (takesInput s = true → exec (.inputRecord r) s = .next (shadowInput (takeRecord s r) r r.task.toNat)) ∧
    (∀ c, s.role = roleReady → (s.delta r.task.toNat).rx = some c → c ≠ r.cycle.toNat →
      Answers (.endRecord r) s fun t => t.role = roleSyncing ∧ t.stopped = true) ∧
    (s.role = roleReady → (s.delta r.task.toNat).rx = some r.cycle.toNat → (s.task r.task.toNat).ended = false →
      Answers (.endRecord r) s fun t => (t.delta r.task.toNat).digest = listFit 0 32 r.body ∧
        (t.delta r.task.toNat).endDue = false ∧ t.role = roleReady) ∧
    (s.role = roleReady → (s.delta r.task.toNat).rx = some r.cycle.toNat → (s.task r.task.toNat).ended = true →
      listFit 0 32 r.body = deltaDigest s r.task.toNat → Answers (.endRecord r) s fun t =>
        t.role = roleReady ∧ t.hsb.mismatches = s.hsb.mismatches) ∧
    (s.role = roleReady → (s.delta r.task.toNat).rx = some r.cycle.toNat → (s.task r.task.toNat).ended = true →
      listFit 0 32 r.body ≠ deltaDigest s r.task.toNat → Answers (.endRecord r) s fun t =>
        t.role = if 3 ≤ ((s.now :: s.hsb.mismatches).filter fun x => decide (s.now < x + 3600000000000)).length then roleUnfit
                 else roleSyncing)) ∧
  (∀ (k : TaskId) (s : State), pairUp s = true → s.role = roleReady → (s.delta k.val).endDue = true → k.val < 16 →
    Answers (.endRecordTimeout k) s fun t => t.role = roleSyncing ∧ t.stopped = true) ∧
  (∀ s : State, pairUp s = true → s.role = roleActive → Answers .ledgerRecordSend s fun t =>
    ∃ r : HsbRec, t.sent = .delta recLedger r :: s.sent ∧ r.task = 0xFF ∧ r.body.length = 200 ∧
      r.body.take 4 = toLE 4 (viewNrg s NRG_BAL 0) ∧ t.mem = s.mem ∧ t.regs = s.regs) ∧
  (∀ (r : HsbRec) (s : State), pairUp s = true →
    (s.acts = true → exec (.ledgerRecord r) s = .next (takeRecord s r) ∧
      (s.boot.stage = .firmware → exec (.controlRecord r) s = .next (takeRecord s r))) ∧
    (s.acts = false → Answers (.ledgerRecord r) s fun t => t.hsb.pBal = toWord (fromLE (slice r.body 0 4)) ∧
      t.hsb.pStat = toWord (fromLE (slice r.body 4 4)) ∧ t.regs = s.regs ∧ t.mem = s.mem ∧
      ∀ k < 24, (t.aud k).start = fromLE (slice r.body (8 + 8 * k) 8) - s.fld GZ_AUDINT_SECONDS * 1000000000) ∧
    (∀ th, s.boot.stage = .firmware → s.role = roleReady → th < 2 ^ 64 → r.body = toLE 1 itemHandover ++ toLE 8 th →
      Answers (.controlRecord r) s fun t => t.hsb.switch = some { th := th, since := s.now, acked := true } ∧ t.role = roleReady) ∧
    (∀ bs, s.boot.stage = .firmware → s.role = roleReady → r.body = toLE 1 itemForce ++ bs →
      exec (.controlRecord r) s = .next (itemForceIn (takeRecord s r) bs))) ∧
  (∀ (k : Byte) (c : Word) (s : State), pairUp s = true → s.role = roleActive →
    (k.toNat < 24 → Answers (.recordAcknowledgement k c) s fun t => (t.delta k.toNat).ackIn = some c.toNat ∧ t.mem = s.mem) ∧
    (∀ x, 24 ≤ k.toNat → s.hsb.switch = some x → toWord x.th = c → Answers (.recordAcknowledgement k c) s fun t =>
      t.hsb.switch = some { x with acked := true } ∧ t.mem = s.mem ∧ t.regs = s.regs)) ∧
  (∀ (a : Word) (bs : List Byte) (s : State), s.role ≠ roleSyncing → exec (.fullCopyChunk a bs) s = .next s) ∧
  (∀ (a : Word) (b : Byte) (s : State), pairUp s = true → s.role = roleSyncing → 0x20000000 ≤ a.toNat → a.toNat < 0x21000000 →
    Answers (.fullCopyChunk a [b]) s fun t => t.mem.sram = s.mem.sram.set 0 a.toNat b ∧ t.img = s.img ∧ t.regs = s.regs ∧
      t.role = roleSyncing) ∧
  (∀ s : State, pairUp s = true → s.role = roleSyncing → Answers .fullCopyComplete s fun t =>
    t.role = roleReady ∧ t.flag SYS_SYSOK_DRIVE = true ∧ t.hsb.copying = false ∧ ∀ k < 24, (t.task k).resync = true)

/-- Takeover and planned switchover (R453, R466, R467), and the relay of an update (R728). At T_a the new active module samples F where
its cycle begins then, or makes its own the cycle that it had begun in shadow, and issues the takeover writes; a handover that is not
acknowledged within 1 ms is dropped; at T_h, no publication being due, the READY partner takes the plant, and the active one becomes
READY where none of its own cycles remains. A partner's firmware that is asked to update resets into its loader, which receives, and an
abort returns it to IDLE; a partner's loader that does not answer for 1 s fails the update with reason 7.
The form of a relayed frame is the model's choice (log 40). -/
def Obligations.PairSwitch : Prop :=
  (∀ s : State, s.hsb.takeover = none → exec .takeoverIssue s = .next s) ∧
  (∀ (s : State) (x : Takeover), s.hsb.takeover = some x → x.issued = false → s.running = true → halted s = false →
    s.role = roleActive → publicationsDue s x.ta = [] →
    let issued (u : State) : State := takeoverWrites (u.modHsb fun h => { h with takeover := some { x with issued := true } }) x
    ((s.task x.task).nextTs = x.ta → exec .takeoverIssue s = .next (issued (sampleTask (s.at x.ta) x.task))) ∧
    ((s.task x.task).nextTs ≠ x.ta → (s.task x.task).ts = x.ta → (s.task x.task).shadow = true → (s.task x.task).released = false →
      exec .takeoverIssue s = .next (issued (adoptCycle (s.at x.ta) x.task))) ∧
    ((s.task x.task).nextTs ≠ x.ta → (s.task x.task).ts ≠ x.ta → exec .takeoverIssue s = .next (issued (s.at x.ta)) ∧
      (x.data.filter (fun e => stnUsable s e.1) = [] → Answers .takeoverIssue s fun t =>
        t.hsb.takeover = some { x with issued := true } ∧ t.now = max s.now x.ta ∧ t.sent = s.sent ∧ t.img = s.img ∧
        t.mem = s.mem ∧ t.regs = s.regs))) ∧
  (∀ (s : State) (x : Switch), s.hsb.switch = some x → x.acked = false → s.role = roleActive → pairUp s = true →
    Answers .switchoverAckTimeout s fun t => t.hsb.switch = none ∧ t.hsb.repeats = 0 ∧ t.role = roleActive ∧
      t.now = max s.now (x.since + 1000000) ∧ t.mem.sram = s.mem.sram ∧ t.img = s.img) ∧
  (∀ (s : State) (x : Switch), s.hsb.switch = some x → x.acked = true → pairUp s = true → publicationsDue s x.th = [] →
    (s.role = roleReady → exec .handover s = .next (takeHandover (s.at x.th) x.th) ∧
      ((∀ k < 24, (s.task k).active = false) → Answers .handover s fun t => t.role = roleActive ∧ t.hsb.planned = true ∧
        t.hsb.switch = none ∧ t.now = max s.now x.th ∧ t.img = s.img ∧ t.mem.sram = s.mem.sram)) ∧
    (s.role = roleActive → switched (s.at x.th) = true → (List.range 24).any (ownCycle (s.at x.th)) = false →
      Answers .handover s fun t => t.role = roleReady ∧ t.hsb.switch = none ∧ t.mem.sram = s.mem.sram ∧ t.img = s.img) ∧
    (s.role ≠ roleReady → s.role ≠ roleActive → exec .handover s = .next (s.at x.th))) ∧
  (∀ (bs : List Byte) (s : State), pairUp s = true → s.role ≠ roleActive → fromLE (bs.take 1) = 1 →
    (s.boot.stage = .firmware → Answers (.updateRelay bs) s fun t => t.boot.held = true ∧ t.boot.relReq = true ∧
      t.boot.sources = 2 ^ (srcSoftware - 1) ∧ t.mem.mram = s.mem.mram ∧ t.mem.flash = s.mem.flash) ∧
    (s.boot.stage = .loader → Answers (.updateRelay bs) s fun t => t.boot.upd = .receiving ∧ t.boot.updNext = 0 ∧
      t.sent = .relay (toLE 1 0x81 ++ toLE 2 0) :: s.sent ∧ t.mem = s.mem)) ∧
  (∀ (bs : List Byte) (s : State), pairUp s = true → s.role ≠ roleActive → s.boot.stage = .loader → s.boot.resident = true →
    fromLE (bs.take 1) = 4 → s.boot.upd = .receiving → s.boot.updPartner = false → Answers (.updateRelay bs) s fun t =>
      t.boot.upd = .idle ∧ t.mem = s.mem ∧ t.sent = s.sent) ∧
  (∀ (s : State) (x : Nat), s.hsb.relayAt = some x → s.boot.updPartner = true → pairUp s = true →
    Answers .partnerUpdateTimeout s fun t => t.boot.upd = .failed ∧ t.boot.updReason = 7 ∧ t.hsb.relayAt = none)

/-! ### Supply and resets (R472, R534, R710, R711, R720, R721) -/

/-- A feed shows the state of its voltage, with hysteresis, its voltage and its current, and changes of state are counted (R472, R478). A
power-fail warning outside a freeze stops the program, and begins a save where the program has run since the reset, is not preparing
and the protection lets it (R720, R721); the save's end is a power-fail reset. A loss of power leaves what needs no supply; a rise of
power starts the timebase at 0 with the power-on source; RESET_N resets the module, but between a power-fail warning and its reset
(R710, R711). Inside a threshold's tolerance the comparison is a free bit (log 55), which this statement leaves out. -/
def Obligations.SuppliesAndResets : Prop :=
  (∀ (f : Fin 2) (mv ma : Nat) (s : State), s.boot.held = false →
    let a := if f.val = 0 then HSB_FEEDA else HSB_FEEDB
    let old := wbits (s.reg a) 31 30
    let shows (t : State) (n : Nat) := wbits (t.reg a) 31 30 = n ∧ wbits (t.reg a) 25 16 = Nat.min 1023 (ma / 2) ∧
      wbits (t.reg a) 15 0 = Nat.min 0xFFFF mv ∧ (n = old → t.hsb.feedCnt = s.hsb.feedCnt) ∧
      (n ≠ old → t.hsb.feedCnt = holdAt 0xFFFFFFFF (s.hsb.feedCnt + 1))
    (mv < 9000 → Answers (.feedStateChange f mv ma) s fun t => shows t 0) ∧
    (9000 ≤ mv → mv < 18300 → Answers (.feedStateChange f mv ma) s fun t => shows t 1) ∧
    (19200 ≤ mv → mv < 30500 ∨ mv < 31000 ∧ old ≠ 3 → Answers (.feedStateChange f mv ma) s fun t => shows t 2) ∧
    (30500 ≤ mv → old = 3 → Answers (.feedStateChange f mv ma) s fun t => shows t 3) ∧
    (32000 < mv → Answers (.feedStateChange f mv ma) s fun t => shows t 3)) ∧
  (∀ s : State, s.boot.held = false → s.boot.pfw = false → s.frz.frozen = false → Answers .powerFailWarning s fun t =>
    t.boot.pfw = true ∧ t.running = false ∧
    (t.nv.saving.isSome = true ↔ s.boot.ranSince = true ∧ s.tsk.prog ≠ .preparing ∧ s.nv.prot < 3)) ∧
  (∀ s : State, s.boot.pfw = true → exec .powerFailWarning s = .next s ∧ exec .resetN s = .next s) ∧
  (∀ s : State, s.boot.pfw = true → s.boot.held = false → Answers .saveComplete s fun t =>
    t.boot.held = true ∧ t.boot.pfw = false ∧ t.boot.sources = 2 ^ (srcPowerFail - 1) ∧ t.stopped = true ∧
    (s.nv.saving = none → t.boot.saved = s.boot.saved) ∧ (∀ p, s.nv.saving = some p → t.boot.saved = true)) ∧
  (∀ s : State, Answers .powerLoss s fun t => t.boot.held = true ∧ t.boot.sources = 0 ∧ t.stopped = true ∧ t.mem.sram = [] ∧
    t.mem.trace = [] ∧ t.regs = [] ∧ t.field = {} ∧ t.nv.ctrs = s.nv.ctrs) ∧
  (∀ s : State, Answers .powerOn s fun t => t.boot.held = true ∧ t.boot.sources = 1 ∧ t.now = 0 ∧ t.wdg = {} ∧ t.mem.sram = []) ∧
  (∀ s : State, s.boot.pfw = false → s.boot.held = false → Answers .resetN s fun t => t.boot.held = true ∧
    t.boot.sources = 2 ^ (srcExternal - 1) ∧ t.stopped = true ∧ t.mem.mram = s.mem.mram ∧ t.mem.flash = s.mem.flash ∧
    t.now = s.now)

/-! ### Jurno (R484 to R515) -/

/-- What one side sends, the other reads: the 16 bytes of a message's header and its data stand for the message, field by field (R500);
a heartbeat or notice of one module tells its partner TYPE, role, unit, FLAGS, NOTICE, EPOCH, SEQ and CHECK, under a CRC that holds
(R440). -/
def Obligations.FramesRoundTrip : Prop :=
  (∀ m : JMsg, (msgBytes m).length = 16 + m.data.length ∧ msgOf (msgBytes m) = m) ∧
  (∀ (s : State) (typ notice : Nat), typ < 256 → notice < 256 → s.role < 16 → s.hsb.unit < 4 → s.hsb.seq < 2 ^ 32 →
    (hbFrame s typ notice).length = 18 ∧
    parseHb (hbFrame s typ notice) = some (typ,
      { role := s.role, unit := s.hsb.unit, flags := hbFlags s, notice := notice, epoch := (s.reg PHR_EPOCH).toNat,
        seq := s.hsb.seq, check := s.prog.check }))

/-- What a request passes before it is served (R500, R505, R507, R513, R515): a held or frozen module takes none; a message with a bad
form is discarded and counted; before the recall and the start of firmware it is answered 0x0102 and 0x0101; a request of no known
session is discarded; beyond the limits of requests in flight it is answered 0x0101, and counted; and a command whose request is none
of its service changes nothing.
Open points of the port are the model's choices (log 43). -/
def Obligations.JurnoGate : Prop :=
  (∀ (q : JReq) (s : State), halted s = true ∨ s.jrn.phase = 0 → ∀ c ∈ [Instr.read q, .write q, .gwrite q, .describe q, .readtime q,
    .open q, .auth q, .close q], exec c s = .next s) ∧
  (∀ (q : JReq) (s : State), ∀ p ∈ [(Instr.read q, svcRead), (.write q, svcWrite), (.gwrite q, svcGwrite), (.describe q, svcDescribe),
      (.readtime q, svcReadtime), (.open q, svcOpen), (.auth q, svcAuth), (.close q, svcClose)],
    (q.msg.service.toNat ≠ p.2 → exec p.1 s = .next s) ∧
    (q.msg.service.toNat = p.2 → isEth q.src = false → halted s = false → s.jrn.phase ≠ 0 → s.flag JRN_CTRL_EN = true →
      (msgBad q = true → Answers p.1 s fun t => t = s.count32 JRN_DISCARD 1 ∧ t.mem = s.mem ∧ t.objs = s.objs ∧ t.jrn = s.jrn) ∧
      (msgBad q = false → s.jrn.phase = 1 →
        exec p.1 s = .next (answerRetry s q 0x0102 (ceilDiv (s.jrn.phaseAt + 3500000 - s.now) 1000000))) ∧
      (msgBad q = false → s.jrn.phase = 2 →
        exec p.1 s = .next (answerRetry s q 0x0101 (ceilDiv (s.jrn.phaseAt + 40000000 - s.now) 1000000))) ∧
      (msgBad q = false → s.jrn.phase = 3 → s.boot.stage = .firmware → noRoom s q.src = true →
        exec p.1 s = .next (answerRetry (s.count32 JRN_BUSYCNT 1) q 0x0101 5))) ∧
    (∀ ip port sid seq tag, q.msg.service.toNat = p.2 → q.src = .eth ip port sid seq tag → halted s = false → s.jrn.phase = 3 →
      s.flag JRN_CTRL_EN = true → msgBad q = false → sid ≠ 0 → sessionSlot s sid.toNat = none →
        Answers p.1 s fun t => t.mem = s.mem ∧ t.objs = s.objs ∧ t.sent = s.sent ∧
          t.jrn.rxFrames = s.jrn.rxFrames + 1 ∧ t.jrn.badFrames = s.jrn.badFrames + 1))

/-- The services (R484, R493, R501 to R508, R650): a READ that passes its checks answers the object's value, its first 1,024 bytes, or
with PART the bytes wanted, with LAST where that reaches the end; one that fails a check answers its status; a WRITE is checked when
its value is whole, and then changes nothing but its answer or has its effect; an earlier part is answered 0x0000, a gap 0x0402, another
source's part 0x0501; GWRITE answers its check's status, or the counts of the members that took the value and did not; DESCRIBE answers the object's description,
READTIME the clock and the timebase; OPEN gives a session that is not yet authenticated; AUTH with the right proof authenticates it and
with a wrong one ends it; CLOSE is answered.
Open points of the port are the model's choices (log 43). -/
def Obligations.JurnoServices : Prop :=
  (∀ (q : JReq) (s u : State) (role : Nat), Served s q role u →
    let m := q.msg
    let index := m.index.toNat
    let sub := m.sub.toNat
    let engine := engineObject u index sub
    (m.service.toNat = svcRead → readStatus u role index sub ≠ 0 →
      exec (.read q) s = .next (reply u engine q role (msgAnswer m (readStatus u role index sub) []))) ∧
    (∀ off n v, m.service.toNat = svcRead → readStatus u role index sub = 0 → index ≠ 0x1C21 →
      ¬(0x7010 ≤ index ∧ index < 0x7018 ∧ sub = 0x12) → v = objPeek u index sub →
      off = (if bit m.flags.toNat 1 then m.offset.toNat else 0) → n = (if bit m.flags.toNat 1 then m.len.toNat else 1024) →
      (v.length < off → exec (.read q) s = .next (reply u engine q role (msgAnswer m 0x0402 []))) ∧
      (off ≤ v.length → exec (.read q) s = .next (reply u engine q role
        (msgAnswer m 0 (slice v off n) (b2n (decide (v.length ≤ off + n)) + 2 * b2n (bit m.flags.toNat 1)))))) ∧
    (∀ t bs, m.service.toNat = svcWrite → wholeValue u q = some (t, bs) → writeStatus t q role index sub bs ≠ 0 →
      exec (.write q) s = .next (reply t (engineObject t index sub) q role (msgAnswer m (writeStatus t q role index sub bs) []))) ∧
    (∀ t bs d, m.service.toNat = svcWrite → wholeValue u q = some (t, bs) → writeStatus t q role index sub bs = 0 →
      defOf t index sub = some d → blocked t index sub d = false →
      exec (.write q) s = .next (afterWrite t q role d bs (objEffect t (some q) role index sub d bs))) ∧
    (m.service.toNat = svcWrite → bit m.flags.toNat 1 = true →
      (u.jrn.parts.get none (objKey index sub) = none → m.offset = 0#32 → bit m.flags.toNat 0 = false →
        exec (.write q) s = .next (reply (setPart u (objKey index sub) (some { src := q.src, bytes := m.data, at_ := u.now })) engine q
          role (msgAnswer m 0 []))) ∧
      (u.jrn.parts.get none (objKey index sub) = none → m.offset ≠ 0#32 →
        exec (.write q) s = .next (reply u engine q role (msgAnswer m 0x0402 []))) ∧
      ∀ p, u.jrn.parts.get none (objKey index sub) = some p →
        (sameSource p.src q.src = false → exec (.write q) s = .next (reply u engine q role (msgAnswer m 0x0501 []))) ∧
        (sameSource p.src q.src = true → m.offset.toNat ≠ p.bytes.length →
          exec (.write q) s = .next (reply (setPart u (objKey index sub) none) engine q role (msgAnswer m 0x0402 []))) ∧
        (sameSource p.src q.src = true → m.offset.toNat = p.bytes.length → p.bytes ≠ [] → bit m.flags.toNat 0 = false →
          exec (.write q) s = .next (reply (setPart u (objKey index sub)
            (some { src := q.src, bytes := p.bytes ++ m.data, at_ := u.now })) engine q role (msgAnswer m 0 [])))) ∧
    (m.service.toNat = svcGwrite → groupStatus u role index sub m.data ≠ 0 →
      exec (.gwrite q) s = .next (fwStatus u q role (groupStatus u role index sub m.data))) ∧
    (m.service.toNat = svcGwrite → groupStatus u role index sub m.data = 0 → groupMembers u index = [] →
      exec (.gwrite q) s = .next (fwAnswer u q role [0, 0, 0, 0])) ∧
    (∀ d, m.service.toNat = svcDescribe → nameStatus u index sub = 0 → defOf u index sub = some d →
      exec (.describe q) s = .next (fwAnswer u q role (describe u index sub d))) ∧
    (m.service.toNat = svcReadtime → exec (.readtime q) s = .next (fwAnswer u q role
      (toLE 8 u.rtc.sec ++ toLE 2 (rtcSub u) ++ toLE 1 (regPeek u RTC_STAT % 16) ++ toLE 1 0 ++ toLE 8 u.now))) ∧
    (∀ ip port seq tag key k, m.service.toNat = svcOpen → q.src = .eth ip port 0 seq tag → m.data.length = 17 →
      fromLE (m.data.take 1) ≤ 4 → lockedOut u ip = false → roleKey u (fromLE (m.data.take 1)) = some key → k < 8 →
      sessionAt u k = none → (∀ j < k, sessionAt u j ≠ none) → Answers (.open q) s fun t =>
        ∃ x, sessionAt t k = some x ∧ x.authed = false ∧ x.role = fromLE (m.data.take 1) ∧ x.key = key ∧ x.nc = m.data.drop 1 ∧
          x.openAt = s.now ∧ (∀ j, j ≠ k → sessionAt t j = sessionAt u j) ∧ t.mem.sram = s.mem.sram) ∧
    (∀ ip port sid seq tag k x, m.service.toNat = svcAuth → q.src = .eth ip port sid seq tag → sessionSlot u sid.toNat = some k →
      sessionAt u k = some x → x.authed = false → m.data.length = 32 →
      (m.data = hmac x.key (strBytes "JRNA" ++ toLE 4 x.sid ++ x.nc ++ x.ns) → Answers (.auth q) s fun t =>
        sessionAt t k = some { x with authed := true, key := sessionKey x.key x, last := s.now } ∧ t.mem.sram = s.mem.sram) ∧
      (m.data ≠ hmac x.key (strBytes "JRNA" ++ toLE 4 x.sid ++ x.nc ++ x.ns) → Answers (.auth q) s fun t =>
        sessionAt t k = none ∧ t.mem.sram = s.mem.sram)) ∧
    (m.service.toNat = svcClose → sessionOf u q.src ≠ none → exec (.close q) s = .next (fwStatus u q role 0)))

/-- The commands that are writes of a dictionary object (R68, R108, R109, R144, R147, R149, R187, R189, R368, R392, R428, R436, R452,
R466, R499, R511, R555, R574, R578, R597, R600, R605, R616, R618, R636, R651, R663, R692, R707, R725, R726): a request of another service
or object changes nothing; one that is served, completes its value, and passes its checks, has the effect that its object has. An edit
record waits for its validation, which a background slice makes (R145, R401).
Open points of the port are the model's choices (log 43). -/
def Obligations.ObjectCommands : Prop :=
  ∀ (q : JReq) (s u0 u : State) (bs : List Byte) (role : Nat) (n : Fin 4096) (w : Fin 32) (value : Word),
    let index := q.msg.index.toNat
    let sub := q.msg.sub.toNat
    let v := fromLE bs
    let st (r : State × Nat) : State × Option Nat := (r.1, some r.2)
    let ok (t : State) : State × Option Nat := (t, some 0)
    ∀ p ∈ ([(Instr.programWarmStart q, writes q 0x4021 2 1, st (startCommand u false false)),
        (Instr.programColdStart q, writes q 0x4021 2 2, st (startCommand u true false)),
        (Instr.programStopCommand q, writes q 0x4021 2 3, st (stopRequest u)),
        (Instr.forceRecord q, names q svcWrite 0x4022 5, st (forceWrite u bs)),
        (Instr.removeAllForces q, writes q 0x4022 3 1, ok (removeForces u)),
        (Instr.clearEquivalenceFault q, names q svcWrite 0x4100 7, ok (clearEquiv u v)),
        (Instr.requestAudit q, names q svcWrite 0x4100 8, ok (requestAudit u v)),
        (Instr.editRecord q, names q svcWrite 0x4101 1, (u.modJrn fun j => { j with edits := j.edits ++ [⟨q, role, bs⟩] }, none)),
        (Instr.stagingRecord q, names q svcWrite 0x4102 1, st (stageRecord u bs)),
        (Instr.stagingCommit q, writes q 0x4102 2 1, st (stgCommand u true)),
        (Instr.stagingAbort q, writes q 0x4102 2 2, st (stgCommand u false)),
        (Instr.loopRecordWrite (.jurno q) n w value, names q svcWrite (0x6000 + n.val) (w.val + 1) && q.msg.data == toLE 4 value.toNat,
          st (loopWrite u n.val (w.val + 1) value)),
        (Instr.traceArm q, namesOf q svcWrite 0x7010 8 0x0D && q.msg.data == toLE 1 1, ok (trcCommand u (index - 0x7010) 1)),
        (Instr.traceStop q, namesOf q svcWrite 0x7010 8 0x0D && q.msg.data == toLE 1 2, ok (trcCommand u (index - 0x7010) 2)),
        (Instr.traceForce q, namesOf q svcWrite 0x7010 8 0x0D && q.msg.data == toLE 1 3, ok (trcCommand u (index - 0x7010) 3)),
        (Instr.peakTemperatureReset q, names q svcWrite 0x1400 0x0E, ok (peakReset u)),
        (Instr.plannedSwitchover q, writes q 0x1800 7 1, st (requestSwitch u)),
        (Instr.resynchronise q, writes q 0x1800 7 2, st (resync u)), (Instr.declareFailed q, writes q 0x1800 7 3, st (declareFail u)),
        (Instr.unlock q, names q svcWrite 0x1031 1, st (unlockWrite u bs)),
        (Instr.calibrationClear q, writes q 0x3FFF 1 1, ok (clearCalibration u)),
        (Instr.fieldRelease q, writes q 0x7100 3 1, ok (fcmdWrite u 2)),
        (Instr.zeroTrim q, namesOf q svcWrite 0x7140 8 0x0E, st (storeWrite u index 0x0E bs)),
        (Instr.spanTrim q, namesOf q svcWrite 0x7140 8 0x0F, st (storeWrite u index 0x0F bs)),
        (Instr.trimButtonsEnable q, names q svcWrite 0x7150 4, st (trimObject u 4 v)),
        (Instr.recoverFromBusOff q, namesOf q svcWrite 0x7200 2 0x0A && q.msg.data == toLE 1 1, ok (canRecover u (index - 0x7200))),
        (Instr.safetyReset q, writes q 0x7300 7 1, ok (safetyReset u)),
        (Instr.confirmCheckValue q, names q svcWrite 0x7300 4, st (safConfirm u (toWord v))),
        (Instr.safetyProgramWrite q, names q svcWrite 0x7300 2, st (safProgramWrite u bs)),
        (Instr.axisReset q, namesOf q svcWrite 0x7310 8 0x0F && q.msg.data == toLE 1 1, st (axisResetCmd u (index - 0x7310))),
        (Instr.blockProtection q, names q svcWrite 0x1F00 1,
          match engineWrite u NVM_PROT_LEVEL NVM_PROT v with | some t => ok t | none => (u, some 0x0701)),
        (Instr.rtcSetTime q, names q svcWrite 0x1E00 1, ok (rtcArm u v)),
        (Instr.backupMemoryWrite q, names q svcWrite 0x1E01 1, ok (bkCommit u bs)),
        (Instr.backupMemoryClear q, writes q 0x1E01 2 1, ok (bkCommit u (List.replicate 64 0))),
        (Instr.freezeNow q, writes q 0x1C10 2 1, (freezeRequest u 2 0, some (if u.frz.strap && u.nv.ready then 0 else 0x0701))),
        (Instr.logClear q, names q svcWrite 0x1C20 0x0B, if recCanClear u then ok (recClear u role) else (u, some 0x0701)),
        (Instr.updateBegin q, writes q 0x1040 1 1, updCommand u (some q) 1),
        (Instr.updateActivate q, writes q 0x1040 1 2, st (updActivate u)), (Instr.updateAbort q, writes q 0x1040 1 3, st (updAbort u)),
        (Instr.updateBlock q, names q svcWrite 0x1040 3, updBlockWrite u (some q) bs)] : List (Instr × Bool × State × Option Nat)),
      (p.2.1 = false → exec p.1 s = .next s) ∧
      (∀ d, Served s q role u0 → wholeValue u0 q = some (u, bs) → writeStatus u q role index sub bs = 0 → defOf u index sub = some d →
        blocked u index sub d = false → p.2.1 = true → exec p.1 s = .next (afterWrite u q role d bs p.2.2))

/-- Reads that move on (R392, R502, R690): NEXT_RECORD answers the reader's next record, and steps past it where the answer reaches its
end; TRACE_READ_DATA answers captured bytes from the read offset, and moves that on by the bytes answered; a request of another service or object
changes nothing.
Open points of the port are the model's choices (log 43). -/
def Obligations.ReadsThatMoveOn : Prop :=
  ∀ (q : JReq) (s u : State) (role off n : Nat), Served s q role u →
    off = (if bit q.msg.flags.toNat 1 then q.msg.offset.toNat else 0) → n = (if bit q.msg.flags.toNat 1 then q.msg.len.toNat else 1024) →
    let index := q.msg.index.toNat
    let sub := q.msg.sub.toNat
    let gives (t : State) (v : List Byte) : State := reply (if v.length ≤ off + n then t else u) (engineObject u index sub) q role
      (msgAnswer q.msg 0 (slice v off n) (b2n (decide (v.length ≤ off + n)) + 2 * b2n (bit q.msg.flags.toNat 1)))
    (∀ r, names q svcRead 0x1C21 2 = true → readStatus u role index sub = 0 → recNext u (readKey q.src) = some r → off ≤ r.2.length →
      exec (.nextRecord q) s = .next (gives (recRead u (readKey q.src) r.1) r.2)) ∧
    (names q svcRead 0x1C21 2 = true → readStatus u role index sub = 0 → recNext u (readKey q.src) = none → off = 0 →
      exec (.nextRecord q) s = .next (gives u [])) ∧
    (names q svcRead 0x1C21 2 = false → exec (.nextRecord q) s = .next s) ∧
    (∀ v, v = trcRead u (index - 0x7010) → namesOf q svcRead 0x7010 8 0x12 = true → readStatus u role index sub = 0 → off ≤ v.length →
      exec (.traceReadData q) s = .next (reply (trcAdvance u (index - 0x7010) (slice v off n).length) (engineObject u index sub) q role
        (msgAnswer q.msg 0 (slice v off n) (b2n (decide (v.length ≤ off + n)) + 2 * b2n (bit q.msg.flags.toNat 1))))) ∧
    (namesOf q svcRead 0x7010 8 0x12 = false → exec (.traceReadData q) s = .next s)

/-- Times of the management port (R502, R505, R506, R508, R511, R515): a session that is not authenticated within 5 s, or is inactive for
its time, ends; a lockout, an unlock and an assembly of parts run out; ARP and ICMP echo requests for the module's address are answered;
500 µs after the release from reset the port answers, as in phase 2 once MRAM has been recalled, else as in phase 1. -/
def Obligations.Sessions : Prop :=
  (∀ (k : Fin 8) (s : State) (x : JSess), sessionAt s k.val = some x → halted s = false →
    (x.authed = false → Answers (.sessionAuthTimeout k) s fun t => sessionAt t k.val = none ∧
      (∀ j, j ≠ k.val → sessionAt t j = sessionAt s j) ∧ t.now = max s.now (x.openAt + 5000000000) ∧ t.regs = s.regs ∧ t.mem = s.mem) ∧
    (x.authed = true → exec (.sessionAuthTimeout k) s = .next s) ∧
    (x.authed = true → Answers (.sessionInactivity k) s fun t => sessionAt t k.val = none ∧
      (∀ j, j ≠ k.val → sessionAt t j = sessionAt s j) ∧ t.now = max s.now (x.last + x.idle * 1000000000) ∧ t.regs = s.regs ∧
      t.mem = s.mem)) ∧
  (∀ (ip : Word) (s : State), halted s = false → s.jrn.locks.get 0 ip.toNat ≠ 0 → Answers (.addressLockoutEnd ip) s fun t =>
    lockedOut t ip = false ∧ t.now = max s.now (s.jrn.locks.get 0 ip.toNat) ∧ t.regs = s.regs ∧ t.mem = s.mem) ∧
  (∀ (k : Fin 8) (s : State) (x : JUnlock), halted s = false → s.jrn.unlocks.get none k.val = some x →
    Answers (.unlockExpiry k) s fun t => t.jrn.unlocks.get none k.val = none ∧ t.now = max s.now x.until_ ∧ t.regs = s.regs ∧
      ∀ j, j ≠ k.val → t.jrn.unlocks.get none j = s.jrn.unlocks.get none j) ∧
  (∀ (index : BitVec 16) (sub : Byte) (s : State) (p : JPart), halted s = false →
    s.jrn.parts.get none (objKey index.toNat sub.toNat) = some p → Answers (.partAssemblyTimeout index sub) s fun t =>
      t.jrn.parts.get none (objKey index.toNat sub.toNat) = none ∧ t.now = max s.now (p.at_ + 1000000000) ∧ t.objs = s.objs ∧
      t.mem = s.mem) ∧
  (∀ (mac : BitVec 48) (ip target : Word) (s : State), portUp s = true → Answers (.arpRequest mac ip target) s fun t =>
    t.sent = (if target = s.jrn.ip then .arp mac ip :: s.sent else s.sent) ∧ t.jrn.rxFrames = s.jrn.rxFrames + 1 ∧ t.mem = s.mem) ∧
  (∀ (src dst : Word) (bs : List Byte) (s : State), portUp s = true → Answers (.icmpEcho src dst bs) s fun t =>
    t.sent = (if dst = s.jrn.ip then .icmp src bs :: s.sent else s.sent) ∧ t.jrn.rxFrames = s.jrn.rxFrames + 1 ∧ t.mem = s.mem) ∧
  (∀ (mac : BitVec 48) (ip target : Word) (bs : List Byte) (s : State), portUp s = false →
    exec (.arpRequest mac ip target) s = .next s ∧ exec (.icmpEcho ip target bs) s = .next s) ∧
  (∀ s : State, s.boot.held = false → s.jrn.phase = 0 → Answers .jurnoPhaseRecall s fun t =>
    t.jrn.phase = (if s.nv.ready then 2 else 1) ∧ t.now = max s.now (s.boot.release + 500000) ∧ t.mem = s.mem ∧ t.sent = s.sent)

/-! ### The field side (R526 to R578) -/

/-- The field side (R527, R528, R530 to R532, R542). At an update, at the next multiple of 50 µs, the commands that had come in are
applied, a driver is on only where it is commanded, not latched off, and V_FIELD is not too high, and no output is on in INIT and in the
standby pattern. A frame of the link restarts the silence timer; without one for the silence time the field side goes SILENT, in the
standby pattern where it held that. VFLOW and VFHIGH come with V_FIELD and go at an update. -/
def Obligations.FieldSide : Prop :=
  (∀ (low cooled : Word) (mv : Nat) (s : State), Answers (.fieldSideUpdate low cooled mv) s fun t =>
    t.field.mv = mv ∧
    (∀ k < 32, (t.dchan k).driver = true → (t.dchan k).latched = false ∧ t.field.vfhigh = false ∧ dWant t.field k (t.dchan k) = true) ∧
    (allOff t.field = true → (∀ k < 32, (t.dchan k).driver = false) ∧ ∀ k < 8, (t.achan k).on = false) ∧
    (18900 < mv → t.field.vflow = false) ∧ (mv < 30000 → t.field.vfhigh = false) ∧
    (s.running = false ∨ publicationsDue s (updateAt s) = [] →
      t.field.lastUpd = some (updateAt s) ∧ t.field.cmds = [] ∧ t.now = updateAt s ∧ t.now % 50000 = 0 ∧
      (mv ≤ 18100 → t.field.vflow = s.field.vflow) ∧ (32000 ≤ mv → t.field.vfhigh = s.field.vfhigh))) ∧
  (∀ s : State, s.boot.held = false → s.frz.frozen = false → Answers .linkFrame s fun t =>
    t.field.link = true ∧ t.field.lastFrame = s.now ∧ t.field.state = s.field.state ∧ t.mem.sram = s.mem.sram ∧
    (s.field.link = false → s.field.state = fsSilent → t.flag DIO_FSTAT_SILENTSEEN = true) ∧
    (s.field.link = true → t.regs = s.regs ∧ t.sent = s.sent)) ∧
  (∀ s : State, s.field.state ≠ fsInit → s.field.state ≠ fsSilent → Answers .silenceTimeout s fun t =>
    t.field.state = fsSilent ∧ t.field.link = false ∧ t.field.silStandby = (s.field.state == fsStandby) ∧
    t.field.silentCnt = s.field.silentCnt + 1 ∧ t.now = max s.now (s.field.lastFrame + s.field.silence * 1000000) ∧
    t.regs = s.regs ∧ t.mem = s.mem ∧ t.img = s.img ∧ t.tsk = s.tsk ∧
    (s.field.state = fsStandby → (∀ k < 32, (t.dchan k).driver = false) ∧ ∀ k < 8, (t.achan k).on = false)) ∧
  (∀ s : State, s.field.state = fsInit ∨ s.field.state = fsSilent → exec .silenceTimeout s = .next s) ∧
  (∀ (mv : Nat) (s : State), mv < 18400 → s.field.vflow = false → Answers (.vflow mv) s fun t =>
    t.field.vflow = true ∧ t.field.lowCnt = s.field.lowCnt + 1 ∧ (s.boot.held = false → t.flag DIO_FSTAT_VFLOWSEEN = true) ∧
    (s.boot.held = true → s.field.link = false → t.regs = s.regs) ∧ t.mem = s.mem ∧ t.img = s.img) ∧
  (∀ (mv : Nat) (s : State), 31000 < mv → s.field.vfhigh = false → Answers (.vfhigh mv) s fun t =>
    t.field.vfhigh = true ∧ (∀ k < 32, (t.dchan k).driver = false) ∧ t.mem.sram = s.mem.sram)

/-- Digital channels and encoders (R537, R538, R540 to R545): a raw level starts the debounce, and becomes the state when it has been
stable; a debounced edge raises the channel's event in its polarity; an edge of one track counts by which track leads, two at once are a
phase error and count nothing; a current limit or a hot junction latches the driver off; a live bit whose condition ended clears. -/
def Obligations.DigitalChannels : Prop :=
  (∀ (ch : Fin 32) (level : Bool) (s : State),
    ((s.dchan ch.val).raw = level → exec (.rawLevelChange ch level) s = .next s) ∧
    ((s.dchan ch.val).raw ≠ level → Answers (.rawLevelChange ch level) s fun t => (t.dchan ch.val).raw = level ∧
      (t.dchan ch.val).state = (s.dchan ch.val).state ∧ (level = (s.dchan ch.val).state → (t.dchan ch.val).since = none) ∧
      (level ≠ (s.dchan ch.val).state → s.field.state ≠ fsInit → (t.dchan ch.val).since = some s.now) ∧
      (∀ j, j ≠ ch.val → t.dchan j = s.dchan j) ∧ t.regs = s.regs ∧ t.mem = s.mem ∧ t.img = s.img)) ∧
  (∀ (ch : Fin 32) (s : State) (x : Nat) (u : State), (s.dchan ch.val).since = some x →
    u = (s.at (x + debNs (s.dchan ch.val))).setDchan ch.val { s.dchan ch.val with state := (s.dchan ch.val).raw, since := none } →
    ((s.dchan ch.val).mode = 1 → bit (s.dchan ch.val).evpol (if (s.dchan ch.val).raw then 0 else 1) = true →
      exec (.debounceExpiry ch) s = .next (u.raise (64 + ch.val))) ∧
    ((s.dchan ch.val).mode ≠ 1 ∨ bit (s.dchan ch.val).evpol (if (s.dchan ch.val).raw then 0 else 1) = false →
      exec (.debounceExpiry ch) s = .next u)) ∧
  (∀ (p : Fin 16) (a b : Bool) (s : State), (s.encPair p.val).en = true → s.field.state ≠ fsInit →
    let e := s.encPair p.val
    (a ≠ e.a → b = e.b → Answers (.encoderEdge p a b) s fun t =>
      (t.encPair p.val).count = (if a = b then e.count - 1 else e.count + 1) ∧ (t.encPair p.val).a = a ∧
      (t.dchan (2 * p.val)).state = a ∧ t.regs = s.regs ∧ t.mem = s.mem) ∧
    (a = e.a → b ≠ e.b → Answers (.encoderEdge p a b) s fun t =>
      (t.encPair p.val).count = (if a = b then e.count + 1 else e.count - 1) ∧ (t.encPair p.val).b = b ∧
      (t.dchan (2 * p.val + 1)).state = b ∧ t.regs = s.regs ∧ t.mem = s.mem) ∧
    (a ≠ e.a → b ≠ e.b → Answers (.encoderEdge p a b) s fun t =>
      (t.encPair p.val).count = e.count ∧ bit (t.dchan (2 * p.val)).live 4 = true ∧ t.mem.sram = s.mem.sram)) ∧
  (∀ (ch : Fin 32) (s : State), isDriver (s.dchan ch.val) = true →
    ((s.dchan ch.val).driver = true → Answers (.ovl ch) s fun t => (t.dchan ch.val).latched = true ∧ (t.dchan ch.val).driver = false ∧
      bit (t.dchan ch.val).live 0 = true ∧ (∀ j, j ≠ ch.val → t.dchan j = s.dchan j) ∧ t.mem.sram = s.mem.sram) ∧
    Answers (.ot ch) s fun t => (t.dchan ch.val).latched = true ∧ (t.dchan ch.val).driver = false ∧
      bit (t.dchan ch.val).live 2 = true ∧ (∀ j, j ≠ ch.val → t.dchan j = s.dchan j) ∧ t.mem.sram = s.mem.sram) ∧
  (∀ (ch : Fin 32) (s : State), (s.dchan ch.val).mode = 2 → (s.dchan ch.val).latched = false → s.field.vflow = false →
    s.field.state ≠ fsStandby → (s.dchan ch.val).state ≠ (s.dchan ch.val).want → Answers (.rberr ch) s fun t =>
      bit (t.dchan ch.val).live 3 = true ∧ bit (t.dchan ch.val).seen 3 = true ∧ (t.dchan ch.val).driver = (s.dchan ch.val).driver ∧
      t.now = max s.now ((s.dchan ch.val).wantAt + 1100000)) ∧
  (∀ (ch b : Fin 32) (s : State),
    (b.val = 1 → (s.dchan ch.val).openAt = none → Answers (.liveBitClear false ch b) s fun t =>
      bit (t.dchan ch.val).live 1 = false ∧ (t.dchan ch.val).seen = (s.dchan ch.val).seen ∧ t.regs = s.regs ∧ t.mem = s.mem) ∧
    (b.val = 0 ∨ b.val = 2 → (s.dchan ch.val).latched = true → exec (.liveBitClear false ch b) s = .next s))

/-- Analogue channels and trims (R546 to R556): a conversion keeps the measured current, limited to 0 to 24 mA for an input, and its
quality: good from 3.6 to 21 mA; a load above the compliance voltage, or a read-back error of 50 ms, shows as a live bit; a trim drive
ends after 60 s; the buttons trim their target, or clear its user gain and offset, while they are enabled and held alone or both.
The rounding of a measured current is the model's choice (log 15). -/
def Obligations.AnalogueChannels : Prop :=
  (∀ (ch : Fin 8) (ua : Int) (limiter : Bool) (s : State),
    let c := s.achan ch.val
    let hist := (ua :: c.hist).take 5000
    let raw := calibrated c ((hist.take c.win).foldl (· + ·) 0) (hist.take c.win).length
    s.field.state ≠ fsInit →
    (c.mode = 1 ∨ c.mode = 2 → Answers (.analogConversion ch ua limiter) s fun t => (t.achan ch.val).meas = clampInt 0 24000 raw ∧
      (t.achan ch.val).hist = hist ∧ (∀ j, j ≠ ch.val → t.achan j = s.achan j) ∧ t.mem.sram = s.mem.sram) ∧
    (c.mode = 1 → 3600 < raw → raw < 21000 → Answers (.analogConversion ch ua limiter) s fun t => (t.achan ch.val).good = true ∧
      (t.achan ch.val).live = c.live ∧ t.regs = s.regs) ∧
    (c.mode = 1 → 23000 ≤ raw → Answers (.analogConversion ch ua limiter) s fun t => (t.achan ch.val).good = false ∧
      bit (t.achan ch.val).live 3 = true) ∧
    (c.mode = 3 → Answers (.analogConversion ch ua limiter) s fun t => (t.achan ch.val).meas = raw ∧
      (t.achan ch.val).drive = c.drive ∧ (∀ j, j ≠ ch.val → t.achan j = s.achan j) ∧ t.regs = s.regs ∧ t.mem = s.mem)) ∧
  (∀ (ch : Fin 8) (ua : Int) (limiter : Bool) (s : State), (s.achan ch.val).mode = 0 →
    exec (.analogConversion ch ua limiter) s = .next (s.at (ceilDiv s.now 100000 * 100000))) ∧
  (∀ (ch : Fin 8) (s : State), (s.achan ch.val).mode = 3 →
    ((s.achan ch.val).on = true → Answers (.compl ch) s fun t => bit (t.achan ch.val).live 4 = true ∧
      bit (t.achan ch.val).live 2 = (decide ((s.achan ch.val).drive = -1) || !(s.achan ch.val).almHigh)) ∧
    (Answers (.complClear ch) s fun t => bit (t.achan ch.val).live 4 = false) ∧
    (∀ x, (s.achan ch.val).rbAt = some x → bit (s.achan ch.val).live 4 = false → s.field.state ≠ fsStandby →
      Answers (.rbfault ch) s fun t => bit (t.achan ch.val).live 5 = true ∧ (t.achan ch.val).good = false ∧
        t.now = max s.now (x + 50000000)) ∧
    (∀ b : Fin 32, b.val = 5 → (s.achan ch.val).rbAt = none →
      Answers (.liveBitClear true ⟨ch.val, by omega⟩ b) s fun t => bit (t.achan ch.val).live 5 = false ∧ t.regs = s.regs)) ∧
  (∀ (ch : Fin 8) (s : State) (x : Int × Nat), (s.achan ch.val).trim = some x → Answers (.trimDriveTimeout ch) s fun t =>
    (t.achan ch.val).trim = none ∧ t.now = max s.now x.2 ∧ t.regs = s.regs ∧ t.mem = s.mem) ∧
  (∀ s : State,
    let c := s.fld AIO_TRIM_TARGET
    (buttonsReady s = true → buttonState s = (true, true) → Answers .clearButtonHold s fun t =>
      t.obj (0x3000 + c) 1 = toLE 4 0 ∧ t.obj (0x3000 + c) 2 = toLE 4 0 ∧ t.regs = s.regs) ∧
    (buttonsReady s = true → buttonState s = (true, false) →
      exec .zeroButtonHold s = .next (applyTrim s c false (factoryMean (s.achan c)) f4mA).1) ∧
    (buttonsReady s = true → buttonState s = (false, true) →
      exec .spanButtonHold s = .next (applyTrim s c true (factoryMean (s.achan c)) f20mA).1) ∧
    (buttonsReady s = false → exec .clearButtonHold s = .next s ∧ exec .zeroButtonHold s = .next s ∧
      exec .spanButtonHold s = .next s))

/-! ### CAN FD (R510, R579 to R597) -/

/-- CAN FD controllers (R510, R582 to R588, R590, R592, R594): integration and recovery bring the controller to ERROR-ACTIVE; a frame that
matches a filter goes to the FIFO with its filter and time, or is counted where the FIFO is full; a receiver's error is counted and
shown; a frame that has been sent ends its request with RESULT 3, and in internal loopback leaves nothing on the bus, one that has lost arbitration stays requested; a partial Jurno message
with no segment for 100 ms is dropped and counted. A controller that is halted or not online takes none of them.
The receive error count above 127 after a good frame, and what disabling leaves, are the model's choices (log 36). -/
def Obligations.CanControllers : Prop :=
  (∀ (c : Fin 2) (s : State), canHalted s = false → s.fld (CAN_STAT_TEC c.val) < 128 → s.fld (CAN_STAT_REC c.val) < 128 →
    (canState s c.val = canIntegrating → Answers (.canIntegrationComplete c) s fun t => canState t c.val = canActive ∧
      t.mem.sram = s.mem.sram) ∧
    (canState s c.val = canRecovering → Answers (.canRecoveryComplete c) s fun t => canState t c.val = canActive ∧
      t.fld (CAN_STAT_TEC c.val) = 0 ∧ t.fld (CAN_STAT_REC c.val) = 0)) ∧
  (∀ (c : Fin 2) (f : CanFrame) (s u : State) (n : Nat), canHalted s = false → canOnline s c.val = true →
    f.fdf = false ∨ s.flag (CAN_CTRL_FDEN c.val) = true → u = canConfine (recDown s c.val) c.val →
    forJurno u c.val (storedFrame f) = false →
    (filterOf u c.val (storedFrame f) = none → exec (.canFrameReceived c f) s = .next u) ∧
    (filterOf u c.val (storedFrame f) = some n → (u.canst c.val).fifo.length < 32 → Answers (.canFrameReceived c f) s fun t =>
      (t.canst c.val).fifo = (u.canst c.val).fifo ++ [{ frame := storedFrame f, filter := n, time := u.now }]) ∧
    (filterOf u c.val (storedFrame f) = some n → 32 ≤ (u.canst c.val).fifo.length → Answers (.canFrameReceived c f) s fun t =>
      (t.canst c.val).fifo = (u.canst c.val).fifo)) ∧
  (∀ (c : Fin 2) (k : CanErr) (d : Bool) (s : State), canHalted s = false → canOnline s c.val = true →
    s.fld (CAN_STAT_TEC c.val) < 128 → s.fld (CAN_STAT_REC c.val) < 127 → Answers (.canReceiveError c k d) s fun t =>
      t.fld (CAN_STAT_REC c.val) = s.fld (CAN_STAT_REC c.val) + 1 ∧ canState t c.val = canActive ∧
      t.fld (CAN_ERR_LEC c.val) = canLec k ∧ t.flag (CAN_ERR_DPHASE c.val) = d) ∧
  (∀ (c : Fin 2) (b : Fin 3) (s : State) (v : Byte), canHalted s = false → canOnline s c.val = true →
    (s.canst c.val).onBus = some b.val → (s.canst c.val).jq = [] → s.flag (CAN_TDC_TDCEN c.val) = false ∨ v.toNat < 128 →
    s.fld (CAN_STAT_TEC c.val) < 256 →
    (Answers (.canTxAttemptEnd c b .sent v) s fun t => canPending t c.val b.val = false ∧
      t.fld (CAN_TXSTAT_RESULT c.val b.val) = 3 ∧
      (s.fld (CAN_CTRL_MODE c.val) ≠ 2 → .can c.val (canFrameOf s c.val b.val) ∈ t.sent) ∧
      (s.fld (CAN_CTRL_MODE c.val) = 2 → t.sent = s.sent)) ∧
    (canPending s c.val b.val = true → b.val ∉ (s.canst c.val).abort → s.flag (CAN_TXCTRL_SINGLE c.val b.val) = false →
      Answers (.canTxAttemptEnd c b .lost v) s fun t => canPending t c.val b.val = true ∧ t.sent = s.sent) ∧
    (canPending s c.val b.val = true → b.val ∈ (s.canst c.val).abort →
      Answers (.canTxAttemptEnd c b .lost v) s fun t => canPending t c.val b.val = false ∧
        t.fld (CAN_TXSTAT_RESULT c.val b.val) = 4)) ∧
  (∀ (c : Fin 2) (node : BitVec 7) (s : State) (e : Nat × CanPart), canHalted s = false →
    (s.canst c.val).parts.find? (fun e => e.1 == node.toNat) = some e → Answers (.canSegmentTimeout c node) s fun t =>
      (t.canst c.val).parts = (s.canst c.val).parts.erase node.toNat ∧ t.jrn.reasmErr = holdAt 0xFFFFFFFF (s.jrn.reasmErr + 1) ∧
      t.now = max s.now (e.2.at_ + 100000000) ∧ t.mem = s.mem ∧ t.sent = s.sent) ∧
  (∀ (c : Fin 2) (b : Fin 3) (f : CanFrame) (k : CanErr) (d : Bool) (h : CanTxEnd) (v : Byte) (s : State),
    canHalted s = true ∨ canOnline s c.val = false →
    exec (.canFrameReceived c f) s = .next s ∧ exec (.canReceiveError c k d) s = .next s ∧
      exec (.canTxAttemptEnd c b h v) s = .next s)

/-! ### The safety partition (R598 to R629) -/

/-- The partition's cycles and stops (R598 to R602, R607, R609, R610, R613): outside RUNNING a cycle evaluates the safety inputs alone; a
call that has not returned by the next cycle, a watchdog not served for 2 ms, an INIT of more than 100 ms, two cores apart and a supply
out of range stop the partition, each with its cause, every STO output off and the main program stopped; a frame permits STO channels
only while the partition is RUNNING on a module that acts, and after 3 ms without one every safety channel is off; a connection's
watchdog makes it fail-safe; a discrepancy or a test pulse that shows wrong is an input fault; an STO output that does not follow its dark
pulse is off with a fault, and so is every axis that runs by it.
That the safe pattern only switches STO outputs off (log 17) and that the runs of the program lie inside SAFETY_CYCLE (log 44) are readings. -/
def Obligations.SafetyPartition : Prop :=
  (∀ (fuel : Nat) (s : State),
    let T := ceilDiv (Nat.max s.now (s.saf.callAt + 1)) 1000000 * 1000000
    (s.saf.state = safUnconfigured ∨ s.saf.state = safStopped ∨ safAlive s = false → exec (.safetyCycle fuel) s = .next s) ∧
    (safAlive s = true → s.saf.state = safUnconfirmed → Answers (.safetyCycle fuel) s fun t => t.now = T ∧ T % 1000000 = 0 ∧
      t.saf.stos = s.saf.stos ∧ t.saf.axes = s.saf.axes ∧ t.saf.state = s.saf.state ∧ t.regs = s.regs ∧ t.mem = s.mem) ∧
    (safAlive s = true → s.saf.state = safRunning → s.saf.initDone = true → s.saf.call.isSome = true →
      Answers (.safetyCycle fuel) s fun t => t.saf.state = safStopped ∧ t.saf.cause = 6 ∧ t.running = false ∧
        ∀ o, (t.sto o).on = false) ∧
    (safAlive s = true → s.saf.state = safRunning → s.saf.initDone = true → s.saf.call = none → s.saf.served + 2000000 < T →
      Answers (.safetyCycle fuel) s fun t => t.saf.state = safStopped ∧ t.saf.cause = 2 ∧ t.running = false) ∧
    (safAlive s = true → s.saf.state = safRunning → s.saf.initDone = true → s.saf.call = none → T ≤ s.saf.served + 2000000 →
      exec (.safetyCycle fuel) s = .next (let u := safRun (safCall (cycleStart (s.at T)) .cycle) fuel
        if u.saf.call = some .cycle ∧ safReturned u then cycleEnd u else u))) ∧
  (∀ s : State, safAlive s = true → ∀ p ∈ ([(Instr.lockstepMismatch, 1, s.saf.state = safRunning ∨ s.saf.state = safUnconfirmed),
      (Instr.safetySupplyFault, 5, s.saf.state = safRunning ∨ s.saf.state = safUnconfirmed),
      (Instr.safetyWatchdogExpiry, 2, s.saf.state = safRunning ∧ s.saf.initDone = true),
      (Instr.safetyInitTimeout, 6, s.saf.state = safRunning ∧ s.saf.initDone = false),
      (Instr.safetyCycleOverrun, 6, s.saf.state = safRunning ∧ s.saf.call = some .cycle)] : List (Instr × Nat × Prop)),
    p.2.2 → Answers p.1 s fun t => t.saf.state = safStopped ∧ t.saf.cause = p.2.1 ∧ t.running = false ∧
      (∀ o, (t.sto o).on = false) ∧ t.saf.image = s.saf.image) ∧
  (∀ s : State, safAlive s = true → s.saf.state = safStopped → Answers .lockstepMismatch s fun t => t.saf.state = safStopped ∧
    t.saf.cause = s.saf.cause ∧ t.saf.lsErr = holdAt 0xFFFFFFFF (s.saf.lsErr + 1)) ∧
  (∀ s : State, safAlive s = true → s.saf.state = safRunning ∨ s.saf.state = safUnconfirmed → Answers .safetyFrameSend s fun t =>
    t.now = ceilDiv s.now 250000 * 250000 ∧ t.field.safAt = t.now ∧ t.field.pulses = pulseSources s ∧
    (safActs s = false → t.field.stoOn = []) ∧ t.regs = s.regs ∧ t.mem = s.mem) ∧
  (∀ s : State, Answers .safetySilence s fun t => t.field.stoOn = [] ∧ t.field.pulses = [] ∧
    t.now = max s.now (s.field.safAt + 3000000) ∧ (∀ k < 32, (t.dchan k).mode = 5 → (t.dchan k).driver = false) ∧ t.regs = s.regs ∧
    t.mem = s.mem) ∧
  (∀ (n : Fin 32) (s : State) (x : Nat), (s.safConn n.val).sentAt = some x → safActs s = true → (s.safConn n.val).state ≠ 3 →
    Answers (.connectionWatchdog n) s fun t => (t.safConn n.val).state = 3 ∧ (t.safConn n.val).fsv = true ∧
      (t.safConn n.val).data = [] ∧ (t.safConn n.val).seq = 0 ∧ t.now = max s.now (x + connPar s n.val 3 * 1000000) ∧
      ∀ j, j ≠ n.val → t.safConn j = s.safConn j) ∧
  (∀ (i : Fin 8) (s : State) (x : Nat), (s.safInput i.val).diffAt = some x → safAlive s = true → inputUsed s i.val = true →
    Answers (.safetyInputDiscrepancy i) s fun t => (t.safInput i.val).fault = true ∧ (t.safInput i.val).closed = false ∧
      t.now = max s.now (x + inputPar s i.val 6 * 1000000) ∧ ∀ j, j ≠ i.val → t.safInput j = s.safInput j) ∧
  (∀ (k : Fin 32) (dipped : Word) (s : State),
    (s.field.pulses.contains k.val = false → exec (.testPulse k dipped) s = .next s) ∧
    (safAlive s = true → s.field.pulses.contains k.val = true → Answers (.testPulse k dipped) s fun t => t.regs = s.regs ∧ t.mem = s.mem ∧
      ∀ i < 8, inputUsed s i = true → inputPar s i 3 = k.val ∨ inputPar s i 4 = k.val →
        (pulseBad s k.val dipped (inputPar s i 1) (inputPar s i 3) = true ∨
          pulseBad s k.val dipped (inputPar s i 2) (inputPar s i 4) = true → (t.safInput i).fault = true ∧ (t.safInput i).closed = false) ∧
        (pulseBad s k.val dipped (inputPar s i 1) (inputPar s i 3) = false →
          pulseBad s k.val dipped (inputPar s i 2) (inputPar s i 4) = false → t.safInput i = s.safInput i))) ∧
  (∀ (o : Fin 4) (ch : Bool) (s : State),
    exec (.stoDarkPulse o ch true) s = .next s ∧
    (safAlive s = true → (s.sto o.val).on = true → Answers (.stoDarkPulse o ch false) s fun t => (t.sto o.val).on = false ∧
      (t.sto o.val).fault = true ∧ ∀ a < 8, axisPar s a 1 ≠ 0 → axisPar s a 2 = o.val → (s.safAxis a).state = axRun →
        (t.safAxis a).state = axFault ∧ (t.safAxis a).fault = 2))

/-! ### The non-volatile store (R630 to R647) -/

/-- The NV controller (R633, R637, R639, R641, R647): the recall's end makes the array READY within 4 ms, and Jurno's next phase; the
oldest posted write is made, and a record that does not read back keeps its winner; a read of NVM_SYNC waits for every posted write; a
flash operation that ends has erased its sector, or programmed its bytes, and a verification that fails shows. -/
def Obligations.Storage : Prop :=
  (∀ s : State, s.boot.held = false → (s.nv.recalling = false → exec .recallComplete s = .next s) ∧
    (s.nv.recalling = true → Answers .recallComplete s fun t => t.nv.ready = true ∧ t.nv.recalling = false ∧
      t.fld NVM_RECT_US ≤ 4000 ∧ (s.jrn.phase = 1 → t.jrn.phase = 2) ∧ (s.jrn.phase ≠ 1 → t.jrn.phase = s.jrn.phase))) ∧
  (∀ (v : Bool) (s : State), s.boot.held = true ∨ s.nv.posted = [] → exec (.postedWriteComplete v) s = .next s) ∧
  (∀ (v : Bool) (s : State) (off : Nat) (bs : List Byte) (rest : List Posted), s.boot.held = false → s.nv.posted = .win off bs :: rest →
    Answers (.postedWriteComplete v) s fun t => t.nv.posted = rest ∧ t.mem.mram = mramPut s.mem.mram off bs ∧
      t.mem.sram = s.mem.sram ∧ t.img = s.img ∧ t.objs = s.objs ∧ t.nv.recs = s.nv.recs) ∧
  (∀ (s : State) (key fmt : Nat) (bs : List Byte) (w : Option JReq) (rest : List Posted), s.boot.held = false → s.nv.saving = none →
    s.nv.posted = .record key fmt bs w :: rest → keyBlocked s key = false →
    (Answers (.postedWriteComplete false) s fun t => t.nvValue key = some bs ∧ t.nv.posted = rest ∧
      ∀ j, j ≠ key → t.nvRec j = s.nvRec j) ∧
    (Answers (.postedWriteComplete true) s fun t => t.nvValue key = s.nvValue key ∧ t.nv.posted = rest ∧
      t.flag NVM_STAT_WERR = true)) ∧
  (∀ (core : CoreId) (s : State), MayRead s core NVM_SYNC →
    (s.nv.saving = none → Answers (.nvmSyncRead core) s fun t => t.nv.posted = []) ∧
    (s.nv.posted = [] → Answers (.nvmSyncRead core) s fun t => t.rdata = toWord (regPeek s NVM_SYNC) ∧ t.mem = s.mem ∧ t.nv = s.nv ∧
      t.units = s.units)) ∧
  (∀ (v : Bool) (s : State), (s.nv.flash = none → exec (.flashOperationComplete v) s = .next s) ∧
    (∀ n, s.nv.flash = some (.erase n) → s.boot.updWork = none → Answers (.flashOperationComplete v) s fun t =>
      t.nv.flash = none ∧ t.mem.flash = s.mem.flash.clearRange (65536 * n) 65536 ∧ (v = false → t.fld NVM_FSTAT_ERR = 4) ∧
      (v = true → t.regs = s.regs)) ∧
    (∀ off bs, s.nv.flash = some (.program off bs) → s.boot.updWork = none → Answers (.flashOperationComplete v) s fun t =>
      t.nv.flash = none ∧ t.mem.flash = s.mem.flash.setMany 0xFF off bs ∧ (v = false → t.fld NVM_FSTAT_ERR = 4) ∧
      (v = true → t.regs = s.regs ∧ t.nv.ctrs = s.nv.ctrs)))

/-! ### The real-time clock (R648 to R663) -/

/-- The clock (R648, R649, R651 to R656): at a second boundary the count advances, or takes the armed time, and an alarm that has come
is flagged and disables itself; a compensation keeps the correction within ±255 steps; the cell is compared with its thresholds at the
switch back and at each reading; a domain that lost its power starts from 0; the first read of the five registers captures them all for the
core, later ones show the capture, until RTC_CAL1 is read or 1 ms has passed; a plant time 2 s or more away sets the clock.
The rounding of the correction to a step is the model's choice (log 10). -/
def Obligations.Clock : Prop :=
  (∀ s : State, s.rtc.almEn = false →
    (s.rtc.armed = none → Answers .rtcSecondBoundary s fun t => t.rtc.sec = (s.rtc.sec + 1) % 2 ^ 40 ∧ t.rtc.bound = rtcNext s ∧
      t.now = max s.now (rtcNext s) ∧ t.regs = s.regs ∧ t.mem = s.mem) ∧
    (∀ v, s.rtc.armed = some (v, false) → Answers .rtcSecondBoundary s fun t => t.rtc.sec = v ∧ t.rtc.tvalid = true ∧
      t.rtc.armed = none) ∧
    (∀ v, s.rtc.armed = some (v, true) → Answers .rtcSecondBoundary s fun t => t.rtc.sec = (s.rtc.sec + 1) % 2 ^ 40 ∧
      t.rtc.armed = some (v, false))) ∧
  (∀ s : State, s.rtc.almEn = true → s.rtc.armed = none → s.rtc.onbat = false → s.boot.held = false →
    (s.rtc.alarm ≤ (s.rtc.sec + 1) % 2 ^ 40 → Answers .rtcSecondBoundary s fun t => t.rtc.almf = true ∧ t.rtc.almEn = false) ∧
    ((s.rtc.sec + 1) % 2 ^ 40 < s.rtc.alarm → Answers .rtcSecondBoundary s fun t => t.rtc.almf = s.rtc.almf ∧ t.rtc.almEn = true)) ∧
  (∀ (c : Int) (mv : Nat) (s : State), Answers (.rtcCompensation c mv) s fun t => -255 ≤ t.rtc.corr ∧ t.rtc.corr ≤ 255 ∧
    t.rtc.vbat = mv ∧ t.rtc.sec = s.rtc.sec ∧ (mv < 2350 → t.rtc.batlow = true) ∧ (2450 < mv → t.rtc.batlow = false) ∧
    t.regs = s.regs ∧ t.mem = s.mem) ∧
  (∀ (mv : Nat) (s : State),
    (Answers (.rtcSwitchToVbat mv) s fun t => t.rtc.onbat = true ∧ t.rtc.sec = s.rtc.sec ∧ t.mem = s.mem) ∧
    (mv < 2000 → Answers (.rtcSwitchToRail mv) s fun t => t.rtc.onbat = false ∧ t.rtc.tvalid = false ∧ t.rtc.bkunc = true) ∧
    (2000 ≤ mv → Answers (.rtcSwitchToRail mv) s fun t => t.rtc.onbat = false ∧ t.rtc.tvalid = s.rtc.tvalid ∧
      t.rtc.bkunc = s.rtc.bkunc)) ∧
  (∀ s : State, Answers .backupDomainPowerOn s fun t => t.rtc.sec = 0 ∧ t.rtc.tvalid = false ∧ t.rtc.bkunc = true ∧
    t.rtc.bound = s.now ∧ t.mem = s.mem ∧ t.regs = s.regs) ∧
  (∀ (core : CoreId) (a : Word) (s : State), isRtcFive a.toNat = true → MayRead s core a.toNat →
    ((s.shadow core.val).frozen = true → Answers (.rtcShadowCapture core a) s fun t =>
      t.rdata = toWord (rtcFive a.toNat (s.shadow core.val).capno (s.shadow core.val).sub (s.shadow core.val).sec) ∧
      (t.shadow core.val).frozen = (a.toNat != RTC_CAL1) ∧ (t.shadow core.val).capno = (s.shadow core.val).capno ∧
      ∀ j, j ≠ core.val → t.shadow j = s.shadow j) ∧
    ((s.shadow core.val).frozen = false → Answers (.rtcShadowCapture core a) s fun t =>
      t.rdata = toWord (rtcFive a.toNat (((s.shadow core.val).capno + 1) % 256) (rtcSub s) s.rtc.sec) ∧
      (t.shadow core.val).capno = ((s.shadow core.val).capno + 1) % 256 ∧ (t.shadow core.val).sec = s.rtc.sec ∧
      (t.shadow core.val).frozen = (a.toNat != RTC_CAL1) ∧ ∀ j, j ≠ core.val → t.shadow j = s.shadow j)) ∧
  (∀ (core : CoreId) (s : State), (s.shadow core.val).frozen = true → Answers (.rtcShadowFreezeEnd core) s fun t =>
    (t.shadow core.val).frozen = false ∧ t.now = max s.now ((s.shadow core.val).at_ + 1000000) ∧ t.regs = s.regs ∧
    ∀ j, j ≠ core.val → t.shadow j = s.shadow j) ∧
  (∀ (p : Nat) (s : State),
    (s.rtc.sec ≤ p + 1 → p ≤ s.rtc.sec + 1 → exec (.plantTimeCheck p) s = .next s) ∧
    (s.objNum 0x1E00 8 = 1 → s.fld PHR_PTPCTRL_MODE = 1 → s.fld PHR_PTPSTAT_STATE = 3 → s.rtc.sec + 2 ≤ p ∨ p + 2 ≤ s.rtc.sec →
      s.now + 30000 ≤ rtcNext s → Answers (.plantTimeCheck p) s fun t => t.rtc.armed = some (p % 2 ^ 40, false) ∧
        t.rtc.sec = s.rtc.sec))

/-! ### Watchdog and recorder (R643, R667 to R671, R684 to R689) -/

/-- The hardware watchdog's keys go stale after 100 µs; its expiry, and a stopped reference clock, reset the module with their cause, but
not while it is paused or in a freeze; a stopped RC oscillator that does not clock it only shows (R667 to R671). Operating seconds
count on (R643, R763), a code's bucket gains a token (R687), the recorder's freeze ends by itself (R689), and the index rebuild ends its
scan (R684). -/
def Obligations.WatchdogAndRecorder : Prop :=
  (∀ (s : State) (x : Nat), s.wdg.armed = some x → halted s = false → Answers .wdgPairWindowTimeout s fun t =>
    t.wdg = { s.wdg with armed := none } ∧ t.now = max s.now (x + 100000) ∧ t.regs = s.regs ∧ t.mem = s.mem) ∧
  (∀ s : State, halted s = true ∨ s.wdg.paused = true → exec .watchdogExpiry s = .next s) ∧
  (∀ (rc : Bool) (s : State), halted s = false → s.wdg.paused = false →
    let reset (c : Nat) (t : State) : Prop := t.boot.held = true ∧ t.boot.sources = 2 ^ (srcWatchdog - 1) ∧ t.stopped = true ∧
      t.wdg.count = holdAt 255 (s.wdg.count + 1) ∧ t.wdg.lastCause = c ∧ t.mem.mram = s.mem.mram
    Answers .watchdogExpiry s (reset 1) ∧
    (rc = false ∨ s.flag WDG_CTRL_CLKSEL = true → Answers (.clockStop rc) s (reset 4)) ∧
    (rc = true → s.flag WDG_CTRL_CLKSEL = false → Answers (.clockStop rc) s fun t => t.boot = s.boot ∧
      t.flag WDG_STAT_ALTSTOP = true ∧ t.wdg = s.wdg ∧ t.tsk = s.tsk)) ∧
  (∀ s : State, Answers .operatingSeconds s fun t => t.now = max s.now (s.boot.opLast + 1000000000).toNat ∧
    t.boot = { s.boot with opLast := s.boot.opLast + 1000000000 } ∧ t.mem = s.mem ∧
    (s.nv.prot = 3 → t.ctr ctrOpSec = s.ctr ctrOpSec) ∧
    (s.nv.prot ≠ 3 → (s.nv.ctrs.get {} ctrOpSec).low < 2 ^ 32 → (s.nv.ctrs.get {} ctrOpSec).high + 1 < 2 ^ 31 →
      t.ctr ctrOpSec = s.ctr ctrOpSec + 1)) ∧
  (∀ (c : BitVec 16) (s : State), Answers (.recordToken c) s fun t =>
    t.rcd.spent.get 0 c.toNat = s.rcd.spent.get 0 c.toNat - 1 ∧ (∀ j, j ≠ c.toNat → t.rcd.spent.get 0 j = s.rcd.spent.get 0 j) ∧
    t.regs = s.regs ∧ t.mem = s.mem) ∧
  (∀ s : State, (recFrozen s = false → exec .recorderFreezeEnd s = .next s) ∧
    (recFrozen s = true → s.rcd.queue = [] → Answers .recorderFreezeEnd s fun t => recFrozen t = false ∧
      t.now = max s.now (s.rcd.frozenAt + 60000000000) ∧ t.mem = s.mem)) ∧
  (∀ s : State, s.rcd.indexing = true → s.nv.ready = true → s.frz.frozen = false → Answers .indexRebuildComplete s fun t =>
    t.rcd.indexing = false ∧ t.mem.sram = s.mem.sram ∧ t.img = s.img)

/-! ### Freeze and the test access port (R673 to R683) -/

/-- A freeze (R673 to R678) is requested by FREEZE_N where the strap is fitted and after recall, else refused; at t_w the module halts,
with the time noted, the links down, the watchdog paused and every unit as it stands; it is released at its limit with the pin high, at the
pin's rise after it, or by FZREL with the pin high; an unpaired module's program is then not running, and the watchdog counts again from 0.
After the links are up they carry frames again. The port's instructions select their data registers (R680 to R683): outside a freeze
EXTEST is BYPASS, and FZADDR and FZDATA read 0; in a freeze FZDATA reads the word at the address and moves it on by 4.
How a halted unit's buffers show is the model's choice (log 38). -/
def Obligations.FreezeAndTap : Prop :=
  (∀ s : State,
    (s.boot.held = true → exec .freezeN s = .next (s.modFrz fun f => { f with pinLow := true })) ∧
    (s.boot.held = false → s.frz.frozen = false → s.frz.request = none → s.frz.strap = true → s.nv.ready = true →
      Answers .freezeN s fun t => t.frz.pinLow = true ∧ t.frz.request = some 1 ∧ t.frz.source = 1 ∧ t.frz.frozen = false ∧
        t.regs = s.regs ∧ t.mem = s.mem) ∧
    (s.boot.held = false → s.frz.frozen = false → s.frz.request = none → s.frz.strap = false → Answers .freezeN s fun t =>
      t.frz.request = none ∧ t.flag FRZ_STAT_REFUSED = true)) ∧
  (∀ s : State, halted s = false → s.frz.request.isSome = true → Answers .freezeHalt s fun t => t.frz.frozen = true ∧ t.frz.tw = s.now ∧
    t.wdg.paused = true ∧ t.phr.linksDown = true ∧ t.field.link = false ∧ t.units = s.units ∧ t.mem = s.mem ∧ t.img = s.img ∧
    t.tsk = s.tsk) ∧
  (∀ s : State, s.frz.frozen = true → s.frz.extested = false → s.hsb.unit = 0 →
    let free (t : State) : Prop := t.frz.frozen = false ∧ t.frz.released = true ∧ t.wdg.paused = false ∧
      t.wdg.last = t.now ∧ t.running = false
    (s.fld FRZ_CTRL_LIMIT ≠ 0 → s.frz.pinLow = false → Answers .freezeLimitExpiry s fun t => free t ∧
      t.now = max s.now (s.frz.tw + s.fld FRZ_CTRL_LIMIT * 1000000000)) ∧
    (s.fld FRZ_CTRL_LIMIT ≠ 0 → s.frz.pinLow = true → Answers .freezeLimitExpiry s fun t => t.frz.frozen = true ∧
      t.frz.limitRun = true) ∧
    (s.frz.limitRun = true → Answers .freezeNRise s fun t => free t ∧ t.frz.pinLow = false) ∧
    (s.frz.limitRun = false → Answers .freezeNRise s fun t => t.frz.frozen = true ∧ t.frz.pinLow = false) ∧
    (s.frz.pinLow = false → Answers .fzrel s fun t => free t ∧ t.frz.ir = .fzrel) ∧
    (s.frz.pinLow = true → Answers .fzrel s fun t => t.frz.frozen = true ∧ t.frz.ir = .fzrel)) ∧
  (∀ (links : BitVec 8) (s : State), halted s = false → s.frz.released = true → s.hsb.unit = 0 →
    Answers (.linksUpAfterRelease links) s fun t => t.phr.linksDown = false ∧ t.frz.released = false ∧
      ∀ r < 4, (t.ring r).linkA = links.getLsbD (2 * r) ∧ (t.ring r).linkB = links.getLsbD (2 * r + 1)) ∧
  (∀ s : State,
    (Answers .bypass s fun t => t.frz.ir = .bypass ∧ t.frz.dr = 0) ∧ (Answers .samplePreload s fun t => t.frz.ir = .sample) ∧
    (Answers .fzstat s fun t => t.frz.ir = .fzstat ∧ t.frz.dr = fzstatWord s ∧ t.regs = s.regs ∧ t.mem = s.mem) ∧
    (s.frz.frozen = false → exec .extest s = exec .bypass s) ∧
    (s.frz.frozen = true → Answers .extest s fun t => t.frz.ir = .extest ∧ t.frz.extested = true)) ∧
  (∀ (v : BitVec 40) (s : State),
    (s.frz.frozen = true → Answers (.fzaddr v) s fun t => t.frz.ir = .fzaddr ∧ t.frz.fzaddr = v.toNat / 4 * 4 ∧
      t.frz.dr = s.frz.fzaddr) ∧
    (s.frz.frozen = false → Answers (.fzaddr v) s fun t => t.frz.dr = 0 ∧ t.frz.fzaddr = s.frz.fzaddr)) ∧
  (∀ s : State,
    (s.frz.frozen = false → Answers .fzdata s fun t => t.frz.ir = .fzdata ∧ t.frz.dr = 0) ∧
    (∀ w bad, s.frz.frozen = true → s.frz.fzaddr / 2 ^ 32 ≠ 6 →
      tapRead s (s.frz.fzaddr / 2 ^ 32) (s.frz.fzaddr % 2 ^ 32) = some (w, bad) → Answers .fzdata s fun t =>
        t.frz.dr = (toWord w).toNat ∧ t.frz.eccErr = bad ∧ t.frz.badAddr = false ∧
        t.frz.fzaddr = s.frz.fzaddr / 2 ^ 32 * 2 ^ 32 + (s.frz.fzaddr % 2 ^ 32 + 4) % 2 ^ 32 ∧ t.mem = s.mem ∧ t.regs = s.regs) ∧
    (s.frz.frozen = true → tapRead s (s.frz.fzaddr / 2 ^ 32) (s.frz.fzaddr % 2 ^ 32) = none → Answers .fzdata s fun t =>
      t.frz.dr = 0 ∧ t.frz.badAddr = true))

/-! ### From reset to firmware (R712 to R714, R725) -/

/-- A module that is held, not by its temperature, is released into the boot ROM with its straps sampled, and in factory mode without
LDRLOCK (R712); a loader that passes runs
after the recall, takes the unit number, with 3 as 0, into force and a single module's role or STARTING (R474, R713); the firmware that it
starts loads the program and the records, and listens for its role where the module is paired (R437, R714); a verified update is activated
by a software reset, one that fails shows its reason (R725). Where the loader's own check ends is a free bit (log 41).
That the program comes from a store that no command changes is the model's choice (log 37). -/
def Obligations.Startup : Prop :=
  (∀ (straps : Straps) (s : State),
    (s.boot.held = true → s.boot.thermal = false → s.boot.sources ≠ 0 → Answers (.moduleResetRelease straps) s fun t =>
      t.boot.held = false ∧ t.boot.stage = .rom ∧ t.frz.strap = straps.freeze ∧ t.boot.release = s.now ∧ t.wdg.last = s.now ∧
      t.boot.sources = s.boot.sources ∧ t.mem.flash = s.mem.flash ∧ t.mem.mram = s.mem.mram ∧ t.tsk = s.tsk ∧
      (straps.factory = false → t.regs = s.regs) ∧ (straps.factory = true → t.flag NVM_FSTAT_LDRLOCK = false)) ∧
    (s.boot.held = false ∨ s.boot.thermal = true ∨ s.boot.sources = 0 → exec (.moduleResetRelease straps) s = .next s)) ∧
  (∀ s : State, halted s = false → s.boot.stage = .rom → s.boot.stuck = false → s.jrn.phase = 2 →
    s.nv.incomplete = false → s.boot.relReq = false → s.boot.ldrReq = false → s.nv.begun = [] →
    s.boot.resident = false → imageReason s = none → Answers .loaderStart s fun t =>
      t.boot.stage = .loader ∧ t.boot.resident = false ∧
      t.hsb.unit = (if recalledNum s 0x1800 1 = 3 then 0 else recalledNum s 0x1800 1) ∧
      t.role = (if t.hsb.unit = 0 then roleSingle else roleStarting) ∧ t.mem = s.mem) ∧
  (∀ s : State, halted s = true ∨ s.boot.stuck = true ∨ s.jrn.phase ≠ 2 → exec .loaderStart s = .next s) ∧
  (∀ s : State, halted s = false → s.boot.stage = .loader → s.boot.resident = false →
    (exec .firmwareStart s = .next (takePlace (takeAtStart (fieldCmd (loadRtcModel (firstClaims (startRecords (loadOther
      (s.nv.recs.foldl loadRecord ((routeEvents (loadProgram (serveJurno (enterFirmware s)))).setFld AIO_TRIM_SBTN 1))))))
      (.config true))))) ∧
    (s.nv.recs = [] → s.paired = true → Answers .firmwareStart s fun t => t.boot.stage = .firmware ∧ t.role = s.role ∧
      t.gz.hdr = s.prog.hdr ∧ t.gz.dir = s.prog.dir ∧ t.mem.code = s.prog.code ∧ t.jrn.phase = 3 ∧ t.hsb.listen = s.now)) ∧
  (∀ s : State, s.boot.upd = .verifying → s.boot.updPartner = false → s.boot.held = false → s.frz.frozen = false →
    (∀ r, imageReason s = some r → Answers .verifyComplete s fun t => t.boot.upd = .failed ∧ t.boot.updReason = r ∧
      t.boot.held = false) ∧
    (imageReason s = none → Answers .verifyComplete s fun t => t.boot.held = true ∧ t.boot.ldrReq = false ∧
      t.boot.sources = 2 ^ (srcSoftware - 1)))
end
end

