-- ==== Sys2Proof/Laws/Tables.lean ====
section
/-!
SUPPORT. Laws/Tables.lean: what sparse tables, and so memories, the image and the register file, give: a read after a write, and the
canonical form, which every operation on a memory keeps.
-/
namespace Sys2Proof.Machine

/-! ### Reading after writing -/

theorem Tbl.get_erase_same {α : Type} (t : Tbl α) (d : α) (k : Nat) : (t.erase k).get d k = d := by
  induction t with
  | nil => rfl
  | cons e t ih =>
    obtain ⟨i, v⟩ := e
    unfold Tbl.erase
    split
    · exact ih
    · rename_i h
      simp [Tbl.get, h, ih]

theorem Tbl.get_erase_ne {α : Type} (t : Tbl α) (d : α) (k j : Nat) (h : j ≠ k) : (t.erase k).get d j = t.get d j := by
  induction t with
  | nil => rfl
  | cons e t ih =>
    obtain ⟨i, v⟩ := e
    unfold Tbl.erase
    split
    · subst_vars
      simp [Tbl.get, ih, Ne.symm h]
    · simp [Tbl.get, ih]

theorem Tbl.get_insert_ne {α : Type} (t : Tbl α) (d : α) (k j : Nat) (v : α) (h : j ≠ k) :
    (t.insert k v).get d j = t.get d j := by
  induction t with
  | nil => simp [Tbl.insert, Tbl.get, Ne.symm h]
  | cons e t ih =>
    obtain ⟨i, w⟩ := e
    unfold Tbl.insert
    split
    · simp [Tbl.get, Ne.symm h]
    · simp [Tbl.get, ih]

theorem Tbl.get_insert_erase {α : Type} (t : Tbl α) (d : α) (k : Nat) (v : α) : ((t.erase k).insert k v).get d k = v := by
  induction t with
  | nil => simp [Tbl.erase, Tbl.insert, Tbl.get]
  | cons e t ih =>
    obtain ⟨i, w⟩ := e
    unfold Tbl.erase
    split
    · exact ih
    · rename_i h
      unfold Tbl.insert
      split <;> simp [Tbl.get, h, ih]

@[simp] theorem Tbl.get_set_same {α : Type} [DecidableEq α] (t : Tbl α) (d : α) (k : Nat) (v : α) : (t.set d k v).get d k = v := by
  unfold Tbl.set
  split
  · subst_vars
    exact t.get_erase_same _ k
  · exact t.get_insert_erase d k v

theorem Tbl.get_set_ne {α : Type} [DecidableEq α] (t : Tbl α) (d : α) (k j : Nat) (v : α) (h : j ≠ k) :
    (t.set d k v).get d j = t.get d j := by
  unfold Tbl.set
  split
  · exact t.get_erase_ne d k j h
  · rw [Tbl.get_insert_ne _ _ _ _ _ h, t.get_erase_ne d k j h]

/-- The same where a table's default is another for each key, as the register file's is. -/
theorem Tbl.get_set_ne' {α : Type} [DecidableEq α] (t : Tbl α) (d d' : α) (k j : Nat) (v : α) (h : j ≠ k) :
    (t.set d k v).get d' j = t.get d' j := by
  unfold Tbl.set
  split
  · exact t.get_erase_ne d' k j h
  · rw [Tbl.get_insert_ne _ _ _ _ _ h, t.get_erase_ne d' k j h]

/-- Bytes before and after those written read as they did. -/
theorem Tbl.get_setMany_ne {α : Type} [DecidableEq α] (vs : List α) (t : Tbl α) (d : α) (k j : Nat)
    (h : j < k ∨ k + vs.length ≤ j) : (t.setMany d k vs).get d j = t.get d j := by
  induction vs generalizing t k with
  | nil => rfl
  | cons v vs ih =>
    simp only [List.length_cons] at h
    unfold Tbl.setMany
    rw [ih _ _ (by omega), Tbl.get_set_ne _ _ _ _ _ (by omega)]

/-! ### The canonical form -/

/-- The canonical form, as two facts: keys strictly rise, and no entry is the default. -/
theorem Tbl.wf_iff {α : Type} [DecidableEq α] (d : α) (t : Tbl α) :
    Tbl.wf d t = true ↔ List.Pairwise (fun a b : Nat × α => a.1 < b.1) t ∧ ∀ e ∈ t, e.2 ≠ d := by
  induction t with
  | nil => simp [Tbl.wf]
  | cons e t ih =>
    obtain ⟨i, v⟩ := e
    cases t with
    | nil => simp [Tbl.wf]
    | cons e' t =>
      obtain ⟨j, w⟩ := e'
      simp only [Tbl.wf, Bool.and_eq_true, decide_eq_true_eq, ih]
      constructor
      · rintro ⟨⟨hv, hij⟩, hp, hd⟩
        refine ⟨List.pairwise_cons.2 ⟨?_, hp⟩, ?_⟩
        · intro e he
          rcases List.mem_cons.1 he with rfl | he
          · exact hij
          · exact Nat.lt_trans hij ((List.pairwise_cons.1 hp).1 e he)
        · intro e he
          rcases List.mem_cons.1 he with rfl | he
          · exact hv
          · exact hd e he
      · rintro ⟨hp, hd⟩
        have hp := List.pairwise_cons.1 hp
        exact ⟨⟨hd (i, v) (by simp), hp.1 (j, w) (by simp)⟩, hp.2, fun e he => hd e (List.mem_cons_of_mem _ he)⟩

theorem Tbl.wf_filter {α : Type} [DecidableEq α] (d : α) (t : Tbl α) (p : Nat × α → Bool) (h : Tbl.wf d t = true) :
    Tbl.wf d (t.filter p) = true := by
  rw [Tbl.wf_iff] at h ⊢
  exact ⟨h.1.filter _, fun e he => h.2 e (List.mem_filter.1 he).1⟩

theorem Tbl.erase_eq_filter {α : Type} (t : Tbl α) (k : Nat) : t.erase k = t.filter fun e => decide (e.1 ≠ k) := by
  induction t with
  | nil => rfl
  | cons e t ih =>
    obtain ⟨i, v⟩ := e
    unfold Tbl.erase
    by_cases h : i = k <;> simp [h, ih]

theorem Tbl.mem_insert {α : Type} (t : Tbl α) (k : Nat) (v : α) (e : Nat × α) (h : e ∈ t.insert k v) : e = (k, v) ∨ e ∈ t := by
  induction t with
  | nil => simpa [Tbl.insert] using h
  | cons a t ih =>
    obtain ⟨i, w⟩ := a
    unfold Tbl.insert at h
    split at h
    · simpa using h
    · rcases List.mem_cons.1 h with rfl | h
      · simp
      · rcases ih h with h | h <;> simp [h]

theorem Tbl.pairwise_insert {α : Type} (t : Tbl α) (k : Nat) (v : α) (hp : List.Pairwise (fun a b : Nat × α => a.1 < b.1) t)
    (hk : ∀ e ∈ t, e.1 ≠ k) : List.Pairwise (fun a b : Nat × α => a.1 < b.1) (t.insert k v) := by
  induction t with
  | nil => simp [Tbl.insert]
  | cons a t ih =>
    obtain ⟨i, w⟩ := a
    have hp' := List.pairwise_cons.1 hp
    have hi : i ≠ k := hk (i, w) (by simp)
    unfold Tbl.insert
    split
    · refine List.pairwise_cons.2 ⟨?_, hp⟩
      intro e he
      rcases List.mem_cons.1 he with rfl | he
      · show k < i
        omega
      · have := hp'.1 e he
        simp only at this
        omega
    · refine List.pairwise_cons.2 ⟨?_, ih hp'.2 fun e he => hk e (List.mem_cons_of_mem _ he)⟩
      intro e he
      rcases Tbl.mem_insert t k v e he with rfl | he
      · show i < k
        omega
      · exact hp'.1 e he

theorem Tbl.wf_set {α : Type} [DecidableEq α] (t : Tbl α) (d : α) (k : Nat) (v : α) (h : Tbl.wf d t = true) :
    Tbl.wf d (t.set d k v) = true := by
  have he : Tbl.wf d (t.erase k) = true := by
    rw [Tbl.erase_eq_filter]
    exact Tbl.wf_filter d t _ h
  unfold Tbl.set
  split
  · exact he
  · rename_i hv
    rw [Tbl.wf_iff] at he ⊢
    refine ⟨Tbl.pairwise_insert _ _ _ he.1 ?_, ?_⟩
    · intro e hm
      rw [Tbl.erase_eq_filter] at hm
      simpa using (List.mem_filter.1 hm).2
    · intro e hm
      rcases Tbl.mem_insert _ _ _ _ hm with rfl | hm
      · exact hv
      · exact he.2 e hm

theorem Tbl.wf_setMany {α : Type} [DecidableEq α] (vs : List α) (t : Tbl α) (d : α) (k : Nat) (h : Tbl.wf d t = true) :
    Tbl.wf d (t.setMany d k vs) = true := by
  induction vs generalizing t k with
  | nil => exact h
  | cons v vs ih => exact ih _ _ (Tbl.wf_set t d k v h)

theorem Tbl.wf_clearRange {α : Type} [DecidableEq α] (t : Tbl α) (d : α) (k n : Nat) (h : Tbl.wf d t = true) :
    Tbl.wf d (t.clearRange k n) = true := Tbl.wf_filter d t _ h

theorem Tbl.wf_range {α : Type} [DecidableEq α] (t : Tbl α) (d : α) (k n : Nat) (h : Tbl.wf d t = true) :
    Tbl.wf d (t.range k n) = true := Tbl.wf_filter d t _ h

theorem Mem.wf_setWord (m : Mem) (d : Byte) (a : Nat) (w : Word) (h : Tbl.wf d m = true) : Tbl.wf d (m.setWord d a w) = true :=
  Tbl.wf_set _ _ _ _ (Tbl.wf_set _ _ _ _ (Tbl.wf_set _ _ _ _ (Tbl.wf_set _ _ _ _ h)))

theorem wf_mramPut (m : Mem) (off : Nat) (bs : List Byte) (h : Tbl.wf 0 m = true) : Tbl.wf 0 (mramPut m off bs) = true := by
  unfold mramPut
  split
  · exact Tbl.wf_setMany _ _ _ _ h
  · exact h

end Sys2Proof.Machine
end

