-- ==== Sys2Proof/Laws/Registers.lean ====
section
/-!
SUPPORT. Laws/Registers.lean: what a register and a field read as after a write of one.
-/
namespace Sys2Proof.Machine

@[simp] theorem reg_setReg_same (s : State) (a : Nat) (w : Word) : (s.setReg a w).reg a = w := by
  unfold State.reg State.setReg
  exact Tbl.get_set_same s.regs (toWord (regReset a)) a w

theorem reg_setReg_ne (s : State) (a b : Nat) (w : Word) (h : b ≠ a) : (s.setReg a w).reg b = s.reg b := by
  exact Tbl.get_set_ne' s.regs _ _ a b w h

/-- A field holds the low bits of what was written to it. -/
theorem bits_putBits_same (n hi lo v : Nat) (h : lo ≤ hi) : bits (putBits n hi lo v) hi lo = v % 2 ^ (hi + 1 - lo) := by
  unfold bits putBits
  have e : hi + 1 = lo + (hi + 1 - lo) := by omega
  generalize hi + 1 - lo = k at e ⊢
  rw [e, Nat.shiftRight_eq_div_pow, Nat.shiftLeft_eq, Nat.shiftLeft_eq, Nat.pow_add]
  have hp : 0 < 2 ^ lo := Nat.two_pow_pos lo
  have h1 : n >>> (lo + k) * (2 ^ lo * 2 ^ k) + v % 2 ^ k * 2 ^ lo + n % 2 ^ lo
      = n % 2 ^ lo + 2 ^ lo * (2 ^ k * (n >>> (lo + k)) + v % 2 ^ k) := by
    rw [Nat.mul_add, ← Nat.mul_assoc (2 ^ lo), Nat.mul_comm (2 ^ lo * 2 ^ k), Nat.mul_comm (2 ^ lo) (v % 2 ^ k)]
    omega
  rw [h1, Nat.add_mul_div_left _ _ hp, Nat.div_eq_of_lt (Nat.mod_lt _ hp), Nat.zero_add, Nat.mul_add_mod, Nat.mod_mod]

/-- What is put in bits up to 31 of a word fits in a word. -/
theorem putBits_lt (n hi lo v : Nat) (h : lo ≤ hi) (hh : hi < 32) (hn : n < 2 ^ 32) : putBits n hi lo v < 2 ^ 32 := by
  unfold putBits
  have e : hi + 1 = lo + (hi + 1 - lo) := by omega
  generalize hk : hi + 1 - lo = k at e ⊢
  rw [e, Nat.shiftRight_eq_div_pow, Nat.shiftLeft_eq, Nat.shiftLeft_eq, Nat.pow_add]
  have h32 : 2 ^ 32 = 2 ^ lo * 2 ^ k * 2 ^ (32 - (lo + k)) := by
    rw [← Nat.pow_add, ← Nat.pow_add]
    congr 1
    omega
  have ha : n / (2 ^ lo * 2 ^ k) < 2 ^ (32 - (lo + k)) := by
    apply Nat.div_lt_of_lt_mul
    omega
  have hb : v % 2 ^ k < 2 ^ k := Nat.mod_lt _ (Nat.two_pow_pos k)
  have hc : n % 2 ^ lo < 2 ^ lo := Nat.mod_lt _ (Nat.two_pow_pos lo)
  rw [h32]
  have hd : v % 2 ^ k * 2 ^ lo + n % 2 ^ lo < 2 ^ lo * 2 ^ k := by
    have : (v % 2 ^ k + 1) * 2 ^ lo ≤ 2 ^ k * 2 ^ lo := Nat.mul_le_mul_right _ hb
    rw [Nat.add_mul] at this
    rw [Nat.mul_comm (2 ^ lo) (2 ^ k)]
    omega
  have hf : (n / (2 ^ lo * 2 ^ k) + 1) * (2 ^ lo * 2 ^ k) ≤ 2 ^ (32 - (lo + k)) * (2 ^ lo * 2 ^ k) := Nat.mul_le_mul_right _ ha
  rw [Nat.add_mul] at hf
  rw [Nat.mul_comm (2 ^ lo * 2 ^ k) (2 ^ (32 - (lo + k)))]
  omega

/-- A field reads as what was written to it. -/
theorem fld_setFld_same (s : State) (f : Fld) (n : Nat) (h : f.lo ≤ f.hi) (hh : f.hi < 32) :
    (s.setFld f n).fld f = n % 2 ^ (f.hi + 1 - f.lo) := by
  unfold State.fld State.setFld
  rw [reg_setReg_same]
  unfold wbits toWord
  rw [BitVec.toNat_ofNat, Nat.mod_eq_of_lt (putBits_lt _ _ _ _ h hh (BitVec.isLt _)), bits_putBits_same _ _ _ _ h]

/-- A field of another register reads as before. -/
theorem fld_setFld_ne (s : State) (f g : Fld) (n : Nat) (h : g.addr ≠ f.addr) : (s.setFld f n).fld g = s.fld g := by
  unfold State.fld State.setFld
  rw [reg_setReg_ne _ _ _ _ h]

/-- A register other than the field's reads as before. -/
theorem reg_setFld_ne (s : State) (f : Fld) (a n : Nat) (h : a ≠ f.addr) : (s.setFld f n).reg a = s.reg a := by
  unfold State.setFld
  rw [reg_setReg_ne _ _ _ _ h]

end Sys2Proof.Machine
end

