-- ==== Sys2Proof/Laws/State.lean ====
section
/-!
SUPPORT. Laws/State.lean: which part of the state each plain update changes: one law an update, which says that every other part stays;
and for the updates that apply a function to a part, what the part then is.
-/
namespace Sys2Proof.Machine

@[simp] theorem State.setReg_rest (s : State) (a : Nat) (w : Word) :
    (State.setReg s a w).now = s.now ∧ (State.setReg s a w).pending = s.pending ∧ (State.setReg s a w).draws = s.draws ∧
      (State.setReg s a w).rdata = s.rdata ∧ (State.setReg s a w).mem = s.mem ∧ (State.setReg s a w).units = s.units ∧
      (State.setReg s a w).objs = s.objs ∧ (State.setReg s a w).prog = s.prog ∧ (State.setReg s a w).img = s.img ∧
      (State.setReg s a w).tsk = s.tsk ∧ (State.setReg s a w).gz = s.gz ∧ (State.setReg s a w).evc = s.evc ∧
      (State.setReg s a w).nv = s.nv ∧ (State.setReg s a w).rtc = s.rtc ∧ (State.setReg s a w).wdg = s.wdg ∧
      (State.setReg s a w).frz = s.frz ∧ (State.setReg s a w).rcd = s.rcd ∧ (State.setReg s a w).boot = s.boot ∧
      (State.setReg s a w).phr = s.phr ∧ (State.setReg s a w).lpe = s.lpe ∧ (State.setReg s a w).trc = s.trc ∧
      (State.setReg s a w).nrg = s.nrg ∧ (State.setReg s a w).hsb = s.hsb ∧ (State.setReg s a w).field = s.field ∧
      (State.setReg s a w).can = s.can ∧ (State.setReg s a w).saf = s.saf ∧ (State.setReg s a w).jrn = s.jrn ∧
      (State.setReg s a w).stations = s.stations ∧ (State.setReg s a w).sent = s.sent := by
  unfold State.setReg
  exact ⟨rfl, rfl, rfl, rfl, rfl, rfl, rfl, rfl, rfl, rfl, rfl, rfl, rfl, rfl, rfl, rfl, rfl, rfl, rfl, rfl, rfl, rfl, rfl, rfl, rfl, rfl, rfl, rfl, rfl⟩

@[simp] theorem State.setFld_rest (s : State) (f : Fld) (n : Nat) :
    (State.setFld s f n).now = s.now ∧ (State.setFld s f n).pending = s.pending ∧ (State.setFld s f n).draws = s.draws ∧
      (State.setFld s f n).rdata = s.rdata ∧ (State.setFld s f n).mem = s.mem ∧ (State.setFld s f n).units = s.units ∧
      (State.setFld s f n).objs = s.objs ∧ (State.setFld s f n).prog = s.prog ∧ (State.setFld s f n).img = s.img ∧
      (State.setFld s f n).tsk = s.tsk ∧ (State.setFld s f n).gz = s.gz ∧ (State.setFld s f n).evc = s.evc ∧
      (State.setFld s f n).nv = s.nv ∧ (State.setFld s f n).rtc = s.rtc ∧ (State.setFld s f n).wdg = s.wdg ∧
      (State.setFld s f n).frz = s.frz ∧ (State.setFld s f n).rcd = s.rcd ∧ (State.setFld s f n).boot = s.boot ∧
      (State.setFld s f n).phr = s.phr ∧ (State.setFld s f n).lpe = s.lpe ∧ (State.setFld s f n).trc = s.trc ∧
      (State.setFld s f n).nrg = s.nrg ∧ (State.setFld s f n).hsb = s.hsb ∧ (State.setFld s f n).field = s.field ∧
      (State.setFld s f n).can = s.can ∧ (State.setFld s f n).saf = s.saf ∧ (State.setFld s f n).jrn = s.jrn ∧
      (State.setFld s f n).stations = s.stations ∧ (State.setFld s f n).sent = s.sent := by
  unfold State.setFld
  simp

@[simp] theorem State.setFlag_rest (s : State) (f : Fld) (b : Bool) :
    (State.setFlag s f b).now = s.now ∧ (State.setFlag s f b).pending = s.pending ∧ (State.setFlag s f b).draws = s.draws ∧
      (State.setFlag s f b).rdata = s.rdata ∧ (State.setFlag s f b).mem = s.mem ∧ (State.setFlag s f b).units = s.units ∧
      (State.setFlag s f b).objs = s.objs ∧ (State.setFlag s f b).prog = s.prog ∧ (State.setFlag s f b).img = s.img ∧
      (State.setFlag s f b).tsk = s.tsk ∧ (State.setFlag s f b).gz = s.gz ∧ (State.setFlag s f b).evc = s.evc ∧
      (State.setFlag s f b).nv = s.nv ∧ (State.setFlag s f b).rtc = s.rtc ∧ (State.setFlag s f b).wdg = s.wdg ∧
      (State.setFlag s f b).frz = s.frz ∧ (State.setFlag s f b).rcd = s.rcd ∧ (State.setFlag s f b).boot = s.boot ∧
      (State.setFlag s f b).phr = s.phr ∧ (State.setFlag s f b).lpe = s.lpe ∧ (State.setFlag s f b).trc = s.trc ∧
      (State.setFlag s f b).nrg = s.nrg ∧ (State.setFlag s f b).hsb = s.hsb ∧ (State.setFlag s f b).field = s.field ∧
      (State.setFlag s f b).can = s.can ∧ (State.setFlag s f b).saf = s.saf ∧ (State.setFlag s f b).jrn = s.jrn ∧
      (State.setFlag s f b).stations = s.stations ∧ (State.setFlag s f b).sent = s.sent := by
  unfold State.setFlag
  simp

@[simp] theorem State.count_rest (s : State) (f : Fld) (limit : Nat) (n : Nat) :
    (State.count s f limit n).now = s.now ∧ (State.count s f limit n).pending = s.pending ∧
      (State.count s f limit n).draws = s.draws ∧ (State.count s f limit n).rdata = s.rdata ∧
      (State.count s f limit n).mem = s.mem ∧ (State.count s f limit n).units = s.units ∧
      (State.count s f limit n).objs = s.objs ∧ (State.count s f limit n).prog = s.prog ∧
      (State.count s f limit n).img = s.img ∧ (State.count s f limit n).tsk = s.tsk ∧ (State.count s f limit n).gz = s.gz ∧
      (State.count s f limit n).evc = s.evc ∧ (State.count s f limit n).nv = s.nv ∧ (State.count s f limit n).rtc = s.rtc ∧
      (State.count s f limit n).wdg = s.wdg ∧ (State.count s f limit n).frz = s.frz ∧ (State.count s f limit n).rcd = s.rcd ∧
      (State.count s f limit n).boot = s.boot ∧ (State.count s f limit n).phr = s.phr ∧
      (State.count s f limit n).lpe = s.lpe ∧ (State.count s f limit n).trc = s.trc ∧ (State.count s f limit n).nrg = s.nrg ∧
      (State.count s f limit n).hsb = s.hsb ∧ (State.count s f limit n).field = s.field ∧
      (State.count s f limit n).can = s.can ∧ (State.count s f limit n).saf = s.saf ∧ (State.count s f limit n).jrn = s.jrn ∧
      (State.count s f limit n).stations = s.stations ∧ (State.count s f limit n).sent = s.sent := by
  unfold State.count
  simp

@[simp] theorem State.count32_rest (s : State) (a : Nat) (n : Nat) :
    (State.count32 s a n).now = s.now ∧ (State.count32 s a n).pending = s.pending ∧ (State.count32 s a n).draws = s.draws ∧
      (State.count32 s a n).rdata = s.rdata ∧ (State.count32 s a n).mem = s.mem ∧ (State.count32 s a n).units = s.units ∧
      (State.count32 s a n).objs = s.objs ∧ (State.count32 s a n).prog = s.prog ∧ (State.count32 s a n).img = s.img ∧
      (State.count32 s a n).tsk = s.tsk ∧ (State.count32 s a n).gz = s.gz ∧ (State.count32 s a n).evc = s.evc ∧
      (State.count32 s a n).nv = s.nv ∧ (State.count32 s a n).rtc = s.rtc ∧ (State.count32 s a n).wdg = s.wdg ∧
      (State.count32 s a n).frz = s.frz ∧ (State.count32 s a n).rcd = s.rcd ∧ (State.count32 s a n).boot = s.boot ∧
      (State.count32 s a n).phr = s.phr ∧ (State.count32 s a n).lpe = s.lpe ∧ (State.count32 s a n).trc = s.trc ∧
      (State.count32 s a n).nrg = s.nrg ∧ (State.count32 s a n).hsb = s.hsb ∧ (State.count32 s a n).field = s.field ∧
      (State.count32 s a n).can = s.can ∧ (State.count32 s a n).saf = s.saf ∧ (State.count32 s a n).jrn = s.jrn ∧
      (State.count32 s a n).stations = s.stations ∧ (State.count32 s a n).sent = s.sent := by
  unfold State.count32
  simp

@[simp] theorem State.maxFld_rest (s : State) (f : Fld) (n : Nat) :
    (State.maxFld s f n).now = s.now ∧ (State.maxFld s f n).pending = s.pending ∧ (State.maxFld s f n).draws = s.draws ∧
      (State.maxFld s f n).rdata = s.rdata ∧ (State.maxFld s f n).mem = s.mem ∧ (State.maxFld s f n).units = s.units ∧
      (State.maxFld s f n).objs = s.objs ∧ (State.maxFld s f n).prog = s.prog ∧ (State.maxFld s f n).img = s.img ∧
      (State.maxFld s f n).tsk = s.tsk ∧ (State.maxFld s f n).gz = s.gz ∧ (State.maxFld s f n).evc = s.evc ∧
      (State.maxFld s f n).nv = s.nv ∧ (State.maxFld s f n).rtc = s.rtc ∧ (State.maxFld s f n).wdg = s.wdg ∧
      (State.maxFld s f n).frz = s.frz ∧ (State.maxFld s f n).rcd = s.rcd ∧ (State.maxFld s f n).boot = s.boot ∧
      (State.maxFld s f n).phr = s.phr ∧ (State.maxFld s f n).lpe = s.lpe ∧ (State.maxFld s f n).trc = s.trc ∧
      (State.maxFld s f n).nrg = s.nrg ∧ (State.maxFld s f n).hsb = s.hsb ∧ (State.maxFld s f n).field = s.field ∧
      (State.maxFld s f n).can = s.can ∧ (State.maxFld s f n).saf = s.saf ∧ (State.maxFld s f n).jrn = s.jrn ∧
      (State.maxFld s f n).stations = s.stations ∧ (State.maxFld s f n).sent = s.sent := by
  unfold State.maxFld
  split <;> simp

@[simp] theorem State.at_rest (s : State) (t : Nat) :
    (State.at s t).pending = s.pending ∧ (State.at s t).draws = s.draws ∧ (State.at s t).rdata = s.rdata ∧
      (State.at s t).regs = s.regs ∧ (State.at s t).mem = s.mem ∧ (State.at s t).units = s.units ∧
      (State.at s t).objs = s.objs ∧ (State.at s t).prog = s.prog ∧ (State.at s t).img = s.img ∧ (State.at s t).tsk = s.tsk ∧
      (State.at s t).gz = s.gz ∧ (State.at s t).evc = s.evc ∧ (State.at s t).nv = s.nv ∧ (State.at s t).rtc = s.rtc ∧
      (State.at s t).wdg = s.wdg ∧ (State.at s t).frz = s.frz ∧ (State.at s t).rcd = s.rcd ∧ (State.at s t).boot = s.boot ∧
      (State.at s t).phr = s.phr ∧ (State.at s t).lpe = s.lpe ∧ (State.at s t).trc = s.trc ∧ (State.at s t).nrg = s.nrg ∧
      (State.at s t).hsb = s.hsb ∧ (State.at s t).field = s.field ∧ (State.at s t).can = s.can ∧ (State.at s t).saf = s.saf ∧
      (State.at s t).jrn = s.jrn ∧ (State.at s t).stations = s.stations ∧ (State.at s t).sent = s.sent := by
  unfold State.at
  exact ⟨rfl, rfl, rfl, rfl, rfl, rfl, rfl, rfl, rfl, rfl, rfl, rfl, rfl, rfl, rfl, rfl, rfl, rfl, rfl, rfl, rfl, rfl, rfl, rfl, rfl, rfl, rfl, rfl, rfl⟩

@[simp] theorem State.setUnit_rest (s : State) (k : Nat) (u : UnitSt) :
    (State.setUnit s k u).now = s.now ∧ (State.setUnit s k u).pending = s.pending ∧ (State.setUnit s k u).draws = s.draws ∧
      (State.setUnit s k u).rdata = s.rdata ∧ (State.setUnit s k u).regs = s.regs ∧ (State.setUnit s k u).mem = s.mem ∧
      (State.setUnit s k u).objs = s.objs ∧ (State.setUnit s k u).prog = s.prog ∧ (State.setUnit s k u).img = s.img ∧
      (State.setUnit s k u).tsk = s.tsk ∧ (State.setUnit s k u).gz = s.gz ∧ (State.setUnit s k u).evc = s.evc ∧
      (State.setUnit s k u).nv = s.nv ∧ (State.setUnit s k u).rtc = s.rtc ∧ (State.setUnit s k u).wdg = s.wdg ∧
      (State.setUnit s k u).frz = s.frz ∧ (State.setUnit s k u).rcd = s.rcd ∧ (State.setUnit s k u).boot = s.boot ∧
      (State.setUnit s k u).phr = s.phr ∧ (State.setUnit s k u).lpe = s.lpe ∧ (State.setUnit s k u).trc = s.trc ∧
      (State.setUnit s k u).nrg = s.nrg ∧ (State.setUnit s k u).hsb = s.hsb ∧ (State.setUnit s k u).field = s.field ∧
      (State.setUnit s k u).can = s.can ∧ (State.setUnit s k u).saf = s.saf ∧ (State.setUnit s k u).jrn = s.jrn ∧
      (State.setUnit s k u).stations = s.stations ∧ (State.setUnit s k u).sent = s.sent := by
  unfold State.setUnit
  exact ⟨rfl, rfl, rfl, rfl, rfl, rfl, rfl, rfl, rfl, rfl, rfl, rfl, rfl, rfl, rfl, rfl, rfl, rfl, rfl, rfl, rfl, rfl, rfl, rfl, rfl, rfl, rfl, rfl, rfl⟩

@[simp] theorem State.modUnit_rest (s : State) (k : Nat) (f : UnitSt → UnitSt) :
    (State.modUnit s k f).now = s.now ∧ (State.modUnit s k f).pending = s.pending ∧ (State.modUnit s k f).draws = s.draws ∧
      (State.modUnit s k f).rdata = s.rdata ∧ (State.modUnit s k f).regs = s.regs ∧ (State.modUnit s k f).mem = s.mem ∧
      (State.modUnit s k f).objs = s.objs ∧ (State.modUnit s k f).prog = s.prog ∧ (State.modUnit s k f).img = s.img ∧
      (State.modUnit s k f).tsk = s.tsk ∧ (State.modUnit s k f).gz = s.gz ∧ (State.modUnit s k f).evc = s.evc ∧
      (State.modUnit s k f).nv = s.nv ∧ (State.modUnit s k f).rtc = s.rtc ∧ (State.modUnit s k f).wdg = s.wdg ∧
      (State.modUnit s k f).frz = s.frz ∧ (State.modUnit s k f).rcd = s.rcd ∧ (State.modUnit s k f).boot = s.boot ∧
      (State.modUnit s k f).phr = s.phr ∧ (State.modUnit s k f).lpe = s.lpe ∧ (State.modUnit s k f).trc = s.trc ∧
      (State.modUnit s k f).nrg = s.nrg ∧ (State.modUnit s k f).hsb = s.hsb ∧ (State.modUnit s k f).field = s.field ∧
      (State.modUnit s k f).can = s.can ∧ (State.modUnit s k f).saf = s.saf ∧ (State.modUnit s k f).jrn = s.jrn ∧
      (State.modUnit s k f).stations = s.stations ∧ (State.modUnit s k f).sent = s.sent := by
  unfold State.modUnit
  simp

@[simp] theorem State.setTask_rest (s : State) (k : Nat) (t : TaskSt) :
    (State.setTask s k t).now = s.now ∧ (State.setTask s k t).pending = s.pending ∧ (State.setTask s k t).draws = s.draws ∧
      (State.setTask s k t).rdata = s.rdata ∧ (State.setTask s k t).regs = s.regs ∧ (State.setTask s k t).mem = s.mem ∧
      (State.setTask s k t).units = s.units ∧ (State.setTask s k t).objs = s.objs ∧ (State.setTask s k t).prog = s.prog ∧
      (State.setTask s k t).img = s.img ∧ (State.setTask s k t).gz = s.gz ∧ (State.setTask s k t).evc = s.evc ∧
      (State.setTask s k t).nv = s.nv ∧ (State.setTask s k t).rtc = s.rtc ∧ (State.setTask s k t).wdg = s.wdg ∧
      (State.setTask s k t).frz = s.frz ∧ (State.setTask s k t).rcd = s.rcd ∧ (State.setTask s k t).boot = s.boot ∧
      (State.setTask s k t).phr = s.phr ∧ (State.setTask s k t).lpe = s.lpe ∧ (State.setTask s k t).trc = s.trc ∧
      (State.setTask s k t).nrg = s.nrg ∧ (State.setTask s k t).hsb = s.hsb ∧ (State.setTask s k t).field = s.field ∧
      (State.setTask s k t).can = s.can ∧ (State.setTask s k t).saf = s.saf ∧ (State.setTask s k t).jrn = s.jrn ∧
      (State.setTask s k t).stations = s.stations ∧ (State.setTask s k t).sent = s.sent := by
  unfold State.setTask
  exact ⟨rfl, rfl, rfl, rfl, rfl, rfl, rfl, rfl, rfl, rfl, rfl, rfl, rfl, rfl, rfl, rfl, rfl, rfl, rfl, rfl, rfl, rfl, rfl, rfl, rfl, rfl, rfl, rfl, rfl⟩

@[simp] theorem State.modTask_rest (s : State) (k : Nat) (f : TaskSt → TaskSt) :
    (State.modTask s k f).now = s.now ∧ (State.modTask s k f).pending = s.pending ∧ (State.modTask s k f).draws = s.draws ∧
      (State.modTask s k f).rdata = s.rdata ∧ (State.modTask s k f).regs = s.regs ∧ (State.modTask s k f).mem = s.mem ∧
      (State.modTask s k f).units = s.units ∧ (State.modTask s k f).objs = s.objs ∧ (State.modTask s k f).prog = s.prog ∧
      (State.modTask s k f).img = s.img ∧ (State.modTask s k f).gz = s.gz ∧ (State.modTask s k f).evc = s.evc ∧
      (State.modTask s k f).nv = s.nv ∧ (State.modTask s k f).rtc = s.rtc ∧ (State.modTask s k f).wdg = s.wdg ∧
      (State.modTask s k f).frz = s.frz ∧ (State.modTask s k f).rcd = s.rcd ∧ (State.modTask s k f).boot = s.boot ∧
      (State.modTask s k f).phr = s.phr ∧ (State.modTask s k f).lpe = s.lpe ∧ (State.modTask s k f).trc = s.trc ∧
      (State.modTask s k f).nrg = s.nrg ∧ (State.modTask s k f).hsb = s.hsb ∧ (State.modTask s k f).field = s.field ∧
      (State.modTask s k f).can = s.can ∧ (State.modTask s k f).saf = s.saf ∧ (State.modTask s k f).jrn = s.jrn ∧
      (State.modTask s k f).stations = s.stations ∧ (State.modTask s k f).sent = s.sent := by
  unfold State.modTask
  simp

@[simp] theorem State.setObj_rest (s : State) (index : Nat) (sub : Nat) (v : List Byte) :
    (State.setObj s index sub v).now = s.now ∧ (State.setObj s index sub v).pending = s.pending ∧
      (State.setObj s index sub v).draws = s.draws ∧ (State.setObj s index sub v).rdata = s.rdata ∧
      (State.setObj s index sub v).regs = s.regs ∧ (State.setObj s index sub v).mem = s.mem ∧
      (State.setObj s index sub v).units = s.units ∧ (State.setObj s index sub v).prog = s.prog ∧
      (State.setObj s index sub v).img = s.img ∧ (State.setObj s index sub v).tsk = s.tsk ∧
      (State.setObj s index sub v).gz = s.gz ∧ (State.setObj s index sub v).evc = s.evc ∧
      (State.setObj s index sub v).nv = s.nv ∧ (State.setObj s index sub v).rtc = s.rtc ∧
      (State.setObj s index sub v).wdg = s.wdg ∧ (State.setObj s index sub v).frz = s.frz ∧
      (State.setObj s index sub v).rcd = s.rcd ∧ (State.setObj s index sub v).boot = s.boot ∧
      (State.setObj s index sub v).phr = s.phr ∧ (State.setObj s index sub v).lpe = s.lpe ∧
      (State.setObj s index sub v).trc = s.trc ∧ (State.setObj s index sub v).nrg = s.nrg ∧
      (State.setObj s index sub v).hsb = s.hsb ∧ (State.setObj s index sub v).field = s.field ∧
      (State.setObj s index sub v).can = s.can ∧ (State.setObj s index sub v).saf = s.saf ∧
      (State.setObj s index sub v).jrn = s.jrn ∧ (State.setObj s index sub v).stations = s.stations ∧
      (State.setObj s index sub v).sent = s.sent := by
  unfold State.setObj
  exact ⟨rfl, rfl, rfl, rfl, rfl, rfl, rfl, rfl, rfl, rfl, rfl, rfl, rfl, rfl, rfl, rfl, rfl, rfl, rfl, rfl, rfl, rfl, rfl, rfl, rfl, rfl, rfl, rfl, rfl⟩

@[simp] theorem State.send_rest (s : State) (m : Sent) :
    (State.send s m).now = s.now ∧ (State.send s m).pending = s.pending ∧ (State.send s m).draws = s.draws ∧
      (State.send s m).rdata = s.rdata ∧ (State.send s m).regs = s.regs ∧ (State.send s m).mem = s.mem ∧
      (State.send s m).units = s.units ∧ (State.send s m).objs = s.objs ∧ (State.send s m).prog = s.prog ∧
      (State.send s m).img = s.img ∧ (State.send s m).tsk = s.tsk ∧ (State.send s m).gz = s.gz ∧
      (State.send s m).evc = s.evc ∧ (State.send s m).nv = s.nv ∧ (State.send s m).rtc = s.rtc ∧
      (State.send s m).wdg = s.wdg ∧ (State.send s m).frz = s.frz ∧ (State.send s m).rcd = s.rcd ∧
      (State.send s m).boot = s.boot ∧ (State.send s m).phr = s.phr ∧ (State.send s m).lpe = s.lpe ∧
      (State.send s m).trc = s.trc ∧ (State.send s m).nrg = s.nrg ∧ (State.send s m).hsb = s.hsb ∧
      (State.send s m).field = s.field ∧ (State.send s m).can = s.can ∧ (State.send s m).saf = s.saf ∧
      (State.send s m).jrn = s.jrn ∧ (State.send s m).stations = s.stations := by
  unfold State.send
  exact ⟨rfl, rfl, rfl, rfl, rfl, rfl, rfl, rfl, rfl, rfl, rfl, rfl, rfl, rfl, rfl, rfl, rfl, rfl, rfl, rfl, rfl, rfl, rfl, rfl, rfl, rfl, rfl, rfl, rfl⟩

@[simp] theorem State.countMerge_rest (s : State) (n : Nat) :
    (State.countMerge s n).now = s.now ∧ (State.countMerge s n).pending = s.pending ∧
      (State.countMerge s n).draws = s.draws ∧ (State.countMerge s n).rdata = s.rdata ∧ (State.countMerge s n).mem = s.mem ∧
      (State.countMerge s n).units = s.units ∧ (State.countMerge s n).objs = s.objs ∧ (State.countMerge s n).prog = s.prog ∧
      (State.countMerge s n).img = s.img ∧ (State.countMerge s n).tsk = s.tsk ∧ (State.countMerge s n).gz = s.gz ∧
      (State.countMerge s n).evc = s.evc ∧ (State.countMerge s n).nv = s.nv ∧ (State.countMerge s n).rtc = s.rtc ∧
      (State.countMerge s n).wdg = s.wdg ∧ (State.countMerge s n).frz = s.frz ∧ (State.countMerge s n).rcd = s.rcd ∧
      (State.countMerge s n).boot = s.boot ∧ (State.countMerge s n).phr = s.phr ∧ (State.countMerge s n).lpe = s.lpe ∧
      (State.countMerge s n).trc = s.trc ∧ (State.countMerge s n).nrg = s.nrg ∧ (State.countMerge s n).hsb = s.hsb ∧
      (State.countMerge s n).field = s.field ∧ (State.countMerge s n).can = s.can ∧ (State.countMerge s n).saf = s.saf ∧
      (State.countMerge s n).jrn = s.jrn ∧ (State.countMerge s n).stations = s.stations ∧
      (State.countMerge s n).sent = s.sent := by
  unfold State.countMerge
  simp

@[simp] theorem State.latch_rest (s : State) (n : Nat) (dest : Nat) :
    (State.latch s n dest).now = s.now ∧ (State.latch s n dest).pending = s.pending ∧
      (State.latch s n dest).draws = s.draws ∧ (State.latch s n dest).rdata = s.rdata ∧ (State.latch s n dest).mem = s.mem ∧
      (State.latch s n dest).units = s.units ∧ (State.latch s n dest).objs = s.objs ∧ (State.latch s n dest).prog = s.prog ∧
      (State.latch s n dest).img = s.img ∧ (State.latch s n dest).tsk = s.tsk ∧ (State.latch s n dest).gz = s.gz ∧
      (State.latch s n dest).nv = s.nv ∧ (State.latch s n dest).rtc = s.rtc ∧ (State.latch s n dest).wdg = s.wdg ∧
      (State.latch s n dest).frz = s.frz ∧ (State.latch s n dest).rcd = s.rcd ∧ (State.latch s n dest).boot = s.boot ∧
      (State.latch s n dest).phr = s.phr ∧ (State.latch s n dest).lpe = s.lpe ∧ (State.latch s n dest).trc = s.trc ∧
      (State.latch s n dest).nrg = s.nrg ∧ (State.latch s n dest).hsb = s.hsb ∧ (State.latch s n dest).field = s.field ∧
      (State.latch s n dest).can = s.can ∧ (State.latch s n dest).saf = s.saf ∧ (State.latch s n dest).jrn = s.jrn ∧
      (State.latch s n dest).stations = s.stations ∧ (State.latch s n dest).sent = s.sent := by
  unfold State.latch
  dsimp only
  split
  · simp
  · split <;> simp

@[simp] theorem State.raise_rest (s : State) (n : Nat) :
    (State.raise s n).now = s.now ∧ (State.raise s n).pending = s.pending ∧ (State.raise s n).draws = s.draws ∧
      (State.raise s n).rdata = s.rdata ∧ (State.raise s n).mem = s.mem ∧ (State.raise s n).units = s.units ∧
      (State.raise s n).objs = s.objs ∧ (State.raise s n).prog = s.prog ∧ (State.raise s n).img = s.img ∧
      (State.raise s n).tsk = s.tsk ∧ (State.raise s n).gz = s.gz ∧ (State.raise s n).nv = s.nv ∧
      (State.raise s n).rtc = s.rtc ∧ (State.raise s n).wdg = s.wdg ∧ (State.raise s n).frz = s.frz ∧
      (State.raise s n).rcd = s.rcd ∧ (State.raise s n).boot = s.boot ∧ (State.raise s n).phr = s.phr ∧
      (State.raise s n).lpe = s.lpe ∧ (State.raise s n).trc = s.trc ∧ (State.raise s n).nrg = s.nrg ∧
      (State.raise s n).hsb = s.hsb ∧ (State.raise s n).field = s.field ∧ (State.raise s n).can = s.can ∧
      (State.raise s n).saf = s.saf ∧ (State.raise s n).jrn = s.jrn ∧ (State.raise s n).stations = s.stations ∧
      (State.raise s n).sent = s.sent := by
  unfold State.raise
  simp

@[simp] theorem State.modField_rest (s : State) (f : FieldState → FieldState) :
    (State.modField s f).now = s.now ∧ (State.modField s f).pending = s.pending ∧ (State.modField s f).draws = s.draws ∧
      (State.modField s f).rdata = s.rdata ∧ (State.modField s f).regs = s.regs ∧ (State.modField s f).mem = s.mem ∧
      (State.modField s f).units = s.units ∧ (State.modField s f).objs = s.objs ∧ (State.modField s f).prog = s.prog ∧
      (State.modField s f).img = s.img ∧ (State.modField s f).tsk = s.tsk ∧ (State.modField s f).gz = s.gz ∧
      (State.modField s f).evc = s.evc ∧ (State.modField s f).nv = s.nv ∧ (State.modField s f).rtc = s.rtc ∧
      (State.modField s f).wdg = s.wdg ∧ (State.modField s f).frz = s.frz ∧ (State.modField s f).rcd = s.rcd ∧
      (State.modField s f).boot = s.boot ∧ (State.modField s f).phr = s.phr ∧ (State.modField s f).lpe = s.lpe ∧
      (State.modField s f).trc = s.trc ∧ (State.modField s f).nrg = s.nrg ∧ (State.modField s f).hsb = s.hsb ∧
      (State.modField s f).can = s.can ∧ (State.modField s f).saf = s.saf ∧ (State.modField s f).jrn = s.jrn ∧
      (State.modField s f).stations = s.stations ∧ (State.modField s f).sent = s.sent := by
  unfold State.modField
  exact ⟨rfl, rfl, rfl, rfl, rfl, rfl, rfl, rfl, rfl, rfl, rfl, rfl, rfl, rfl, rfl, rfl, rfl, rfl, rfl, rfl, rfl, rfl, rfl, rfl, rfl, rfl, rfl, rfl, rfl⟩

@[simp] theorem State.modField_part (s : State) (f : FieldState → FieldState) : (State.modField s f).field = f s.field := by
  unfold State.modField
  rfl

@[simp] theorem fieldCmd_rest (s : State) (c : FieldCmd) :
    (fieldCmd s c).now = s.now ∧ (fieldCmd s c).pending = s.pending ∧ (fieldCmd s c).draws = s.draws ∧
      (fieldCmd s c).rdata = s.rdata ∧ (fieldCmd s c).regs = s.regs ∧ (fieldCmd s c).mem = s.mem ∧
      (fieldCmd s c).units = s.units ∧ (fieldCmd s c).objs = s.objs ∧ (fieldCmd s c).prog = s.prog ∧
      (fieldCmd s c).img = s.img ∧ (fieldCmd s c).tsk = s.tsk ∧ (fieldCmd s c).gz = s.gz ∧ (fieldCmd s c).evc = s.evc ∧
      (fieldCmd s c).nv = s.nv ∧ (fieldCmd s c).rtc = s.rtc ∧ (fieldCmd s c).wdg = s.wdg ∧ (fieldCmd s c).frz = s.frz ∧
      (fieldCmd s c).rcd = s.rcd ∧ (fieldCmd s c).boot = s.boot ∧ (fieldCmd s c).phr = s.phr ∧ (fieldCmd s c).lpe = s.lpe ∧
      (fieldCmd s c).trc = s.trc ∧ (fieldCmd s c).nrg = s.nrg ∧ (fieldCmd s c).hsb = s.hsb ∧ (fieldCmd s c).can = s.can ∧
      (fieldCmd s c).saf = s.saf ∧ (fieldCmd s c).jrn = s.jrn ∧ (fieldCmd s c).stations = s.stations ∧
      (fieldCmd s c).sent = s.sent := by
  unfold fieldCmd
  simp

@[simp] theorem State.ctrUp_rest (s : State) (k : Nat) :
    (State.ctrUp s k).now = s.now ∧ (State.ctrUp s k).pending = s.pending ∧ (State.ctrUp s k).draws = s.draws ∧
      (State.ctrUp s k).rdata = s.rdata ∧ (State.ctrUp s k).regs = s.regs ∧ (State.ctrUp s k).mem = s.mem ∧
      (State.ctrUp s k).units = s.units ∧ (State.ctrUp s k).objs = s.objs ∧ (State.ctrUp s k).prog = s.prog ∧
      (State.ctrUp s k).img = s.img ∧ (State.ctrUp s k).tsk = s.tsk ∧ (State.ctrUp s k).gz = s.gz ∧
      (State.ctrUp s k).evc = s.evc ∧ (State.ctrUp s k).rtc = s.rtc ∧ (State.ctrUp s k).wdg = s.wdg ∧
      (State.ctrUp s k).frz = s.frz ∧ (State.ctrUp s k).rcd = s.rcd ∧ (State.ctrUp s k).boot = s.boot ∧
      (State.ctrUp s k).phr = s.phr ∧ (State.ctrUp s k).lpe = s.lpe ∧ (State.ctrUp s k).trc = s.trc ∧
      (State.ctrUp s k).nrg = s.nrg ∧ (State.ctrUp s k).hsb = s.hsb ∧ (State.ctrUp s k).field = s.field ∧
      (State.ctrUp s k).can = s.can ∧ (State.ctrUp s k).saf = s.saf ∧ (State.ctrUp s k).jrn = s.jrn ∧
      (State.ctrUp s k).stations = s.stations ∧ (State.ctrUp s k).sent = s.sent := by
  unfold State.ctrUp
  split <;> simp

@[simp] theorem State.modTsk_rest (s : State) (f : TskState → TskState) :
    (State.modTsk s f).now = s.now ∧ (State.modTsk s f).pending = s.pending ∧ (State.modTsk s f).draws = s.draws ∧
      (State.modTsk s f).rdata = s.rdata ∧ (State.modTsk s f).regs = s.regs ∧ (State.modTsk s f).mem = s.mem ∧
      (State.modTsk s f).units = s.units ∧ (State.modTsk s f).objs = s.objs ∧ (State.modTsk s f).prog = s.prog ∧
      (State.modTsk s f).img = s.img ∧ (State.modTsk s f).gz = s.gz ∧ (State.modTsk s f).evc = s.evc ∧
      (State.modTsk s f).nv = s.nv ∧ (State.modTsk s f).rtc = s.rtc ∧ (State.modTsk s f).wdg = s.wdg ∧
      (State.modTsk s f).frz = s.frz ∧ (State.modTsk s f).rcd = s.rcd ∧ (State.modTsk s f).boot = s.boot ∧
      (State.modTsk s f).phr = s.phr ∧ (State.modTsk s f).lpe = s.lpe ∧ (State.modTsk s f).trc = s.trc ∧
      (State.modTsk s f).nrg = s.nrg ∧ (State.modTsk s f).hsb = s.hsb ∧ (State.modTsk s f).field = s.field ∧
      (State.modTsk s f).can = s.can ∧ (State.modTsk s f).saf = s.saf ∧ (State.modTsk s f).jrn = s.jrn ∧
      (State.modTsk s f).stations = s.stations ∧ (State.modTsk s f).sent = s.sent := by
  unfold State.modTsk
  exact ⟨rfl, rfl, rfl, rfl, rfl, rfl, rfl, rfl, rfl, rfl, rfl, rfl, rfl, rfl, rfl, rfl, rfl, rfl, rfl, rfl, rfl, rfl, rfl, rfl, rfl, rfl, rfl, rfl, rfl⟩

@[simp] theorem State.modTsk_part (s : State) (f : TskState → TskState) : (State.modTsk s f).tsk = f s.tsk := by
  unfold State.modTsk
  rfl

@[simp] theorem State.modJrn_rest (s : State) (f : JrnState → JrnState) :
    (State.modJrn s f).now = s.now ∧ (State.modJrn s f).pending = s.pending ∧ (State.modJrn s f).draws = s.draws ∧
      (State.modJrn s f).rdata = s.rdata ∧ (State.modJrn s f).regs = s.regs ∧ (State.modJrn s f).mem = s.mem ∧
      (State.modJrn s f).units = s.units ∧ (State.modJrn s f).objs = s.objs ∧ (State.modJrn s f).prog = s.prog ∧
      (State.modJrn s f).img = s.img ∧ (State.modJrn s f).tsk = s.tsk ∧ (State.modJrn s f).gz = s.gz ∧
      (State.modJrn s f).evc = s.evc ∧ (State.modJrn s f).nv = s.nv ∧ (State.modJrn s f).rtc = s.rtc ∧
      (State.modJrn s f).wdg = s.wdg ∧ (State.modJrn s f).frz = s.frz ∧ (State.modJrn s f).rcd = s.rcd ∧
      (State.modJrn s f).boot = s.boot ∧ (State.modJrn s f).phr = s.phr ∧ (State.modJrn s f).lpe = s.lpe ∧
      (State.modJrn s f).trc = s.trc ∧ (State.modJrn s f).nrg = s.nrg ∧ (State.modJrn s f).hsb = s.hsb ∧
      (State.modJrn s f).field = s.field ∧ (State.modJrn s f).can = s.can ∧ (State.modJrn s f).saf = s.saf ∧
      (State.modJrn s f).stations = s.stations ∧ (State.modJrn s f).sent = s.sent := by
  unfold State.modJrn
  exact ⟨rfl, rfl, rfl, rfl, rfl, rfl, rfl, rfl, rfl, rfl, rfl, rfl, rfl, rfl, rfl, rfl, rfl, rfl, rfl, rfl, rfl, rfl, rfl, rfl, rfl, rfl, rfl, rfl, rfl⟩

@[simp] theorem State.modJrn_part (s : State) (f : JrnState → JrnState) : (State.modJrn s f).jrn = f s.jrn := by
  unfold State.modJrn
  rfl

@[simp] theorem State.modSaf_rest (s : State) (f : SafState → SafState) :
    (State.modSaf s f).now = s.now ∧ (State.modSaf s f).pending = s.pending ∧ (State.modSaf s f).draws = s.draws ∧
      (State.modSaf s f).rdata = s.rdata ∧ (State.modSaf s f).regs = s.regs ∧ (State.modSaf s f).mem = s.mem ∧
      (State.modSaf s f).units = s.units ∧ (State.modSaf s f).objs = s.objs ∧ (State.modSaf s f).prog = s.prog ∧
      (State.modSaf s f).img = s.img ∧ (State.modSaf s f).tsk = s.tsk ∧ (State.modSaf s f).gz = s.gz ∧
      (State.modSaf s f).evc = s.evc ∧ (State.modSaf s f).nv = s.nv ∧ (State.modSaf s f).rtc = s.rtc ∧
      (State.modSaf s f).wdg = s.wdg ∧ (State.modSaf s f).frz = s.frz ∧ (State.modSaf s f).rcd = s.rcd ∧
      (State.modSaf s f).boot = s.boot ∧ (State.modSaf s f).phr = s.phr ∧ (State.modSaf s f).lpe = s.lpe ∧
      (State.modSaf s f).trc = s.trc ∧ (State.modSaf s f).nrg = s.nrg ∧ (State.modSaf s f).hsb = s.hsb ∧
      (State.modSaf s f).field = s.field ∧ (State.modSaf s f).can = s.can ∧ (State.modSaf s f).jrn = s.jrn ∧
      (State.modSaf s f).stations = s.stations ∧ (State.modSaf s f).sent = s.sent := by
  unfold State.modSaf
  exact ⟨rfl, rfl, rfl, rfl, rfl, rfl, rfl, rfl, rfl, rfl, rfl, rfl, rfl, rfl, rfl, rfl, rfl, rfl, rfl, rfl, rfl, rfl, rfl, rfl, rfl, rfl, rfl, rfl, rfl⟩

@[simp] theorem State.modSaf_part (s : State) (f : SafState → SafState) : (State.modSaf s f).saf = f s.saf := by
  unfold State.modSaf
  rfl

@[simp] theorem State.modHsb_rest (s : State) (f : HsbState → HsbState) :
    (State.modHsb s f).now = s.now ∧ (State.modHsb s f).pending = s.pending ∧ (State.modHsb s f).draws = s.draws ∧
      (State.modHsb s f).rdata = s.rdata ∧ (State.modHsb s f).regs = s.regs ∧ (State.modHsb s f).mem = s.mem ∧
      (State.modHsb s f).units = s.units ∧ (State.modHsb s f).objs = s.objs ∧ (State.modHsb s f).prog = s.prog ∧
      (State.modHsb s f).img = s.img ∧ (State.modHsb s f).tsk = s.tsk ∧ (State.modHsb s f).gz = s.gz ∧
      (State.modHsb s f).evc = s.evc ∧ (State.modHsb s f).nv = s.nv ∧ (State.modHsb s f).rtc = s.rtc ∧
      (State.modHsb s f).wdg = s.wdg ∧ (State.modHsb s f).frz = s.frz ∧ (State.modHsb s f).rcd = s.rcd ∧
      (State.modHsb s f).boot = s.boot ∧ (State.modHsb s f).phr = s.phr ∧ (State.modHsb s f).lpe = s.lpe ∧
      (State.modHsb s f).trc = s.trc ∧ (State.modHsb s f).nrg = s.nrg ∧ (State.modHsb s f).field = s.field ∧
      (State.modHsb s f).can = s.can ∧ (State.modHsb s f).saf = s.saf ∧ (State.modHsb s f).jrn = s.jrn ∧
      (State.modHsb s f).stations = s.stations ∧ (State.modHsb s f).sent = s.sent := by
  unfold State.modHsb
  exact ⟨rfl, rfl, rfl, rfl, rfl, rfl, rfl, rfl, rfl, rfl, rfl, rfl, rfl, rfl, rfl, rfl, rfl, rfl, rfl, rfl, rfl, rfl, rfl, rfl, rfl, rfl, rfl, rfl, rfl⟩

@[simp] theorem State.modHsb_part (s : State) (f : HsbState → HsbState) : (State.modHsb s f).hsb = f s.hsb := by
  unfold State.modHsb
  rfl

@[simp] theorem State.modGz_rest (s : State) (f : Gauze → Gauze) :
    (State.modGz s f).now = s.now ∧ (State.modGz s f).pending = s.pending ∧ (State.modGz s f).draws = s.draws ∧
      (State.modGz s f).rdata = s.rdata ∧ (State.modGz s f).regs = s.regs ∧ (State.modGz s f).mem = s.mem ∧
      (State.modGz s f).units = s.units ∧ (State.modGz s f).objs = s.objs ∧ (State.modGz s f).prog = s.prog ∧
      (State.modGz s f).img = s.img ∧ (State.modGz s f).tsk = s.tsk ∧ (State.modGz s f).evc = s.evc ∧
      (State.modGz s f).nv = s.nv ∧ (State.modGz s f).rtc = s.rtc ∧ (State.modGz s f).wdg = s.wdg ∧
      (State.modGz s f).frz = s.frz ∧ (State.modGz s f).rcd = s.rcd ∧ (State.modGz s f).boot = s.boot ∧
      (State.modGz s f).phr = s.phr ∧ (State.modGz s f).lpe = s.lpe ∧ (State.modGz s f).trc = s.trc ∧
      (State.modGz s f).nrg = s.nrg ∧ (State.modGz s f).hsb = s.hsb ∧ (State.modGz s f).field = s.field ∧
      (State.modGz s f).can = s.can ∧ (State.modGz s f).saf = s.saf ∧ (State.modGz s f).jrn = s.jrn ∧
      (State.modGz s f).stations = s.stations ∧ (State.modGz s f).sent = s.sent := by
  unfold State.modGz
  exact ⟨rfl, rfl, rfl, rfl, rfl, rfl, rfl, rfl, rfl, rfl, rfl, rfl, rfl, rfl, rfl, rfl, rfl, rfl, rfl, rfl, rfl, rfl, rfl, rfl, rfl, rfl, rfl, rfl, rfl⟩

@[simp] theorem State.modGz_part (s : State) (f : Gauze → Gauze) : (State.modGz s f).gz = f s.gz := by
  unfold State.modGz
  rfl

@[simp] theorem State.modRtc_rest (s : State) (f : RtcState → RtcState) :
    (State.modRtc s f).now = s.now ∧ (State.modRtc s f).pending = s.pending ∧ (State.modRtc s f).draws = s.draws ∧
      (State.modRtc s f).rdata = s.rdata ∧ (State.modRtc s f).regs = s.regs ∧ (State.modRtc s f).mem = s.mem ∧
      (State.modRtc s f).units = s.units ∧ (State.modRtc s f).objs = s.objs ∧ (State.modRtc s f).prog = s.prog ∧
      (State.modRtc s f).img = s.img ∧ (State.modRtc s f).tsk = s.tsk ∧ (State.modRtc s f).gz = s.gz ∧
      (State.modRtc s f).evc = s.evc ∧ (State.modRtc s f).nv = s.nv ∧ (State.modRtc s f).wdg = s.wdg ∧
      (State.modRtc s f).frz = s.frz ∧ (State.modRtc s f).rcd = s.rcd ∧ (State.modRtc s f).boot = s.boot ∧
      (State.modRtc s f).phr = s.phr ∧ (State.modRtc s f).lpe = s.lpe ∧ (State.modRtc s f).trc = s.trc ∧
      (State.modRtc s f).nrg = s.nrg ∧ (State.modRtc s f).hsb = s.hsb ∧ (State.modRtc s f).field = s.field ∧
      (State.modRtc s f).can = s.can ∧ (State.modRtc s f).saf = s.saf ∧ (State.modRtc s f).jrn = s.jrn ∧
      (State.modRtc s f).stations = s.stations ∧ (State.modRtc s f).sent = s.sent := by
  unfold State.modRtc
  exact ⟨rfl, rfl, rfl, rfl, rfl, rfl, rfl, rfl, rfl, rfl, rfl, rfl, rfl, rfl, rfl, rfl, rfl, rfl, rfl, rfl, rfl, rfl, rfl, rfl, rfl, rfl, rfl, rfl, rfl⟩

@[simp] theorem State.modRtc_part (s : State) (f : RtcState → RtcState) : (State.modRtc s f).rtc = f s.rtc := by
  unfold State.modRtc
  rfl

@[simp] theorem State.modNrg_rest (s : State) (f : NrgState → NrgState) :
    (State.modNrg s f).now = s.now ∧ (State.modNrg s f).pending = s.pending ∧ (State.modNrg s f).draws = s.draws ∧
      (State.modNrg s f).rdata = s.rdata ∧ (State.modNrg s f).regs = s.regs ∧ (State.modNrg s f).mem = s.mem ∧
      (State.modNrg s f).units = s.units ∧ (State.modNrg s f).objs = s.objs ∧ (State.modNrg s f).prog = s.prog ∧
      (State.modNrg s f).img = s.img ∧ (State.modNrg s f).tsk = s.tsk ∧ (State.modNrg s f).gz = s.gz ∧
      (State.modNrg s f).evc = s.evc ∧ (State.modNrg s f).nv = s.nv ∧ (State.modNrg s f).rtc = s.rtc ∧
      (State.modNrg s f).wdg = s.wdg ∧ (State.modNrg s f).frz = s.frz ∧ (State.modNrg s f).rcd = s.rcd ∧
      (State.modNrg s f).boot = s.boot ∧ (State.modNrg s f).phr = s.phr ∧ (State.modNrg s f).lpe = s.lpe ∧
      (State.modNrg s f).trc = s.trc ∧ (State.modNrg s f).hsb = s.hsb ∧ (State.modNrg s f).field = s.field ∧
      (State.modNrg s f).can = s.can ∧ (State.modNrg s f).saf = s.saf ∧ (State.modNrg s f).jrn = s.jrn ∧
      (State.modNrg s f).stations = s.stations ∧ (State.modNrg s f).sent = s.sent := by
  unfold State.modNrg
  exact ⟨rfl, rfl, rfl, rfl, rfl, rfl, rfl, rfl, rfl, rfl, rfl, rfl, rfl, rfl, rfl, rfl, rfl, rfl, rfl, rfl, rfl, rfl, rfl, rfl, rfl, rfl, rfl, rfl, rfl⟩

@[simp] theorem State.modNrg_part (s : State) (f : NrgState → NrgState) : (State.modNrg s f).nrg = f s.nrg := by
  unfold State.modNrg
  rfl

@[simp] theorem State.modFrz_rest (s : State) (f : FrzState → FrzState) :
    (State.modFrz s f).now = s.now ∧ (State.modFrz s f).pending = s.pending ∧ (State.modFrz s f).draws = s.draws ∧
      (State.modFrz s f).rdata = s.rdata ∧ (State.modFrz s f).regs = s.regs ∧ (State.modFrz s f).mem = s.mem ∧
      (State.modFrz s f).units = s.units ∧ (State.modFrz s f).objs = s.objs ∧ (State.modFrz s f).prog = s.prog ∧
      (State.modFrz s f).img = s.img ∧ (State.modFrz s f).tsk = s.tsk ∧ (State.modFrz s f).gz = s.gz ∧
      (State.modFrz s f).evc = s.evc ∧ (State.modFrz s f).nv = s.nv ∧ (State.modFrz s f).rtc = s.rtc ∧
      (State.modFrz s f).wdg = s.wdg ∧ (State.modFrz s f).rcd = s.rcd ∧ (State.modFrz s f).boot = s.boot ∧
      (State.modFrz s f).phr = s.phr ∧ (State.modFrz s f).lpe = s.lpe ∧ (State.modFrz s f).trc = s.trc ∧
      (State.modFrz s f).nrg = s.nrg ∧ (State.modFrz s f).hsb = s.hsb ∧ (State.modFrz s f).field = s.field ∧
      (State.modFrz s f).can = s.can ∧ (State.modFrz s f).saf = s.saf ∧ (State.modFrz s f).jrn = s.jrn ∧
      (State.modFrz s f).stations = s.stations ∧ (State.modFrz s f).sent = s.sent := by
  unfold State.modFrz
  exact ⟨rfl, rfl, rfl, rfl, rfl, rfl, rfl, rfl, rfl, rfl, rfl, rfl, rfl, rfl, rfl, rfl, rfl, rfl, rfl, rfl, rfl, rfl, rfl, rfl, rfl, rfl, rfl, rfl, rfl⟩

@[simp] theorem State.modFrz_part (s : State) (f : FrzState → FrzState) : (State.modFrz s f).frz = f s.frz := by
  unfold State.modFrz
  rfl

@[simp] theorem State.modWdg_rest (s : State) (f : WdgState → WdgState) :
    (State.modWdg s f).now = s.now ∧ (State.modWdg s f).pending = s.pending ∧ (State.modWdg s f).draws = s.draws ∧
      (State.modWdg s f).rdata = s.rdata ∧ (State.modWdg s f).regs = s.regs ∧ (State.modWdg s f).mem = s.mem ∧
      (State.modWdg s f).units = s.units ∧ (State.modWdg s f).objs = s.objs ∧ (State.modWdg s f).prog = s.prog ∧
      (State.modWdg s f).img = s.img ∧ (State.modWdg s f).tsk = s.tsk ∧ (State.modWdg s f).gz = s.gz ∧
      (State.modWdg s f).evc = s.evc ∧ (State.modWdg s f).nv = s.nv ∧ (State.modWdg s f).rtc = s.rtc ∧
      (State.modWdg s f).frz = s.frz ∧ (State.modWdg s f).rcd = s.rcd ∧ (State.modWdg s f).boot = s.boot ∧
      (State.modWdg s f).phr = s.phr ∧ (State.modWdg s f).lpe = s.lpe ∧ (State.modWdg s f).trc = s.trc ∧
      (State.modWdg s f).nrg = s.nrg ∧ (State.modWdg s f).hsb = s.hsb ∧ (State.modWdg s f).field = s.field ∧
      (State.modWdg s f).can = s.can ∧ (State.modWdg s f).saf = s.saf ∧ (State.modWdg s f).jrn = s.jrn ∧
      (State.modWdg s f).stations = s.stations ∧ (State.modWdg s f).sent = s.sent := by
  unfold State.modWdg
  exact ⟨rfl, rfl, rfl, rfl, rfl, rfl, rfl, rfl, rfl, rfl, rfl, rfl, rfl, rfl, rfl, rfl, rfl, rfl, rfl, rfl, rfl, rfl, rfl, rfl, rfl, rfl, rfl, rfl, rfl⟩

@[simp] theorem State.modWdg_part (s : State) (f : WdgState → WdgState) : (State.modWdg s f).wdg = f s.wdg := by
  unfold State.modWdg
  rfl

@[simp] theorem State.modPhr_rest (s : State) (f : PhrState → PhrState) :
    (State.modPhr s f).now = s.now ∧ (State.modPhr s f).pending = s.pending ∧ (State.modPhr s f).draws = s.draws ∧
      (State.modPhr s f).rdata = s.rdata ∧ (State.modPhr s f).regs = s.regs ∧ (State.modPhr s f).mem = s.mem ∧
      (State.modPhr s f).units = s.units ∧ (State.modPhr s f).objs = s.objs ∧ (State.modPhr s f).prog = s.prog ∧
      (State.modPhr s f).img = s.img ∧ (State.modPhr s f).tsk = s.tsk ∧ (State.modPhr s f).gz = s.gz ∧
      (State.modPhr s f).evc = s.evc ∧ (State.modPhr s f).nv = s.nv ∧ (State.modPhr s f).rtc = s.rtc ∧
      (State.modPhr s f).wdg = s.wdg ∧ (State.modPhr s f).frz = s.frz ∧ (State.modPhr s f).rcd = s.rcd ∧
      (State.modPhr s f).boot = s.boot ∧ (State.modPhr s f).lpe = s.lpe ∧ (State.modPhr s f).trc = s.trc ∧
      (State.modPhr s f).nrg = s.nrg ∧ (State.modPhr s f).hsb = s.hsb ∧ (State.modPhr s f).field = s.field ∧
      (State.modPhr s f).can = s.can ∧ (State.modPhr s f).saf = s.saf ∧ (State.modPhr s f).jrn = s.jrn ∧
      (State.modPhr s f).stations = s.stations ∧ (State.modPhr s f).sent = s.sent := by
  unfold State.modPhr
  exact ⟨rfl, rfl, rfl, rfl, rfl, rfl, rfl, rfl, rfl, rfl, rfl, rfl, rfl, rfl, rfl, rfl, rfl, rfl, rfl, rfl, rfl, rfl, rfl, rfl, rfl, rfl, rfl, rfl, rfl⟩

@[simp] theorem State.modPhr_part (s : State) (f : PhrState → PhrState) : (State.modPhr s f).phr = f s.phr := by
  unfold State.modPhr
  rfl

@[simp] theorem State.modImg_rest (s : State) (f : Image → Image) :
    (State.modImg s f).now = s.now ∧ (State.modImg s f).pending = s.pending ∧ (State.modImg s f).draws = s.draws ∧
      (State.modImg s f).rdata = s.rdata ∧ (State.modImg s f).regs = s.regs ∧ (State.modImg s f).mem = s.mem ∧
      (State.modImg s f).units = s.units ∧ (State.modImg s f).objs = s.objs ∧ (State.modImg s f).prog = s.prog ∧
      (State.modImg s f).tsk = s.tsk ∧ (State.modImg s f).gz = s.gz ∧ (State.modImg s f).evc = s.evc ∧
      (State.modImg s f).nv = s.nv ∧ (State.modImg s f).rtc = s.rtc ∧ (State.modImg s f).wdg = s.wdg ∧
      (State.modImg s f).frz = s.frz ∧ (State.modImg s f).rcd = s.rcd ∧ (State.modImg s f).boot = s.boot ∧
      (State.modImg s f).phr = s.phr ∧ (State.modImg s f).lpe = s.lpe ∧ (State.modImg s f).trc = s.trc ∧
      (State.modImg s f).nrg = s.nrg ∧ (State.modImg s f).hsb = s.hsb ∧ (State.modImg s f).field = s.field ∧
      (State.modImg s f).can = s.can ∧ (State.modImg s f).saf = s.saf ∧ (State.modImg s f).jrn = s.jrn ∧
      (State.modImg s f).stations = s.stations ∧ (State.modImg s f).sent = s.sent := by
  unfold State.modImg
  exact ⟨rfl, rfl, rfl, rfl, rfl, rfl, rfl, rfl, rfl, rfl, rfl, rfl, rfl, rfl, rfl, rfl, rfl, rfl, rfl, rfl, rfl, rfl, rfl, rfl, rfl, rfl, rfl, rfl, rfl⟩

@[simp] theorem State.modImg_part (s : State) (f : Image → Image) : (State.modImg s f).img = f s.img := by
  unfold State.modImg
  rfl

@[simp] theorem State.modLpe_rest (s : State) (f : LpeState → LpeState) :
    (State.modLpe s f).now = s.now ∧ (State.modLpe s f).pending = s.pending ∧ (State.modLpe s f).draws = s.draws ∧
      (State.modLpe s f).rdata = s.rdata ∧ (State.modLpe s f).regs = s.regs ∧ (State.modLpe s f).mem = s.mem ∧
      (State.modLpe s f).units = s.units ∧ (State.modLpe s f).objs = s.objs ∧ (State.modLpe s f).prog = s.prog ∧
      (State.modLpe s f).img = s.img ∧ (State.modLpe s f).tsk = s.tsk ∧ (State.modLpe s f).gz = s.gz ∧
      (State.modLpe s f).evc = s.evc ∧ (State.modLpe s f).nv = s.nv ∧ (State.modLpe s f).rtc = s.rtc ∧
      (State.modLpe s f).wdg = s.wdg ∧ (State.modLpe s f).frz = s.frz ∧ (State.modLpe s f).rcd = s.rcd ∧
      (State.modLpe s f).boot = s.boot ∧ (State.modLpe s f).phr = s.phr ∧ (State.modLpe s f).trc = s.trc ∧
      (State.modLpe s f).nrg = s.nrg ∧ (State.modLpe s f).hsb = s.hsb ∧ (State.modLpe s f).field = s.field ∧
      (State.modLpe s f).can = s.can ∧ (State.modLpe s f).saf = s.saf ∧ (State.modLpe s f).jrn = s.jrn ∧
      (State.modLpe s f).stations = s.stations ∧ (State.modLpe s f).sent = s.sent := by
  unfold State.modLpe
  exact ⟨rfl, rfl, rfl, rfl, rfl, rfl, rfl, rfl, rfl, rfl, rfl, rfl, rfl, rfl, rfl, rfl, rfl, rfl, rfl, rfl, rfl, rfl, rfl, rfl, rfl, rfl, rfl, rfl, rfl⟩

@[simp] theorem State.modLpe_part (s : State) (f : LpeState → LpeState) : (State.modLpe s f).lpe = f s.lpe := by
  unfold State.modLpe
  rfl

@[simp] theorem State.modBoot_rest (s : State) (f : BootState → BootState) :
    (State.modBoot s f).now = s.now ∧ (State.modBoot s f).pending = s.pending ∧ (State.modBoot s f).draws = s.draws ∧
      (State.modBoot s f).rdata = s.rdata ∧ (State.modBoot s f).regs = s.regs ∧ (State.modBoot s f).mem = s.mem ∧
      (State.modBoot s f).units = s.units ∧ (State.modBoot s f).objs = s.objs ∧ (State.modBoot s f).prog = s.prog ∧
      (State.modBoot s f).img = s.img ∧ (State.modBoot s f).tsk = s.tsk ∧ (State.modBoot s f).gz = s.gz ∧
      (State.modBoot s f).evc = s.evc ∧ (State.modBoot s f).nv = s.nv ∧ (State.modBoot s f).rtc = s.rtc ∧
      (State.modBoot s f).wdg = s.wdg ∧ (State.modBoot s f).frz = s.frz ∧ (State.modBoot s f).rcd = s.rcd ∧
      (State.modBoot s f).phr = s.phr ∧ (State.modBoot s f).lpe = s.lpe ∧ (State.modBoot s f).trc = s.trc ∧
      (State.modBoot s f).nrg = s.nrg ∧ (State.modBoot s f).hsb = s.hsb ∧ (State.modBoot s f).field = s.field ∧
      (State.modBoot s f).can = s.can ∧ (State.modBoot s f).saf = s.saf ∧ (State.modBoot s f).jrn = s.jrn ∧
      (State.modBoot s f).stations = s.stations ∧ (State.modBoot s f).sent = s.sent := by
  unfold State.modBoot
  exact ⟨rfl, rfl, rfl, rfl, rfl, rfl, rfl, rfl, rfl, rfl, rfl, rfl, rfl, rfl, rfl, rfl, rfl, rfl, rfl, rfl, rfl, rfl, rfl, rfl, rfl, rfl, rfl, rfl, rfl⟩

@[simp] theorem State.modBoot_part (s : State) (f : BootState → BootState) : (State.modBoot s f).boot = f s.boot := by
  unfold State.modBoot
  rfl

@[simp] theorem State.setCanst_rest (s : State) (m : Nat) (c : CanSt) :
    (State.setCanst s m c).now = s.now ∧ (State.setCanst s m c).pending = s.pending ∧
      (State.setCanst s m c).draws = s.draws ∧ (State.setCanst s m c).rdata = s.rdata ∧
      (State.setCanst s m c).regs = s.regs ∧ (State.setCanst s m c).mem = s.mem ∧ (State.setCanst s m c).units = s.units ∧
      (State.setCanst s m c).objs = s.objs ∧ (State.setCanst s m c).prog = s.prog ∧ (State.setCanst s m c).img = s.img ∧
      (State.setCanst s m c).tsk = s.tsk ∧ (State.setCanst s m c).gz = s.gz ∧ (State.setCanst s m c).evc = s.evc ∧
      (State.setCanst s m c).nv = s.nv ∧ (State.setCanst s m c).rtc = s.rtc ∧ (State.setCanst s m c).wdg = s.wdg ∧
      (State.setCanst s m c).frz = s.frz ∧ (State.setCanst s m c).rcd = s.rcd ∧ (State.setCanst s m c).boot = s.boot ∧
      (State.setCanst s m c).phr = s.phr ∧ (State.setCanst s m c).lpe = s.lpe ∧ (State.setCanst s m c).trc = s.trc ∧
      (State.setCanst s m c).nrg = s.nrg ∧ (State.setCanst s m c).hsb = s.hsb ∧ (State.setCanst s m c).field = s.field ∧
      (State.setCanst s m c).saf = s.saf ∧ (State.setCanst s m c).jrn = s.jrn ∧
      (State.setCanst s m c).stations = s.stations ∧ (State.setCanst s m c).sent = s.sent := by
  unfold State.setCanst
  exact ⟨rfl, rfl, rfl, rfl, rfl, rfl, rfl, rfl, rfl, rfl, rfl, rfl, rfl, rfl, rfl, rfl, rfl, rfl, rfl, rfl, rfl, rfl, rfl, rfl, rfl, rfl, rfl, rfl, rfl⟩

@[simp] theorem State.setTrcb_rest (s : State) (b : Nat) (t : TrcSt) :
    (State.setTrcb s b t).now = s.now ∧ (State.setTrcb s b t).pending = s.pending ∧ (State.setTrcb s b t).draws = s.draws ∧
      (State.setTrcb s b t).rdata = s.rdata ∧ (State.setTrcb s b t).regs = s.regs ∧ (State.setTrcb s b t).mem = s.mem ∧
      (State.setTrcb s b t).units = s.units ∧ (State.setTrcb s b t).objs = s.objs ∧ (State.setTrcb s b t).prog = s.prog ∧
      (State.setTrcb s b t).img = s.img ∧ (State.setTrcb s b t).tsk = s.tsk ∧ (State.setTrcb s b t).gz = s.gz ∧
      (State.setTrcb s b t).evc = s.evc ∧ (State.setTrcb s b t).nv = s.nv ∧ (State.setTrcb s b t).rtc = s.rtc ∧
      (State.setTrcb s b t).wdg = s.wdg ∧ (State.setTrcb s b t).frz = s.frz ∧ (State.setTrcb s b t).rcd = s.rcd ∧
      (State.setTrcb s b t).boot = s.boot ∧ (State.setTrcb s b t).phr = s.phr ∧ (State.setTrcb s b t).lpe = s.lpe ∧
      (State.setTrcb s b t).nrg = s.nrg ∧ (State.setTrcb s b t).hsb = s.hsb ∧ (State.setTrcb s b t).field = s.field ∧
      (State.setTrcb s b t).can = s.can ∧ (State.setTrcb s b t).saf = s.saf ∧ (State.setTrcb s b t).jrn = s.jrn ∧
      (State.setTrcb s b t).stations = s.stations ∧ (State.setTrcb s b t).sent = s.sent := by
  unfold State.setTrcb
  exact ⟨rfl, rfl, rfl, rfl, rfl, rfl, rfl, rfl, rfl, rfl, rfl, rfl, rfl, rfl, rfl, rfl, rfl, rfl, rfl, rfl, rfl, rfl, rfl, rfl, rfl, rfl, rfl, rfl, rfl⟩

@[simp] theorem State.setStn_rest (s : State) (key : Nat) (x : Station) :
    (State.setStn s key x).now = s.now ∧ (State.setStn s key x).pending = s.pending ∧
      (State.setStn s key x).draws = s.draws ∧ (State.setStn s key x).rdata = s.rdata ∧
      (State.setStn s key x).regs = s.regs ∧ (State.setStn s key x).mem = s.mem ∧ (State.setStn s key x).units = s.units ∧
      (State.setStn s key x).objs = s.objs ∧ (State.setStn s key x).prog = s.prog ∧ (State.setStn s key x).img = s.img ∧
      (State.setStn s key x).tsk = s.tsk ∧ (State.setStn s key x).gz = s.gz ∧ (State.setStn s key x).evc = s.evc ∧
      (State.setStn s key x).nv = s.nv ∧ (State.setStn s key x).rtc = s.rtc ∧ (State.setStn s key x).wdg = s.wdg ∧
      (State.setStn s key x).frz = s.frz ∧ (State.setStn s key x).rcd = s.rcd ∧ (State.setStn s key x).boot = s.boot ∧
      (State.setStn s key x).phr = s.phr ∧ (State.setStn s key x).lpe = s.lpe ∧ (State.setStn s key x).trc = s.trc ∧
      (State.setStn s key x).nrg = s.nrg ∧ (State.setStn s key x).hsb = s.hsb ∧ (State.setStn s key x).field = s.field ∧
      (State.setStn s key x).can = s.can ∧ (State.setStn s key x).saf = s.saf ∧ (State.setStn s key x).jrn = s.jrn ∧
      (State.setStn s key x).sent = s.sent := by
  unfold State.setStn
  exact ⟨rfl, rfl, rfl, rfl, rfl, rfl, rfl, rfl, rfl, rfl, rfl, rfl, rfl, rfl, rfl, rfl, rfl, rfl, rfl, rfl, rfl, rfl, rfl, rfl, rfl, rfl, rfl, rfl, rfl⟩

@[simp] theorem State.setLoop_rest (s : State) (n : Nat) (l : LoopSt) :
    (State.setLoop s n l).now = s.now ∧ (State.setLoop s n l).pending = s.pending ∧ (State.setLoop s n l).draws = s.draws ∧
      (State.setLoop s n l).rdata = s.rdata ∧ (State.setLoop s n l).regs = s.regs ∧ (State.setLoop s n l).mem = s.mem ∧
      (State.setLoop s n l).units = s.units ∧ (State.setLoop s n l).objs = s.objs ∧ (State.setLoop s n l).prog = s.prog ∧
      (State.setLoop s n l).img = s.img ∧ (State.setLoop s n l).tsk = s.tsk ∧ (State.setLoop s n l).gz = s.gz ∧
      (State.setLoop s n l).evc = s.evc ∧ (State.setLoop s n l).nv = s.nv ∧ (State.setLoop s n l).rtc = s.rtc ∧
      (State.setLoop s n l).wdg = s.wdg ∧ (State.setLoop s n l).frz = s.frz ∧ (State.setLoop s n l).rcd = s.rcd ∧
      (State.setLoop s n l).boot = s.boot ∧ (State.setLoop s n l).phr = s.phr ∧ (State.setLoop s n l).trc = s.trc ∧
      (State.setLoop s n l).nrg = s.nrg ∧ (State.setLoop s n l).hsb = s.hsb ∧ (State.setLoop s n l).field = s.field ∧
      (State.setLoop s n l).can = s.can ∧ (State.setLoop s n l).saf = s.saf ∧ (State.setLoop s n l).jrn = s.jrn ∧
      (State.setLoop s n l).stations = s.stations ∧ (State.setLoop s n l).sent = s.sent := by
  unfold State.setLoop
  exact ⟨rfl, rfl, rfl, rfl, rfl, rfl, rfl, rfl, rfl, rfl, rfl, rfl, rfl, rfl, rfl, rfl, rfl, rfl, rfl, rfl, rfl, rfl, rfl, rfl, rfl, rfl, rfl, rfl, rfl⟩

end Sys2Proof.Machine
end

