-- ==== Sys2Proof/Laws/Access.lean ====
section
/-!
SUPPORT. Laws/Access.lean: what a permitted access of a core to a register is: the write of the register's block; and what a write that
only holds its fields leaves.
-/
namespace Sys2Proof.Machine

/-- The write that each block makes. -/
def blockWrite (s : State) (priv a : Nat) (v : Word) : Option State :=
  match blockOf a with
  | 0 => writeSys s a v
  | 1 => writeTsk s a v
  | 2 => writeSeg s a v
  | 3 => writeLane s a v
  | 4 => writeGz s a v
  | 5 => writePhr s priv a v
  | 6 => writeLpe s a v
  | 7 => writeNrg s a v
  | 8 => writeHsb s a v
  | 9 => writeJrn s a v
  | 10 => writeDio s a v
  | 11 => writeAio s a v
  | 12 => writeCan s 0 a v
  | 13 => writeCan s 1 a v
  | 14 => some (if a = SAF_CMD then (if wbit v 0 then safetyReset s else s) else regWrite s a v)
  | 15 => writeNvm s a v
  | 16 => some (writeRtc s a v)
  | 17 => some (writeWdg s a v)
  | 18 => some (writeFrz s a v)
  | 19 => some (writeRec s a v)
  | 20 => some (writeEvc s a v)
  | _ => writeTrc s a v

/-- A permitted write of a register is its block's. -/
theorem periphWrite_permitted (s : State) (core : CoreId) (a : Nat) (v : Word) (h : MayWrite s core a) (ht : regThere a = true) :
    periphWrite s core.val a v = blockWrite s (privOf s core.val) a v := by
  unfold periphWrite blockWrite
  simp [ht, h.2.2.1, h.2.2.2]
  try rfl

/-- What a core's permitted write of a register answers, where the block takes it; the active module of a pair tells its partner
what configuration changed. -/
theorem coreStore_permitted (s t : State) (core : CoreId) (a : Nat) (v : Word) (h : MayWrite s core a)
    (ht : (regThere a && areaOf a == some .periph && a % 4 == 0) = true)
    (hw : blockWrite s (privOf s core.val) a v = some t) : coreStore s core.val a v = shareRegister s t a := by
  simp only [Bool.and_eq_true, beq_iff_eq] at ht
  rw [← periphWrite_permitted s core a v h ht.1.1] at hw
  unfold coreStore registerWrite
  simp [h.1, h.2.1, ht, hw]

/-- A module that is not active shares no register write (R451). -/
theorem shareRegister_inactive (s t : State) (a : Nat) (h : t.role ≠ roleActive) : shareRegister s t a = t := by
  simp [shareRegister, h]

/-- A refused write raises cause 0x03 for operand 1 (R29). -/
theorem coreStore_refused (s : State) (u a : Nat) (v : Word) (hl : unitLive s u = true) (ha : auditing s u = false)
    (hp : areaOf a = some .periph) (h4 : a % 4 = 0) (h : periphWrite s u a v = none) :
    coreStore s u a v = raiseExc s u exAccess 1 a (s.unit u).pc := by
  unfold coreStore registerWrite
  simp [hl, ha, hp, h4, h]

/-- A misaligned write raises cause 0x04 for operand 1 (R9). -/
theorem coreStore_misaligned (s : State) (u a : Nat) (v : Word) (hl : unitLive s u = true) (ha : auditing s u = false)
    (hp : areaOf a = some .periph) (h4 : a % 4 ≠ 0) : coreStore s u a v = raiseExc s u exMisaligned 1 a (s.unit u).pc := by
  unfold coreStore
  simp [hl, ha, hp, h4]

/-- A write that sets fields changes no other register, and nothing but registers. -/
theorem regWrite_rest (s : State) (a : Nat) (v : Word) :
    (∀ b, b ≠ a → (regWrite s a v).reg b = s.reg b) ∧ (regWrite s a v).mem = s.mem ∧ (regWrite s a v).units = s.units
      ∧ (regWrite s a v).evc = s.evc ∧ (regWrite s a v).tsk = s.tsk ∧ (regWrite s a v).img = s.img := by
  unfold regWrite
  split
  · exact ⟨fun b hb => reg_setReg_ne _ _ _ _ hb, by simp, by simp, by simp, by simp, by simp⟩
  · simp

/-- A read that clears changes no other register, and nothing but registers. -/
theorem regClear_rest (s : State) (a : Nat) :
    (∀ b, b ≠ a → (regClear s a).reg b = s.reg b) ∧ (regClear s a).mem = s.mem ∧ (regClear s a).units = s.units := by
  unfold regClear
  split
  · exact ⟨fun b hb => reg_setReg_ne _ _ _ _ hb, by simp, by simp⟩
  · simp

end Sys2Proof.Machine
end

