-- ==== Sys2Proof/Laws/Insn.lean ====
section
/-!
SUPPORT. Laws/Insn.lean: what the step that all instructions share does where the unit stands at the instruction.
-/
namespace Sys2Proof.Machine

/-- A unit that stands at an instruction does what the instruction's meaning says, or raises what it says. -/
theorem insn_stands {s t : State} {u : Nat} {op : Op} {c : Ctx} (act : Ctx → State → Res Done) (h : Stands s u op c t) :
    insn s u op act = (match act c t with | .error e => raiseInsn s u c.pc e | .ok d => complete c d) := by
  obtain ⟨hl, hr, os, g, hf, hlocs, ha, hb, hop, hread, hu, hpc, hnext⟩ := h
  obtain ⟨cu, cpc, cn, cf, cl, cv⟩ := c
  dsimp only at *
  subst hu hpc hnext
  unfold insn
  rw [hf]
  have h1 : (!unitLive s cu || (isLane cu && !(s.unit cu).inRun)) = false := by
    cases hx : isLane cu <;> simp_all
  have h2 : (auditing s cu && (auditForbids cf.op || touchesPeriph cf.op cl)) = false := by
    cases hx : auditing s cu <;> simp_all
  simp only [h1]
  unfold runForm
  simp only [hlocs, h2, hop, hread, Bool.false_eq_true, if_false]
  split
  · exfalso
    simp_all
  · rfl

/-- A block instruction's count can be read and is 0. -/
def countsZero (s : State) (u : Nat) (op : Op) (ls : List (Kind × Sz × Loc)) : Bool :=
  match blockCount s u op ls with
  | some (0, _) => true
  | _ => false

theorem countsZero_false {s : State} {u : Nat} {op : Op} {ls : List (Kind × Sz × Loc)} (h : countsZero s u op ls = false)
    (t : State) : blockCount s u op ls ≠ some (0, t) := by
  intro ht
  simp [countsZero, ht] at h

/-- The instruction at which a unit stands, with what its meaning works on, where `Stands` holds of it. -/
def standing (s : State) (u : Nat) : Option (Op × Ctx × State) :=
  match fetchInsn s u with
  | (some op, .ok (f, os)) =>
    let l := locsOf (s.unit u).g (s.unit u).pc (f.kinds.zip os)
    let s1 := s.setUnit u { s.unit u with g := l.2 }
    let r := readAll s1 u l.1
    if unitLive s u && (!isLane u || (s.unit u).inRun) && !(auditing s u && (auditForbids f.op || touchesPeriph f.op l.1))
        && !countsZero s1 u f.op l.1
        && (operandsFault s1 u f.op 1 l.1).isNone then
      some (op, { u := u, pc := (s.unit u).pc, next := ((s.unit u).pc + 4 * f.words) % 2 ^ 32, form := f, locs := l.1, vals := r.1 }, r.2)
    else none
  | _ => none

/-- What `standing` finds, the unit stands at. -/
theorem standing_stands {s t : State} {u : Nat} {op : Op} {c : Ctx} (h : standing s u = some (op, c, t)) : Stands s u op c t := by
  unfold standing at h
  split at h
  · rename_i op' f os hf
    dsimp only at h
    split at h
    · rename_i hc
      simp only [Bool.and_eq_true, Bool.or_eq_true, Bool.not_eq_true', Bool.and_eq_false_iff, Bool.or_eq_false_iff,
        Option.isNone_iff_eq_none] at hc
      simp only [Option.some.injEq, Prod.mk.injEq] at h
      obtain ⟨rfl, rfl, rfl⟩ := h
      obtain ⟨⟨⟨⟨h1, h2⟩, h3⟩, hb⟩, h4⟩ := hc
      refine ⟨h1, ?_, os, _, hf, rfl, ?_, ?_, h4, rfl, rfl, rfl, rfl⟩
      · intro hl; rcases h2 with h2 | h2
        · simp [hl] at h2
        · exact h2
      · intro ha; rcases h3 with h3 | h3
        · simp [ha] at h3
        · exact h3
      · exact fun t => countsZero_false hb t
    · cases h
  · cases h

/-- Where a check of what `standing` finds holds, there is an instruction that the unit stands at, of which it holds. -/
theorem stands_of_standing {s : State} {u : Nat} {op : Op} (p : Ctx → State → Bool)
    (h : (match standing s u with | some (o, c, t) => o == op && p c t | none => false) = true) :
    ∃ c t, Stands s u op c t ∧ p c t = true := by
  split at h
  · rename_i o c t hs
    simp only [Bool.and_eq_true, beq_iff_eq] at h
    obtain ⟨rfl, hp⟩ := h
    exact ⟨c, t, standing_stands hs, hp⟩
  · cases h

/-- The block instruction of count 0 at which a unit stands, where `StandsAtZero` holds of it. -/
def standingZero (s : State) (u : Nat) : Option (Op × Ctx × State) :=
  match fetchInsn s u with
  | (some op, .ok (f, os)) =>
    let l := locsOf (s.unit u).g (s.unit u).pc (f.kinds.zip os)
    match blockCount (s.setUnit u { s.unit u with g := l.2 }) u f.op l.1 with
    | some (0, t) =>
      if unitLive s u && (!isLane u || (s.unit u).inRun) && !(auditing s u && (auditForbids f.op || touchesPeriph f.op l.1)) then
        some (op, { u := u, pc := (s.unit u).pc, next := ((s.unit u).pc + 4 * f.words) % 2 ^ 32, form := f, locs := l.1, vals := [] }, t)
      else none
    | _ => none
  | _ => none

/-- What `standingZero` finds, the unit stands at. -/
theorem standingZero_stands {s t : State} {u : Nat} {op : Op} {c : Ctx} (h : standingZero s u = some (op, c, t)) :
    StandsAtZero s u op c t := by
  unfold standingZero at h
  split at h
  · rename_i op' f os hf
    dsimp only at h
    split at h
    · rename_i t' hb
      split at h
      · rename_i hc
        simp only [Bool.and_eq_true, Bool.or_eq_true, Bool.not_eq_true', Bool.and_eq_false_iff, Bool.or_eq_false_iff] at hc
        simp only [Option.some.injEq, Prod.mk.injEq] at h
        obtain ⟨rfl, rfl, rfl⟩ := h
        obtain ⟨⟨h1, h2⟩, h3⟩ := hc
        refine ⟨h1, fun hl => h2.resolve_left (by simp [hl]), os, _, hf, rfl, fun ha => h3.resolve_left (by simp [ha]), hb, rfl, rfl, rfl⟩
      · cases h
    · cases h
  · cases h

end Sys2Proof.Machine
end

