-- ==== Sys2Proof/Laws/Locked.lean ====
section
/-!
SUPPORT. Laws/Locked.lean: what keeps the locked part of the state, for any form that an operation's answer has.
-/
namespace Sys2Proof.Machine

/-! ### The locked part -/

@[simp] theorem locked_mk (now pending draws rdata regs mem units objs prog img tsk gz evc nv rtc wdg frz rcd boot phr lpe trc nrg
    hsb field can saf jrn stations sent) :
    State.locked (State.mk now pending draws rdata regs mem units objs prog img tsk gz evc nv rtc wdg frz rcd boot phr lpe trc
      nrg hsb field can saf jrn stations sent) = (pending, nv.factory, boot.fuse, factoryPages mem.mram) := by
  unfold State.locked
  rfl

@[simp] theorem locked_ite (c : Prop) [Decidable c] (s t : State) :
    (if c then s else t).locked = if c then s.locked else t.locked := apply_ite _ _ _ _

@[simp] theorem locked_fold (s : State) :
    (s.pending, s.nv.factory, s.boot.fuse, factoryPages s.mem.mram) = s.locked := by
  unfold State.locked
  rfl

/-- An optional state keeps it. -/
def optKept (l : List Instr × Tbl (List Byte) × List Byte × Mem) (o : Option State) : Prop := ∀ t, o = some t → t.locked = l
/-- An answer keeps it. -/
def outKept (l : List Instr × Tbl (List Byte) × List Byte × Mem) (o : Host.Outcome State Fault Refusal) : Prop :=
  ∀ t, o = .next t → t.locked = l

@[simp] theorem optKept_none (l) : optKept l none := by simp [optKept]
@[simp] theorem optKept_some (l t) : optKept l (some t) ↔ t.locked = l := by simp [optKept]
@[simp] theorem outKept_next (l t) : outKept l (.next t) ↔ t.locked = l := by simp [outKept]
@[simp] theorem outKept_fault (l r) : outKept l (.fault r) := by simp [outKept]
@[simp] theorem outKept_refused (l r) : outKept l (.refused r) := by simp [outKept]
theorem optKept.of {l : List Instr × Tbl (List Byte) × List Byte × Mem} {o : Option State} {t : State} (h : optKept l o)
    (ht : o = some t) : t.locked = l := h t ht
theorem optKept_getD (l o s) (h : optKept l o) (hs : s.locked = l) : (Option.getD o s).locked = l := by
  cases o <;> simp_all

@[simp] theorem optKept_ite (l) (c : Prop) [Decidable c] (a b : Option State) :
    optKept l (if c then a else b) ↔ (c → optKept l a) ∧ (¬c → optKept l b) := by
  split <;> simp_all
@[simp] theorem outKept_ite (l) (c : Prop) [Decidable c] (a b : Host.Outcome State Fault Refusal) :
    outKept l (if c then a else b) ↔ (c → outKept l a) ∧ (¬c → outKept l b) := by
  split <;> simp_all

/-- A write of an operand keeps it. -/
def resKept (l : List Instr × Tbl (List Byte) × List Byte × Mem) (r : Res State) : Prop := ∀ t, r = .ok t → t.locked = l
/-- An instruction's end keeps it, and so does what it does last. -/
def doneKept (l : List Instr × Tbl (List Byte) × List Byte × Mem) (r : Res Done) : Prop :=
  ∀ d, r = .ok d → d.s.locked = l ∧ ∀ t : State, (d.after t).locked = t.locked

@[simp] theorem resKept_ok (l t) : resKept l (.ok t) ↔ t.locked = l := by simp [resKept]
@[simp] theorem resKept_error (l e) : resKept l (.error e) := by simp [resKept]
@[simp] theorem resKept_ite (l) (c : Prop) [Decidable c] (a b : Res State) :
    resKept l (if c then a else b) ↔ (c → resKept l a) ∧ (¬c → resKept l b) := by
  split <;> simp_all
theorem resKept.of {l : List Instr × Tbl (List Byte) × List Byte × Mem} {r : Res State} {t : State} (h : resKept l r)
    (ht : r = .ok t) : t.locked = l := h t ht
@[simp] theorem doneKept_ok (l d) : doneKept l (.ok d) ↔ d.s.locked = l ∧ ∀ t : State, (d.after t).locked = t.locked := by
  simp [doneKept]
@[simp] theorem doneKept_error (l e) : doneKept l (.error e) := by simp [doneKept]
@[simp] theorem doneKept_ite (l) (c : Prop) [Decidable c] (a b : Res Done) :
    doneKept l (if c then a else b) ↔ (c → doneKept l a) ∧ (¬c → doneKept l b) := by
  split <;> simp_all

/-! ### Folds -/

@[simp] theorem foldl_locked {α : Type} (xs : List α) (f : State → α → State) (hf : ∀ s x, (f s x).locked = s.locked) (s : State) :
    (xs.foldl f s).locked = s.locked := by
  induction xs generalizing s with
  | nil => rfl
  | cons x xs ih => simp [ih, hf]

@[simp] theorem foldl_locked_fst {α β : Type} (xs : List α) (f : State × β → α → State × β)
    (hf : ∀ a x, (f a x).1.locked = a.1.locked) (a : State × β) : (xs.foldl f a).1.locked = a.1.locked := by
  induction xs generalizing a with
  | nil => rfl
  | cons x xs ih => simp [ih, hf]

@[simp] theorem foldl_locked_snd {α β : Type} (xs : List α) (f : β × State → α → β × State)
    (hf : ∀ a x, (f a x).2.locked = a.2.locked) (a : β × State) : (xs.foldl f a).2.locked = a.2.locked := by
  induction xs generalizing a with
  | nil => rfl
  | cons x xs ih => simp [ih, hf]

/-! ### The factory pages -/

theorem filter_erase {α : Type} (p : Nat × α → Bool) (t : Tbl α) (k : Nat) (h : ∀ v, p (k, v) = false) :
    (t.erase k).filter p = t.filter p := by
  induction t with
  | nil => rfl
  | cons e t ih =>
    obtain ⟨i, v⟩ := e
    unfold Tbl.erase
    split
    · subst_vars; simp [ih, List.filter_cons, h]
    · simp [List.filter_cons, ih]

theorem filter_insert {α : Type} (p : Nat × α → Bool) (t : Tbl α) (k : Nat) (v : α) (h : ∀ v, p (k, v) = false) :
    (t.insert k v).filter p = t.filter p := by
  induction t with
  | nil => simp [Tbl.insert, h]
  | cons e t ih =>
    obtain ⟨i, w⟩ := e
    unfold Tbl.insert
    split <;> simp [List.filter_cons, ih, h]

theorem factoryPages_set (m : Mem) (d : Byte) (k : Nat) (v : Byte) (h : k < 0xFF0000) :
    factoryPages (m.set d k v) = factoryPages m := by
  have hp : ∀ v : Byte, (decide (0xFF0000 ≤ ((k, v) : Nat × Byte).1)) = false := by intro v; simp; omega
  unfold factoryPages Tbl.set
  split
  · exact filter_erase _ _ _ hp
  · rw [filter_insert _ _ _ _ hp, filter_erase _ _ _ hp]

theorem factoryPages_setMany (bs : List Byte) (m : Mem) (d : Byte) (k : Nat) (h : k + bs.length ≤ 0xFF0000) :
    factoryPages (m.setMany d k bs) = factoryPages m := by
  induction bs generalizing m k with
  | nil => rfl
  | cons b bs ih =>
    simp only [List.length_cons] at h
    unfold Tbl.setMany
    rw [ih _ _ (by omega), factoryPages_set _ _ _ _ (by omega)]

@[simp] theorem mramPut_pages (m : Mem) (off : Nat) (bs : List Byte) : factoryPages (mramPut m off bs) = factoryPages m := by
  unfold mramPut
  split
  · exact factoryPages_setMany _ _ _ _ ‹_›
  · rfl

/-- A fold of such writes. -/
theorem foldl_pages {α : Type} (xs : List α) (f : Mem → α → Mem) (hf : ∀ m x, factoryPages (f m x) = factoryPages m) (m : Mem) :
    factoryPages (xs.foldl f m) = factoryPages m := by
  induction xs generalizing m with
  | nil => rfl
  | cons x xs ih => simp [ih, hf]

@[simp] theorem foldl_mramPut {α : Type} (xs : List α) (off : α → Nat) (bs : α → List Byte) (m : Mem) :
    factoryPages (xs.foldl (fun m x => mramPut m (off x) (bs x)) m) = factoryPages m :=
  foldl_pages xs _ (fun _ _ => mramPut_pages _ _ _) m

end Sys2Proof.Machine
end

