-- ==== Sys2Proof/Laws/KeptOps.lean ====
section
/-!
SUPPORT. Laws/KeptOps.lean: the operations of Machine/Ops.lean keep the locked part of the state.
-/
namespace Sys2Proof.Machine

@[simp] theorem State.setReg_kept (s : State) (a : Nat) (w : Word) :
    (State.setReg s a w).locked = s.locked := by
  simp [State.setReg]

@[simp] theorem State.setFld_kept (s : State) (f : Fld) (n : Nat) :
    (State.setFld s f n).locked = s.locked := by
  simp [State.setFld]

@[simp] theorem State.setFlag_kept (s : State) (f : Fld) (b : Bool) :
    (State.setFlag s f b).locked = s.locked := by
  simp [State.setFlag]

@[simp] theorem State.count_kept (s : State) (f : Fld) (limit : Nat) (n : Nat) :
    (State.count s f limit n).locked = s.locked := by
  simp [State.count]

@[simp] theorem State.count32_kept (s : State) (a : Nat) (n : Nat) :
    (State.count32 s a n).locked = s.locked := by
  simp [State.count32]

@[simp] theorem State.maxFld_kept (s : State) (f : Fld) (n : Nat) :
    (State.maxFld s f n).locked = s.locked := by
  simp [State.maxFld, apply_ite State.locked, apply_ite Prod.fst, apply_ite Prod.snd]

@[simp] theorem State.at_kept (s : State) (t : Nat) :
    (State.at s t).locked = s.locked := by
  simp [State.at]

@[simp] theorem State.drawWord_kept (s : State) :
    (State.drawWord s).2.locked = s.locked := by
  simp [State.drawWord]

@[simp] theorem State.drawBit_kept (s : State) :
    (State.drawBit s).2.locked = s.locked := by
  simp [State.drawBit]

@[simp] theorem State.setUnit_kept (s : State) (k : Nat) (u : UnitSt) :
    (State.setUnit s k u).locked = s.locked := by
  simp [State.setUnit]

@[simp] theorem State.modUnit_kept (s : State) (k : Nat) (f : UnitSt → UnitSt) :
    (State.modUnit s k f).locked = s.locked := by
  simp [State.modUnit]

@[simp] theorem State.setTask_kept (s : State) (k : Nat) (t : TaskSt) :
    (State.setTask s k t).locked = s.locked := by
  simp [State.setTask]

@[simp] theorem State.modTask_kept (s : State) (k : Nat) (f : TaskSt → TaskSt) :
    (State.modTask s k f).locked = s.locked := by
  simp [State.modTask]

@[simp] theorem State.setObj_kept (s : State) (index : Nat) (sub : Nat) (v : List Byte) :
    (State.setObj s index sub v).locked = s.locked := by
  simp [State.setObj]

@[simp] theorem State.send_kept (s : State) (m : Sent) :
    (State.send s m).locked = s.locked := by
  simp [State.send]

@[simp] theorem State.countMerge_kept (s : State) (n : Nat) :
    (State.countMerge s n).locked = s.locked := by
  simp [State.countMerge]

@[simp] theorem State.latch_kept (s : State) (n : Nat) (dest : Nat) :
    (State.latch s n dest).locked = s.locked := by
  simp [State.latch, apply_ite State.locked, apply_ite Prod.fst, apply_ite Prod.snd]

@[simp] theorem State.raise_kept (s : State) (n : Nat) :
    (State.raise s n).locked = s.locked := by
  simp [State.raise]

@[simp] theorem State.modField_kept (s : State) (f : FieldState → FieldState) :
    (State.modField s f).locked = s.locked := by
  simp [State.modField]

@[simp] theorem fieldCmd_kept (s : State) (c : FieldCmd) :
    (fieldCmd s c).locked = s.locked := by
  simp [fieldCmd]

@[simp] theorem State.ctrUp_factory (s : State) (k : Nat) : (State.ctrUp s k).nv.factory = s.nv.factory := by
  unfold State.ctrUp; split <;> rfl

@[simp] theorem State.ctrUp_kept (s : State) (k : Nat) :
    (State.ctrUp s k).locked = s.locked := by
  simp [State.ctrUp, apply_ite State.locked, apply_ite Prod.fst, apply_ite Prod.snd]

end Sys2Proof.Machine
end

