-- ==== Sys2Proof/Laws/KeptViewMid.lean ====
section
/-!
SUPPORT. Laws/KeptViewMid.lean: the operations of Machine/ViewMid.lean keep the locked part of the state.
-/
namespace Sys2Proof.Machine

@[simp] theorem State.setLoop_kept (s : State) (n : Nat) (l : LoopSt) :
    (State.setLoop s n l).locked = s.locked := by
  simp [State.setLoop]

@[simp] theorem State.modLoop_kept (s : State) (n : Nat) (f : LoopSt → LoopSt) :
    (State.modLoop s n f).locked = s.locked := by
  simp [State.modLoop]

@[simp] theorem State.setDchan_kept (s : State) (k : Nat) (c : DChan) :
    (State.setDchan s k c).locked = s.locked := by
  simp [State.setDchan]

@[simp] theorem State.setAchan_kept (s : State) (k : Nat) (c : AChan) :
    (State.setAchan s k c).locked = s.locked := by
  simp [State.setAchan]

@[simp] theorem State.setEncPair_kept (s : State) (j : Nat) (e : EncSt) :
    (State.setEncPair s j e).locked = s.locked := by
  simp [State.setEncPair]

@[simp] theorem State.setCanst_kept (s : State) (m : Nat) (c : CanSt) :
    (State.setCanst s m c).locked = s.locked := by
  simp [State.setCanst]

end Sys2Proof.Machine
end

