-- ==== Sys2Proof/Laws/KeptViews.lean ====
section
/-!
SUPPORT. Laws/KeptViews.lean: the operations of Machine/Views.lean keep the locked part of the state.
-/
namespace Sys2Proof.Machine

@[simp] theorem State.setAud_kept (s : State) (k : Nat) (a : AuditSt) :
    (State.setAud s k a).locked = s.locked := by
  simp [State.setAud]

@[simp] theorem State.modAud_kept (s : State) (k : Nat) (f : AuditSt → AuditSt) :
    (State.modAud s k f).locked = s.locked := by
  simp [State.modAud]

@[simp] theorem State.setRing_kept (s : State) (r : Nat) (x : RingSt) :
    (State.setRing s r x).locked = s.locked := by
  simp [State.setRing]

@[simp] theorem State.modRing_kept (s : State) (r : Nat) (f : RingSt → RingSt) :
    (State.modRing s r f).locked = s.locked := by
  simp [State.modRing]

end Sys2Proof.Machine
end

