-- ==== Sys2Proof/Laws/KeptObjView.lean ====
section
/-!
SUPPORT. Laws/KeptObjView.lean: the operations of Machine/ObjView.lean keep the locked part of the state.
-/
namespace Sys2Proof.Machine

@[simp] theorem State.setSrec_kept (s : State) (key : Nat) (x : StnRec) :
    (State.setSrec s key x).locked = s.locked := by
  simp [State.setSrec]

@[simp] theorem State.modSrec_kept (s : State) (key : Nat) (f : StnRec → StnRec) :
    (State.modSrec s key f).locked = s.locked := by
  simp [State.modSrec]

end Sys2Proof.Machine
end

