-- ==== Sys2Proof/Laws/KeptRecorder.lean ====
section
/-!
SUPPORT. Laws/KeptRecorder.lean: the operations of Machine/Recorder.lean keep the locked part of the state.
-/
namespace Sys2Proof.Machine

@[simp] theorem recLost_kept (s : State) (sev : Nat) :
    (recLost s sev).locked = s.locked := by
  simp [recLost]

@[simp] theorem recStore_kept (s : State) (e : RecEntry) :
    (recStore s e).1.locked = s.locked := by
  unfold recStore; repeat' split
  all_goals simp_all

@[simp] theorem recFlush_kept (s : State) :
    (recFlush s).locked = s.locked := by
  simp [recFlush, apply_ite State.locked, apply_ite Prod.fst, apply_ite Prod.snd]

@[simp] theorem recordR_kept (s : State) (code : Nat) (sev : Nat) (kind : Nat) (num : Nat) (words : List Word) :
    (recordR s code sev kind num words).1.locked = s.locked := by
  simp [recordR, apply_ite State.locked, apply_ite Prod.fst, apply_ite Prod.snd]

@[simp] theorem State.record_kept (s : State) (code : Nat) (sev : Nat) (kind : Nat) (num : Nat) (words : List Nat) :
    (State.record s code sev kind num words).locked = s.locked := by
  simp [State.record]

@[simp] theorem freezeRequest_kept (s : State) (source : Nat) (trig : Nat) :
    (freezeRequest s source trig).locked = s.locked := by
  simp [freezeRequest, apply_ite State.locked, apply_ite Prod.fst, apply_ite Prod.snd]

@[simp] theorem recTrigger_kept (s : State) (n : Nat) :
    (recTrigger s n).locked = s.locked := by
  simp [recTrigger, apply_ite State.locked, apply_ite Prod.fst, apply_ite Prod.snd]

@[simp] theorem recErase_kept (s : State) (r : Nat) :
    (recErase s r).locked = s.locked := by
  simp [recErase]

@[simp] theorem recClear_kept (s : State) (role : Nat) :
    (recClear s role).locked = s.locked := by
  simp only [recClear, locked_mk, locked_fold, recErase_kept, State.record_kept]

@[simp] theorem recRebuild_kept (s : State) :
    (recRebuild s).locked = s.locked := by
  simp [recRebuild]

@[simp] theorem recRead_kept (s : State) (key : Nat) (rseq : Nat) :
    (recRead s key rseq).locked = s.locked := by
  simp [recRead]

@[simp] theorem recSubmit_kept (s : State) (w : Word) :
    (recSubmit s w).locked = s.locked := by
  simp [recSubmit, apply_ite State.locked, apply_ite Prod.fst, apply_ite Prod.snd]

@[simp] theorem recCtrlWrite_kept (s : State) (w : Word) :
    (recCtrlWrite s w).locked = s.locked := by
  simp [recCtrlWrite, apply_ite State.locked, apply_ite Prod.fst, apply_ite Prod.snd]

@[simp] theorem recRateWrite_kept (s : State) (w : Word) :
    (recRateWrite s w).locked = s.locked := by
  simp [recRateWrite, apply_ite State.locked, apply_ite Prod.fst, apply_ite Prod.snd]

@[simp] theorem recClrWrite_kept (s : State) (w : Word) :
    (recClrWrite s w).locked = s.locked := by
  simp [recClrWrite, apply_ite State.locked, apply_ite Prod.fst, apply_ite Prod.snd]

@[simp] theorem execRecordToken_kept (code : BitVec 16) (s : State) :
    outKept s.locked (execRecordToken code s) := by
  simp [execRecordToken]

@[simp] theorem execRecorderFreezeEnd_kept (s : State) :
    outKept s.locked (execRecorderFreezeEnd s) := by
  unfold execRecorderFreezeEnd; repeat' split
  all_goals simp_all

@[simp] theorem execIndexRebuildComplete_kept (s : State) :
    outKept s.locked (execIndexRebuildComplete s) := by
  unfold execIndexRebuildComplete; repeat' split
  all_goals simp_all

end Sys2Proof.Machine
end

