-- ==== Sys2Proof/Laws/KeptNvm.lean ====
section
/-!
SUPPORT. Laws/KeptNvm.lean: the operations of Machine/Nvm.lean keep the locked part of the state.
-/
namespace Sys2Proof.Machine

@[simp] theorem mramPost_kept (s : State) (off : Nat) (bs : List Byte) :
    (mramPost s off bs).locked = s.locked := by
  simp [mramPost]

@[simp] theorem setProt_kept (s : State) (level : Nat) :
    (setProt s level).locked = s.locked := by
  simp [setProt]

@[simp] theorem State.setNvRec_kept (s : State) (key : Nat) (r : NvRec) :
    (State.setNvRec s key r).locked = s.locked := by
  simp [State.setNvRec]

@[simp] theorem State.persist_kept (s : State) (key : Nat) (payload : List Byte) (wait : Option JReq) :
    (State.persist s key payload wait).locked = s.locked := by
  simp [State.persist]

@[simp] theorem State.persistNow_kept (s : State) (key : Nat) (payload : List Byte) :
    (State.persistNow s key payload).locked = s.locked := by
  simp [State.persistNow]

@[simp] theorem postedWrite_kept (s : State) (fail : Bool) :
    (postedWrite s fail).1.locked = s.locked := by
  unfold postedWrite
  split
  · rfl
  · have h := State.count32_kept s NVM_SYNC 1
    simp only [State.locked, Prod.mk.injEq] at h ⊢
    simp [h]
  · dsimp only; split <;> simp

@[simp] theorem bankSave_kept (s : State) (payload : List Byte) :
    (bankSave s payload).locked = s.locked := by
  simp [bankSave]

@[simp] theorem countFinding_kept (s : State) (f : Finding) :
    (countFinding s f).locked = s.locked := by
  unfold countFinding; repeat' split
  all_goals simp_all [apply_ite State.locked, apply_ite Prod.fst, apply_ite Prod.snd]

@[simp] theorem recallRecs_kept (s : State) :
    (recallRecs s).locked = s.locked := by
  simp [recallRecs]

@[simp] theorem recallBanks_kept (s : State) :
    (recallBanks s).locked = s.locked := by
  unfold recallBanks; dsimp only; repeat' split
  all_goals simp_all [apply_ite State.locked, apply_ite Prod.fst, apply_ite Prod.snd]

@[simp] theorem recallCtrs_kept (s : State) :
    (recallCtrs s).locked = s.locked := by
  unfold recallCtrs; dsimp only
  apply foldl_locked
  intro s x
  repeat' split
  all_goals simp

@[simp] theorem recallScan_kept (s : State) :
    (recallScan s).locked = s.locked := by
  simp [recallScan]

@[simp] theorem passFindings_kept (s : State) :
    (passFindings s).locked = s.locked := by
  simp [passFindings]

@[simp] theorem flashErr_kept (s : State) (e : Nat) :
    (flashErr s e).locked = s.locked := by
  simp [flashErr]

@[simp] theorem flashCommand_kept (s : State) (w : Word) :
    (flashCommand s w).locked = s.locked := by
  simp [flashCommand]

@[simp] theorem eraseSector_kept (s : State) (sector : Nat) :
    (eraseSector s sector).locked = s.locked := by
  simp [eraseSector]

@[simp] theorem programFlash_kept (s : State) (off : Nat) (bs : List Byte) :
    (programFlash s off bs).locked = s.locked := by
  simp [programFlash]

@[simp] theorem flashEnd_kept (s : State) (verifyOk : Bool) :
    (flashEnd s verifyOk).locked = s.locked := by
  unfold flashEnd; repeat' split
  all_goals simp_all [apply_ite State.locked, apply_ite Prod.fst, apply_ite Prod.snd]

@[simp] theorem execRecallComplete_kept (s : State) :
    outKept s.locked (execRecallComplete s) := by
  unfold execRecallComplete; repeat' split
  all_goals simp_all [apply_ite State.locked, apply_ite Prod.fst, apply_ite Prod.snd]

@[simp] theorem execOperatingSeconds_kept (s : State) :
    outKept s.locked (execOperatingSeconds s) := by
  simp [execOperatingSeconds]

end Sys2Proof.Machine
end

