-- ==== Sys2Proof/Laws/KeptRtc.lean ====
section
/-!
SUPPORT. Laws/KeptRtc.lean: the operations of Machine/Rtc.lean keep the locked part of the state.
-/
namespace Sys2Proof.Machine

@[simp] theorem State.modRtc_kept (s : State) (f : RtcState → RtcState) :
    (State.modRtc s f).locked = s.locked := by
  simp [State.modRtc]

@[simp] theorem rtcArm_kept (s : State) (sec : Nat) :
    (rtcArm s sec).locked = s.locked := by
  simp [rtcArm]

@[simp] theorem rtcStageWrite_kept (s : State) (high : Bool) (w : Word) :
    (rtcStageWrite s high w).locked = s.locked := by
  simp [rtcStageWrite]

@[simp] theorem rtcTick_kept (s : State) :
    (rtcTick s).locked = s.locked := by
  simp [rtcTick]

@[simp] theorem rtcAlarm_kept (s : State) :
    (rtcAlarm s).locked = s.locked := by
  simp [rtcAlarm]

@[simp] theorem bkCommit_kept (s : State) (bs : List Byte) :
    (bkCommit s bs).locked = s.locked := by
  simp [bkCommit]

@[simp] theorem rtcCmdWrite_kept (s : State) (w : Word) :
    (rtcCmdWrite s w).locked = s.locked := by
  simp [rtcCmdWrite]

@[simp] theorem batLow_kept (s : State) (mv : Nat) :
    (batLow s mv).locked = s.locked := by
  simp [batLow]

@[simp] theorem rtcCapture_kept (s : State) (core : Nat) :
    (rtcCapture s core).locked = s.locked := by
  simp [rtcCapture]

@[simp] theorem rtcThaw_kept (s : State) (core : Nat) :
    (rtcThaw s core).locked = s.locked := by
  simp [rtcThaw]

@[simp] theorem rtcRead_kept (s : State) (core : Nat) (a : Nat) :
    (rtcRead s core a).2.locked = s.locked := by
  simp [rtcRead]

@[simp] theorem plantCheck_kept (s : State) (plant : Nat) :
    (plantCheck s plant).locked = s.locked := by
  simp [plantCheck]

@[simp] theorem loadRtcModel_kept (s : State) :
    (loadRtcModel s).locked = s.locked := by
  simp [loadRtcModel]

@[simp] theorem execRtcSecondBoundary_kept (s : State) :
    outKept s.locked (execRtcSecondBoundary s) := by
  simp [execRtcSecondBoundary]

@[simp] theorem execRtcCompensation_kept (tempCenti : Int) (vbatMv : Nat) (s : State) :
    outKept s.locked (execRtcCompensation tempCenti vbatMv s) := by
  simp [execRtcCompensation]

@[simp] theorem execRtcSwitchToVbat_kept (vbatMv : Nat) (s : State) :
    outKept s.locked (execRtcSwitchToVbat vbatMv s) := by
  simp [execRtcSwitchToVbat]

@[simp] theorem execRtcSwitchToRail_kept (vbatMv : Nat) (s : State) :
    outKept s.locked (execRtcSwitchToRail vbatMv s) := by
  simp [execRtcSwitchToRail]

@[simp] theorem execBackupDomainPowerOn_kept (s : State) :
    outKept s.locked (execBackupDomainPowerOn s) := by
  simp [execBackupDomainPowerOn]

@[simp] theorem execRtcShadowFreezeEnd_kept (core : CoreId) (s : State) :
    outKept s.locked (execRtcShadowFreezeEnd core s) := by
  unfold execRtcShadowFreezeEnd; dsimp only; repeat' split
  all_goals simp_all [apply_ite State.locked, apply_ite Prod.fst, apply_ite Prod.snd]

@[simp] theorem execPlantTimeCheck_kept (plantSeconds : Nat) (s : State) :
    outKept s.locked (execPlantTimeCheck plantSeconds s) := by
  simp [execPlantTimeCheck]

end Sys2Proof.Machine
end

