-- ==== Sys2Proof/Laws/KeptImage.lean ====
section
/-!
SUPPORT. Laws/KeptImage.lean: the operations of Machine/Image.lean keep the locked part of the state.
-/
namespace Sys2Proof.Machine

@[simp] theorem State.modImg_kept (s : State) (f : Image → Image) :
    (State.modImg s f).locked = s.locked := by
  simp [State.modImg]

@[simp] theorem State.setEval_kept (s : State) (g : Nat) (w : Word) :
    (State.setEval s g w).locked = s.locked := by
  simp [State.setEval]

@[simp] theorem State.setM_kept (s : State) (k : Nat) (w : Word) :
    (State.setM s k w).locked = s.locked := by
  simp [State.setM]

@[simp] theorem State.setSamp_kept (s : State) (g : Nat) (w : Word) :
    (State.setSamp s g w).locked = s.locked := by
  simp [State.setSamp]

@[simp] theorem State.setXmit_kept (s : State) (g : Nat) (w : Word) :
    (State.setXmit s g w).locked = s.locked := by
  simp [State.setXmit]

@[simp] theorem State.setStable_kept (s : State) (g : Nat) (w : Word) :
    (State.setStable s g w).locked = s.locked := by
  simp [State.setStable]

@[simp] theorem State.setMBit_kept (s : State) (k : Nat) (b : Nat) (v : Bool) :
    (State.setMBit s k b v).locked = s.locked := by
  simp [State.setMBit]

@[simp] theorem commitStation_kept (s : State) (key : Nat) (bs : List Byte) :
    (commitStation s key bs).locked = s.locked := by
  simp [commitStation]

@[simp] theorem deliverLocal_kept (s : State) (k : Nat) :
    (deliverLocal s k).locked = s.locked := by
  simp [deliverLocal]

@[simp] theorem exchangeCopy_kept (s : State) (k : Nat) :
    (exchangeCopy s k).locked = s.locked := by
  simp [exchangeCopy]

@[simp] theorem formInputs_kept (s : State) (vals : List (Nat × Word × Bool)) :
    (formInputs s vals).1.locked = s.locked := by
  simp [formInputs]

@[simp] theorem keepLast_kept (s : State) (k : Nat) (shadow : Bool) :
    (keepLast s k shadow).locked = s.locked := by
  unfold keepLast; try dsimp only
  repeat' split
  all_goals simp_all [apply_ite State.locked, apply_ite Prod.fst, apply_ite Prod.snd]

@[simp] theorem renewTable_kept (s : State) (lo : Nat) (hi : Nat) :
    (renewTable s lo hi).locked = s.locked := by
  unfold renewTable; try dsimp only
  repeat' split
  all_goals simp_all [apply_ite State.locked, apply_ite Prod.fst, apply_ite Prod.snd]

@[simp] theorem setForce_kept (s : State) (g : Nat) (mask : Word) (val : Word) :
    (setForce s g mask val).locked = s.locked := by
  simp [setForce]

@[simp] theorem takeForces_kept (s : State) (k : Nat) (input : Bool) :
    (takeForces s k input).1.locked = s.locked := by
  simp [takeForces]

@[simp] theorem clearForces_kept (s : State) :
    (clearForces s).locked = s.locked := by
  simp [clearForces]

@[simp] theorem forceQueue_kept (s : State) (bs : List Byte) :
    (forceQueue s bs).locked = s.locked := by
  simp [forceQueue]

@[simp] theorem forceAccept_kept (s : State) (bs : List Byte) :
    (forceAccept s bs).locked = s.locked := by
  simp [forceAccept]

@[simp] theorem stationStatus_kept (s : State) (k : Nat) :
    (stationStatus s k).locked = s.locked := by
  simp [stationStatus]

@[simp] theorem watchChanges_kept (s : State) (k : Nat) :
    (watchChanges s k).1.locked = s.locked := by
  simp [watchChanges]

end Sys2Proof.Machine
end

