-- ==== Sys2Proof/Laws/KeptHsbBase.lean ====
section
/-!
SUPPORT. Laws/KeptHsbBase.lean: the operations of Machine/HsbBase.lean keep the locked part of the state.
-/
namespace Sys2Proof.Machine

@[simp] theorem State.modHsb_kept (s : State) (f : HsbState → HsbState) :
    (State.modHsb s f).locked = s.locked := by
  simp [State.modHsb]

@[simp] theorem prove_kept (s : State) (sub : Nat) :
    (prove s sub).locked = s.locked := by
  simp [prove]

@[simp] theorem selfTest_kept (s : State) (sub : Nat) :
    (selfTest s sub).locked = s.locked := by
  simp [selfTest]

@[simp] theorem sendNotice_kept (s : State) (code : Nat) :
    (sendNotice s code).locked = s.locked := by
  simp [sendNotice]

@[simp] theorem storeEpoch_kept (s : State) (e : Nat) :
    (storeEpoch s e).locked = s.locked := by
  simp [storeEpoch]

@[simp] theorem takeEpoch_kept (s : State) :
    (takeEpoch s).locked = s.locked := by
  simp [takeEpoch]

@[simp] theorem setRole_kept (s : State) (r : Nat) :
    (setRole s r).locked = s.locked := by
  simp [setRole]

@[simp] theorem State.setDelta_kept (s : State) (k : Nat) (d : DeltaSt) :
    (State.setDelta s k d).locked = s.locked := by
  simp [State.setDelta]

@[simp] theorem State.modDelta_kept (s : State) (k : Nat) (f : DeltaSt → DeltaSt) :
    (State.modDelta s k f).locked = s.locked := by
  simp [State.modDelta]

@[simp] theorem countDelta_kept (s : State) (n : Nat) :
    (countDelta s n).locked = s.locked := by
  simp [countDelta]

@[simp] theorem deltaRecord_kept (s : State) (typ : Nat) (k : Nat) (body : List Byte) :
    (deltaRecord s typ k body).locked = s.locked := by
  simp [deltaRecord]

@[simp] theorem startDelta_kept (s : State) (k : Nat) :
    (startDelta s k).locked = s.locked := by
  simp [startDelta]

@[simp] theorem deltaEntries_kept (s : State) (typ : Nat) (k : Nat) (es : List (Nat × Word)) :
    (deltaEntries s typ k es).locked = s.locked := by
  simp [deltaEntries]

@[simp] theorem sendEnd_kept (s : State) (k : Nat) :
    (sendEnd s k).locked = s.locked := by
  simp [sendEnd]

@[simp] theorem controlRecord_kept (s : State) (k : Nat) (cycle : Nat) (kind : Nat) (item : List Byte) :
    (controlRecord s k cycle kind item).locked = s.locked := by
  simp [controlRecord]

@[simp] theorem controlItem_kept (s : State) (k : Nat) (kind : Nat) (item : List Byte) :
    (controlItem s k kind item).locked = s.locked := by
  simp [controlItem]

end Sys2Proof.Machine
end

