-- ==== Sys2Proof/Laws/KeptPhider.lean ====
section
/-!
SUPPORT. Laws/KeptPhider.lean: the operations of Machine/Phider.lean keep the locked part of the state.
-/
namespace Sys2Proof.Machine

@[simp] theorem State.modPhr_kept (s : State) (f : PhrState → PhrState) :
    (State.modPhr s f).locked = s.locked := by
  simp [State.modPhr]

@[simp] theorem State.setEntry_kept (s : State) (tag : Nat) (e : TxEntry) :
    (State.setEntry s tag e).locked = s.locked := by
  simp [State.setEntry]

@[simp] theorem State.setQueue_kept (s : State) (r : Nat) (q : List Tx) :
    (State.setQueue s r q).locked = s.locked := by
  simp [State.setQueue]

@[simp] theorem sendBoth_kept (s : State) (r : Nat) (f : Bool → PFrame) :
    (sendBoth s r f).locked = s.locked := by
  simp [sendBoth]

@[simp] theorem queueTx_kept (s : State) (t : Tx) :
    (queueTx s t).locked = s.locked := by
  simp [queueTx]

@[simp] theorem issueTx_kept (s : State) (tag : Nat) (t : Tx) :
    (issueTx s tag t).locked = s.locked := by
  simp [issueTx]

@[simp] theorem freeEntry_kept (s : State) (tag : Nat) :
    (freeEntry s tag).locked = s.locked := by
  simp [freeEntry]

@[simp] theorem expireEntry_kept (s : State) (tag : Nat) :
    (expireEntry s tag).locked = s.locked := by
  unfold expireEntry; try dsimp only
  repeat' split
  all_goals simp_all [apply_ite State.locked, apply_ite Prod.fst, apply_ite Prod.snd]

@[simp] theorem cancelEntry_kept (s : State) (tag : Nat) :
    (cancelEntry s tag).locked = s.locked := by
  unfold cancelEntry; try dsimp only
  repeat' split
  all_goals simp_all [apply_ite State.locked, apply_ite Prod.fst, apply_ite Prod.snd]

@[simp] theorem stnBad_kept (s : State) (k : Nat) (key : Nat) :
    (stnBad s k key).locked = s.locked := by
  simp [stnBad]

@[simp] theorem stnOutBad_kept (s : State) (k : Nat) (key : Nat) :
    (stnOutBad s k key).locked = s.locked := by
  simp [stnOutBad]

@[simp] theorem cyclicFailed_kept (s : State) (t : Tx) :
    (cyclicFailed s t).locked = s.locked := by
  unfold cyclicFailed; repeat' split
  all_goals simp_all [apply_ite State.locked, apply_ite Prod.fst, apply_ite Prod.snd]

@[simp] theorem withdraw_kept (s : State) (p : Tx → Bool) :
    (withdraw s p).locked = s.locked := by
  simp [withdraw]

@[simp] theorem cancelCyclic_kept (s : State) (stops : Bool) :
    (cancelCyclic s stops).locked = s.locked := by
  simp [cancelCyclic]

@[simp] theorem queueStops_kept (s : State) :
    (queueStops s).locked = s.locked := by
  simp [queueStops]

@[simp] theorem execTransactionIssue_kept (ring : RingId) (s : State) :
    outKept s.locked (execTransactionIssue ring s) := by
  unfold execTransactionIssue; repeat' split
  all_goals simp_all [apply_ite State.locked, apply_ite Prod.fst, apply_ite Prod.snd]

@[simp] theorem setRingState_kept (s : State) (r : Nat) (new : Nat) :
    (setRingState s r new).locked = s.locked := by
  simp [setRingState]

@[simp] theorem requestEnum_kept (s : State) (r : Nat) :
    (requestEnum s r).locked = s.locked := by
  simp [requestEnum]

@[simp] theorem enableRings_kept (s : State) (bits : Nat) :
    (enableRings s bits).locked = s.locked := by
  unfold enableRings; try dsimp only
  repeat' split
  all_goals simp_all [apply_ite State.locked, apply_ite Prod.fst, apply_ite Prod.snd]

@[simp] theorem queueIdent_kept (s : State) (r : Nat) (n : Nat) :
    (queueIdent s r n).locked = s.locked := by
  unfold queueIdent; try dsimp only
  repeat' split
  all_goals simp_all [apply_ite State.locked, apply_ite Prod.fst, apply_ite Prod.snd]

@[simp] theorem startEnum_kept (s : State) :
    (startEnum s).locked = s.locked := by
  unfold startEnum; repeat' split
  all_goals simp_all [apply_ite State.locked, apply_ite Prod.fst, apply_ite Prod.snd]

@[simp] theorem judgeProbe_kept (s : State) (r : Nat) :
    (judgeProbe s r).locked = s.locked := by
  unfold judgeProbe; dsimp only; repeat' split
  all_goals simp_all [apply_ite State.locked, apply_ite Prod.fst, apply_ite Prod.snd]

@[simp] theorem probeResult_kept (s : State) (r : Nat) (dirB : Bool) (res : ProbeRes) :
    (probeResult s r dirB res).locked = s.locked := by
  simp [probeResult]

@[simp] theorem execProbeSend_kept (links : BitVec 8) (s : State) :
    outKept s.locked (execProbeSend links s) := by
  unfold execProbeSend; dsimp only; repeat' split
  all_goals simp_all [apply_ite State.locked, apply_ite Prod.fst, apply_ite Prod.snd]

@[simp] theorem badFcs_kept (s : State) (r : Nat) (portB : Bool) :
    (badFcs s r portB).locked = s.locked := by
  simp [badFcs]

@[simp] theorem execProbeCopyReturn_kept (ring : RingId) (port : Bool) (fcsOk : Bool) (frame : PFrame) (s : State) :
    outKept s.locked (execProbeCopyReturn ring port fcsOk frame s) := by
  unfold execProbeCopyReturn; dsimp only; repeat' split
  all_goals simp_all [apply_ite State.locked, apply_ite Prod.fst, apply_ite Prod.snd]

@[simp] theorem execProbeCopyTimeout_kept (ring : RingId) (dirB : Bool) (s : State) :
    outKept s.locked (execProbeCopyTimeout ring dirB s) := by
  unfold execProbeCopyTimeout; dsimp only; repeat' split
  all_goals simp_all [apply_ite State.locked, apply_ite Prod.fst, apply_ite Prod.snd]

@[simp] theorem execEnmCopyReturn_kept (ring : RingId) (frame : PFrame) (s : State) :
    outKept s.locked (execEnmCopyReturn ring frame s) := by
  unfold execEnmCopyReturn; dsimp only; repeat' split
  all_goals simp_all [apply_ite State.locked, apply_ite Prod.fst, apply_ite Prod.snd]

@[simp] theorem stationLost_kept (s : State) (key : Nat) :
    (stationLost s key).locked = s.locked := by
  simp [stationLost]

@[simp] theorem execRingFrameForward_kept (ring : RingId) (port : Bool) (fcsOk : Bool) (frame : RingFrame) (s : State) :
    outKept s.locked (execRingFrameForward ring port fcsOk frame s) := by
  unfold execRingFrameForward; dsimp only; repeat' split
  all_goals simp_all [apply_ite State.locked, apply_ite Prod.fst, apply_ite Prod.snd]

@[simp] theorem setPtp_kept (s : State) (st : Nat) :
    (setPtp s st).locked = s.locked := by
  simp [setPtp]

@[simp] theorem showOffset_kept (s : State) (d : Int) :
    (showOffset s d).locked = s.locked := by
  simp [showOffset]

@[simp] theorem ptpFree_kept (s : State) :
    (ptpFree s).locked = s.locked := by
  unfold ptpFree; try dsimp only
  repeat' split
  all_goals simp_all [apply_ite State.locked, apply_ite Prod.fst, apply_ite Prod.snd]

@[simp] theorem ptpSettle_kept (s : State) :
    (ptpSettle s).locked = s.locked := by
  unfold ptpSettle; try dsimp only
  repeat' split
  all_goals simp_all [apply_ite State.locked, apply_ite Prod.fst, apply_ite Prod.snd]

@[simp] theorem ptpChanged_kept (s : State) (oldDomain : Nat) :
    (ptpChanged s oldDomain).locked = s.locked := by
  unfold ptpChanged; try dsimp only
  repeat' split
  all_goals simp_all [apply_ite State.locked, apply_ite Prod.fst, apply_ite Prod.snd]

@[simp] theorem stepTime_kept (s : State) (d : Int) :
    (stepTime s d).locked = s.locked := by
  unfold stepTime; try dsimp only
  repeat' split
  all_goals simp_all [apply_ite State.locked, apply_ite Prod.fst, apply_ite Prod.snd]

@[simp] theorem ptpCorrect_kept (s : State) (d : Int) :
    (ptpCorrect s d).locked = s.locked := by
  simp [ptpCorrect]

@[simp] theorem ptpAnnounce_kept (s : State) (c : PtpClock) :
    (ptpAnnounce s c).locked = s.locked := by
  unfold ptpAnnounce; try dsimp only
  repeat' split
  all_goals simp_all [apply_ite State.locked, apply_ite Prod.fst, apply_ite Prod.snd]

@[simp] theorem sendDelayReq_kept (s : State) :
    (sendDelayReq s).locked = s.locked := by
  unfold sendDelayReq; try dsimp only
  repeat' split
  all_goals simp_all [apply_ite State.locked, apply_ite Prod.fst, apply_ite Prod.snd]

@[simp] theorem ptpPlant_kept (s : State) (msg : PtpMsg) :
    (ptpPlant s msg).locked = s.locked := by
  unfold ptpPlant; try dsimp only
  repeat' split
  all_goals simp_all [apply_ite State.locked, apply_ite Prod.fst, apply_ite Prod.snd]

@[simp] theorem execPtpMessage_kept (msg : PtpMsg) (s : State) :
    outKept s.locked (execPtpMessage msg s) := by
  unfold execPtpMessage; dsimp only; repeat' split
  all_goals simp_all [apply_ite State.locked, apply_ite Prod.fst, apply_ite Prod.snd]

@[simp] theorem execAnnounceReceiptTimeout_kept (s : State) :
    outKept s.locked (execAnnounceReceiptTimeout s) := by
  unfold execAnnounceReceiptTimeout; dsimp only; repeat' split
  all_goals simp_all [apply_ite State.locked, apply_ite Prod.fst, apply_ite Prod.snd]

@[simp] theorem ptpBoth_kept (s : State) (r : Nat) (m : Nat → PtpOut) :
    (ptpBoth s r m).locked = s.locked := by
  unfold ptpBoth; try dsimp only
  repeat' split
  all_goals simp_all [apply_ite State.locked, apply_ite Prod.fst, apply_ite Prod.snd]

@[simp] theorem syncRing_kept (s : State) (r : Nat) :
    (syncRing s r).locked = s.locked := by
  unfold syncRing; try dsimp only
  repeat' split
  all_goals simp_all [apply_ite State.locked, apply_ite Prod.fst, apply_ite Prod.snd]

@[simp] theorem stationMeets_kept (s : State) (key : Nat) : (stationMeets s key).locked = s.locked := by
  unfold stationMeets; try dsimp only
  repeat' split
  all_goals simp_all [apply_ite State.locked, apply_ite Prod.fst, apply_ite Prod.snd]

@[simp] theorem execPtpSyncSend_kept (s : State) :
    outKept s.locked (execPtpSyncSend s) := by
  unfold execPtpSyncSend; try dsimp only
  repeat' split
  all_goals simp_all [apply_ite State.locked, apply_ite Prod.fst, apply_ite Prod.snd]

@[simp] theorem execAnnounceSend_kept (s : State) :
    outKept s.locked (execAnnounceSend s) := by
  unfold execAnnounceSend; repeat' split
  all_goals simp_all [apply_ite State.locked, apply_ite Prod.fst, apply_ite Prod.snd]

@[simp] theorem dropAtStart_kept (s : State) (keys : List Nat) :
    (dropAtStart s keys).locked = s.locked := by
  unfold dropAtStart; try dsimp only
  repeat' split
  all_goals simp_all [apply_ite State.locked, apply_ite Prod.fst, apply_ite Prod.snd]

@[simp] theorem putAtStart_kept (s : State) (key : Nat) (f : Fld) :
    (putAtStart s key f).locked = s.locked := by
  unfold putAtStart; try dsimp only
  repeat' split
  all_goals simp_all [apply_ite State.locked, apply_ite Prod.fst, apply_ite Prod.snd]

@[simp] theorem takeAtStart_kept (s : State) :
    (takeAtStart s).locked = s.locked := by
  unfold takeAtStart; try dsimp only
  repeat' split
  all_goals simp_all [apply_ite State.locked, apply_ite Prod.fst, apply_ite Prod.snd]

@[simp] theorem epochWrite_kept (s : State) (w : Word) :
    (epochWrite s w).locked = s.locked := by
  simp [epochWrite]

@[simp] theorem txselWrite_kept (s : State) (w : Word) :
    (txselWrite s w).locked = s.locked := by
  simp [txselWrite]

end Sys2Proof.Machine
end

