-- ==== Sys2Proof/Laws/KeptStations.lean ====
section
/-!
SUPPORT. Laws/KeptStations.lean: the operations of Machine/Stations.lean keep the locked part of the state.
-/
namespace Sys2Proof.Machine

@[simp] theorem State.setStn_kept (s : State) (key : Nat) (x : Station) :
    (State.setStn s key x).locked = s.locked := by
  simp [State.setStn]

@[simp] theorem stnSrw_kept (s : State) (x : Station) (data : List Byte) :
    (stnSrw s x data).2.2.2.locked = s.locked := by
  unfold stnSrw; dsimp only; repeat' split
  all_goals simp_all [apply_ite State.locked, apply_ite Prod.fst, apply_ite Prod.snd]

@[simp] theorem stnAct_kept (s : State) (x : Station) (f : PFrame) (answer : List Byte) :
    (stnAct s x f answer).2.2.2.locked = s.locked := by
  unfold stnAct; repeat' split
  all_goals simp_all [apply_ite State.locked, apply_ite Prod.fst, apply_ite Prod.snd]

@[simp] theorem execStationLatch_kept (ring : RingId) (stn : Byte) (inputs : List Byte) (s : State) :
    outKept s.locked (execStationLatch ring stn inputs s) := by
  unfold execStationLatch; dsimp only; repeat' split
  all_goals simp_all [apply_ite State.locked, apply_ite Prod.fst, apply_ite Prod.snd]

@[simp] theorem execStationFrame_kept (ring : RingId) (arrival : Arrival) (frame : PFrame) (answer : List Byte) (s : State) :
    outKept s.locked (execStationFrame ring arrival frame answer s) := by
  unfold execStationFrame; try dsimp only
  repeat' split
  all_goals simp_all [apply_ite State.locked, apply_ite Prod.fst, apply_ite Prod.snd]

@[simp] theorem execStationEnm_kept (ring : RingId) (arrival : Arrival) (frame : PFrame) (s : State) :
    outKept s.locked (execStationEnm ring arrival frame s) := by
  unfold execStationEnm; try dsimp only
  repeat' split
  all_goals simp_all [apply_ite State.locked, apply_ite Prod.fst, apply_ite Prod.snd]

@[simp] theorem execStationStrike_kept (ring : RingId) (stn : Byte) (s : State) :
    outKept s.locked (execStationStrike ring stn s) := by
  unfold execStationStrike; dsimp only; repeat' split
  all_goals simp_all [apply_ite State.locked, apply_ite Prod.fst, apply_ite Prod.snd]

@[simp] theorem execHoldTimeExpiry_kept (ring : RingId) (stn : Byte) (s : State) :
    outKept s.locked (execHoldTimeExpiry ring stn s) := by
  unfold execHoldTimeExpiry; dsimp only; repeat' split
  all_goals simp_all [apply_ite State.locked, apply_ite Prod.fst, apply_ite Prod.snd]

@[simp] theorem execStationPowerUp_kept (ring : RingId) (pos : Byte) (ident : StnIdent) (powerSafe : List Byte) (s : State) :
    outKept s.locked (execStationPowerUp ring pos ident powerSafe s) := by
  simp [execStationPowerUp]

end Sys2Proof.Machine
end

