-- ==== Sys2Proof/Laws/KeptField.lean ====
section
/-!
SUPPORT. Laws/KeptField.lean: the operations of Machine/Field.lean keep the locked part of the state.
-/
namespace Sys2Proof.Machine

@[simp] theorem dLive_kept (s : State) (k : Nat) (b : Nat) :
    (dLive s k b).locked = s.locked := by
  simp [dLive]

@[simp] theorem dLiveOff_kept (s : State) (k : Nat) (b : Nat) :
    (dLiveOff s k b).locked = s.locked := by
  simp [dLiveOff]

@[simp] theorem aLive_kept (s : State) (k : Nat) (b : Nat) :
    (aLive s k b).locked = s.locked := by
  simp [aLive]

@[simp] theorem aLiveOff_kept (s : State) (k : Nat) (b : Nat) :
    (aLiveOff s k b).locked = s.locked := by
  simp [aLiveOff]

@[simp] theorem dDrive_kept (s : State) (k : Nat) :
    (dDrive s k).locked = s.locked := by
  simp [dDrive]

@[simp] theorem dChange_kept (s : State) (k : Nat) :
    (dChange s k).locked = s.locked := by
  simp [dChange]

@[simp] theorem dUpdate_kept (s : State) (lowCurrent : Word) (cooled : Word) (k : Nat) :
    (dUpdate s lowCurrent cooled k).locked = s.locked := by
  unfold dUpdate; dsimp only; repeat' split
  all_goals simp_all [apply_ite State.locked, apply_ite Prod.fst, apply_ite Prod.snd]

@[simp] theorem aAlarm_kept (s : State) (k : Nat) :
    (aAlarm s k).locked = s.locked := by
  simp [aAlarm]

@[simp] theorem aDrive_kept (s : State) (k : Nat) :
    (aDrive s k).locked = s.locked := by
  simp [aDrive]

@[simp] theorem driveAll_kept (s : State) :
    (driveAll s).locked = s.locked := by
  simp [driveAll]

@[simp] theorem dCommand_kept (s : State) (k : Nat) (v : Bool) :
    (dCommand s k v).locked = s.locked := by
  simp [dCommand]

@[simp] theorem aCommand_kept (s : State) (k : Nat) (w : Word) :
    (aCommand s k w).locked = s.locked := by
  simp [aCommand]

@[simp] theorem loadSettings_kept (s : State) :
    (loadSettings s).locked = s.locked := by
  simp [loadSettings]

@[simp] theorem loadConfig_kept (s : State) :
    (loadConfig s).locked = s.locked := by
  simp [loadConfig]

@[simp] theorem enterField_kept (s : State) (st : Nat) :
    (enterField s st).locked = s.locked := by
  simp [enterField]

@[simp] theorem fieldReleased_kept (s : State) :
    (fieldReleased s).locked = s.locked := by
  simp [fieldReleased]

@[simp] theorem applyCmd_kept (s : State) (c : FieldCmd) :
    (applyCmd s c).locked = s.locked := by
  unfold applyCmd; repeat' split
  all_goals simp_all [apply_ite State.locked, apply_ite Prod.fst, apply_ite Prod.snd]

@[simp] theorem fieldSupply_kept (s : State) (mv : Nat) :
    (fieldSupply s mv).locked = s.locked := by
  simp [fieldSupply]

@[simp] theorem fieldUpdated_kept (s : State) (lowCurrent : Word) (cooled : Word) (vfieldMv : Nat) :
    (fieldUpdated s lowCurrent cooled vfieldMv).locked = s.locked := by
  unfold fieldUpdated; try dsimp only
  repeat' split
  all_goals simp_all [apply_ite State.locked, apply_ite Prod.fst, apply_ite Prod.snd]

@[simp] theorem execLinkFrame_kept (s : State) :
    outKept s.locked (execLinkFrame s) := by
  unfold execLinkFrame; repeat' split
  all_goals simp_all [apply_ite State.locked, apply_ite Prod.fst, apply_ite Prod.snd]

@[simp] theorem execSilenceTimeout_kept (s : State) :
    outKept s.locked (execSilenceTimeout s) := by
  unfold execSilenceTimeout; repeat' split
  all_goals simp_all [apply_ite State.locked, apply_ite Prod.fst, apply_ite Prod.snd]

@[simp] theorem execVflow_kept (vfieldMv : Nat) (s : State) :
    outKept s.locked (execVflow vfieldMv s) := by
  unfold execVflow; repeat' split
  all_goals simp_all [apply_ite State.locked, apply_ite Prod.fst, apply_ite Prod.snd]

@[simp] theorem execVfhigh_kept (vfieldMv : Nat) (s : State) :
    outKept s.locked (execVfhigh vfieldMv s) := by
  unfold execVfhigh; repeat' split
  all_goals simp_all [apply_ite State.locked, apply_ite Prod.fst, apply_ite Prod.snd]

@[simp] theorem execRawLevelChange_kept (ch : Fin 32) (level : Bool) (s : State) :
    outKept s.locked (execRawLevelChange ch level s) := by
  unfold execRawLevelChange; dsimp only; repeat' split
  all_goals simp_all [apply_ite State.locked, apply_ite Prod.fst, apply_ite Prod.snd]

@[simp] theorem execDebounceExpiry_kept (ch : Fin 32) (s : State) :
    outKept s.locked (execDebounceExpiry ch s) := by
  unfold execDebounceExpiry; dsimp only; repeat' split
  all_goals simp_all [apply_ite State.locked, apply_ite Prod.fst, apply_ite Prod.snd]

@[simp] theorem trackLevel_kept (s : State) (k : Nat) (v : Bool) :
    (trackLevel s k v).locked = s.locked := by
  simp [trackLevel]

@[simp] theorem execEncoderEdge_kept (pair : Fin 16) (a : Bool) (b : Bool) (s : State) :
    outKept s.locked (execEncoderEdge pair a b s) := by
  unfold execEncoderEdge; dsimp only; repeat' split
  all_goals simp_all [apply_ite State.locked, apply_ite Prod.fst, apply_ite Prod.snd]

@[simp] theorem latchOff_kept (s : State) (k : Nat) (b : Nat) :
    (latchOff s k b).locked = s.locked := by
  simp [latchOff]

@[simp] theorem execOvl_kept (ch : Fin 32) (s : State) :
    outKept s.locked (execOvl ch s) := by
  unfold execOvl; dsimp only; repeat' split
  all_goals simp_all [apply_ite State.locked, apply_ite Prod.fst, apply_ite Prod.snd]

@[simp] theorem execOt_kept (ch : Fin 32) (s : State) :
    outKept s.locked (execOt ch s) := by
  unfold execOt; repeat' split
  all_goals simp_all [apply_ite State.locked, apply_ite Prod.fst, apply_ite Prod.snd]

@[simp] theorem execAnalogConversion_kept (ch : Fin 8) (ua : Int) (limiter : Bool) (s : State) :
    outKept s.locked (execAnalogConversion ch ua limiter s) := by
  unfold execAnalogConversion; dsimp only; repeat' split
  all_goals simp_all [apply_ite State.locked, apply_ite Prod.fst, apply_ite Prod.snd]

@[simp] theorem execCompl_kept (ch : Fin 8) (s : State) :
    outKept s.locked (execCompl ch s) := by
  unfold execCompl; dsimp only; repeat' split
  all_goals simp_all [apply_ite State.locked, apply_ite Prod.fst, apply_ite Prod.snd]

@[simp] theorem execComplClear_kept (ch : Fin 8) (s : State) :
    outKept s.locked (execComplClear ch s) := by
  simp [execComplClear]

@[simp] theorem execRbfault_kept (ch : Fin 8) (s : State) :
    outKept s.locked (execRbfault ch s) := by
  unfold execRbfault; dsimp only; repeat' split
  all_goals simp_all [apply_ite State.locked, apply_ite Prod.fst, apply_ite Prod.snd]

@[simp] theorem execLiveBitClear_kept (analogue : Bool) (ch : Fin 32) (b : Fin 32) (s : State) :
    outKept s.locked (execLiveBitClear analogue ch b s) := by
  unfold execLiveBitClear; repeat' split
  all_goals simp_all [apply_ite State.locked, apply_ite Prod.fst, apply_ite Prod.snd]

@[simp] theorem fieldLatch_kept (s : State) (k : Nat) :
    (fieldLatch s k).locked = s.locked := by
  simp [fieldLatch]

@[simp] theorem fieldStrike_kept (s : State) (k : Nat) :
    (fieldStrike s k).locked = s.locked := by
  unfold fieldStrike; dsimp only
  apply foldl_locked
  intro s x
  repeat' split
  all_goals simp

@[simp] theorem fieldOutputs_kept (s : State) (k : Nat) :
    (fieldOutputs s k).locked = s.locked := by
  unfold fieldOutputs; dsimp only
  apply foldl_locked
  intro s x
  repeat' split
  all_goals simp

@[simp] theorem fcmdWrite_kept (s : State) (w : Word) :
    (fcmdWrite s w).locked = s.locked := by
  simp [fcmdWrite]

@[simp] theorem claimRefused_kept (s : State) (res : Nat) (owner : Nat) (claimant : Nat) :
    (claimRefused s res owner claimant).locked = s.locked := by
  simp [claimRefused]

@[simp] theorem claim_kept (s : State) (who : Nat) (rs : List Nat) :
    (claim s who rs).1.locked = s.locked := by
  unfold claim; repeat' split
  all_goals simp_all [apply_ite State.locked, apply_ite Prod.fst, apply_ite Prod.snd]

@[simp] theorem releaseClaims_kept (s : State) (who : Nat) :
    (releaseClaims s who).locked = s.locked := by
  simp [releaseClaims]

@[simp] theorem encctrlWrite_kept (s : State) (j : Nat) (w : Word) :
    (encctrlWrite s j w).1.locked = s.locked := by
  simp [encctrlWrite, apply_ite State.locked, apply_ite Prod.fst, apply_ite Prod.snd]

@[simp] theorem setUserCal_kept (s : State) (c : Nat) (g : Word) (o : Word) :
    (setUserCal s c g o).locked = s.locked := by
  simp [setUserCal]

@[simp] theorem applyTrim_kept (s : State) (c : Nat) (span : Bool) (f : Word) (t : Word) :
    (applyTrim s c span f t).1.locked = s.locked := by
  simp [applyTrim, apply_ite State.locked, apply_ite Prod.fst, apply_ite Prod.snd]

@[simp] theorem trimCommand_kept (s : State) (c : Nat) (span : Bool) (t : Word) :
    (trimCommand s c span t).1.locked = s.locked := by
  unfold trimCommand; dsimp only; repeat' split
  all_goals simp_all [apply_ite State.locked, apply_ite Prod.fst, apply_ite Prod.snd]

@[simp] theorem execTrimDriveTimeout_kept (ch : Fin 8) (s : State) :
    outKept s.locked (execTrimDriveTimeout ch s) := by
  unfold execTrimDriveTimeout; dsimp only; repeat' split
  all_goals simp_all [apply_ite State.locked, apply_ite Prod.fst, apply_ite Prod.snd]

@[simp] theorem execZeroButtonHold_kept (s : State) :
    outKept s.locked (execZeroButtonHold s) := by
  unfold execZeroButtonHold; repeat' split
  all_goals simp_all [apply_ite State.locked, apply_ite Prod.fst, apply_ite Prod.snd]

@[simp] theorem execSpanButtonHold_kept (s : State) :
    outKept s.locked (execSpanButtonHold s) := by
  unfold execSpanButtonHold; repeat' split
  all_goals simp_all [apply_ite State.locked, apply_ite Prod.fst, apply_ite Prod.snd]

@[simp] theorem execClearButtonHold_kept (s : State) :
    outKept s.locked (execClearButtonHold s) := by
  unfold execClearButtonHold; repeat' split
  all_goals simp_all [apply_ite State.locked, apply_ite Prod.fst, apply_ite Prod.snd]

@[simp] theorem ownedMode_kept (s : State) (k : Nat) :
    (ownedMode s k).locked = s.locked := by
  simp [ownedMode]

@[simp] theorem trimWrite_kept (s : State) (w : Word) :
    (trimWrite s w).1.locked = s.locked := by
  simp [trimWrite, apply_ite State.locked, apply_ite Prod.fst, apply_ite Prod.snd]

end Sys2Proof.Machine
end

