-- ==== Sys2Proof/Laws/KeptCanBase.lean ====
section
/-!
SUPPORT. Laws/KeptCanBase.lean: the operations of Machine/CanBase.lean keep the locked part of the state.
-/
namespace Sys2Proof.Machine

@[simp] theorem canFlag_kept (s : State) (m : Nat) (b : Nat) :
    (canFlag s m b).locked = s.locked := by
  simp [canFlag]

@[simp] theorem canSetState_kept (s : State) (m : Nat) (st : Nat) :
    (canSetState s m st).locked = s.locked := by
  simp [canSetState]

@[simp] theorem canResult_kept (s : State) (m : Nat) (b : Nat) (r : Nat) :
    (canResult s m b r).locked = s.locked := by
  simp [canResult]

@[simp] theorem canEnd_kept (s : State) (m : Nat) (b : Nat) (r : Nat) :
    (canEnd s m b r).locked = s.locked := by
  simp [canEnd]

@[simp] theorem canSelect_kept (s : State) (m : Nat) :
    (canSelect s m).locked = s.locked := by
  unfold canSelect; repeat' split
  all_goals simp_all [apply_ite State.locked, apply_ite Prod.fst, apply_ite Prod.snd]

@[simp] theorem canRequest_kept (s : State) (m : Nat) (b : Nat) (jurno : Bool) :
    (canRequest s m b jurno).locked = s.locked := by
  simp [canRequest]

@[simp] theorem canAbort_kept (s : State) (m : Nat) (b : Nat) :
    (canAbort s m b).locked = s.locked := by
  simp [canAbort]

@[simp] theorem canTxctrlWrite_kept (s : State) (m : Nat) (b : Nat) (w : Word) :
    optKept s.locked (canTxctrlWrite s m b w) := by
  unfold canTxctrlWrite; repeat' split
  all_goals simp_all [apply_ite State.locked, apply_ite Prod.fst, apply_ite Prod.snd]

@[simp] theorem canProgramStop_kept (s : State) :
    (canProgramStop s).locked = s.locked := by
  simp [canProgramStop]

@[simp] theorem canLoad_kept (s : State) (m : Nat) (f : CanFrame) :
    (canLoad s m f).locked = s.locked := by
  simp [canLoad]

@[simp] theorem canJurnoNext_kept (s : State) (m : Nat) (x2 : Nat) :
    (canJurnoNext s m x2).locked = s.locked := by
  induction x2 generalizing s with
  | zero => simp [canJurnoNext]
  | succ n ih =>
    unfold canJurnoNext; dsimp only; repeat' split
    all_goals simp [ih]

@[simp] theorem canAnswer_kept (s : State) (m : Nat) (node : Nat) (bs : List Byte) :
    (canAnswer s m node bs).locked = s.locked := by
  simp [canAnswer]

@[simp] theorem canDropMessage_kept (s : State) (m : Nat) :
    (canDropMessage s m).locked = s.locked := by
  simp [canDropMessage]

@[simp] theorem canToBusOff_kept (s : State) (m : Nat) :
    (canToBusOff s m).locked = s.locked := by
  simp [canToBusOff]

@[simp] theorem canConfine_kept (s : State) (m : Nat) :
    (canConfine s m).locked = s.locked := by
  simp [canConfine]

@[simp] theorem canError_kept (s : State) (m : Nat) (k : CanErr) (dataPhase : Bool) :
    (canError s m k dataPhase).locked = s.locked := by
  simp [canError]

@[simp] theorem canTecError_kept (s : State) (m : Nat) (k : CanErr) :
    (canTecError s m k).locked = s.locked := by
  simp [canTecError]

@[simp] theorem canNack_kept (s : State) (m : Nat) (b : Nat) :
    (canNack s m b).locked = s.locked := by
  simp [canNack]

@[simp] theorem canRetry_kept (s : State) (m : Nat) (b : Nat) :
    (canRetry s m b).locked = s.locked := by
  simp [canRetry]

@[simp] theorem canTdc_kept (s : State) (m : Nat) (b : Nat) (how : CanTxEnd) (tdcv : Nat) :
    (canTdc s m b how tdcv).1.locked = s.locked := by
  unfold canTdc; repeat' split
  all_goals simp_all [apply_ite State.locked, apply_ite Prod.fst, apply_ite Prod.snd]

@[simp] theorem intoFifo_kept (s : State) (m : Nat) (f : CanFrame) :
    (intoFifo s m f).locked = s.locked := by
  unfold intoFifo; dsimp only; repeat' split
  all_goals simp

@[simp] theorem canSentOut_kept (s : State) (m : Nat) (f : CanFrame) :
    (canSentOut s m f).locked = s.locked := by
  unfold canSentOut; repeat' split
  all_goals simp

@[simp] theorem execCanTxAttemptEnd_kept (ctrl : Fin 2) (buf : Fin 3) (how : CanTxEnd) (tdcv : Byte) (s : State) :
    outKept s.locked (execCanTxAttemptEnd ctrl buf how tdcv s) := by
  unfold execCanTxAttemptEnd; dsimp only; repeat' split
  all_goals simp_all [apply_ite State.locked, apply_ite Prod.fst, apply_ite Prod.snd]

@[simp] theorem execCanReceiveError_kept (ctrl : Fin 2) (kind : CanErr) (dataPhase : Bool) (s : State) :
    outKept s.locked (execCanReceiveError ctrl kind dataPhase s) := by
  unfold execCanReceiveError; dsimp only; repeat' split
  all_goals simp_all [apply_ite State.locked, apply_ite Prod.fst, apply_ite Prod.snd]

@[simp] theorem execCanIntegrationComplete_kept (ctrl : Fin 2) (s : State) :
    outKept s.locked (execCanIntegrationComplete ctrl s) := by
  unfold execCanIntegrationComplete; dsimp only; repeat' split
  all_goals simp_all [apply_ite State.locked, apply_ite Prod.fst, apply_ite Prod.snd]

@[simp] theorem execCanRecoveryComplete_kept (ctrl : Fin 2) (s : State) :
    outKept s.locked (execCanRecoveryComplete ctrl s) := by
  unfold execCanRecoveryComplete; dsimp only; repeat' split
  all_goals simp_all [apply_ite State.locked, apply_ite Prod.fst, apply_ite Prod.snd]

@[simp] theorem canRecover_kept (s : State) (m : Nat) :
    (canRecover s m).locked = s.locked := by
  simp [canRecover]

@[simp] theorem canDisable_kept (s : State) (m : Nat) :
    (canDisable s m).locked = s.locked := by
  unfold canDisable; dsimp only; repeat' split
  all_goals simp_all [apply_ite State.locked, apply_ite Prod.fst, apply_ite Prod.snd]

@[simp] theorem canCtrlWrite_kept (s : State) (m : Nat) (w : Word) :
    optKept s.locked (canCtrlWrite s m w) := by
  unfold canCtrlWrite; dsimp only; repeat' split
  all_goals simp_all [apply_ite State.locked, apply_ite Prod.fst, apply_ite Prod.snd]

@[simp] theorem canNbtWrite_kept (s : State) (m : Nat) (w : Word) :
    (canNbtWrite s m w).locked = s.locked := by
  simp [canNbtWrite]

@[simp] theorem canFilterCheck_kept (s : State) (m : Nat) (n : Nat) :
    (canFilterCheck s m n).locked = s.locked := by
  simp [canFilterCheck]

@[simp] theorem canFltidWrite_kept (s : State) (m : Nat) (n : Nat) (w : Word) :
    (canFltidWrite s m n w).locked = s.locked := by
  simp [canFltidWrite]

@[simp] theorem canFltmskWrite_kept (s : State) (m : Nat) (n : Nat) (w : Word) :
    (canFltmskWrite s m n w).locked = s.locked := by
  simp [canFltmskWrite]

@[simp] theorem canRxpop_kept (s : State) (m : Nat) (w : Word) :
    (canRxpop s m w).locked = s.locked := by
  simp [canRxpop]

end Sys2Proof.Machine
end

