-- ==== Sys2Proof/Laws/KeptTrace.lean ====
section
/-!
SUPPORT. Laws/KeptTrace.lean: the operations of Machine/Trace.lean keep the locked part of the state.
-/
namespace Sys2Proof.Machine

@[simp] theorem State.setTrcb_kept (s : State) (b : Nat) (t : TrcSt) :
    (State.setTrcb s b t).locked = s.locked := by
  simp [State.setTrcb]

@[simp] theorem trcEnd_kept (s : State) (b : Nat) :
    (trcEnd s b).locked = s.locked := by
  simp [trcEnd]

@[simp] theorem trcWrite_kept (s : State) (b : Nat) (x : TrcSample) (trig : Bool) :
    (trcWrite s b x trig).locked = s.locked := by
  simp [trcWrite]

@[simp] theorem trcShed_kept (s : State) (b : Nat) :
    (trcShed s b).locked = s.locked := by
  simp [trcShed]

@[simp] theorem trcAfter_kept (s : State) (b : Nat) :
    (trcAfter s b).locked = s.locked := by
  simp [trcAfter]

@[simp] theorem trcTrigger_kept (s : State) (b : Nat) :
    (trcTrigger s b).locked = s.locked := by
  simp [trcTrigger]

@[simp] theorem trcTriggerRecord_kept (s : State) (b : Nat) (x : TrcSample) :
    (trcTriggerRecord s b x).locked = s.locked := by
  simp [trcTriggerRecord]

@[simp] theorem trcSample_kept (s : State) (b : Nat) (x : TrcSample) (alm : Bool) :
    (trcSample s b x alm).locked = s.locked := by
  simp [trcSample]

@[simp] theorem traceLoop_kept (s : State) (n : Nat) (tl : Nat) (signals : List Word) (alm : Bool) :
    (traceLoop s n tl signals alm).locked = s.locked := by
  simp [traceLoop]

@[simp] theorem traceTask_kept (s : State) (k : Nat) :
    (traceTask s k).locked = s.locked := by
  simp [traceTask]

@[simp] theorem trcArm_kept (s : State) (b : Nat) :
    (trcArm s b).locked = s.locked := by
  simp [trcArm]

@[simp] theorem trcStop_kept (s : State) (b : Nat) :
    (trcStop s b).locked = s.locked := by
  simp [trcStop]

@[simp] theorem trcForce_kept (s : State) (b : Nat) :
    (trcForce s b).locked = s.locked := by
  simp [trcForce]

@[simp] theorem trcCmd_kept (s : State) (b : Nat) (w : Word) :
    (trcCmd s b w).locked = s.locked := by
  simp [trcCmd]

@[simp] theorem trcCommand_kept (s : State) (b : Nat) (code : Nat) :
    (trcCommand s b code).locked = s.locked := by
  unfold trcCommand; repeat' split
  all_goals simp_all [apply_ite State.locked, apply_ite Prod.fst, apply_ite Prod.snd]

@[simp] theorem trcAdvance_kept (s : State) (b : Nat) (n : Nat) :
    (trcAdvance s b n).locked = s.locked := by
  unfold trcAdvance; try dsimp only
  repeat' split
  all_goals simp_all [apply_ite State.locked, apply_ite Prod.fst, apply_ite Prod.snd]

end Sys2Proof.Machine
end

