-- ==== Sys2Proof/Laws/KeptLoops.lean ====
section
/-!
SUPPORT. Laws/KeptLoops.lean: the operations of Machine/Loops.lean keep the locked part of the state.
-/
namespace Sys2Proof.Machine

@[simp] theorem State.modLpe_kept (s : State) (f : LpeState → LpeState) :
    (State.modLpe s f).locked = s.locked := by
  simp [State.modLpe]

@[simp] theorem loopsAtSample_kept (s : State) (k : Nat) :
    (loopsAtSample s k).locked = s.locked := by
  simp [loopsAtSample]

@[simp] theorem loopsAtRelease_kept (s : State) (k : Nat) :
    (loopsAtRelease s k).locked = s.locked := by
  simp [loopsAtRelease]

@[simp] theorem execLoopExecutionStart_kept (unit : Fin 4) (s : State) :
    outKept s.locked (execLoopExecutionStart unit s) := by
  unfold execLoopExecutionStart; repeat' split
  all_goals simp_all [apply_ite State.locked, apply_ite Prod.fst, apply_ite Prod.snd]

@[simp] theorem loopToField_kept (s : State) (g : Nat) (w : Word) :
    (loopToField s g w).locked = s.locked := by
  simp [loopToField]

@[simp] theorem loopComplete_kept (s : State) (unit : Nat) :
    (loopComplete s unit).locked = s.locked := by
  unfold loopComplete; dsimp only; repeat' split
  all_goals simp_all [apply_ite State.locked, apply_ite Prod.fst, apply_ite Prod.snd]

@[simp] theorem loopPublish_kept (s : State) (n : Nat) :
    (loopPublish s n).locked = s.locked := by
  unfold loopPublish; try dsimp only
  repeat' split
  all_goals simp_all [apply_ite State.locked, apply_ite Prod.fst, apply_ite Prod.snd]

@[simp] theorem publishLoop_kept (s : State) (n : Nat) (o : LoopOut) :
    (publishLoop s n o).locked = s.locked := by
  unfold publishLoop; try dsimp only
  repeat' split
  all_goals simp_all [apply_ite State.locked, apply_ite Prod.fst, apply_ite Prod.snd]

@[simp] theorem applyPub_kept (s : State) (p : Pub) :
    (applyPub s p).locked = s.locked := by
  unfold applyPub; try dsimp only
  repeat' split
  all_goals simp_all [apply_ite State.locked, apply_ite Prod.fst, apply_ite Prod.snd]

@[simp] theorem applyHeld_kept (s : State) :
    (applyHeld s).locked = s.locked := by
  unfold applyHeld; try dsimp only
  repeat' split
  all_goals simp_all [apply_ite State.locked, apply_ite Prod.fst, apply_ite Prod.snd]

@[simp] theorem dropAligned_kept (s : State) (k : Nat) :
    (dropAligned s k).locked = s.locked := by
  simp [dropAligned]

@[simp] theorem haltLoops_kept (s : State) :
    (haltLoops s).locked = s.locked := by
  simp [haltLoops]

@[simp] theorem startLoops_kept (s : State) (cold : Bool) :
    (startLoops s cold).locked = s.locked := by
  simp [startLoops]

@[simp] theorem loopWrite_kept (s : State) (n : Nat) (sub : Nat) (v : Word) :
    (loopWrite s n sub v).1.locked = s.locked := by
  simp [loopWrite, apply_ite State.locked, apply_ite Prod.fst, apply_ite Prod.snd]

@[simp] theorem clearAlarms_kept (s : State) (bs : List Byte) :
    (clearAlarms s bs).locked = s.locked := by
  simp [clearAlarms]

end Sys2Proof.Machine
end

