-- ==== Sys2Proof/Laws/KeptFelt.lean ====
section
/-!
SUPPORT. Laws/KeptFelt.lean: the operations of Machine/Felt.lean keep the locked part of the state.
-/
namespace Sys2Proof.Machine

@[simp] theorem State.modNrg_kept (s : State) (f : NrgState → NrgState) :
    (State.modNrg s f).locked = s.locked := by
  simp [State.modNrg]

@[simp] theorem overCheck_kept (s : State) :
    (overCheck s).locked = s.locked := by
  simp [overCheck]

@[simp] theorem meter_kept (s : State) (inUj : Nat) (isl : List Nat) :
    (meter s inUj isl).locked = s.locked := by
  simp [meter]

@[simp] theorem metered_kept (s : State) (inputUj : Nat) (islandUj : List Nat) :
    (metered s inputUj islandUj).locked = s.locked := by
  simp [metered]

@[simp] theorem settle_kept (s : State) (e : Nat) :
    (settle s e).locked = s.locked := by
  simp [settle]

@[simp] theorem execLedgerUpdate_kept (inputUj : Nat) (islandUj : List Nat) (s : State) :
    outKept s.locked (execLedgerUpdate inputUj islandUj s) := by
  unfold execLedgerUpdate; repeat' split
  all_goals simp

@[simp] theorem scrubEnd_kept (s : State) :
    (scrubEnd s).locked = s.locked := by
  unfold scrubEnd; try dsimp only
  repeat' split
  all_goals simp_all [apply_ite State.locked, apply_ite Prod.fst, apply_ite Prod.snd]

@[simp] theorem scrubOn_kept (s : State) (least : Nat) :
    (scrubOn s least).locked = s.locked := by
  simp [scrubOn]

@[simp] theorem wearOn_kept (s : State) :
    (wearOn s).locked = s.locked := by
  unfold wearOn; try dsimp only
  repeat' split
  all_goals simp_all [apply_ite State.locked, apply_ite Prod.fst, apply_ite Prod.snd]

@[simp] theorem forcedDuty_kept (s : State) (scrub : Bool) (task : Nat) :
    (forcedDuty s scrub task).locked = s.locked := by
  simp [forcedDuty]

@[simp] theorem execForcedScrub_kept (s : State) :
    outKept s.locked (execForcedScrub s) := by
  unfold execForcedScrub; repeat' split
  all_goals simp_all [apply_ite State.locked, apply_ite Prod.fst, apply_ite Prod.snd]

@[simp] theorem execTraceRecordWrite_kept (buf : Fin 8) (funded : Bool) (s : State) :
    outKept s.locked (execTraceRecordWrite buf funded s) := by
  unfold execTraceRecordWrite; dsimp only; repeat' split
  all_goals simp_all [apply_ite State.locked, apply_ite Prod.fst, apply_ite Prod.snd]

@[simp] theorem replan_kept (s : State) :
    (replan s).locked = s.locked := by
  simp [replan]

@[simp] theorem execCatchUp_kept (task : TaskId) (s : State) :
    outKept s.locked (execCatchUp task s) := by
  unfold execCatchUp; dsimp only; repeat' split
  all_goals simp_all [apply_ite State.locked, apply_ite Prod.fst, apply_ite Prod.snd]

@[simp] theorem execPaceRead_kept (paces : List Nat) (s : State) :
    outKept s.locked (execPaceRead paces s) := by
  unfold execPaceRead; repeat' split
  all_goals simp_all [apply_ite State.locked, apply_ite Prod.fst, apply_ite Prod.snd]

@[simp] theorem feltEvaluated_kept (s : State) (k : Nat) :
    (feltEvaluated s k).locked = s.locked := by
  simp [feltEvaluated]

@[simp] theorem peakReset_kept (s : State) :
    (peakReset s).locked = s.locked := by
  simp [peakReset]

@[simp] theorem thermalState_kept (s : State) (t : Int) :
    (thermalState s t).locked = s.locked := by
  simp [thermalState]

@[simp] theorem execTemperatureRead_kept (islands : List Int) (coreTemp : Int) (s : State) :
    outKept s.locked (execTemperatureRead islands coreTemp s) := by
  unfold execTemperatureRead; repeat' split
  all_goals simp_all [apply_ite State.locked, apply_ite Prod.fst, apply_ite Prod.snd]

@[simp] theorem execThermalLimitTimeout_kept (s : State) :
    outKept s.locked (execThermalLimitTimeout s) := by
  unfold execThermalLimitTimeout; dsimp only; repeat' split
  all_goals simp_all [apply_ite State.locked, apply_ite Prod.fst, apply_ite Prod.snd]

end Sys2Proof.Machine
end

