-- ==== Sys2Proof/Laws/KeptGauze.lean ====
section
/-!
SUPPORT. Laws/KeptGauze.lean: the operations of Machine/Gauze.lean keep the locked part of the state.
-/
namespace Sys2Proof.Machine

@[simp] theorem State.modGz_kept (s : State) (f : Gauze → Gauze) :
    (State.modGz s f).locked = s.locked := by
  simp [State.modGz]

@[simp] theorem equivFault_kept (s : State) (k : Nat) (seg : Nat) (addr : Nat) (count : Nat) :
    (equivFault s k seg addr count).locked = s.locked := by
  simp [equivFault]

@[simp] theorem auditInterval_kept (s : State) (k : Nat) (at_ : Nat) :
    (auditInterval s k at_).locked = s.locked := by
  unfold auditInterval; try dsimp only
  repeat' split
  all_goals simp_all [apply_ite State.locked, apply_ite Prod.fst, apply_ite Prod.snd]

@[simp] theorem auditDone_kept (s : State) (k : Nat) :
    (auditDone s k).locked = s.locked := by
  simp [auditDone]

@[simp] theorem dropRun_kept (s : State) (p : Run → Bool) :
    (dropRun s p).locked = s.locked := by
  unfold dropRun
  apply foldl_locked
  intro s x
  repeat' split
  all_goals simp

@[simp] theorem abandonAudit_kept (s : State) (k : Nat) :
    (abandonAudit s k).locked = s.locked := by
  unfold abandonAudit; repeat' split
  all_goals simp_all [apply_ite State.locked, apply_ite Prod.fst, apply_ite Prod.snd]

@[simp] theorem abandonAny_kept (s : State) :
    (abandonAny s).locked = s.locked := by
  unfold abandonAny; repeat' split
  all_goals simp_all [apply_ite State.locked, apply_ite Prod.fst, apply_ite Prod.snd]

@[simp] theorem clearEquiv_kept (s : State) (k : Nat) :
    (clearEquiv s k).locked = s.locked := by
  simp [clearEquiv]

@[simp] theorem requestAudit_kept (s : State) (k : Nat) :
    (requestAudit s k).locked = s.locked := by
  simp [requestAudit]

@[simp] theorem setAuden_kept (s : State) (on : Bool) :
    (setAuden s on).locked = s.locked := by
  simp [setAuden]

@[simp] theorem gzCmdWrite_kept (s : State) (w : Word) :
    (gzCmdWrite s w).locked = s.locked := by
  simp [gzCmdWrite]

@[simp] theorem editAccept_kept (s : State) (bs : List Byte) :
    (editAccept s bs).1.locked = s.locked := by
  simp [editAccept, apply_ite State.locked, apply_ite Prod.fst, apply_ite Prod.snd]

@[simp] theorem editApplyItem_kept (s : State) (x : EditItem) :
    (editApplyItem s x).locked = s.locked := by
  simp [editApplyItem]

@[simp] theorem editsApply_kept (s : State) (k : Nat) :
    (editsApply s k).1.locked = s.locked := by
  simp [editsApply, apply_ite State.locked, apply_ite Prod.fst, apply_ite Prod.snd]

@[simp] theorem stageInto_kept (s : State) (n : Nat) (x : Staged) :
    (stageInto s n x).locked = s.locked := by
  simp [stageInto]

@[simp] theorem stageRecord_kept (s : State) (bs : List Byte) :
    (stageRecord s bs).1.locked = s.locked := by
  simp [stageRecord, apply_ite State.locked, apply_ite Prod.fst, apply_ite Prod.snd]

@[simp] theorem stagedLeft_kept (s : State) :
    (stagedLeft s).locked = s.locked := by
  unfold stagedLeft; try dsimp only
  repeat' split
  all_goals simp_all [apply_ite State.locked, apply_ite Prod.fst, apply_ite Prod.snd]

@[simp] theorem stageWithdraw_kept (s : State) (seg : Nat) :
    (stageWithdraw s seg).locked = s.locked := by
  unfold stageWithdraw; try dsimp only
  repeat' split
  all_goals simp_all [apply_ite State.locked, apply_ite Prod.fst, apply_ite Prod.snd]

@[simp] theorem stgnumWrite_kept (s : State) (w : Word) :
    (stgnumWrite s w).locked = s.locked := by
  simp [stgnumWrite]

@[simp] theorem stgSlotWrite_kept (s : State) (f : Staged → Staged) :
    (stgSlotWrite s f).locked = s.locked := by
  simp [stgSlotWrite]

@[simp] theorem stgdataWrite_kept (s : State) (w : Word) :
    (stgdataWrite s w).locked = s.locked := by
  simp [stgdataWrite]

@[simp] theorem stgCommit_kept (s : State) :
    (stgCommit s).1.locked = s.locked := by
  simp [stgCommit, apply_ite State.locked, apply_ite Prod.fst, apply_ite Prod.snd]

@[simp] theorem stgFail_kept (s : State) (err : Nat) (seg : Nat) :
    (stgFail s err seg).locked = s.locked := by
  simp [stgFail]

@[simp] theorem stgStopped_kept (s : State) :
    (stgStopped s).locked = s.locked := by
  simp [stgStopped]

@[simp] theorem stgAbort_kept (s : State) :
    (stgAbort s).locked = s.locked := by
  simp [stgAbort]

@[simp] theorem swapped_kept (s : State) :
    (swapped s).locked = s.locked := by
  simp [swapped]

@[simp] theorem swap_kept (s : State) :
    (swap s).1.locked = s.locked := by
  simp [swap]

end Sys2Proof.Machine
end

