-- ==== Sys2Proof/Laws/KeptSafetyBase.lean ====
section
/-!
SUPPORT. Laws/KeptSafetyBase.lean: the operations of Machine/SafetyBase.lean keep the locked part of the state.
-/
namespace Sys2Proof.Machine

@[simp] theorem State.modSaf_kept (s : State) (f : SafState → SafState) :
    (State.modSaf s f).locked = s.locked := by
  simp [State.modSaf]

@[simp] theorem State.setConn_kept (s : State) (n : Nat) (c : SafConn) :
    (State.setConn s n c).locked = s.locked := by
  simp [State.setConn]

@[simp] theorem State.setAxis_kept (s : State) (a : Nat) (x : SafAxis) :
    (State.setAxis s a x).locked = s.locked := by
  simp [State.setAxis]

@[simp] theorem State.setInput_kept (s : State) (i : Nat) (x : SafInput) :
    (State.setInput s i x).locked = s.locked := by
  simp [State.setInput]

@[simp] theorem State.setSto_kept (s : State) (o : Nat) (x : StoOut) :
    (State.setSto s o x).locked = s.locked := by
  simp [State.setSto]

@[simp] theorem setSafState_kept (s : State) (st : Nat) :
    (setSafState s st).locked = s.locked := by
  simp [setSafState]

@[simp] theorem driveSafety_kept (s : State) :
    (driveSafety s).locked = s.locked := by
  simp [driveSafety]

@[simp] theorem execSafetyFrameSend_kept (s : State) :
    outKept s.locked (execSafetyFrameSend s) := by
  unfold execSafetyFrameSend; repeat' split
  all_goals simp_all [apply_ite State.locked, apply_ite Prod.fst, apply_ite Prod.snd]

@[simp] theorem execSafetySilence_kept (s : State) :
    outKept s.locked (execSafetySilence s) := by
  simp [execSafetySilence]

@[simp] theorem connFail_kept (s : State) (n : Nat) :
    (connFail s n).locked = s.locked := by
  simp [connFail]

@[simp] theorem connReceive_kept (s : State) (n : Nat) (bs : List Byte) :
    (connReceive s n bs).locked = s.locked := by
  simp [connReceive]

@[simp] theorem containerIn_kept (s : State) (key : Nat) (bs : List Byte) :
    (containerIn s key bs).locked = s.locked := by
  simp [containerIn]

@[simp] theorem containersDeliver_kept (s : State) (k : Nat) :
    (containersDeliver s k).locked = s.locked := by
  unfold containersDeliver
  apply foldl_locked
  intro s x
  split
  · simp
  · rfl

@[simp] theorem containerTaken_kept (s : State) (key : Nat) :
    (containerTaken s key).locked = s.locked := by
  unfold containerTaken; repeat' split
  all_goals simp_all [apply_ite State.locked, apply_ite Prod.fst, apply_ite Prod.snd]

@[simp] theorem execConnectionWatchdog_kept (conn : Fin 32) (s : State) :
    outKept s.locked (execConnectionWatchdog conn s) := by
  unfold execConnectionWatchdog; dsimp only; repeat' split
  all_goals simp_all [apply_ite State.locked, apply_ite Prod.fst, apply_ite Prod.snd]

end Sys2Proof.Machine
end

