-- ==== Sys2Proof/Laws/KeptStop.lean ====
section
/-!
SUPPORT. Laws/KeptStop.lean: the operations of Machine/Stop.lean keep the locked part of the state.
-/
namespace Sys2Proof.Machine

@[simp] theorem State.modTsk_kept (s : State) (f : TskState → TskState) :
    (State.modTsk s f).locked = s.locked := by
  simp [State.modTsk]

@[simp] theorem haltEvaluation_kept (s : State) :
    (haltEvaluation s).locked = s.locked := by
  simp [haltEvaluation]

@[simp] theorem finishStop_kept (s : State) :
    (finishStop s).locked = s.locked := by
  simp [finishStop]

@[simp] theorem haltProgram_kept (s : State) :
    (haltProgram s).locked = s.locked := by
  simp [haltProgram]

@[simp] theorem programStop_kept (s : State) (cause : Nat) (k : Nat) :
    (programStop s cause k).locked = s.locked := by
  simp [programStop]

@[simp] theorem stopPreparing_kept (s : State) (cause : Nat) (k : Nat) :
    (stopPreparing s cause k).locked = s.locked := by
  simp [stopPreparing]

@[simp] theorem stopCommand_kept (s : State) :
    (stopCommand s).locked = s.locked := by
  simp [stopCommand]

@[simp] theorem leaveShadow_kept (s : State) (r : Nat) :
    (leaveShadow s r).locked = s.locked := by
  simp [leaveShadow]

@[simp] theorem digestMismatch_kept (s : State) (k : Nat) (cycle : Nat) :
    (digestMismatch s k cycle).locked = s.locked := by
  simp [digestMismatch]

@[simp] theorem digestJudge_kept (s : State) (k : Nat) :
    (digestJudge s k).locked = s.locked := by
  simp [digestJudge]

@[simp] theorem wdWindow_kept (s : State) (t : Nat) :
    (wdWindow s t).locked = s.locked := by
  simp [wdWindow]

@[simp] theorem wdFirst_kept (s : State) (entry : Bool) :
    (wdFirst s entry).locked = s.locked := by
  simp [wdFirst]

@[simp] theorem wdWindowEnd_kept (s : State) :
    (wdWindowEnd s).locked = s.locked := by
  unfold wdWindowEnd; repeat' split
  all_goals simp_all [apply_ite State.locked, apply_ite Prod.fst, apply_ite Prod.snd]

@[simp] theorem wdDue_kept (s : State) :
    (wdDue s).locked = s.locked := by
  unfold wdDue; try dsimp only
  repeat' split
  all_goals simp_all [apply_ite State.locked, apply_ite Prod.fst, apply_ite Prod.snd]

@[simp] theorem checkIn_kept (s : State) (k : Nat) :
    (checkIn s k).locked = s.locked := by
  unfold checkIn; repeat' split
  all_goals simp_all [apply_ite State.locked, apply_ite Prod.fst, apply_ite Prod.snd]

@[simp] theorem autoCheckIn_kept (s : State) (k : Nat) :
    (autoCheckIn s k).locked = s.locked := by
  simp [autoCheckIn]

@[simp] theorem wdMaps_kept (s : State) :
    (wdMaps s).locked = s.locked := by
  unfold wdMaps; try dsimp only
  repeat' split
  all_goals simp_all [apply_ite State.locked, apply_ite Prod.fst, apply_ite Prod.snd]

@[simp] theorem wdctrlWrite_kept (s : State) (w : Word) :
    (wdctrlWrite s w).locked = s.locked := by
  simp [wdctrlWrite]

end Sys2Proof.Machine
end

