-- ==== Sys2Proof/Laws/KeptRelease.lean ====
section
/-!
SUPPORT. Laws/KeptRelease.lean: the operations of Machine/Release.lean keep the locked part of the state.
-/
namespace Sys2Proof.Machine

@[simp] theorem subsRead_kept (s : State) (k : Nat) (g : Nat) :
    (subsRead s k g).locked = s.locked := by
  simp [subsRead]

@[simp] theorem markOne_kept (s : State) (r : Option Nat) (e : Sub) :
    (markOne s r e).locked = s.locked := by
  simp [markOne]

@[simp] theorem markChanges_kept (s : State) (k : Nat) (r : Option Nat) (chg : List (Nat × Nat)) :
    (markChanges s k r chg).locked = s.locked := by
  simp [markChanges]

@[simp] theorem releasePrep_kept (s : State) (k : Nat) (mayEdit : Bool) (maySwap : Bool) :
    (releasePrep s k mayEdit maySwap).s.locked = s.locked := by
  simp [releasePrep, apply_ite State.locked, apply_ite Prod.fst, apply_ite Prod.snd]

@[simp] theorem judgeStations_kept (s : State) (k : Nat) :
    (judgeStations s k).locked = s.locked := by
  simp [judgeStations]

@[simp] theorem markRelease_kept (s : State) (k : Nat) (chg : List (Nat × Nat)) (whole : Bool) (inline : Bool) :
    (markRelease s k chg whole inline).locked = s.locked := by
  simp [markRelease]

@[simp] theorem auditAtRelease_kept (s : State) (k : Nat) (whole : Bool) :
    (auditAtRelease s k whole).locked = s.locked := by
  unfold auditAtRelease; try dsimp only
  repeat' split
  all_goals simp_all [apply_ite State.locked, apply_ite Prod.fst, apply_ite Prod.snd]

@[simp] theorem released_kept (s : State) (k : Nat) (whole : Bool) (inline : Bool) :
    (released s k whole inline).locked = s.locked := by
  simp [released]

@[simp] theorem holdDelta_kept (s : State) (k : Nat) :
    (holdDelta s k).locked = s.locked := by
  unfold holdDelta; repeat' split
  all_goals simp_all [apply_ite State.locked, apply_ite Prod.fst, apply_ite Prod.snd]

@[simp] theorem release_kept (s : State) (k : Nat) :
    (release s k).locked = s.locked := by
  simp [release]

@[simp] theorem releaseIfIn_kept (s : State) (k : Nat) :
    (releaseIfIn s k).locked = s.locked := by
  simp [releaseIfIn]

@[simp] theorem clearCommits_kept (s : State) (k : Nat) :
    (clearCommits s k).locked = s.locked := by
  simp [clearCommits]

@[simp] theorem startExchange_kept (s : State) (k : Nat) :
    (startExchange s k).locked = s.locked := by
  simp [startExchange]

@[simp] theorem queueReads_kept (s : State) (k : Nat) :
    (queueReads s k).locked = s.locked := by
  simp [queueReads]

@[simp] theorem useStations_kept (s : State) (k : Nat) :
    (useStations s k).locked = s.locked := by
  simp [useStations]

@[simp] theorem unpairedEpoch_kept (s : State) :
    (unpairedEpoch s).locked = s.locked := by
  simp [unpairedEpoch]

@[simp] theorem startEvent_kept (s : State) (k : Nat) :
    (startEvent s k).locked = s.locked := by
  simp [startEvent]

@[simp] theorem handoverDone_kept (s : State) :
    (handoverDone s).locked = s.locked := by
  simp [handoverDone]

@[simp] theorem eventToTask_kept (s : State) (k : Nat) :
    (eventToTask s k).locked = s.locked := by
  simp [eventToTask]

@[simp] theorem sampleTask_kept (s : State) (k : Nat) :
    (sampleTask s k).locked = s.locked := by
  simp [sampleTask]

end Sys2Proof.Machine
end

