-- ==== Sys2Proof/Laws/KeptEval.lean ====
section
/-!
SUPPORT. Laws/KeptEval.lean: the operations of Machine/Eval.lean keep the locked part of the state.
-/
namespace Sys2Proof.Machine

@[simp] theorem cacheMeet_kept (s : State) (c : Nat) (seg : Nat) :
    (cacheMeet s c seg).locked = s.locked := by
  simp [cacheMeet, apply_ite State.locked, apply_ite Prod.fst, apply_ite Prod.snd]

@[simp] theorem startRun_kept (s : State) (u : Nat) (seg : Nat) (k : Nat) (audit : Bool) (time : Nat) :
    (startRun s u seg k audit time).locked = s.locked := by
  simp [startRun]

@[simp] theorem yieldAudit_kept (s : State) (u : Nat) :
    (yieldAudit s u).locked = s.locked := by
  unfold yieldAudit; repeat' split
  all_goals simp_all [apply_ite State.locked, apply_ite Prod.fst, apply_ite Prod.snd]

@[simp] theorem giveSegment_kept (s : State) (k : Nat) (seg : Nat) :
    (giveSegment s k seg).locked = s.locked := by
  unfold giveSegment; repeat' split
  all_goals simp_all [apply_ite State.locked, apply_ite Prod.fst, apply_ite Prod.snd]

@[simp] theorem fill_kept (s : State) :
    (fill s).locked = s.locked := by
  simp [fill]

@[simp] theorem applyByte_kept (s : State) (a : Nat) (b : Byte) :
    (applyByte s a b).locked = s.locked := by
  unfold applyByte; repeat' split
  all_goals simp_all [apply_ite State.locked, apply_ite Prod.fst, apply_ite Prod.snd]

@[simp] theorem inlineCompare_kept (s : State) (k : Nat) (rs : List Run) :
    (inlineCompare s k rs).locked = s.locked := by
  unfold inlineCompare; dsimp only
  apply foldl_locked
  intro s x
  repeat' split
  all_goals simp

@[simp] theorem runMarks_kept (s : State) (r : Run) :
    (runMarks s r).locked = s.locked := by
  simp [runMarks]

@[simp] theorem commitRank_kept (s : State) (k : Nat) :
    (commitRank s k).locked = s.locked := by
  simp [commitRank]

@[simp] theorem strikeMiss_kept (s : State) (k : Nat) :
    (strikeMiss s k).locked = s.locked := by
  simp [strikeMiss]

@[simp] theorem formTransmit_kept (s : State) (k : Nat) :
    (formTransmit s k).locked = s.locked := by
  simp [formTransmit]

@[simp] theorem publishPub_kept (s : State) (p : Pub) :
    (publishPub s p).locked = s.locked := by
  unfold publishPub; try dsimp only
  repeat' split
  all_goals simp_all [apply_ite State.locked, apply_ite Prod.fst, apply_ite Prod.snd]

@[simp] theorem publish_kept (s : State) (k : Nat) :
    (publish s k).locked = s.locked := by
  simp [publish]

@[simp] theorem publishOutputs_kept (s : State) (k : Nat) :
    (publishOutputs s k).locked = s.locked := by
  unfold publishOutputs; try dsimp only
  repeat' split
  all_goals simp_all [apply_ite State.locked, apply_ite Prod.fst, apply_ite Prod.snd]

@[simp] theorem queueWrites_kept (s : State) (k : Nat) :
    (queueWrites s k).locked = s.locked := by
  simp [queueWrites]

@[simp] theorem loopsRecord_kept (s : State) (k : Nat) :
    (loopsRecord s k).locked = s.locked := by
  simp [loopsRecord]

@[simp] theorem inlineVerdict_kept (s : State) (k : Nat) :
    (inlineVerdict s k).locked = s.locked := by
  simp [inlineVerdict]

@[simp] theorem evalCounts_kept (s : State) (k : Nat) :
    (evalCounts s k).locked = s.locked := by
  simp [evalCounts]

@[simp] theorem shadowMiss_kept (s : State) (k : Nat) :
    (shadowMiss s k).locked = s.locked := by
  simp [shadowMiss]

@[simp] theorem strikePublish_kept (s : State) (k : Nat) :
    (strikePublish s k).locked = s.locked := by
  simp [strikePublish]

@[simp] theorem strike_kept (s : State) (k : Nat) :
    (strike s k).locked = s.locked := by
  simp [strike]

@[simp] theorem publishDue_kept (s : State) (t : Nat) :
    (publishDue s t).locked = s.locked := by
  unfold publishDue; try dsimp only
  repeat' split
  all_goals simp_all [apply_ite State.locked, apply_ite Prod.fst, apply_ite Prod.snd]

@[simp] theorem endCyclic_kept (s : State) (k : Nat) :
    (endCyclic s k).locked = s.locked := by
  simp [endCyclic]

@[simp] theorem endEvent_kept (s : State) (k : Nat) :
    (endEvent s k).locked = s.locked := by
  simp [endEvent]

@[simp] theorem endOfEval_kept (s : State) (k : Nat) :
    (endOfEval s k).locked = s.locked := by
  simp [endOfEval]

@[simp] theorem advance_kept (s : State) (k : Nat) (x2 : Nat) :
    (advance s k x2).locked = s.locked := by
  induction x2 generalizing s with
  | zero => simp [advance]
  | succ n ih =>
    unfold advance; dsimp only; repeat' split
    all_goals simp [ih]

@[simp] theorem auditNext_kept (s : State) :
    (auditNext s).locked = s.locked := by
  unfold auditNext; repeat' split
  all_goals simp_all [apply_ite State.locked, apply_ite Prod.fst, apply_ite Prod.snd]

@[simp] theorem goOn_kept (s : State) (k : Nat) :
    (goOn s k).locked = s.locked := by
  simp [goOn]

@[simp] theorem beginEval_kept (s : State) (k : Nat) :
    (beginEval s k).locked = s.locked := by
  simp [beginEval]

@[simp] theorem countHandshakes_kept (s : State) (u : Nat) :
    (countHandshakes s u).locked = s.locked := by
  simp [countHandshakes]

@[simp] theorem runEnd_kept (s : State) (u : Nat) :
    (runEnd s u).locked = s.locked := by
  unfold runEnd; repeat' split
  all_goals simp_all [apply_ite State.locked, apply_ite Prod.fst, apply_ite Prod.snd]

@[simp] theorem runFault_kept (s : State) (u : Nat) (code : Nat) :
    (runFault s u code).locked = s.locked := by
  unfold runFault; repeat' split
  all_goals simp_all [apply_ite State.locked, apply_ite Prod.fst, apply_ite Prod.snd]

@[simp] theorem auditFinish_kept (s : State) :
    (auditFinish s).locked = s.locked := by
  unfold auditFinish; repeat' split
  all_goals simp_all [apply_ite State.locked, apply_ite Prod.fst, apply_ite Prod.snd]

end Sys2Proof.Machine
end

