-- ==== Sys2Proof/Laws/KeptPrepare.lean ====
section
/-!
SUPPORT. Laws/KeptPrepare.lean: the operations of Machine/Prepare.lean keep the locked part of the state.
-/
namespace Sys2Proof.Machine

@[simp] theorem wdgCtrlWrite_kept (s : State) (w : Word) :
    (wdgCtrlWrite s w).locked = s.locked := by
  simp [wdgCtrlWrite]

@[simp] theorem wdgApply_kept (s : State) (long : Bool) :
    (wdgApply s long).locked = s.locked := by
  simp [wdgApply]

@[simp] theorem startCommand_kept (s : State) (cold : Bool) (firmware : Bool) :
    (startCommand s cold firmware).1.locked = s.locked := by
  simp [startCommand, apply_ite State.locked, apply_ite Prod.fst, apply_ite Prod.snd]

@[simp] theorem stopRequest_kept (s : State) :
    (stopRequest s).1.locked = s.locked := by
  simp [stopRequest, apply_ite State.locked, apply_ite Prod.fst, apply_ite Prod.snd]

@[simp] theorem showBudget_kept (s : State) :
    (showBudget s).locked = s.locked := by
  simp [showBudget]

@[simp] theorem startImage_kept (s : State) :
    (startImage s).locked = s.locked := by
  unfold startImage; dsimp only; repeat' split
  all_goals simp_all [apply_ite State.locked, apply_ite Prod.fst, apply_ite Prod.snd]

@[simp] theorem setRecWord_kept (s : State) (a : Nat) (w : Word) :
    (setRecWord s a w).locked = s.locked := by
  simp [setRecWord]

@[simp] theorem shiftTimers_kept (s : State) (tRun : Nat) :
    (shiftTimers s tRun).locked = s.locked := by
  unfold shiftTimers; dsimp only
  apply foldl_locked
  intro s x
  repeat' split
  all_goals simp

@[simp] theorem loopsFromBank_kept (s : State) :
    (loopsFromBank s).locked = s.locked := by
  simp [loopsFromBank]

@[simp] theorem startGauze_kept (s : State) :
    (startGauze s).locked = s.locked := by
  simp [startGauze]

@[simp] theorem startTasks_kept (s : State) :
    (startTasks s).locked = s.locked := by
  simp [startTasks]

@[simp] theorem tasksFromBank_kept (s : State) :
    (tasksFromBank s).locked = s.locked := by
  unfold tasksFromBank; try dsimp only
  repeat' split
  all_goals simp_all [apply_ite State.locked, apply_ite Prod.fst, apply_ite Prod.snd]

@[simp] theorem setUp_kept (s : State) :
    (setUp s).locked = s.locked := by
  simp [setUp]

@[simp] theorem programClaim_kept (s : State) :
    (programClaim s).1.locked = s.locked := by
  simp [programClaim]

@[simp] theorem execPreparingEnd_kept (s : State) :
    outKept s.locked (execPreparingEnd s) := by
  unfold execPreparingEnd; dsimp only; repeat' split
  all_goals simp_all [apply_ite State.locked, apply_ite Prod.fst, apply_ite Prod.snd]

@[simp] theorem execProgramRunningEntry_kept (s : State) :
    outKept s.locked (execProgramRunningEntry s) := by
  unfold execProgramRunningEntry; repeat' split
  all_goals simp_all [apply_ite State.locked, apply_ite Prod.fst, apply_ite Prod.snd]

end Sys2Proof.Machine
end

