-- ==== Sys2Proof/Laws/KeptCycle.lean ====
section
/-!
SUPPORT. Laws/KeptCycle.lean: the operations of Machine/Cycle.lean keep the locked part of the state.
-/
namespace Sys2Proof.Machine

@[simp] theorem execStrikeInstant_kept (task : Fin 16) (s : State) :
    outKept s.locked (execStrikeInstant task s) := by
  unfold execStrikeInstant; repeat' split
  all_goals simp_all [apply_ite State.locked, apply_ite Prod.fst, apply_ite Prod.snd]

@[simp] theorem execStrikeMiss_kept (task : Fin 16) (s : State) :
    outKept s.locked (execStrikeMiss task s) := by
  unfold execStrikeMiss; dsimp only; repeat' split
  all_goals simp_all [apply_ite State.locked, apply_ite Prod.fst, apply_ite Prod.snd]

@[simp] theorem shadowSample_kept (s : State) (k : Nat) :
    (shadowSample s k).locked = s.locked := by
  simp [shadowSample]

@[simp] theorem skipSample_kept (s : State) (k : Nat) :
    (skipSample s k).locked = s.locked := by
  simp [skipSample]

@[simp] theorem execSampleInstant_kept (task : Fin 16) (s : State) :
    outKept s.locked (execSampleInstant task s) := by
  unfold execSampleInstant; dsimp only; repeat' split
  all_goals simp_all [apply_ite State.locked, apply_ite Prod.fst, apply_ite Prod.snd]

@[simp] theorem publishHeld_kept (s : State) :
    (publishHeld s).locked = s.locked := by
  simp [publishHeld]

@[simp] theorem execExchangeCopyComplete_kept (task : TaskId) (s : State) :
    outKept s.locked (execExchangeCopyComplete task s) := by
  unfold execExchangeCopyComplete; dsimp only; repeat' split
  all_goals simp_all [apply_ite State.locked, apply_ite Prod.fst, apply_ite Prod.snd]

@[simp] theorem execInputDeadline_kept (task : Fin 16) (s : State) :
    outKept s.locked (execInputDeadline task s) := by
  unfold execInputDeadline; dsimp only; repeat' split
  all_goals simp_all [apply_ite State.locked, apply_ite Prod.fst, apply_ite Prod.snd]

@[simp] theorem execReleaseComplete_kept (task : TaskId) (s : State) :
    outKept s.locked (execReleaseComplete task s) := by
  unfold execReleaseComplete; dsimp only; repeat' split
  all_goals simp_all [apply_ite State.locked, apply_ite Prod.fst, apply_ite Prod.snd]

@[simp] theorem execEventTaskReleaseTimeout_kept (task : TaskId) (s : State) :
    outKept s.locked (execEventTaskReleaseTimeout task s) := by
  unfold execEventTaskReleaseTimeout; dsimp only; repeat' split
  all_goals simp_all [apply_ite State.locked, apply_ite Prod.fst, apply_ite Prod.snd]

@[simp] theorem execExecutionTimeExceeded_kept (task : TaskId) (s : State) :
    outKept s.locked (execExecutionTimeExceeded task s) := by
  unfold execExecutionTimeExceeded; dsimp only; repeat' split
  all_goals simp_all [apply_ite State.locked, apply_ite Prod.fst, apply_ite Prod.snd]

@[simp] theorem execLocalInputDelivery_kept (task : TaskId) (s : State) :
    outKept s.locked (execLocalInputDelivery task s) := by
  unfold execLocalInputDelivery; dsimp only; repeat' split
  all_goals simp_all [apply_ite State.locked, apply_ite Prod.fst, apply_ite Prod.snd]

@[simp] theorem execLoopExecutionComplete_kept (unit : Fin 4) (s : State) :
    outKept s.locked (execLoopExecutionComplete unit s) := by
  unfold execLoopExecutionComplete; repeat' split
  all_goals simp_all [apply_ite State.locked, apply_ite Prod.fst, apply_ite Prod.snd]

@[simp] theorem execLoopSampleInstant_kept (loop : Fin 4096) (s : State) :
    outKept s.locked (execLoopSampleInstant loop s) := by
  unfold execLoopSampleInstant; dsimp only; repeat' split
  all_goals simp_all [apply_ite State.locked, apply_ite Prod.fst, apply_ite Prod.snd]

@[simp] theorem execLoopPublication_kept (loop : Fin 4096) (s : State) :
    outKept s.locked (execLoopPublication loop s) := by
  unfold execLoopPublication; repeat' split
  all_goals simp_all [apply_ite State.locked, apply_ite Prod.fst, apply_ite Prod.snd]

@[simp] theorem execTaskWatchdogWindowEnd_kept (s : State) :
    outKept s.locked (execTaskWatchdogWindowEnd s) := by
  unfold execTaskWatchdogWindowEnd; repeat' split
  all_goals simp_all [apply_ite State.locked, apply_ite Prod.fst, apply_ite Prod.snd]

@[simp] theorem eventToGauze_kept (s : State) (n : Nat) :
    (eventToGauze s n).locked = s.locked := by
  simp [eventToGauze]

@[simp] theorem deliver_kept (s : State) (n : Nat) (d : Nat) :
    (deliver s n d).locked = s.locked := by
  simp [deliver]

@[simp] theorem execEventDelivery_kept (src : Fin 128) (s : State) :
    outKept s.locked (execEventDelivery src s) := by
  unfold execEventDelivery; dsimp only; repeat' split
  all_goals simp_all [apply_ite State.locked, apply_ite Prod.fst, apply_ite Prod.snd]

@[simp] theorem execFieldSideUpdate_kept (lowCurrent : Word) (cooled : Word) (vfieldMv : Nat) (s : State) :
    outKept s.locked (execFieldSideUpdate lowCurrent cooled vfieldMv s) := by
  simp [execFieldSideUpdate]

@[simp] theorem execIdleAuditStart_kept (task : TaskId) (s : State) :
    outKept s.locked (execIdleAuditStart task s) := by
  unfold execIdleAuditStart; dsimp only; repeat' split
  all_goals simp_all [apply_ite State.locked, apply_ite Prod.fst, apply_ite Prod.snd]

@[simp] theorem execAuditRunEnd_kept (unit : UnitId) (s : State) :
    outKept s.locked (execAuditRunEnd unit s) := by
  unfold execAuditRunEnd; dsimp only; repeat' split
  all_goals simp_all [apply_ite State.locked, apply_ite Prod.fst, apply_ite Prod.snd]

@[simp] theorem nextSlice_kept (s : State) (d : Duty) (est : Nat) :
    (nextSlice s d est).locked = s.locked := by
  unfold nextSlice; try dsimp only
  repeat' split
  all_goals simp_all [apply_ite State.locked, apply_ite Prod.fst, apply_ite Prod.snd]

@[simp] theorem execSliceGrant_kept (duty : Duty) (estUj : Nat) (s : State) :
    outKept s.locked (execSliceGrant duty estUj s) := by
  unfold execSliceGrant; repeat' split
  all_goals simp_all [apply_ite State.locked, apply_ite Prod.fst, apply_ite Prod.snd]

end Sys2Proof.Machine
end

