-- ==== Sys2Proof/Laws/KeptJurnoBase.lean ====
section
/-!
SUPPORT. Laws/KeptJurnoBase.lean: the operations of Machine/JurnoBase.lean keep the locked part of the state.
-/
namespace Sys2Proof.Machine

@[simp] theorem State.modJrn_kept (s : State) (f : JrnState → JrnState) :
    (State.modJrn s f).locked = s.locked := by
  simp [State.modJrn]

@[simp] theorem setSession_kept (s : State) (slot : Nat) (x : Option JSess) :
    (setSession s slot x).locked = s.locked := by
  simp [setSession]

@[simp] theorem keepAnswer_kept (s : State) (sid : Nat) (seq : Nat) (m : JMsg) :
    (keepAnswer s sid seq m).locked = s.locked := by
  unfold keepAnswer; repeat' split
  all_goals simp_all [apply_ite State.locked, apply_ite Prod.fst, apply_ite Prod.snd]

@[simp] theorem sendTo_kept (s : State) (src : JSrc) (m : JMsg) :
    (sendTo s src m).locked = s.locked := by
  unfold sendTo; repeat' split
  all_goals simp_all [apply_ite State.locked, apply_ite Prod.fst, apply_ite Prod.snd]

@[simp] theorem endSession_kept (s : State) (src : JSrc) :
    (endSession s src).locked = s.locked := by
  unfold endSession; repeat' split
  all_goals simp_all [apply_ite State.locked, apply_ite Prod.fst, apply_ite Prod.snd]

@[simp] theorem answer_kept (s : State) (q : JReq) (m : JMsg) :
    (answer s q m).locked = s.locked := by
  unfold answer; repeat' split
  all_goals simp_all [apply_ite State.locked, apply_ite Prod.fst, apply_ite Prod.snd]

@[simp] theorem answerStatus_kept (s : State) (q : JReq) (status : Nat) :
    (answerStatus s q status).locked = s.locked := by
  simp [answerStatus]

@[simp] theorem answerRetry_kept (s : State) (q : JReq) (status : Nat) (ms : Nat) :
    (answerRetry s q status ms).locked = s.locked := by
  simp [answerRetry]

@[simp] theorem answerRouted_kept (s : State) (q : JReq) (bs : List Byte) :
    (answerRouted s q bs).locked = s.locked := by
  simp [answerRouted]

@[simp] theorem answerFailed_kept (s : State) (t : Tx) :
    (answerFailed s t).locked = s.locked := by
  unfold answerFailed; repeat' split
  all_goals simp_all [apply_ite State.locked, apply_ite Prod.fst, apply_ite Prod.snd]

@[simp] theorem postedStep_kept (s : State) (fail : Bool) :
    (postedStep s fail).locked = s.locked := by
  unfold postedStep; dsimp only; repeat' split
  all_goals simp_all [apply_ite State.locked, apply_ite Prod.fst, apply_ite Prod.snd]

@[simp] theorem execPostedWriteComplete_kept (verifyFail : Bool) (s : State) :
    outKept s.locked (execPostedWriteComplete verifyFail s) := by
  unfold execPostedWriteComplete; repeat' split
  all_goals simp_all [apply_ite State.locked, apply_ite Prod.fst, apply_ite Prod.snd]

@[simp] theorem postedAll_kept (s : State) (x1 : Nat) :
    (postedAll s x1).locked = s.locked := by
  induction x1 generalizing s with
  | zero => rfl
  | succ n ih => unfold postedAll; simp [ih]

end Sys2Proof.Machine
end

