-- ==== Sys2Proof/Laws/KeptCompletion.lean ====
section
/-!
SUPPORT. Laws/KeptCompletion.lean: the operations of Machine/Completion.lean keep the locked part of the state.
-/
namespace Sys2Proof.Machine

@[simp] theorem cancelAll_kept (s : State) :
    (cancelAll s).locked = s.locked := by
  simp [cancelAll]

@[simp] theorem demote_kept (s : State) :
    (demote s).locked = s.locked := by
  simp [demote]

@[simp] theorem superseded_kept (s : State) (epoch : Nat) :
    (superseded s epoch).locked = s.locked := by
  simp [superseded]

@[simp] theorem configStep_kept (s : State) (key : Nat) (step : Nat) :
    (configStep s key step).locked = s.locked := by
  unfold configStep; try dsimp only
  repeat' split
  all_goals simp_all [apply_ite State.locked, apply_ite Prod.fst, apply_ite Prod.snd]

@[simp] theorem lostEvent_kept (s : State) (key : Nat) (was : Bool) :
    (lostEvent s key was).locked = s.locked := by
  unfold lostEvent; try dsimp only
  repeat' split
  all_goals simp_all [apply_ite State.locked, apply_ite Prod.fst, apply_ite Prod.snd]

@[simp] theorem foundStation_kept (s : State) (key : Nat) (f : Option StnIdent) :
    (foundStation s key f).locked = s.locked := by
  unfold foundStation; repeat' split
  all_goals simp_all [apply_ite State.locked, apply_ite Prod.fst, apply_ite Prod.snd]

@[simp] theorem srwEnded_kept (s : State) (t : Tx) (ok : Bool) (data : List Byte) :
    (srwEnded s t ok data).locked = s.locked := by
  unfold srwEnded; try dsimp only
  repeat' split
  all_goals simp_all [apply_ite State.locked, apply_ite Prod.fst, apply_ite Prod.snd]

@[simp] theorem readCompleted_kept (s : State) (t : Tx) (data : List Byte) :
    (readCompleted s t data).locked = s.locked := by
  simp [readCompleted]

@[simp] theorem endTx_kept (s : State) (t : Tx) (ok : Bool) (data : List Byte) :
    (endTx s t ok data).locked = s.locked := by
  unfold endTx; repeat' split
  all_goals simp_all [apply_ite State.locked, apply_ite Prod.fst, apply_ite Prod.snd]

@[simp] theorem completeTx_kept (s : State) (tag : Nat) (f : PFrame) :
    (completeTx s tag f).locked = s.locked := by
  simp [completeTx]

@[simp] theorem strayCopy_kept (s : State) (tag : Nat) (gen : Nat) :
    (strayCopy s tag gen).locked = s.locked := by
  simp [strayCopy]

@[simp] theorem execCopyReturn_kept (ring : RingId) (port : Bool) (fcsOk : Bool) (frame : PFrame) (s : State) :
    outKept s.locked (execCopyReturn ring port fcsOk frame s) := by
  unfold execCopyReturn; dsimp only; repeat' split
  all_goals simp_all [apply_ite State.locked, apply_ite Prod.fst, apply_ite Prod.snd]

@[simp] theorem expireTx_kept (s : State) (t : Tx) :
    (expireTx s t).locked = s.locked := by
  simp [expireTx]

@[simp] theorem execTransactionExpiry_kept (target : TxTarget) (s : State) :
    outKept s.locked (execTransactionExpiry target s) := by
  unfold execTransactionExpiry; dsimp only; repeat' split
  all_goals simp_all [apply_ite State.locked, apply_ite Prod.fst, apply_ite Prod.snd]

end Sys2Proof.Machine
end

