-- ==== Sys2Proof/Laws/KeptReset.lean ====
section
/-!
SUPPORT. Laws/KeptReset.lean: the operations of Machine/Reset.lean keep the locked part of the state.
-/
namespace Sys2Proof.Machine

@[simp] theorem State.modBoot_kept (s : State) (f : BootState → BootState) (h : (f s.boot).fuse = s.boot.fuse) :
    (State.modBoot s f).locked = s.locked := by
  simp [State.modBoot, h]

@[simp] theorem State.modFrz_kept (s : State) (f : FrzState → FrzState) :
    (State.modFrz s f).locked = s.locked := by
  simp [State.modFrz]

@[simp] theorem State.modWdg_kept (s : State) (f : WdgState → WdgState) :
    (State.modWdg s f).locked = s.locked := by
  simp [State.modWdg]

@[simp] theorem inReset_kept (s : State) (sources : Nat) :
    (inReset s sources).locked = s.locked := by
  simp [inReset, NvState.kept]

@[simp] theorem moduleReset_kept (s : State) (source : Nat) :
    (moduleReset s source).locked = s.locked := by
  simp [moduleReset]

@[simp] theorem tornSave_kept (s : State) :
    (tornSave s).locked = s.locked := by
  unfold tornSave; dsimp only; repeat' split
  all_goals simp_all [apply_ite State.locked, apply_ite Prod.fst, apply_ite Prod.snd]

@[simp] theorem tornRecord_kept (s : State) :
    (tornRecord s).locked = s.locked := by
  unfold tornRecord; repeat' split
  all_goals simp_all [apply_ite State.locked, apply_ite Prod.fst, apply_ite Prod.snd]

@[simp] theorem openFlash_kept (s : State) (off : Nat) (n : Nat) :
    (openFlash s off n).locked = s.locked := by
  simp [openFlash]

@[simp] theorem tornFlash_kept (s : State) :
    (tornFlash s).locked = s.locked := by
  unfold tornFlash; repeat' split
  all_goals simp_all [apply_ite State.locked, apply_ite Prod.fst, apply_ite Prod.snd]

@[simp] theorem powerDown_kept (s : State) :
    (powerDown s).locked = s.locked := by
  simp [powerDown]

@[simp] theorem execPowerLoss_kept (s : State) :
    outKept s.locked (execPowerLoss s) := by
  simp [execPowerLoss]

@[simp] theorem execPowerOn_kept (s : State) :
    outKept s.locked (execPowerOn s) := by
  simp [execPowerOn]

@[simp] theorem execResetN_kept (s : State) :
    outKept s.locked (execResetN s) := by
  unfold execResetN; repeat' split
  all_goals simp_all [apply_ite State.locked, apply_ite Prod.fst, apply_ite Prod.snd]

@[simp] theorem swrstWrite_kept (s : State) (w : Word) :
    (swrstWrite s w).locked = s.locked := by
  simp [swrstWrite]

@[simp] theorem watchdogExpire_kept (s : State) (cause : Nat) :
    (watchdogExpire s cause).locked = s.locked := by
  simp [watchdogExpire]

@[simp] theorem wdgKeyWrite_kept (s : State) (w : Word) :
    (wdgKeyWrite s w).locked = s.locked := by
  simp [wdgKeyWrite]

@[simp] theorem execWdgPairWindowTimeout_kept (s : State) :
    outKept s.locked (execWdgPairWindowTimeout s) := by
  unfold execWdgPairWindowTimeout; repeat' split
  all_goals simp_all [apply_ite State.locked, apply_ite Prod.fst, apply_ite Prod.snd]

@[simp] theorem execWatchdogExpiry_kept (s : State) :
    outKept s.locked (execWatchdogExpiry s) := by
  unfold execWatchdogExpiry; repeat' split
  all_goals simp_all [apply_ite State.locked, apply_ite Prod.fst, apply_ite Prod.snd]

@[simp] theorem execClockStop_kept (rc : Bool) (s : State) :
    outKept s.locked (execClockStop rc s) := by
  unfold execClockStop; repeat' split
  all_goals simp_all [apply_ite State.locked, apply_ite Prod.fst, apply_ite Prod.snd]

@[simp] theorem wdgPause_kept (s : State) :
    (wdgPause s).locked = s.locked := by
  simp [wdgPause]

@[simp] theorem execFreezeN_kept (s : State) :
    outKept s.locked (execFreezeN s) := by
  unfold execFreezeN; dsimp only; repeat' split
  all_goals simp_all [apply_ite State.locked, apply_ite Prod.fst, apply_ite Prod.snd]

@[simp] theorem canCut_kept (s : State) (m : Nat) :
    (canCut s m).locked = s.locked := by
  unfold canCut; dsimp only; repeat' split
  all_goals simp_all [apply_ite State.locked, apply_ite Prod.fst, apply_ite Prod.snd]

@[simp] theorem execFreezeHalt_kept (s : State) :
    outKept s.locked (execFreezeHalt s) := by
  unfold execFreezeHalt; repeat' split
  all_goals simp_all [apply_ite State.locked, apply_ite Prod.fst, apply_ite Prod.snd]

@[simp] theorem wtuResume_kept (s : State) (u : Nat) :
    (wtuResume s u).locked = s.locked := by
  simp [wtuResume]

@[simp] theorem freezeRelease_kept (s : State) :
    (freezeRelease s).locked = s.locked := by
  unfold freezeRelease; dsimp only; repeat' split
  all_goals simp_all [apply_ite State.locked, apply_ite Prod.fst, apply_ite Prod.snd]

@[simp] theorem execFreezeLimitExpiry_kept (s : State) :
    outKept s.locked (execFreezeLimitExpiry s) := by
  unfold execFreezeLimitExpiry; dsimp only; repeat' split
  all_goals simp_all [apply_ite State.locked, apply_ite Prod.fst, apply_ite Prod.snd]

@[simp] theorem execFreezeNRise_kept (s : State) :
    outKept s.locked (execFreezeNRise s) := by
  unfold execFreezeNRise; dsimp only; repeat' split
  all_goals simp_all [apply_ite State.locked, apply_ite Prod.fst, apply_ite Prod.snd]

@[simp] theorem quietStop_kept (s : State) :
    (quietStop s).locked = s.locked := by
  simp [quietStop]

@[simp] theorem execLinksUpAfterRelease_kept (links : BitVec 8) (s : State) :
    outKept s.locked (execLinksUpAfterRelease links s) := by
  unfold execLinksUpAfterRelease; repeat' split
  all_goals simp_all [apply_ite State.locked, apply_ite Prod.fst, apply_ite Prod.snd]

@[simp] theorem tapSelect_kept (s : State) (ir : TapIr) (dr : Nat) :
    (tapSelect s ir dr).locked = s.locked := by
  simp [tapSelect]

@[simp] theorem execExtest_kept (s : State) :
    outKept s.locked (execExtest s) := by
  unfold execExtest; repeat' split
  all_goals simp_all [apply_ite State.locked, apply_ite Prod.fst, apply_ite Prod.snd]

@[simp] theorem execSamplePreload_kept (s : State) :
    outKept s.locked (execSamplePreload s) := by
  simp [execSamplePreload]

@[simp] theorem execFzstat_kept (s : State) :
    outKept s.locked (execFzstat s) := by
  simp [execFzstat]

@[simp] theorem execFzaddr_kept (value : BitVec 40) (s : State) :
    outKept s.locked (execFzaddr value s) := by
  unfold execFzaddr; repeat' split
  all_goals simp_all [apply_ite State.locked, apply_ite Prod.fst, apply_ite Prod.snd]

@[simp] theorem execFzdata_kept (s : State) :
    outKept s.locked (execFzdata s) := by
  unfold execFzdata; repeat' split
  all_goals simp_all [apply_ite State.locked, apply_ite Prod.fst, apply_ite Prod.snd]

@[simp] theorem execFzrel_kept (s : State) :
    outKept s.locked (execFzrel s) := by
  unfold execFzrel; dsimp only; repeat' split
  all_goals simp_all [apply_ite State.locked, apply_ite Prod.fst, apply_ite Prod.snd]

@[simp] theorem execBypass_kept (s : State) :
    outKept s.locked (execBypass s) := by
  simp [execBypass]

@[simp] theorem execThermalShutdown_kept (s : State) :
    outKept s.locked (execThermalShutdown s) := by
  unfold execThermalShutdown; repeat' split
  all_goals simp_all [apply_ite State.locked, apply_ite Prod.fst, apply_ite Prod.snd]

@[simp] theorem execThermalResetRelease_kept (temps : List Int) (s : State) :
    outKept s.locked (execThermalResetRelease temps s) := by
  unfold execThermalResetRelease; repeat' split
  all_goals simp_all [apply_ite State.locked, apply_ite Prod.fst, apply_ite Prod.snd]

@[simp] theorem powerFailStop_kept (s : State) :
    (powerFailStop s).locked = s.locked := by
  simp [powerFailStop]

@[simp] theorem execPowerFailWarning_kept (s : State) :
    outKept s.locked (execPowerFailWarning s) := by
  unfold execPowerFailWarning; dsimp only; repeat' split
  all_goals simp_all [apply_ite State.locked, apply_ite Prod.fst, apply_ite Prod.snd]

@[simp] theorem execSaveComplete_kept (s : State) :
    outKept s.locked (execSaveComplete s) := by
  unfold execSaveComplete; repeat' split
  all_goals simp_all [apply_ite State.locked, apply_ite Prod.fst, apply_ite Prod.snd]

end Sys2Proof.Machine
end

