-- ==== Sys2Proof/Laws/KeptStandby.lean ====
section
/-!
SUPPORT. Laws/KeptStandby.lean: the operations of Machine/Standby.lean keep the locked part of the state.
-/
namespace Sys2Proof.Machine

@[simp] theorem autoStartNow_kept (s : State) :
    (autoStartNow s).locked = s.locked := by
  simp [autoStartNow]

@[simp] theorem takeCharge_kept (s : State) :
    (takeCharge s).locked = s.locked := by
  simp [takeCharge]

@[simp] theorem execEnumerationComplete_kept (ring : RingId) (spent : Nat) (s : State) :
    outKept s.locked (execEnumerationComplete ring spent s) := by
  unfold execEnumerationComplete; try dsimp only
  repeat' split
  all_goals simp_all [apply_ite State.locked, apply_ite Prod.fst, apply_ite Prod.snd]

@[simp] theorem nowActive_kept (s : State) :
    (nowActive s).locked = s.locked := by
  simp [nowActive]

@[simp] theorem becomeActive_kept (s : State) :
    (becomeActive s).locked = s.locked := by
  simp [becomeActive]

@[simp] theorem adoptStations_kept (s : State) :
    (adoptStations s).locked = s.locked := by
  simp [adoptStations]

@[simp] theorem adoptCycle_kept (s : State) (k : Nat) :
    (adoptCycle s k).locked = s.locked := by
  simp [adoptCycle]

@[simp] theorem failover_kept (s : State) :
    (failover s).locked = s.locked := by
  unfold failover; dsimp only; repeat' split
  all_goals simp_all [apply_ite State.locked, apply_ite Prod.fst, apply_ite Prod.snd]

@[simp] theorem noticeIn_kept (s : State) (code : Nat) :
    (noticeIn s code).locked = s.locked := by
  simp [noticeIn]

@[simp] theorem execHeartbeatSend_kept (s : State) :
    outKept s.locked (execHeartbeatSend s) := by
  unfold execHeartbeatSend; repeat' split
  all_goals simp_all [apply_ite State.locked, apply_ite Prod.fst, apply_ite Prod.snd]

@[simp] theorem followTime_kept (s : State) (p : Partner) :
    (followTime s p).locked = s.locked := by
  unfold followTime; try dsimp only
  repeat' split
  all_goals simp_all [apply_ite State.locked, apply_ite Prod.fst, apply_ite Prod.snd]

@[simp] theorem pathHeard_kept (s : State) (path : Nat) (p : Partner) :
    (pathHeard s path p).locked = s.locked := by
  simp [pathHeard]

@[simp] theorem followActive_kept (s : State) (p : Partner) :
    (followActive s p).locked = s.locked := by
  simp [followActive]

@[simp] theorem copyFor_kept (s : State) (p : Partner) :
    (copyFor s p).locked = s.locked := by
  simp [copyFor]

@[simp] theorem listen_kept (s : State) (p : Partner) :
    (listen s p).locked = s.locked := by
  simp [listen]

@[simp] theorem heard485_kept (s : State) (path : Nat) :
    (heard485 s path).locked = s.locked := by
  unfold heard485; try dsimp only
  repeat' split
  all_goals simp_all [apply_ite State.locked, apply_ite Prod.fst, apply_ite Prod.snd]

@[simp] theorem execHeartbeatReceive_kept (path : Fin 2) (bytes : List Byte) (s : State) :
    outKept s.locked (execHeartbeatReceive path bytes s) := by
  unfold execHeartbeatReceive; repeat' split
  all_goals simp_all [apply_ite State.locked, apply_ite Prod.fst, apply_ite Prod.snd]

@[simp] theorem execNoticeReceive_kept (path : Fin 2) (bytes : List Byte) (s : State) :
    outKept s.locked (execNoticeReceive path bytes s) := by
  unfold execNoticeReceive; repeat' split
  all_goals simp_all [apply_ite State.locked, apply_ite Prod.fst, apply_ite Prod.snd]

@[simp] theorem partnerLost_kept (s : State) :
    (partnerLost s).locked = s.locked := by
  simp [partnerLost]

@[simp] theorem execPathLoss_kept (path : Fin 2) (s : State) :
    outKept s.locked (execPathLoss path s) := by
  unfold execPathLoss; dsimp only; repeat' split
  all_goals simp_all [apply_ite State.locked, apply_ite Prod.fst, apply_ite Prod.snd]

@[simp] theorem execStartingListenEnd_kept (s : State) :
    outKept s.locked (execStartingListenEnd s) := by
  unfold execStartingListenEnd; dsimp only; repeat' split
  all_goals simp_all [apply_ite State.locked, apply_ite Prod.fst, apply_ite Prod.snd]

@[simp] theorem takeoverWrites_kept (s : State) (x : Takeover) :
    (takeoverWrites s x).locked = s.locked := by
  unfold takeoverWrites; try dsimp only
  repeat' split
  all_goals simp_all [apply_ite State.locked, apply_ite Prod.fst, apply_ite Prod.snd]

@[simp] theorem execTakeoverIssue_kept (s : State) :
    outKept s.locked (execTakeoverIssue s) := by
  unfold execTakeoverIssue; dsimp only; repeat' split
  all_goals simp_all [apply_ite State.locked, apply_ite Prod.fst, apply_ite Prod.snd]

@[simp] theorem takeRecord_kept (s : State) (r : HsbRec) :
    (takeRecord s r).locked = s.locked := by
  simp [takeRecord]

@[simp] theorem copyGroup_kept (s : State) (g : Nat) (w : Word) :
    (copyGroup s g w).locked = s.locked := by
  simp [copyGroup]

@[simp] theorem shadowCycle_kept (s : State) (k : Nat) (ts : Nat) (cycle : Nat) :
    (shadowCycle s k ts cycle).locked = s.locked := by
  simp [shadowCycle]

@[simp] theorem shadowRelease_kept (s : State) (k : Nat) (mode : Nat) (es : List (Nat × Word)) :
    (shadowRelease s k mode es).locked = s.locked := by
  simp [shadowRelease]

@[simp] theorem shadowRun_kept (s : State) :
    (shadowRun s).locked = s.locked := by
  simp [shadowRun]

@[simp] theorem shadowInput_kept (s : State) (r : HsbRec) (k : Nat) :
    (shadowInput s r k).locked = s.locked := by
  simp [shadowInput]

@[simp] theorem execInputRecord_kept (rec : HsbRec) (s : State) :
    outKept s.locked (execInputRecord rec s) := by
  unfold execInputRecord; dsimp only; repeat' split
  all_goals simp_all [apply_ite State.locked, apply_ite Prod.fst, apply_ite Prod.snd]

@[simp] theorem execGroupsRecord_kept (rec : HsbRec) (s : State) :
    outKept s.locked (execGroupsRecord rec s) := by
  unfold execGroupsRecord; dsimp only; repeat' split
  all_goals simp_all [apply_ite State.locked, apply_ite Prod.fst, apply_ite Prod.snd]

@[simp] theorem execDataRecord_kept (rec : HsbRec) (s : State) :
    outKept s.locked (execDataRecord rec s) := by
  unfold execDataRecord; dsimp only; repeat' split
  all_goals simp_all [apply_ite State.locked, apply_ite Prod.fst, apply_ite Prod.snd]

@[simp] theorem loopState_kept (s : State) (n : Nat) (bs : List Byte) :
    (loopState s n bs).locked = s.locked := by
  simp [loopState]

@[simp] theorem execLoopsRecord_kept (rec : HsbRec) (s : State) :
    outKept s.locked (execLoopsRecord rec s) := by
  unfold execLoopsRecord; dsimp only; repeat' split
  all_goals simp_all [apply_ite State.locked, apply_ite Prod.fst, apply_ite Prod.snd]

@[simp] theorem execEndRecord_kept (rec : HsbRec) (s : State) :
    outKept s.locked (execEndRecord rec s) := by
  unfold execEndRecord; dsimp only; repeat' split
  all_goals simp_all [apply_ite State.locked, apply_ite Prod.fst, apply_ite Prod.snd]

@[simp] theorem execEndRecordTimeout_kept (task : TaskId) (s : State) :
    outKept s.locked (execEndRecordTimeout task s) := by
  unfold execEndRecordTimeout; dsimp only; repeat' split
  all_goals simp_all [apply_ite State.locked, apply_ite Prod.fst, apply_ite Prod.snd]

@[simp] theorem execLedgerRecordSend_kept (s : State) :
    outKept s.locked (execLedgerRecordSend s) := by
  unfold execLedgerRecordSend; repeat' split
  all_goals simp_all [apply_ite State.locked, apply_ite Prod.fst, apply_ite Prod.snd]

@[simp] theorem execLedgerRecord_kept (rec : HsbRec) (s : State) :
    outKept s.locked (execLedgerRecord rec s) := by
  unfold execLedgerRecord; dsimp only; repeat' split
  all_goals simp_all [apply_ite State.locked, apply_ite Prod.fst, apply_ite Prod.snd]

@[simp] theorem ackSwitch_kept (s : State) (cycle : Word) :
    (ackSwitch s cycle).locked = s.locked := by
  unfold ackSwitch; repeat' split
  all_goals simp_all [apply_ite State.locked, apply_ite Prod.fst, apply_ite Prod.snd]

@[simp] theorem execRecordAcknowledgement_kept (task : Byte) (cycle : Word) (s : State) :
    outKept s.locked (execRecordAcknowledgement task cycle s) := by
  unfold execRecordAcknowledgement; dsimp only; repeat' split
  all_goals simp_all [apply_ite State.locked, apply_ite Prod.fst, apply_ite Prod.snd]

@[simp] theorem copyForce_kept (s : State) (o : Nat) (b : Byte) :
    (copyForce s o b).locked = s.locked := by
  unfold copyForce; repeat' split
  all_goals simp_all [apply_ite State.locked, apply_ite Prod.fst, apply_ite Prod.snd]

@[simp] theorem copyByte_kept (s : State) (a : Nat) (b : Byte) :
    (copyByte s a b).locked = s.locked := by
  unfold copyByte; dsimp only; repeat' split
  all_goals simp_all [apply_ite State.locked, apply_ite Prod.fst, apply_ite Prod.snd]

@[simp] theorem execFullCopyChunk_kept (addr : Word) (data : List Byte) (s : State) :
    outKept s.locked (execFullCopyChunk addr data s) := by
  unfold execFullCopyChunk; dsimp only; repeat' split
  all_goals simp_all [apply_ite State.locked, apply_ite Prod.fst, apply_ite Prod.snd]

@[simp] theorem execFullCopyComplete_kept (s : State) :
    outKept s.locked (execFullCopyComplete s) := by
  unfold execFullCopyComplete; repeat' split
  all_goals simp_all [apply_ite State.locked, apply_ite Prod.fst, apply_ite Prod.snd]

@[simp] theorem setFailed_kept (s : State) (err : Nat) (seg : Nat) :
    (setFailed s err seg).locked = s.locked := by
  simp [setFailed]

@[simp] theorem execBuildingComplete_kept (s : State) :
    outKept s.locked (execBuildingComplete s) := by
  unfold execBuildingComplete; dsimp only; repeat' split
  all_goals simp_all [apply_ite State.locked, apply_ite Prod.fst, apply_ite Prod.snd]

@[simp] theorem execValidationComplete_kept (s : State) :
    outKept s.locked (execValidationComplete s) := by
  unfold execValidationComplete; repeat' split
  all_goals simp_all [apply_ite State.locked, apply_ite Prod.fst, apply_ite Prod.snd]

@[simp] theorem sendCompat_kept (s : State) :
    (sendCompat s).locked = s.locked := by
  simp [sendCompat]

@[simp] theorem execPairCompatibilityFrame_kept (bytes : List Byte) (s : State) :
    outKept s.locked (execPairCompatibilityFrame bytes s) := by
  unfold execPairCompatibilityFrame; repeat' split
  all_goals simp_all [apply_ite State.locked, apply_ite Prod.fst, apply_ite Prod.snd]

@[simp] theorem requestSwitch_kept (s : State) :
    (requestSwitch s).1.locked = s.locked := by
  simp [requestSwitch, apply_ite State.locked, apply_ite Prod.fst, apply_ite Prod.snd]

@[simp] theorem execSwitchoverAckTimeout_kept (s : State) :
    outKept s.locked (execSwitchoverAckTimeout s) := by
  unfold execSwitchoverAckTimeout; repeat' split
  all_goals simp_all [apply_ite State.locked, apply_ite Prod.fst, apply_ite Prod.snd]

@[simp] theorem takeHandover_kept (s : State) (th : Nat) :
    (takeHandover s th).locked = s.locked := by
  simp [takeHandover]

@[simp] theorem execHandover_kept (s : State) :
    outKept s.locked (execHandover s) := by
  unfold execHandover; dsimp only; repeat' split
  all_goals simp_all [apply_ite State.locked, apply_ite Prod.fst, apply_ite Prod.snd]

@[simp] theorem resync_kept (s : State) :
    (resync s).1.locked = s.locked := by
  simp [resync, apply_ite State.locked, apply_ite Prod.fst, apply_ite Prod.snd]

@[simp] theorem declareFail_kept (s : State) :
    (declareFail s).1.locked = s.locked := by
  simp [declareFail, apply_ite State.locked, apply_ite Prod.fst, apply_ite Prod.snd]

@[simp] theorem hsbCmdWrite_kept (s : State) (w : Word) :
    (hsbCmdWrite s w).locked = s.locked := by
  simp [hsbCmdWrite]

@[simp] theorem feedState_kept (s : State) (old : Nat) (mv : Nat) :
    (feedState s old mv).1.locked = s.locked := by
  simp [feedState, apply_ite State.locked, apply_ite Prod.fst, apply_ite Prod.snd]

@[simp] theorem execFeedStateChange_kept (feed : Fin 2) (mv : Nat) (ma : Nat) (s : State) :
    outKept s.locked (execFeedStateChange feed mv ma s) := by
  unfold execFeedStateChange; repeat' split
  all_goals simp_all [apply_ite State.locked, apply_ite Prod.fst, apply_ite Prod.snd]

end Sys2Proof.Machine
end

