-- ==== Sys2Proof/Laws/KeptUpdate.lean ====
section
/-!
SUPPORT. Laws/KeptUpdate.lean: the operations of Machine/Update.lean keep the locked part of the state.
-/
namespace Sys2Proof.Machine

@[simp] theorem relayAnswer_kept (s : State) (kind : Nat) (status : Nat) :
    (relayAnswer s kind status).locked = s.locked := by
  simp [relayAnswer]

@[simp] theorem answerBlock_kept (s : State) (req : Option JReq) (status : Nat) :
    (answerBlock s req status).locked = s.locked := by
  unfold answerBlock; repeat' split
  all_goals simp_all [apply_ite State.locked, apply_ite Prod.fst, apply_ite Prod.snd]

@[simp] theorem updFail_kept (s : State) (reason : Nat) (block : Nat) :
    (updFail s reason block).locked = s.locked := by
  simp [updFail]

@[simp] theorem updOp_kept (s : State) (w : UpdWork) :
    (updOp s w).locked = s.locked := by
  simp [updOp]

@[simp] theorem startBlock_kept (s : State) (w : UpdWork) :
    (startBlock s w).locked = s.locked := by
  simp [startBlock]

@[simp] theorem updStep_kept (s : State) (op : FlashOp) (ok : Bool) :
    (updStep s op ok).locked = s.locked := by
  unfold updStep; repeat' split
  all_goals simp_all [apply_ite State.locked, apply_ite Prod.fst, apply_ite Prod.snd]

@[simp] theorem execFlashOperationComplete_kept (verifyOk : Bool) (s : State) :
    outKept s.locked (execFlashOperationComplete verifyOk s) := by
  unfold execFlashOperationComplete; repeat' split
  all_goals simp_all [apply_ite State.locked, apply_ite Prod.fst, apply_ite Prod.snd]

@[simp] theorem updBlock_kept (s : State) (req : Option JReq) (bs : List Byte) :
    (updBlock s req bs).1.locked = s.locked := by
  unfold updBlock; dsimp only; repeat' split
  all_goals simp_all [apply_ite State.locked, apply_ite Prod.fst, apply_ite Prod.snd]

@[simp] theorem receive_kept (s : State) (partner : Bool) :
    (receive s partner).locked = s.locked := by
  simp [receive]

@[simp] theorem updBegin_kept (s : State) :
    (updBegin s).locked = s.locked := by
  simp [updBegin]

@[simp] theorem updActivate_kept (s : State) :
    (updActivate s).1.locked = s.locked := by
  simp [updActivate, apply_ite State.locked, apply_ite Prod.fst, apply_ite Prod.snd]

@[simp] theorem updAbort_kept (s : State) :
    (updAbort s).1.locked = s.locked := by
  simp [updAbort, apply_ite State.locked, apply_ite Prod.fst, apply_ite Prod.snd]

@[simp] theorem execVerifyComplete_kept (s : State) :
    outKept s.locked (execVerifyComplete s) := by
  unfold execVerifyComplete; repeat' split
  all_goals simp_all [apply_ite State.locked, apply_ite Prod.fst, apply_ite Prod.snd]

@[simp] theorem relayBlock_kept (s : State) (q : JReq) (bs : List Byte) :
    (relayBlock s q bs).1.locked = s.locked := by
  simp [relayBlock, apply_ite State.locked, apply_ite Prod.fst, apply_ite Prod.snd]

@[simp] theorem relayed_kept (s : State) (kind : Nat) (status : Nat) :
    (relayed s kind status).locked = s.locked := by
  unfold relayed; dsimp only; repeat' split
  all_goals simp_all [apply_ite State.locked, apply_ite Prod.fst, apply_ite Prod.snd]

@[simp] theorem execUpdateRelay_kept (bytes : List Byte) (s : State) :
    outKept s.locked (execUpdateRelay bytes s) := by
  unfold execUpdateRelay; dsimp only; repeat' split
  all_goals simp_all [apply_ite State.locked, apply_ite Prod.fst, apply_ite Prod.snd]

@[simp] theorem execPartnerUpdateTimeout_kept (s : State) :
    outKept s.locked (execPartnerUpdateTimeout s) := by
  unfold execPartnerUpdateTimeout; dsimp only; repeat' split
  all_goals simp_all [apply_ite State.locked, apply_ite Prod.fst, apply_ite Prod.snd]

@[simp] theorem finishErases_kept (s : State) :
    (finishErases s).locked = s.locked := by
  unfold finishErases
  refine (foldl_locked _ _ (fun t x => ?_) _).trans ?_ <;> simp

@[simp] theorem loaderVerdict_kept (s : State) :
    (loaderVerdict s).locked = s.locked := by
  unfold loaderVerdict; dsimp only; repeat' split
  all_goals simp_all [apply_ite State.locked, apply_ite Prod.fst, apply_ite Prod.snd]

end Sys2Proof.Machine
end

