-- ==== Sys2Proof/Laws/KeptSafetyPart.lean ====
section
/-!
SUPPORT. Laws/KeptSafetyPart.lean: the operations of Machine/SafetyPart.lean keep the locked part of the state.
-/
namespace Sys2Proof.Machine

@[simp] theorem loadImage_kept (s : State) :
    (loadImage s).locked = s.locked := by
  simp [loadImage]

@[simp] theorem setAxisState_kept (s : State) (a : Nat) (st : Nat) (fault : Nat) :
    (setAxisState s a st fault).locked = s.locked := by
  simp [setAxisState]

@[simp] theorem axesOff_kept (s : State) :
    (axesOff s).locked = s.locked := by
  simp [axesOff]

@[simp] theorem pairIdle_kept (s : State) :
    (pairIdle s).locked = s.locked := by
  simp [pairIdle]

@[simp] theorem partFresh_kept (s : State) :
    (partFresh s).locked = s.locked := by
  simp [partFresh]

@[simp] theorem partLoad_kept (s : State) :
    (partLoad s).1.locked = s.locked := by
  simp [partLoad, apply_ite State.locked, apply_ite Prod.fst, apply_ite Prod.snd]

@[simp] theorem safRestart_kept (s : State) :
    (safRestart s).locked = s.locked := by
  simp [safRestart]

@[simp] theorem safStop_kept (s : State) (cause : Nat) :
    (safStop s cause).locked = s.locked := by
  simp [safStop]

@[simp] theorem execLockstepMismatch_kept (s : State) :
    outKept s.locked (execLockstepMismatch s) := by
  unfold execLockstepMismatch; repeat' split
  all_goals simp_all [apply_ite State.locked, apply_ite Prod.fst, apply_ite Prod.snd]

@[simp] theorem execSafetySupplyFault_kept (s : State) :
    outKept s.locked (execSafetySupplyFault s) := by
  unfold execSafetySupplyFault; repeat' split
  all_goals simp_all [apply_ite State.locked, apply_ite Prod.fst, apply_ite Prod.snd]

@[simp] theorem execSafetyWatchdogExpiry_kept (s : State) :
    outKept s.locked (execSafetyWatchdogExpiry s) := by
  unfold execSafetyWatchdogExpiry; repeat' split
  all_goals simp_all [apply_ite State.locked, apply_ite Prod.fst, apply_ite Prod.snd]

@[simp] theorem execSafetyInitTimeout_kept (s : State) :
    outKept s.locked (execSafetyInitTimeout s) := by
  unfold execSafetyInitTimeout; repeat' split
  all_goals simp_all [apply_ite State.locked, apply_ite Prod.fst, apply_ite Prod.snd]

@[simp] theorem execSafetyCycleOverrun_kept (s : State) :
    outKept s.locked (execSafetyCycleOverrun s) := by
  unfold execSafetyCycleOverrun; repeat' split
  all_goals simp_all [apply_ite State.locked, apply_ite Prod.fst, apply_ite Prod.snd]

@[simp] theorem safetyReset_kept (s : State) :
    (safetyReset s).locked = s.locked := by
  simp [safetyReset]

@[simp] theorem safChanged_kept (s : State) :
    (safChanged s).locked = s.locked := by
  simp [safChanged]

@[simp] theorem safProgramWrite_kept (s : State) (bs : List Byte) :
    (safProgramWrite s bs).1.locked = s.locked := by
  simp [safProgramWrite, apply_ite State.locked, apply_ite Prod.fst, apply_ite Prod.snd]

@[simp] theorem safConfirm_kept (s : State) (v : Word) :
    (safConfirm s v).1.locked = s.locked := by
  simp [safConfirm, apply_ite State.locked, apply_ite Prod.fst, apply_ite Prod.snd]

@[simp] theorem inputStep_kept (s : State) (i : Nat) :
    (inputStep s i).locked = s.locked := by
  simp [inputStep]

@[simp] theorem inputFault_kept (s : State) (i : Nat) :
    (inputFault s i).locked = s.locked := by
  simp [inputFault]

@[simp] theorem execSafetyInputDiscrepancy_kept (input : Fin 8) (s : State) :
    outKept s.locked (execSafetyInputDiscrepancy input s) := by
  unfold execSafetyInputDiscrepancy; dsimp only; repeat' split
  all_goals simp_all [apply_ite State.locked, apply_ite Prod.fst, apply_ite Prod.snd]

@[simp] theorem execTestPulse_kept (src : Fin 32) (dipped : Word) (s : State) :
    outKept s.locked (execTestPulse src dipped s) := by
  unfold execTestPulse; dsimp only; repeat' split
  all_goals simp_all [apply_ite State.locked, apply_ite Prod.fst, apply_ite Prod.snd]

@[simp] theorem stoHeldOff_kept (s : State) (o : Nat) : (stoHeldOff s o).locked = s.locked := by
  simp [stoHeldOff]

@[simp] theorem execRberr_kept (ch : Fin 32) (s : State) :
    outKept s.locked (execRberr ch s) := by
  unfold execRberr; dsimp only; repeat' split
  all_goals simp_all [apply_ite State.locked, apply_ite Prod.fst, apply_ite Prod.snd]

@[simp] theorem execStoDarkPulse_kept (out : Fin 4) (chB : Bool) (followed : Bool) (s : State) :
    outKept s.locked (execStoDarkPulse out chB followed s) := by
  unfold execStoDarkPulse; dsimp only; repeat' split
  all_goals simp_all [apply_ite State.locked, apply_ite Prod.fst, apply_ite Prod.snd]

@[simp] theorem axisSpeed_kept (s : State) (a : Nat) :
    (axisSpeed s a).1.locked = s.locked := by
  simp [axisSpeed, apply_ite State.locked, apply_ite Prod.fst, apply_ite Prod.snd]

@[simp] theorem axisStep_kept (s : State) (a : Nat) (word : Nat) :
    (axisStep s a word).locked = s.locked := by
  simp [axisStep]

@[simp] theorem axisResetCmd_kept (s : State) (a : Nat) :
    (axisResetCmd s a).1.locked = s.locked := by
  simp [axisResetCmd, apply_ite State.locked, apply_ite Prod.fst, apply_ite Prod.snd]

@[simp] theorem stosStep_kept (s : State) :
    (stosStep s).locked = s.locked := by
  simp [stosStep]

@[simp] theorem cycleStart_kept (s : State) :
    (cycleStart s).locked = s.locked := by
  simp [cycleStart]

@[simp] theorem cycleEnd_kept (s : State) :
    (cycleEnd s).locked = s.locked := by
  simp [cycleEnd]

end Sys2Proof.Machine
end

