-- ==== Sys2Proof/Laws/KeptExcept.lean ====
section
/-!
SUPPORT. Laws/KeptExcept.lean: the operations of Machine/Except.lean keep the locked part of the state.
-/
namespace Sys2Proof.Machine

@[simp] theorem doubleFault_kept (s : State) (u : Nat) (cause : Nat) :
    (doubleFault s u cause).locked = s.locked := by
  simp [doubleFault]

@[simp] theorem enterExc_kept (s : State) (u : Nat) (cause : Nat) (info : Nat) (addr : Nat) (ret : Nat) :
    (enterExc s u cause info addr ret).locked = s.locked := by
  simp [enterExc]

@[simp] theorem safExc_kept (s : State) (cause : Nat) :
    (safExc s cause).locked = s.locked := by
  simp [safExc]

@[simp] theorem raiseExc_kept (s : State) (u : Nat) (cause : Nat) (info : Nat) (addr : Nat) (ret : Nat) :
    (raiseExc s u cause info addr ret).locked = s.locked := by
  simp [raiseExc]

@[simp] theorem execCoreResetComplete_kept (core : Fin 4) (s : State) :
    outKept s.locked (execCoreResetComplete core s) := by
  unfold execCoreResetComplete; dsimp only; repeat' split
  all_goals simp_all [apply_ite State.locked, apply_ite Prod.fst, apply_ite Prod.snd]

end Sys2Proof.Machine
end

