-- ==== Sys2Proof/Laws/KeptRegWrite.lean ====
section
/-!
SUPPORT. Laws/KeptRegWrite.lean: the operations of Machine/RegWrite.lean keep the locked part of the state.
-/
namespace Sys2Proof.Machine

@[simp] theorem regWrite_kept (s : State) (a : Nat) (v : Word) :
    (regWrite s a v).locked = s.locked := by
  unfold regWrite; repeat' split
  all_goals simp_all [apply_ite State.locked, apply_ite Prod.fst, apply_ite Prod.snd]

@[simp] theorem regClear_kept (s : State) (a : Nat) :
    (regClear s a).locked = s.locked := by
  unfold regClear; repeat' split
  all_goals simp_all [apply_ite State.locked, apply_ite Prod.fst, apply_ite Prod.snd]

@[simp] theorem allowIf_kept (l : List Instr × Tbl (List Byte) × List Byte × Mem) (c : Bool) (t : State) :
    optKept l (allowIf c t) ↔ (c = true → t.locked = l) := by
  unfold allowIf; split <;> simp_all

@[simp] theorem islandReset_kept (s : State) (i : Nat) :
    (islandReset s i).locked = s.locked := by
  simp [islandReset]

@[simp] theorem islrstWrite_kept (s : State) (v : Word) :
    optKept s.locked (islrstWrite s v) := by
  simp [islrstWrite]

@[simp] theorem writeSys_kept (s : State) (a : Nat) (v : Word) :
    optKept s.locked (writeSys s a v) := by
  unfold writeSys; repeat' split
  all_goals simp_all [apply_ite State.locked, apply_ite Prod.fst, apply_ite Prod.snd]

@[simp] theorem gctrlWrite_kept (s : State) (v : Word) :
    (gctrlWrite s v).locked = s.locked := by
  simp [gctrlWrite]

@[simp] theorem tskCtrlWrite_kept (s : State) (k : Nat) (v : Word) :
    optKept s.locked (tskCtrlWrite s k v) := by
  simp [tskCtrlWrite]

@[simp] theorem writeTsk_kept (s : State) (a : Nat) (v : Word) :
    optKept s.locked (writeTsk s a v) := by
  simp [writeTsk]

@[simp] theorem stgCommand_kept (s : State) (commit : Bool) :
    (stgCommand s commit).1.locked = s.locked := by
  simp [stgCommand, apply_ite State.locked, apply_ite Prod.fst, apply_ite Prod.snd]

@[simp] theorem stgctrlWrite_kept (s : State) (v : Word) :
    (stgctrlWrite s v).locked = s.locked := by
  simp [stgctrlWrite]

@[simp] theorem writeSeg_kept (s : State) (a : Nat) (v : Word) :
    optKept s.locked (writeSeg s a v) := by
  simp [writeSeg]

@[simp] theorem clctrlWrite_kept (s : State) (c : Nat) (v : Word) :
    optKept s.locked (clctrlWrite s c v) := by
  simp [clctrlWrite]

@[simp] theorem writeLane_kept (s : State) (a : Nat) (v : Word) :
    optKept s.locked (writeLane s a v) := by
  simp [writeLane]

@[simp] theorem subselNext_kept (s : State) :
    (subselNext s).locked = s.locked := by
  simp [subselNext]

@[simp] theorem writeGz_kept (s : State) (a : Nat) (v : Word) :
    optKept s.locked (writeGz s a v) := by
  simp [writeGz]

@[simp] theorem phrCtrlWrite_kept (s : State) (v : Word) :
    optKept s.locked (phrCtrlWrite s v) := by
  simp [phrCtrlWrite]

@[simp] theorem phrTmoWrite_kept (s : State) (v : Word) :
    (phrTmoWrite s v).locked = s.locked := by
  simp [phrTmoWrite]

@[simp] theorem ptpctrlWrite_kept (s : State) (v : Word) :
    (ptpctrlWrite s v).locked = s.locked := by
  simp [ptpctrlWrite]

@[simp] theorem writePhr_kept (s : State) (priv : Nat) (a : Nat) (v : Word) :
    optKept s.locked (writePhr s priv a v) := by
  simp [writePhr]

@[simp] theorem rwordWrite_kept (s : State) (sub : Nat) (v : Word) :
    optKept s.locked (rwordWrite s sub v) := by
  simp [rwordWrite]

@[simp] theorem writeLpe_kept (s : State) (a : Nat) (v : Word) :
    optKept s.locked (writeLpe s a v) := by
  simp [writeLpe]

@[simp] theorem nrgCtrlWrite_kept (s : State) (v : Word) :
    (nrgCtrlWrite s v).locked = s.locked := by
  unfold nrgCtrlWrite; try dsimp only
  repeat' split
  all_goals simp_all [apply_ite State.locked, apply_ite Prod.fst, apply_ite Prod.snd]

@[simp] theorem writeNrg_kept (s : State) (a : Nat) (v : Word) :
    optKept s.locked (writeNrg s a v) := by
  simp [writeNrg]

@[simp] theorem hsbCtrlWrite_kept (s : State) (v : Word) :
    (hsbCtrlWrite s v).locked = s.locked := by
  simp [hsbCtrlWrite]

@[simp] theorem writeHsb_kept (s : State) (a : Nat) (v : Word) :
    optKept s.locked (writeHsb s a v) := by
  unfold writeHsb; repeat' split
  all_goals simp_all [apply_ite State.locked, apply_ite Prod.fst, apply_ite Prod.snd]

@[simp] theorem jrnDoneWrite_kept (s : State) (v : Word) :
    (jrnDoneWrite s v).locked = s.locked := by
  unfold jrnDoneWrite; dsimp only; repeat' split
  all_goals simp_all [apply_ite State.locked, apply_ite Prod.fst, apply_ite Prod.snd]

@[simp] theorem jrnMsgWrite_kept (s : State) (w : Nat) (v : Word) :
    (jrnMsgWrite s w v).locked = s.locked := by
  unfold jrnMsgWrite; dsimp only; repeat' split
  all_goals simp_all [apply_ite State.locked, apply_ite Prod.fst, apply_ite Prod.snd]

@[simp] theorem writeJrn_kept (s : State) (a : Nat) (v : Word) :
    optKept s.locked (writeJrn s a v) := by
  unfold writeJrn; repeat' split
  all_goals simp_all [apply_ite State.locked, apply_ite Prod.fst, apply_ite Prod.snd]

@[simp] theorem settingWrite_kept (s : State) (a : Nat) (v : Word) :
    (settingWrite s a v).locked = s.locked := by
  simp [settingWrite]

@[simp] theorem dioChanWrite_kept (s : State) (k : Nat) (a : Nat) (v : Word) :
    optKept s.locked (dioChanWrite s k a v) := by
  simp [dioChanWrite]

@[simp] theorem writeDio_kept (s : State) (a : Nat) (v : Word) :
    optKept s.locked (writeDio s a v) := by
  simp [writeDio]

@[simp] theorem aioChanWrite_kept (s : State) (c : Nat) (a : Nat) (v : Word) :
    optKept s.locked (aioChanWrite s c a v) := by
  simp [aioChanWrite]

@[simp] theorem writeAio_kept (s : State) (a : Nat) (v : Word) :
    optKept s.locked (writeAio s a v) := by
  unfold writeAio; repeat' split
  all_goals simp_all [apply_ite State.locked, apply_ite Prod.fst, apply_ite Prod.snd]

@[simp] theorem canBufWrite_kept (s : State) (m : Nat) (b : Nat) (o : Nat) (v : Word) :
    optKept s.locked (canBufWrite s m b o v) := by
  simp [canBufWrite]

@[simp] theorem writeCan_kept (s : State) (m : Nat) (a : Nat) (v : Word) :
    optKept s.locked (writeCan s m a v) := by
  simp [writeCan]

@[simp] theorem writeNvm_kept (s : State) (a : Nat) (v : Word) :
    optKept s.locked (writeNvm s a v) := by
  simp [writeNvm]

@[simp] theorem writeRtc_kept (s : State) (a : Nat) (v : Word) :
    (writeRtc s a v).locked = s.locked := by
  simp [writeRtc]

@[simp] theorem writeWdg_kept (s : State) (a : Nat) (v : Word) :
    (writeWdg s a v).locked = s.locked := by
  simp [writeWdg]

@[simp] theorem writeFrz_kept (s : State) (a : Nat) (v : Word) :
    (writeFrz s a v).locked = s.locked := by
  simp [writeFrz]

@[simp] theorem writeRec_kept (s : State) (a : Nat) (v : Word) :
    (writeRec s a v).locked = s.locked := by
  simp [writeRec]

@[simp] theorem raiseWrite_kept (s : State) (v : Word) :
    (raiseWrite s v).locked = s.locked := by
  simp [raiseWrite]

@[simp] theorem writeEvc_kept (s : State) (a : Nat) (v : Word) :
    (writeEvc s a v).locked = s.locked := by
  simp [writeEvc]

@[simp] theorem writeTrc_kept (s : State) (a : Nat) (v : Word) :
    optKept s.locked (writeTrc s a v) := by
  simp [writeTrc]

@[simp] theorem periphWrite_kept (s : State) (core : Nat) (a : Nat) (v : Word) :
    optKept s.locked (periphWrite s core a v) := by
  unfold periphWrite; dsimp only; repeat' split
  all_goals simp_all [apply_ite State.locked, apply_ite Prod.fst, apply_ite Prod.snd]

@[simp] theorem shareRegister_kept (old : State) (s : State) (a : Nat) :
    (shareRegister old s a).locked = s.locked := by
  unfold shareRegister; try dsimp only
  repeat' split
  all_goals simp_all [apply_ite State.locked, apply_ite Prod.fst, apply_ite Prod.snd]

@[simp] theorem registerWrite_kept (s : State) (core : Nat) (a : Nat) (v : Word) :
    optKept s.locked (registerWrite s core a v) := by
  intro t ht
  obtain ⟨u, hu, rfl⟩ := Option.map_eq_some_iff.1 ht
  simpa using (periphWrite_kept s core a v).of hu

@[simp] theorem periphRead_kept (s : State) (core : Nat) (a : Nat) :
    (periphRead s core a).2.locked = s.locked := by
  simp [periphRead, apply_ite State.locked, apply_ite Prod.fst, apply_ite Prod.snd]

end Sys2Proof.Machine
end

