-- ==== Sys2Proof/Laws/KeptRegs.lean ====
section
/-!
SUPPORT. Laws/KeptRegs.lean: the operations of Machine/Regs.lean keep the locked part of the state.
-/
namespace Sys2Proof.Machine

@[simp] theorem auditBreak_kept (s : State) (u : Nat) (a : Nat) :
    (auditBreak s u a).locked = s.locked := by
  simp [auditBreak]

@[simp] theorem coreStore_kept (s : State) (u : Nat) (a : Nat) (v : Word) :
    (coreStore s u a v).locked = s.locked := by
  unfold coreStore; dsimp only
  repeat' split
  all_goals first | (simp; done) | (rename_i h; exact optKept.of (registerWrite_kept _ _ _ _) h)

@[simp] theorem coreLoad_kept (s : State) (u : Nat) (a : Nat) :
    (coreLoad s u a).locked = s.locked := by
  simp [coreLoad]

@[simp] theorem execRegisterWrite_kept (core : CoreId) (addr : Word) (value : Word) (s : State) :
    outKept s.locked (execRegisterWrite core addr value s) := by
  simp [execRegisterWrite]

@[simp] theorem execRegisterRead_kept (core : CoreId) (addr : Word) (s : State) :
    outKept s.locked (execRegisterRead core addr s) := by
  simp [execRegisterRead]

@[simp] theorem execGzSubdataAccess_kept (core : CoreId) (write : Option Word) (s : State) :
    outKept s.locked (execGzSubdataAccess core write s) := by
  unfold execGzSubdataAccess; repeat' split
  all_goals simp_all [apply_ite State.locked, apply_ite Prod.fst, apply_ite Prod.snd]

@[simp] theorem execNvmSyncRead_kept (core : CoreId) (s : State) :
    outKept s.locked (execNvmSyncRead core s) := by
  simp [execNvmSyncRead]

@[simp] theorem execRtcStageWrite_kept (core : CoreId) (high : Bool) (value : Word) (s : State) :
    outKept s.locked (execRtcStageWrite core high value s) := by
  simp [execRtcStageWrite]

@[simp] theorem execRtcShadowCapture_kept (core : CoreId) (addr : Word) (s : State) :
    outKept s.locked (execRtcShadowCapture core addr s) := by
  simp [execRtcShadowCapture]

@[simp] theorem execIslandResetComplete_kept (isl : Fin 4) (s : State) :
    outKept s.locked (execIslandResetComplete isl s) := by
  simp [execIslandResetComplete]

@[simp] theorem execTskGctrlStart_kept (core : CoreId) (value : Word) (s : State) :
    outKept s.locked (execTskGctrlStart core value s) := by
  simp [execTskGctrlStart]

@[simp] theorem execTskGctrlStop_kept (core : CoreId) (value : Word) (s : State) :
    outKept s.locked (execTskGctrlStop core value s) := by
  simp [execTskGctrlStop]

@[simp] theorem execTskWdctrlEnable_kept (core : CoreId) (value : Word) (s : State) :
    outKept s.locked (execTskWdctrlEnable core value s) := by
  simp [execTskWdctrlEnable]

@[simp] theorem execEvcRaise_kept (core : CoreId) (value : Word) (s : State) :
    outKept s.locked (execEvcRaise core value s) := by
  simp [execEvcRaise]

@[simp] theorem execSysIslrst_kept (core : CoreId) (value : Word) (s : State) :
    outKept s.locked (execSysIslrst core value s) := by
  simp [execSysIslrst]

@[simp] theorem execGzCmdEqclr_kept (core : CoreId) (value : Word) (s : State) :
    outKept s.locked (execGzCmdEqclr core value s) := by
  simp [execGzCmdEqclr]

@[simp] theorem execGzCmdAudreq_kept (core : CoreId) (value : Word) (s : State) :
    outKept s.locked (execGzCmdAudreq core value s) := by
  simp [execGzCmdAudreq]

@[simp] theorem execGzCtrlAuden_kept (core : CoreId) (value : Word) (s : State) :
    outKept s.locked (execGzCtrlAuden core value s) := by
  simp [execGzCtrlAuden]

@[simp] theorem execSegStgnumValid_kept (core : CoreId) (value : Word) (s : State) :
    outKept s.locked (execSegStgnumValid core value s) := by
  simp [execSegStgnumValid]

@[simp] theorem execSegStgnumWithdraw_kept (core : CoreId) (value : Word) (s : State) :
    outKept s.locked (execSegStgnumWithdraw core value s) := by
  simp [execSegStgnumWithdraw]

@[simp] theorem execSegStgdata_kept (core : CoreId) (value : Word) (s : State) :
    outKept s.locked (execSegStgdata core value s) := by
  simp [execSegStgdata]

@[simp] theorem execSegStgctrlCommit_kept (core : CoreId) (value : Word) (s : State) :
    outKept s.locked (execSegStgctrlCommit core value s) := by
  simp [execSegStgctrlCommit]

@[simp] theorem execSegStgctrlAbort_kept (core : CoreId) (value : Word) (s : State) :
    outKept s.locked (execSegStgctrlAbort core value s) := by
  simp [execSegStgctrlAbort]

@[simp] theorem execLaneClctrlFlush_kept (core : CoreId) (cluster : Fin 8) (value : Word) (s : State) :
    outKept s.locked (execLaneClctrlFlush core cluster value s) := by
  simp [execLaneClctrlFlush]

@[simp] theorem execPhrCtrlEnum_kept (core : CoreId) (value : Word) (s : State) :
    outKept s.locked (execPhrCtrlEnum core value s) := by
  simp [execPhrCtrlEnum]

@[simp] theorem execPhrEpochWrite_kept (core : CoreId) (value : Word) (s : State) :
    outKept s.locked (execPhrEpochWrite core value s) := by
  simp [execPhrEpochWrite]

@[simp] theorem execPhrTxselWrite_kept (core : CoreId) (value : Word) (s : State) :
    outKept s.locked (execPhrTxselWrite core value s) := by
  simp [execPhrTxselWrite]

@[simp] theorem execLpeMaxlatClear_kept (core : CoreId) (value : Word) (s : State) :
    outKept s.locked (execLpeMaxlatClear core value s) := by
  simp [execLpeMaxlatClear]

@[simp] theorem execTrcCmdArm_kept (core : CoreId) (buf : Fin 8) (value : Word) (s : State) :
    outKept s.locked (execTrcCmdArm core buf value s) := by
  simp [execTrcCmdArm]

@[simp] theorem execTrcCmdStop_kept (core : CoreId) (buf : Fin 8) (value : Word) (s : State) :
    outKept s.locked (execTrcCmdStop core buf value s) := by
  simp [execTrcCmdStop]

@[simp] theorem execTrcCmdForce_kept (core : CoreId) (buf : Fin 8) (value : Word) (s : State) :
    outKept s.locked (execTrcCmdForce core buf value s) := by
  simp [execTrcCmdForce]

@[simp] theorem execNrgTjWrite_kept (core : CoreId) (value : Word) (s : State) :
    outKept s.locked (execNrgTjWrite core value s) := by
  simp [execNrgTjWrite]

@[simp] theorem execHsbCmdSwitch_kept (core : CoreId) (value : Word) (s : State) :
    outKept s.locked (execHsbCmdSwitch core value s) := by
  simp [execHsbCmdSwitch]

@[simp] theorem execHsbCmdResync_kept (core : CoreId) (value : Word) (s : State) :
    outKept s.locked (execHsbCmdResync core value s) := by
  simp [execHsbCmdResync]

@[simp] theorem execHsbCmdFail_kept (core : CoreId) (value : Word) (s : State) :
    outKept s.locked (execHsbCmdFail core value s) := by
  simp [execHsbCmdFail]

@[simp] theorem execJrnDoneSend_kept (core : CoreId) (value : Word) (s : State) :
    outKept s.locked (execJrnDoneSend core value s) := by
  simp [execJrnDoneSend]

@[simp] theorem execDioFcmdRelease_kept (core : CoreId) (value : Word) (s : State) :
    outKept s.locked (execDioFcmdRelease core value s) := by
  simp [execDioFcmdRelease]

@[simp] theorem execDioFcmdSafe_kept (core : CoreId) (value : Word) (s : State) :
    outKept s.locked (execDioFcmdSafe core value s) := by
  simp [execDioFcmdSafe]

@[simp] theorem execAioTrimEn_kept (core : CoreId) (value : Word) (s : State) :
    outKept s.locked (execAioTrimEn core value s) := by
  simp [execAioTrimEn]

@[simp] theorem execDioEncctrlEn_kept (core : CoreId) (pair : Fin 16) (value : Word) (s : State) :
    outKept s.locked (execDioEncctrlEn core pair value s) := by
  simp [execDioEncctrlEn]

@[simp] theorem execDioEnccntWrite_kept (core : CoreId) (pair : Fin 16) (value : Word) (s : State) :
    outKept s.locked (execDioEnccntWrite core pair value s) := by
  simp [execDioEnccntWrite]

@[simp] theorem execCanEnable_kept (core : CoreId) (ctrl : Fin 2) (value : Word) (s : State) :
    outKept s.locked (execCanEnable core ctrl value s) := by
  simp [execCanEnable]

@[simp] theorem execCanRecov_kept (core : CoreId) (ctrl : Fin 2) (value : Word) (s : State) :
    outKept s.locked (execCanRecov core ctrl value s) := by
  simp [execCanRecov]

@[simp] theorem execCanTxRequest_kept (core : CoreId) (ctrl : Fin 2) (buf : Fin 3) (value : Word) (s : State) :
    outKept s.locked (execCanTxRequest core ctrl buf value s) := by
  simp [execCanTxRequest]

@[simp] theorem execCanTxAbort_kept (core : CoreId) (ctrl : Fin 2) (buf : Fin 3) (value : Word) (s : State) :
    outKept s.locked (execCanTxAbort core ctrl buf value s) := by
  simp [execCanTxAbort]

@[simp] theorem execCanRxpop_kept (core : CoreId) (ctrl : Fin 2) (value : Word) (s : State) :
    outKept s.locked (execCanRxpop core ctrl value s) := by
  simp [execCanRxpop]

@[simp] theorem execCanFilterEnable_kept (core : CoreId) (ctrl : Fin 2) (flt : Fin 16) (value : Word) (s : State) :
    outKept s.locked (execCanFilterEnable core ctrl flt value s) := by
  simp [execCanFilterEnable]

@[simp] theorem execSafCmdSreset_kept (core : CoreId) (value : Word) (s : State) :
    outKept s.locked (execSafCmdSreset core value s) := by
  simp [execSafCmdSreset]

@[simp] theorem execFlashErase_kept (core : CoreId) (value : Word) (s : State) :
    outKept s.locked (execFlashErase core value s) := by
  simp [execFlashErase]

@[simp] theorem execFlashProgram_kept (core : CoreId) (value : Word) (s : State) :
    outKept s.locked (execFlashProgram core value s) := by
  simp [execFlashProgram]

@[simp] theorem execNvmProtWrite_kept (core : CoreId) (value : Word) (s : State) :
    outKept s.locked (execNvmProtWrite core value s) := by
  simp [execNvmProtWrite]

@[simp] theorem execRtcArm_kept (core : CoreId) (value : Word) (s : State) :
    outKept s.locked (execRtcArm core value s) := by
  simp [execRtcArm]

@[simp] theorem execRtcBkcommit_kept (core : CoreId) (value : Word) (s : State) :
    outKept s.locked (execRtcBkcommit core value s) := by
  simp [execRtcBkcommit]

@[simp] theorem execWdgKeyArm_kept (core : CoreId) (value : Word) (s : State) :
    outKept s.locked (execWdgKeyArm core value s) := by
  simp [execWdgKeyArm]

@[simp] theorem execWdgKeyService_kept (core : CoreId) (value : Word) (s : State) :
    outKept s.locked (execWdgKeyService core value s) := by
  simp [execWdgKeyService]

@[simp] theorem execWdgKeyBad_kept (core : CoreId) (value : Word) (s : State) :
    outKept s.locked (execWdgKeyBad core value s) := by
  simp [execWdgKeyBad]

@[simp] theorem execWdgCtrlWrite_kept (core : CoreId) (value : Word) (s : State) :
    outKept s.locked (execWdgCtrlWrite core value s) := by
  simp [execWdgCtrlWrite]

@[simp] theorem execFrzCmdFreeze_kept (core : CoreId) (value : Word) (s : State) :
    outKept s.locked (execFrzCmdFreeze core value s) := by
  simp [execFrzCmdFreeze]

@[simp] theorem execRecWsub_kept (core : CoreId) (value : Word) (s : State) :
    outKept s.locked (execRecWsub core value s) := by
  simp [execRecWsub]

@[simp] theorem execRecCtrlRfreeze_kept (core : CoreId) (value : Word) (s : State) :
    outKept s.locked (execRecCtrlRfreeze core value s) := by
  simp [execRecCtrlRfreeze]

@[simp] theorem execRecClr_kept (core : CoreId) (value : Word) (s : State) :
    outKept s.locked (execRecClr core value s) := by
  simp [execRecClr]

@[simp] theorem execSysSwrst_kept (core : CoreId) (value : Word) (s : State) :
    outKept s.locked (execSysSwrst core value s) := by
  simp [execSysSwrst]

end Sys2Proof.Machine
end

