-- ==== Sys2Proof/Laws/KeptOperands.lean ====
section
/-!
SUPPORT. Laws/KeptOperands.lean: the operations of Machine/Operands.lean keep the locked part of the state.
-/
namespace Sys2Proof.Machine

@[simp] theorem readMem_kept (s : State) (u : Nat) (a : Nat) (n : Nat) :
    (readMem s u a n).2.locked = s.locked := by
  simp [readMem, apply_ite State.locked, apply_ite Prod.fst, apply_ite Prod.snd]

@[simp] theorem readLoc_kept (s : State) (u : Nat) (k : Kind) (z : Sz) (x4 : Loc) :
    (readLoc s u k z x4).2.locked = s.locked := by
  unfold readLoc; dsimp only; repeat' split
  all_goals simp

@[simp] theorem readAll_kept (s : State) (u : Nat) (x2 : List (Kind × Sz × Loc)) :
    (readAll s u x2).2.locked = s.locked := by
  induction x2 generalizing s with
  | nil => rfl
  | cons e rest ih =>
    obtain ⟨k, z, l⟩ := e
    unfold readAll; dsimp only
    rw [ih]
    split <;> simp

@[simp] theorem forceByteWrite_kept (s : State) (o : Nat) (b : Byte) :
    (forceByteWrite s o b).locked = s.locked := by
  simp [forceByteWrite]

@[simp] theorem gauzeByteWrite_kept (s : State) (o : Nat) (b : Byte) :
    (gauzeByteWrite s o b).locked = s.locked := by
  unfold gauzeByteWrite; try dsimp only
  repeat' split
  all_goals simp_all [apply_ite State.locked, apply_ite Prod.fst, apply_ite Prod.snd]

@[simp] theorem storeByte_kept (s : State) (a : Nat) (b : Byte) :
    (storeByte s a b).locked = s.locked := by
  unfold storeByte; dsimp only; repeat' split
  all_goals simp

@[simp] theorem storeBytes_kept (s : State) (a : Nat) (x2 : List Byte) :
    (storeBytes s a x2).locked = s.locked := by
  induction x2 generalizing s a with
  | nil => rfl
  | cons b rest ih => unfold storeBytes; simp [ih]

@[simp] theorem safPut_kept (s : State) (a : Nat) (bs : List Byte) :
    (safPut s a bs).locked = s.locked := by
  simp [safPut]

@[simp] theorem putBytes_kept (s : State) (u : Nat) (i : Nat) (a : Nat) (bs : List Byte) :
    resKept s.locked (putBytes s u i a bs) := by
  unfold putBytes; dsimp only
  repeat' split
  all_goals first | (simp; done) | (rename_i h; exact (resKept_ok _ _).2 (optKept.of (registerWrite_kept _ _ _ _) h))

@[simp] theorem writeLoc_kept (s : State) (u : Nat) (i : Nat) (k : Kind) (z : Sz) (v : Nat) (x6 : Loc) :
    resKept s.locked (writeLoc s u i k z v x6) := by
  unfold writeLoc
  split
  all_goals simp

@[simp] theorem raiseInsn_kept (s : State) (u : Nat) (pc : Nat) (e : Exc) :
    (raiseInsn s u pc e).locked = s.locked := by
  simp [raiseInsn]

@[simp] theorem complete_kept (c : Ctx) (d : Done) (h : ∀ t : State, (d.after t).locked = t.locked) :
    (complete c d).locked = d.s.locked := by
  unfold complete; dsimp only; split <;> simp [h]

theorem blockCount_kept {s t : State} {u n : Nat} {op : Op} {ls : List (Kind × Sz × Loc)} (h : blockCount s u op ls = some (n, t)) :
    t.locked = s.locked := by
  unfold blockCount at h
  split at h
  · split at h
    · rename_i k z l _
      split at h
      · have h2 := readLoc_kept s u k z l
        rw [Option.some.inj h] at h2
        exact h2
      · cases h
    · cases h
  · cases h

@[simp] theorem runForm_kept (s : State) (u : Nat) (f : Form) (os : List Opnd) (act : Ctx → State → Res Done)
    (h : ∀ c t, doneKept t.locked (act c t)) :
    (runForm s u f os act).locked = s.locked := by
  unfold runForm; dsimp only
  split
  · simp
  · split
    · rename_i hx
      rw [complete_kept _ _ (fun _ => rfl)]
      simpa using blockCount_kept hx
    · split
      · simp
      · split
        · simp
        · rename_i d hd
          have := h _ _ d hd
          rw [complete_kept _ _ this.2, this.1]
          simp

@[simp] theorem insn_kept (s : State) (u : Nat) (op : Op) (act : Ctx → State → Res Done)
    (h : ∀ c t, doneKept t.locked (act c t)) :
    (insn s u op act).locked = s.locked := by
  unfold insn; dsimp only
  repeat' split
  all_goals simp [runForm_kept _ _ _ _ act h]

@[simp] theorem Ctx.write_kept (c : Ctx) (s : State) (i v : Nat) :
    resKept s.locked (c.write s i v) := by
  simp [Ctx.write]

@[simp] theorem Ctx.result_kept (c : Ctx) (s : State) (r : Nat × Nat) :
    doneKept s.locked (c.result s r) := by
  unfold Ctx.result
  split
  · rename_i t ht
    simpa using resKept.of (Ctx.write_kept c s 0 r.1) ht
  · simp

@[simp] theorem Ctx.ends_kept (c : Ctx) (s : State) :
    doneKept s.locked (c.ends s) := by
  simp [Ctx.ends]

end Sys2Proof.Machine
end

