-- ==== Sys2Proof/Laws/KeptArith.lean ====
section
/-!
SUPPORT. Laws/KeptArith.lean: the operations of Machine/Arith.lean keep the locked part of the state.
-/
namespace Sys2Proof.Machine

@[simp] theorem moveAct_kept (c : Ctx) (s : State) :
    doneKept s.locked (moveAct c s) := by
  simp [moveAct]

@[simp] theorem loadAct_kept (c : Ctx) (s : State) :
    doneKept s.locked (loadAct c s) := by
  unfold loadAct; dsimp only; repeat' split
  all_goals simp

@[simp] theorem extendAct_kept (sign : Bool) (c : Ctx) (s : State) :
    doneKept s.locked (extendAct sign c s) := by
  simp [extendAct]

@[simp] theorem leaAct_kept (c : Ctx) (s : State) :
    doneKept s.locked (leaAct c s) := by
  simp [leaAct]

@[simp] theorem rdtbAct_kept (c : Ctx) (s : State) :
    doneKept s.locked (rdtbAct c s) := by
  simp [rdtbAct]

@[simp] theorem execMov_kept (u : UnitId) (s : State) :
    outKept s.locked (execMov u s) := by
  simp [execMov]

@[simp] theorem execLdg_kept (u : UnitId) (s : State) :
    outKept s.locked (execLdg u s) := by
  simp [execLdg]

@[simp] theorem execLdgp_kept (u : UnitId) (s : State) :
    outKept s.locked (execLdgp u s) := by
  simp [execLdgp]

@[simp] theorem execExts_kept (u : UnitId) (s : State) :
    outKept s.locked (execExts u s) := by
  simp [execExts]

@[simp] theorem execExtz_kept (u : UnitId) (s : State) :
    outKept s.locked (execExtz u s) := by
  simp [execExtz]

@[simp] theorem execLea_kept (u : UnitId) (s : State) :
    outKept s.locked (execLea u s) := by
  simp [execLea]

@[simp] theorem execRdtb_kept (u : UnitId) (s : State) :
    outKept s.locked (execRdtb u s) := by
  simp [execRdtb]

@[simp] theorem binaryAct_kept (f : Sz → Nat → Nat → Nat × Nat) (c : Ctx) (s : State) :
    doneKept s.locked (binaryAct f c s) := by
  simp [binaryAct]

@[simp] theorem unaryAct_kept (f : Sz → Nat → Nat × Nat) (c : Ctx) (s : State) :
    doneKept s.locked (unaryAct f c s) := by
  simp [unaryAct]

@[simp] theorem execAdd_kept (u : UnitId) (s : State) :
    outKept s.locked (execAdd u s) := by
  simp [execAdd]

@[simp] theorem execSub_kept (u : UnitId) (s : State) :
    outKept s.locked (execSub u s) := by
  simp [execSub]

@[simp] theorem execMul_kept (u : UnitId) (s : State) :
    outKept s.locked (execMul u s) := by
  simp [execMul]

@[simp] theorem execMulhs_kept (u : UnitId) (s : State) :
    outKept s.locked (execMulhs u s) := by
  simp [execMulhs]

@[simp] theorem execMulhu_kept (u : UnitId) (s : State) :
    outKept s.locked (execMulhu u s) := by
  simp [execMulhu]

@[simp] theorem execDiv_kept (u : UnitId) (s : State) :
    outKept s.locked (execDiv u s) := by
  simp [execDiv]

@[simp] theorem execDivu_kept (u : UnitId) (s : State) :
    outKept s.locked (execDivu u s) := by
  simp [execDivu]

@[simp] theorem execRem_kept (u : UnitId) (s : State) :
    outKept s.locked (execRem u s) := by
  simp [execRem]

@[simp] theorem execRemu_kept (u : UnitId) (s : State) :
    outKept s.locked (execRemu u s) := by
  simp [execRemu]

@[simp] theorem execMin_kept (u : UnitId) (s : State) :
    outKept s.locked (execMin u s) := by
  simp [execMin]

@[simp] theorem execMax_kept (u : UnitId) (s : State) :
    outKept s.locked (execMax u s) := by
  simp [execMax]

@[simp] theorem execNeg_kept (u : UnitId) (s : State) :
    outKept s.locked (execNeg u s) := by
  simp [execNeg]

@[simp] theorem execAbs_kept (u : UnitId) (s : State) :
    outKept s.locked (execAbs u s) := by
  simp [execAbs]

@[simp] theorem execSqrt_kept (u : UnitId) (s : State) :
    outKept s.locked (execSqrt u s) := by
  simp [execSqrt]

@[simp] theorem fromIntAct_kept (w : Nat) (c : Ctx) (s : State) :
    doneKept s.locked (fromIntAct w c s) := by
  simp [fromIntAct]

@[simp] theorem toIntAct_kept (w : Nat) (trunc : Bool) (c : Ctx) (s : State) :
    doneKept s.locked (toIntAct w trunc c s) := by
  simp [toIntAct]

@[simp] theorem convAct_kept (c : Ctx) (s : State) :
    doneKept s.locked (convAct c s) := by
  simp [convAct]

@[simp] theorem execCvtif_kept (u : UnitId) (s : State) :
    outKept s.locked (execCvtif u s) := by
  simp [execCvtif]

@[simp] theorem execCvtlf_kept (u : UnitId) (s : State) :
    outKept s.locked (execCvtlf u s) := by
  simp [execCvtlf]

@[simp] theorem execCvtfi_kept (u : UnitId) (s : State) :
    outKept s.locked (execCvtfi u s) := by
  simp [execCvtfi]

@[simp] theorem execTrnfi_kept (u : UnitId) (s : State) :
    outKept s.locked (execTrnfi u s) := by
  simp [execTrnfi]

@[simp] theorem execCvtfl_kept (u : UnitId) (s : State) :
    outKept s.locked (execCvtfl u s) := by
  simp [execCvtfl]

@[simp] theorem execTrnfl_kept (u : UnitId) (s : State) :
    outKept s.locked (execTrnfl u s) := by
  simp [execTrnfl]

@[simp] theorem execCvtff_kept (u : UnitId) (s : State) :
    outKept s.locked (execCvtff u s) := by
  simp [execCvtff]

end Sys2Proof.Machine
end

