-- ==== Sys2Proof/Laws/KeptBlocks.lean ====
section
/-!
SUPPORT. Laws/KeptBlocks.lean: the operations of Machine/Blocks.lean keep the locked part of the state.
-/
namespace Sys2Proof.Machine

@[simp] theorem readElems_kept (s : State) (u : Nat) (a : Nat) (size : Nat) (x4 : Nat) :
    (readElems s u a size x4).2.locked = s.locked := by
  induction x4 generalizing s a with
  | zero => rfl
  | succ n ih => unfold readElems; simp [ih, readMem_kept]

@[simp] theorem writeElems_kept (s : State) (u : Nat) (i : Nat) (a : Nat) (size : Nat) (bs : List Byte) (x6 : Nat) :
    resKept s.locked (writeElems s u i a size bs x6) := by
  induction x6 generalizing s a bs with
  | zero => simp [writeElems]
  | succ n ih =>
    unfold writeElems
    split
    · simp
    · rename_i t h
      have h := resKept.of (putBytes_kept s u i _ (bs.take size)) h
      rw [← h]
      exact ih _ _ _

@[simp] theorem movbAct_kept (c : Ctx) (s : State) :
    doneKept s.locked (movbAct c s) := by
  unfold movbAct; dsimp only
  repeat' split
  all_goals first
    | (simp; done)
    | (rename_i t h
       have h := resKept.of (writeElems_kept _ _ _ _ _ _ _) h
       rw [readElems_kept] at h
       rw [← h]
       simp)

@[simp] theorem fillAct_kept (c : Ctx) (s : State) :
    doneKept s.locked (fillAct c s) := by
  unfold fillAct; dsimp only
  repeat' split
  all_goals first
    | (simp; done)
    | (rename_i t h
       have h := resKept.of (writeElems_kept _ _ _ _ _ _ _) h
       rw [← h]
       simp)

@[simp] theorem crccAct_kept (c : Ctx) (s : State) :
    doneKept s.locked (crccAct c s) := by
  unfold crccAct; dsimp only
  repeat' split
  all_goals first
    | (simp; done)
    | (rw [← readElems_kept s c.u (c.loc 1).addr 1 (c.val 2)]; exact Ctx.result_kept _ _ _)

@[simp] theorem execMovb_kept (u : UnitId) (s : State) :
    outKept s.locked (execMovb u s) := by
  simp [execMovb]

@[simp] theorem execFill_kept (u : UnitId) (s : State) :
    outKept s.locked (execFill u s) := by
  simp [execFill]

@[simp] theorem execCrcc_kept (u : UnitId) (s : State) :
    outKept s.locked (execCrcc u s) := by
  simp [execCrcc]

@[simp] theorem strWrite_kept (s : State) (u : Nat) (x : Str) (len : Nat) (at_ : Nat) (text : List Byte) :
    resKept s.locked (strWrite s u x len at_ text) := by
  unfold strWrite
  split
  · simp
  · rename_i t h
    have h := resKept.of (putBytes_kept _ _ _ _ _) h
    rw [← h]
    simp

theorem readHeads_kept {xs : List Str} {s : State} {u : Nat} {r : List Str × State} (h : readHeads s u xs = .ok r) :
    r.2.locked = s.locked := by
  induction xs generalizing s r with
  | nil =>
    unfold readHeads at h
    rw [← Except.ok.inj h]
  | cons x rest ih =>
    unfold readHeads at h
    dsimp only at h
    split at h
    · cases h
    · split at h
      · cases h
      · rename_i r' h'
        rw [← Except.ok.inj h]
        exact (ih h').trans (readMem_kept _ _ _ _)

theorem withStrs_kept (s : State) (u : Nat) (x y : Str) (k : Str → Str → State → Res Done)
    (h : ∀ a b t, doneKept t.locked (k a b t)) : doneKept s.locked (withStrs s u x y k) := by
  unfold withStrs
  split
  · simp
  · rename_i r hr
    dsimp only
    split
    · simp
    · rw [← readHeads_kept hr]
      exact h _ _ _

@[simp] theorem scpyAct_kept (c : Ctx) (s : State) :
    doneKept s.locked (scpyAct c s) := by
  apply withStrs_kept
  intro a b t
  dsimp only
  split
  · simp
  · rename_i u h
    rw [← resKept.of (strWrite_kept _ _ _ _ _ _) h]
    simp

@[simp] theorem scatAct_kept (c : Ctx) (s : State) :
    doneKept s.locked (scatAct c s) := by
  apply withStrs_kept
  intro a b t
  dsimp only
  split
  · simp
  · rename_i u h
    rw [← resKept.of (strWrite_kept _ _ _ _ _ _) h]
    simp

@[simp] theorem slenAct_kept (c : Ctx) (s : State) :
    doneKept s.locked (slenAct c s) := by
  unfold slenAct
  split
  · simp
  · rename_i r hr
    split
    · simp
    · rw [← readHeads_kept hr]
      simp

@[simp] theorem scmpAct_kept (c : Ctx) (s : State) :
    doneKept s.locked (scmpAct c s) := by
  apply withStrs_kept
  intro a b t
  simp

@[simp] theorem sfndAct_kept (c : Ctx) (s : State) :
    doneKept s.locked (sfndAct c s) := by
  apply withStrs_kept
  intro a b t
  simp

@[simp] theorem execScpy_kept (u : UnitId) (s : State) :
    outKept s.locked (execScpy u s) := by
  simp [execScpy]

@[simp] theorem execScat_kept (u : UnitId) (s : State) :
    outKept s.locked (execScat u s) := by
  simp [execScat]

@[simp] theorem execSlen_kept (u : UnitId) (s : State) :
    outKept s.locked (execSlen u s) := by
  simp [execSlen]

@[simp] theorem execScmp_kept (u : UnitId) (s : State) :
    outKept s.locked (execScmp u s) := by
  simp [execScmp]

@[simp] theorem execSfnd_kept (u : UnitId) (s : State) :
    outKept s.locked (execSfnd u s) := by
  simp [execSfnd]

end Sys2Proof.Machine
end

