-- ==== Sys2Proof/Laws/KeptJurnoObj.lean ====
section
/-!
SUPPORT. Laws/KeptJurnoObj.lean: the operations of Machine/JurnoObj.lean keep the locked part of the state.
-/
namespace Sys2Proof.Machine

@[simp] theorem engineWrite_kept (s : State) (f : Fld) (a : Nat) (n : Nat) :
    optKept s.locked (engineWrite s f a n) := by
  simp [engineWrite]

@[simp] theorem trimObject_kept (s : State) (sub : Nat) (n : Nat) :
    (trimObject s sub n).1.locked = s.locked := by
  simp [trimObject, apply_ite State.locked, apply_ite Prod.fst, apply_ite Prod.snd]

@[simp] theorem atStartWrite_kept (s : State) (index : Nat) (sub : Nat) (n : Nat) :
    (atStartWrite s index sub n).1.locked = s.locked := by
  unfold atStartWrite; try dsimp only
  repeat' split
  all_goals simp_all [apply_ite State.locked, apply_ite Prod.fst, apply_ite Prod.snd]

@[simp] theorem fieldWrite_kept (s : State) (index : Nat) (sub : Nat) (f : Fld) (a : Nat) (n : Nat) :
    (fieldWrite s index sub f a n).1.locked = s.locked := by
  unfold fieldWrite; try dsimp only
  repeat' split
  all_goals first | (simp; done) | (rename_i h; simpa using optKept.of (l := s.locked) (by simp) h) | (rename_i h; simpa using resKept.of (l := s.locked) (by simp) h)

@[simp] theorem wdLoad_kept (s : State) :
    (wdLoad s).locked = s.locked := by
  simp [wdLoad]

@[simp] theorem storeWrite_kept (s : State) (index : Nat) (sub : Nat) (bs : List Byte) :
    (storeWrite s index sub bs).1.locked = s.locked := by
  simp [storeWrite, apply_ite State.locked, apply_ite Prod.fst, apply_ite Prod.snd]

@[simp] theorem appWrite_kept (s : State) (o : AppObj) (bs : List Byte) :
    (appWrite s o bs).1.locked = s.locked := by
  unfold appWrite; dsimp only; repeat' split
  all_goals simp

@[simp] theorem unlockWrite_kept (s : State) (bs : List Byte) :
    (unlockWrite s bs).1.locked = s.locked := by
  unfold unlockWrite; dsimp only; repeat' split
  all_goals simp

@[simp] theorem updCommand_kept (s : State) (q : Option JReq) (n : Nat) :
    (updCommand s q n).1.locked = s.locked := by
  unfold updCommand; dsimp only; repeat' split
  all_goals simp

@[simp] theorem updBlockWrite_kept (s : State) (q : Option JReq) (bs : List Byte) :
    (updBlockWrite s q bs).1.locked = s.locked := by
  unfold updBlockWrite; repeat' split
  all_goals simp_all [apply_ite State.locked, apply_ite Prod.fst, apply_ite Prod.snd]

@[simp] theorem putWords_kept (s : State) (reg : Nat → Nat) (count : Nat) (bs : List Byte) :
    (putWords s reg count bs).locked = s.locked := by
  simp [putWords]

@[simp] theorem pairCommand_kept (s : State) (n : Nat) :
    (pairCommand s n).1.locked = s.locked := by
  unfold pairCommand; repeat' split
  all_goals simp_all [apply_ite State.locked, apply_ite Prod.fst, apply_ite Prod.snd]

@[simp] theorem calcWrite1_kept (s : State) (q : Option JReq) (role : Nat) (index : Nat) (sub : Nat) (bs : List Byte) :
    (calcWrite1 s q role index sub bs).1.locked = s.locked := by
  unfold calcWrite1; dsimp only; repeat' split
  all_goals simp

@[simp] theorem clearCalibration_kept (s : State) :
    (clearCalibration s).locked = s.locked := by
  simp [clearCalibration]

@[simp] theorem wdEnable_kept (s : State) (n : Nat) :
    (wdEnable s n).1.locked = s.locked := by
  simp [wdEnable, apply_ite State.locked, apply_ite Prod.fst, apply_ite Prod.snd]

@[simp] theorem programCommand_kept (s : State) (n : Nat) :
    (programCommand s n).1.locked = s.locked := by
  unfold programCommand; repeat' split
  all_goals simp_all [apply_ite State.locked, apply_ite Prod.fst, apply_ite Prod.snd]

@[simp] theorem removeForces_kept (s : State) :
    (removeForces s).locked = s.locked := by
  simp [removeForces]

@[simp] theorem forceWrite_kept (s : State) (bs : List Byte) :
    (forceWrite s bs).1.locked = s.locked := by
  simp [forceWrite, apply_ite State.locked, apply_ite Prod.fst, apply_ite Prod.snd]

@[simp] theorem editWrite_kept (s : State) (q : Option JReq) (role : Nat) (bs : List Byte) :
    (editWrite s q role bs).1.locked = s.locked := by
  unfold editWrite; try dsimp only
  repeat' split
  all_goals simp_all [apply_ite State.locked, apply_ite Prod.fst, apply_ite Prod.snd]

@[simp] theorem calcWrite4_kept (s : State) (index : Nat) (sub : Nat) (bs : List Byte) :
    (calcWrite4 s index sub bs).1.locked = s.locked := by
  unfold calcWrite4; try dsimp only
  repeat' split
  all_goals first | (simp; done) | (rename_i h; simpa using optKept.of (l := s.locked) (by simp) h) | (rename_i h; simpa using resKept.of (l := s.locked) (by simp) h)

@[simp] theorem trcObject_kept (s : State) (b : Nat) (sub : Nat) (bs : List Byte) :
    (trcObject s b sub bs).1.locked = s.locked := by
  simp [trcObject, apply_ite State.locked, apply_ite Prod.fst, apply_ite Prod.snd]

@[simp] theorem calcWrite7_kept (s : State) (index : Nat) (sub : Nat) (bs : List Byte) :
    (calcWrite7 s index sub bs).1.locked = s.locked := by
  unfold calcWrite7; try dsimp only
  repeat' split
  all_goals first | (simp; done) | (rename_i h; simpa using optKept.of (l := s.locked) (by simp) h) | (rename_i h; simpa using resKept.of (l := s.locked) (by simp) h)

@[simp] theorem objEffect_kept (s : State) (q : Option JReq) (role : Nat) (index : Nat) (sub : Nat) (d : ObjDef) (bs : List Byte) :
    (objEffect s q role index sub d bs).1.locked = s.locked := by
  unfold objEffect; dsimp only; repeat' split
  all_goals simp

@[simp] theorem shareWrite_kept (s : State) (index : Nat) (sub : Nat) (d : ObjDef) (bs : List Byte) :
    (shareWrite s index sub d bs).locked = s.locked := by
  simp [shareWrite]

@[simp] theorem afterStore_kept (s : State) (index : Nat) :
    (afterStore s index).locked = s.locked := by
  simp [afterStore]

@[simp] theorem objAccept_kept (s : State) (q : JReq) (role : Nat) (index : Nat) (sub : Nat) (d : ObjDef) (bs : List Byte) :
    (objAccept s q role index sub d bs).1.locked = s.locked := by
  simp [objAccept, apply_ite State.locked, apply_ite Prod.fst, apply_ite Prod.snd]

@[simp] theorem objLoad_kept (s : State) (store : Bool) (index : Nat) (sub : Nat) (bs : List Byte) :
    (objLoad s store index sub bs).locked = s.locked := by
  unfold objLoad; dsimp only; repeat' split
  all_goals simp

end Sys2Proof.Machine
end

