-- ==== Sys2Proof/Laws/KeptJurno.lean ====
section
/-!
SUPPORT. Laws/KeptJurno.lean: the operations of Machine/Jurno.lean keep the locked part of the state.
-/
namespace Sys2Proof.Machine

@[simp] theorem discard_kept (s : State) (q : JReq) :
    (discard s q).locked = s.locked := by
  simp [discard]

@[simp] theorem acceptSeq_kept (s : State) (slot : Option Nat) (src : JSrc) :
    (acceptSeq s slot src).locked = s.locked := by
  unfold acceptSeq; try dsimp only
  repeat' split
  all_goals first | (simp; done) | (rename_i h; simpa using optKept.of (l := s.locked) (by simp) h) | (rename_i h; simpa using resKept.of (l := s.locked) (by simp) h)

@[simp] theorem toFirmware_kept (s : State) (q : JReq) (role : Nat) (m : JMsg) :
    (toFirmware s q role m).locked = s.locked := by
  unfold toFirmware; try dsimp only
  repeat' split
  all_goals first | (simp; done) | (rename_i h; simpa using optKept.of (l := s.locked) (by simp) h) | (rename_i h; simpa using resKept.of (l := s.locked) (by simp) h)

@[simp] theorem fwStatus_kept (s : State) (q : JReq) (role : Nat) (st : Nat) :
    (fwStatus s q role st).locked = s.locked := by
  simp [fwStatus]

@[simp] theorem fwAnswer_kept (s : State) (q : JReq) (role : Nat) (data : List Byte) :
    (fwAnswer s q role data).locked = s.locked := by
  simp [fwAnswer]

@[simp] theorem reply_kept (s : State) (engine : Bool) (q : JReq) (role : Nat) (m : JMsg) :
    (reply s engine q role m).locked = s.locked := by
  simp [reply]

@[simp] theorem readValue_kept (s : State) (src : JSrc) (index : Nat) (sub : Nat) :
    (readValue s src index sub).2.locked = s.locked := by
  unfold readValue; repeat' split
  all_goals simp

@[simp] theorem serveRead_kept (s : State) (q : JReq) (role : Nat) :
    (serveRead s q role).locked = s.locked := by
  simp [serveRead]

@[simp] theorem writeWhole_kept (s : State) (q : JReq) (role : Nat) (bs : List Byte) :
    (writeWhole s q role bs).locked = s.locked := by
  unfold writeWhole; dsimp only; repeat' split
  all_goals simp

@[simp] theorem setPart_kept (s : State) (key : Nat) (p : Option JPart) :
    (setPart s key p).locked = s.locked := by
  simp [setPart]

@[simp] theorem writePart_kept (s : State) (q : JReq) (role : Nat) :
    (writePart s q role).locked = s.locked := by
  unfold writePart; dsimp only; repeat' split
  all_goals simp

@[simp] theorem serveWrite_kept (s : State) (q : JReq) (role : Nat) :
    (serveWrite s q role).locked = s.locked := by
  simp [serveWrite]

@[simp] theorem groupApply_kept (s : State) (sub : Nat) (d : ObjDef) (v : List Byte) (index : Nat) :
    (groupApply s sub d v index).1.locked = s.locked := by
  simp [groupApply, apply_ite State.locked, apply_ite Prod.fst, apply_ite Prod.snd]

@[simp] theorem serveGwrite_kept (s : State) (q : JReq) (role : Nat) :
    (serveGwrite s q role).locked = s.locked := by
  unfold serveGwrite; dsimp only
  split
  · simp
  · rw [fwAnswer_kept, foldl_locked_fst]
    intro r e
    split <;> simp

@[simp] theorem serveDescribe_kept (s : State) (q : JReq) (role : Nat) :
    (serveDescribe s q role).locked = s.locked := by
  unfold serveDescribe; dsimp only; repeat' split
  all_goals simp

@[simp] theorem serveReadtime_kept (s : State) (q : JReq) (role : Nat) :
    (serveReadtime s q role).locked = s.locked := by
  simp [serveReadtime]

@[simp] theorem drawNonce_kept (s : State) :
    (drawNonce s).2.locked = s.locked := by
  simp [drawNonce]

@[simp] theorem serveOpen_kept (s : State) (q : JReq) (role : Nat) :
    (serveOpen s q role).locked = s.locked := by
  unfold serveOpen; dsimp only; repeat' split
  all_goals simp

@[simp] theorem authFailed_kept (s : State) (ip : Word) (role : Nat) :
    (authFailed s ip role).locked = s.locked := by
  simp [authFailed]

@[simp] theorem serveAuth_kept (s : State) (q : JReq) (role : Nat) :
    (serveAuth s q role).locked = s.locked := by
  unfold serveAuth; dsimp only; repeat' split
  all_goals simp

@[simp] theorem serveClose_kept (s : State) (q : JReq) (role : Nat) :
    (serveClose s q role).locked = s.locked := by
  unfold serveClose; try dsimp only
  repeat' split
  all_goals first | (simp; done) | (rename_i h; simpa using optKept.of (l := s.locked) (by simp) h) | (rename_i h; simpa using resKept.of (l := s.locked) (by simp) h)

@[simp] theorem judgeEdits_kept (s : State) :
    (judgeEdits s).locked = s.locked := by
  unfold judgeEdits; try dsimp only
  repeat' split
  all_goals simp_all [apply_ite State.locked, apply_ite Prod.fst, apply_ite Prod.snd]

@[simp] theorem sliceDone_kept (s : State) (d : Duty) :
    (sliceDone s d).locked = s.locked := by
  unfold sliceDone; try dsimp only
  repeat' split
  all_goals simp_all [apply_ite State.locked, apply_ite Prod.fst, apply_ite Prod.snd]

@[simp] theorem execSliceEnd_kept (meteredUj : Nat) (s : State) :
    outKept s.locked (execSliceEnd meteredUj s) := by
  unfold execSliceEnd; repeat' split
  all_goals simp_all [apply_ite State.locked, apply_ite Prod.fst, apply_ite Prod.snd]

@[simp] theorem route_kept (s : State) (q : JReq) (role : Nat) :
    (route s q role).locked = s.locked := by
  simp [route]

@[simp] theorem serve_kept (s : State) (q : JReq) (role : Nat) :
    (serve s q role).locked = s.locked := by
  simp [serve]

@[simp] theorem admitReq_kept (s : State) (q : JReq) :
    (admitReq s q).locked = s.locked := by
  unfold admitReq; try dsimp only
  repeat' split
  all_goals first | (simp; done) | (rename_i h; simpa using optKept.of (l := s.locked) (by simp) h) | (rename_i h; simpa using resKept.of (l := s.locked) (by simp) h)

@[simp] theorem jurnoReceive_kept (s : State) (q : JReq) :
    (jurnoReceive s q).locked = s.locked := by
  simp [jurnoReceive]

@[simp] theorem ofService_kept (s : State) (q : JReq) (svc : Nat) :
    outKept s.locked (ofService s q svc) := by
  simp [ofService]

@[simp] theorem execRead_kept (q : JReq) (s : State) :
    outKept s.locked (execRead q s) := by
  simp [execRead]

@[simp] theorem execWrite_kept (q : JReq) (s : State) :
    outKept s.locked (execWrite q s) := by
  simp [execWrite]

@[simp] theorem execGwrite_kept (q : JReq) (s : State) :
    outKept s.locked (execGwrite q s) := by
  simp [execGwrite]

@[simp] theorem execDescribe_kept (q : JReq) (s : State) :
    outKept s.locked (execDescribe q s) := by
  simp [execDescribe]

@[simp] theorem execReadtime_kept (q : JReq) (s : State) :
    outKept s.locked (execReadtime q s) := by
  simp [execReadtime]

@[simp] theorem execOpen_kept (q : JReq) (s : State) :
    outKept s.locked (execOpen q s) := by
  simp [execOpen]

@[simp] theorem execAuth_kept (q : JReq) (s : State) :
    outKept s.locked (execAuth q s) := by
  simp [execAuth]

@[simp] theorem execClose_kept (q : JReq) (s : State) :
    outKept s.locked (execClose q s) := by
  simp [execClose]

@[simp] theorem objectCommand_kept (s : State) (q : JReq) (ok : Bool) :
    outKept s.locked (objectCommand s q ok) := by
  simp [objectCommand]

@[simp] theorem execProgramWarmStart_kept (q : JReq) (s : State) :
    outKept s.locked (execProgramWarmStart q s) := by
  simp [execProgramWarmStart]

@[simp] theorem execProgramColdStart_kept (q : JReq) (s : State) :
    outKept s.locked (execProgramColdStart q s) := by
  simp [execProgramColdStart]

@[simp] theorem execProgramStopCommand_kept (q : JReq) (s : State) :
    outKept s.locked (execProgramStopCommand q s) := by
  simp [execProgramStopCommand]

@[simp] theorem execForceRecord_kept (q : JReq) (s : State) :
    outKept s.locked (execForceRecord q s) := by
  simp [execForceRecord]

@[simp] theorem execRemoveAllForces_kept (q : JReq) (s : State) :
    outKept s.locked (execRemoveAllForces q s) := by
  simp [execRemoveAllForces]

@[simp] theorem execClearEquivalenceFault_kept (q : JReq) (s : State) :
    outKept s.locked (execClearEquivalenceFault q s) := by
  simp [execClearEquivalenceFault]

@[simp] theorem execRequestAudit_kept (q : JReq) (s : State) :
    outKept s.locked (execRequestAudit q s) := by
  simp [execRequestAudit]

@[simp] theorem execEditRecord_kept (q : JReq) (s : State) :
    outKept s.locked (execEditRecord q s) := by
  simp [execEditRecord]

@[simp] theorem execStagingRecord_kept (q : JReq) (s : State) :
    outKept s.locked (execStagingRecord q s) := by
  simp [execStagingRecord]

@[simp] theorem execStagingCommit_kept (q : JReq) (s : State) :
    outKept s.locked (execStagingCommit q s) := by
  simp [execStagingCommit]

@[simp] theorem execStagingAbort_kept (q : JReq) (s : State) :
    outKept s.locked (execStagingAbort q s) := by
  simp [execStagingAbort]

@[simp] theorem execLoopRecordWrite_kept (w : LoopWriter) (loop : Fin 4096) (sub : Fin 32) (value : Word) (s : State) :
    outKept s.locked (execLoopRecordWrite w loop sub value s) := by
  unfold execLoopRecordWrite; try dsimp only
  repeat' split
  all_goals first | (simp; done) | (rename_i h; simpa using optKept.of (l := s.locked) (by simp) h) | (rename_i h; simpa using resKept.of (l := s.locked) (by simp) h)

@[simp] theorem execTraceArm_kept (q : JReq) (s : State) :
    outKept s.locked (execTraceArm q s) := by
  simp [execTraceArm]

@[simp] theorem execTraceStop_kept (q : JReq) (s : State) :
    outKept s.locked (execTraceStop q s) := by
  simp [execTraceStop]

@[simp] theorem execTraceForce_kept (q : JReq) (s : State) :
    outKept s.locked (execTraceForce q s) := by
  simp [execTraceForce]

@[simp] theorem execTraceReadData_kept (q : JReq) (s : State) :
    outKept s.locked (execTraceReadData q s) := by
  simp [execTraceReadData]

@[simp] theorem execPeakTemperatureReset_kept (q : JReq) (s : State) :
    outKept s.locked (execPeakTemperatureReset q s) := by
  simp [execPeakTemperatureReset]

@[simp] theorem execPlannedSwitchover_kept (q : JReq) (s : State) :
    outKept s.locked (execPlannedSwitchover q s) := by
  simp [execPlannedSwitchover]

@[simp] theorem execResynchronise_kept (q : JReq) (s : State) :
    outKept s.locked (execResynchronise q s) := by
  simp [execResynchronise]

@[simp] theorem execDeclareFailed_kept (q : JReq) (s : State) :
    outKept s.locked (execDeclareFailed q s) := by
  simp [execDeclareFailed]

@[simp] theorem execUnlock_kept (q : JReq) (s : State) :
    outKept s.locked (execUnlock q s) := by
  simp [execUnlock]

@[simp] theorem execCalibrationClear_kept (q : JReq) (s : State) :
    outKept s.locked (execCalibrationClear q s) := by
  simp [execCalibrationClear]

@[simp] theorem execFieldRelease_kept (q : JReq) (s : State) :
    outKept s.locked (execFieldRelease q s) := by
  simp [execFieldRelease]

@[simp] theorem execZeroTrim_kept (q : JReq) (s : State) :
    outKept s.locked (execZeroTrim q s) := by
  simp [execZeroTrim]

@[simp] theorem execSpanTrim_kept (q : JReq) (s : State) :
    outKept s.locked (execSpanTrim q s) := by
  simp [execSpanTrim]

@[simp] theorem execTrimButtonsEnable_kept (q : JReq) (s : State) :
    outKept s.locked (execTrimButtonsEnable q s) := by
  simp [execTrimButtonsEnable]

@[simp] theorem execRecoverFromBusOff_kept (q : JReq) (s : State) :
    outKept s.locked (execRecoverFromBusOff q s) := by
  simp [execRecoverFromBusOff]

@[simp] theorem execSafetyReset_kept (q : JReq) (s : State) :
    outKept s.locked (execSafetyReset q s) := by
  simp [execSafetyReset]

@[simp] theorem execConfirmCheckValue_kept (q : JReq) (s : State) :
    outKept s.locked (execConfirmCheckValue q s) := by
  simp [execConfirmCheckValue]

@[simp] theorem execSafetyProgramWrite_kept (q : JReq) (s : State) :
    outKept s.locked (execSafetyProgramWrite q s) := by
  simp [execSafetyProgramWrite]

@[simp] theorem execAxisReset_kept (q : JReq) (s : State) :
    outKept s.locked (execAxisReset q s) := by
  simp [execAxisReset]

@[simp] theorem execBlockProtection_kept (q : JReq) (s : State) :
    outKept s.locked (execBlockProtection q s) := by
  simp [execBlockProtection]

@[simp] theorem execRtcSetTime_kept (q : JReq) (s : State) :
    outKept s.locked (execRtcSetTime q s) := by
  simp [execRtcSetTime]

@[simp] theorem execBackupMemoryWrite_kept (q : JReq) (s : State) :
    outKept s.locked (execBackupMemoryWrite q s) := by
  simp [execBackupMemoryWrite]

@[simp] theorem execBackupMemoryClear_kept (q : JReq) (s : State) :
    outKept s.locked (execBackupMemoryClear q s) := by
  simp [execBackupMemoryClear]

@[simp] theorem execFreezeNow_kept (q : JReq) (s : State) :
    outKept s.locked (execFreezeNow q s) := by
  simp [execFreezeNow]

@[simp] theorem execLogClear_kept (q : JReq) (s : State) :
    outKept s.locked (execLogClear q s) := by
  simp [execLogClear]

@[simp] theorem execNextRecord_kept (q : JReq) (s : State) :
    outKept s.locked (execNextRecord q s) := by
  simp [execNextRecord]

@[simp] theorem execUpdateBegin_kept (q : JReq) (s : State) :
    outKept s.locked (execUpdateBegin q s) := by
  simp [execUpdateBegin]

@[simp] theorem execUpdateActivate_kept (q : JReq) (s : State) :
    outKept s.locked (execUpdateActivate q s) := by
  simp [execUpdateActivate]

@[simp] theorem execUpdateAbort_kept (q : JReq) (s : State) :
    outKept s.locked (execUpdateAbort q s) := by
  simp [execUpdateAbort]

@[simp] theorem execUpdateBlock_kept (q : JReq) (s : State) :
    outKept s.locked (execUpdateBlock q s) := by
  simp [execUpdateBlock]

@[simp] theorem execArpRequest_kept (mac : BitVec 48) (ip : Word) (targetIp : Word) (s : State) :
    outKept s.locked (execArpRequest mac ip targetIp s) := by
  simp [execArpRequest]

@[simp] theorem execIcmpEcho_kept (srcIp : Word) (dstIp : Word) (data : List Byte) (s : State) :
    outKept s.locked (execIcmpEcho srcIp dstIp data s) := by
  simp [execIcmpEcho]

@[simp] theorem execPartAssemblyTimeout_kept (index : BitVec 16) (sub : Byte) (s : State) :
    outKept s.locked (execPartAssemblyTimeout index sub s) := by
  unfold execPartAssemblyTimeout; dsimp only; repeat' split
  all_goals simp

@[simp] theorem execSessionAuthTimeout_kept (slot : Fin 8) (s : State) :
    outKept s.locked (execSessionAuthTimeout slot s) := by
  unfold execSessionAuthTimeout; try dsimp only
  repeat' split
  all_goals first | (simp; done) | (rename_i h; simpa using optKept.of (l := s.locked) (by simp) h) | (rename_i h; simpa using resKept.of (l := s.locked) (by simp) h)

@[simp] theorem execSessionInactivity_kept (slot : Fin 8) (s : State) :
    outKept s.locked (execSessionInactivity slot s) := by
  unfold execSessionInactivity; try dsimp only
  repeat' split
  all_goals first | (simp; done) | (rename_i h; simpa using optKept.of (l := s.locked) (by simp) h) | (rename_i h; simpa using resKept.of (l := s.locked) (by simp) h)

@[simp] theorem execAddressLockoutEnd_kept (ip : Word) (s : State) :
    outKept s.locked (execAddressLockoutEnd ip s) := by
  simp [execAddressLockoutEnd]

@[simp] theorem execUnlockExpiry_kept (slot : Fin 8) (s : State) :
    outKept s.locked (execUnlockExpiry slot s) := by
  unfold execUnlockExpiry; try dsimp only
  repeat' split
  all_goals first | (simp; done) | (rename_i h; simpa using optKept.of (l := s.locked) (by simp) h) | (rename_i h; simpa using resKept.of (l := s.locked) (by simp) h)

end Sys2Proof.Machine
end

