-- ==== Sys2Proof/Laws/KeptCan.lean ====
section
/-!
SUPPORT. Laws/KeptCan.lean: the operations of Machine/Can.lean keep the locked part of the state.
-/
namespace Sys2Proof.Machine

@[simp] theorem dropPart_kept (s : State) (m : Nat) (node : Nat) :
    (dropPart s m node).locked = s.locked := by
  simp [dropPart]

@[simp] theorem takeMessage_kept (s : State) (ctrl : Fin 2) (node : BitVec 7) (before : Nat) (bs : List Byte) :
    (takeMessage s ctrl node before bs).locked = s.locked := by
  simp [takeMessage]

@[simp] theorem takeSegment_kept (s : State) (ctrl : Fin 2) (node : BitVec 7) (data : List Byte) :
    (takeSegment s ctrl node data).locked = s.locked := by
  unfold takeSegment; dsimp only; repeat' split
  all_goals simp

@[simp] theorem recDown_kept (s : State) (m : Nat) :
    (recDown s m).locked = s.locked := by
  simp [recDown]

@[simp] theorem execCanFrameReceived_kept (ctrl : Fin 2) (frame : CanFrame) (s : State) :
    outKept s.locked (execCanFrameReceived ctrl frame s) := by
  simp [execCanFrameReceived]

@[simp] theorem execCanSegmentTimeout_kept (ctrl : Fin 2) (node : BitVec 7) (s : State) :
    outKept s.locked (execCanSegmentTimeout ctrl node s) := by
  unfold execCanSegmentTimeout; dsimp only; repeat' split
  all_goals simp

end Sys2Proof.Machine
end

