-- ==== Sys2Proof/Laws/KeptControl.lean ====
section
/-!
SUPPORT. Laws/KeptControl.lean: the operations of Machine/Control.lean keep the locked part of the state.
-/
namespace Sys2Proof.Machine

@[simp] theorem jump_kept (c : Ctx) (s : State) (i : Nat) (a : Nat) :
    doneKept s.locked (jump c s i a) := by
  simp [jump]

@[simp] theorem braAct_kept (c : Ctx) (s : State) :
    doneKept s.locked (braAct c s) := by
  simp [braAct]

@[simp] theorem bzAct_kept (zero : Bool) (c : Ctx) (s : State) :
    doneKept s.locked (bzAct zero c s) := by
  simp [bzAct]

@[simp] theorem callAct_kept (c : Ctx) (s : State) :
    doneKept s.locked (callAct c s) := by
  unfold callAct
  split
  · rename_i d h
    have h := jump_kept _ _ _ _ d h
    simp [h]
  · simp

@[simp] theorem retAct_kept (c : Ctx) (s : State) :
    doneKept s.locked (retAct c s) := by
  simp [retAct]

@[simp] theorem endAct_kept (c : Ctx) (s : State) :
    doneKept s.locked (endAct c s) := by
  simp [endAct]

@[simp] theorem rteAct_kept (c : Ctx) (s : State) :
    doneKept s.locked (rteAct c s) := by
  simp [rteAct]

@[simp] theorem execBra_kept (u : UnitId) (s : State) :
    outKept s.locked (execBra u s) := by
  simp [execBra]

@[simp] theorem execBz_kept (u : UnitId) (s : State) :
    outKept s.locked (execBz u s) := by
  simp [execBz]

@[simp] theorem execBnz_kept (u : UnitId) (s : State) :
    outKept s.locked (execBnz u s) := by
  simp [execBnz]

@[simp] theorem execCall_kept (u : UnitId) (s : State) :
    outKept s.locked (execCall u s) := by
  simp [execCall]

@[simp] theorem execRet_kept (u : UnitId) (s : State) :
    outKept s.locked (execRet u s) := by
  simp [execRet]

@[simp] theorem execEnd_kept (u : UnitId) (s : State) :
    outKept s.locked (execEnd u s) := by
  simp [execEnd]

@[simp] theorem execRte_kept (u : UnitId) (s : State) :
    outKept s.locked (execRte u s) := by
  simp [execRte]

@[simp] theorem execNop_kept (u : UnitId) (s : State) :
    outKept s.locked (execNop u s) := by
  simp [execNop]

@[simp] theorem mfsAct_kept (c : Ctx) (s : State) :
    doneKept s.locked (mfsAct c s) := by
  simp [mfsAct]

@[simp] theorem mtsAct_kept (c : Ctx) (s : State) :
    doneKept s.locked (mtsAct c s) := by
  simp [mtsAct, Ctx.ends]

@[simp] theorem execMfs_kept (u : UnitId) (s : State) :
    outKept s.locked (execMfs u s) := by
  simp [execMfs]

@[simp] theorem execMts_kept (u : UnitId) (s : State) :
    outKept s.locked (execMts u s) := by
  simp [execMts]

@[simp] theorem wfeCheck_kept (s : State) (u : Nat) (mask : Word) (bank : Nat) :
    (wfeCheck s u mask bank).locked = s.locked := by
  simp [wfeCheck]

@[simp] theorem wtuCheck_kept (s : State) (u : Nat) (time : Nat) (mask : Word) (bank : Nat) :
    (wtuCheck s u time mask bank).locked = s.locked := by
  simp [wtuCheck]

@[simp] theorem wfeAct_kept (c : Ctx) (s : State) :
    doneKept s.locked (wfeAct c s) := by
  simp [wfeAct]

@[simp] theorem wtuAct_kept (c : Ctx) (s : State) :
    doneKept s.locked (wtuAct c s) := by
  simp [wtuAct]

@[simp] theorem sevAct_kept (c : Ctx) (s : State) :
    doneKept s.locked (sevAct c s) := by
  simp [sevAct, Ctx.ends, apply_ite State.locked]

@[simp] theorem execWfe_kept (u : UnitId) (s : State) :
    outKept s.locked (execWfe u s) := by
  simp [execWfe]

@[simp] theorem execWtu_kept (u : UnitId) (s : State) :
    outKept s.locked (execWtu u s) := by
  simp [execWtu]

@[simp] theorem execSev_kept (u : UnitId) (s : State) :
    outKept s.locked (execSev u s) := by
  simp [execSev]

@[simp] theorem execWfeWake_kept (core : CoreId) (s : State) :
    outKept s.locked (execWfeWake core s) := by
  unfold execWfeWake; try dsimp only
  repeat' split
  all_goals first | (simp; done) | (rename_i h; simpa using optKept.of (l := s.locked) (by simp) h) | (rename_i h; simpa using resKept.of (l := s.locked) (by simp) h)

@[simp] theorem execWtuWake_kept (core : CoreId) (s : State) :
    outKept s.locked (execWtuWake core s) := by
  unfold execWtuWake; dsimp only; repeat' split
  all_goals simp

@[simp] theorem trapAct_kept (c : Ctx) (s : State) :
    doneKept s.locked (trapAct c s) := by
  simp [trapAct]

@[simp] theorem execTrap_kept (u : UnitId) (s : State) :
    outKept s.locked (execTrap u s) := by
  simp [execTrap]

end Sys2Proof.Machine
end

