-- ==== Sys2Proof/Laws/KeptItems.lean ====
section
/-!
SUPPORT. Laws/KeptItems.lean: the operations of Machine/Items.lean keep the locked part of the state.
-/
namespace Sys2Proof.Machine

@[simp] theorem itemForceIn_kept (s : State) (bs : List Byte) :
    (itemForceIn s bs).locked = s.locked := by
  simp [itemForceIn]

@[simp] theorem itemStagingIn_kept (s : State) (bs : List Byte) :
    (itemStagingIn s bs).locked = s.locked := by
  simp [itemStagingIn]

@[simp] theorem itemFaultIn_kept (s : State) (bs : List Byte) :
    (itemFaultIn s bs).locked = s.locked := by
  simp [itemFaultIn]

@[simp] theorem itemStopIn_kept (s : State) (cause : Nat) (k : Nat) :
    (itemStopIn s cause k).locked = s.locked := by
  unfold itemStopIn; try dsimp only
  repeat' split
  all_goals simp_all [apply_ite State.locked, apply_ite Prod.fst, apply_ite Prod.snd]

@[simp] theorem itemHandoverIn_kept (s : State) (th : Nat) :
    (itemHandoverIn s th).locked = s.locked := by
  simp [itemHandoverIn]

@[simp] theorem execControlRecord_kept (rec : HsbRec) (s : State) :
    outKept s.locked (execControlRecord rec s) := by
  simp [execControlRecord]

end Sys2Proof.Machine
end

