-- ==== Sys2Proof/Laws/KeptLogic.lean ====
section
/-!
SUPPORT. Laws/KeptLogic.lean: the operations of Machine/Logic.lean keep the locked part of the state.
-/
namespace Sys2Proof.Machine

@[simp] theorem execAnd_kept (u : UnitId) (s : State) :
    outKept s.locked (execAnd u s) := by
  simp [execAnd]

@[simp] theorem execOr_kept (u : UnitId) (s : State) :
    outKept s.locked (execOr u s) := by
  simp [execOr]

@[simp] theorem execXor_kept (u : UnitId) (s : State) :
    outKept s.locked (execXor u s) := by
  simp [execXor]

@[simp] theorem execNot_kept (u : UnitId) (s : State) :
    outKept s.locked (execNot u s) := by
  simp [execNot]

@[simp] theorem execShl_kept (u : UnitId) (s : State) :
    outKept s.locked (execShl u s) := by
  simp [execShl]

@[simp] theorem execShr_kept (u : UnitId) (s : State) :
    outKept s.locked (execShr u s) := by
  simp [execShr]

@[simp] theorem execSar_kept (u : UnitId) (s : State) :
    outKept s.locked (execSar u s) := by
  simp [execSar]

@[simp] theorem execRol_kept (u : UnitId) (s : State) :
    outKept s.locked (execRol u s) := by
  simp [execRol]

@[simp] theorem execRor_kept (u : UnitId) (s : State) :
    outKept s.locked (execRor u s) := by
  simp [execRor]

@[simp] theorem compareAct_kept (f : Sz → Nat → Nat → Bool × Nat) (c : Ctx) (s : State) :
    doneKept s.locked (compareAct f c s) := by
  simp [compareAct]

@[simp] theorem execCeq_kept (u : UnitId) (s : State) :
    outKept s.locked (execCeq u s) := by
  simp [execCeq]

@[simp] theorem execCne_kept (u : UnitId) (s : State) :
    outKept s.locked (execCne u s) := by
  simp [execCne]

@[simp] theorem execClt_kept (u : UnitId) (s : State) :
    outKept s.locked (execClt u s) := by
  simp [execClt]

@[simp] theorem execCle_kept (u : UnitId) (s : State) :
    outKept s.locked (execCle u s) := by
  simp [execCle]

@[simp] theorem execCltu_kept (u : UnitId) (s : State) :
    outKept s.locked (execCltu u s) := by
  simp [execCltu]

@[simp] theorem execCleu_kept (u : UnitId) (s : State) :
    outKept s.locked (execCleu u s) := by
  simp [execCleu]

@[simp] theorem execBand_kept (u : UnitId) (s : State) :
    outKept s.locked (execBand u s) := by
  simp [execBand]

@[simp] theorem execBor_kept (u : UnitId) (s : State) :
    outKept s.locked (execBor u s) := by
  simp [execBor]

@[simp] theorem execBxor_kept (u : UnitId) (s : State) :
    outKept s.locked (execBxor u s) := by
  simp [execBxor]

@[simp] theorem execBandn_kept (u : UnitId) (s : State) :
    outKept s.locked (execBandn u s) := by
  simp [execBandn]

@[simp] theorem execBorn_kept (u : UnitId) (s : State) :
    outKept s.locked (execBorn u s) := by
  simp [execBorn]

@[simp] theorem execBnot_kept (u : UnitId) (s : State) :
    outKept s.locked (execBnot u s) := by
  simp [execBnot]

@[simp] theorem edgeAct_kept (rising : Bool) (c : Ctx) (s : State) :
    doneKept s.locked (edgeAct rising c s) := by
  unfold edgeAct; dsimp only
  split
  · simp
  · rename_i t h
    have h := resKept.of (Ctx.write_kept _ _ _ _) h
    rw [← h]
    have hr (u : State) (r : Nat × Nat) (hu : u.locked = t.locked) : doneKept t.locked (c.result u r) :=
      hu ▸ Ctx.result_kept c u r
    first | exact Ctx.ends_kept _ _ | (apply hr; split <;> simp) | (apply hr; simp)

@[simp] theorem execRedge_kept (u : UnitId) (s : State) :
    outKept s.locked (execRedge u s) := by
  simp [execRedge]

@[simp] theorem execFedge_kept (u : UnitId) (s : State) :
    outKept s.locked (execFedge u s) := by
  simp [execFedge]

end Sys2Proof.Machine
end

