-- ==== Sys2Proof/Laws/KeptTimers.lean ====
section
/-!
SUPPORT. Laws/KeptTimers.lean: the operations of Machine/Timers.lean keep the locked part of the state.
-/
namespace Sys2Proof.Machine

@[simp] theorem instWrite_kept (s : State) (u : Nat) (i : Nat) (a : Nat) (w1 : Nat) (w2 : Nat) (w3 : Nat) :
    resKept s.locked (instWrite s u i a w1 w2 w3) := by
  simp [instWrite]

@[simp] theorem offerWheel_kept (s : State) (u : Nat) (at_ : Nat) :
    (offerWheel s u at_).locked = s.locked := by
  simp [offerWheel]

@[simp] theorem timerAct_kept (f : Timer → Bool → Nat → Nat → Timer) (c : Ctx) (s : State) :
    doneKept s.locked (timerAct f c s) := by
  unfold timerAct; dsimp only
  split
  · simp
  · rename_i t h
    have h := resKept.of (instWrite_kept _ _ _ _ _ _ _) h
    rw [← h]
    have hr (u : State) (r : Nat × Nat) (hu : u.locked = t.locked) : doneKept t.locked (c.result u r) :=
      hu ▸ Ctx.result_kept c u r
    first | exact Ctx.ends_kept _ _ | (apply hr; split <;> simp) | (apply hr; simp)

@[simp] theorem tetAct_kept (c : Ctx) (s : State) :
    doneKept s.locked (tetAct c s) := by
  simp [tetAct]

@[simp] theorem execTon_kept (u : UnitId) (s : State) :
    outKept s.locked (execTon u s) := by
  simp [execTon]

@[simp] theorem execTof_kept (u : UnitId) (s : State) :
    outKept s.locked (execTof u s) := by
  simp [execTof]

@[simp] theorem execTp_kept (u : UnitId) (s : State) :
    outKept s.locked (execTp u s) := by
  simp [execTp]

@[simp] theorem execTet_kept (u : UnitId) (s : State) :
    outKept s.locked (execTet u s) := by
  simp [execTet]

@[simp] theorem counterWrite_kept (s : State) (u : Nat) (i : Nat) (a : Nat) (k : Counter) :
    resKept s.locked (counterWrite s u i a k) := by
  simp [counterWrite]

@[simp] theorem countAct_kept (f : Counter → Bool → Counter) (out : Counter → Bool) (c : Ctx) (s : State) :
    doneKept s.locked (countAct f out c s) := by
  unfold countAct; dsimp only
  split
  · simp
  · rename_i t h
    have h := resKept.of (counterWrite_kept _ _ _ _ _) h
    rw [← h]
    have hr (u : State) (r : Nat × Nat) (hu : u.locked = t.locked) : doneKept t.locked (c.result u r) :=
      hu ▸ Ctx.result_kept c u r
    first | exact Ctx.ends_kept _ _ | (apply hr; split <;> simp) | (apply hr; simp)

@[simp] theorem setCountAct_kept (f : Counter → Bool → Counter) (c : Ctx) (s : State) :
    doneKept s.locked (setCountAct f c s) := by
  unfold setCountAct; dsimp only
  split
  · simp
  · rename_i t h
    have h := resKept.of (counterWrite_kept _ _ _ _ _) h
    rw [← h]
    have hr (u : State) (r : Nat × Nat) (hu : u.locked = t.locked) : doneKept t.locked (c.result u r) :=
      hu ▸ Ctx.result_kept c u r
    first | exact Ctx.ends_kept _ _ | (apply hr; split <;> simp) | (apply hr; simp)

@[simp] theorem execCtu_kept (u : UnitId) (s : State) :
    outKept s.locked (execCtu u s) := by
  simp [execCtu]

@[simp] theorem execCtd_kept (u : UnitId) (s : State) :
    outKept s.locked (execCtd u s) := by
  simp [execCtd]

@[simp] theorem execCld_kept (u : UnitId) (s : State) :
    outKept s.locked (execCld u s) := by
  simp [execCld]

@[simp] theorem execCrst_kept (u : UnitId) (s : State) :
    outKept s.locked (execCrst u s) := by
  simp [execCrst]

end Sys2Proof.Machine
end

