-- ==== Sys2Proof/Laws/KeptSafetyRun.lean ====
section
/-!
SUPPORT. Laws/KeptSafetyRun.lean: the operations of Machine/SafetyRun.lean keep the locked part of the state.
-/
namespace Sys2Proof.Machine

@[simp] theorem safRetAct_kept (c : Ctx) (s : State) :
    doneKept s.locked (safRetAct c s) := by
  simp [safRetAct]

@[simp] theorem safSpec_kept (act : Ctx → State → Res Done) (c : Ctx) (s : State) (h : doneKept s.locked (act c s)) :
    doneKept s.locked (safSpec act c s) := by
  unfold safSpec; split <;> simp [h]

@[simp] theorem safActA_kept (op : Op) (c : Ctx) (s : State) : doneKept s.locked (safActA op c s) := by
  unfold safActA
  split <;> simp

@[simp] theorem safActB_kept (op : Op) (c : Ctx) (s : State) : doneKept s.locked (safActB op c s) := by
  unfold safActB
  split <;> simp

@[simp] theorem safAct_kept (op : Op) (c : Ctx) (s : State) : doneKept s.locked (safAct op c s) := by
  unfold safAct
  split <;> simp

@[simp] theorem safInsn_kept (s : State) :
    (safInsn s).locked = s.locked := by
  unfold safInsn; try dsimp only
  repeat' split
  all_goals first | (simp; done) | (rename_i h; simpa using optKept.of (l := s.locked) (by simp) h) | (rename_i h; simpa using resKept.of (l := s.locked) (by simp) h)

@[simp] theorem safRun_kept (s : State) (x1 : Nat) :
    (safRun s x1).locked = s.locked := by
  induction x1 generalizing s with
  | zero => rfl
  | succ n ih => unfold safRun; split <;> simp [ih]

@[simp] theorem safCall_kept (s : State) (what : SafCall) :
    (safCall s what).locked = s.locked := by
  simp [safCall]

@[simp] theorem safInit_kept (s : State) (fuel : Nat) :
    (safInit s fuel).locked = s.locked := by
  simp [safInit]

@[simp] theorem safCycle_kept (s : State) (fuel : Nat) :
    (safCycle s fuel).locked = s.locked := by
  simp [safCycle]

@[simp] theorem execSafetyCycle_kept (fuel : Nat) (s : State) :
    outKept s.locked (execSafetyCycle fuel s) := by
  simp [execSafetyCycle]

end Sys2Proof.Machine
end

