-- ==== Sys2Proof/Laws/KeptStartup.lean ====
section
/-!
SUPPORT. Laws/KeptStartup.lean: the operations of Machine/Startup.lean keep the locked part of the state.
-/
namespace Sys2Proof.Machine

@[simp] theorem flashToFw_kept (s : State) (dst : Nat) (off : Nat) (n : Nat) :
    (flashToFw s dst off n).locked = s.locked := by
  simp [flashToFw]

@[simp] theorem execModuleResetRelease_kept (straps : Straps) (s : State) :
    outKept s.locked (execModuleResetRelease straps s) := by
  unfold execModuleResetRelease; dsimp only
  split
  · simp
  · have h : (flashToFw (s.drawBit).2 0x300000 0 0x100000).locked = s.locked := by simp
    have h2 : ∀ t : State, t.locked = s.locked → (if straps.factory then t.setFlag NVM_FSTAT_LDRLOCK false else t).locked = s.locked := by
      intro t ht
      split <;> simp [ht]
    have h3 := h2 _ h
    simp only [State.locked, Prod.mk.injEq] at h3
    simp only [outKept_next, locked_mk, h3]
    rfl

@[simp] theorem recallCan_kept (s : State) (m : Nat) :
    (recallCan s m).locked = s.locked := by
  unfold recallCan; dsimp only
  apply optKept_getD
  · simpa using canCtrlWrite_kept (((canNbtWrite (s.setCanst m _) m _).setReg _ _).setReg _ _) m _
  · simp

@[simp] theorem execJurnoPhaseRecall_kept (s : State) :
    outKept s.locked (execJurnoPhaseRecall s) := by
  simp [execJurnoPhaseRecall]

@[simp] theorem loaderObject_kept (s : State) (index : Nat) (sub : Nat) :
    (loaderObject s index sub).locked = s.locked := by
  unfold loaderObject; try dsimp only
  repeat' split
  all_goals first | (simp; done) | (rename_i h; simpa using optKept.of (l := s.locked) (by simp) h) | (rename_i h; simpa using resKept.of (l := s.locked) (by simp) h)

@[simp] theorem canOffNow_kept (s : State) (m : Nat) :
    (canOffNow s m).locked = s.locked := by
  simp [canOffNow]

@[simp] theorem serveJurno_kept (s : State) :
    (serveJurno s).locked = s.locked := by
  simp [serveJurno]

@[simp] theorem stayResident_kept (s : State) :
    (stayResident s).locked = s.locked := by
  simp [stayResident]

@[simp] theorem execLoaderStart_kept (s : State) :
    outKept s.locked (execLoaderStart s) := by
  simp [execLoaderStart]

@[simp] theorem loadProgram_kept (s : State) :
    (loadProgram s).locked = s.locked := by
  simp [loadProgram]

@[simp] theorem routeEvents_kept (s : State) :
    (routeEvents s).locked = s.locked := by
  simp [routeEvents]

@[simp] theorem loadValue_kept (s : State) (index : Nat) (sub : Nat) (bs : List Byte) :
    (loadValue s index sub bs).locked = s.locked := by
  unfold loadValue; dsimp only; repeat' split
  all_goals simp

@[simp] theorem loadRecord_kept (s : State) (e : Nat × NvRec) :
    (loadRecord s e).locked = s.locked := by
  unfold loadRecord; dsimp only; repeat' split
  all_goals simp

@[simp] theorem loadOther_kept (s : State) :
    (loadOther s).locked = s.locked := by
  simp [loadOther]

@[simp] theorem firstClaims_kept (s : State) :
    (firstClaims s).locked = s.locked := by
  simp [firstClaims]

@[simp] theorem startRecords_kept (s : State) :
    (startRecords s).locked = s.locked := by
  simp [startRecords]

@[simp] theorem enterFirmware_kept (s : State) :
    (enterFirmware s).locked = s.locked := by
  simp [enterFirmware]

@[simp] theorem takePlace_kept (s : State) :
    (takePlace s).locked = s.locked := by
  simp [takePlace]

@[simp] theorem execFirmwareStart_kept (s : State) :
    outKept s.locked (execFirmwareStart s) := by
  simp [execFirmwareStart]

end Sys2Proof.Machine
end

