-- ==== Sys2Proof/Laws/Memory.lean ====
section
/-!
SUPPORT. Laws/Memory.lean: the operations that write memories keep the canonical form.
-/
namespace Sys2Proof.Machine

/-- The memories after reset are in canonical form. -/
theorem memories_wf_reset : Memories.wf State.reset.mem = true := rfl

theorem Tbl.wf_foldl_set {α β : Type} [DecidableEq α] (xs : List β) (d : α) (k : β → Nat) (v : β → α) (t : Tbl α)
    (h : Tbl.wf d t = true) : Tbl.wf d (xs.foldl (fun t x => t.set d (k x) (v x)) t) = true := by
  induction xs generalizing t with
  | nil => exact h
  | cons x xs ih => exact ih _ (Tbl.wf_set _ _ _ _ h)

/-- The form memory by memory. -/
theorem memories_wf_iff (m : Memories) : m.wf = true ↔
    ((((((Tbl.wf 0 m.code = true ∧ Tbl.wf 0 m.sram = true) ∧ Tbl.wf 0 m.trace = true) ∧ Tbl.wf 0xFF m.fw = true)
      ∧ Tbl.wf 0 m.rom = true) ∧ Tbl.wf 0 m.mram = true) ∧ Tbl.wf 0xFF m.flash = true) ∧ Tbl.wf 0 m.safety = true := by
  simp only [Memories.wf, Bool.and_eq_true]

theorem forceByteWrite_mem (s : State) (o : Nat) (b : Byte) : (forceByteWrite s o b).mem = s.mem := by
  unfold forceByteWrite
  rfl

theorem gauzeByteWrite_mem (s : State) (o : Nat) (b : Byte) : (gauzeByteWrite s o b).mem = s.mem := by
  unfold gauzeByteWrite
  rfl

theorem modImg_mem (s : State) (f : Image → Image) : (s.modImg f).mem = s.mem := by
  unfold State.modImg
  rfl

theorem modSaf_mem (s : State) (f : SafState → SafState) : (s.modSaf f).mem = s.mem := by
  unfold State.modSaf
  rfl

theorem memories_wf_code (m : Memories) (a : Nat) (b : Byte) (h : m.wf = true) :
    Memories.wf { m with code := m.code.set 0 a b } = true := by
  obtain ⟨⟨⟨⟨⟨⟨⟨h1, h2⟩, h3⟩, h4⟩, h5⟩, h6⟩, h7⟩, h8⟩ := (memories_wf_iff _).1 h
  exact (memories_wf_iff _).2 ⟨⟨⟨⟨⟨⟨⟨Tbl.wf_set _ _ _ _ h1, h2⟩, h3⟩, h4⟩, h5⟩, h6⟩, h7⟩, h8⟩

theorem memories_wf_sram (m : Memories) (a : Nat) (b : Byte) (h : m.wf = true) :
    Memories.wf { m with sram := m.sram.set 0 a b } = true := by
  obtain ⟨⟨⟨⟨⟨⟨⟨h1, h2⟩, h3⟩, h4⟩, h5⟩, h6⟩, h7⟩, h8⟩ := (memories_wf_iff _).1 h
  exact (memories_wf_iff _).2 ⟨⟨⟨⟨⟨⟨⟨h1, Tbl.wf_set _ _ _ _ h2⟩, h3⟩, h4⟩, h5⟩, h6⟩, h7⟩, h8⟩

theorem memories_wf_trace (m : Memories) (a : Nat) (b : Byte) (h : m.wf = true) :
    Memories.wf { m with trace := m.trace.set 0 a b } = true := by
  obtain ⟨⟨⟨⟨⟨⟨⟨h1, h2⟩, h3⟩, h4⟩, h5⟩, h6⟩, h7⟩, h8⟩ := (memories_wf_iff _).1 h
  exact (memories_wf_iff _).2 ⟨⟨⟨⟨⟨⟨⟨h1, h2⟩, Tbl.wf_set _ _ _ _ h3⟩, h4⟩, h5⟩, h6⟩, h7⟩, h8⟩

theorem memories_wf_fw (m : Memories) (a : Nat) (b : Byte) (h : m.wf = true) :
    Memories.wf { m with fw := m.fw.set 0xFF a b } = true := by
  obtain ⟨⟨⟨⟨⟨⟨⟨h1, h2⟩, h3⟩, h4⟩, h5⟩, h6⟩, h7⟩, h8⟩ := (memories_wf_iff _).1 h
  exact (memories_wf_iff _).2 ⟨⟨⟨⟨⟨⟨⟨h1, h2⟩, h3⟩, Tbl.wf_set _ _ _ _ h4⟩, h5⟩, h6⟩, h7⟩, h8⟩

theorem storeByte_wf (s : State) (a : Nat) (b : Byte) (h : s.mem.wf = true) : (storeByte s a b).mem.wf = true := by
  unfold storeByte
  have h1 : (if s.mem.ecc.contains a || s.mem.eccOne.contains a then
      { s with mem := { s.mem with ecc := s.mem.ecc.del a, eccOne := s.mem.eccOne.del a } } else s).mem.wf = true := by
    split
    · exact (memories_wf_iff _).2 ((memories_wf_iff _).1 h)
    · exact h
  generalize (if s.mem.ecc.contains a || s.mem.eccOne.contains a then
      { s with mem := { s.mem with ecc := s.mem.ecc.del a, eccOne := s.mem.eccOne.del a } } else s) = t at h1
  dsimp only
  split
  · exact memories_wf_code _ _ _ h1
  · exact memories_wf_sram _ _ _ h1
  · exact memories_wf_trace _ _ _ h1
  · exact memories_wf_fw _ _ _ h1
  · split
    · rw [forceByteWrite_mem]
      exact h1
    · split
      · rw [modImg_mem]
        exact h1
      · rw [gauzeByteWrite_mem]
        exact h1
  · exact h1

theorem storeBytes_wf (s : State) (a : Nat) (bs : List Byte) (h : s.mem.wf = true) : (storeBytes s a bs).mem.wf = true := by
  induction bs generalizing s a with
  | nil => exact h
  | cons b bs ih => exact ih _ _ (storeByte_wf s a b h)

theorem safPut_wf (s : State) (a : Nat) (bs : List Byte) (h : s.mem.wf = true) : (safPut s a bs).mem.wf = true := by
  obtain ⟨⟨⟨⟨⟨⟨⟨h1, h2⟩, h3⟩, h4⟩, h5⟩, h6⟩, h7⟩, h8⟩ := (memories_wf_iff _).1 h
  unfold safPut
  dsimp only
  split
  · exact (memories_wf_iff _).2 ⟨⟨⟨⟨⟨⟨⟨h1, h2⟩, h3⟩, h4⟩, h5⟩, h6⟩, h7⟩, Tbl.wf_setMany _ _ _ _ h8⟩
  · rw [modSaf_mem]
    exact h

theorem eraseSector_wf (s : State) (n : Nat) (h : s.mem.wf = true) : (eraseSector s n).mem.wf = true := by
  obtain ⟨⟨⟨⟨⟨⟨⟨h1, h2⟩, h3⟩, h4⟩, h5⟩, h6⟩, h7⟩, h8⟩ := (memories_wf_iff _).1 h
  exact (memories_wf_iff _).2 ⟨⟨⟨⟨⟨⟨⟨h1, h2⟩, h3⟩, h4⟩, h5⟩, h6⟩, Tbl.wf_clearRange _ _ _ _ h7⟩, h8⟩

theorem programFlash_wf (s : State) (off : Nat) (bs : List Byte) (h : s.mem.wf = true) : (programFlash s off bs).mem.wf = true := by
  obtain ⟨⟨⟨⟨⟨⟨⟨h1, h2⟩, h3⟩, h4⟩, h5⟩, h6⟩, h7⟩, h8⟩ := (memories_wf_iff _).1 h
  exact (memories_wf_iff _).2 ⟨⟨⟨⟨⟨⟨⟨h1, h2⟩, h3⟩, h4⟩, h5⟩, h6⟩, Tbl.wf_setMany _ _ _ _ h7⟩, h8⟩

end Sys2Proof.Machine
end

