-- ==== Sys2Proof/Laws/Parts.lean ====
section
/-!
SUPPORT. Laws/Parts.lean: the numbered parts of the state, such as units, tasks, stations and channels: what one reads as after a
write of it, and that every other one stays.
-/
namespace Sys2Proof.Machine

@[simp] theorem State.unit_setUnit (s : State) (k : Nat) (x : UnitSt) : (s.setUnit k x).unit k = x := by
  simp [State.setUnit, State.unit, State.modHsb, State.modPhr, State.modField, State.modLpe, State.modSaf, State.modGz]

theorem State.unit_setUnit_ne (s : State) (k j : Nat) (x : UnitSt) (h : j ≠ k) : (s.setUnit k x).unit j = s.unit j := by
  simp [State.setUnit, State.unit, State.modHsb, State.modPhr, State.modField, State.modLpe, State.modSaf, State.modGz, Tbl.get_set_ne', h]

@[simp] theorem State.unit_modUnit (s : State) (k : Nat) (f : UnitSt → UnitSt) : (s.modUnit k f).unit k = f (s.unit k) := by
  simp [State.modUnit]

theorem State.unit_modUnit_ne (s : State) (k j : Nat) (f : UnitSt → UnitSt) (h : j ≠ k) : (s.modUnit k f).unit j = s.unit j := by
  simp [State.modUnit, State.unit_setUnit_ne, h]

@[simp] theorem State.task_setTask (s : State) (k : Nat) (x : TaskSt) : (s.setTask k x).task k = x := by
  simp [State.setTask, State.task, State.modHsb, State.modPhr, State.modField, State.modLpe, State.modSaf, State.modGz]

theorem State.task_setTask_ne (s : State) (k j : Nat) (x : TaskSt) (h : j ≠ k) : (s.setTask k x).task j = s.task j := by
  simp [State.setTask, State.task, State.modHsb, State.modPhr, State.modField, State.modLpe, State.modSaf, State.modGz, Tbl.get_set_ne', h]

@[simp] theorem State.task_modTask (s : State) (k : Nat) (f : TaskSt → TaskSt) : (s.modTask k f).task k = f (s.task k) := by
  simp [State.modTask]

theorem State.task_modTask_ne (s : State) (k j : Nat) (f : TaskSt → TaskSt) (h : j ≠ k) : (s.modTask k f).task j = s.task j := by
  simp [State.modTask, State.task_setTask_ne, h]

@[simp] theorem State.delta_setDelta (s : State) (k : Nat) (x : DeltaSt) : (s.setDelta k x).delta k = x := by
  simp [State.setDelta, State.delta, State.modHsb, State.modPhr, State.modField, State.modLpe, State.modSaf, State.modGz]

theorem State.delta_setDelta_ne (s : State) (k j : Nat) (x : DeltaSt) (h : j ≠ k) : (s.setDelta k x).delta j = s.delta j := by
  simp [State.setDelta, State.delta, State.modHsb, State.modPhr, State.modField, State.modLpe, State.modSaf, State.modGz, Tbl.get_set_ne', h]

@[simp] theorem State.delta_modDelta (s : State) (k : Nat) (f : DeltaSt → DeltaSt) : (s.modDelta k f).delta k = f (s.delta k) := by
  simp [State.modDelta]

theorem State.delta_modDelta_ne (s : State) (k j : Nat) (f : DeltaSt → DeltaSt) (h : j ≠ k) : (s.modDelta k f).delta j = s.delta j := by
  simp [State.modDelta, State.delta_setDelta_ne, h]

@[simp] theorem State.nvRec_setNvRec (s : State) (k : Nat) (x : NvRec) : (s.setNvRec k x).nvRec k = x := by
  simp [State.setNvRec, State.nvRec, State.modHsb, State.modPhr, State.modField, State.modLpe, State.modSaf, State.modGz]

theorem State.nvRec_setNvRec_ne (s : State) (k j : Nat) (x : NvRec) (h : j ≠ k) : (s.setNvRec k x).nvRec j = s.nvRec j := by
  simp [State.setNvRec, State.nvRec, State.modHsb, State.modPhr, State.modField, State.modLpe, State.modSaf, State.modGz, Tbl.get_set_ne', h]

@[simp] theorem State.srec_setSrec (s : State) (k : Nat) (x : StnRec) : (s.setSrec k x).srec k = x := by
  simp [State.setSrec, State.srec, State.modHsb, State.modPhr, State.modField, State.modLpe, State.modSaf, State.modGz]

theorem State.srec_setSrec_ne (s : State) (k j : Nat) (x : StnRec) (h : j ≠ k) : (s.setSrec k x).srec j = s.srec j := by
  simp [State.setSrec, State.srec, State.modHsb, State.modPhr, State.modField, State.modLpe, State.modSaf, State.modGz, Tbl.get_set_ne', h]

@[simp] theorem State.srec_modSrec (s : State) (k : Nat) (f : StnRec → StnRec) : (s.modSrec k f).srec k = f (s.srec k) := by
  simp [State.modSrec]

theorem State.srec_modSrec_ne (s : State) (k j : Nat) (f : StnRec → StnRec) (h : j ≠ k) : (s.modSrec k f).srec j = s.srec j := by
  simp [State.modSrec, State.srec_setSrec_ne, h]

@[simp] theorem State.entry_setEntry (s : State) (k : Nat) (x : TxEntry) : (s.setEntry k x).entry k = x := by
  simp [State.setEntry, State.entry, State.modHsb, State.modPhr, State.modField, State.modLpe, State.modSaf, State.modGz]

theorem State.entry_setEntry_ne (s : State) (k j : Nat) (x : TxEntry) (h : j ≠ k) : (s.setEntry k x).entry j = s.entry j := by
  simp [State.setEntry, State.entry, State.modHsb, State.modPhr, State.modField, State.modLpe, State.modSaf, State.modGz, Tbl.get_set_ne', h]

@[simp] theorem State.sto_setSto (s : State) (k : Nat) (x : StoOut) : (s.setSto k x).sto k = x := by
  simp [State.setSto, State.sto, State.modHsb, State.modPhr, State.modField, State.modLpe, State.modSaf, State.modGz]

theorem State.sto_setSto_ne (s : State) (k j : Nat) (x : StoOut) (h : j ≠ k) : (s.setSto k x).sto j = s.sto j := by
  simp [State.setSto, State.sto, State.modHsb, State.modPhr, State.modField, State.modLpe, State.modSaf, State.modGz, Tbl.get_set_ne', h]

@[simp] theorem State.stn_setStn (s : State) (k : Nat) (x : Station) : (s.setStn k x).stn k = x := by
  simp [State.setStn, State.stn, State.modHsb, State.modPhr, State.modField, State.modLpe, State.modSaf, State.modGz]

theorem State.stn_setStn_ne (s : State) (k j : Nat) (x : Station) (h : j ≠ k) : (s.setStn k x).stn j = s.stn j := by
  simp [State.setStn, State.stn, State.modHsb, State.modPhr, State.modField, State.modLpe, State.modSaf, State.modGz, Tbl.get_set_ne', h]

@[simp] theorem State.trcb_setTrcb (s : State) (k : Nat) (x : TrcSt) : (s.setTrcb k x).trcb k = x := by
  simp [State.setTrcb, State.trcb, State.modHsb, State.modPhr, State.modField, State.modLpe, State.modSaf, State.modGz]

theorem State.trcb_setTrcb_ne (s : State) (k j : Nat) (x : TrcSt) (h : j ≠ k) : (s.setTrcb k x).trcb j = s.trcb j := by
  simp [State.setTrcb, State.trcb, State.modHsb, State.modPhr, State.modField, State.modLpe, State.modSaf, State.modGz, Tbl.get_set_ne', h]

@[simp] theorem State.loop_setLoop (s : State) (k : Nat) (x : LoopSt) : (s.setLoop k x).loop k = x := by
  simp [State.setLoop, State.loop, State.modHsb, State.modPhr, State.modField, State.modLpe, State.modSaf, State.modGz]

theorem State.loop_setLoop_ne (s : State) (k j : Nat) (x : LoopSt) (h : j ≠ k) : (s.setLoop k x).loop j = s.loop j := by
  simp [State.setLoop, State.loop, State.modHsb, State.modPhr, State.modField, State.modLpe, State.modSaf, State.modGz, Tbl.get_set_ne', h]

@[simp] theorem State.loop_modLoop (s : State) (k : Nat) (f : LoopSt → LoopSt) : (s.modLoop k f).loop k = f (s.loop k) := by
  simp [State.modLoop]

theorem State.loop_modLoop_ne (s : State) (k j : Nat) (f : LoopSt → LoopSt) (h : j ≠ k) : (s.modLoop k f).loop j = s.loop j := by
  simp [State.modLoop, State.loop_setLoop_ne, h]

@[simp] theorem State.dchan_setDchan (s : State) (k : Nat) (x : DChan) : (s.setDchan k x).dchan k = x := by
  simp [State.setDchan, State.dchan, State.modHsb, State.modPhr, State.modField, State.modLpe, State.modSaf, State.modGz]

theorem State.dchan_setDchan_ne (s : State) (k j : Nat) (x : DChan) (h : j ≠ k) : (s.setDchan k x).dchan j = s.dchan j := by
  simp [State.setDchan, State.dchan, State.modHsb, State.modPhr, State.modField, State.modLpe, State.modSaf, State.modGz, Tbl.get_set_ne', h]

@[simp] theorem State.achan_setAchan (s : State) (k : Nat) (x : AChan) : (s.setAchan k x).achan k = x := by
  simp [State.setAchan, State.achan, State.modHsb, State.modPhr, State.modField, State.modLpe, State.modSaf, State.modGz]

theorem State.achan_setAchan_ne (s : State) (k j : Nat) (x : AChan) (h : j ≠ k) : (s.setAchan k x).achan j = s.achan j := by
  simp [State.setAchan, State.achan, State.modHsb, State.modPhr, State.modField, State.modLpe, State.modSaf, State.modGz, Tbl.get_set_ne', h]

@[simp] theorem State.encPair_setEncPair (s : State) (k : Nat) (x : EncSt) : (s.setEncPair k x).encPair k = x := by
  simp [State.setEncPair, State.encPair, State.modHsb, State.modPhr, State.modField, State.modLpe, State.modSaf, State.modGz]

theorem State.encPair_setEncPair_ne (s : State) (k j : Nat) (x : EncSt) (h : j ≠ k) : (s.setEncPair k x).encPair j = s.encPair j := by
  simp [State.setEncPair, State.encPair, State.modHsb, State.modPhr, State.modField, State.modLpe, State.modSaf, State.modGz, Tbl.get_set_ne', h]

@[simp] theorem State.canst_setCanst (s : State) (k : Nat) (x : CanSt) : (s.setCanst k x).canst k = x := by
  simp [State.setCanst, State.canst, State.modHsb, State.modPhr, State.modField, State.modLpe, State.modSaf, State.modGz]

theorem State.canst_setCanst_ne (s : State) (k j : Nat) (x : CanSt) (h : j ≠ k) : (s.setCanst k x).canst j = s.canst j := by
  simp [State.setCanst, State.canst, State.modHsb, State.modPhr, State.modField, State.modLpe, State.modSaf, State.modGz, Tbl.get_set_ne', h]

@[simp] theorem State.safAxis_setAxis (s : State) (k : Nat) (x : SafAxis) : (s.setAxis k x).safAxis k = x := by
  simp [State.setAxis, State.safAxis, State.modHsb, State.modPhr, State.modField, State.modLpe, State.modSaf, State.modGz]

theorem State.safAxis_setAxis_ne (s : State) (k j : Nat) (x : SafAxis) (h : j ≠ k) : (s.setAxis k x).safAxis j = s.safAxis j := by
  simp [State.setAxis, State.safAxis, State.modHsb, State.modPhr, State.modField, State.modLpe, State.modSaf, State.modGz, Tbl.get_set_ne', h]

@[simp] theorem State.safConn_setConn (s : State) (k : Nat) (x : SafConn) : (s.setConn k x).safConn k = x := by
  simp [State.setConn, State.safConn, State.modHsb, State.modPhr, State.modField, State.modLpe, State.modSaf, State.modGz]

theorem State.safConn_setConn_ne (s : State) (k j : Nat) (x : SafConn) (h : j ≠ k) : (s.setConn k x).safConn j = s.safConn j := by
  simp [State.setConn, State.safConn, State.modHsb, State.modPhr, State.modField, State.modLpe, State.modSaf, State.modGz, Tbl.get_set_ne', h]

@[simp] theorem State.safInput_setInput (s : State) (k : Nat) (x : SafInput) : (s.setInput k x).safInput k = x := by
  simp [State.setInput, State.safInput, State.modHsb, State.modPhr, State.modField, State.modLpe, State.modSaf, State.modGz]

theorem State.safInput_setInput_ne (s : State) (k j : Nat) (x : SafInput) (h : j ≠ k) : (s.setInput k x).safInput j = s.safInput j := by
  simp [State.setInput, State.safInput, State.modHsb, State.modPhr, State.modField, State.modLpe, State.modSaf, State.modGz, Tbl.get_set_ne', h]

@[simp] theorem State.aud_setAud (s : State) (k : Nat) (x : AuditSt) : (s.setAud k x).aud k = x := by
  simp [State.setAud, State.aud, State.modHsb, State.modPhr, State.modField, State.modLpe, State.modSaf, State.modGz]

theorem State.aud_setAud_ne (s : State) (k j : Nat) (x : AuditSt) (h : j ≠ k) : (s.setAud k x).aud j = s.aud j := by
  simp [State.setAud, State.aud, State.modHsb, State.modPhr, State.modField, State.modLpe, State.modSaf, State.modGz, Tbl.get_set_ne', h]

@[simp] theorem State.aud_modAud (s : State) (k : Nat) (f : AuditSt → AuditSt) : (s.modAud k f).aud k = f (s.aud k) := by
  simp [State.modAud]

theorem State.aud_modAud_ne (s : State) (k j : Nat) (f : AuditSt → AuditSt) (h : j ≠ k) : (s.modAud k f).aud j = s.aud j := by
  simp [State.modAud, State.aud_setAud_ne, h]

@[simp] theorem State.ring_setRing (s : State) (k : Nat) (x : RingSt) : (s.setRing k x).ring k = x := by
  simp [State.setRing, State.ring, State.modHsb, State.modPhr, State.modField, State.modLpe, State.modSaf, State.modGz]

theorem State.ring_setRing_ne (s : State) (k j : Nat) (x : RingSt) (h : j ≠ k) : (s.setRing k x).ring j = s.ring j := by
  simp [State.setRing, State.ring, State.modHsb, State.modPhr, State.modField, State.modLpe, State.modSaf, State.modGz, Tbl.get_set_ne', h]

@[simp] theorem State.ring_modRing (s : State) (k : Nat) (f : RingSt → RingSt) : (s.modRing k f).ring k = f (s.ring k) := by
  simp [State.modRing]

theorem State.ring_modRing_ne (s : State) (k j : Nat) (f : RingSt → RingSt) (h : j ≠ k) : (s.modRing k f).ring j = s.ring j := by
  simp [State.modRing, State.ring_setRing_ne, h]

@[simp] theorem State.queue_setQueue (s : State) (k : Nat) (x : List Tx) : (s.setQueue k x).queue k = x := by
  simp [State.setQueue, State.queue, State.modHsb, State.modPhr, State.modField, State.modLpe, State.modSaf, State.modGz]

theorem State.queue_setQueue_ne (s : State) (k j : Nat) (x : List Tx) (h : j ≠ k) : (s.setQueue k x).queue j = s.queue j := by
  simp [State.setQueue, State.queue, State.modHsb, State.modPhr, State.modField, State.modLpe, State.modSaf, State.modGz, Tbl.get_set_ne', h]

end Sys2Proof.Machine
end

