-- ==== Sys2Proof/Tests/Slice0.lean ====
section
/-!
SUPPORT. Slice0.lean: the checks of this package's own work. `witness_<Obligation>` gives, clause by clause, states and operands that
meet the hypotheses of the statement of that name; `test_<what>` checks a command or an operation on fixed values; `smoke_<what>` shows a
command that is not well-formed for each check.
-/
section

open Sys2Proof Sys2Proof.Machine

set_option Elab.async false

namespace Sys2Proof.Tests

/-! ### States -/

/-- A module that is out of reset, in firmware, with its NV store recalled: the supervisor core executes. -/
def up : State := { State.reset with
  boot := { State.reset.boot with held := false, stage := .firmware }, nv := { State.reset.nv with ready := true, recalling := false } }

def runs (s : State) : State := { s with tsk := { s.tsk with prog := .running } }
def prep (s : State) : State := { s with tsk := { s.tsk with prog := .preparing } }
def fld (f : Fld) (n : Nat) (s : State) : State := s.setFld f n
def task (k : Nat) (f : TaskSt → TaskSt) (s : State) : State := s.modTask k f
def unit (u : Nat) (f : UnitSt → UnitSt) (s : State) : State := s.modUnit u f

/-- The module as one of a pair, in a role. -/
def as (role : Nat) (s : State) : State := { s with hsb := { s.hsb with unit := 1, role := role } }
def hsb (f : HsbState → HsbState) (s : State) : State := { s with hsb := f s.hsb }
def boot (f : BootState → BootState) (s : State) : State := { s with boot := f s.boot }
def field (f : FieldState → FieldState) (s : State) : State := { s with field := f s.field }
def frozen (s : State) : State := { s with frz := { s.frz with frozen := true } }
def held (s : State) : State := { s with boot := { s.boot with held := true } }

/-! ### Witnesses: the step, registers, the program -/

theorem witness_StepRunsFront : up.pending = [] := by decide +kernel

theorem witness_StepKeepsFactory :
    (match step { up with pending := [.bypass] } with | .next t => t.pending == [] | _ => false) = true := by decide +kernel

/-- Routes to cores alone, of the first and the last source; Gauze as the destination of the last source, for the last trigger. -/
theorem witness_EventDelivery :
    (let s := (up.latch 0 31).latch 127 1
     halted s = false ∧ s.evc.latched.get 0 0 ≠ 0 ∧ s.eventDests 0 (s.evc.latched.get 0 0) < 32 ∧
     s.evc.latched.get 0 127 ≠ 0 ∧ s.eventDests 127 (s.evc.latched.get 0 127) < 32) ∧
    (let s := fld (GZ_TRIG_EN 31) 1 (fld (GZ_TRIG_EVSRC 31) 127 ((runs up).latch 127 32))
     let d := s.eventDests 127 (s.evc.latched.get 0 127)
     halted s = false ∧ s.evc.latched.get 0 127 ≠ 0 ∧ bit d 5 = true ∧ bit d 15 = false ∧ s.running = true ∧
     (∀ k < 24, 16 ≤ k → taskEn s k = true → s.fld (TSK_CTRL_EVSRC k) ≠ 127) ∧
     s.flag (GZ_TRIG_EN 31) = true ∧ s.fld (GZ_TRIG_EVSRC 31) = 127) := by decide +kernel

theorem witness_EvcRaise :
    MayWrite up 4 EVC_RAISE ∧ MayWrite up 0 EVC_RAISE ∧ 96 ≤ wbits (96 : Word) 6 0 ∧ 96 ≤ wbits (127 : Word) 6 0 ∧
    wbits (95 : Word) 6 0 < 96 := by decide +kernel

/-- A write that is taken; one of a register that only holds its fields, for the first and the last listed; a misaligned one; one that
the privilege forbids (core 0 at 0xF000_0018, which user code reaches nowhere), and one where no register lies. -/
theorem witness_RegisterWrite :
    (unitLive up 4 = true ∧ auditing up 4 = false ∧ areaOf SYS_SWRST = some .periph ∧
      (registerWrite up 4 SYS_SWRST 0).isSome = true) ∧
    (MayWrite up 4 GZ_SUBSEL ∧ (regDefAt GZ_SUBSEL).isSome = true ∧ areaOf GZ_SUBSEL = some .periph) ∧
    (MayWrite up 4 NVM_FADDR ∧ (regDefAt NVM_FADDR).isSome = true ∧ areaOf NVM_FADDR = some .periph) ∧
    (areaOf 0xF0000001 = some .periph ∧ 0xF0000001 % 4 ≠ 0) ∧
    (unitLive up 0 = true ∧ auditing up 0 = false ∧ regPermits (privOf up 0) SYS_SWRST true = false) ∧
    (areaOf 0xF000FFFC = some .periph ∧ regThere 0xF000FFFC = false) := by decide +kernel

theorem witness_RegisterRead :
    (unitLive up 4 = true ∧ auditing up 4 = false ∧ periphReadable up 4 SYS_ID = true ∧ isRtcFive SYS_ID = false ∧
      SYS_ID ≠ NVM_SYNC ∧ SYS_ID ≠ GZ_SUBDATA) ∧
    (areaOf 0xF015FFFF = some .periph ∧ 0xF015FFFF % 4 ≠ 0) ∧
    (areaOf 0xF015FFFC = some .periph ∧ periphReadable up 4 0xF015FFFC = false) := by decide +kernel

theorem witness_IslandReset :
    (MayWrite up 4 SYS_ISLRST ∧ up.stopped = true ∧ wbit (9 : Word) 0 = true ∧ wbit (9 : Word) 3 = true) ∧
    (MayWrite (runs up) 4 SYS_ISLRST ∧ (runs up).stopped = false ∧ wbits (1 : Word) 3 0 ≠ 0 ∧ wbits (16 : Word) 3 0 = 0) ∧
    halted up = false := by decide +kernel

theorem witness_SoftwareReset :
    MayWrite up 4 SYS_SWRST ∧ wbits (0x7E510001 : Word) 31 16 = 0x7E51 ∧ up.boot.pfw = false ∧
    wbits (0x7E500000 : Word) 31 16 ≠ 0x7E51 := by decide +kernel

/-- A cold start; a warm start, with its source there; a module that does not act; a program that runs. -/
theorem witness_ProgramStart :
    (MayWrite up 4 TSK_GCTRL ∧ wbit (5 : Word) 0 = true ∧ wbit (5 : Word) 1 = false ∧ up.acts = true ∧ up.stopped = true ∧
      wbit (5 : Word) 2 = true ∧ up.phr.atStart = []) ∧
    (let s := boot (fun b => { b with ranSince := true }) up
     MayWrite s 4 TSK_GCTRL ∧ wbit (1 : Word) 0 = true ∧ wbit (1 : Word) 1 = false ∧ s.acts = true ∧ s.stopped = true ∧
       warmSource s = true) ∧
    ((as roleReady up).acts = false ∧ MayWrite (as roleReady up) 4 TSK_GCTRL) ∧
    (MayWrite (runs up) 4 TSK_GCTRL ∧ (runs up).stopped = false) := by decide +kernel

theorem witness_ProgramStop :
    (MayWrite (runs up) 4 TSK_GCTRL ∧ wbit (3 : Word) 1 = true ∧ (runs up).acts = true ∧ (runs up).running = true) ∧
    (MayWrite (as roleUnfit up) 4 TSK_GCTRL ∧ (as roleUnfit up).acts = false) := by decide +kernel

theorem witness_StopKeepsItsCause : (runs up).running = true := by decide +kernel

/-- Configured as firmware leaves it: the watchdog's long interval is off. -/
def ready : State := fld WDG_CTRL_LONG 0 (prep up)

/-- A check that fails; a claim that is refused; a program that is set up; one whose entry is due. -/
theorem witness_ProgramRuns :
    ((prep up).tsk.prog = .preparing ∧ (prep up).tsk.prepEnd = none ∧ halted (prep up) = false ∧
      configBad (showBudget (prep up)) = some 0xFF) ∧
    (let s := field (fun f => { f with owners := [(0, 4)] }) (fld (DIO_CFG_MODE 0) 1 ready)
     configBad (showBudget s) = none ∧ (programClaim (showBudget s)).2 = false) ∧
    (configBad (showBudget ready) = none ∧ (programClaim (showBudget ready)).2 = true) ∧
    (let s := { ready with tsk := { ready.tsk with prepEnd := some 0 } }
     s.tsk.prog = .preparing ∧ s.tsk.prepEnd.isSome = true ∧ halted s = false) := by decide +kernel

/-- A write that R82 permits and one that it does not, of the window 20 ms, twice a period of 10 ms, and of one less; a window with all
seen, and one that task 23 has missed. -/
theorem witness_TaskWatchdog :
    (let s := fld (TSK_PERIOD_N 15) 200 (fld TSK_WDMASK_MAP 0x8000 (runs up))
     let u (v : Word) := ((if wbit v 2 then s.setFlag TSK_WDCTRL_BADCFG false else s).setFld TSK_WDCTRL_WIN (wbits v 31 16)).setFlag
      TSK_WDCTRL_STRICT (wbit v 1)
     MayWrite s 4 TSK_WDCTRL ∧ wdOn s = false ∧ wbit (0x00140001 : Word) 0 = true ∧ wdBad (wdMaps (u 0x00140001)) = none ∧ s.running = true ∧
       wdBad (wdMaps (u 0x00130001)) ≠ none) ∧
    (let s := { runs up with tsk := { (runs up).tsk with wdStart := some 0 } }
     s.running = true ∧ halted s = false ∧ s.tsk.wdStart = some 0 ∧ s.fld TSK_WDMASK_MAP &&& (0xFFFFFF ^^^ s.fld TSK_WDSEEN_MAP) = 0 ∧
     (fld TSK_WDMASK_MAP 0x800000 s).fld TSK_WDMASK_MAP &&& (0xFFFFFF ^^^ s.fld TSK_WDSEEN_MAP) ≠ 0) := by decide +kernel

def enabled (k : Nat) (s : State) : State := fld (TSK_CTRL_EN k) 1 s

/-- What SAMPLE_INSTANT finds after the strikes and publications that fall on it. -/
def atSample (s : State) (k : Nat) : State :=
  handoverDone ((publishDue s (s.task k).nextTs).at (s.task k).nextTs)

/-- An overrun; a cycle of its own; one in shadow; a partner that follows in nothing. -/
theorem witness_SampleInstant :
    (let s := enabled 15 (task 15 (fun t => { t with active := true, struck := true, nextTs := 1000000 }) (runs up))
     let u := atSample s 15
     s.running = true ∧ halted s = false ∧ taskEn s 15 = true ∧ u.running = true ∧
       (u.acts && (u.task 15).active && !(u.task 15).ended && (!(u.task 15).shadow || ((u.task 15).released && !switched u))) = true) ∧
    (let s := enabled 0 (runs up)
     let u := atSample s 0
     taskEn s 0 = true ∧ u.running = true ∧ (u.acts && (u.task 0).active) = false ∧ owns u 0 = true) ∧
    (let u := atSample (as roleReady (enabled 0 (runs up))) 0
     u.running = true ∧ u.acts = false ∧ owns u 0 = false ∧ shadows u = true ∧ (u.task 0).active = false) ∧
    (let u := atSample (as roleSyncing (enabled 0 (runs up))) 0
     u.running = true ∧ u.acts = false ∧ owns u 0 = false ∧ shadows u = false) := by decide +kernel

def begun (k : Nat) (s : State) : State := task k (fun t => { t with active := true }) s

/-- Cycles that wait, of cyclic and of event tasks; a delivery of local inputs with no station of the task, and with one that is not
committed; a cycle in shadow and one that is released. -/
theorem witness_CycleRelease :
    (let s := begun 0 (begun 15 (begun 16 (begun 23 (runs up))))
     s.running = true ∧ halted s = false ∧ ∀ k ∈ [0, 15, 16, 23], (s.task k).active = true ∧ (s.task k).released = false ∧
       (s.task k).shadow = false) ∧
    (let s := field (fun f => { f with link := true }) ((fld (DIO_CFG_MODE 0) 1 (begun 0 (runs up))).setReg (DIO_MAP 0) 0)
     s.field.link = true ∧ (s.task 0).released = false ∧ (localInGroups s 0).isEmpty = false ∧
       (taskStations s 0).all (fun key => s.img.comm.contains key) = true ∧
       (let u := (s.setObj 0x5401 1 [1]).setObj 0x5401 5 [0]
        (taskStations u 0).any (fun key => key != localKey 0 && !u.img.comm.contains key) = true)) ∧
    ((task 0 (fun t => { t with shadow := true }) up).task 0).shadow = true ∧
    ((task 15 (fun t => { t with released := true }) up).task 15).released = true := by decide +kernel

/-- The first of release and exchange copy, with another copy in progress and without; the second of them, with a segment of rank 0
pending; a loop's execution, of a host that does not evaluate. -/
theorem witness_EvaluationBegins :
    (let s := task 0 (fun t => { t with relBusy := true, exchBusy := true }) (task 23 (fun t => { t with exchBusy := true, relBusy := true }) (runs up))
     s.running = true ∧ halted s = false ∧ (s.task 0).relBusy = true ∧ (s.task 0).exchBusy = true ∧ (s.task 23).exchBusy = true ∧
       exchanging (s.modTask 23 fun t => { t with exchBusy := false }) = true ∧
       exchanging (task 0 (fun t => { t with exchBusy := false }) (s.modTask 23 fun t => { t with exchBusy := false })) = false) ∧
    (∀ k ∈ [0, 23],
      let s := task k (fun t => { t with active := true, released := true })
        { runs up with gz := { up.gz with pending := [7], hdr := [(7, { w0 := toWord (0x40000000 + k * 2 ^ 22) })] } }
      (task k (fun t => { t with relBusy := true }) s).running = true ∧ (s.task k).active = true ∧ (s.task k).released = true ∧
        (s.task k).evaluating = false ∧ (s.task k).ended = false ∧ s.tsk.held = [] ∧
        7 ∈ s.gz.pending ∧ (s.hdr 7).cls ≠ 0 ∧ (s.hdr 7).task = k ∧ (s.hdr 7).rank = 0) ∧
    (let s := { runs up with lpe := { up.lpe with units := [(3, {})] } }
     Tbl.range s.lpe.units 3 1 = (3, {}) :: [] ∧ (s.task (s.loop 0).host).evaluating = false) := by decide +kernel

theorem witness_Strikes :
    (let s := begun 15 (runs up)
     s.running = true ∧ halted s = false ∧ s.acts = true ∧ (s.task 15).active = true ∧ (s.task 15).struck = false ∧
       (s.task 15).ended = false ∧ (s.task 15).miss = false ∧ (s.task 15).shadow = false ∧
       (fld (TSK_CTRL_MISSACT 15) 1 s).flag (TSK_CTRL_MISSACT 15) = true ∧
       (fld (TSK_CTRL_MISSACT 15) 0 s).flag (TSK_CTRL_MISSACT 15) = false) ∧
    (handoverDone (strike (task 15 (fun t => { t with ended := true }) (begun 15 (runs up))) 15)).running = true ∧
    (let s := begun 16 (runs up)
     s.acts = true ∧ (s.task 16).active = true ∧ (s.task 16).ended = false) := by decide +kernel

/-! ### Witnesses: instructions -/

/-- The words of an instruction: OP, operand count, size, and for each operand its mode and its extension word (R204 to R207). -/
def enc (op n z : Nat) (xs : List (Nat × Nat)) : List Word :=
  let m (i : Nat) : Nat := (xs.getD i (0, 0)).1
  toWord (op * 2 ^ 22 + n * 2 ^ 20 + z * 2 ^ 17 + m 0 * 2 ^ 13 + m 1 * 2 ^ 9 + m 2 * 2 ^ 5) :: xs.map fun x => toWord x.2

/-- The supervisor core at words that stand at 0 in the code store. -/
def codeAt (ws : List Word) (s : State) : State :=
  unit 4 (fun x => { x with pc := 0 })
    { s with mem := { s.mem with code := s.mem.code.setMany 0 0 (ws.flatMap fun w => toLE 4 w.toNat) } }

/-- Bytes of data SRAM. -/
def sram (a : Nat) (bs : List Byte) (s : State) : State := { s with mem := { s.mem with sram := s.mem.sram.setMany 0 a bs } }

/-- A unit stands at an instruction, of which a check holds. -/
def at_ (s : State) (u : Nat) (op : Op) (p : Ctx → State → Bool) : Bool :=
  match standing s u with
  | some (o, c, t) => o == op && p c t
  | none => false

theorem at_stands {s : State} {u : Nat} {op : Op} {p : Ctx → State → Bool} (h : at_ s u op p = true) :
    ∃ c t, Stands s u op c t ∧ p c t = true := stands_of_standing p h

/-- A unit stands at a block instruction of count 0. -/
def zeroAt (s : State) (u : Nat) (op : Op) : Bool :=
  match standingZero s u with
  | some (o, _, _) => o == op
  | none => false

theorem zeroAt_stands {s : State} {u : Nat} {op : Op} (h : zeroAt s u op = true) : ∃ c t, StandsAtZero s u op c t := by
  unfold zeroAt at h
  split at h
  · rename_i o c t hs
    rw [beq_iff_eq] at h
    exact ⟨c, t, h ▸ standingZero_stands hs⟩
  · cases h

def isOk {α : Type} (r : Res α) : Bool := match r with | .ok _ => true | .error _ => false

/-- General registers for operands: g2 and g3 hold 10 and 3, g4 and g5 a pair. -/
def regsUp : State := unit 4 (fun x => { x with g := [1#32, 0#32, 10#32, 3#32, 5#32, 0#32, 2#32, 0#32, 1#32, 1#32] ++ List.replicate 6 0#32 }) up

/-- For every instruction of the statement, its words with a register as operand 1, and its value. -/
def valueForms : List (List Word × Op × (Ctx → State → Nat)) := [
  (enc 0x001 2 2 [(0, 1), (9, 5)], .mov, fun c _ => c.val 1),
  (enc 0x004 2 0 [(0, 1), (9, 0x80)], .exts, fun c _ => wrap 32 (signed 8 (c.val 1))),
  (enc 0x005 2 1 [(0, 1), (9, 0xFFFF)], .extz, fun c _ => c.val 1),
  (enc 0x006 2 2 [(0, 1), (7, 0x20000000)], .lea, fun c _ => (c.loc 1).addr),
  (enc 0x007 1 2 [(0, 4)], .rdtb, fun _ t => t.now),
  (enc 0x010 2 2 [(0, 1), (9, 0xFFFFFFFF)], .add, fun c _ => (aluAdd c.form.sz c.two.1 c.two.2).1),
  (enc 0x011 3 2 [(0, 1), (0, 2), (0, 3)], .sub, fun c _ => (aluSub c.form.sz c.two.1 c.two.2).1),
  (enc 0x012 3 3 [(0, 4), (0, 4), (0, 6)], .mul, fun c _ => (aluMul c.form.sz c.two.1 c.two.2).1),
  (enc 0x013 3 2 [(0, 1), (0, 2), (0, 3)], .mulhs, fun c _ => mulHighS c.two.1 c.two.2),
  (enc 0x014 3 2 [(0, 1), (0, 2), (0, 3)], .mulhu, fun c _ => mulHighU c.two.1 c.two.2),
  (enc 0x015 2 2 [(0, 2), (9, 0)], .div, fun c _ => (aluDiv c.form.sz c.two.1 c.two.2).1),
  (enc 0x016 2 2 [(0, 2), (9, 3)], .divu, fun c _ => (natDiv c.two.1 c.two.2).1),
  (enc 0x017 2 2 [(0, 2), (9, 3)], .rem, fun c _ => (intRem 32 c.two.1 c.two.2).1),
  (enc 0x018 2 2 [(0, 2), (9, 0)], .remu, fun c _ => (natRem c.two.1 c.two.2).1),
  (enc 0x01B 2 2 [(0, 2), (9, 3)], .min, fun c _ => (aluMinMax c.form.sz false c.two.1 c.two.2).1),
  (enc 0x01C 2 2 [(0, 2), (9, 3)], .max, fun c _ => (aluMinMax c.form.sz true c.two.1 c.two.2).1),
  (enc 0x019 1 2 [(0, 2)], .neg, fun c _ => (aluNeg c.form.sz c.one).1),
  (enc 0x01A 2 2 [(0, 1), (9, 0x80000000)], .abs, fun c _ => (aluAbs c.form.sz c.one).1),
  (enc 0x01D 2 5 [(0, 1), (9, 0x40800000)], .sqrt, fun c _ => (c.form.sz.fmt.sqrt c.one).1),
  (enc 0x020 2 5 [(0, 1), (0, 2)], .cvtif, fun c _ => (c.form.sz.fmt.ofInt (signed 32 (c.val 1))).1),
  (enc 0x021 2 5 [(0, 1), (0, 4)], .cvtlf, fun c _ => (c.form.sz.fmt.ofInt (signed 64 (c.val 1))).1),
  (enc 0x022 2 5 [(0, 1), (9, 0x40200000)], .cvtfi, fun c _ => wrap 32 (c.form.sz.fmt.toInt 32 false (c.val 1)).1),
  (enc 0x023 2 5 [(0, 1), (9, 0x40200000)], .trnfi, fun c _ => wrap 32 (c.form.sz.fmt.toInt 32 true (c.val 1)).1),
  (enc 0x024 2 5 [(0, 4), (9, 0x40200000)], .cvtfl, fun c _ => wrap 64 (c.form.sz.fmt.toInt 64 false (c.val 1)).1),
  (enc 0x025 2 5 [(0, 4), (9, 0x40200000)], .trnfl, fun c _ => wrap 64 (c.form.sz.fmt.toInt 64 true (c.val 1)).1),
  (enc 0x026 2 5 [(0, 1), (0, 4)], .cvtff, fun c _ => (fmt64.conv c.form.sz.fmt (c.val 1)).1),
  (enc 0x040 2 2 [(0, 2), (9, 6)], .and, fun c _ => c.two.1 &&& c.two.2),
  (enc 0x041 2 2 [(0, 2), (9, 6)], .or, fun c _ => c.two.1 ||| c.two.2),
  (enc 0x042 2 2 [(0, 2), (9, 6)], .xor, fun c _ => c.two.1 ^^^ c.two.2),
  (enc 0x043 1 2 [(0, 2)], .not, fun c _ => 2 ^ 32 - 1 - c.one),
  (enc 0x044 2 2 [(0, 2), (9, 31)], .shl, fun c _ => c.two.1 * 2 ^ c.two.2 % 2 ^ 32),
  (enc 0x045 2 2 [(0, 2), (9, 32)], .shr, fun _ _ => 0),
  (enc 0x046 2 2 [(0, 2), (9, 1)], .sar, fun c _ => wrap 32 (signed 32 c.two.1 / 2)),
  (enc 0x047 2 2 [(0, 2), (9, 4)], .rol, fun c _ => rotLeft 32 c.two.1 c.two.2),
  (enc 0x048 2 2 [(0, 2), (9, 4)], .ror, fun c _ => rotRight 32 c.two.1 c.two.2),
  (enc 0x060 3 2 [(0, 1), (0, 2), (0, 2)], .ceq, fun c _ => b2n (cmpEq .i32 (c.val 1) (c.val 2)).1),
  (enc 0x061 3 2 [(0, 1), (0, 2), (0, 3)], .cne, fun c _ => b2n (!(cmpEq .i32 (c.val 1) (c.val 2)).1)),
  (enc 0x062 3 2 [(0, 1), (0, 2), (0, 3)], .clt, fun c _ => b2n (cmpLt .i32 (c.val 1) (c.val 2)).1),
  (enc 0x063 3 2 [(0, 1), (0, 2), (0, 3)], .cle, fun c _ => b2n (cmpLe .i32 (c.val 1) (c.val 2)).1),
  (enc 0x064 3 2 [(0, 1), (0, 2), (0, 3)], .cltu, fun c _ => b2n (decide (c.val 1 < c.val 2))),
  (enc 0x065 3 2 [(0, 1), (0, 2), (0, 3)], .cleu, fun c _ => b2n (decide (c.val 1 ≤ c.val 2))),
  (enc 0x100 2 4 [(0, 8), (0, 9)], .band, fun c _ => c.two.1 * c.two.2),
  (enc 0x101 2 4 [(0, 8), (0, 9)], .bor, fun c _ => c.two.1 ||| c.two.2),
  (enc 0x102 2 4 [(0, 8), (0, 9)], .bxor, fun c _ => c.two.1 ^^^ c.two.2),
  (enc 0x103 2 4 [(0, 8), (0, 9)], .bandn, fun c _ => c.two.1 * (1 - c.two.2)),
  (enc 0x104 2 4 [(0, 8), (0, 9)], .born, fun c _ => c.two.1 ||| (1 - c.two.2)),
  (enc 0x105 1 4 [(0, 8)], .bnot, fun c _ => 1 - c.one)]

/-- Every instruction of the statement stands at its words and writes its value. -/
theorem witness_ValueInstructions :
    valueForms.all (fun e => at_ (codeAt e.1 regsUp) 4 e.2.1 fun c t => isOk (c.write t 0 (e.2.2 c t))) = true := by decide +kernel

/-- A lane in a run, at an instruction of the lane subset. -/
theorem witness_ValueInstructions_lane :
    (let s := unit 79 (fun x => { x with run := some { hi := 12 } }) (codeAt (enc 0x040 2 2 [(0, 2), (9, 6)]) regsUp)
     at_ s 79 .and fun c t => isOk (c.write t 0 (c.two.1 &&& c.two.2))) = true := by
  decide +kernel

/-- The edges at the least and the greatest width: a divisor 0, the most negative number over −1, and its negation. -/
theorem witness_IntegerEdges :
    (∀ z ∈ szInt, (2 ^ (z.width - 1) < 2 ^ z.width) ∧ (2 ^ z.width - 1 < 2 ^ z.width) ∧
      signed z.width (2 ^ (z.width - 1)) = -2 ^ (z.width - 1) ∧ signed z.width (2 ^ z.width - 1) = -1 ∧
      signed z.width (2 ^ (z.width - 1) - 1) ≠ -2 ^ (z.width - 1)) := by decide +kernel

/-- A 32-bit register, the last, and a pair, the last. -/
theorem witness_InstructionEnds :
    (at_ (codeAt (enc 0x010 2 2 [(0, 15), (9, 5)]) regsUp) 4 .add fun c t => (t.unit c.u).slot == [] && !isLane c.u &&
      (trapOf (t.unit c.u).arith.toNat 0xFFFF).isNone && isOk (c.write t 0 5) && decide (c.opnd 0 = (.rw, .i32, .reg 15))) = true ∧
    (at_ (codeAt (enc 0x010 2 3 [(0, 14), (9, 5)]) regsUp) 4 .add fun c t => (t.unit c.u).slot == [] && !isLane c.u &&
      isOk (c.write t 0 5) && decide (c.opnd 0 = (.rw, .i64, .reg 14))) = true := by decide +kernel

/-- The last bytes of data SRAM, and one byte of it. -/
theorem witness_StoreFrame :
    (4 ≠ safetyUnit ∧ (up.unit 4).run = none) ∧
    (areaOf 0x20FFFFFC = some .sram ∧ areaOf (0x20FFFFFC + [1, 2, 3, 4].length - 1) = some .sram ∧
      isOk (putBytes up 4 1 0x20FFFFFC [1, 2, 3, 4]) = true) ∧
    (areaOf (0x20000000 + [9].length - 1) = some .sram ∧ isOk (putBytes up 4 1 0x20000000 [9]) = true) := by decide +kernel

def rec0 : Nat × Nat := (7, 0x20000010)

theorem witness_EdgesTimersCounters :
    (∀ p ∈ [(0x110, Op.redge), (0x111, Op.fedge)],
      at_ (codeAt (enc p.1 3 4 [(0, 1), (0, 8), (0, 5)]) regsUp) 4 p.2 (fun c t =>
        match c.write t 2 (c.val 1) with | .ok u => isOk (c.write u 0 1) && isOk (c.write u 0 0) | _ => false) = true) ∧
    (∀ p ∈ [(0x120, Op.ton), (0x121, Op.tof), (0x122, Op.tp)],
      at_ (codeAt (enc p.1 3 4 [(0, 1), (0, 8), rec0]) regsUp) 4 p.2 (fun c t =>
        match instWrite t c.u 3 (c.record 2) 7 0 0 with
        | .ok u => isOk (c.write (offerWheel u c.u 5) 0 1) && isOk (c.write u 0 0) | _ => false) = true) ∧
    at_ (codeAt (enc 0x123 2 2 [(0, 1), rec0]) regsUp) 4 .tet (fun c t => isOk (c.write t 0 0)) = true ∧
    (∀ p ∈ [(0x130, Op.ctu, Counter.ctu), (0x131, Op.ctd, Counter.ctd)],
      at_ (codeAt (enc p.1 3 4 [(0, 1), (0, 8), rec0]) regsUp) 4 p.2.1 (fun c t =>
        match counterWrite t c.u 3 (c.record 2) (p.2.2 (counterAt t c.u (c.record 2)) true) with
        | .ok u => isOk (c.write u 0 1) | _ => false) = true) ∧
    (∀ p ∈ [(0x132, Op.cld, Counter.load), (0x133, Op.crst, Counter.reset)],
      at_ (codeAt (enc p.1 2 4 [rec0, (0, 8)]) regsUp) 4 p.2.1 (fun c t =>
        isOk (counterWrite t c.u 1 (c.record 0) (p.2.2 (counterAt t c.u (c.record 0)) true))) = true) := by decide +kernel

/-- A timer that is off and one that runs, a TOF that is on and runs, a TP that is idle; a counter at its limits and inside them. -/
theorem witness_TimerRules :
    (let t : Timer := { q := false, inprev := false, run := false, done := false, start := 0 }
     t.q = false ∧ t.run = false ∧ { t with run := true }.run = true ∧ { t with q := true, run := true }.q = true) ∧
    (let k : Counter := { pv := 0, cv := 2147483646, cuprev := false, cdprev := false }
     k.cv < 2147483647 ∧ k.cuprev = false ∧ { k with cuprev := true }.cuprev = true ∧ 2147483647 ≤ { k with cv := 2147483647 }.cv ∧
     -2147483648 < { k with cv := -2147483647 }.cv ∧ k.cdprev = false ∧ { k with cv := -2147483648 }.cv ≤ -2147483648) := by
  decide +kernel

/-- Core 0 at user privilege in a segment run, at an instruction. -/
def inRunAt (ws : List Word) : State :=
  unit 0 (fun x => { x with pc := 0, priv := 0, run := some { hi := 64 } }) { up with mem := { up.mem with
    code := up.mem.code.setMany 0 0 (ws.flatMap fun w => toLE 4 w.toNat) } }

/-- Jumps that may be fetched and jumps that may not, taken and not; END in a run and outside one; RTE at each privilege. -/
theorem witness_ControlFlow :
    (∀ p ∈ [(0x080, Op.bra), (0x083, Op.call)],
      at_ (codeAt (enc p.1 1 2 [(7, 0x7FFFFC)]) up) 4 p.2 (fun c t => mayFetch t c.u (c.target t 0)) = true ∧
      at_ (codeAt (enc p.1 1 2 [(7, 0x800000)]) up) 4 p.2 (fun c t => !mayFetch t c.u (c.target t 0)) = true) ∧
    (∀ g ∈ [0, 0x800000],
      at_ (codeAt (enc 0x084 0 2 []) (unit 4 (fun x => x.setG 15 (toWord g)) up)) 4 .ret
        (fun c t => mayFetch t c.u (gAt (t.unit c.u).g 15 / 4 * 4) == (g == 0)) = true) ∧
    (∀ p ∈ [(0x081, Op.bz, 1, 2), (0x082, Op.bnz, 2, 1)],
      at_ (codeAt (enc p.1 2 2 [(0, p.2.2.1), (7, 0)]) regsUp) 4 p.2.1 (fun c t => (c.val 0 == 0) == (p.1 == 0x081) && mayFetch t c.u 0) = true ∧
      at_ (codeAt (enc p.1 2 2 [(0, p.2.2.1), (7, 0x800000)]) regsUp) 4 p.2.1 (fun c t => !mayFetch t c.u (c.target t 1)) = true ∧
      at_ (codeAt (enc p.1 2 2 [(0, p.2.2.2), (7, 0)]) regsUp) 4 p.2.1 (fun c _ => (c.val 0 == 0) != (p.1 == 0x081)) = true) ∧
    at_ (codeAt (enc 0x087 0 2 []) up) 4 .nop (fun _ _ => true) = true ∧
    at_ (codeAt (enc 0x085 0 2 []) up) 4 .end_ (fun c t => !(t.unit c.u).inRun) = true ∧
    at_ (inRunAt (enc 0x085 0 2 [])) 0 .end_ (fun c t => (t.unit c.u).inRun) = true ∧
    at_ (codeAt (enc 0x086 0 2 []) up) 4 .rte (fun c t => privOf t c.u != 0 && (t.unit c.u).slot == [] && !isLane c.u
      && t.gz.pending == [] && t.gz.audit.isNone) = true ∧
    at_ (inRunAt (enc 0x086 0 2 [])) 0 .rte (fun c t => privOf t c.u == 0) = true := by decide +kernel

/-- Text at 0x20000100 and 0x20000200: CAP 8, LEN 2, "AB". -/
def texts : State := sram 0x20000200 [8, 0, 2, 0, 65, 66] (sram 0x20000100 [8, 0, 2, 0, 65, 66] regsUp)

/-- The headers of strings are read and their checks pass, and so does a check of the strings. -/
def heads (t : State) (u : Nat) (xs : List Str) (p : List Str → State → Bool) : Bool :=
  match readHeads t u xs with
  | .ok (ys, r) => (strFault r u ys).isNone && p ys r
  | .error _ => false

/-- The headers of strings cannot be read; or they can, and a byte after them cannot be accessed. -/
def badHead (t : State) (u : Nat) (xs : List Str) : Bool := !isOk (readHeads t u xs)
def badBody (t : State) (u : Nat) (xs : List Str) : Bool :=
  match readHeads t u xs with
  | .ok (ys, r) => (strFault r u ys).isSome
  | .error _ => false

/-- A string whose header is the last word of data SRAM. -/
def edgeText : State := sram 0x20FFFFFC [8, 0, 2, 0] texts

/-- Counts of 0; blocks of elements; one that leaves data SRAM; one of more than 4,096 bytes; strings. -/
theorem witness_BlocksStrings :
    (∀ p ∈ [(0x180, Op.movb, (7, 0x20000040)), (0x181, Op.fill, (9, 7))],
      zeroAt (codeAt (enc p.1 3 2 [(7, 0x20000000), p.2.2, (9, 0)]) up) 4 p.2.1 = true) ∧
    zeroAt (codeAt (enc 0x182 3 2 [(0, 1), (7, 0x20000000), (9, 0)]) up) 4 .crcc = true ∧
    (∀ p ∈ [(0x180, Op.movb, (7, 0x20FFFFFC)), (0x181, Op.fill, (9, 7))],
      at_ (codeAt (enc p.1 3 2 [(7, 0x20FFFFFC), p.2.2, (9, 2)]) up) 4 p.2.1 (fun c t =>
        (elemsFault t c.u 1 (c.loc 0).isPc true (c.loc 0).addr 4 2).isSome) = true) ∧
    at_ (codeAt (enc 0x182 3 2 [(0, 1), (7, 0x20FFFFFC), (9, 8)]) up) 4 .crcc (fun c t =>
      (elemsFault t c.u 2 (c.loc 1).isPc false (c.loc 1).addr 1 8).isSome) = true ∧
    at_ (codeAt (enc 0x180 3 2 [(7, 0x20000000), (7, 0x20000040), (9, 2)]) up) 4 .movb (fun c t =>
      decide (c.val 2 * 4 ≤ 4096) && (elemsFault t c.u 1 (c.loc 0).isPc true (c.loc 0).addr 4 2).isNone
      && (elemsFault t c.u 2 (c.loc 1).isPc false (c.loc 1).addr 4 2).isNone && (elemsEcc t c.u 2 (c.loc 1).addr 4 2).isNone
      && isOk (writeElems (readElems t c.u (c.loc 1).addr 4 2).2 c.u 1 (c.loc 0).addr 4 (readElems t c.u (c.loc 1).addr 4 2).1 2)) = true ∧
    at_ (codeAt (enc 0x180 3 2 [(7, 0x20000000), (7, 0x20000040), (9, 1025)]) up) 4 .movb (fun c _ => decide (4096 < c.val 2 * 4)) = true ∧
    at_ (codeAt (enc 0x181 3 0 [(7, 0x20000000), (9, 7), (9, 4097)]) up) 4 .fill (fun c _ => decide (4096 < c.val 2)) = true ∧
    at_ (codeAt (enc 0x182 3 2 [(0, 1), (7, 0x20000000), (9, 4097)]) up) 4 .crcc (fun c _ => decide (4096 < c.val 2)) = true ∧
    at_ (codeAt (enc 0x181 3 0 [(7, 0x20000000), (9, 7), (9, 3)]) up) 4 .fill (fun c t =>
      (elemsFault t c.u 1 (c.loc 0).isPc true (c.loc 0).addr 1 3).isNone
      && isOk (writeElems t c.u 1 (c.loc 0).addr 1 (List.replicate 3 7) 3)) = true ∧
    at_ (codeAt (enc 0x182 3 2 [(0, 1), (7, 0x20000000), (9, 4)]) up) 4 .crcc (fun c t =>
      (elemsFault t c.u 2 (c.loc 1).isPc false (c.loc 1).addr 1 4).isNone && (elemsEcc t c.u 2 (c.loc 1).addr 1 4).isNone
      && isOk (c.write (readElems t c.u (c.loc 1).addr 1 4).2 0 (crcc (c.val 0) (readElems t c.u (c.loc 1).addr 1 4).1))) = true ∧
    (∀ p ∈ [(0x188, Op.scpy), (0x189, Op.scat)],
      at_ (codeAt (enc p.1 2 2 [(7, 0x20000100), (7, 0x20000200)]) texts) 4 p.2 (fun c t =>
        heads t c.u [c.str 0 true, c.str 1 false] fun ys r => ys.length == 2 && isOk (strWrite r c.u (ys.getD 0 (c.str 0 true)) 2 0 [65, 66])) = true ∧
      at_ (codeAt (enc p.1 2 2 [(7, 0x20000100), (7, 0x20FFFFFC)]) edgeText) 4 p.2 (fun c t =>
        badBody t c.u [c.str 0 true, c.str 1 false]) = true ∧
      at_ (codeAt (enc p.1 2 2 [(7, 0x20000100), (7, 0x20000202)]) texts) 4 p.2 (fun c t =>
        badHead t c.u [c.str 0 true, c.str 1 false]) = true) ∧
    (∀ a ∈ [0x20000200, 0x20FFFFFC, 0x20000202],
      at_ (codeAt (enc 0x18A 2 2 [(0, 1), (7, a)]) edgeText) 4 .slen (fun c t =>
        if a = 0x20000200 then heads t c.u [c.str 1 false] fun ys r => isOk (c.write r 0 ((ys.map Str.len).headD 0))
        else if a = 0x20FFFFFC then badBody t c.u [c.str 1 false] else badHead t c.u [c.str 1 false]) = true) ∧
    (∀ p ∈ [(0x18B, Op.scmp), (0x18C, Op.sfnd)], ∀ a ∈ [0x20000200, 0x20FFFFFC, 0x20000202],
      at_ (codeAt (enc p.1 3 2 [(0, 1), (7, 0x20000100), (7, a)]) edgeText) 4 p.2 (fun c t =>
        if a = 0x20000200 then heads t c.u [c.str 1 false, c.str 2 false] fun ys r => ys.length == 2 && isOk (c.write r 0 1)
        else if a = 0x20FFFFFC then badBody t c.u [c.str 1 false, c.str 2 false]
        else badHead t c.u [c.str 1 false, c.str 2 false]) = true) := by decide +kernel

/-- Loads of a register and of the last pair; special registers that the privilege permits and not; events at the ends of their ranges,
and beyond. -/
theorem witness_LoadsAndSystem :
    at_ (codeAt (enc 0x002 2 2 [(0, 15), (7, 0x20000000)]) up) 4 .ldg (fun c _ => decide (c.loc 0 = .reg 15)) = true ∧
    at_ (codeAt (enc 0x003 2 3 [(0, 14), (7, 0x20000000)]) up) 4 .ldgp (fun c _ => decide (c.loc 0 = .reg 14)) = true ∧
    at_ (codeAt (enc 0x2D2 1 2 [(0, 1)]) up) 4 .mfs (fun c t => specMay c.spec (privOf t c.u) false
      && isOk (c.write t 0 (specPeek t c.u c.spec))) = true ∧
    at_ (codeAt (enc 0x2E0 1 2 [(0, 1)]) up) 4 .mts (fun c t => specMay c.spec (privOf t c.u) true) = true ∧
    at_ (inRunAt (enc 0x2C3 1 2 [(0, 1)])) 0 .mfs (fun c t => !specMay c.spec (privOf t c.u) false) = true ∧
    at_ (inRunAt (enc 0x2E8 1 2 [(0, 1)])) 0 .mts (fun c t => !specMay c.spec (privOf t c.u) true) = true ∧
    at_ (codeAt (enc 0x0A0 2 2 [(0, 1), (9, 3)]) up) 4 .wfe (fun c _ => decide (c.val 1 ≤ 3)) = true ∧
    at_ (codeAt (enc 0x0A0 2 2 [(0, 1), (9, 4)]) up) 4 .wfe (fun c _ => decide (3 < c.val 1)) = true ∧
    at_ (codeAt (enc 0x0A1 3 2 [(0, 4), (9, 1), (9, 3)]) up) 4 .wtu (fun c _ => decide (c.val 2 ≤ 3)) = true ∧
    at_ (codeAt (enc 0x0A1 3 2 [(0, 4), (9, 1), (9, 4)]) up) 4 .wtu (fun c _ => decide (3 < c.val 2)) = true ∧
    (∀ n ∈ [96, 127], at_ (codeAt (enc 0x0A2 2 2 [(0, 1), (9, 0x3FFF)]) (unit 4 (fun x => x.setG 1 (toWord n)) up)) 4 .sev
      (fun c _ => decide (96 ≤ c.val 0) && decide (c.val 0 ≤ 127) && decide (c.val 1 < 0x4000)) = true) ∧
    (∀ n ∈ [(95, 0), (128, 0), (96, 0x4000)], at_ (codeAt (enc 0x0A2 2 2 [(0, 1), (9, n.2)]) (unit 4 (fun x => x.setG 1 (toWord n.1)) up)) 4 .sev
      (fun c _ => decide (c.val 0 < 96 ∨ 127 < c.val 0 ∨ 0x4000 ≤ c.val 1)) = true) ∧
    at_ (codeAt (enc 0x3FF 0 2 []) up) 4 .trap (fun _ _ => true) = true := by decide +kernel

theorem witness_CoresWake :
    (let s := unit 0 (fun x => { x with wait := .wfe 0x80000001#32 3, evpend := [127] }) up
     halted s = false ∧ (s.unit 0).wait = .wfe 0x80000001#32 3 ∧ (0x80000001#32 : Word) ≠ 0 ∧
       pendingMatch (s.unit 0) 0x80000001#32 3 = some 127) ∧
    (let s := unit 4 (fun x => { x with wait := .wtu 5 1#32 0, evpend := [0] }) up
     (s.unit 4).wait = .wtu 5 1#32 0 ∧ (pendingMatch (s.unit 4) 1#32 0).isSome = true ∧
       pendingMatch ((unit 4 (fun x => { x with evpend := [1] }) s).unit 4) 1#32 0 = none) ∧
    (((unit 3 (fun x => { x with halted := true }) up).unit 3).halted = true ∧ up.gz.pending = [] ∧ up.gz.audit = none) := by decide +kernel

/-- A first exception of a core and of the supervisor core; a trap that a segment catches; a second exception of each. -/
theorem witness_Exceptions :
    (∀ u ∈ [0, 4], u < 5 ∧ exAccess ≠ exEcc ∧ (up.unit u).slot = [] ∧ (up.unit u).exl = false ∧ (up.unit u).run = none ∧
      trapCaught (up.unit u) exAccess = false) ∧
    (let s := unit 0 (fun x => { x with hndl := 0x100#32 }) up
     (s.unit 0).hndl ≠ 0 ∧ (s.unit 0).exl = false ∧ exArith ≠ exEcc ∧ exFloat ≠ exEcc) ∧
    (∀ u ∈ [3, 4], ((unit u (fun x => { x with exl := true }) up).unit u).exl = true ∧
      ((unit u (fun x => { x with exl := true }) up).unit u).run = none) := by decide +kernel

/-! ### Witnesses: registers that command, Gauze, the rings -/

/-- The registers of the statement, arrays at their last, written by the supervisor core; then where a register refuses the write. -/
theorem witness_RegisterCommands :
    ([GZ_CMD, GZ_CTRL, SEG_STGNUM, SEG_STGDATA, SEG_STGCTRL, LANE_CLCTRL 7, PHR_CTRL, PHR_EPOCH, PHR_TXSEL, LPE_MAXLAT, TRC_CMD 7, NRG_TJ,
      HSB_CMD, JRN_DONE, DIO_FCMD, AIO_TRIM, DIO_ENCCTRL 15, DIO_ENCCNT 15, CAN_CTRL 1, canBus 1 2, CAN_RXPOP 1, CAN_FLTID 1 15,
      SAF_CMD, NVM_FCMD, NVM_PROT, RTC_CMD, RTC_STGL, RTC_STGH, WDG_KEY, WDG_CTRL, FRZ_CMD, REC_WSUB, REC_CTRL, REC_CLR].all
        fun a => decide (MayWrite up 4 a)) = true ∧
    (clctrlWrite up 7 1).isSome = true ∧ clctrlWrite (runs up) 7 0 = none ∧
    (phrCtrlWrite up 15).isSome = true ∧ phrCtrlWrite (runs up) 15 = none ∧
    privOf up 4 = 2 ∧ MayWrite up 0 PHR_EPOCH ∧ privOf up 0 ≠ 2 ∧
    up.stopped = true ∧ (runs up).stopped = false ∧
    (canCtrlWrite up 1 0).isSome = true ∧ canCtrlWrite (fld (CAN_CTRL_EN 1) 1 up) 1 2 = none ∧
    (canTxctrlWrite up 1 2 0x208).isSome = true ∧ (protAllowed up 3 = true ∧ protAllowed (runs up) 3 = false) ∧
    (gzCmdWrite up 0).role ≠ roleActive ∧ objectsAt GZ_CMD = [] ∧ objectsAt GZ_CTRL ≠ [] ∧ (setAuden (as roleActive up) true).role = roleActive := by
  decide +kernel

def gauze (f : Gauze → Gauze) (s : State) : State := { s with gz := f s.gz }

/-- Core 3 at the end of an audit run of segment 7. -/
def audited (broken : Option Nat) : State :=
  unit 3 (fun x => { x with run := some { seg := 7, audit := true, done := true, broken := broken } })
    (gauze (fun g => { g with audit := some { task := 0, time := 0, todo := [] } }) (runs up))

/-- Task 0 after a cycle, its audit granted: with no segment; with segment 7 of it, of core class. -/
def auditable (hs : Tbl Hdr) : State :=
  fld GZ_CTRL_AUDEN 1 (task 0 (fun t => { t with evaluated := true })
    { (gauze (fun g => { g with auds := [(0, { start := 1 })], hdr := hs }) (runs up)) with nrg := { up.nrg with slice := some ⟨.audit 0, 0⟩ } })

theorem witness_Audits :
    (MayWrite up 4 GZ_CMD ∧ wbits (0x117 : Word) 4 0 < 24 ∧ wbit (0x117 : Word) 8 = true ∧ wbit (0x117 : Word) 9 = false ∧
      ((gauze (fun g => { g with auds := [(23, { fault := true })] }) up).aud 23).fault = true) ∧
    (wbits (0x200 : Word) 4 0 < 24 ∧ wbit (0x200 : Word) 8 = false ∧ wbit (0x200 : Word) 9 = true) ∧
    (let s := auditable []
     auditMay s 0 = true ∧ auditFunded s 0 = true ∧ auditRunning s = false ∧ auditSegments s 0 = []) ∧
    (let s := auditable [(7, { w0 := 0x80000000#32 })]
     auditMay s 0 = true ∧ auditFunded s 0 = true ∧ auditRunning s = false ∧ auditSegments s 0 = 7 :: [] ∧
       (unitsFor (s.hdr 7)).find? (unitFree s) = some 0) ∧
    (∀ b ∈ [none, some 5],
      let r : Run := { seg := 7, audit := true, done := true, broken := b }
      let t := (audited b).modUnit 3 UnitSt.leave
      ((audited b).unit 3).run = some r ∧ (audited b).gz.audit = some { task := 0, time := 0, todo := [] } ∧ halted (audited b) = false ∧
        auditFound t r = b.toList ∧ auditRunning t = false) := by decide +kernel

def stagingAt (st : StgState) (s : State) : State := gauze (fun g => { g with stg := st }) s

/-- A set that fails its first check: segment 9, whose check word is wrong. -/
def badSet : State := gauze (fun g => { g with slots := [(0, { valid := true, seg := 9 })] }) (stagingAt .validating up)

/-- Felt runs, in a slice of class 3 for the replacement. -/
def replacing (s : State) : State := { s with nrg := { s.nrg with slice := some ⟨.replace, 0⟩ } }

/-- A set of one record that asks for an entry, where none is free. -/
def noEntries : State :=
  replacing (gauze (fun g => { g with slots := [(0, { valid := true, seg := 9, rcount := 2097153 })] }) (stagingAt .building up))

/-- That set fails a check, its first. -/
theorem witness_Staging_entries : (stgCheck noEntries).isSome = true := by
  have h : ((stagedNews noEntries).find? fun x => segCheck x.hdr x.code != x.hdr.w3.toNat).isSome = true := by decide +kernel
  obtain ⟨x, hx⟩ := Option.isSome_iff_exists.mp h
  unfold stgCheck
  simp only [hx, Option.map_some, Option.isSome_some]

theorem witness_Staging :
    (let s := stagingAt .staging up
     MayWrite s 4 SEG_STGCTRL ∧ wbit (1 : Word) 0 = true ∧ wbit (1 : Word) 1 = false ∧ s.gz.stg = .staging ∧ s.stopped = true) ∧
    (MayWrite up 4 SEG_STGCTRL ∧ up.gz.stg ≠ .staging ∧ wbit (2 : Word) 0 = false ∧ wbit (2 : Word) 1 = true ∧ up.gz.stg = .empty) ∧
    ((stagingAt .armed (runs up)).gz.stg = .armed ∧ (stagingAt .failed up).gz.stg = .failed ∧ (prep up).tsk.prog = .preparing) ∧
    ((stagingAt .building up).gz.stg = .building ∧ inSlice (stagingAt .building up) .replace = false ∧
      feltRuns (stagingAt .validating (frozen up)) = false) ∧
    (let s := replacing (stagingAt .building up)
     s.gz.stg = .building ∧ feltRuns s = true ∧ inSlice s .replace = true ∧
       (stagedNews s).foldl (fun n x => n + x.rcount + x.wcount) 0 ≤ entriesFree s) ∧
    (noEntries.gz.stg = .building ∧ feltRuns noEntries = true ∧ inSlice noEntries .replace = true ∧
      entriesFree noEntries < (stagedNews noEntries).foldl (fun n x => n + x.rcount + x.wcount) 0) ∧
    (let s := replacing badSet
     s.gz.stg = .validating ∧ feltRuns s = true ∧ inSlice s .replace = true ∧ (stgCheck s).isSome = true ∧
       (stgCheck (as roleSyncing s)).isSome = true ∧ (as roleSyncing s).role = roleSyncing) ∧
    (let s := replacing (stagingAt .validating up)
     stgCheck (runs s) = none ∧ plantRuns (runs s) = true ∧ stgCheck s = none ∧ plantRuns s = false) ∧
    (MayWrite up 4 GZ_SUBDATA ∧ up.stopped = true ∧ MayWrite (runs up) 4 GZ_SUBDATA ∧ (runs up).stopped = false ∧
      MayRead up 4 GZ_SUBDATA) := by decide +kernel

/-- The module issues on its rings. -/
def ringsOn : State := fld PHR_CTRL_RINGEN 15 (runs up)
def ringSt (r : Nat) (f : RingSt → RingSt) (s : State) : State := { s with phr := { s.phr with rings := s.phr.rings.set {} r (f (s.phr.rings.get {} r)) } }

theorem witness_Probes :
    (mayIssue (held up) = false) ∧ (mayIssue up = true ∧ enabledRings up = []) ∧
    (let s := fld PHR_CTRL_RINGEN 8 up
     mayIssue s = true ∧ enabledRings s = [3] ∧ s.phr.linksDown = false ∧ (0xC0 : BitVec 8).getLsbD 6 = true ∧
       (0xC0 : BitVec 8).getLsbD 7 = true) ∧
    (ringEn ringsOn 3 = true ∧ mayIssue ringsOn = true ∧ ({ typ := BitVec.ofNat 8 ftPRB } : PFrame).typ = BitVec.ofNat 8 ftPRB ∧
      ({ loop := true } : PFrame).loop = true ∧ ({ loop := true } : PFrame).dirB = false ∧ ({} : PFrame).loop = false) ∧
    (let s := fld PHR_CTRL_RINGEN 1 (ringSt 0 (fun x => { x with resB := some .unlooped, linkA := true }) up)
     ringEn s 0 = true ∧ mayIssue s = true ∧ (s.ring 0).resB = some .unlooped ∧ (s.ring 0).linkA = true ∧ (s.ring 0).state ≠ 1 ∧
       s.running = false ∧ ∀ q < 4, (s.ring q).enumReq = false) ∧
    ((ringsOn.ring 0).resA = none ∧ (ringsOn.ring 3).resB = none ∧
      ((ringSt 3 (fun x => { x with resA := some .noAddr }) ringsOn).ring 3).resA ≠ none) ∧
    (({ typ := BitVec.ofNat 8 ftENM, hops := 5 } : PFrame).hops.toNat ≠ ringN ringsOn 0 ∧
      ({ typ := BitVec.ofNat 8 ftENM } : PFrame).hops.toNat = ringN ringsOn 3 ∧ ({ typ := BitVec.ofNat 8 ftENM } : PFrame).loop = false) ∧
    (let s := ringSt 3 (fun x => { x with state := 1 }) ringsOn
     (s.ring 3).state = 1 ∧ halted s = false ∧ enumBusy s 3 = false ∧ s.boot.autoStart = false ∧ (∀ q < 4, (s.ring q).enumReq = false) ∧
       enumBusy (s.setQueue 3 [{ aim := .ident }]) 3 = true) ∧
    (let s := ringSt 3 (fun x => { x with linkA := true, linkB := true }) up
     s.phr.linksDown = false ∧ s.boot.held = false ∧ (s.ring 3).linkA = true ∧ (s.ring 3).linkB = true) := by decide +kernel

def withTx (e : TxEntry) (s : State) : State := { s with phr := { s.phr with entries := [(255, e)] } }

/-- One to issue on ring 3 with both links up; an entry whose copies are answered, unanswered and strays; entries that expire, one of them
a read that waits for its task's release; an acyclic transaction that has waited. -/
theorem witness_Transactions :
    (let s := ringSt 3 (fun x => { x with linkA := true, linkB := true })
       { ringsOn with phr := { ringsOn.phr with queues := [(3, [{ typ := .dxf, ring := 3 }])] } }
     mayIssue s = true ∧ ringEn s 3 = true ∧ (nextTx s 3).isSome = true ∧ ((s.queue 3).getD 0 {}).typ ≠ TxType.delta ∧
       ringLink s 3 false = true ∧ ringLink s 3 true = true) ∧
    (let s := withTx { busy := true, gen := 255, tx := { typ := .stop } } up
     halted s = false ∧ s.phr.linksDown = false ∧ (s.entry 255).busy = true ∧ (s.entry 255).gen = (255 : Byte).toNat ∧
       wbit (((0x80 : Byte)).setWidth 32) 7 = true ∧ wbit (((0 : Byte)).setWidth 32) 7 = false ∧ (s.entry 255).unans = 0 ∧
       awaitsRelease s (s.entry 255) = false ∧ (txExpiry s (s.entry 255)).isSome = true) ∧
    (((withTx { busy := true, unans := 1 } up).entry 255).unans ≠ 0) ∧
    (let s := withTx { lastGen := some 7, cancelled := [9] } up
     (s.entry 255).busy = false ∧ (s.entry 255).lastGen = some (7 : Byte).toNat ∧ (s.entry 255).lastGen ≠ some (8 : Byte).toNat ∧
       (s.entry 255).cancelled.contains (9 : Byte).toNat = true ∧ (s.entry 255).cancelled.contains (8 : Byte).toNat = false) ∧
    (let s := task 0 (fun t => { t with active := true }) (withTx { busy := true, tx := { typ := .srd, task := 0 } } up)
     (s.entry 255).busy = true ∧ awaitsRelease s (s.entry 255) = true ∧
       awaitsRelease (task 0 (fun t => { t with released := true }) s) (s.entry 255) = false ∧ (txExpiry s (s.entry 255)).isSome = true) ∧
    (let s := { up with phr := { up.phr with queues := [(0, [{ typ := .dxf }])] } }
     halted s = false ∧ (oldestAcyclic (s.queue 0)).isSome = true) := by decide +kernel

/-- A module in boundary-clock mode, with a plant grandmaster that it follows, in a state; its only ring is 3, both links up. -/
def boundary (gm : Option PtpClock) (st : Nat) : State :=
  fld PHR_CTRL_RINGEN 8 (fld PHR_PTPSTAT_STATE st (fld PHR_PTPCTRL_MODE 1 (ringSt 3 (fun x => { x with linkA := true, linkB := true })
    { up with phr := { up.phr with gm := gm }, stations := [(stnKey 3 255, { present := true })] })))

theorem witness_RingTime :
    mayIssue (held up) = false ∧ ptpGrandmaster (fld PHR_PTPCTRL_MODE 0 up) = true ∧
    (let s := boundary none 1
     mayIssue s = true ∧ ptpGrandmaster s = false ∧ (0 : Byte).toNat = s.fld PHR_PTPCTRL_DOMAIN ∧ (1 : Byte).toNat ≠ s.fld PHR_PTPCTRL_DOMAIN ∧
       s.phr.gm = none ∧ fromGm s 5#64 = false ∧ s.fld PHR_PTPSTAT_STATE ≠ 2 ∧ s.fld PHR_PTPSTAT_STATE ≠ 3) ∧
    (let s := boundary (some { ident := 5#64 }) 3
     let better : PtpClock := { prio1 := 127, ident := 9#64 }
     let worse : PtpClock := { ident := 6#64 }
     s.phr.gm = some { ident := 5#64 } ∧ better.ident ≠ 5#64 ∧ rankLess (clockRank better) (clockRank { ident := 5#64 }) = true ∧
       worse.ident ≠ 5#64 ∧ rankLess (clockRank worse) (clockRank { ident := 5#64 }) = false ∧ fromGm s 5#64 = true ∧
       s.fld PHR_PTPSTAT_STATE = 3 ∧ ringEn s 3 = true ∧ ringLink s 3 true = true ∧ enabledRings s = [3] ∧ ringLink s 3 false = true ∧
       1023 / 256 = 3 ∧ (s.stn 1023).present = true ∧ (s.stn 1022).present = false ∧ 255 / 256 ≠ 3) ∧
    (mayIssue up = true ∧ enabledRings up = []) := by decide +kernel

/-- A station at the last place of ring 3, and at the first of ring 0. -/
def withStn (x : Station) (s : State) : State := (s.setStn (stnKey 3 255) x).setStn (stnKey 0 1) x

theorem witness_StationsAct :
    (let s := withStn { present := true, sync := true, config := true, period := 1000000 } up
     let x := s.stn (stnKey 3 255)
     x.present = true ∧ x.sync = true ∧ x.config = true ∧ x.period ≠ 0) ∧
    ((up.stn (stnKey 3 255)).present = false) ∧
    (let x := (withStn { present := true, addr := 1, epoch := 5#32 } up).stn (stnKey 0 1)
     let f (e : Word) : PFrame := { typ := 5, station := 1, epoch := e }
     x.present = true ∧ x.addressed (f 4#32) = true ∧ x.addressed (f 6#32) = true ∧ (f 4#32).epoch.toNat < x.epoch.toNat ∧
       x.epoch = (f 5#32).epoch ∧ x.epoch.toNat < (f 6#32).epoch.toNat ∧ x.addressed { f 5#32 with station := 2 } = false ∧
       ({ typ := 9 } : PFrame).typ.toNat ≠ 8 ∧ x.addressed { typ := 9 } = false ∧ (f 5#32).loop = false) ∧
    (let s := withStn { present := true } up
     let x := s.stn (stnKey 3 255)
     let f : PFrame := { typ := BitVec.ofNat 8 ftENM, hops := 255 }
     x.present = true ∧ f.loop = false ∧ f.typ = BitVec.ofNat 8 ftENM ∧ f.dirB = false ∧ x.addr = 0) ∧
    (let s := withStn { present := true, addr := 3 } up
     let f : PFrame := { typ := BitVec.ofNat 8 ftENM, flags := 4 }
     (s.stn (stnKey 0 1)).addr ≠ 0 ∧ (s.stn (stnKey 0 1)).addr ≠ (f.hops.toNat + 1) % 256 ∧ wbit (f.flags.setWidth 32) 2 = true ∧
       wbit (({ f with flags := 0 } : PFrame).flags.setWidth 32) 2 = false ∧ 3 = (({ f with hops := 2 } : PFrame).hops.toNat + 1) % 256) ∧
    (let s := withStn { pend := some (5, true, [1]) } up
     (s.stn (stnKey 3 255)).pend = some (5, true, [1])) ∧
    (let s := withStn { pend := some (5, false, []), present := true, safe := false } up
     (s.stn (stnKey 0 1)).pend = some (5, false, []) ∧ (s.stn (stnKey 0 1)).present = true ∧ (s.stn (stnKey 0 1)).safe = false) := by
  decide +kernel

/-! ### Witnesses: loops, energy, the pair, supplies -/

def loops (ls : Tbl LoopSt) (s : State) : State := { s with lpe := { s.lpe with loops := ls } }

/-- A configured loop: %ID0 as its PV source, %QD0 as its destination. -/
def loop1 : LoopSt := (({} : LoopSt).setWord 6 0).setWord 0x0B 0x20000000#32

/-- The program stopped, and running without a publication due; a free unit; a loop's publication with a word and without; writes that
the record takes and refuses. -/
theorem witness_Loops :
    (let s := loops [(4095, loop1)] up
     (s.loop 4095).configured = true ∧ (s.loop 4095).aligned = false ∧ s.boot.held = false ∧ s.frz.frozen = false ∧ s.running = false ∧
       (let t := fld LPE_CTRL_EN 1 (runs s)
        let x := loopNext t (t.loop 4095)
        let v := handoverDone (publishDue t x)
        t.running = true ∧ lpeOn t = true ∧ publicationsDue t x = [] ∧ switched t = false ∧ v.running = true ∧ v.frz.frozen = false ∧
          lpeOn v = true)) ∧
    (let s := fld LPE_CTRL_EN 1 (runs up)
     (nextExec [{ loop := 1 }, { loop := 2 }]).isSome = true ∧ lpeRuns s = true ∧ Tbl.range s.lpe.units 3 1 = []) ∧
    (let s (w : Option Word) := loops [(4095, { loop1 with out := some { t := 5, u := 0, bad := false, word := w } })] (runs up)
     (s none).running = true ∧ (s none).frz.frozen = false ∧ ((s none).loop 4095).out = some { t := 5, u := 0, bad := false, word := none } ∧
       ((s (some 7#32)).loop 4095).out = some { t := 5, u := 0, bad := false, word := some 7#32 } ∧
       ((s none).loop 4095).aligned = false ∧ (loopDest ((s none).loop 4095)).isSome = true) ∧
    (MayWrite up 4 (LPE_RWORD 0) ∧ MayWrite up 4 (LPE_RWORD 26) ∧ (fld LPE_RSEL_LOOP 4095 up).fld LPE_RSEL_LOOP = 4095 ∧
      loopReadOnly 1 = false ∧ loopReadOnly 27 = false ∧ (loopWrite up 4095 1 4).2 = 0 ∧ (loopWrite up 4095 1 5).2 ≠ 0) := by
  decide +kernel

def nrg (f : NrgState → NrgState) (s : State) : State := { s with nrg := f s.nrg }

/-- A lane-class segment of task 23 on cluster 5, that is on island 1. -/
def laneTask (s : State) : State := { s with gz := { s.gz with hdr := [(9, { w0 := toWord (0x40000000 + 5 * 2 ^ 27 + 23 * 2 ^ 22) })] } }

theorem witness_EnergyLedger :
    (up.boot.held = false ∧ (frozen up).boot.held = false ∧ (frozen up).frz.frozen = true ∧ up.frz.frozen = false) ∧
    (let s := fld NRG_CTRL_EN 0 up
     feltRuns s = true ∧ s.nrg.slice = none ∧ funded s .scrub 1 = true ∧ nearest s .scrub = true ∧ nearest s (.traceWrite 7) = true) ∧
    (let s := fld NRG_CTRL_EN 1 up
     funded s .wear 3000000 = false ∧ nearest s .wear = true ∧ feltRuns (frozen up) = false) ∧
    (let s := nrg (fun n => { n with slice := some ⟨.wear, 0⟩ }) up
     s.nrg.slice = some ⟨.wear, 0⟩ ∧ feltRuns s = true ∧ dutyClass .wear = 3 ∧ Duty.wear ≠ .selfTest ∧ Duty.wear ≠ .scrub ∧
       Duty.wear ≠ .editCheck ∧ auditRunning s = false) ∧
    (let s := { up with now := 1 }
     feltRuns s = true ∧ s.nrg.done * 86400000000000 < (s.now - s.nrg.pass) * scrubTotal ∧
       (up.now - up.nrg.pass) * scrubTotal ≤ up.nrg.done * 86400000000000) ∧
    (let s := laneTask (fld NRG_CTRL_EN 1 (nrg (fun n => { n with hist := [(46, [[5, 5, 0, 0]])] })
       (task 23 (fun t => { t with active := true, evaluating := true }) up)))
     feltRuns s = true ∧ (s.task 23).evaluating = true ∧ s.flag NRG_CTRL_EN = true ∧
       (s.nrg.hist.get [] (2 * 23 + b2n (wholeCycle s 23))).isEmpty = false ∧ (s.task 23).active = true ∧ (s.task 23).ended = false ∧
       (taskIslands s 23).contains 1 = true ∧ s.flag (NRG_ISLCTRL_FIX 1) = false) ∧
    (let s := task 23 (fun t => { t with active := true, released := true }) up
     feltRuns s = true ∧ (s.task 23).active = true ∧ (s.task 23).released = true ∧ (s.task 23).ended = false) ∧
    (let s := nrg (fun n => { n with slice := some ⟨.traceWrite 7, 0⟩ }) { up with trc := [(7, { waiting := [⟨5, [1]⟩] })] }
     (s.trcb 7).waiting = ⟨5, [1]⟩ :: [] ∧ feltRuns s = true ∧ inSlice s (.traceWrite 7) = true ∧
       inSlice (nrg (fun n => { n with slice := none }) s) (.traceWrite 7) = false) := by decide +kernel

/-- Readings below, between and above the limits of LIMITING; a limit that has lasted; a shutdown; temperatures of its release. -/
theorem witness_Temperatures :
    (∀ c ∈ [(1069 : Int), 1070, 1099, 1100],
      ((List.range 4).map fun i => userEff up (0x3010 + i) (([] : List Int).getD i 0) 10).foldl Max.max (userEff up 0x3014 c 10) = c) ∧
    (feltRuns up = true ∧ up.flag NRG_STAT_LIMITING = false ∧ (fld NRG_STAT_LIMITING 1 up).flag NRG_STAT_LIMITING = true ∧
      up.fldInt NRG_TJ_TJMAX < 1070) ∧
    (let s := fld NRG_CTRL_EN 0 (fld NRG_TJ_TJ 1100 (nrg (fun n => { n with limit := some 5 }) up))
     s.nrg.limit = some 5 ∧ feltRuns s = true ∧ s.nrg.limited = false ∧ 1100 ≤ tj s ∧ s.flag NRG_CTRL_EN = false) ∧
    (let s := (List.range 4).foldl (fun s i => fld (NRG_ISLSTAT_CODE i) (planCode s i) s) (fld NRG_CTRL_EN 1 up)
     ∀ i < 4, s.fld (NRG_ISLSTAT_CODE i) = planCode s i) ∧
    up.boot.held = false ∧
    ([(999 : Int), 0].all (fun t => decide (t < 1000)) = true ∧ [(1000 : Int)].all (fun t => decide (t < 1000)) = false) := by
  decide +kernel

/-- The frames of a partner: unit 2, in a role, with a notice. -/
def frameOf (typ role notice : Nat) : List Byte := hbFrame (hsb (fun h => { h with unit := 2 }) (as role up)) typ notice
def heardRole (typ role notice : Nat) (r : Nat) : Bool :=
  match parseHb (frameOf typ role notice) with
  | some (t, p) => t == typ && p.role == r && p.notice == notice
  | none => false

theorem witness_PairHeartbeats :
    (let s := as roleActive up
     pairUp s = true ∧ s.boot.stage = .firmware ∧ s.hsb.wait485 = false ∧ s.hsb.lost.length = 2 ∧ s.hsb.hb.length = 2 ∧
       s.role = roleActive ∧ s.hsb.copying = false ∧ s.hsb.repeats = 0) ∧
    (let s := boot (fun b => { b with stage := .loader, relReq := true }) (as roleStarting up)
     pairUp s = true ∧ s.boot.relReq = true ∧ s.hsb.wait485 = false) ∧
    (let s := hsb (fun h => { h with wait485 := true, repeats := 2, notice := 5 }) (as roleUnfit up)
     pairUp s = true ∧ s.boot.stage = .firmware ∧ s.hsb.wait485 = true ∧ s.hsb.repeats ≠ 0) ∧
    (pairUp up = false ∧ pairUp (as roleReady up) = true ∧ parseHb [] = none) ∧
    (heardRole 1 roleReady 0 roleReady = true ∧ roleReady ≠ roleSyncing ∧ heardRole 1 roleSyncing 0 roleSyncing = true ∧
      heardRole 1 roleActive 0 roleActive = true ∧ (as roleReady up).role = roleReady ∧ (as roleReady up).boot.stage = .firmware) ∧
    (heardRole 2 roleActive 1 roleActive = true ∧ heardRole 2 roleActive 5 roleActive = true ∧ heardRole 2 roleReady 2 roleReady = true ∧ heardRole 2 roleReady 4 roleReady = true ∧ (as roleSyncing up).role ≠ roleReady) ∧
    (let s := hsb (fun h => { h with lost := [false, true] }) (as roleReady up)
     pairUp s = true ∧ s.pathLost 0 = false ∧ s.pathLost 1 = true ∧ s.hsb.partner.notice ≠ 3 ∧
       (hsb (fun h => { h with lost := [false, false] }) s).pathLost 1 = false) ∧
    (let s := hsb (fun h => { h with heard := some { role := roleActive } }) (as roleStarting up)
     pairUp s = true ∧ s.role = roleStarting ∧ s.hsb.heard = some { role := roleActive } ∧ (as roleStarting up).hsb.heard = none) ∧
    ((hsb (fun h => { h with pairCompat := some 1 }) (as roleStarting up)).hsb.pairCompat.isSome = true ∧ (as roleActive up).role ≠ roleStarting ∧
      (hsb (fun h => { h with pairCompat := some 1 }) (as roleStarting up)).role = roleStarting) := by
  decide +kernel

def deltaRx (k : Nat) (d : DeltaSt) (s : State) : State := hsb (fun h => { h with deltas := [(k, d)] }) s

theorem witness_PairRecords :
    (let s := as roleSyncing up
     pairUp s = true ∧ s.role = roleSyncing ∧ 0x20FFFFFF < 2 ^ 32 ∧ 0x20000000 ≤ 0x20FFFFFF ∧ 0x20FFFFFF < 0x21000000 ∧
       (toLE 4 4095 ++ List.replicate 28 (0 : Byte)).length = 32) ∧
    (let s := deltaRx 23 { rx := some 4 } (as roleReady up)
     pairUp s = true ∧ s.role ≠ roleSyncing ∧ takesInput s = true ∧ (s.delta 23).rx = some 4 ∧ (6 : Word).toNat ≠ (4 + 1) % 2 ^ 32 ∧
       4 ≠ (5 : Word).toNat ∧ (s.delta 23).rx = some (4 : Word).toNat ∧ (s.task 23).ended = false) ∧
    (let s := task 0 (fun t => { t with ended := true }) (deltaRx 0 { rx := some 0 } (as roleReady up))
     (s.delta 0).rx = some (0 : Word).toNat ∧ (s.task 0).ended = true ∧ listFit 0 32 (deltaDigest s 0) = deltaDigest s 0 ∧
       listFit 0 32 [] ≠ deltaDigest s 0) ∧
    ((deltaRx 15 { endDue := true } (as roleReady up)).delta 15).endDue = true ∧
    ((toLE 1 itemHandover ++ toLE 8 (2 ^ 64 - 1)).length = 9 ∧ (as roleReady up).boot.stage = .firmware) ∧
    (let s := as roleActive up
     pairUp s = true ∧ s.role = roleActive ∧ s.acts = true ∧ s.boot.stage = .firmware ∧ (as roleReady up).acts = false ∧
       (hsb (fun h => { h with switch := some { th := 2 ^ 32 + 7, since := 0 } }) s).hsb.switch = some { th := 2 ^ 32 + 7, since := 0 } ∧
       toWord (2 ^ 32 + 7) = 7#32) := by decide +kernel

/-- Nothing to issue; a takeover whose task's cycle begins at T_a, one whose task is in its shadow cycle, and one whose task is in
neither; a handover not acknowledged; acknowledged, of a READY, an active and another module; the relay's commands. -/
theorem witness_PairSwitch :
    up.hsb.takeover = none ∧
    (∀ p ∈ [(5, 1, false), (9, 5, true), (9, 1, false)],
      let s := task 0 (fun t => { t with nextTs := p.1, ts := p.2.1, shadow := p.2.2 })
        (hsb (fun h => { h with takeover := some { task := 0, ta := 5, tx := 6 } }) (runs (as roleActive up)))
      s.hsb.takeover = some { task := 0, ta := 5, tx := 6 } ∧ s.running = true ∧ halted s = false ∧ s.role = roleActive ∧
        publicationsDue s 5 = [] ∧ ((s.task 0).nextTs = 5 ↔ p.1 = 5) ∧ ((s.task 0).ts = 5 ↔ p.2.1 = 5) ∧ (s.task 0).shadow = p.2.2 ∧
        (s.task 0).released = false) ∧
    (let s := hsb (fun h => { h with switch := some { th := 5, since := 0 } }) (as roleActive up)
     s.hsb.switch = some { th := 5, since := 0 } ∧ s.role = roleActive ∧ pairUp s = true) ∧
    (∀ r ∈ [roleReady, roleActive, roleSyncing],
      let s := hsb (fun h => { h with switch := some { th := 5, since := 0, acked := true } }) (as r up)
      s.hsb.switch = some { th := 5, since := 0, acked := true } ∧ pairUp s = true ∧ publicationsDue s 5 = [] ∧
        switched (s.at 5) = true ∧ (List.range 24).any (ownCycle (s.at 5)) = false ∧ (∀ k < 24, (s.task k).active = false)) ∧
    (pairUp (as roleReady up) = true ∧ (as roleReady up).role ≠ roleActive ∧ (as roleReady up).boot.stage = .firmware ∧
      fromLE (([1] : List Byte).take 1) = 1 ∧ fromLE (([4] : List Byte).take 1) = 4) ∧
    (let s := boot (fun b => { b with stage := .loader, resident := true, upd := .receiving }) (as roleReady up)
     pairUp s = true ∧ s.boot.stage = .loader ∧ s.boot.resident = true ∧ s.boot.upd = .receiving ∧ s.boot.updPartner = false) ∧
    (let s := hsb (fun h => { h with relayAt := some 3 }) (boot (fun b => { b with updPartner := true }) (as roleActive up))
     s.hsb.relayAt = some 3 ∧ s.boot.updPartner = true ∧ pairUp s = true) := by decide +kernel

/-- Voltages at the limits of each state, and a feed that was high; warnings and saves. -/
theorem witness_SuppliesAndResets :
    up.boot.held = false ∧ (8999 < 9000 ∧ 9000 ≤ 9000 ∧ 18299 < 18300 ∧ 19200 ≤ 19200 ∧ 30499 < 30500 ∧ 32000 < 32001) ∧
    (wbits (up.reg HSB_FEEDA) 31 30 ≠ 3 ∧ wbits ((up.setReg HSB_FEEDB 0xC0000000).reg HSB_FEEDB) 31 30 = 3) ∧
    (up.boot.pfw = false ∧ up.frz.frozen = false) ∧
    (let s := boot (fun b => { b with pfw := true }) up
     s.boot.pfw = true ∧ s.boot.held = false ∧ s.nv.saving = none ∧
       ({ s with nv := { s.nv with saving := some [1] } }).nv.saving = some [1]) := by decide +kernel

/-! ### Witnesses: Jurno -/

def jrn (f : JrnState → JrnState) (s : State) : State := { s with jrn := f s.jrn }

/-- Jurno serves, and node 5 of the first controller is unlocked for a role. -/
def serving (role : Nat) (s : State) : State :=
  fld JRN_CTRL_EN 1 (jrn (fun j => { j with phase := 3, unlocks := [(0, some { ctrl := 0, node := 5, role := role, until_ := 2 ^ 60 })] }) s)

def req (svc index sub : Nat) (bs : List Byte) : JReq :=
  { src := .can 0 5, msg := { service := BitVec.ofNat 8 svc, index := BitVec.ofNat 16 index, sub := BitVec.ofNat 8 sub, len := BitVec.ofNat 16 bs.length, data := bs } }

/-- The state with the request's frame counted. -/
def counted (s : State) (q : JReq) : State := if isEth q.src then s.modJrn fun j => { j with rxFrames := j.rxFrames + 1 } else s

/-- A request passes every gate but that of its source. -/
def open_ (s : State) (q : JReq) : Bool := decide (halted s = false ∧ s.jrn.phase ≠ 0 ∧ s.jrn.phase ≠ 1 ∧ s.jrn.phase ≠ 2 ∧
  s.flag JRN_CTRL_EN = true ∧ msgBad q = false ∧ (s.boot.stage = .firmware ∨ isEth q.src = true ∧ loaderServes q = true) ∧ q.msg.target = 0xFFFF#16 ∧ noRoom (counted s q) q.src = false)

/-- The role and the state with which a request is served, where it passes every gate. -/
def servedBy (s : State) (q : JReq) : Option (Nat × State) :=
  match gate (counted s q) q with
  | .go role slot => if open_ s q then some (role, acceptSeq (counted s q) slot q.src) else none
  | _ => none

theorem servedBy_served {s u : State} {q : JReq} {role : Nat} (h : servedBy s q = some (role, u)) : Served s q role u := by
  unfold servedBy at h
  cases hg : gate (counted s q) q with
  | go r slot =>
    rw [hg] at h
    dsimp only at h
    cases ho : open_ s q with
    | false => simp [ho] at h
    | true =>
      simp only [ho, if_true, Option.some.injEq, Prod.mk.injEq] at h
      obtain ⟨rfl, rfl⟩ := h
      obtain ⟨h1, h2, h3, h4, h5, h6, h7, h8, h9⟩ := of_decide_eq_true ho
      exact ⟨h1, h2, h3, h4, h5, h6, h7, h8, slot, counted s q, rfl, hg, h9, rfl⟩
  | drop => rw [hg] at h; cases h
  | again m => rw [hg] at h; cases h
  | status n => rw [hg] at h; cases h

/-- A request is served, and a check holds of its role and state. -/
def served (s : State) (q : JReq) (p : Nat → State → Bool) : Bool :=
  match servedBy s q with
  | some (r, u) => p r u
  | none => false

/-- A write that completes a value that passes every check: what the statement asks of a command that is a write of an object. -/
def writeOk (s : State) (q : JReq) : Bool :=
  served s q fun role u0 =>
    match wholeValue u0 q with
    | none => false
    | some (u, bs) => writeStatus u q role q.msg.index.toNat q.msg.sub.toNat bs == 0 &&
      match defOf u q.msg.index.toNat q.msg.sub.toNat with
      | some d => !blocked u q.msg.index.toNat q.msg.sub.toNat d
      | none => false

/-- The writes of one object each, in the order of the statement, whose data pass. -/
def objWrites : List (Nat × Nat × List Byte) := [
  (0x4021, 2, [1]), (0x4021, 2, [2]), (0x4021, 2, [3]), (0x4022, 5, [0, 2, 0, 0] ++ List.replicate 8 0), (0x4022, 3, [1]),
  (0x4100, 7, [0]), (0x4100, 8, [23]), (0x4101, 1, []), (0x4102, 1, []), (0x4102, 2, [1]), (0x4102, 2, [2]),
  (0x6000, 1, [4, 0, 0, 0]), (0x6FFF, 0x1B, [1, 0, 0, 0]), (0x7017, 0x0D, [1]), (0x7010, 0x0D, [2]), (0x7017, 0x0D, [3]),
  (0x1400, 0x0E, [0, 0]), (0x1800, 7, [1]), (0x1800, 7, [2]), (0x1800, 7, [3]), (0x3FFF, 1, [1]), (0x7100, 3, [1]),
  (0x7147, 0x0E, [0, 0, 0x80, 0x40]), (0x7140, 0x0F, [0, 0, 0xA0, 0x41]), (0x7150, 4, [1]), (0x7201, 0x0A, [1]), (0x7300, 7, [1]),
  (0x7300, 4, [0, 0, 0, 0]), (0x7300, 2, List.replicate 8 0), (0x7317, 0x0F, [1]), (0x1F00, 1, [1]), (0x1E00, 1, List.replicate 8 0),
  (0x1E01, 1, List.replicate 64 0), (0x1E01, 2, [1]), (0x1C10, 2, [1]), (0x1C20, 0x0B, [0x4C, 0x43, 0x47, 0x4C]),
  (0x1040, 1, [1]), (0x1040, 1, [2]), (0x1040, 1, [3])]

/-- A session of the Supervisor, and a request of it with its TAG. -/
def withSession (s : State) : State :=
  jrn (fun j => { j with sessions := [(7, some { sid := 9, role := 3, authed := true, key := [1] })] }) (serving 3 s)
def reqEth (svc index sub : Nat) (bs : List Byte) : JReq :=
  let m := (req svc index sub bs).msg
  { src := .eth 0x0A000001#32 7 9#32 1#32 (tagOf [1] (payloadOf 9#32 1#32 m)), msg := m }

/-- The last part of an update block: 8 bytes and 4,096 before it. -/
def lastPart : JReq :=
  { src := .can 0 5, msg := { service := BitVec.ofNat 8 svcWrite, index := 0x1040#16, sub := 3, flags := 3, offset := 4096#32, len := 8#16,
                              data := List.replicate 8 0 } }
def partOpen : State :=
  jrn (fun j => { j with parts := [(objKey 0x1040 3, some { src := .can 0 5, bytes := List.replicate 4096 0, at_ := 0 })] }) (serving 3 up)

/-- Every object's write passes; an unlock, over a session; the last part of a block; a request of another service. -/
theorem witness_ObjectCommands :
    objWrites.all (fun e => writeOk (serving 3 up) (req svcWrite e.1 e.2.1 e.2.2)) = true ∧
    writeOk (withSession up) (reqEth svcWrite 0x1031 1 [0, 5, 3, 0, 10, 0]) = true ∧
    writeOk partOpen lastPart = true ∧
    names (req svcRead 0x4021 2 [1]) svcWrite 0x4021 2 = false := by decide +kernel

/-- Modules that take no request; a message with a bad form; the phases before firmware; a full queue of one source; an unknown session. -/
theorem witness_JurnoGate :
    (halted (held up) = true ∧ up.jrn.phase = 0) ∧
    (let q := req svcRead 0x1000 1 []
     let on := fld JRN_CTRL_EN 1 up
     let at_ (n : Nat) : State := jrn (fun j => { j with phase := n }) on
     q.msg.service.toNat = svcRead ∧ q.msg.service.toNat ≠ svcWrite ∧ isEth q.src = false ∧ halted on = false ∧ on.flag JRN_CTRL_EN = true ∧
       msgBad q = false ∧ msgBad { q with msg := { q.msg with len := 1 } } = true ∧ (at_ 1).jrn.phase = 1 ∧ (at_ 2).jrn.phase = 2 ∧
       (at_ 3).boot.stage = .firmware ∧
       noRoom (jrn (fun j => { j with slots := (List.range 8).map fun k => (k, some { req := q, role := 0, seqno := k, msg := [] }) }) (at_ 3))
         q.src = true) ∧
    (let q := reqEth svcRead 0x1000 1 []
     msgBad q = false ∧ sessionSlot (serving 3 up) 9 = none) := by decide +kernel

/-- For each service a request that passes and, where the statement has one, a request that does not; parts of each kind; OPEN with a free
place, AUTH with the right proof and a wrong one, CLOSE. -/
theorem witness_JurnoServices :
    served (serving 3 up) (req svcRead 0x1000 1 []) (fun r u => readStatus u r 0x1000 1 == 0) = true ∧
    served (serving 3 up) (req svcRead 0x0FFF 1 []) (fun r u => readStatus u r 0x0FFF 1 != 0) = true ∧
    (let q := req svcRead 0x1000 1 []
     served (serving 3 up) { q with msg := { q.msg with flags := 2, offset := 5000#32, len := 1024 } }
       (fun r u => readStatus u r 0x1000 1 == 0 && decide ((objPeek u 0x1000 1).length < 5000)) = true) ∧
    writeOk (serving 3 up) (req svcWrite 0x4021 2 [3]) = true ∧
    served (serving 3 up) (req svcWrite 0x4021 2 [9]) (fun r u => writeStatus u (req svcWrite 0x4021 2 [9]) r 0x4021 2 [9] != 0) = true ∧
    (let first := { lastPart with msg := { lastPart.msg with flags := 2, offset := 0 } }
     served (serving 3 up) first (fun _ u => u.jrn.parts.get none (objKey 0x1040 3) == none) = true ∧
     served (serving 3 up) { first with msg := { first.msg with offset := 8 } } (fun _ u => u.jrn.parts.get none (objKey 0x1040 3) == none) = true ∧
     served partOpen { first with src := .can 0 6 } (fun _ u => (u.jrn.parts.get none (objKey 0x1040 3)).any fun p => !sameSource p.src (.can 0 6)) = true ∧
     served partOpen first (fun _ u => (u.jrn.parts.get none (objKey 0x1040 3)).any fun p => sameSource p.src (.can 0 5) && p.bytes.length != 0) = true ∧
     served partOpen { first with msg := { first.msg with offset := 4096 } }
       (fun _ u => (u.jrn.parts.get none (objKey 0x1040 3)).any fun p => p.bytes.length == 4096) = true) ∧
    served (serving 3 up) (req svcGwrite 0x1300 2 []) (fun r u => groupStatus u r 0x1300 2 [] != 0) = true ∧
    served (serving 3 up) (req svcGwrite 0x1300 1 [1, 0, 0, 0, 0, 0, 0, 0]) (fun r u =>
      groupStatus u r 0x1300 1 [1, 0, 0, 0, 0, 0, 0, 0] == 0 && (groupMembers u 0x1300).isEmpty) = true ∧
    served (serving 3 up) (req svcDescribe 0x1000 1 []) (fun _ u => nameStatus u 0x1000 1 == 0 && (defOf u 0x1000 1).isSome) = true ∧
    served (serving 3 up) (req svcReadtime 0 0 []) (fun _ _ => true) = true ∧
    (let q : JReq := { src := .eth 0x0A000001#32 7 0 1#32 [], msg := { service := BitVec.ofNat 8 svcOpen, len := 17, data := 4 :: List.replicate 16 0 } }
     served (serving 3 up) q (fun _ u => !lockedOut u 0x0A000001#32 && (roleKey u 4).isSome && (sessionAt u 0).isNone) = true) ∧
    (let x : JSess := { sid := 9, role := 3, key := [1], nc := [2], ns := [3] }
     let s := jrn (fun j => { j with sessions := [(7, some x)] }) (serving 3 up)
     let q (bs : List Byte) : JReq := { src := .eth 0x0A000001#32 7 9#32 1#32 [], msg := { service := BitVec.ofNat 8 svcAuth, len := 32, data := bs } }
     let right := hmac x.key (strBytes "JRNA" ++ toLE 4 x.sid ++ x.nc ++ x.ns)
     right.length = 32 ∧ List.replicate 32 0 ≠ right ∧
     served s (q right) (fun _ u => sessionSlot u 9 == some 7 && sessionAt u 7 == some x) = true ∧
     served s (q (List.replicate 32 0)) (fun _ u => sessionSlot u 9 == some 7 && sessionAt u 7 == some x) = true) ∧
    served (withSession up) (reqEth svcClose 0 0 []) (fun _ u => (sessionOf u (reqEth svcClose 0 0 []).src).isSome) = true := by
  decide +kernel

theorem witness_ReadsThatMoveOn :
    (let s := { serving 3 up with rcd := { up.rcd with index := [(0, { rseq := 5, sev := 1, code := 1 })] } }
     let q := req svcRead 0x1C21 2 []
     names q svcRead 0x1C21 2 = true ∧
     served s q (fun r u => readStatus u r 0x1C21 2 == 0 && (recNext u (readKey q.src)).isSome) = true ∧
     served (serving 3 up) q (fun r u => readStatus u r 0x1C21 2 == 0 && (recNext u (readKey q.src)).isNone) = true) ∧
    (∀ i ∈ [0x7010, 0x7017], let q := req svcRead i 0x12 []
     namesOf q svcRead 0x7010 8 0x12 = true ∧ served (serving 3 up) q (fun r u => readStatus u r i 0x12 == 0) = true) ∧
    (let q := req svcRead 0x1000 1 []
     names q svcRead 0x1C21 2 = false ∧ namesOf q svcRead 0x7010 8 0x12 = false ∧ served (serving 3 up) q (fun _ _ => true) = true) := by
  decide +kernel

theorem witness_FramesRoundTrip :
    1 < 256 ∧ 255 < 256 ∧ (as roleUnfit up).role < 16 ∧ (as roleUnfit up).hsb.unit < 4 ∧ (as roleUnfit up).hsb.seq < 2 ^ 32 := by
  decide +kernel

theorem witness_Sessions :
    (let s := jrn (fun j => { j with sessions := [(7, some { sid := 9 })] }) up
     sessionAt s 7 = some { sid := 9 } ∧ halted s = false ∧ ({ sid := 9 } : JSess).authed = false ∧ ({ authed := true } : JSess).authed = true) ∧
    ((jrn (fun j => { j with locks := [(5, 9)] }) up).jrn.locks.get 0 (5 : Word).toNat ≠ 0) ∧
    ((jrn (fun j => { j with unlocks := [(7, some { ctrl := 1, node := 127, role := 2, until_ := 5 })] }) up).jrn.unlocks.get none 7
      = some { ctrl := 1, node := 127, role := 2, until_ := 5 }) ∧
    (partOpen.jrn.parts.get none (objKey (0x1040 : BitVec 16).toNat (3 : Byte).toNat)).isSome = true ∧
    (portUp (serving 3 up) = true ∧ portUp up = false) ∧ (up.boot.held = false ∧ up.jrn.phase = 0) := by decide +kernel

/-! ### Witnesses: the field side, CAN, safety, storage, the clock, watchdog and freeze -/

def dchan (k : Nat) (c : DChan) (s : State) : State := s.setDchan k c
def achan (k : Nat) (c : AChan) (s : State) : State := s.setAchan k c

theorem witness_FieldSide :
    (up.boot.held = false ∧ up.frz.frozen = false ∧ up.field.link = false ∧ (field (fun f => { f with state := fsSilent }) up).field.state = fsSilent ∧
      (field (fun f => { f with link := true }) up).field.link = true) ∧
    (let s := field (fun f => { f with state := fsStandby }) up
     s.field.state ≠ fsInit ∧ s.field.state ≠ fsSilent ∧ s.field.state = fsStandby) ∧
    up.field.state = fsInit ∧ (18399 < 18400 ∧ up.field.vflow = false) ∧ (31000 < 31001 ∧ up.field.vfhigh = false) ∧
    (18900 < 18901 ∧ 29999 < 30000) ∧
    (up.running = false ∧ publicationsDue (runs up) (updateAt (runs up)) = [] ∧ 18100 ≤ 18100 ∧ 32000 ≤ 32000) ∧
    (match exec (.fieldSideUpdate 0 0 24000) (field (fun f => { f with state := fsStandby }) up) with
      | .next t => allOff t.field | _ => false) = true := by
  decide +kernel

theorem witness_DigitalChannels :
    (let s := field (fun f => { f with state := fsRun }) (dchan 31 { raw := true, state := false } up)
     (s.dchan 31).raw = true ∧ (s.dchan 31).raw ≠ false ∧ false = (s.dchan 31).state ∧ true ≠ (s.dchan 30).state ∧ s.field.state ≠ fsInit) ∧
    (let s := dchan 0 { mode := 1, raw := true, evpol := 1, since := some 5 } up
     (s.dchan 0).since = some 5 ∧ (s.dchan 0).mode = 1 ∧ bit (s.dchan 0).evpol (if (s.dchan 0).raw then 0 else 1) = true ∧
       (({ mode := 2 } : DChan).mode ≠ 1)) ∧
    (let s := field (fun f => { f with state := fsRun, enc := [(15, { en := true })] }) up
     (s.encPair 15).en = true ∧ s.field.state ≠ fsInit ∧ true ≠ (s.encPair 15).a ∧ false = (s.encPair 15).b ∧ false = (s.encPair 15).a ∧
       true ≠ (s.encPair 15).b) ∧
    (let s := dchan 31 { mode := 5, driver := true } up
     isDriver (s.dchan 31) = true ∧ (s.dchan 31).driver = true) ∧
    (let s := dchan 31 { mode := 2, want := true } up
     isDriver (s.dchan 31) = true ∧ (s.dchan 31).mode = 2 ∧ (s.dchan 31).latched = false ∧ s.field.vflow = false ∧ s.field.state ≠ fsStandby ∧
       (s.dchan 31).state ≠ (s.dchan 31).want) ∧
    ((up.dchan 31).openAt = none ∧ ((dchan 31 { latched := true } up).dchan 31).latched = true) := by decide +kernel

theorem witness_AnalogueChannels :
    (let s := field (fun f => { f with state := fsRun }) (achan 7 { mode := 1 } (achan 6 { mode := 2 } (achan 5 { mode := 3 } up)))
     s.field.state ≠ fsInit ∧ (s.achan 7).mode = 1 ∧ (s.achan 6).mode = 2 ∧ (s.achan 5).mode = 3 ∧ (s.achan 4).mode = 0) ∧
    (let c : AChan := { mode := 1, win := 1 }
     let raw (ua : Int) : Int := calibrated c ((([ua] : List Int).take c.win).foldl (· + ·) 0) (([ua] : List Int).take c.win).length
     3600 < raw 3601 ∧ raw 20999 < 21000 ∧ 23000 ≤ raw 23000) ∧
    (let s := achan 7 { mode := 3, on := true, rbAt := some 5 } up
     (s.achan 7).mode = 3 ∧ (s.achan 7).on = true ∧ (s.achan 7).rbAt = some 5 ∧ bit (s.achan 7).live 4 = false ∧ s.field.state ≠ fsStandby ∧
       ((achan 7 { mode := 3 } up).achan 7).rbAt = none) ∧
    ((achan 7 { trim := some (4000, 5) } up).achan 7).trim = some (4000, 5) ∧
    (let s := fld AIO_TRIM_EN 1 (fld AIO_TRIM_ZBTN 0 (fld AIO_TRIM_SBTN 31 (fld (AIO_CFG_MODE 0) 1 up)))
     let z := dchan 0 { state := true }
     let p := dchan 31 { state := true }
     buttonsReady s = true ∧ buttonState (z (p s)) = (true, true) ∧ buttonState (z s) = (true, false) ∧ buttonState (p s) = (false, true)) ∧
    buttonsReady up = false := by decide +kernel

def can (m : Nat) (c : CanSt) (s : State) : State := s.setCanst m c

theorem witness_CanControllers :
    (let s := fld (CAN_STAT_STATE 1) canIntegrating (fld (CAN_STAT_TEC 1) 127 (fld (CAN_STAT_REC 1) 127 up))
     canHalted s = false ∧ s.fld (CAN_STAT_TEC 1) < 128 ∧ s.fld (CAN_STAT_REC 1) < 128 ∧ canState s 1 = canIntegrating ∧
       canState (fld (CAN_STAT_STATE 1) canRecovering s) 1 = canRecovering) ∧
    (let s := fld (CAN_STAT_STATE 1) canActive up
     let f : CanFrame := { id := 5 }
     let u := canConfine (recDown s 1) 1
     let v := fld (CAN_FLTID_EN 1 15) 1 (fld (CAN_FLTID_ID 1 15) 5 u)
     canHalted s = false ∧ canOnline s 1 = true ∧ f.fdf = false ∧ forJurno u 1 (storedFrame f) = false ∧ filterOf u 1 (storedFrame f) = none ∧
       filterOf v 1 (storedFrame f) = some 15 ∧ (v.canst 1).fifo.length < 32 ∧ s.fld (CAN_STAT_TEC 1) < 128 ∧ s.fld (CAN_STAT_REC 1) < 127) ∧
    (let s := can 1 { onBus := some 2 } (fld (CAN_STAT_STATE 1) canPassive (fld (CAN_STAT_TEC 1) 255 up))
     canOnline s 1 = true ∧ s.fld (CAN_CTRL_MODE 1) ≠ 2 ∧ (fld (CAN_CTRL_MODE 1) 2 s).fld (CAN_CTRL_MODE 1) = 2 ∧ (s.canst 1).onBus = some 2 ∧ (s.canst 1).jq = [] ∧ (s.flag (CAN_TDC_TDCEN 1) = false ∨ (127 : Byte).toNat < 128) ∧ s.fld (CAN_STAT_TEC 1) < 256 ∧
       canPending (fld (CAN_TXCTRL_REQ 1 2) 1 s) 1 2 = true ∧ 2 ∉ (s.canst 1).abort ∧ s.flag (CAN_TXCTRL_SINGLE 1 2) = false ∧
       2 ∈ ((can 1 { onBus := some 2, abort := [2] } s).canst 1).abort) ∧
    (let s := can 1 { parts := [(127, { bytes := [], next := 0, at_ := 5 })] } up
     ((s.canst 1).parts.find? fun e => e.1 == (127 : BitVec 7).toNat) = some (127, { bytes := [], next := 0, at_ := 5 })) ∧
    (canHalted (frozen up) = true ∧ canOnline up 0 = false) := by decide +kernel

def saf (f : SafState → SafState) (s : State) : State := { s with saf := f s.saf }

theorem witness_SafetyPartition :
    (up.saf.state = safUnconfigured ∧ safAlive (held up) = false) ∧
    (let s := saf (fun x => { x with state := safUnconfirmed }) up
     safAlive s = true ∧ s.saf.state = safUnconfirmed) ∧
    (let s := saf (fun x => { x with state := safRunning, initDone := true, call := some .cycle }) up
     safAlive s = true ∧ s.saf.state = safRunning ∧ s.saf.initDone = true ∧ s.saf.call.isSome = true ∧ s.saf.call = some .cycle) ∧
    (let s := saf (fun x => { x with state := safRunning, initDone := true }) { up with now := 3000000 }
     let T := ceilDiv (Nat.max s.now (s.saf.callAt + 1)) 1000000 * 1000000
     s.saf.call = none ∧ s.saf.served + 2000000 < T ∧ T ≤ (saf (fun x => { x with served := 1000000 }) s).saf.served + 2000000) ∧
    (let s := saf (fun x => { x with state := safRunning }) up
     s.saf.state = safRunning ∧ s.saf.initDone = false ∧ safActs s = true ∧ safActs (as roleReady s) = false) ∧
    (saf (fun x => { x with state := safStopped }) up).saf.state = safStopped ∧
    (let s := saf (fun x => { x with state := safRunning, conns := [(31, { sentAt := some 5 })] }) up
     (s.safConn 31).sentAt = some 5 ∧ safActs s = true ∧ (s.safConn 31).state ≠ 3) ∧
    (let s := saf (fun x => { x with inputs := [(7, { diffAt := some 5 })] }) up
     let s := (s.setObj 0x7347 1 [3]).setObj 0x7347 2 [4]
     (s.safInput 7).diffAt = some 5 ∧ safAlive s = true ∧ inputUsed s 7 = true) ∧
    (let s := field (fun f => { f with link := true, pulses := [31] }) ((((up.setObj 0x7340 1 [3]).setObj 0x7340 2 [4]).setObj 0x7340 3 [31]).setObj 0x7340 4 [31])
     s.field.pulses.contains 31 = true ∧ up.field.pulses.contains 0 = false ∧ inputUsed s 0 = true ∧ inputPar s 0 3 = 31 ∧
       pulseBad s 31 0 (inputPar s 0 1) (inputPar s 0 3) = false ∧ pulseBad s 31 0 (inputPar s 0 2) (inputPar s 0 4) = false ∧
       pulseBad (dchan 3 { mode := 4, raw := true } s) 31 0 3 31 = true) ∧
    (let s := saf (fun x => { x with stos := [(3, { on := true })], axes := [(7, { state := axRun })] }) ((up.setObj 0x7317 1 [1]).setObj 0x7317 2 [3])
     (s.sto 3).on = true ∧ axisPar s 7 1 ≠ 0 ∧ axisPar s 7 2 = 3 ∧ (s.safAxis 7).state = axRun) := by decide +kernel

def nv (f : NvState → NvState) (s : State) : State := { s with nv := f s.nv }

theorem witness_Storage :
    (up.boot.held = false ∧ up.nv.recalling = false ∧ (nv (fun n => { n with recalling := true }) up).nv.recalling = true ∧ up.nv.posted = []) ∧
    ((jrn (fun j => { j with phase := 1 }) up).jrn.phase = 1 ∧ up.jrn.phase ≠ 1) ∧
    ((nv (fun n => { n with posted := [.win 0 [1]] }) up).nv.posted = .win 0 [1] :: []) ∧
    (let s := nv (fun n => { n with posted := [.record 5 0 [1] none] }) up
     s.nv.saving = none ∧ s.nv.posted = .record 5 0 [1] none :: [] ∧ keyBlocked s 5 = false) ∧
    MayRead up 4 NVM_SYNC ∧ up.nv.flash = none ∧
    ((nv (fun n => { n with flash := some (.erase 1023) }) up).nv.flash = some (.erase 1023) ∧ up.boot.updWork = none ∧
      (nv (fun n => { n with flash := some (.program 0 [1]) }) up).nv.flash = some (.program 0 [1])) := by decide +kernel

def rtc (f : RtcState → RtcState) (s : State) : State := { s with rtc := f s.rtc }

theorem witness_Clock :
    (up.rtc.almEn = false ∧ up.rtc.armed = none ∧ (rtc (fun r => { r with armed := some (5, false) }) up).rtc.armed = some (5, false) ∧
      (rtc (fun r => { r with armed := some (5, true) }) up).rtc.armed = some (5, true)) ∧
    (let s := rtc (fun r => { r with almEn := true, alarm := 1 }) up
     s.rtc.almEn = true ∧ s.rtc.armed = none ∧ s.rtc.onbat = false ∧ s.boot.held = false ∧ s.rtc.alarm ≤ (s.rtc.sec + 1) % 2 ^ 40 ∧
       (s.rtc.sec + 1) % 2 ^ 40 < (rtc (fun r => { r with alarm := 2 }) s).rtc.alarm) ∧
    (2349 < 2350 ∧ 2450 < 2451 ∧ 1999 < 2000 ∧ 2000 ≤ 2000) ∧
    ((∀ a ∈ [RTC_SUBSEC, RTC_CAL1], isRtcFive (toWord a).toNat = true ∧ MayRead up 4 (toWord a).toNat) ∧ (up.shadow 4).frozen = false ∧
      ((rtc (fun r => { r with shadows := [(4, { frozen := true })] }) up).shadow 4).frozen = true) ∧
    (let s := fld PHR_PTPSTAT_STATE 3 (fld PHR_PTPCTRL_MODE 1 (up.setObj 0x1E00 8 [1]))
     s.rtc.sec ≤ 1 + 1 ∧ 1 ≤ s.rtc.sec + 1 ∧ s.objNum 0x1E00 8 = 1 ∧ s.fld PHR_PTPCTRL_MODE = 1 ∧ s.fld PHR_PTPSTAT_STATE = 3 ∧
       s.rtc.sec + 2 ≤ 2 ∧ s.now + 30000 ≤ rtcNext s ∧ 0 + 2 ≤ (rtc (fun r => { r with sec := 2 }) s).rtc.sec) := by decide +kernel

theorem witness_WatchdogAndRecorder :
    (({ up with wdg := { up.wdg with armed := some 5 } }).wdg.armed = some 5 ∧ halted up = false) ∧
    (halted (frozen up) = true ∧ ({ up with wdg := { up.wdg with paused := true } }).wdg.paused = true ∧ up.wdg.paused = false) ∧
    ((fld WDG_CTRL_CLKSEL 1 up).flag WDG_CTRL_CLKSEL = true ∧ (fld WDG_CTRL_CLKSEL 0 up).flag WDG_CTRL_CLKSEL = false) ∧
    (up.nv.prot ≠ 3 ∧ (up.nv.ctrs.get {} ctrOpSec).low < 2 ^ 32 ∧ (up.nv.ctrs.get {} ctrOpSec).high + 1 < 2 ^ 31 ∧
      (nv (fun n => { n with prot := 3 }) up).nv.prot = 3) ∧
    (recFrozen up = false ∧ recFrozen (fld REC_CTRL_RFREEZE 1 up) = true ∧ up.rcd.queue = []) ∧
    (up.rcd.indexing = true ∧ up.nv.ready = true ∧ up.frz.frozen = false) := by decide +kernel

def frz (f : FrzState → FrzState) (s : State) : State := { s with frz := f s.frz }

theorem witness_FreezeAndTap :
    (up.boot.held = false ∧ up.frz.frozen = false ∧ up.frz.request = none ∧ (frz (fun f => { f with strap := true }) up).frz.strap = true ∧
      up.nv.ready = true ∧ up.frz.strap = false ∧ (held up).boot.held = true) ∧
    ((frz (fun f => { f with request := some 1 }) up).frz.request.isSome = true ∧ halted up = false) ∧
    (let s := fld FRZ_CTRL_LIMIT 255 (frozen up)
     s.frz.frozen = true ∧ s.frz.extested = false ∧ s.hsb.unit = 0 ∧ s.fld FRZ_CTRL_LIMIT ≠ 0 ∧ s.frz.pinLow = false ∧ s.frz.limitRun = false ∧
       (frz (fun f => { f with pinLow := true }) s).frz.pinLow = true ∧ (frz (fun f => { f with limitRun := true }) s).frz.limitRun = true) ∧
    ((frz (fun f => { f with released := true }) up).frz.released = true ∧ up.hsb.unit = 0) ∧
    (let s := frz (fun f => { f with fzaddr := 0x20FFFFFC }) (frozen up)
     s.frz.frozen = true ∧ s.frz.fzaddr / 2 ^ 32 ≠ 6 ∧ tapRead s 0 0x20FFFFFC = some (0, false) ∧
       tapRead (frz (fun f => { f with fzaddr := 10 * 2 ^ 32 }) s) 10 0 = none) := by decide +kernel

/-! ### Witnesses: from reset to firmware. The image's signature is with the private key 1 and the nonce 1 -/

theorem getMany_cons {α : Type} [DecidableEq α] (t : Tbl α) (d : α) (k n : Nat) :
    t.getMany d k (n + 1) = t.get d k :: t.getMany d (k + 1) n := by
  simp [Tbl.getMany, List.range_succ_eq_map, Function.comp_def, Nat.add_assoc, Nat.add_comm 1]

theorem getMany_setMany {α : Type} [DecidableEq α] (vs : List α) (t : Tbl α) (d : α) (k : Nat) :
    (t.setMany d k vs).getMany d k vs.length = vs := by
  induction vs generalizing t k with
  | nil => rfl
  | cons v vs ih =>
    rw [List.length_cons, getMany_cons]
    unfold Tbl.setMany
    rw [Tbl.get_setMany_ne _ _ _ _ _ (by omega), Tbl.get_set_same, ih]

theorem getMany_unlisted {α : Type} [DecidableEq α] (vs : List α) (d : α) (k j n : Nat) (h : k + vs.length ≤ j) :
    (Tbl.setMany [] d k vs).getMany d j n = List.replicate n d := by
  refine List.ext_getElem (by simp [Tbl.getMany]) fun i _ _ => ?_
  simp only [Tbl.getMany, List.getElem_map, List.getElem_range, List.getElem_replicate]
  rw [Tbl.get_setMany_ne _ _ _ _ _ (by omega)]
  rfl

/-- An image's key, the curve's base point. -/
def imgKey : List Byte :=
  toBE 32 0x6B17D1F2E12C4247F8BCE6E563A440F277037D812DEB33A0F4A13945D898C296
    ++ toBE 32 0x4FE342E2FE1A7F9B8EE7EB4A7C0F9E162BCE33576B315ECECBB6406837BF51F5
/-- The image's signature. -/
def imgSig : List Byte :=
  toBE 32 0x6b17d1f2e12c4247f8bce6e563a440f277037d812deb33a0f4a13945d898c296
    ++ toBE 32 0xaa5d2521d9bb07c6f18c93fc44bb2353f0db4bb84b1ffdbbde1e4e3208dbf3eb
/-- The SHA-256 of the image. -/
def imgHash : List Byte := toBE 32 0x3f45532ef88ec57ef8cfad16e116e26179d7ce371d34ca1ae97d14ec30433155
/-- The image's header, R723: 8,192 bytes of which 4,096 are loaded. -/
def imgHdr : List Byte :=
  toLE 4 0x5A544657 ++ toLE 2 1 ++ List.replicate 10 0 ++ toLE 4 8192 ++ List.replicate 4 0 ++ toLE 4 4096 ++ List.replicate 4 0
    ++ imgKey ++ imgSig ++ List.replicate 3936 0

/-- A module with that image in its flash and its key's hash in the fuses. -/
def withImage (img : List Byte) (s : State) : State := { s with
  mem := { s.mem with flash := Tbl.setMany [] 0xFF fwRegion img },
  boot := { s.boot with fuse := toBE 32 0xd875db7def232236aec738c6b0bb3e80142f5d0fd8f4df24fed6eef5cbb50d9f } }

def imaged : State → State := withImage imgHdr

theorem imgHdr_length : imgHdr.length = 4096 := by decide +kernel

theorem flashBytes_eq (s : State) (off n : Nat) : flashBytes s off n = s.mem.flash.getMany 0xFF off n := rfl

theorem flash_header (img : List Byte) (s : State) (n : Nat) (h : img.length = n) : flashBytes (withImage img s) fwRegion n = img := by
  rw [flashBytes_eq, ← h]
  exact getMany_setMany img [] 0xFF fwRegion

theorem flash_body (img : List Byte) (s : State) (k n : Nat) (h : img.length = k) :
    flashBytes (withImage img s) (fwRegion + k) n = List.replicate n 0xFF := by
  rw [flashBytes_eq, ← h]
  exact getMany_unlisted img 0xFF fwRegion _ n (Nat.le_refl _)

theorem key_hash : sha256 imgKey = toBE 32 0xd875db7def232236aec738c6b0bb3e80142f5d0fd8f4df24fed6eef5cbb50d9f := by decide +kernel

theorem header_ok (s : State) : headerReason (imaged s) imgHdr = none := by
  have h1 : slice imgHdr 32 64 = imgKey := by decide +kernel
  have h2 : ¬ (fromLE (slice imgHdr 0 4) ≠ 0x5A544657 ∨ fromLE (slice imgHdr 4 2) ≠ 1 ∨ fromLE (slice imgHdr 16 4) < 8192
      ∨ 8388608 < fromLE (slice imgHdr 16 4) ∨ fromLE (slice imgHdr 16 4) % 4096 ≠ 0 ∨ fromLE (slice imgHdr 22 2) ≠ 0
      ∨ fromLE (slice imgHdr 28 4) ≠ 0 ∨ fromLE (slice imgHdr 24 4) < 4096 ∨ 3145728 < fromLE (slice imgHdr 24 4)
      ∨ fromLE (slice imgHdr 24 4) % 4096 ≠ 0 ∨ fromLE (slice imgHdr 16 4) - 4096 < fromLE (slice imgHdr 24 4)
      ∨ (slice imgHdr 160 3936).any (fun b => b != 0)) := by decide +kernel
  have h3 : fromLE (slice imgHdr 12 4) = 0 := by decide +kernel
  simp only [headerReason, h1, key_hash, h3]
  rw [if_neg h2, if_neg (by simp [imaged, withImage]), if_neg (by omega)]

theorem image_hash :
    sha256 (imgHdr.take 96 ++ List.replicate 64 0 ++ imgHdr.drop 160 ++ List.replicate 4096 0xFF) = imgHash := by decide +kernel

theorem image_signed : ecdsaVerify imgKey imgSig imgHash = true := by decide +kernel

theorem imageReason_of (s : State) (hd body : List Byte) (n : Nat) (hf : flashBytes s fwRegion 4096 = hd) (hh : headerReason s hd = none)
    (hl : fromLE (slice hd 16 4) - 4096 = n) (hb : flashBytes s (fwRegion + 4096) n = body)
    (hv : ecdsaVerify (slice hd 32 64) (slice hd 96 64) (sha256 (hd.take 96 ++ List.replicate 64 0 ++ hd.drop 160 ++ body)) = true) :
    imageReason s = none := by
  unfold imageReason
  simp only [hf, hh, hl, hb, hv, if_true]

theorem image_checks : ecdsaVerify (slice imgHdr 32 64) (slice imgHdr 96 64)
    (sha256 (imgHdr.take 96 ++ List.replicate 64 0 ++ imgHdr.drop 160 ++ List.replicate 4096 0xFF)) = true := by
  rw [image_hash, show slice imgHdr 32 64 = imgKey by decide +kernel, show slice imgHdr 96 64 = imgSig by decide +kernel, image_signed]

theorem image_length : fromLE (slice imgHdr 16 4) - 4096 = 4096 := by decide +kernel

/-- An image that verifies (R724). -/
theorem image_verifies (s : State) : imageReason (imaged s) = none :=
  imageReason_of (imaged s) imgHdr (List.replicate 4096 0xFF) 4096 (flash_header imgHdr s 4096 imgHdr_length) (header_ok s) image_length
    (flash_body imgHdr s 4096 4096 imgHdr_length) image_checks

theorem witness_Startup :
    (State.reset.boot.held = true ∧ State.reset.boot.thermal = false ∧ State.reset.boot.sources ≠ 0 ∧ up.boot.held = false) ∧
    (let s := imaged (boot (fun b => { b with stage := .rom }) { up with jrn := { up.jrn with phase := 2 } })
     halted s = false ∧ s.boot.stage = .rom ∧ s.boot.stuck = false ∧ s.jrn.phase = 2 ∧
       s.nv.incomplete = false ∧ s.boot.relReq = false ∧ s.boot.ldrReq = false ∧ s.nv.begun = [] ∧
       s.boot.resident = false) ∧
    (halted (held up) = true ∧ up.jrn.phase ≠ 2) ∧
    (let s := boot (fun b => { b with stage := .loader }) (as roleStarting up)
     halted s = false ∧ s.boot.stage = .loader ∧ s.boot.resident = false ∧ s.nv.recs = [] ∧ s.paired = true) ∧
    (let s := boot (fun b => { b with upd := .verifying }) up
     s.boot.upd = .verifying ∧ s.boot.updPartner = false ∧ s.boot.held = false ∧ s.frz.frozen = false ∧ imageReason s = some 1) := by
  decide +kernel

/-- The two clauses of Startup on an image that verifies. -/
theorem witness_Startup_verified :
    imageReason (imaged (boot (fun b => { b with stage := .rom }) { up with jrn := { up.jrn with phase := 2 } })) = none ∧
    imageReason (imaged (boot (fun b => { b with upd := .verifying }) up)) = none :=
  ⟨image_verifies _, image_verifies _⟩
/-! ### Commands and instructions on fixed values -/

/-- General register `r` of the supervisor core after an instruction, and whether EC and IV rose. -/
def after (ws : List Word) (i : Instr) (r : Nat) : Option Nat :=
  match exec i (codeAt ws regsUp) with
  | .next t => some ((t.unit 4).g.getD r 0).toNat
  | _ => none

/-- R243: sums wrap; the most negative number over −1 wraps; a division by 0 gives 0, a remainder the dividend. -/
theorem test_integer_edges :
    after (enc 0x010 2 2 [(0, 2), (9, 0xFFFFFFFF)]) (.add (.core 4)) 2 = some 9 ∧
    after (enc 0x015 3 2 [(0, 0), (9, 0x80000000), (9, 0xFFFFFFFF)]) (.div (.core 4)) 0 = some 0x80000000 ∧
    after (enc 0x015 2 2 [(0, 2), (9, 0)]) (.div (.core 4)) 2 = some 0 ∧
    after (enc 0x017 2 2 [(0, 2), (9, 0)]) (.rem (.core 4)) 2 = some 10 := by decide +kernel

/-- A division rounds toward zero and a remainder has the dividend's sign (R243). -/
theorem test_division_truncates :
    after (enc 0x015 3 2 [(0, 0), (9, 0xFFFFFFF9), (9, 2)]) (.div (.core 4)) 0 = some 0xFFFFFFFD ∧
    after (enc 0x017 3 2 [(0, 0), (9, 0xFFFFFFF9), (9, 2)]) (.rem (.core 4)) 0 = some 0xFFFFFFFF := by decide +kernel

/-- The pc moves past the instruction's words (R204, R228). -/
theorem test_pc_moves : (match exec (.add (.core 4)) (codeAt (enc 0x010 2 2 [(0, 2), (9, 1)]) regsUp) with
    | .next t => decide ((t.unit 4).pc = 12) | _ => false) = true := by decide +kernel

/-- Another instruction's words: the command is not one that the unit stands at. -/
theorem test_other_words : (match exec (.sub (.core 4)) (codeAt (enc 0x010 2 2 [(0, 2), (9, 1)]) regsUp) with
    | .next t => decide ((t.unit 4).g.getD 2 0 = 10#32) | _ => false) = true := by decide +kernel

/-- An empty queue lets a nanosecond pass (log 4). -/
theorem test_idle : (match step up with | .next t => decide (t.now = up.now + 1) | _ => false) = true := by decide +kernel

/-- A read-only register keeps its value, and an address outside every block of its privilege does not stop the machine (R6, R7). -/
theorem test_read_only : (match exec (.registerWrite 4 (toWord PHR_PTPSTAT) 0xFFFFFFFF#32) up with
    | .next t => decide (t.reg PHR_PTPSTAT = up.reg PHR_PTPSTAT) | _ => false) = true := by decide +kernel

/-- SHA-256 of the three bytes of abc, as the function's own standard gives it. -/
theorem test_sha256 : sha256 [0x61, 0x62, 0x63] = toBE 32 0xba7816bf8f01cfea414140de5dae2223b00361a396177a9cb410ff61f20015ad := by
  decide +kernel

/-- CRC-32C of the nine digits, the code's own check value. -/
theorem test_crc32c : crc32c [0x31, 0x32, 0x33, 0x34, 0x35, 0x36, 0x37, 0x38, 0x39] = 0xE3069283 := by decide +kernel

/-- No row of the table gives bits: no word spells a command. -/
theorem test_no_bits (s : State) : decodeTableWord 32 0 = none ∧ s.withFetchWord 32 0 = s := ⟨rfl, rfl⟩
/-! ### Commands that are not of their row, one for each check -/

/-- A request that asks for nothing in the dictionary. -/
def noReq : JReq := req 0 0 0 []
def long : PFrame := { data := List.replicate 1473 0#8 }

theorem smoke_register_rows : ([.sysIslrst 4 0x10, .tskGctrlStart 4 0, .tskGctrlStop 4 1, .tskWdctrlEnable 4 0, .gzCmdEqclr 4 0,
    .gzCmdAudreq 4 0, .segStgnumValid 4 0, .segStgnumWithdraw 4 0x80000000#32, .segStgctrlCommit 4 0, .segStgctrlAbort 4 1,
    .laneClctrlFlush 4 0 1, .phrCtrlEnum 4 1, .lpeMaxlatClear 4 1, .trcCmdArm 4 0 2, .trcCmdStop 4 0 1, .trcCmdForce 4 0 1,
    .hsbCmdSwitch 4 2, .hsbCmdResync 4 1, .hsbCmdFail 4 1, .jrnDoneSend 4 2] : List Instr).all (fun i => !i.wf) = true := by
  decide +kernel

theorem smoke_register_rows_field : ([.dioFcmdRelease 4 1, .dioFcmdSafe 4 2, .canEnable 4 0 2, .canRecov 4 0 1, .canTxRequest 4 0 0 1,
    .canTxAbort 4 0 0 1, .canRxpop 4 0 2, .canFilterEnable 4 0 0 1, .safCmdSreset 4 2, .flashErase 4 2, .flashProgram 4 1, .rtcArm 4 2,
    .rtcBkcommit 4 1, .rtcShadowCapture 4 0xF0100010#32, .wdgKeyArm 4 0xC3A5, .wdgKeyService 4 0x5A3C, .wdgKeyBad 4 0x5A3C,
    .frzCmdFreeze 4 2] : List Instr).all (fun i => !i.wf) = true := by decide +kernel

theorem smoke_object_rows : ([.programWarmStart, .programColdStart, .programStopCommand, .forceRecord, .removeAllForces,
    .clearEquivalenceFault, .requestAudit, .editRecord, .stagingRecord, .stagingCommit, .stagingAbort, .traceArm, .traceStop, .traceForce,
    .traceReadData, .peakTemperatureReset, .plannedSwitchover, .resynchronise, .declareFailed, .unlock, .calibrationClear, .fieldRelease,
    .zeroTrim, .spanTrim, .trimButtonsEnable, .recoverFromBusOff] : List (JReq → Instr)).all (fun i => !(i noReq).wf) = true := by
  decide +kernel

theorem smoke_object_rows_system : ([.safetyReset, .confirmCheckValue, .safetyProgramWrite, .axisReset, .blockProtection, .rtcSetTime,
    .backupMemoryWrite, .backupMemoryClear, .freezeNow, .logClear, .nextRecord, .updateBegin, .updateActivate, .updateAbort, .updateBlock,
    .read, .write, .gwrite, .describe, .readtime, .open, .auth, .close] : List (JReq → Instr)).all (fun i => !(i noReq).wf) = true := by
  decide +kernel

/-- Each part of a request that names an object: its service, its index below and above, its subindex, its value. -/
theorem smoke_requests : ([.programWarmStart (req 1 0x4021 2 [1]), .programWarmStart (req 2 0x4020 2 [1]),
    .programWarmStart (req 2 0x4021 3 [1]), .programWarmStart (req 2 0x4021 2 [2]), .traceArm (req 2 0x7018 0x0D [1]),
    .zeroTrim (req 2 0x7148 0x0E []), .axisReset (req 2 0x7318 0x0F [1]), .recoverFromBusOff (req 2 0x7202 0x0A [1])] : List Instr).all
      (fun i => !i.wf) = true ∧
    (Instr.programWarmStart (req 2 0x4021 2 [1])).wf = true ∧ (Instr.traceArm (req 2 0x7017 0x0D [1])).wf = true := by decide +kernel

theorem smoke_frames : ([.probeCopyReturn 0 false true long, .copyReturn 0 false true long, .stationFrame 0 {} long [],
    .stationFrame 0 { pos := 0 } {} [], .stationEnm 0 {} long, .stationEnm 0 { pos := 0 } {}, .ringFrameForward 0 false true (.phider long),
    .ringFrameForward 0 false true (.ptp (List.replicate 1501 0#8) 0),
    .enmCopyReturn 0 long, .stationLatch 0 1 (List.replicate 1473 0#8), .stationLatch 0 0 [], .stationStrike 0 0,
    .holdTimeExpiry 0 0] : List Instr).all (fun i => !i.wf) = true := by decide +kernel

/-- A CAN frame's identifier, its rate switch and remote bits, and its length (R579). -/
theorem smoke_can_frames : ([{ id := 2048 }, { brs := true }, { esi := true }, { fdf := true, rtr := true }, { dlc := 1 },
    { rtr := true, dlc := 1, data := [0] }, { fdf := true, dlc := 9, data := List.replicate 9 0#8 }] : List CanFrame).all
      (fun f => !(Instr.canFrameReceived 0 f).wf) = true ∧
    (Instr.canFrameReceived 0 { fdf := true, dlc := 9, data := List.replicate 12 0#8 }).wf = true := by decide +kernel

theorem smoke_lists : ([.ledgerUpdate 0 [1, 2, 3], .temperatureRead [1, 2, 3] 0, .thermalResetRelease [1, 2, 3], .paceRead [1, 2, 3, 4, 5],
    .liveBitClear true 8 0, .fullCopyChunk 0xFFFFFFFF [0, 0], .loopRecordWrite (.jurno (req 2 0x6001 1 [0, 0, 0, 0])) 0 0 0,
    .loopRecordWrite (.jurno (req 2 0x6000 1 [0, 0, 0])) 0 0 0] : List Instr).all (fun i => !i.wf) = true := by decide +kernel
end Sys2Proof.Tests

end
end

section
/-!
PROOF. EvcRaise: what a write of EVC_RAISE does (R41), from what a latched pulse leaves (R37) and from the dictionary having no object
in that register.
-/
namespace Sys2Proof.Machine

/-- A field of at least one bit, set to true, reads as true. -/
theorem flag_setFlag_true (s : State) (f : Fld) (h : f.lo ≤ f.hi) (hh : f.hi < 32) : (s.setFlag f true).flag f = true := by
  have hw : 1 < 2 ^ (f.hi + 1 - f.lo) := Nat.one_lt_two_pow (by omega)
  simp [State.flag, State.setFlag, fld_setFld_same s f _ h hh, b2n, Nat.mod_eq_of_lt hw]

/-- A register other than the flag's reads as before. -/
theorem reg_setFlag_ne (s : State) (f : Fld) (b : Bool) (a : Nat) (h : a ≠ f.addr) : (s.setFlag f b).reg a = s.reg a :=
  reg_setFld_ne s f a (b2n b) h

/-- A unit executes only in a module that is not held in reset. -/
theorem not_held_of_unitLive (s : State) (u : Nat) (h : unitLive s u = true) : s.boot.held = false := by
  simp only [unitLive, halted, Bool.and_eq_true, Bool.not_eq_true', Bool.or_eq_false_iff] at h
  exact h.1.1.1.1

/-- Out of reset a pulse adds its destinations to those for which its source is latched, whether or not it is merged (R37). -/
theorem latched_latch_same (s : State) (n dest : Nat) (h : s.boot.held = false) :
    (s.latch n dest).evc.latched.get 0 n = s.evc.latched.get 0 n ||| dest := by
  simp [State.latch, h]

/-- A write of a register in which no object has its home tells the partner nothing (R451). The words of a loop record are
told all the same. -/
theorem shareRegister_of_no_objects (s t : State) (a : Nat) (hl : ¬ (LPE_RWORD 0 ≤ a ∧ a < LPE_RWORD 32))
    (ho : objectsAt a = []) : shareRegister s t a = t := by
  simp [shareRegister, hl, ho]

/-- No dictionary object has its home in EVC_RAISE. -/
theorem objectsAt_evcRaise : objectsAt EVC_RAISE = [] := by decide +kernel

/-- A permitted write of EVC_RAISE is the raise alone. -/
theorem exec_evcRaise (core : CoreId) (v : Word) (s : State) (h : MayWrite s core EVC_RAISE) :
    exec (.evcRaise core v) s = .next (raiseWrite s v) := by
  have hw : blockWrite s (privOf s core.val) EVC_RAISE v = some (raiseWrite s v) := rfl
  have hc := coreStore_permitted s _ core EVC_RAISE v h (by decide +kernel) hw
  rw [shareRegister_of_no_objects _ _ _ (by decide) objectsAt_evcRaise] at hc
  exact congrArg Host.Outcome.next hc

/-- Sources 96 to 127 are the software events: their condition occurs. -/
theorem raiseWrite_software (s : State) (v : Word) (h : 96 ≤ wbits v 6 0) : raiseWrite s v = s.raise (wbits v 6 0) :=
  if_pos h

/-- Any other source sets BADRAISE. -/
theorem raiseWrite_other (s : State) (v : Word) (h : wbits v 6 0 < 96) : raiseWrite s v = s.setFlag EVC_STAT_BADRAISE true :=
  if_neg (Nat.not_le.2 h)

/-- Settles O6: a permitted write is the raise alone, split at the first software event. -/
theorem evcRaise : Obligations.EvcRaise := by
  intro core v s hmay
  have hexec := exec_evcRaise core v s hmay
  refine ⟨fun hsoft => ?_, fun hother => ?_⟩
  · rw [raiseWrite_software s v hsoft] at hexec
    have hlatched := latched_latch_same s (wbits v 6 0) 0x4000 (not_held_of_unitLive s core.val hmay.1)
    exact ⟨hexec, _, hexec, hlatched, by simp, by simp⟩
  · rw [raiseWrite_other s v hother] at hexec
    exact ⟨_, hexec, flag_setFlag_true s EVC_STAT_BADRAISE (by decide) (by decide), by simp, by simp, by simp,
      fun a ha => reg_setFlag_ne s EVC_STAT_BADRAISE true a ha⟩

end Sys2Proof.Machine
end

section
/-!
SUPPORT. Fields: what a field reads as after a write of its register's other bits.
-/
namespace Sys2Proof.Machine

/-- The model's bit of a number is the library's. -/
theorem bit_eq_testBit (n i : Nat) : bit n i = n.testBit i := by
  rw [Nat.testBit_eq_decide_div_mod_eq, bit, Nat.shiftRight_eq_div_pow]
  rfl

theorem testBit_bits (n hi lo i : Nat) : (bits n hi lo).testBit i = (decide (i < hi + 1 - lo) && n.testBit (lo + i)) := by
  simp [bits, Nat.testBit_mod_two_pow, Nat.testBit_shiftRight]

/-- Outside the bits [hi:lo] a number keeps its bits when those are replaced. -/
theorem testBit_putBits_outside (n hi lo v i : Nat) (h : lo ≤ hi) (hi' : i < lo ∨ hi < i) :
    (putBits n hi lo v).testBit i = n.testBit i := by
  obtain ⟨k, hk⟩ : ∃ k, hi + 1 = lo + k := ⟨hi + 1 - lo, by omega⟩
  have hput : putBits n hi lo v = 2 ^ lo * (2 ^ k * n >>> (hi + 1) + v % 2 ^ k) + n % 2 ^ lo := by
    simp only [putBits, hk, Nat.add_sub_cancel_left, Nat.shiftLeft_eq]
    ring
  rw [hput, Nat.testBit_two_pow_mul_add _ (Nat.mod_lt _ (Nat.two_pow_pos lo))]
  rcases hi' with hlow | hhigh
  · simp [hlow, Nat.testBit_mod_two_pow]
  · rw [if_neg (by omega), Nat.testBit_two_pow_mul_add _ (Nat.mod_lt _ (Nat.two_pow_pos k)), if_neg (by omega),
      Nat.testBit_shiftRight]
    congr 1
    omega

/-- A field keeps its number when bits below or above it are replaced. -/
theorem bits_putBits_apart (n hi lo v hi' lo' : Nat) (h : lo ≤ hi) (hap : hi' < lo ∨ hi < lo') :
    bits (putBits n hi lo v) hi' lo' = bits n hi' lo' := by
  refine Nat.eq_of_testBit_eq fun i => ?_
  rw [testBit_bits, testBit_bits]
  by_cases hin : i < hi' + 1 - lo'
  · rw [testBit_putBits_outside n hi lo v (lo' + i) h (by omega)]
  · simp [hin]

/-- Two fields of one register have no bit in common. -/
abbrev Fld.Apart (f g : Fld) : Prop := g.addr = f.addr ∧ f.lo ≤ f.hi ∧ f.hi < 32 ∧ (g.hi < f.lo ∨ f.hi < g.lo)

/-- A field reads as before after a write of another field of its register. -/
theorem fld_setFld_apart (s : State) (f g : Fld) (n : Nat) (h : f.Apart g) : (s.setFld f n).fld g = s.fld g := by
  obtain ⟨haddr, hle, hlt, hap⟩ := h
  unfold State.fld State.setFld
  rw [haddr, reg_setReg_same, wbits, toWord, BitVec.toNat_ofNat, Nat.mod_eq_of_lt (putBits_lt _ _ _ _ hle hlt (BitVec.isLt _)),
    bits_putBits_apart _ _ _ _ _ _ hle hap, wbits]

theorem fld_setFlag_apart (s : State) (f g : Fld) (b : Bool) (h : f.Apart g) : (s.setFlag f b).fld g = s.fld g :=
  fld_setFld_apart s f g (b2n b) h

theorem flag_setFlag_apart (s : State) (f g : Fld) (b : Bool) (h : f.Apart g) : (s.setFlag f b).flag g = s.flag g :=
  congrArg (· != 0) (fld_setFlag_apart s f g b h)

/-- A field of at least one bit reads as the truth value written to it. -/
theorem flag_setFlag_same (s : State) (f : Fld) (b : Bool) (h : f.lo ≤ f.hi) (hh : f.hi < 32) : (s.setFlag f b).flag f = b := by
  cases b with
  | true => exact flag_setFlag_true s f h hh
  | false => simp [State.flag, State.setFlag, fld_setFld_same s f _ h hh, b2n]

end Sys2Proof.Machine
end

section
/-!
SUPPORT. StopView: what a program stop has said of itself, which nothing that it then does changes: its cause, its task, its instant,
that the program does not run; and the registers of SYS and TSK, the missing tasks of the watchdog among them (R77, R80, R86).
-/
namespace Sys2Proof.Machine

/-- Where the block after TSK begins. -/
def tskBlockEnd : Nat := 0xF0020000

/-- Whether the program runs; the cause, task and instant of its last stop; the registers of SYS and TSK. -/
def State.stopView (s : State) : Bool × Nat × Nat × Nat × (Nat → Word) :=
  (s.running, s.tsk.cause, s.tsk.stopTask, s.tsk.stopTime, fun a => if a < tskBlockEnd then s.reg a else 0)

theorem stopView_eq_iff (s t : State) : t.stopView = s.stopView ↔
    t.running = s.running ∧ t.tsk.cause = s.tsk.cause ∧ t.tsk.stopTask = s.tsk.stopTask ∧ t.tsk.stopTime = s.tsk.stopTime ∧
      ∀ a < tskBlockEnd, t.reg a = s.reg a := by
  have hregs : ((fun a => if a < tskBlockEnd then t.reg a else 0) = fun a => if a < tskBlockEnd then s.reg a else 0) ↔
      ∀ a < tskBlockEnd, t.reg a = s.reg a := by
    refine ⟨fun h a ha => ?_, fun h => funext fun a => ?_⟩
    · simpa [ha] using congrFun h a
    · split
      · exact h a ‹_›
      · rfl
  simp only [State.stopView, Prod.mk.injEq, hregs]

/-- An update that leaves the tasks' state and the registers leaves the view. -/
theorem stopView_congr {s t : State} (htsk : t.tsk = s.tsk) (hregs : t.regs = s.regs) : t.stopView = s.stopView := by
  simp only [State.stopView, State.running, State.reg, htsk, hregs]

/-! ### Plain updates -/

@[simp] theorem stopView_ite (c : Prop) [Decidable c] (s t : State) :
    (if c then s else t).stopView = if c then s.stopView else t.stopView := apply_ite _ _ _ _

@[simp] theorem foldl_stopView {α : Type} (xs : List α) (f : State → α → State) (hf : ∀ s x, (f s x).stopView = s.stopView)
    (s : State) : (xs.foldl f s).stopView = s.stopView := by
  induction xs generalizing s with
  | nil => rfl
  | cons x xs ih => rw [List.foldl_cons, ih, hf]

theorem setReg_stopView (s : State) (a : Nat) (w : Word) (h : tskBlockEnd ≤ a) : (s.setReg a w).stopView = s.stopView :=
  (stopView_eq_iff s _).2 ⟨rfl, rfl, rfl, rfl, fun b hb => reg_setReg_ne s a b w (by omega)⟩

theorem setFld_stopView (s : State) (f : Fld) (n : Nat) (h : tskBlockEnd ≤ f.addr) : (s.setFld f n).stopView = s.stopView :=
  setReg_stopView s f.addr _ h

theorem setFlag_stopView (s : State) (f : Fld) (b : Bool) (h : tskBlockEnd ≤ f.addr) : (s.setFlag f b).stopView = s.stopView :=
  setReg_stopView s f.addr _ h

theorem count_stopView (s : State) (f : Fld) (limit n : Nat) (h : tskBlockEnd ≤ f.addr) :
    (s.count f limit n).stopView = s.stopView :=
  setReg_stopView s f.addr _ h

theorem count32_stopView (s : State) (a n : Nat) (h : tskBlockEnd ≤ a) : (s.count32 a n).stopView = s.stopView :=
  setReg_stopView s a _ h

@[simp] theorem modTask_stopView (s : State) (k : Nat) (f : TaskSt → TaskSt) : (s.modTask k f).stopView = s.stopView :=
  (rfl)
@[simp] theorem fieldCmd_stopView (s : State) (c : FieldCmd) : (fieldCmd s c).stopView = s.stopView :=
  stopView_congr rfl rfl
@[simp] theorem setLoop_stopView (s : State) (n : Nat) (l : LoopSt) : (s.setLoop n l).stopView = s.stopView :=
  stopView_congr rfl rfl
@[simp] theorem modLoop_stopView (s : State) (n : Nat) (f : LoopSt → LoopSt) : (s.modLoop n f).stopView = s.stopView :=
  stopView_congr rfl rfl
@[simp] theorem setCanst_stopView (s : State) (m : Nat) (c : CanSt) : (s.setCanst m c).stopView = s.stopView :=
  stopView_congr rfl rfl
@[simp] theorem modAud_stopView (s : State) (k : Nat) (f : AuditSt → AuditSt) : (s.modAud k f).stopView = s.stopView :=
  stopView_congr rfl rfl
@[simp] theorem modImg_stopView (s : State) (f : Image → Image) : (s.modImg f).stopView = s.stopView :=
  stopView_congr rfl rfl
@[simp] theorem setStable_stopView (s : State) (g : Nat) (w : Word) : (s.setStable g w).stopView = s.stopView :=
  stopView_congr rfl rfl
@[simp] theorem setQueue_stopView (s : State) (r : Nat) (q : List Tx) : (s.setQueue r q).stopView = s.stopView :=
  stopView_congr rfl rfl
@[simp] theorem modLpe_stopView (s : State) (f : LpeState → LpeState) : (s.modLpe f).stopView = s.stopView :=
  stopView_congr rfl rfl
@[simp] theorem modNrg_stopView (s : State) (f : NrgState → NrgState) : (s.modNrg f).stopView = s.stopView :=
  stopView_congr rfl rfl
@[simp] theorem modGz_stopView (s : State) (f : Gauze → Gauze) : (s.modGz f).stopView = s.stopView :=
  stopView_congr rfl rfl

/-! ### Events, records, the pair, the rings, CAN -/

@[simp] theorem countMerge_stopView (s : State) (n : Nat) : (s.countMerge n).stopView = s.stopView := by
  rw [State.countMerge, setFld_stopView _ _ _ (by decide), count32_stopView _ _ _ (by decide)]

@[simp] theorem raise_stopView (s : State) (n : Nat) : (s.raise n).stopView = s.stopView := by
  unfold State.raise State.latch
  dsimp only
  split
  · rfl
  · split
    · exact countMerge_stopView s n
    · rfl

@[simp] theorem recLost_stopView (s : State) (sev : Nat) : (recLost s sev).stopView = s.stopView :=
  count32_stopView s _ 1 (by simp only [tskBlockEnd, REC_LOST]; omega)

/-- The recorder's state and the MRAM are no part of the view. -/
@[simp] theorem withRecorder_stopView (s : State) (m : Memories) (r : RecState) :
    ({ s with mem := m, rcd := r } : State).stopView = s.stopView :=
  stopView_congr rfl rfl

@[simp] theorem recStore_stopView (s : State) (e : RecEntry) : (recStore s e).1.stopView = s.stopView := by
  unfold recStore
  split
  · simp
  · split
    · simp
    · exact withRecorder_stopView s _ _

@[simp] theorem record_stopView (s : State) (code sev kind num : Nat) (words : List Nat) :
    (s.record code sev kind num words).stopView = s.stopView := by
  unfold State.record recordR
  split
  · exact (stopView_congr rfl rfl).trans (count32_stopView s REC_SUPPR 1 (by decide))
  · simp [apply_ite Prod.fst]

@[simp] theorem controlItem_stopView (s : State) (k kind : Nat) (item : List Byte) :
    (controlItem s k kind item).stopView = s.stopView := by
  unfold controlItem controlRecord countDelta
  split
  · rfl
  · rfl

@[simp] theorem cancelEntry_stopView (s : State) (tag : Nat) : (cancelEntry s tag).stopView = s.stopView :=
  stopView_congr rfl rfl
@[simp] theorem queueTx_stopView (s : State) (t : Tx) : (queueTx s t).stopView = s.stopView :=
  stopView_congr rfl rfl

@[simp] theorem cancelCyclic_stopView (s : State) (stops : Bool) : (cancelCyclic s stops).stopView = s.stopView := by
  simp [cancelCyclic]

@[simp] theorem queueStops_stopView (s : State) : (queueStops s).stopView = s.stopView := by
  simp [queueStops]

@[simp] theorem canFlag_stopView (s : State) (m b : Nat) : (canFlag s m b).stopView = s.stopView := by
  have hset : (s.setFlag ⟨CAN_EVT m, b, b⟩ true).stopView = s.stopView :=
    setFlag_stopView s _ true (by simp only [tskBlockEnd, CAN_EVT]; omega)
  unfold canFlag
  simp [hset]

@[simp] theorem canEnd_stopView (s : State) (m b r : Nat) : (canEnd s m b r).stopView = s.stopView := by
  have hreq (t : State) : (t.setFlag (CAN_TXCTRL_REQ m b) false).stopView = t.stopView :=
    setFlag_stopView t _ false (by simp only [tskBlockEnd, CAN_TXCTRL_REQ, CAN_TXCTRL, canBuf]; omega)
  have hres (t : State) : (canResult t m b r).stopView = t.stopView :=
    setFld_stopView t _ r (by simp only [tskBlockEnd, CAN_TXSTAT_RESULT, CAN_TXSTAT, canBuf]; omega)
  unfold canEnd
  rw [canFlag_stopView, hres, hreq, setCanst_stopView]

@[simp] theorem canProgramStop_stopView (s : State) : (canProgramStop s).stopView = s.stopView := by
  refine foldl_stopView _ _ (fun s e => ?_) s
  split
  · exact canEnd_stopView s e.1 e.2 4
  · rfl

/-! ### Evaluation and loops -/

@[simp] theorem applyPub_stopView (s : State) (p : Pub) : (applyPub s p).stopView = s.stopView := by
  simp [applyPub, publishLoop]

/-- Publications change the image and the loops; that none waits any more is no part of the view. -/
@[simp] theorem applyHeld_stopView (s : State) : (applyHeld s).stopView = s.stopView := by
  have hpubs : (s.tsk.held.foldl applyPub s).stopView = s.stopView := by simp
  obtain ⟨-, -, -, -, hregs⟩ := (stopView_eq_iff _ _).1 hpubs
  exact (stopView_eq_iff _ _).2 ⟨rfl, rfl, rfl, rfl, hregs⟩

@[simp] theorem haltLoops_stopView (s : State) : (haltLoops s).stopView = s.stopView := by
  simp [haltLoops]

@[simp] theorem replan_stopView (s : State) : (replan s).stopView = s.stopView :=
  foldl_stopView _ _ (fun s i => setFld_stopView s _ _ (by simp only [tskBlockEnd, NRG_ISLSTAT_CODE, NRG_ISLSTAT]; omega)) s

@[simp] theorem dropRun_stopView (s : State) (p : Run → Bool) : (dropRun s p).stopView = s.stopView := by
  refine foldl_stopView _ _ (fun s e => ?_) s
  split
  · split <;> rfl
  · rfl

@[simp] theorem abandonAudit_stopView (s : State) (k : Nat) : (abandonAudit s k).stopView = s.stopView := by
  unfold abandonAudit
  split
  · split
    · rw [modAud_stopView, count_stopView _ _ _ _ (by simp only [tskBlockEnd, GZ_AUDCNT_ABANDONED, GZ_AUDCNT]; omega),
        modGz_stopView, dropRun_stopView]
    · rfl
  · rfl

@[simp] theorem abandonAny_stopView (s : State) : (abandonAny s).stopView = s.stopView := by
  unfold abandonAny
  split
  · exact abandonAudit_stopView s _
  · rfl

@[simp] theorem stgStopped_stopView (s : State) : (stgStopped s).stopView = s.stopView := by
  unfold stgStopped
  split <;> rfl

@[simp] theorem haltEvaluation_stopView (s : State) : (haltEvaluation s).stopView = s.stopView := by
  simp [haltEvaluation]

/-! ### The stop -/

@[simp] theorem haltProgram_stopView (s : State) : (haltProgram s).stopView = s.stopView := by
  have hoff (t : State) : (t.modTsk fun x => { x with wdStart := none, wdDupNow := [] }).stopView = t.stopView := rfl
  simp [haltProgram, hoff]

/-- A stop that ends leaves the program as little running as it was. -/
@[simp] theorem finishStop_stopView (s : State) : (finishStop s).stopView = s.stopView := by
  unfold finishStop
  split
  · rename_i h
    rw [record_stopView]
    have hrun : s.running = false := by simp [State.running, h.1]
    exact (stopView_eq_iff s _).2 ⟨by rw [hrun]; rfl, rfl, rfl, rfl, fun _ _ => rfl⟩
  · rfl

/-- A stop of a running program says its cause, its task and its instant; the program runs no more, and the registers of SYS and TSK
are as they were (R77, R80). -/
theorem programStop_says (s : State) (cause k : Nat) (h : s.running = true) :
    (programStop s cause k).running = false ∧ (programStop s cause k).tsk.cause = cause ∧
      (programStop s cause k).tsk.stopTask = k ∧ (programStop s cause k).tsk.stopTime = s.now ∧
      ∀ a < tskBlockEnd, (programStop s cause k).reg a = s.reg a := by
  have hview : (programStop s cause k).stopView = (s.modTsk fun t => { t with
      prog := .stopping, cause := cause, stopTask := k, stopTime := s.now }).stopView := by
    have hrun : s.tsk.prog = .running := eq_of_beq h
    unfold programStop
    simp [hrun]
  exact (stopView_eq_iff _ _).1 hview

end Sys2Proof.Machine
end

section
/-!
PROOF. TaskWatchdog: what a write that enables the task watchdog does (R82, R104, R107), and what the end of its window does (R86).
-/
namespace Sys2Proof.Machine

/-! ### What the partner is told changes nothing here -/

theorem controlItem_rest (s : State) (k kind : Nat) (item : List Byte) :
    (controlItem s k kind item).regs = s.regs ∧ (controlItem s k kind item).tsk = s.tsk ∧
      (controlItem s k kind item).mem = s.mem := by
  unfold controlItem controlRecord countDelta
  split <;> exact ⟨rfl, rfl, rfl⟩

/-- Telling the partner of a register write leaves registers, tasks and memories (R451). -/
theorem shareRegister_rest (old s : State) (a : Nat) :
    (shareRegister old s a).regs = s.regs ∧ (shareRegister old s a).tsk = s.tsk ∧ (shareRegister old s a).mem = s.mem := by
  unfold shareRegister
  split
  · exact ⟨rfl, rfl, rfl⟩
  · split
    · exact controlItem_rest s _ _ _
    · refine List.foldlRecOn (motive := fun t : State => t.regs = s.regs ∧ t.tsk = s.tsk ∧ t.mem = s.mem) _ _
        ⟨rfl, rfl, rfl⟩ ?_
      intro t ht e _
      split
      · obtain ⟨hregs, htsk, hmem⟩ := ht
        obtain ⟨hregs', htsk', hmem'⟩ := controlItem_rest t 0xFF itemConfig _
        exact ⟨hregs'.trans hregs, htsk'.trans htsk, hmem'.trans hmem⟩
      · exact ht

/-- A field reads the same where its register does. -/
theorem fld_eq_of_reg {s t : State} (f : Fld) (h : t.reg f.addr = s.reg f.addr) : t.fld f = s.fld f :=
  congrArg (wbits · f.hi f.lo) h

theorem flag_eq_of_reg {s t : State} (f : Fld) (h : t.reg f.addr = s.reg f.addr) : t.flag f = s.flag f :=
  congrArg (· != 0) (fld_eq_of_reg f h)

theorem reg_eq_of_regs {s t : State} (h : t.regs = s.regs) (a : Nat) : t.reg a = s.reg a := by
  simp only [State.reg, h]

/-! ### A write to TSK_WDCTRL while the watchdog is off -/

/-- A write to TSK_WDCTRL while EN is 0 clears BADCFG where it names it, and takes WIN and STRICT (R104, log 87). -/
def wdTaken (s : State) (v : Word) : State :=
  ((if wbit v 2 then s.setFlag TSK_WDCTRL_BADCFG false else s).setFld TSK_WDCTRL_WIN (wbits v 31 16)).setFlag
    TSK_WDCTRL_STRICT (wbit v 1)

/-- EN is set, with the maps that 0x4020 has accepted (R107). -/
def wdEnabled (u : State) : State := (wdMaps u).setFlag TSK_WDCTRL_EN true

theorem wdOn_badcfgCleared (s : State) (v : Word) :
    wdOn (if wbit v 2 then s.setFlag TSK_WDCTRL_BADCFG false else s) = wdOn s := by
  split
  · exact flag_setFlag_apart s _ _ false (by decide)
  · rfl

/-- An enabling write that breaks R82 sets BADCFG and leaves EN 0. -/
theorem wdctrlWrite_refused (s : State) (v : Word) (hoff : wdOn s = false) (hen : wbit v 0 = true)
    (hbad : wdBad (wdMaps (wdTaken s v)) ≠ none) : wdctrlWrite s v = (wdTaken s v).setFlag TSK_WDCTRL_BADCFG true := by
  unfold wdctrlWrite
  simp only [wdOn_badcfgCleared, hoff, hen, Bool.false_eq_true, if_false, Bool.not_true]
  exact if_pos (Option.isSome_iff_ne_none.2 hbad)

/-- One that R82 permits sets EN; while the program runs the first window begins. -/
theorem wdctrlWrite_accepted (s : State) (v : Word) (hoff : wdOn s = false) (hen : wbit v 0 = true)
    (hok : wdBad (wdMaps (wdTaken s v)) = none) : wdctrlWrite s v =
      if (wdEnabled (wdTaken s v)).running then wdWindow (wdEnabled (wdTaken s v)) (wdEnabled (wdTaken s v)).now
      else wdEnabled (wdTaken s v) := by
  unfold wdctrlWrite
  simp only [wdOn_badcfgCleared, hoff, hen, Bool.false_eq_true, if_false, Bool.not_true]
  exact if_neg (by rw [wdTaken] at hok; simp [hok])

/-- What a write while EN is 0 takes, and what it leaves. -/
theorem wdTaken_says (s : State) (v : Word) :
    wdOn (wdTaken s v) = wdOn s ∧ (wdTaken s v).fld TSK_WDCTRL_WIN = wbits v 31 16 ∧
      (wdTaken s v).flag TSK_WDCTRL_STRICT = wbit v 1 ∧ (wdTaken s v).now = s.now ∧ (wdTaken s v).tsk = s.tsk ∧
      (wdTaken s v).mem = s.mem := by
  refine ⟨?_, ?_, flag_setFlag_same _ _ _ (by decide) (by decide), ?_, ?_, ?_⟩
  · rw [← wdOn_badcfgCleared s v]
    exact (flag_setFlag_apart _ _ _ _ (by decide)).trans (congrArg (· != 0) (fld_setFld_apart _ _ _ _ (by decide)))
  · rw [wdTaken, fld_setFlag_apart _ _ _ _ (by decide), fld_setFld_same _ _ _ (by decide) (by decide)]
    exact Nat.mod_mod _ (2 ^ 16)
  all_goals
    unfold wdTaken
    split <;> simp

/-- A map that 0x4020 has accepted goes into a register other than TSK_WDCTRL, and into nothing else. -/
theorem putMap_rest (u : State) (b : Bool) (f : Fld) (n : Nat) (hf : TSK_WDCTRL ≠ f.addr) :
    (if b then u else u.setFld f n).reg TSK_WDCTRL = u.reg TSK_WDCTRL ∧ (if b then u else u.setFld f n).now = u.now ∧
      (if b then u else u.setFld f n).tsk = u.tsk ∧ (if b then u else u.setFld f n).mem = u.mem := by
  cases b with
  | true => exact ⟨rfl, rfl, rfl, rfl⟩
  | false => exact ⟨reg_setFld_ne u f _ n hf, rfl, rfl, rfl⟩

/-- The maps that an enable takes up leave TSK_WDCTRL, the instant, the program's state and the memories. -/
theorem wdMaps_rest (u : State) :
    (wdMaps u).reg TSK_WDCTRL = u.reg TSK_WDCTRL ∧ (wdMaps u).now = u.now ∧ (wdMaps u).running = u.running ∧
      (wdMaps u).mem = u.mem := by
  unfold wdMaps
  dsimp only
  split
  · obtain ⟨hreg, hnow, htsk, hmem⟩ := putMap_rest u (u.obj 0x4020 4).isEmpty TSK_WDMASK_MAP (u.objNum 0x4020 4) (by decide)
    generalize (if (u.obj 0x4020 4).isEmpty then u else _) = t at *
    obtain ⟨hreg', hnow', htsk', hmem'⟩ := putMap_rest t (t.obj 0x4020 5).isEmpty TSK_WDAUTO_MAP (t.objNum 0x4020 5) (by decide)
    exact ⟨hreg'.trans hreg, hnow'.trans hnow, congrArg (·.prog == .running) (htsk'.trans htsk), hmem'.trans hmem⟩
  · exact ⟨rfl, rfl, rfl, rfl⟩

/-- What an enable that R82 permits sets, and what it leaves. -/
theorem wdEnabled_says (u : State) :
    wdOn (wdEnabled u) = true ∧ (wdEnabled u).fld TSK_WDCTRL_WIN = u.fld TSK_WDCTRL_WIN ∧
      (wdEnabled u).flag TSK_WDCTRL_STRICT = u.flag TSK_WDCTRL_STRICT ∧ (wdEnabled u).now = u.now ∧
      (wdEnabled u).running = u.running ∧ (wdEnabled u).mem = u.mem := by
  obtain ⟨hreg, hnow, hrun, hmem⟩ := wdMaps_rest u
  exact ⟨flag_setFlag_true _ _ (by decide) (by decide),
    (fld_setFlag_apart _ _ _ _ (by decide)).trans (fld_eq_of_reg TSK_WDCTRL_WIN hreg),
    (flag_setFlag_apart _ _ _ _ (by decide)).trans (flag_eq_of_reg TSK_WDCTRL_STRICT hreg), hnow, hrun, hmem⟩

/-- A window that begins has a clear bitmap; TSK_WDCTRL, the program's state and the memories stay. -/
theorem wdWindow_says (s : State) (t : Nat) :
    (wdWindow s t).tsk.wdStart = some t ∧ (wdWindow s t).fld TSK_WDSEEN_MAP = 0 ∧
      (wdWindow s t).reg TSK_WDCTRL = s.reg TSK_WDCTRL ∧ (wdWindow s t).running = s.running ∧ (wdWindow s t).mem = s.mem :=
  ⟨rfl, fld_setFld_same s TSK_WDSEEN_MAP 0 (by decide) (by decide), reg_setFld_ne s TSK_WDSEEN_MAP _ 0 (by decide), rfl, rfl⟩

/-- A permitted write to TSK_WDCTRL is the block's own, of which the partner is told. -/
theorem exec_tskWdctrlEnable (core : CoreId) (v : Word) (s : State) (h : MayWrite s core TSK_WDCTRL) :
    exec (.tskWdctrlEnable core v) s = .next (shareRegister s (wdctrlWrite s v) TSK_WDCTRL) :=
  congrArg Host.Outcome.next
    (coreStore_permitted s _ core TSK_WDCTRL v h (by decide +kernel) (show blockWrite s _ _ v = some (wdctrlWrite s v) from rfl))

/-- What an enabling write that R82 permits sets, and what it leaves. -/
theorem wdctrlWrite_accepted_says (s : State) (v : Word) (hoff : wdOn s = false) (hen : wbit v 0 = true)
    (hok : wdBad (wdMaps (wdTaken s v)) = none) :
    wdOn (wdctrlWrite s v) = true ∧ (wdctrlWrite s v).fld TSK_WDCTRL_WIN = wbits v 31 16 ∧
      (wdctrlWrite s v).flag TSK_WDCTRL_STRICT = wbit v 1 ∧ (wdctrlWrite s v).mem = s.mem ∧
      (s.running = true → (wdctrlWrite s v).tsk.wdStart = some s.now ∧ (wdctrlWrite s v).fld TSK_WDSEEN_MAP = 0) := by
  obtain ⟨-, hwin, hstrict, hnow, htsk, hmem⟩ := wdTaken_says s v
  obtain ⟨honE, hwinE, hstrictE, hnowE, hrunE, hmemE⟩ := wdEnabled_says (wdTaken s v)
  have hrun : (wdEnabled (wdTaken s v)).running = s.running := hrunE.trans (congrArg (·.prog == .running) htsk)
  rw [wdctrlWrite_accepted s v hoff hen hok, hrun, hnowE, hnow]
  split
  · obtain ⟨hstart, hseen, hregW, -, hmemW⟩ := wdWindow_says (wdEnabled (wdTaken s v)) s.now
    exact ⟨(flag_eq_of_reg TSK_WDCTRL_EN hregW).trans honE, (fld_eq_of_reg TSK_WDCTRL_WIN hregW).trans (hwinE.trans hwin),
      (flag_eq_of_reg TSK_WDCTRL_STRICT hregW).trans (hstrictE.trans hstrict), hmemW.trans (hmemE.trans hmem),
      fun _ => ⟨hstart, hseen⟩⟩
  · exact ⟨honE, hwinE.trans hwin, hstrictE.trans hstrict, hmemE.trans hmem, fun hr => absurd hr ‹_›⟩

/-- An enabling write that R82 permits. -/
theorem tskWdctrlEnable_accepted (core : CoreId) (v : Word) (s : State) (hmay : MayWrite s core TSK_WDCTRL) (hoff : wdOn s = false)
    (hen : wbit v 0 = true) (hok : wdBad (wdMaps (wdTaken s v)) = none) :
    Answers (.tskWdctrlEnable core v) s fun t =>
      wdOn t = true ∧ t.fld TSK_WDCTRL_WIN = wbits v 31 16 ∧ t.flag TSK_WDCTRL_STRICT = wbit v 1 ∧ t.mem = s.mem ∧
      (s.running = true → t.tsk.wdStart = some s.now ∧ t.fld TSK_WDSEEN_MAP = 0) := by
  obtain ⟨hregs, htsk, hmem⟩ := shareRegister_rest s (wdctrlWrite s v) TSK_WDCTRL
  obtain ⟨hon, hwin, hstrict, hmem', hfirst⟩ := wdctrlWrite_accepted_says s v hoff hen hok
  exact ⟨_, exec_tskWdctrlEnable core v s hmay, (flag_eq_of_reg _ (reg_eq_of_regs hregs _)).trans hon,
    (fld_eq_of_reg _ (reg_eq_of_regs hregs _)).trans hwin, (flag_eq_of_reg _ (reg_eq_of_regs hregs _)).trans hstrict,
    hmem.trans hmem', fun hrun => ⟨(congrArg TskState.wdStart htsk).trans (hfirst hrun).1,
      (fld_eq_of_reg _ (reg_eq_of_regs hregs _)).trans (hfirst hrun).2⟩⟩

/-- An enabling write that breaks R82. -/
theorem tskWdctrlEnable_refused (core : CoreId) (v : Word) (s : State) (hmay : MayWrite s core TSK_WDCTRL) (hoff : wdOn s = false)
    (hen : wbit v 0 = true) (hbad : wdBad (wdMaps (wdTaken s v)) ≠ none) :
    Answers (.tskWdctrlEnable core v) s fun t =>
      wdOn t = false ∧ t.flag TSK_WDCTRL_BADCFG = true ∧ t.tsk = s.tsk ∧ t.mem = s.mem := by
  obtain ⟨hregs, htsk, hmem⟩ := shareRegister_rest s (wdctrlWrite s v) TSK_WDCTRL
  obtain ⟨hon, -, -, -, htsk', hmem'⟩ := wdTaken_says s v
  have hexec := exec_tskWdctrlEnable core v s hmay
  rw [wdctrlWrite_refused s v hoff hen hbad] at hregs htsk hmem hexec
  have hon' : wdOn ((wdTaken s v).setFlag TSK_WDCTRL_BADCFG true) = false :=
    (flag_setFlag_apart _ _ _ _ (by decide)).trans (hon.trans hoff)
  exact ⟨_, hexec, (flag_eq_of_reg TSK_WDCTRL_EN (reg_eq_of_regs hregs _)).trans hon',
    (flag_eq_of_reg TSK_WDCTRL_BADCFG (reg_eq_of_regs hregs _)).trans (flag_setFlag_true _ _ (by decide) (by decide)),
    htsk.trans (by simpa using htsk'), hmem.trans (by simpa using hmem')⟩

/-! ### The end of a window (R86) -/

/-- The watched tasks that the bitmap does not show, as wdWindowEnd finds them. -/
def wdMissing (s : State) : Nat := s.fld TSK_WDMASK_MAP &&& (0xFFFFFF ^^^ s.fld TSK_WDSEEN_MAP)

theorem wdMissing_lt (s : State) : wdMissing s < 2 ^ 24 :=
  Nat.lt_of_le_of_lt Nat.and_le_left (Nat.mod_lt _ (by decide))

/-- The number of a 24-bit map's lowest bit that is set. -/
def lowestTask (m : Nat) : Nat := ((List.range 24).find? fun k => bit m k).getD 0

/-- A map with a bit set has a lowest one. -/
theorem lowestTask_says (m : Nat) (h0 : m ≠ 0) (h : m < 2 ^ 24) :
    bit m (lowestTask m) = true ∧ ∀ j < lowestTask m, bit m j = false := by
  obtain ⟨i, hi⟩ := Nat.exists_testBit_of_ne_zero h0
  have hi24 : i < 24 := (Nat.pow_lt_pow_iff_right (by decide)).1 (Nat.lt_of_le_of_lt (Nat.ge_two_pow_of_testBit hi) h)
  unfold lowestTask
  cases hfind : (List.range 24).find? fun k => bit m k with
  | none =>
    have hnone := List.find?_eq_none.1 hfind i (List.mem_range.2 hi24)
    exact absurd ((bit_eq_testBit m i).trans hi) hnone
  | some k =>
    obtain ⟨hk, -, hlow⟩ := List.find?_range_eq_some.1 hfind
    exact ⟨hk, fun j hj => by simpa using hlow j hj⟩

/-- While the program runs, the command is the window's end. -/
theorem exec_taskWatchdogWindowEnd (s : State) (hrun : s.running = true) (hlive : halted s = false) :
    exec .taskWatchdogWindowEnd s = .next (wdWindowEnd s) :=
  if_neg (by simp [hrun, hlive])

/-- With no task missing the next window begins where this one ended. -/
theorem wdWindowEnd_complete (s : State) (t0 : Nat) (hstart : s.tsk.wdStart = some t0) (hall : wdMissing s = 0) :
    wdWindowEnd s = wdWindow (s.at (t0 + wdW s)) (t0 + wdW s) := by
  unfold wdWindowEnd
  rw [hstart]
  exact if_neg (not_not.2 hall)

/-- With one missing the program stops. -/
theorem wdWindowEnd_trip (s : State) (t0 : Nat) (hstart : s.tsk.wdStart = some t0) (hmiss : wdMissing s ≠ 0) :
    wdWindowEnd s = programStop (((s.at (t0 + wdW s)).setFld TSK_WDMISS_MAP (wdMissing s)).setFld TSK_WDSEEN_MAP 0) 3
      (lowestTask (wdMissing s)) := by
  unfold wdWindowEnd
  rw [hstart]
  exact if_pos hmiss

/-- A window's end at which every watched task has checked in. -/
theorem taskWatchdogWindowEnd_complete (s : State) (t0 : Nat) (hrun : s.running = true) (hlive : halted s = false)
    (hstart : s.tsk.wdStart = some t0) (hall : wdMissing s = 0) : Answers .taskWatchdogWindowEnd s fun t =>
      t.tsk.wdStart = some (t0 + wdW s) ∧ t.fld TSK_WDSEEN_MAP = 0 ∧ t.running = true ∧ t.mem = s.mem := by
  refine ⟨_, exec_taskWatchdogWindowEnd s hrun hlive, ?_⟩
  rw [wdWindowEnd_complete s t0 hstart hall]
  obtain ⟨hnext, hseen, -, hrun', hmem⟩ := wdWindow_says (s.at (t0 + wdW s)) (t0 + wdW s)
  exact ⟨hnext, hseen, hrun'.trans hrun, hmem⟩

/-- A window's end at which a watched task has not. -/
theorem taskWatchdogWindowEnd_trip (s : State) (t0 : Nat) (hrun : s.running = true) (hlive : halted s = false)
    (hstart : s.tsk.wdStart = some t0) (hmiss : wdMissing s ≠ 0) : Answers .taskWatchdogWindowEnd s fun t =>
      t.tsk.cause = 3 ∧ bit (wdMissing s) t.tsk.stopTask = true ∧ (∀ j < t.tsk.stopTask, bit (wdMissing s) j = false) ∧
        t.running = false ∧ t.fld TSK_WDMISS_MAP = wdMissing s ∧ t.fld TSK_WDSEEN_MAP = 0 := by
  refine ⟨_, exec_taskWatchdogWindowEnd s hrun hlive, ?_⟩
  rw [wdWindowEnd_trip s t0 hstart hmiss]
  generalize hs' : ((s.at (t0 + wdW s)).setFld TSK_WDMISS_MAP (wdMissing s)).setFld TSK_WDSEEN_MAP 0 = s'
  have hrun' : s'.running = true := by rw [← hs']; exact hrun
  have hseen : s'.fld TSK_WDSEEN_MAP = 0 := by rw [← hs', fld_setFld_same _ _ _ (by decide) (by decide)]; rfl
  have hmap : s'.fld TSK_WDMISS_MAP = wdMissing s := by
    rw [← hs', fld_setFld_ne _ _ _ _ (by decide), fld_setFld_same _ _ _ (by decide) (by decide)]
    exact Nat.mod_eq_of_lt (wdMissing_lt s)
  obtain ⟨hstopped, hcause, htask, -, hregs⟩ := programStop_says s' 3 (lowestTask (wdMissing s)) hrun'
  obtain ⟨hset, hlow⟩ := lowestTask_says (wdMissing s) hmiss (wdMissing_lt s)
  rw [htask]
  exact ⟨hcause, hset, hlow, hstopped, (fld_eq_of_reg _ (hregs _ (by decide))).trans hmap,
    (fld_eq_of_reg _ (hregs _ (by decide))).trans hseen⟩

/-- Settles O15: the enabling write split by R82, the window's end by whether a task is missing. -/
theorem taskWatchdog : Obligations.TaskWatchdog := by
  refine ⟨fun core v s u hmay hoff hen hu => ?_, fun s t0 miss hrun hlive hstart hmiss => ?_⟩
  · subst hu
    exact ⟨tskWdctrlEnable_accepted core v s hmay hoff hen, tskWdctrlEnable_refused core v s hmay hoff hen⟩
  · subst hmiss
    exact ⟨taskWatchdogWindowEnd_complete s t0 hrun hlive hstart, taskWatchdogWindowEnd_trip s t0 hrun hlive hstart⟩

end Sys2Proof.Machine
end

section
/-!
PROOF. SampleInstant: what the timebase's reaching T_s of a cyclic task does, by whether its last evaluation has ended and by whose
cycle it is (R54, R70, R78, R447).
-/
namespace Sys2Proof.Machine

/-- The last cycle's evaluation has not ended by T_s: of a cycle of the module's own, or of one in shadow that was released before a
handover came about (R78, R467). -/
def evaluationLate (u : State) (k : Nat) : Bool :=
  u.acts && (u.task k).active && !(u.task k).ended && (!(u.task k).shadow || ((u.task k).released && !switched u))

/-- The module can begin a cycle in shadow: none is in evaluation there (R447). -/
def mayShadow (u : State) (k : Nat) : Bool := shadows u && !((u.task k).active && (u.task k).shadow && (u.task k).evaluating)

/-- What the strikes and publications that fall on T_s leave (R54). -/
def dueAtSample (s : State) (k : Nat) : State := handoverDone ((publishDue s (s.task k).nextTs).at (s.task k).nextTs)

/-- The four things that T_s of an enabled cyclic task can do, in the order in which they are asked. -/
theorem exec_sampleInstant (k : Fin 16) (s u : State) (hrun : s.running = true) (hlive : halted s = false)
    (hen : taskEn s k.val = true) (hu : u = dueAtSample s k.val) (hrun' : u.running = true) :
    exec (.sampleInstant k) s =
      if evaluationLate u k.val then .next (programStop u 2 k.val)
      else if owns u k.val then .next (sampleTask u k.val)
      else if mayShadow u k.val then .next (shadowSample u k.val)
      else .next (skipSample u k.val) := by
  subst hu
  have hgoes : (!s.running || halted s || !taskEn s k.val) = false := by simp [hrun, hlive, hen]
  have hgoesOn : (!(dueAtSample s k.val).running) = false := by simp [hrun']
  exact (if_neg (ne_true_of_eq_false hgoes)).trans (if_neg (ne_true_of_eq_false hgoesOn))

/-- A skipped cycle moves the grid on by the task's period, and leaves memories and image. -/
theorem skipSample_says (u : State) (k : Nat) :
    ((skipSample u k).task k).nextTs = (u.task k).nextTs + taskP u k ∧ (skipSample u k).mem = u.mem ∧
      (skipSample u k).img = u.img :=
  ⟨congrArg TaskSt.nextTs (Tbl.get_set_same _ _ _ _), rfl, rfl⟩

/-- Settles O16: the four branches of the instant, in the order in which they are asked. -/
theorem sampleInstant : Obligations.SampleInstant := by
  intro k s u hrun hlive hen hu hrun'
  have hexec := exec_sampleInstant k s u hrun hlive hen hu hrun'
  refine ⟨fun (hlate : evaluationLate u k.val = true) => ?_, fun (hlate : evaluationLate u k.val = false) hown => ?_,
    fun (hlate : evaluationLate u k.val = false) hown (hmay : mayShadow u k.val = true) => ?_,
    fun (hlate : evaluationLate u k.val = false) hown (hmay : mayShadow u k.val = false) => ?_⟩
  · rw [if_pos hlate] at hexec
    obtain ⟨hstopped, hcause, htask, htime, -⟩ := programStop_says u 2 k.val hrun'
    exact ⟨_, hexec, rfl, hcause, htask, htime, hstopped⟩
  · simpa only [hlate, hown, Bool.false_eq_true, if_false, if_true] using hexec
  · simpa only [hlate, hown, hmay, Bool.false_eq_true, if_false, if_true] using hexec
  · simp only [hlate, hown, hmay, Bool.false_eq_true, if_false] at hexec
    exact ⟨_, hexec, rfl, skipSample_says u k.val⟩

end Sys2Proof.Machine
end

section
/-!
SUPPORT. Frames: what a choice between two states and a fold leave of a part of the state, so that the laws of the updates (Laws/State)
give those of the operations made of them.
-/
namespace Sys2Proof.Machine

/-- A fold leaves what each of its steps leaves. -/
theorem foldl_keeps {α β : Type} (part : State → β) (f : State → α → State) (hf : ∀ s x, part (f s x) = part s) (xs : List α)
    (s : State) : part (xs.foldl f s) = part s := by
  induction xs generalizing s with
  | nil => rfl
  | cons x xs ih => rw [List.foldl_cons, ih, hf]

/-- Of a pair that a fold carries, it leaves what each of its steps leaves. -/
theorem foldl_keeps_fst {α β γ : Type} (part : State → β) (f : State × γ → α → State × γ)
    (hf : ∀ a x, part (f a x).1 = part a.1) (xs : List α) (a : State × γ) : part (xs.foldl f a).1 = part a.1 := by
  induction xs generalizing a with
  | nil => rfl
  | cons x xs ih => rw [List.foldl_cons, ih, hf]

@[simp] theorem Memories.ite_parts (c : Prop) [Decidable c] (x y : Memories) :
    (if c then x else y).code = (if c then x.code else y.code) ∧ (if c then x else y).sram = (if c then x.sram else y.sram) ∧
      (if c then x else y).flash = (if c then x.flash else y.flash) ∧ (if c then x else y).fw = (if c then x.fw else y.fw) ∧
      (if c then x else y).trace = (if c then x.trace else y.trace) := by
  split <;> simp

@[simp] theorem TskState.ite_parts (c : Prop) [Decidable c] (x y : TskState) :
    (if c then x else y).prog = (if c then x.prog else y.prog) ∧ (if c then x else y).cold = (if c then x.cold else y.cold) ∧
      (if c then x else y).prepEnd = (if c then x.prepEnd else y.prepEnd) ∧
      (if c then x else y).cause = (if c then x.cause else y.cause) ∧
      (if c then x else y).stopTask = (if c then x.stopTask else y.stopTask) ∧
      (if c then x else y).stopTime = (if c then x.stopTime else y.stopTime) := by
  split <;> simp

@[simp] theorem HsbState.ite_parts (c : Prop) [Decidable c] (x y : HsbState) :
    (if c then x else y).role = (if c then x.role else y.role) ∧ (if c then x else y).unit = (if c then x.unit else y.unit) := by
  split <;> simp

@[simp] theorem PhrState.ite_parts (c : Prop) [Decidable c] (x y : PhrState) :
    (if c then x else y).rings = (if c then x.rings else y.rings) ∧
      (if c then x else y).linksDown = (if c then x.linksDown else y.linksDown) ∧
      (if c then x else y).atStart = (if c then x.atStart else y.atStart) := by
  split <;> simp

@[simp] theorem State.ite_parts (c : Prop) [Decidable c] (s t : State) :
    (if c then s else t).now = (if c then s.now else t.now) ∧
      (if c then s else t).pending = (if c then s.pending else t.pending) ∧
      (if c then s else t).draws = (if c then s.draws else t.draws) ∧
      (if c then s else t).rdata = (if c then s.rdata else t.rdata) ∧
      (if c then s else t).regs = (if c then s.regs else t.regs) ∧ (if c then s else t).mem = (if c then s.mem else t.mem) ∧
      (if c then s else t).units = (if c then s.units else t.units) ∧
      (if c then s else t).objs = (if c then s.objs else t.objs) ∧ (if c then s else t).prog = (if c then s.prog else t.prog) ∧
      (if c then s else t).img = (if c then s.img else t.img) ∧ (if c then s else t).tsk = (if c then s.tsk else t.tsk) ∧
      (if c then s else t).gz = (if c then s.gz else t.gz) ∧ (if c then s else t).evc = (if c then s.evc else t.evc) ∧
      (if c then s else t).nv = (if c then s.nv else t.nv) ∧ (if c then s else t).rtc = (if c then s.rtc else t.rtc) ∧
      (if c then s else t).wdg = (if c then s.wdg else t.wdg) ∧ (if c then s else t).frz = (if c then s.frz else t.frz) ∧
      (if c then s else t).rcd = (if c then s.rcd else t.rcd) ∧ (if c then s else t).boot = (if c then s.boot else t.boot) ∧
      (if c then s else t).phr = (if c then s.phr else t.phr) ∧ (if c then s else t).lpe = (if c then s.lpe else t.lpe) ∧
      (if c then s else t).trc = (if c then s.trc else t.trc) ∧ (if c then s else t).nrg = (if c then s.nrg else t.nrg) ∧
      (if c then s else t).hsb = (if c then s.hsb else t.hsb) ∧ (if c then s else t).field = (if c then s.field else t.field) ∧
      (if c then s else t).can = (if c then s.can else t.can) ∧ (if c then s else t).saf = (if c then s.saf else t.saf) ∧
      (if c then s else t).jrn = (if c then s.jrn else t.jrn) ∧
      (if c then s else t).stations = (if c then s.stations else t.stations) ∧
      (if c then s else t).sent = (if c then s.sent else t.sent) := by
  split <;> simp

@[simp] theorem foldl_now {α : Type} (xs : List α) (f : State → α → State) (hf : ∀ s x, (f s x).now = s.now) (s : State) :
    (xs.foldl f s).now = s.now := foldl_keeps (fun s => s.now) f hf xs s

@[simp] theorem foldl_pending {α : Type} (xs : List α) (f : State → α → State) (hf : ∀ s x, (f s x).pending = s.pending) (s : State) :
    (xs.foldl f s).pending = s.pending := foldl_keeps (fun s => s.pending) f hf xs s

@[simp] theorem foldl_draws {α : Type} (xs : List α) (f : State → α → State) (hf : ∀ s x, (f s x).draws = s.draws) (s : State) :
    (xs.foldl f s).draws = s.draws := foldl_keeps (fun s => s.draws) f hf xs s

@[simp] theorem foldl_rdata {α : Type} (xs : List α) (f : State → α → State) (hf : ∀ s x, (f s x).rdata = s.rdata) (s : State) :
    (xs.foldl f s).rdata = s.rdata := foldl_keeps (fun s => s.rdata) f hf xs s

@[simp] theorem foldl_regs {α : Type} (xs : List α) (f : State → α → State) (hf : ∀ s x, (f s x).regs = s.regs) (s : State) :
    (xs.foldl f s).regs = s.regs := foldl_keeps (fun s => s.regs) f hf xs s

@[simp] theorem foldl_mem {α : Type} (xs : List α) (f : State → α → State) (hf : ∀ s x, (f s x).mem = s.mem) (s : State) :
    (xs.foldl f s).mem = s.mem := foldl_keeps (fun s => s.mem) f hf xs s

@[simp] theorem foldl_units {α : Type} (xs : List α) (f : State → α → State) (hf : ∀ s x, (f s x).units = s.units) (s : State) :
    (xs.foldl f s).units = s.units := foldl_keeps (fun s => s.units) f hf xs s

@[simp] theorem foldl_objs {α : Type} (xs : List α) (f : State → α → State) (hf : ∀ s x, (f s x).objs = s.objs) (s : State) :
    (xs.foldl f s).objs = s.objs := foldl_keeps (fun s => s.objs) f hf xs s

@[simp] theorem foldl_prog {α : Type} (xs : List α) (f : State → α → State) (hf : ∀ s x, (f s x).prog = s.prog) (s : State) :
    (xs.foldl f s).prog = s.prog := foldl_keeps (fun s => s.prog) f hf xs s

@[simp] theorem foldl_img {α : Type} (xs : List α) (f : State → α → State) (hf : ∀ s x, (f s x).img = s.img) (s : State) :
    (xs.foldl f s).img = s.img := foldl_keeps (fun s => s.img) f hf xs s

@[simp] theorem foldl_tsk {α : Type} (xs : List α) (f : State → α → State) (hf : ∀ s x, (f s x).tsk = s.tsk) (s : State) :
    (xs.foldl f s).tsk = s.tsk := foldl_keeps (fun s => s.tsk) f hf xs s

@[simp] theorem foldl_gz {α : Type} (xs : List α) (f : State → α → State) (hf : ∀ s x, (f s x).gz = s.gz) (s : State) :
    (xs.foldl f s).gz = s.gz := foldl_keeps (fun s => s.gz) f hf xs s

@[simp] theorem foldl_evc {α : Type} (xs : List α) (f : State → α → State) (hf : ∀ s x, (f s x).evc = s.evc) (s : State) :
    (xs.foldl f s).evc = s.evc := foldl_keeps (fun s => s.evc) f hf xs s

@[simp] theorem foldl_nv {α : Type} (xs : List α) (f : State → α → State) (hf : ∀ s x, (f s x).nv = s.nv) (s : State) :
    (xs.foldl f s).nv = s.nv := foldl_keeps (fun s => s.nv) f hf xs s

@[simp] theorem foldl_rtc {α : Type} (xs : List α) (f : State → α → State) (hf : ∀ s x, (f s x).rtc = s.rtc) (s : State) :
    (xs.foldl f s).rtc = s.rtc := foldl_keeps (fun s => s.rtc) f hf xs s

@[simp] theorem foldl_wdg {α : Type} (xs : List α) (f : State → α → State) (hf : ∀ s x, (f s x).wdg = s.wdg) (s : State) :
    (xs.foldl f s).wdg = s.wdg := foldl_keeps (fun s => s.wdg) f hf xs s

@[simp] theorem foldl_frz {α : Type} (xs : List α) (f : State → α → State) (hf : ∀ s x, (f s x).frz = s.frz) (s : State) :
    (xs.foldl f s).frz = s.frz := foldl_keeps (fun s => s.frz) f hf xs s

@[simp] theorem foldl_rcd {α : Type} (xs : List α) (f : State → α → State) (hf : ∀ s x, (f s x).rcd = s.rcd) (s : State) :
    (xs.foldl f s).rcd = s.rcd := foldl_keeps (fun s => s.rcd) f hf xs s

@[simp] theorem foldl_boot {α : Type} (xs : List α) (f : State → α → State) (hf : ∀ s x, (f s x).boot = s.boot) (s : State) :
    (xs.foldl f s).boot = s.boot := foldl_keeps (fun s => s.boot) f hf xs s

@[simp] theorem foldl_phr {α : Type} (xs : List α) (f : State → α → State) (hf : ∀ s x, (f s x).phr = s.phr) (s : State) :
    (xs.foldl f s).phr = s.phr := foldl_keeps (fun s => s.phr) f hf xs s

@[simp] theorem foldl_lpe {α : Type} (xs : List α) (f : State → α → State) (hf : ∀ s x, (f s x).lpe = s.lpe) (s : State) :
    (xs.foldl f s).lpe = s.lpe := foldl_keeps (fun s => s.lpe) f hf xs s

@[simp] theorem foldl_trc {α : Type} (xs : List α) (f : State → α → State) (hf : ∀ s x, (f s x).trc = s.trc) (s : State) :
    (xs.foldl f s).trc = s.trc := foldl_keeps (fun s => s.trc) f hf xs s

@[simp] theorem foldl_nrg {α : Type} (xs : List α) (f : State → α → State) (hf : ∀ s x, (f s x).nrg = s.nrg) (s : State) :
    (xs.foldl f s).nrg = s.nrg := foldl_keeps (fun s => s.nrg) f hf xs s

@[simp] theorem foldl_hsb {α : Type} (xs : List α) (f : State → α → State) (hf : ∀ s x, (f s x).hsb = s.hsb) (s : State) :
    (xs.foldl f s).hsb = s.hsb := foldl_keeps (fun s => s.hsb) f hf xs s

@[simp] theorem foldl_field {α : Type} (xs : List α) (f : State → α → State) (hf : ∀ s x, (f s x).field = s.field) (s : State) :
    (xs.foldl f s).field = s.field := foldl_keeps (fun s => s.field) f hf xs s

@[simp] theorem foldl_can {α : Type} (xs : List α) (f : State → α → State) (hf : ∀ s x, (f s x).can = s.can) (s : State) :
    (xs.foldl f s).can = s.can := foldl_keeps (fun s => s.can) f hf xs s

@[simp] theorem foldl_saf {α : Type} (xs : List α) (f : State → α → State) (hf : ∀ s x, (f s x).saf = s.saf) (s : State) :
    (xs.foldl f s).saf = s.saf := foldl_keeps (fun s => s.saf) f hf xs s

@[simp] theorem foldl_jrn {α : Type} (xs : List α) (f : State → α → State) (hf : ∀ s x, (f s x).jrn = s.jrn) (s : State) :
    (xs.foldl f s).jrn = s.jrn := foldl_keeps (fun s => s.jrn) f hf xs s

@[simp] theorem foldl_stations {α : Type} (xs : List α) (f : State → α → State) (hf : ∀ s x, (f s x).stations = s.stations) (s : State) :
    (xs.foldl f s).stations = s.stations := foldl_keeps (fun s => s.stations) f hf xs s

@[simp] theorem foldl_sent {α : Type} (xs : List α) (f : State → α → State) (hf : ∀ s x, (f s x).sent = s.sent) (s : State) :
    (xs.foldl f s).sent = s.sent := foldl_keeps (fun s => s.sent) f hf xs s

@[simp] theorem foldl_mem_code {α : Type} (xs : List α) (f : State → α → State) (hf : ∀ s x, (f s x).mem.code = s.mem.code) (s : State) :
    (xs.foldl f s).mem.code = s.mem.code := foldl_keeps (fun s => s.mem.code) f hf xs s

@[simp] theorem foldl_mem_sram {α : Type} (xs : List α) (f : State → α → State) (hf : ∀ s x, (f s x).mem.sram = s.mem.sram) (s : State) :
    (xs.foldl f s).mem.sram = s.mem.sram := foldl_keeps (fun s => s.mem.sram) f hf xs s

@[simp] theorem foldl_mem_flash {α : Type} (xs : List α) (f : State → α → State) (hf : ∀ s x, (f s x).mem.flash = s.mem.flash) (s : State) :
    (xs.foldl f s).mem.flash = s.mem.flash := foldl_keeps (fun s => s.mem.flash) f hf xs s

@[simp] theorem foldl_mem_fw {α : Type} (xs : List α) (f : State → α → State) (hf : ∀ s x, (f s x).mem.fw = s.mem.fw) (s : State) :
    (xs.foldl f s).mem.fw = s.mem.fw := foldl_keeps (fun s => s.mem.fw) f hf xs s

@[simp] theorem foldl_mem_trace {α : Type} (xs : List α) (f : State → α → State) (hf : ∀ s x, (f s x).mem.trace = s.mem.trace) (s : State) :
    (xs.foldl f s).mem.trace = s.mem.trace := foldl_keeps (fun s => s.mem.trace) f hf xs s

@[simp] theorem foldl_tsk_prog {α : Type} (xs : List α) (f : State → α → State) (hf : ∀ s x, (f s x).tsk.prog = s.tsk.prog) (s : State) :
    (xs.foldl f s).tsk.prog = s.tsk.prog := foldl_keeps (fun s => s.tsk.prog) f hf xs s

@[simp] theorem foldl_tsk_prepEnd {α : Type} (xs : List α) (f : State → α → State) (hf : ∀ s x, (f s x).tsk.prepEnd = s.tsk.prepEnd) (s : State) :
    (xs.foldl f s).tsk.prepEnd = s.tsk.prepEnd := foldl_keeps (fun s => s.tsk.prepEnd) f hf xs s

@[simp] theorem foldl_tsk_cold {α : Type} (xs : List α) (f : State → α → State) (hf : ∀ s x, (f s x).tsk.cold = s.tsk.cold) (s : State) :
    (xs.foldl f s).tsk.cold = s.tsk.cold := foldl_keeps (fun s => s.tsk.cold) f hf xs s

@[simp] theorem foldl_hsb_role {α : Type} (xs : List α) (f : State → α → State) (hf : ∀ s x, (f s x).hsb.role = s.hsb.role) (s : State) :
    (xs.foldl f s).hsb.role = s.hsb.role := foldl_keeps (fun s => s.hsb.role) f hf xs s

@[simp] theorem foldl_hsb_unit {α : Type} (xs : List α) (f : State → α → State) (hf : ∀ s x, (f s x).hsb.unit = s.hsb.unit) (s : State) :
    (xs.foldl f s).hsb.unit = s.hsb.unit := foldl_keeps (fun s => s.hsb.unit) f hf xs s

@[simp] theorem foldl_phr_rings {α : Type} (xs : List α) (f : State → α → State) (hf : ∀ s x, (f s x).phr.rings = s.phr.rings) (s : State) :
    (xs.foldl f s).phr.rings = s.phr.rings := foldl_keeps (fun s => s.phr.rings) f hf xs s

@[simp] theorem foldl_phr_linksDown {α : Type} (xs : List α) (f : State → α → State) (hf : ∀ s x, (f s x).phr.linksDown = s.phr.linksDown) (s : State) :
    (xs.foldl f s).phr.linksDown = s.phr.linksDown := foldl_keeps (fun s => s.phr.linksDown) f hf xs s

@[simp] theorem foldl_phr_atStart {α : Type} (xs : List α) (f : State → α → State) (hf : ∀ s x, (f s x).phr.atStart = s.phr.atStart) (s : State) :
    (xs.foldl f s).phr.atStart = s.phr.atStart := foldl_keeps (fun s => s.phr.atStart) f hf xs s

@[simp] theorem State.at_now (s : State) (t : Nat) : (s.at t).now = max s.now t := rfl

end Sys2Proof.Machine
end

section
/-!
SUPPORT. Setters: what the updates of one entry of a numbered part leave, of the state and of the part that holds the entry.
-/
namespace Sys2Proof.Machine

@[simp] theorem State.setTask_parts (s : State) (k : Nat) (t : TaskSt) :
    (State.setTask s k t).tsk.prog = s.tsk.prog ∧ (State.setTask s k t).tsk.cold = s.tsk.cold ∧
      (State.setTask s k t).tsk.cause = s.tsk.cause ∧ (State.setTask s k t).tsk.stopTask = s.tsk.stopTask ∧
      (State.setTask s k t).tsk.stopTime = s.tsk.stopTime ∧ (State.setTask s k t).tsk.prepEnd = s.tsk.prepEnd ∧
      (State.setTask s k t).tsk.runAt = s.tsk.runAt ∧ (State.setTask s k t).tsk.wdStart = s.tsk.wdStart ∧
      (State.setTask s k t).tsk.wdDupNow = s.tsk.wdDupNow ∧ (State.setTask s k t).tsk.wdNext = s.tsk.wdNext ∧
      (State.setTask s k t).tsk.held = s.tsk.held := by
  unfold State.setTask
  simp

@[simp] theorem State.modTask_parts (s : State) (k : Nat) (f : TaskSt → TaskSt) :
    (State.modTask s k f).tsk.prog = s.tsk.prog ∧ (State.modTask s k f).tsk.cold = s.tsk.cold ∧
      (State.modTask s k f).tsk.cause = s.tsk.cause ∧ (State.modTask s k f).tsk.stopTask = s.tsk.stopTask ∧
      (State.modTask s k f).tsk.stopTime = s.tsk.stopTime ∧ (State.modTask s k f).tsk.prepEnd = s.tsk.prepEnd ∧
      (State.modTask s k f).tsk.runAt = s.tsk.runAt ∧ (State.modTask s k f).tsk.wdStart = s.tsk.wdStart ∧
      (State.modTask s k f).tsk.wdDupNow = s.tsk.wdDupNow ∧ (State.modTask s k f).tsk.wdNext = s.tsk.wdNext ∧
      (State.modTask s k f).tsk.held = s.tsk.held := by
  unfold State.modTask
  simp

@[simp] theorem State.setLoop_parts (s : State) (n : Nat) (l : LoopSt) :
    (State.setLoop s n l).lpe.queue = s.lpe.queue ∧ (State.setLoop s n l).lpe.units = s.lpe.units ∧
      (State.setLoop s n l).lpe.busy = s.lpe.busy := by
  unfold State.setLoop
  simp

@[simp] theorem State.modLoop_parts (s : State) (n : Nat) (f : LoopSt → LoopSt) :
    (State.modLoop s n f).now = s.now ∧ (State.modLoop s n f).pending = s.pending ∧ (State.modLoop s n f).draws = s.draws ∧
      (State.modLoop s n f).rdata = s.rdata ∧ (State.modLoop s n f).regs = s.regs ∧ (State.modLoop s n f).mem = s.mem ∧
      (State.modLoop s n f).units = s.units ∧ (State.modLoop s n f).objs = s.objs ∧ (State.modLoop s n f).prog = s.prog ∧
      (State.modLoop s n f).img = s.img ∧ (State.modLoop s n f).tsk = s.tsk ∧ (State.modLoop s n f).gz = s.gz ∧
      (State.modLoop s n f).evc = s.evc ∧ (State.modLoop s n f).nv = s.nv ∧ (State.modLoop s n f).rtc = s.rtc ∧
      (State.modLoop s n f).wdg = s.wdg ∧ (State.modLoop s n f).frz = s.frz ∧ (State.modLoop s n f).rcd = s.rcd ∧
      (State.modLoop s n f).boot = s.boot ∧ (State.modLoop s n f).phr = s.phr ∧ (State.modLoop s n f).lpe.queue = s.lpe.queue ∧
      (State.modLoop s n f).lpe.units = s.lpe.units ∧ (State.modLoop s n f).lpe.busy = s.lpe.busy ∧
      (State.modLoop s n f).trc = s.trc ∧ (State.modLoop s n f).nrg = s.nrg ∧ (State.modLoop s n f).hsb = s.hsb ∧
      (State.modLoop s n f).field = s.field ∧ (State.modLoop s n f).can = s.can ∧ (State.modLoop s n f).saf = s.saf ∧
      (State.modLoop s n f).jrn = s.jrn ∧ (State.modLoop s n f).stations = s.stations ∧ (State.modLoop s n f).sent = s.sent := by
  unfold State.modLoop
  simp

@[simp] theorem State.setDchan_rest (s : State) (k : Nat) (c : DChan) :
    (State.setDchan s k c).now = s.now ∧ (State.setDchan s k c).pending = s.pending ∧ (State.setDchan s k c).draws = s.draws ∧
      (State.setDchan s k c).rdata = s.rdata ∧ (State.setDchan s k c).regs = s.regs ∧ (State.setDchan s k c).mem = s.mem ∧
      (State.setDchan s k c).units = s.units ∧ (State.setDchan s k c).objs = s.objs ∧ (State.setDchan s k c).prog = s.prog ∧
      (State.setDchan s k c).img = s.img ∧ (State.setDchan s k c).tsk = s.tsk ∧ (State.setDchan s k c).gz = s.gz ∧
      (State.setDchan s k c).evc = s.evc ∧ (State.setDchan s k c).nv = s.nv ∧ (State.setDchan s k c).rtc = s.rtc ∧
      (State.setDchan s k c).wdg = s.wdg ∧ (State.setDchan s k c).frz = s.frz ∧ (State.setDchan s k c).rcd = s.rcd ∧
      (State.setDchan s k c).boot = s.boot ∧ (State.setDchan s k c).phr = s.phr ∧ (State.setDchan s k c).lpe = s.lpe ∧
      (State.setDchan s k c).trc = s.trc ∧ (State.setDchan s k c).nrg = s.nrg ∧ (State.setDchan s k c).hsb = s.hsb ∧
      (State.setDchan s k c).field.state = s.field.state ∧ (State.setDchan s k c).field.link = s.field.link ∧
      (State.setDchan s k c).field.lastFrame = s.field.lastFrame ∧ (State.setDchan s k c).field.lastUpd = s.field.lastUpd ∧
      (State.setDchan s k c).field.silence = s.field.silence ∧ (State.setDchan s k c).field.silStandby = s.field.silStandby ∧
      (State.setDchan s k c).field.unit = s.field.unit ∧ (State.setDchan s k c).field.analog = s.field.analog ∧
      (State.setDchan s k c).field.enc = s.field.enc ∧ (State.setDchan s k c).field.cmds = s.field.cmds ∧
      (State.setDchan s k c).field.vflow = s.field.vflow ∧ (State.setDchan s k c).field.vfhigh = s.field.vfhigh ∧
      (State.setDchan s k c).field.mv = s.field.mv ∧ (State.setDchan s k c).field.lowCnt = s.field.lowCnt ∧
      (State.setDchan s k c).field.silentCnt = s.field.silentCnt ∧ (State.setDchan s k c).field.safAt = s.field.safAt ∧
      (State.setDchan s k c).field.stoOn = s.field.stoOn ∧ (State.setDchan s k c).field.pulses = s.field.pulses ∧
      (State.setDchan s k c).field.latched = s.field.latched ∧ (State.setDchan s k c).field.latchedBad = s.field.latchedBad ∧
      (State.setDchan s k c).field.owners = s.field.owners ∧ (State.setDchan s k c).can = s.can ∧
      (State.setDchan s k c).saf = s.saf ∧ (State.setDchan s k c).jrn = s.jrn ∧ (State.setDchan s k c).stations = s.stations ∧
      (State.setDchan s k c).sent = s.sent := by
  unfold State.setDchan
  simp

@[simp] theorem State.setAchan_rest (s : State) (k : Nat) (c : AChan) :
    (State.setAchan s k c).now = s.now ∧ (State.setAchan s k c).pending = s.pending ∧ (State.setAchan s k c).draws = s.draws ∧
      (State.setAchan s k c).rdata = s.rdata ∧ (State.setAchan s k c).regs = s.regs ∧ (State.setAchan s k c).mem = s.mem ∧
      (State.setAchan s k c).units = s.units ∧ (State.setAchan s k c).objs = s.objs ∧ (State.setAchan s k c).prog = s.prog ∧
      (State.setAchan s k c).img = s.img ∧ (State.setAchan s k c).tsk = s.tsk ∧ (State.setAchan s k c).gz = s.gz ∧
      (State.setAchan s k c).evc = s.evc ∧ (State.setAchan s k c).nv = s.nv ∧ (State.setAchan s k c).rtc = s.rtc ∧
      (State.setAchan s k c).wdg = s.wdg ∧ (State.setAchan s k c).frz = s.frz ∧ (State.setAchan s k c).rcd = s.rcd ∧
      (State.setAchan s k c).boot = s.boot ∧ (State.setAchan s k c).phr = s.phr ∧ (State.setAchan s k c).lpe = s.lpe ∧
      (State.setAchan s k c).trc = s.trc ∧ (State.setAchan s k c).nrg = s.nrg ∧ (State.setAchan s k c).hsb = s.hsb ∧
      (State.setAchan s k c).field.state = s.field.state ∧ (State.setAchan s k c).field.link = s.field.link ∧
      (State.setAchan s k c).field.lastFrame = s.field.lastFrame ∧ (State.setAchan s k c).field.lastUpd = s.field.lastUpd ∧
      (State.setAchan s k c).field.silence = s.field.silence ∧ (State.setAchan s k c).field.silStandby = s.field.silStandby ∧
      (State.setAchan s k c).field.unit = s.field.unit ∧ (State.setAchan s k c).field.digital = s.field.digital ∧
      (State.setAchan s k c).field.enc = s.field.enc ∧ (State.setAchan s k c).field.cmds = s.field.cmds ∧
      (State.setAchan s k c).field.vflow = s.field.vflow ∧ (State.setAchan s k c).field.vfhigh = s.field.vfhigh ∧
      (State.setAchan s k c).field.mv = s.field.mv ∧ (State.setAchan s k c).field.lowCnt = s.field.lowCnt ∧
      (State.setAchan s k c).field.silentCnt = s.field.silentCnt ∧ (State.setAchan s k c).field.safAt = s.field.safAt ∧
      (State.setAchan s k c).field.stoOn = s.field.stoOn ∧ (State.setAchan s k c).field.pulses = s.field.pulses ∧
      (State.setAchan s k c).field.latched = s.field.latched ∧ (State.setAchan s k c).field.latchedBad = s.field.latchedBad ∧
      (State.setAchan s k c).field.owners = s.field.owners ∧ (State.setAchan s k c).can = s.can ∧
      (State.setAchan s k c).saf = s.saf ∧ (State.setAchan s k c).jrn = s.jrn ∧ (State.setAchan s k c).stations = s.stations ∧
      (State.setAchan s k c).sent = s.sent := by
  unfold State.setAchan
  simp

@[simp] theorem State.setEncPair_rest (s : State) (j : Nat) (e : EncSt) :
    (State.setEncPair s j e).now = s.now ∧ (State.setEncPair s j e).pending = s.pending ∧
      (State.setEncPair s j e).draws = s.draws ∧ (State.setEncPair s j e).rdata = s.rdata ∧
      (State.setEncPair s j e).regs = s.regs ∧ (State.setEncPair s j e).mem = s.mem ∧
      (State.setEncPair s j e).units = s.units ∧ (State.setEncPair s j e).objs = s.objs ∧
      (State.setEncPair s j e).prog = s.prog ∧ (State.setEncPair s j e).img = s.img ∧ (State.setEncPair s j e).tsk = s.tsk ∧
      (State.setEncPair s j e).gz = s.gz ∧ (State.setEncPair s j e).evc = s.evc ∧ (State.setEncPair s j e).nv = s.nv ∧
      (State.setEncPair s j e).rtc = s.rtc ∧ (State.setEncPair s j e).wdg = s.wdg ∧ (State.setEncPair s j e).frz = s.frz ∧
      (State.setEncPair s j e).rcd = s.rcd ∧ (State.setEncPair s j e).boot = s.boot ∧ (State.setEncPair s j e).phr = s.phr ∧
      (State.setEncPair s j e).lpe = s.lpe ∧ (State.setEncPair s j e).trc = s.trc ∧ (State.setEncPair s j e).nrg = s.nrg ∧
      (State.setEncPair s j e).hsb = s.hsb ∧ (State.setEncPair s j e).field.state = s.field.state ∧
      (State.setEncPair s j e).field.link = s.field.link ∧ (State.setEncPair s j e).field.lastFrame = s.field.lastFrame ∧
      (State.setEncPair s j e).field.lastUpd = s.field.lastUpd ∧ (State.setEncPair s j e).field.silence = s.field.silence ∧
      (State.setEncPair s j e).field.silStandby = s.field.silStandby ∧ (State.setEncPair s j e).field.unit = s.field.unit ∧
      (State.setEncPair s j e).field.digital = s.field.digital ∧ (State.setEncPair s j e).field.analog = s.field.analog ∧
      (State.setEncPair s j e).field.cmds = s.field.cmds ∧ (State.setEncPair s j e).field.vflow = s.field.vflow ∧
      (State.setEncPair s j e).field.vfhigh = s.field.vfhigh ∧ (State.setEncPair s j e).field.mv = s.field.mv ∧
      (State.setEncPair s j e).field.lowCnt = s.field.lowCnt ∧ (State.setEncPair s j e).field.silentCnt = s.field.silentCnt ∧
      (State.setEncPair s j e).field.safAt = s.field.safAt ∧ (State.setEncPair s j e).field.stoOn = s.field.stoOn ∧
      (State.setEncPair s j e).field.pulses = s.field.pulses ∧ (State.setEncPair s j e).field.latched = s.field.latched ∧
      (State.setEncPair s j e).field.latchedBad = s.field.latchedBad ∧ (State.setEncPair s j e).field.owners = s.field.owners ∧
      (State.setEncPair s j e).can = s.can ∧ (State.setEncPair s j e).saf = s.saf ∧ (State.setEncPair s j e).jrn = s.jrn ∧
      (State.setEncPair s j e).stations = s.stations ∧ (State.setEncPair s j e).sent = s.sent := by
  unfold State.setEncPair
  simp

@[simp] theorem State.setAud_rest (s : State) (k : Nat) (a : AuditSt) :
    (State.setAud s k a).now = s.now ∧ (State.setAud s k a).pending = s.pending ∧ (State.setAud s k a).draws = s.draws ∧
      (State.setAud s k a).rdata = s.rdata ∧ (State.setAud s k a).regs = s.regs ∧ (State.setAud s k a).mem = s.mem ∧
      (State.setAud s k a).units = s.units ∧ (State.setAud s k a).objs = s.objs ∧ (State.setAud s k a).prog = s.prog ∧
      (State.setAud s k a).img = s.img ∧ (State.setAud s k a).tsk = s.tsk ∧ (State.setAud s k a).gz.hdr = s.gz.hdr ∧
      (State.setAud s k a).gz.dir = s.gz.dir ∧ (State.setAud s k a).gz.ent = s.gz.ent ∧
      (State.setAud s k a).gz.eccDir = s.gz.eccDir ∧ (State.setAud s k a).gz.eccEnt = s.gz.eccEnt ∧
      (State.setAud s k a).gz.change = s.gz.change ∧ (State.setAud s k a).gz.cleared = s.gz.cleared ∧
      (State.setAud s k a).gz.pending = s.gz.pending ∧ (State.setAud s k a).gz.next = s.gz.next ∧
      (State.setAud s k a).gz.settle = s.gz.settle ∧ (State.setAud s k a).gz.trig = s.gz.trig ∧
      (State.setAud s k a).gz.run = s.gz.run ∧ (State.setAud s k a).gz.mismatch = s.gz.mismatch ∧
      (State.setAud s k a).gz.wheel = s.gz.wheel ∧ (State.setAud s k a).gz.ready = s.gz.ready ∧
      (State.setAud s k a).gz.extra = s.gz.extra ∧ (State.setAud s k a).gz.slots = s.gz.slots ∧
      (State.setAud s k a).gz.stg = s.gz.stg ∧ (State.setAud s k a).gz.stgErr = s.gz.stgErr ∧
      (State.setAud s k a).gz.stgErrSeg = s.gz.stgErrSeg ∧ (State.setAud s k a).gz.edits = s.gz.edits ∧
      (State.setAud s k a).gz.editCount = s.gz.editCount ∧ (State.setAud s k a).gz.editStatus = s.gz.editStatus ∧
      (State.setAud s k a).gz.audit = s.gz.audit ∧ (State.setAud s k a).gz.cacheBad = s.gz.cacheBad ∧
      (State.setAud s k a).gz.cache = s.gz.cache ∧ (State.setAud s k a).evc = s.evc ∧ (State.setAud s k a).nv = s.nv ∧
      (State.setAud s k a).rtc = s.rtc ∧ (State.setAud s k a).wdg = s.wdg ∧ (State.setAud s k a).frz = s.frz ∧
      (State.setAud s k a).rcd = s.rcd ∧ (State.setAud s k a).boot = s.boot ∧ (State.setAud s k a).phr = s.phr ∧
      (State.setAud s k a).lpe = s.lpe ∧ (State.setAud s k a).trc = s.trc ∧ (State.setAud s k a).nrg = s.nrg ∧
      (State.setAud s k a).hsb = s.hsb ∧ (State.setAud s k a).field = s.field ∧ (State.setAud s k a).can = s.can ∧
      (State.setAud s k a).saf = s.saf ∧ (State.setAud s k a).jrn = s.jrn ∧ (State.setAud s k a).stations = s.stations ∧
      (State.setAud s k a).sent = s.sent := by
  unfold State.setAud
  simp

@[simp] theorem State.modAud_rest (s : State) (k : Nat) (f : AuditSt → AuditSt) :
    (State.modAud s k f).now = s.now ∧ (State.modAud s k f).pending = s.pending ∧ (State.modAud s k f).draws = s.draws ∧
      (State.modAud s k f).rdata = s.rdata ∧ (State.modAud s k f).regs = s.regs ∧ (State.modAud s k f).mem = s.mem ∧
      (State.modAud s k f).units = s.units ∧ (State.modAud s k f).objs = s.objs ∧ (State.modAud s k f).prog = s.prog ∧
      (State.modAud s k f).img = s.img ∧ (State.modAud s k f).tsk = s.tsk ∧ (State.modAud s k f).gz.hdr = s.gz.hdr ∧
      (State.modAud s k f).gz.dir = s.gz.dir ∧ (State.modAud s k f).gz.ent = s.gz.ent ∧
      (State.modAud s k f).gz.eccDir = s.gz.eccDir ∧ (State.modAud s k f).gz.eccEnt = s.gz.eccEnt ∧
      (State.modAud s k f).gz.change = s.gz.change ∧ (State.modAud s k f).gz.cleared = s.gz.cleared ∧
      (State.modAud s k f).gz.pending = s.gz.pending ∧ (State.modAud s k f).gz.next = s.gz.next ∧
      (State.modAud s k f).gz.settle = s.gz.settle ∧ (State.modAud s k f).gz.trig = s.gz.trig ∧
      (State.modAud s k f).gz.run = s.gz.run ∧ (State.modAud s k f).gz.mismatch = s.gz.mismatch ∧
      (State.modAud s k f).gz.wheel = s.gz.wheel ∧ (State.modAud s k f).gz.ready = s.gz.ready ∧
      (State.modAud s k f).gz.extra = s.gz.extra ∧ (State.modAud s k f).gz.slots = s.gz.slots ∧
      (State.modAud s k f).gz.stg = s.gz.stg ∧ (State.modAud s k f).gz.stgErr = s.gz.stgErr ∧
      (State.modAud s k f).gz.stgErrSeg = s.gz.stgErrSeg ∧ (State.modAud s k f).gz.edits = s.gz.edits ∧
      (State.modAud s k f).gz.editCount = s.gz.editCount ∧ (State.modAud s k f).gz.editStatus = s.gz.editStatus ∧
      (State.modAud s k f).gz.audit = s.gz.audit ∧ (State.modAud s k f).gz.cacheBad = s.gz.cacheBad ∧
      (State.modAud s k f).gz.cache = s.gz.cache ∧ (State.modAud s k f).evc = s.evc ∧ (State.modAud s k f).nv = s.nv ∧
      (State.modAud s k f).rtc = s.rtc ∧ (State.modAud s k f).wdg = s.wdg ∧ (State.modAud s k f).frz = s.frz ∧
      (State.modAud s k f).rcd = s.rcd ∧ (State.modAud s k f).boot = s.boot ∧ (State.modAud s k f).phr = s.phr ∧
      (State.modAud s k f).lpe = s.lpe ∧ (State.modAud s k f).trc = s.trc ∧ (State.modAud s k f).nrg = s.nrg ∧
      (State.modAud s k f).hsb = s.hsb ∧ (State.modAud s k f).field = s.field ∧ (State.modAud s k f).can = s.can ∧
      (State.modAud s k f).saf = s.saf ∧ (State.modAud s k f).jrn = s.jrn ∧ (State.modAud s k f).stations = s.stations ∧
      (State.modAud s k f).sent = s.sent := by
  unfold State.modAud
  simp

@[simp] theorem State.setRing_rest (s : State) (r : Nat) (x : RingSt) :
    (State.setRing s r x).now = s.now ∧ (State.setRing s r x).pending = s.pending ∧ (State.setRing s r x).draws = s.draws ∧
      (State.setRing s r x).rdata = s.rdata ∧ (State.setRing s r x).regs = s.regs ∧ (State.setRing s r x).mem = s.mem ∧
      (State.setRing s r x).units = s.units ∧ (State.setRing s r x).objs = s.objs ∧ (State.setRing s r x).prog = s.prog ∧
      (State.setRing s r x).img = s.img ∧ (State.setRing s r x).tsk = s.tsk ∧ (State.setRing s r x).gz = s.gz ∧
      (State.setRing s r x).evc = s.evc ∧ (State.setRing s r x).nv = s.nv ∧ (State.setRing s r x).rtc = s.rtc ∧
      (State.setRing s r x).wdg = s.wdg ∧ (State.setRing s r x).frz = s.frz ∧ (State.setRing s r x).rcd = s.rcd ∧
      (State.setRing s r x).boot = s.boot ∧ (State.setRing s r x).phr.entries = s.phr.entries ∧
      (State.setRing s r x).phr.queues = s.phr.queues ∧ (State.setRing s r x).phr.recs = s.phr.recs ∧
      (State.setRing s r x).phr.newEpoch = s.phr.newEpoch ∧ (State.setRing s r x).phr.ptpRate = s.phr.ptpRate ∧
      (State.setRing s r x).phr.oneStep = s.phr.oneStep ∧ (State.setRing s r x).phr.lastAnn = s.phr.lastAnn ∧
      (State.setRing s r x).phr.gm = s.phr.gm ∧ (State.setRing s r x).phr.delayAt = s.phr.delayAt ∧
      (State.setRing s r x).phr.atStart = s.phr.atStart ∧ (State.setRing s r x).phr.linksDown = s.phr.linksDown ∧
      (State.setRing s r x).lpe = s.lpe ∧ (State.setRing s r x).trc = s.trc ∧ (State.setRing s r x).nrg = s.nrg ∧
      (State.setRing s r x).hsb = s.hsb ∧ (State.setRing s r x).field = s.field ∧ (State.setRing s r x).can = s.can ∧
      (State.setRing s r x).saf = s.saf ∧ (State.setRing s r x).jrn = s.jrn ∧ (State.setRing s r x).stations = s.stations ∧
      (State.setRing s r x).sent = s.sent := by
  unfold State.setRing
  simp

@[simp] theorem State.modRing_rest (s : State) (r : Nat) (f : RingSt → RingSt) :
    (State.modRing s r f).now = s.now ∧ (State.modRing s r f).pending = s.pending ∧ (State.modRing s r f).draws = s.draws ∧
      (State.modRing s r f).rdata = s.rdata ∧ (State.modRing s r f).regs = s.regs ∧ (State.modRing s r f).mem = s.mem ∧
      (State.modRing s r f).units = s.units ∧ (State.modRing s r f).objs = s.objs ∧ (State.modRing s r f).prog = s.prog ∧
      (State.modRing s r f).img = s.img ∧ (State.modRing s r f).tsk = s.tsk ∧ (State.modRing s r f).gz = s.gz ∧
      (State.modRing s r f).evc = s.evc ∧ (State.modRing s r f).nv = s.nv ∧ (State.modRing s r f).rtc = s.rtc ∧
      (State.modRing s r f).wdg = s.wdg ∧ (State.modRing s r f).frz = s.frz ∧ (State.modRing s r f).rcd = s.rcd ∧
      (State.modRing s r f).boot = s.boot ∧ (State.modRing s r f).phr.entries = s.phr.entries ∧
      (State.modRing s r f).phr.queues = s.phr.queues ∧ (State.modRing s r f).phr.recs = s.phr.recs ∧
      (State.modRing s r f).phr.newEpoch = s.phr.newEpoch ∧ (State.modRing s r f).phr.ptpRate = s.phr.ptpRate ∧
      (State.modRing s r f).phr.oneStep = s.phr.oneStep ∧ (State.modRing s r f).phr.lastAnn = s.phr.lastAnn ∧
      (State.modRing s r f).phr.gm = s.phr.gm ∧ (State.modRing s r f).phr.delayAt = s.phr.delayAt ∧
      (State.modRing s r f).phr.atStart = s.phr.atStart ∧ (State.modRing s r f).phr.linksDown = s.phr.linksDown ∧
      (State.modRing s r f).lpe = s.lpe ∧ (State.modRing s r f).trc = s.trc ∧ (State.modRing s r f).nrg = s.nrg ∧
      (State.modRing s r f).hsb = s.hsb ∧ (State.modRing s r f).field = s.field ∧ (State.modRing s r f).can = s.can ∧
      (State.modRing s r f).saf = s.saf ∧ (State.modRing s r f).jrn = s.jrn ∧ (State.modRing s r f).stations = s.stations ∧
      (State.modRing s r f).sent = s.sent := by
  unfold State.modRing
  simp

@[simp] theorem State.setSrec_rest (s : State) (key : Nat) (x : StnRec) :
    (State.setSrec s key x).now = s.now ∧ (State.setSrec s key x).pending = s.pending ∧
      (State.setSrec s key x).draws = s.draws ∧ (State.setSrec s key x).rdata = s.rdata ∧
      (State.setSrec s key x).regs = s.regs ∧ (State.setSrec s key x).mem = s.mem ∧ (State.setSrec s key x).units = s.units ∧
      (State.setSrec s key x).objs = s.objs ∧ (State.setSrec s key x).prog = s.prog ∧ (State.setSrec s key x).img = s.img ∧
      (State.setSrec s key x).tsk = s.tsk ∧ (State.setSrec s key x).gz = s.gz ∧ (State.setSrec s key x).evc = s.evc ∧
      (State.setSrec s key x).nv = s.nv ∧ (State.setSrec s key x).rtc = s.rtc ∧ (State.setSrec s key x).wdg = s.wdg ∧
      (State.setSrec s key x).frz = s.frz ∧ (State.setSrec s key x).rcd = s.rcd ∧ (State.setSrec s key x).boot = s.boot ∧
      (State.setSrec s key x).phr.entries = s.phr.entries ∧ (State.setSrec s key x).phr.queues = s.phr.queues ∧
      (State.setSrec s key x).phr.rings = s.phr.rings ∧ (State.setSrec s key x).phr.newEpoch = s.phr.newEpoch ∧
      (State.setSrec s key x).phr.ptpRate = s.phr.ptpRate ∧ (State.setSrec s key x).phr.oneStep = s.phr.oneStep ∧
      (State.setSrec s key x).phr.lastAnn = s.phr.lastAnn ∧ (State.setSrec s key x).phr.gm = s.phr.gm ∧
      (State.setSrec s key x).phr.delayAt = s.phr.delayAt ∧ (State.setSrec s key x).phr.atStart = s.phr.atStart ∧
      (State.setSrec s key x).phr.linksDown = s.phr.linksDown ∧ (State.setSrec s key x).lpe = s.lpe ∧
      (State.setSrec s key x).trc = s.trc ∧ (State.setSrec s key x).nrg = s.nrg ∧ (State.setSrec s key x).hsb = s.hsb ∧
      (State.setSrec s key x).field = s.field ∧ (State.setSrec s key x).can = s.can ∧ (State.setSrec s key x).saf = s.saf ∧
      (State.setSrec s key x).jrn = s.jrn ∧ (State.setSrec s key x).stations = s.stations ∧
      (State.setSrec s key x).sent = s.sent := by
  unfold State.setSrec
  simp

@[simp] theorem State.modSrec_rest (s : State) (key : Nat) (f : StnRec → StnRec) :
    (State.modSrec s key f).now = s.now ∧ (State.modSrec s key f).pending = s.pending ∧
      (State.modSrec s key f).draws = s.draws ∧ (State.modSrec s key f).rdata = s.rdata ∧
      (State.modSrec s key f).regs = s.regs ∧ (State.modSrec s key f).mem = s.mem ∧ (State.modSrec s key f).units = s.units ∧
      (State.modSrec s key f).objs = s.objs ∧ (State.modSrec s key f).prog = s.prog ∧ (State.modSrec s key f).img = s.img ∧
      (State.modSrec s key f).tsk = s.tsk ∧ (State.modSrec s key f).gz = s.gz ∧ (State.modSrec s key f).evc = s.evc ∧
      (State.modSrec s key f).nv = s.nv ∧ (State.modSrec s key f).rtc = s.rtc ∧ (State.modSrec s key f).wdg = s.wdg ∧
      (State.modSrec s key f).frz = s.frz ∧ (State.modSrec s key f).rcd = s.rcd ∧ (State.modSrec s key f).boot = s.boot ∧
      (State.modSrec s key f).phr.entries = s.phr.entries ∧ (State.modSrec s key f).phr.queues = s.phr.queues ∧
      (State.modSrec s key f).phr.rings = s.phr.rings ∧ (State.modSrec s key f).phr.newEpoch = s.phr.newEpoch ∧
      (State.modSrec s key f).phr.ptpRate = s.phr.ptpRate ∧ (State.modSrec s key f).phr.oneStep = s.phr.oneStep ∧
      (State.modSrec s key f).phr.lastAnn = s.phr.lastAnn ∧ (State.modSrec s key f).phr.gm = s.phr.gm ∧
      (State.modSrec s key f).phr.delayAt = s.phr.delayAt ∧ (State.modSrec s key f).phr.atStart = s.phr.atStart ∧
      (State.modSrec s key f).phr.linksDown = s.phr.linksDown ∧ (State.modSrec s key f).lpe = s.lpe ∧
      (State.modSrec s key f).trc = s.trc ∧ (State.modSrec s key f).nrg = s.nrg ∧ (State.modSrec s key f).hsb = s.hsb ∧
      (State.modSrec s key f).field = s.field ∧ (State.modSrec s key f).can = s.can ∧ (State.modSrec s key f).saf = s.saf ∧
      (State.modSrec s key f).jrn = s.jrn ∧ (State.modSrec s key f).stations = s.stations ∧
      (State.modSrec s key f).sent = s.sent := by
  unfold State.modSrec
  simp

@[simp] theorem State.setNvRec_rest (s : State) (key : Nat) (r : NvRec) :
    (State.setNvRec s key r).now = s.now ∧ (State.setNvRec s key r).pending = s.pending ∧
      (State.setNvRec s key r).draws = s.draws ∧ (State.setNvRec s key r).rdata = s.rdata ∧
      (State.setNvRec s key r).regs = s.regs ∧ (State.setNvRec s key r).mem = s.mem ∧
      (State.setNvRec s key r).units = s.units ∧ (State.setNvRec s key r).objs = s.objs ∧
      (State.setNvRec s key r).prog = s.prog ∧ (State.setNvRec s key r).img = s.img ∧ (State.setNvRec s key r).tsk = s.tsk ∧
      (State.setNvRec s key r).gz = s.gz ∧ (State.setNvRec s key r).evc = s.evc ∧
      (State.setNvRec s key r).nv.prot = s.nv.prot ∧ (State.setNvRec s key r).nv.ready = s.nv.ready ∧
      (State.setNvRec s key r).nv.recalling = s.nv.recalling ∧ (State.setNvRec s key r).nv.ctrs = s.nv.ctrs ∧
      (State.setNvRec s key r).nv.posted = s.nv.posted ∧ (State.setNvRec s key r).nv.saving = s.nv.saving ∧
      (State.setNvRec s key r).nv.saveAt = s.nv.saveAt ∧ (State.setNvRec s key r).nv.saveLen = s.nv.saveLen ∧
      (State.setNvRec s key r).nv.saveUs = s.nv.saveUs ∧ (State.setNvRec s key r).nv.flash = s.nv.flash ∧
      (State.setNvRec s key r).nv.begun = s.nv.begun ∧ (State.setNvRec s key r).nv.incomplete = s.nv.incomplete ∧
      (State.setNvRec s key r).nv.factory = s.nv.factory ∧ (State.setNvRec s key r).nv.ecc = s.nv.ecc ∧
      (State.setNvRec s key r).nv.findings = s.nv.findings ∧ (State.setNvRec s key r).rtc = s.rtc ∧
      (State.setNvRec s key r).wdg = s.wdg ∧ (State.setNvRec s key r).frz = s.frz ∧ (State.setNvRec s key r).rcd = s.rcd ∧
      (State.setNvRec s key r).boot = s.boot ∧ (State.setNvRec s key r).phr = s.phr ∧ (State.setNvRec s key r).lpe = s.lpe ∧
      (State.setNvRec s key r).trc = s.trc ∧ (State.setNvRec s key r).nrg = s.nrg ∧ (State.setNvRec s key r).hsb = s.hsb ∧
      (State.setNvRec s key r).field = s.field ∧ (State.setNvRec s key r).can = s.can ∧ (State.setNvRec s key r).saf = s.saf ∧
      (State.setNvRec s key r).jrn = s.jrn ∧ (State.setNvRec s key r).stations = s.stations ∧
      (State.setNvRec s key r).sent = s.sent := by
  unfold State.setNvRec
  simp

@[simp] theorem State.setEval_rest (s : State) (g : Nat) (w : Word) :
    (State.setEval s g w).now = s.now ∧ (State.setEval s g w).pending = s.pending ∧ (State.setEval s g w).draws = s.draws ∧
      (State.setEval s g w).rdata = s.rdata ∧ (State.setEval s g w).regs = s.regs ∧ (State.setEval s g w).mem = s.mem ∧
      (State.setEval s g w).units = s.units ∧ (State.setEval s g w).objs = s.objs ∧ (State.setEval s g w).prog = s.prog ∧
      (State.setEval s g w).tsk = s.tsk ∧ (State.setEval s g w).gz = s.gz ∧ (State.setEval s g w).evc = s.evc ∧
      (State.setEval s g w).nv = s.nv ∧ (State.setEval s g w).rtc = s.rtc ∧ (State.setEval s g w).wdg = s.wdg ∧
      (State.setEval s g w).frz = s.frz ∧ (State.setEval s g w).rcd = s.rcd ∧ (State.setEval s g w).boot = s.boot ∧
      (State.setEval s g w).phr = s.phr ∧ (State.setEval s g w).lpe = s.lpe ∧ (State.setEval s g w).trc = s.trc ∧
      (State.setEval s g w).nrg = s.nrg ∧ (State.setEval s g w).hsb = s.hsb ∧ (State.setEval s g w).field = s.field ∧
      (State.setEval s g w).can = s.can ∧ (State.setEval s g w).saf = s.saf ∧ (State.setEval s g w).jrn = s.jrn ∧
      (State.setEval s g w).stations = s.stations ∧ (State.setEval s g w).sent = s.sent := by
  unfold State.setEval
  simp

@[simp] theorem State.setM_rest (s : State) (k : Nat) (w : Word) :
    (State.setM s k w).now = s.now ∧ (State.setM s k w).pending = s.pending ∧ (State.setM s k w).draws = s.draws ∧
      (State.setM s k w).rdata = s.rdata ∧ (State.setM s k w).regs = s.regs ∧ (State.setM s k w).mem = s.mem ∧
      (State.setM s k w).units = s.units ∧ (State.setM s k w).objs = s.objs ∧ (State.setM s k w).prog = s.prog ∧
      (State.setM s k w).tsk = s.tsk ∧ (State.setM s k w).gz = s.gz ∧ (State.setM s k w).evc = s.evc ∧
      (State.setM s k w).nv = s.nv ∧ (State.setM s k w).rtc = s.rtc ∧ (State.setM s k w).wdg = s.wdg ∧
      (State.setM s k w).frz = s.frz ∧ (State.setM s k w).rcd = s.rcd ∧ (State.setM s k w).boot = s.boot ∧
      (State.setM s k w).phr = s.phr ∧ (State.setM s k w).lpe = s.lpe ∧ (State.setM s k w).trc = s.trc ∧
      (State.setM s k w).nrg = s.nrg ∧ (State.setM s k w).hsb = s.hsb ∧ (State.setM s k w).field = s.field ∧
      (State.setM s k w).can = s.can ∧ (State.setM s k w).saf = s.saf ∧ (State.setM s k w).jrn = s.jrn ∧
      (State.setM s k w).stations = s.stations ∧ (State.setM s k w).sent = s.sent := by
  unfold State.setM
  simp

@[simp] theorem State.setSamp_rest (s : State) (g : Nat) (w : Word) :
    (State.setSamp s g w).now = s.now ∧ (State.setSamp s g w).pending = s.pending ∧ (State.setSamp s g w).draws = s.draws ∧
      (State.setSamp s g w).rdata = s.rdata ∧ (State.setSamp s g w).regs = s.regs ∧ (State.setSamp s g w).mem = s.mem ∧
      (State.setSamp s g w).units = s.units ∧ (State.setSamp s g w).objs = s.objs ∧ (State.setSamp s g w).prog = s.prog ∧
      (State.setSamp s g w).tsk = s.tsk ∧ (State.setSamp s g w).gz = s.gz ∧ (State.setSamp s g w).evc = s.evc ∧
      (State.setSamp s g w).nv = s.nv ∧ (State.setSamp s g w).rtc = s.rtc ∧ (State.setSamp s g w).wdg = s.wdg ∧
      (State.setSamp s g w).frz = s.frz ∧ (State.setSamp s g w).rcd = s.rcd ∧ (State.setSamp s g w).boot = s.boot ∧
      (State.setSamp s g w).phr = s.phr ∧ (State.setSamp s g w).lpe = s.lpe ∧ (State.setSamp s g w).trc = s.trc ∧
      (State.setSamp s g w).nrg = s.nrg ∧ (State.setSamp s g w).hsb = s.hsb ∧ (State.setSamp s g w).field = s.field ∧
      (State.setSamp s g w).can = s.can ∧ (State.setSamp s g w).saf = s.saf ∧ (State.setSamp s g w).jrn = s.jrn ∧
      (State.setSamp s g w).stations = s.stations ∧ (State.setSamp s g w).sent = s.sent := by
  unfold State.setSamp
  simp

@[simp] theorem State.setXmit_rest (s : State) (g : Nat) (w : Word) :
    (State.setXmit s g w).now = s.now ∧ (State.setXmit s g w).pending = s.pending ∧ (State.setXmit s g w).draws = s.draws ∧
      (State.setXmit s g w).rdata = s.rdata ∧ (State.setXmit s g w).regs = s.regs ∧ (State.setXmit s g w).mem = s.mem ∧
      (State.setXmit s g w).units = s.units ∧ (State.setXmit s g w).objs = s.objs ∧ (State.setXmit s g w).prog = s.prog ∧
      (State.setXmit s g w).tsk = s.tsk ∧ (State.setXmit s g w).gz = s.gz ∧ (State.setXmit s g w).evc = s.evc ∧
      (State.setXmit s g w).nv = s.nv ∧ (State.setXmit s g w).rtc = s.rtc ∧ (State.setXmit s g w).wdg = s.wdg ∧
      (State.setXmit s g w).frz = s.frz ∧ (State.setXmit s g w).rcd = s.rcd ∧ (State.setXmit s g w).boot = s.boot ∧
      (State.setXmit s g w).phr = s.phr ∧ (State.setXmit s g w).lpe = s.lpe ∧ (State.setXmit s g w).trc = s.trc ∧
      (State.setXmit s g w).nrg = s.nrg ∧ (State.setXmit s g w).hsb = s.hsb ∧ (State.setXmit s g w).field = s.field ∧
      (State.setXmit s g w).can = s.can ∧ (State.setXmit s g w).saf = s.saf ∧ (State.setXmit s g w).jrn = s.jrn ∧
      (State.setXmit s g w).stations = s.stations ∧ (State.setXmit s g w).sent = s.sent := by
  unfold State.setXmit
  simp

@[simp] theorem State.setStable_rest (s : State) (g : Nat) (w : Word) :
    (State.setStable s g w).now = s.now ∧ (State.setStable s g w).pending = s.pending ∧
      (State.setStable s g w).draws = s.draws ∧ (State.setStable s g w).rdata = s.rdata ∧
      (State.setStable s g w).regs = s.regs ∧ (State.setStable s g w).mem = s.mem ∧ (State.setStable s g w).units = s.units ∧
      (State.setStable s g w).objs = s.objs ∧ (State.setStable s g w).prog = s.prog ∧ (State.setStable s g w).tsk = s.tsk ∧
      (State.setStable s g w).gz = s.gz ∧ (State.setStable s g w).evc = s.evc ∧ (State.setStable s g w).nv = s.nv ∧
      (State.setStable s g w).rtc = s.rtc ∧ (State.setStable s g w).wdg = s.wdg ∧ (State.setStable s g w).frz = s.frz ∧
      (State.setStable s g w).rcd = s.rcd ∧ (State.setStable s g w).boot = s.boot ∧ (State.setStable s g w).phr = s.phr ∧
      (State.setStable s g w).lpe = s.lpe ∧ (State.setStable s g w).trc = s.trc ∧ (State.setStable s g w).nrg = s.nrg ∧
      (State.setStable s g w).hsb = s.hsb ∧ (State.setStable s g w).field = s.field ∧ (State.setStable s g w).can = s.can ∧
      (State.setStable s g w).saf = s.saf ∧ (State.setStable s g w).jrn = s.jrn ∧
      (State.setStable s g w).stations = s.stations ∧ (State.setStable s g w).sent = s.sent := by
  unfold State.setStable
  simp

@[simp] theorem State.setMBit_rest (s : State) (k b : Nat) (v : Bool) :
    (State.setMBit s k b v).now = s.now ∧ (State.setMBit s k b v).pending = s.pending ∧
      (State.setMBit s k b v).draws = s.draws ∧ (State.setMBit s k b v).rdata = s.rdata ∧
      (State.setMBit s k b v).regs = s.regs ∧ (State.setMBit s k b v).mem = s.mem ∧ (State.setMBit s k b v).units = s.units ∧
      (State.setMBit s k b v).objs = s.objs ∧ (State.setMBit s k b v).prog = s.prog ∧ (State.setMBit s k b v).tsk = s.tsk ∧
      (State.setMBit s k b v).gz = s.gz ∧ (State.setMBit s k b v).evc = s.evc ∧ (State.setMBit s k b v).nv = s.nv ∧
      (State.setMBit s k b v).rtc = s.rtc ∧ (State.setMBit s k b v).wdg = s.wdg ∧ (State.setMBit s k b v).frz = s.frz ∧
      (State.setMBit s k b v).rcd = s.rcd ∧ (State.setMBit s k b v).boot = s.boot ∧ (State.setMBit s k b v).phr = s.phr ∧
      (State.setMBit s k b v).lpe = s.lpe ∧ (State.setMBit s k b v).trc = s.trc ∧ (State.setMBit s k b v).nrg = s.nrg ∧
      (State.setMBit s k b v).hsb = s.hsb ∧ (State.setMBit s k b v).field = s.field ∧ (State.setMBit s k b v).can = s.can ∧
      (State.setMBit s k b v).saf = s.saf ∧ (State.setMBit s k b v).jrn = s.jrn ∧
      (State.setMBit s k b v).stations = s.stations ∧ (State.setMBit s k b v).sent = s.sent := by
  unfold State.setMBit
  simp

@[simp] theorem State.setDelta_rest (s : State) (k : Nat) (d : DeltaSt) :
    (State.setDelta s k d).now = s.now ∧ (State.setDelta s k d).pending = s.pending ∧ (State.setDelta s k d).draws = s.draws ∧
      (State.setDelta s k d).rdata = s.rdata ∧ (State.setDelta s k d).regs = s.regs ∧ (State.setDelta s k d).mem = s.mem ∧
      (State.setDelta s k d).units = s.units ∧ (State.setDelta s k d).objs = s.objs ∧ (State.setDelta s k d).prog = s.prog ∧
      (State.setDelta s k d).img = s.img ∧ (State.setDelta s k d).tsk = s.tsk ∧ (State.setDelta s k d).gz = s.gz ∧
      (State.setDelta s k d).evc = s.evc ∧ (State.setDelta s k d).nv = s.nv ∧ (State.setDelta s k d).rtc = s.rtc ∧
      (State.setDelta s k d).wdg = s.wdg ∧ (State.setDelta s k d).frz = s.frz ∧ (State.setDelta s k d).rcd = s.rcd ∧
      (State.setDelta s k d).boot = s.boot ∧ (State.setDelta s k d).phr = s.phr ∧ (State.setDelta s k d).lpe = s.lpe ∧
      (State.setDelta s k d).trc = s.trc ∧ (State.setDelta s k d).nrg = s.nrg ∧ (State.setDelta s k d).hsb.unit = s.hsb.unit ∧
      (State.setDelta s k d).hsb.role = s.hsb.role ∧ (State.setDelta s k d).hsb.swTime = s.hsb.swTime ∧
      (State.setDelta s k d).hsb.listen = s.hsb.listen ∧ (State.setDelta s k d).hsb.relisten = s.hsb.relisten ∧
      (State.setDelta s k d).hsb.heard = s.hsb.heard ∧ (State.setDelta s k d).hsb.partner = s.hsb.partner ∧
      (State.setDelta s k d).hsb.hb = s.hsb.hb ∧ (State.setDelta s k d).hsb.lost = s.hsb.lost ∧
      (State.setDelta s k d).hsb.seq = s.hsb.seq ∧ (State.setDelta s k d).hsb.hbSent = s.hsb.hbSent ∧
      (State.setDelta s k d).hsb.notice = s.hsb.notice ∧ (State.setDelta s k d).hsb.repeats = s.hsb.repeats ∧
      (State.setDelta s k d).hsb.wait485 = s.hsb.wait485 ∧ (State.setDelta s k d).hsb.follow = s.hsb.follow ∧
      (State.setDelta s k d).hsb.line485 = s.hsb.line485 ∧ (State.setDelta s k d).hsb.rxNotice = s.hsb.rxNotice ∧
      (State.setDelta s k d).hsb.epStore = s.hsb.epStore ∧ (State.setDelta s k d).hsb.mismatches = s.hsb.mismatches ∧
      (State.setDelta s k d).hsb.switch = s.hsb.switch ∧ (State.setDelta s k d).hsb.takeover = s.hsb.takeover ∧
      (State.setDelta s k d).hsb.noAcyc = s.hsb.noAcyc ∧ (State.setDelta s k d).hsb.planned = s.hsb.planned ∧
      (State.setDelta s k d).hsb.copying = s.hsb.copying ∧ (State.setDelta s k d).hsb.copyAt = s.hsb.copyAt ∧
      (State.setDelta s k d).hsb.lastActive = s.hsb.lastActive ∧ (State.setDelta s k d).hsb.proven = s.hsb.proven ∧
      (State.setDelta s k d).hsb.ports = s.hsb.ports ∧ (State.setDelta s k d).hsb.failed = s.hsb.failed ∧
      (State.setDelta s k d).hsb.loadMs = s.hsb.loadMs ∧ (State.setDelta s k d).hsb.loadNow = s.hsb.loadNow ∧
      (State.setDelta s k d).hsb.loadLast = s.hsb.loadLast ∧ (State.setDelta s k d).hsb.feedCnt = s.hsb.feedCnt ∧
      (State.setDelta s k d).hsb.pfwCnt = s.hsb.pfwCnt ∧ (State.setDelta s k d).hsb.relayAt = s.hsb.relayAt ∧
      (State.setDelta s k d).hsb.pairCompat = s.hsb.pairCompat ∧ (State.setDelta s k d).hsb.pBal = s.hsb.pBal ∧
      (State.setDelta s k d).hsb.pStat = s.hsb.pStat ∧ (State.setDelta s k d).hsb.badSet = s.hsb.badSet ∧
      (State.setDelta s k d).field = s.field ∧ (State.setDelta s k d).can = s.can ∧ (State.setDelta s k d).saf = s.saf ∧
      (State.setDelta s k d).jrn = s.jrn ∧ (State.setDelta s k d).stations = s.stations ∧ (State.setDelta s k d).sent = s.sent := by
  unfold State.setDelta
  simp

@[simp] theorem State.modDelta_rest (s : State) (k : Nat) (f : DeltaSt → DeltaSt) :
    (State.modDelta s k f).now = s.now ∧ (State.modDelta s k f).pending = s.pending ∧ (State.modDelta s k f).draws = s.draws ∧
      (State.modDelta s k f).rdata = s.rdata ∧ (State.modDelta s k f).regs = s.regs ∧ (State.modDelta s k f).mem = s.mem ∧
      (State.modDelta s k f).units = s.units ∧ (State.modDelta s k f).objs = s.objs ∧ (State.modDelta s k f).prog = s.prog ∧
      (State.modDelta s k f).img = s.img ∧ (State.modDelta s k f).tsk = s.tsk ∧ (State.modDelta s k f).gz = s.gz ∧
      (State.modDelta s k f).evc = s.evc ∧ (State.modDelta s k f).nv = s.nv ∧ (State.modDelta s k f).rtc = s.rtc ∧
      (State.modDelta s k f).wdg = s.wdg ∧ (State.modDelta s k f).frz = s.frz ∧ (State.modDelta s k f).rcd = s.rcd ∧
      (State.modDelta s k f).boot = s.boot ∧ (State.modDelta s k f).phr = s.phr ∧ (State.modDelta s k f).lpe = s.lpe ∧
      (State.modDelta s k f).trc = s.trc ∧ (State.modDelta s k f).nrg = s.nrg ∧ (State.modDelta s k f).hsb.unit = s.hsb.unit ∧
      (State.modDelta s k f).hsb.role = s.hsb.role ∧ (State.modDelta s k f).hsb.swTime = s.hsb.swTime ∧
      (State.modDelta s k f).hsb.listen = s.hsb.listen ∧ (State.modDelta s k f).hsb.relisten = s.hsb.relisten ∧
      (State.modDelta s k f).hsb.heard = s.hsb.heard ∧ (State.modDelta s k f).hsb.partner = s.hsb.partner ∧
      (State.modDelta s k f).hsb.hb = s.hsb.hb ∧ (State.modDelta s k f).hsb.lost = s.hsb.lost ∧
      (State.modDelta s k f).hsb.seq = s.hsb.seq ∧ (State.modDelta s k f).hsb.hbSent = s.hsb.hbSent ∧
      (State.modDelta s k f).hsb.notice = s.hsb.notice ∧ (State.modDelta s k f).hsb.repeats = s.hsb.repeats ∧
      (State.modDelta s k f).hsb.wait485 = s.hsb.wait485 ∧ (State.modDelta s k f).hsb.follow = s.hsb.follow ∧
      (State.modDelta s k f).hsb.line485 = s.hsb.line485 ∧ (State.modDelta s k f).hsb.rxNotice = s.hsb.rxNotice ∧
      (State.modDelta s k f).hsb.epStore = s.hsb.epStore ∧ (State.modDelta s k f).hsb.mismatches = s.hsb.mismatches ∧
      (State.modDelta s k f).hsb.switch = s.hsb.switch ∧ (State.modDelta s k f).hsb.takeover = s.hsb.takeover ∧
      (State.modDelta s k f).hsb.noAcyc = s.hsb.noAcyc ∧ (State.modDelta s k f).hsb.planned = s.hsb.planned ∧
      (State.modDelta s k f).hsb.copying = s.hsb.copying ∧ (State.modDelta s k f).hsb.copyAt = s.hsb.copyAt ∧
      (State.modDelta s k f).hsb.lastActive = s.hsb.lastActive ∧ (State.modDelta s k f).hsb.proven = s.hsb.proven ∧
      (State.modDelta s k f).hsb.ports = s.hsb.ports ∧ (State.modDelta s k f).hsb.failed = s.hsb.failed ∧
      (State.modDelta s k f).hsb.loadMs = s.hsb.loadMs ∧ (State.modDelta s k f).hsb.loadNow = s.hsb.loadNow ∧
      (State.modDelta s k f).hsb.loadLast = s.hsb.loadLast ∧ (State.modDelta s k f).hsb.feedCnt = s.hsb.feedCnt ∧
      (State.modDelta s k f).hsb.pfwCnt = s.hsb.pfwCnt ∧ (State.modDelta s k f).hsb.relayAt = s.hsb.relayAt ∧
      (State.modDelta s k f).hsb.pairCompat = s.hsb.pairCompat ∧ (State.modDelta s k f).hsb.pBal = s.hsb.pBal ∧
      (State.modDelta s k f).hsb.pStat = s.hsb.pStat ∧ (State.modDelta s k f).hsb.badSet = s.hsb.badSet ∧
      (State.modDelta s k f).field = s.field ∧ (State.modDelta s k f).can = s.can ∧ (State.modDelta s k f).saf = s.saf ∧
      (State.modDelta s k f).jrn = s.jrn ∧ (State.modDelta s k f).stations = s.stations ∧ (State.modDelta s k f).sent = s.sent := by
  unfold State.modDelta
  simp

@[simp] theorem State.setEntry_rest (s : State) (tag : Nat) (e : TxEntry) :
    (State.setEntry s tag e).now = s.now ∧ (State.setEntry s tag e).pending = s.pending ∧
      (State.setEntry s tag e).draws = s.draws ∧ (State.setEntry s tag e).rdata = s.rdata ∧
      (State.setEntry s tag e).regs = s.regs ∧ (State.setEntry s tag e).mem = s.mem ∧
      (State.setEntry s tag e).units = s.units ∧ (State.setEntry s tag e).objs = s.objs ∧
      (State.setEntry s tag e).prog = s.prog ∧ (State.setEntry s tag e).img = s.img ∧ (State.setEntry s tag e).tsk = s.tsk ∧
      (State.setEntry s tag e).gz = s.gz ∧ (State.setEntry s tag e).evc = s.evc ∧ (State.setEntry s tag e).nv = s.nv ∧
      (State.setEntry s tag e).rtc = s.rtc ∧ (State.setEntry s tag e).wdg = s.wdg ∧ (State.setEntry s tag e).frz = s.frz ∧
      (State.setEntry s tag e).rcd = s.rcd ∧ (State.setEntry s tag e).boot = s.boot ∧
      (State.setEntry s tag e).phr.queues = s.phr.queues ∧ (State.setEntry s tag e).phr.rings = s.phr.rings ∧
      (State.setEntry s tag e).phr.recs = s.phr.recs ∧ (State.setEntry s tag e).phr.newEpoch = s.phr.newEpoch ∧
      (State.setEntry s tag e).phr.ptpRate = s.phr.ptpRate ∧ (State.setEntry s tag e).phr.oneStep = s.phr.oneStep ∧
      (State.setEntry s tag e).phr.lastAnn = s.phr.lastAnn ∧ (State.setEntry s tag e).phr.gm = s.phr.gm ∧
      (State.setEntry s tag e).phr.delayAt = s.phr.delayAt ∧ (State.setEntry s tag e).phr.atStart = s.phr.atStart ∧
      (State.setEntry s tag e).phr.linksDown = s.phr.linksDown ∧ (State.setEntry s tag e).lpe = s.lpe ∧
      (State.setEntry s tag e).trc = s.trc ∧ (State.setEntry s tag e).nrg = s.nrg ∧ (State.setEntry s tag e).hsb = s.hsb ∧
      (State.setEntry s tag e).field = s.field ∧ (State.setEntry s tag e).can = s.can ∧ (State.setEntry s tag e).saf = s.saf ∧
      (State.setEntry s tag e).jrn = s.jrn ∧ (State.setEntry s tag e).stations = s.stations ∧
      (State.setEntry s tag e).sent = s.sent := by
  unfold State.setEntry
  simp

@[simp] theorem State.setQueue_rest (s : State) (r : Nat) (q : List Tx) :
    (State.setQueue s r q).now = s.now ∧ (State.setQueue s r q).pending = s.pending ∧ (State.setQueue s r q).draws = s.draws ∧
      (State.setQueue s r q).rdata = s.rdata ∧ (State.setQueue s r q).regs = s.regs ∧ (State.setQueue s r q).mem = s.mem ∧
      (State.setQueue s r q).units = s.units ∧ (State.setQueue s r q).objs = s.objs ∧ (State.setQueue s r q).prog = s.prog ∧
      (State.setQueue s r q).img = s.img ∧ (State.setQueue s r q).tsk = s.tsk ∧ (State.setQueue s r q).gz = s.gz ∧
      (State.setQueue s r q).evc = s.evc ∧ (State.setQueue s r q).nv = s.nv ∧ (State.setQueue s r q).rtc = s.rtc ∧
      (State.setQueue s r q).wdg = s.wdg ∧ (State.setQueue s r q).frz = s.frz ∧ (State.setQueue s r q).rcd = s.rcd ∧
      (State.setQueue s r q).boot = s.boot ∧ (State.setQueue s r q).phr.entries = s.phr.entries ∧
      (State.setQueue s r q).phr.rings = s.phr.rings ∧ (State.setQueue s r q).phr.recs = s.phr.recs ∧
      (State.setQueue s r q).phr.newEpoch = s.phr.newEpoch ∧ (State.setQueue s r q).phr.ptpRate = s.phr.ptpRate ∧
      (State.setQueue s r q).phr.oneStep = s.phr.oneStep ∧ (State.setQueue s r q).phr.lastAnn = s.phr.lastAnn ∧
      (State.setQueue s r q).phr.gm = s.phr.gm ∧ (State.setQueue s r q).phr.delayAt = s.phr.delayAt ∧
      (State.setQueue s r q).phr.atStart = s.phr.atStart ∧ (State.setQueue s r q).phr.linksDown = s.phr.linksDown ∧
      (State.setQueue s r q).lpe = s.lpe ∧ (State.setQueue s r q).trc = s.trc ∧ (State.setQueue s r q).nrg = s.nrg ∧
      (State.setQueue s r q).hsb = s.hsb ∧ (State.setQueue s r q).field = s.field ∧ (State.setQueue s r q).can = s.can ∧
      (State.setQueue s r q).saf = s.saf ∧ (State.setQueue s r q).jrn = s.jrn ∧ (State.setQueue s r q).stations = s.stations ∧
      (State.setQueue s r q).sent = s.sent := by
  unfold State.setQueue
  simp

@[simp] theorem State.setConn_rest (s : State) (n : Nat) (c : SafConn) :
    (State.setConn s n c).now = s.now ∧ (State.setConn s n c).pending = s.pending ∧ (State.setConn s n c).draws = s.draws ∧
      (State.setConn s n c).rdata = s.rdata ∧ (State.setConn s n c).regs = s.regs ∧ (State.setConn s n c).mem = s.mem ∧
      (State.setConn s n c).units = s.units ∧ (State.setConn s n c).objs = s.objs ∧ (State.setConn s n c).prog = s.prog ∧
      (State.setConn s n c).img = s.img ∧ (State.setConn s n c).tsk = s.tsk ∧ (State.setConn s n c).gz = s.gz ∧
      (State.setConn s n c).evc = s.evc ∧ (State.setConn s n c).nv = s.nv ∧ (State.setConn s n c).rtc = s.rtc ∧
      (State.setConn s n c).wdg = s.wdg ∧ (State.setConn s n c).frz = s.frz ∧ (State.setConn s n c).rcd = s.rcd ∧
      (State.setConn s n c).boot = s.boot ∧ (State.setConn s n c).phr = s.phr ∧ (State.setConn s n c).lpe = s.lpe ∧
      (State.setConn s n c).trc = s.trc ∧ (State.setConn s n c).nrg = s.nrg ∧ (State.setConn s n c).hsb = s.hsb ∧
      (State.setConn s n c).field = s.field ∧ (State.setConn s n c).can = s.can ∧
      (State.setConn s n c).saf.state = s.saf.state ∧ (State.setConn s n c).saf.cause = s.saf.cause ∧
      (State.setConn s n c).saf.image = s.saf.image ∧ (State.setConn s n c).saf.conf = s.saf.conf ∧
      (State.setConn s n c).saf.lsErr = s.saf.lsErr ∧ (State.setConn s n c).saf.call = s.saf.call ∧
      (State.setConn s n c).saf.callAt = s.saf.callAt ∧ (State.setConn s n c).saf.initDone = s.saf.initDone ∧
      (State.setConn s n c).saf.cycles = s.saf.cycles ∧ (State.setConn s n c).saf.served = s.saf.served ∧
      (State.setConn s n c).saf.io = s.saf.io ∧ (State.setConn s n c).saf.inputs = s.saf.inputs ∧
      (State.setConn s n c).saf.axes = s.saf.axes ∧ (State.setConn s n c).saf.stos = s.saf.stos ∧
      (State.setConn s n c).saf.rx = s.saf.rx ∧ (State.setConn s n c).jrn = s.jrn ∧
      (State.setConn s n c).stations = s.stations ∧ (State.setConn s n c).sent = s.sent := by
  unfold State.setConn
  simp

@[simp] theorem State.setAxis_rest (s : State) (a : Nat) (x : SafAxis) :
    (State.setAxis s a x).now = s.now ∧ (State.setAxis s a x).pending = s.pending ∧ (State.setAxis s a x).draws = s.draws ∧
      (State.setAxis s a x).rdata = s.rdata ∧ (State.setAxis s a x).regs = s.regs ∧ (State.setAxis s a x).mem = s.mem ∧
      (State.setAxis s a x).units = s.units ∧ (State.setAxis s a x).objs = s.objs ∧ (State.setAxis s a x).prog = s.prog ∧
      (State.setAxis s a x).img = s.img ∧ (State.setAxis s a x).tsk = s.tsk ∧ (State.setAxis s a x).gz = s.gz ∧
      (State.setAxis s a x).evc = s.evc ∧ (State.setAxis s a x).nv = s.nv ∧ (State.setAxis s a x).rtc = s.rtc ∧
      (State.setAxis s a x).wdg = s.wdg ∧ (State.setAxis s a x).frz = s.frz ∧ (State.setAxis s a x).rcd = s.rcd ∧
      (State.setAxis s a x).boot = s.boot ∧ (State.setAxis s a x).phr = s.phr ∧ (State.setAxis s a x).lpe = s.lpe ∧
      (State.setAxis s a x).trc = s.trc ∧ (State.setAxis s a x).nrg = s.nrg ∧ (State.setAxis s a x).hsb = s.hsb ∧
      (State.setAxis s a x).field = s.field ∧ (State.setAxis s a x).can = s.can ∧
      (State.setAxis s a x).saf.state = s.saf.state ∧ (State.setAxis s a x).saf.cause = s.saf.cause ∧
      (State.setAxis s a x).saf.image = s.saf.image ∧ (State.setAxis s a x).saf.conf = s.saf.conf ∧
      (State.setAxis s a x).saf.lsErr = s.saf.lsErr ∧ (State.setAxis s a x).saf.call = s.saf.call ∧
      (State.setAxis s a x).saf.callAt = s.saf.callAt ∧ (State.setAxis s a x).saf.initDone = s.saf.initDone ∧
      (State.setAxis s a x).saf.cycles = s.saf.cycles ∧ (State.setAxis s a x).saf.served = s.saf.served ∧
      (State.setAxis s a x).saf.io = s.saf.io ∧ (State.setAxis s a x).saf.inputs = s.saf.inputs ∧
      (State.setAxis s a x).saf.conns = s.saf.conns ∧ (State.setAxis s a x).saf.stos = s.saf.stos ∧
      (State.setAxis s a x).saf.rx = s.saf.rx ∧ (State.setAxis s a x).jrn = s.jrn ∧
      (State.setAxis s a x).stations = s.stations ∧ (State.setAxis s a x).sent = s.sent := by
  unfold State.setAxis
  simp

@[simp] theorem State.setInput_rest (s : State) (i : Nat) (x : SafInput) :
    (State.setInput s i x).now = s.now ∧ (State.setInput s i x).pending = s.pending ∧ (State.setInput s i x).draws = s.draws ∧
      (State.setInput s i x).rdata = s.rdata ∧ (State.setInput s i x).regs = s.regs ∧ (State.setInput s i x).mem = s.mem ∧
      (State.setInput s i x).units = s.units ∧ (State.setInput s i x).objs = s.objs ∧ (State.setInput s i x).prog = s.prog ∧
      (State.setInput s i x).img = s.img ∧ (State.setInput s i x).tsk = s.tsk ∧ (State.setInput s i x).gz = s.gz ∧
      (State.setInput s i x).evc = s.evc ∧ (State.setInput s i x).nv = s.nv ∧ (State.setInput s i x).rtc = s.rtc ∧
      (State.setInput s i x).wdg = s.wdg ∧ (State.setInput s i x).frz = s.frz ∧ (State.setInput s i x).rcd = s.rcd ∧
      (State.setInput s i x).boot = s.boot ∧ (State.setInput s i x).phr = s.phr ∧ (State.setInput s i x).lpe = s.lpe ∧
      (State.setInput s i x).trc = s.trc ∧ (State.setInput s i x).nrg = s.nrg ∧ (State.setInput s i x).hsb = s.hsb ∧
      (State.setInput s i x).field = s.field ∧ (State.setInput s i x).can = s.can ∧
      (State.setInput s i x).saf.state = s.saf.state ∧ (State.setInput s i x).saf.cause = s.saf.cause ∧
      (State.setInput s i x).saf.image = s.saf.image ∧ (State.setInput s i x).saf.conf = s.saf.conf ∧
      (State.setInput s i x).saf.lsErr = s.saf.lsErr ∧ (State.setInput s i x).saf.call = s.saf.call ∧
      (State.setInput s i x).saf.callAt = s.saf.callAt ∧ (State.setInput s i x).saf.initDone = s.saf.initDone ∧
      (State.setInput s i x).saf.cycles = s.saf.cycles ∧ (State.setInput s i x).saf.served = s.saf.served ∧
      (State.setInput s i x).saf.io = s.saf.io ∧ (State.setInput s i x).saf.axes = s.saf.axes ∧
      (State.setInput s i x).saf.conns = s.saf.conns ∧ (State.setInput s i x).saf.stos = s.saf.stos ∧
      (State.setInput s i x).saf.rx = s.saf.rx ∧ (State.setInput s i x).jrn = s.jrn ∧
      (State.setInput s i x).stations = s.stations ∧ (State.setInput s i x).sent = s.sent := by
  unfold State.setInput
  simp

@[simp] theorem State.setSto_rest (s : State) (o : Nat) (x : StoOut) :
    (State.setSto s o x).now = s.now ∧ (State.setSto s o x).pending = s.pending ∧ (State.setSto s o x).draws = s.draws ∧
      (State.setSto s o x).rdata = s.rdata ∧ (State.setSto s o x).regs = s.regs ∧ (State.setSto s o x).mem = s.mem ∧
      (State.setSto s o x).units = s.units ∧ (State.setSto s o x).objs = s.objs ∧ (State.setSto s o x).prog = s.prog ∧
      (State.setSto s o x).img = s.img ∧ (State.setSto s o x).tsk = s.tsk ∧ (State.setSto s o x).gz = s.gz ∧
      (State.setSto s o x).evc = s.evc ∧ (State.setSto s o x).nv = s.nv ∧ (State.setSto s o x).rtc = s.rtc ∧
      (State.setSto s o x).wdg = s.wdg ∧ (State.setSto s o x).frz = s.frz ∧ (State.setSto s o x).rcd = s.rcd ∧
      (State.setSto s o x).boot = s.boot ∧ (State.setSto s o x).phr = s.phr ∧ (State.setSto s o x).lpe = s.lpe ∧
      (State.setSto s o x).trc = s.trc ∧ (State.setSto s o x).nrg = s.nrg ∧ (State.setSto s o x).hsb = s.hsb ∧
      (State.setSto s o x).field = s.field ∧ (State.setSto s o x).can = s.can ∧ (State.setSto s o x).saf.state = s.saf.state ∧
      (State.setSto s o x).saf.cause = s.saf.cause ∧ (State.setSto s o x).saf.image = s.saf.image ∧
      (State.setSto s o x).saf.conf = s.saf.conf ∧ (State.setSto s o x).saf.lsErr = s.saf.lsErr ∧
      (State.setSto s o x).saf.call = s.saf.call ∧ (State.setSto s o x).saf.callAt = s.saf.callAt ∧
      (State.setSto s o x).saf.initDone = s.saf.initDone ∧ (State.setSto s o x).saf.cycles = s.saf.cycles ∧
      (State.setSto s o x).saf.served = s.saf.served ∧ (State.setSto s o x).saf.io = s.saf.io ∧
      (State.setSto s o x).saf.inputs = s.saf.inputs ∧ (State.setSto s o x).saf.axes = s.saf.axes ∧
      (State.setSto s o x).saf.conns = s.saf.conns ∧ (State.setSto s o x).saf.rx = s.saf.rx ∧
      (State.setSto s o x).jrn = s.jrn ∧ (State.setSto s o x).stations = s.stations ∧ (State.setSto s o x).sent = s.sent := by
  unfold State.setSto
  simp

end Sys2Proof.Machine
end

section
/-!
SUPPORT. StopFrames: what the recorder, the records for the partner, the transactions' queues and a program stop leave (R77, R80).
-/
namespace Sys2Proof.Machine

@[simp] theorem recLost_rest (s : State) (sev : Nat) :
    (recLost s sev).now = s.now ∧ (recLost s sev).pending = s.pending ∧ (recLost s sev).draws = s.draws ∧
      (recLost s sev).rdata = s.rdata ∧ (recLost s sev).mem = s.mem ∧ (recLost s sev).units = s.units ∧
      (recLost s sev).objs = s.objs ∧ (recLost s sev).prog = s.prog ∧ (recLost s sev).img = s.img ∧
      (recLost s sev).tsk = s.tsk ∧ (recLost s sev).gz = s.gz ∧ (recLost s sev).evc = s.evc ∧ (recLost s sev).nv = s.nv ∧
      (recLost s sev).rtc = s.rtc ∧ (recLost s sev).wdg = s.wdg ∧ (recLost s sev).frz = s.frz ∧ (recLost s sev).rcd = s.rcd ∧
      (recLost s sev).boot = s.boot ∧ (recLost s sev).phr = s.phr ∧ (recLost s sev).lpe = s.lpe ∧ (recLost s sev).trc = s.trc ∧
      (recLost s sev).nrg = s.nrg ∧ (recLost s sev).hsb = s.hsb ∧ (recLost s sev).field = s.field ∧
      (recLost s sev).can = s.can ∧ (recLost s sev).saf = s.saf ∧ (recLost s sev).jrn = s.jrn ∧
      (recLost s sev).stations = s.stations ∧ (recLost s sev).sent = s.sent := by
  unfold recLost
  simp

@[simp] theorem recStore_rest (s : State) (e : RecEntry) :
    (recStore s e).1.now = s.now ∧ (recStore s e).1.pending = s.pending ∧ (recStore s e).1.draws = s.draws ∧
      (recStore s e).1.rdata = s.rdata ∧ (recStore s e).1.mem.code = s.mem.code ∧ (recStore s e).1.mem.sram = s.mem.sram ∧
      (recStore s e).1.mem.trace = s.mem.trace ∧ (recStore s e).1.mem.fw = s.mem.fw ∧
      (recStore s e).1.mem.flash = s.mem.flash ∧ (recStore s e).1.units = s.units ∧ (recStore s e).1.objs = s.objs ∧
      (recStore s e).1.prog = s.prog ∧ (recStore s e).1.img = s.img ∧ (recStore s e).1.tsk = s.tsk ∧
      (recStore s e).1.gz = s.gz ∧ (recStore s e).1.evc = s.evc ∧ (recStore s e).1.nv = s.nv ∧ (recStore s e).1.rtc = s.rtc ∧
      (recStore s e).1.wdg = s.wdg ∧ (recStore s e).1.frz = s.frz ∧ (recStore s e).1.boot = s.boot ∧
      (recStore s e).1.phr = s.phr ∧ (recStore s e).1.lpe = s.lpe ∧ (recStore s e).1.trc = s.trc ∧
      (recStore s e).1.nrg = s.nrg ∧ (recStore s e).1.hsb = s.hsb ∧ (recStore s e).1.field = s.field ∧
      (recStore s e).1.can = s.can ∧ (recStore s e).1.saf = s.saf ∧ (recStore s e).1.jrn = s.jrn ∧
      (recStore s e).1.stations = s.stations ∧ (recStore s e).1.sent = s.sent := by
  unfold recStore
  split
  · simp
  · split <;> simp

@[simp] theorem recordR_rest (s : State) (code sev kind num : Nat) (words : List Word) :
    (recordR s code sev kind num words).1.now = s.now ∧ (recordR s code sev kind num words).1.pending = s.pending ∧
      (recordR s code sev kind num words).1.draws = s.draws ∧ (recordR s code sev kind num words).1.rdata = s.rdata ∧
      (recordR s code sev kind num words).1.mem.code = s.mem.code ∧
      (recordR s code sev kind num words).1.mem.sram = s.mem.sram ∧
      (recordR s code sev kind num words).1.mem.trace = s.mem.trace ∧ (recordR s code sev kind num words).1.mem.fw = s.mem.fw ∧
      (recordR s code sev kind num words).1.mem.flash = s.mem.flash ∧ (recordR s code sev kind num words).1.units = s.units ∧
      (recordR s code sev kind num words).1.objs = s.objs ∧ (recordR s code sev kind num words).1.prog = s.prog ∧
      (recordR s code sev kind num words).1.img = s.img ∧ (recordR s code sev kind num words).1.tsk = s.tsk ∧
      (recordR s code sev kind num words).1.gz = s.gz ∧ (recordR s code sev kind num words).1.evc = s.evc ∧
      (recordR s code sev kind num words).1.nv = s.nv ∧ (recordR s code sev kind num words).1.rtc = s.rtc ∧
      (recordR s code sev kind num words).1.wdg = s.wdg ∧ (recordR s code sev kind num words).1.frz = s.frz ∧
      (recordR s code sev kind num words).1.boot = s.boot ∧ (recordR s code sev kind num words).1.phr = s.phr ∧
      (recordR s code sev kind num words).1.lpe = s.lpe ∧ (recordR s code sev kind num words).1.trc = s.trc ∧
      (recordR s code sev kind num words).1.nrg = s.nrg ∧ (recordR s code sev kind num words).1.hsb = s.hsb ∧
      (recordR s code sev kind num words).1.field = s.field ∧ (recordR s code sev kind num words).1.can = s.can ∧
      (recordR s code sev kind num words).1.saf = s.saf ∧ (recordR s code sev kind num words).1.jrn = s.jrn ∧
      (recordR s code sev kind num words).1.stations = s.stations ∧ (recordR s code sev kind num words).1.sent = s.sent := by
  unfold recordR
  dsimp only
  repeat' split
  all_goals simp

@[simp] theorem State.record_rest (s : State) (code sev kind num : Nat) (words : List Nat) :
    (State.record s code sev kind num words).now = s.now ∧ (State.record s code sev kind num words).pending = s.pending ∧
      (State.record s code sev kind num words).draws = s.draws ∧ (State.record s code sev kind num words).rdata = s.rdata ∧
      (State.record s code sev kind num words).mem.code = s.mem.code ∧
      (State.record s code sev kind num words).mem.sram = s.mem.sram ∧
      (State.record s code sev kind num words).mem.trace = s.mem.trace ∧
      (State.record s code sev kind num words).mem.fw = s.mem.fw ∧
      (State.record s code sev kind num words).mem.flash = s.mem.flash ∧
      (State.record s code sev kind num words).units = s.units ∧ (State.record s code sev kind num words).objs = s.objs ∧
      (State.record s code sev kind num words).prog = s.prog ∧ (State.record s code sev kind num words).img = s.img ∧
      (State.record s code sev kind num words).tsk = s.tsk ∧ (State.record s code sev kind num words).gz = s.gz ∧
      (State.record s code sev kind num words).evc = s.evc ∧ (State.record s code sev kind num words).nv = s.nv ∧
      (State.record s code sev kind num words).rtc = s.rtc ∧ (State.record s code sev kind num words).wdg = s.wdg ∧
      (State.record s code sev kind num words).frz = s.frz ∧ (State.record s code sev kind num words).boot = s.boot ∧
      (State.record s code sev kind num words).phr = s.phr ∧ (State.record s code sev kind num words).lpe = s.lpe ∧
      (State.record s code sev kind num words).trc = s.trc ∧ (State.record s code sev kind num words).nrg = s.nrg ∧
      (State.record s code sev kind num words).hsb = s.hsb ∧ (State.record s code sev kind num words).field = s.field ∧
      (State.record s code sev kind num words).can = s.can ∧ (State.record s code sev kind num words).saf = s.saf ∧
      (State.record s code sev kind num words).jrn = s.jrn ∧ (State.record s code sev kind num words).stations = s.stations ∧
      (State.record s code sev kind num words).sent = s.sent := by
  unfold State.record
  simp

@[simp] theorem countDelta_rest (s : State) (n : Nat) :
    (countDelta s n).now = s.now ∧ (countDelta s n).pending = s.pending ∧ (countDelta s n).draws = s.draws ∧
      (countDelta s n).rdata = s.rdata ∧ (countDelta s n).regs = s.regs ∧ (countDelta s n).mem = s.mem ∧
      (countDelta s n).units = s.units ∧ (countDelta s n).objs = s.objs ∧ (countDelta s n).prog = s.prog ∧
      (countDelta s n).img = s.img ∧ (countDelta s n).tsk = s.tsk ∧ (countDelta s n).gz = s.gz ∧ (countDelta s n).evc = s.evc ∧
      (countDelta s n).nv = s.nv ∧ (countDelta s n).rtc = s.rtc ∧ (countDelta s n).wdg = s.wdg ∧ (countDelta s n).frz = s.frz ∧
      (countDelta s n).rcd = s.rcd ∧ (countDelta s n).boot = s.boot ∧ (countDelta s n).phr = s.phr ∧
      (countDelta s n).lpe = s.lpe ∧ (countDelta s n).trc = s.trc ∧ (countDelta s n).nrg = s.nrg ∧
      (countDelta s n).hsb.unit = s.hsb.unit ∧ (countDelta s n).hsb.role = s.hsb.role ∧ (countDelta s n).field = s.field ∧
      (countDelta s n).can = s.can ∧ (countDelta s n).saf = s.saf ∧ (countDelta s n).jrn = s.jrn ∧
      (countDelta s n).stations = s.stations ∧ (countDelta s n).sent = s.sent := by
  unfold countDelta
  simp

@[simp] theorem controlRecord_rest (s : State) (k cycle kind : Nat) (item : List Byte) :
    (controlRecord s k cycle kind item).now = s.now ∧ (controlRecord s k cycle kind item).pending = s.pending ∧
      (controlRecord s k cycle kind item).draws = s.draws ∧ (controlRecord s k cycle kind item).rdata = s.rdata ∧
      (controlRecord s k cycle kind item).regs = s.regs ∧ (controlRecord s k cycle kind item).mem = s.mem ∧
      (controlRecord s k cycle kind item).units = s.units ∧ (controlRecord s k cycle kind item).objs = s.objs ∧
      (controlRecord s k cycle kind item).prog = s.prog ∧ (controlRecord s k cycle kind item).img = s.img ∧
      (controlRecord s k cycle kind item).tsk = s.tsk ∧ (controlRecord s k cycle kind item).gz = s.gz ∧
      (controlRecord s k cycle kind item).evc = s.evc ∧ (controlRecord s k cycle kind item).nv = s.nv ∧
      (controlRecord s k cycle kind item).rtc = s.rtc ∧ (controlRecord s k cycle kind item).wdg = s.wdg ∧
      (controlRecord s k cycle kind item).frz = s.frz ∧ (controlRecord s k cycle kind item).rcd = s.rcd ∧
      (controlRecord s k cycle kind item).boot = s.boot ∧ (controlRecord s k cycle kind item).phr = s.phr ∧
      (controlRecord s k cycle kind item).lpe = s.lpe ∧ (controlRecord s k cycle kind item).trc = s.trc ∧
      (controlRecord s k cycle kind item).nrg = s.nrg ∧ (controlRecord s k cycle kind item).hsb.unit = s.hsb.unit ∧
      (controlRecord s k cycle kind item).hsb.role = s.hsb.role ∧ (controlRecord s k cycle kind item).field = s.field ∧
      (controlRecord s k cycle kind item).can = s.can ∧ (controlRecord s k cycle kind item).saf = s.saf ∧
      (controlRecord s k cycle kind item).jrn = s.jrn ∧ (controlRecord s k cycle kind item).stations = s.stations := by
  unfold controlRecord
  simp

@[simp] theorem controlItem_keeps (s : State) (k kind : Nat) (item : List Byte) :
    (controlItem s k kind item).now = s.now ∧ (controlItem s k kind item).pending = s.pending ∧
      (controlItem s k kind item).draws = s.draws ∧ (controlItem s k kind item).rdata = s.rdata ∧
      (controlItem s k kind item).regs = s.regs ∧ (controlItem s k kind item).mem = s.mem ∧
      (controlItem s k kind item).units = s.units ∧ (controlItem s k kind item).objs = s.objs ∧
      (controlItem s k kind item).prog = s.prog ∧ (controlItem s k kind item).img = s.img ∧
      (controlItem s k kind item).tsk = s.tsk ∧ (controlItem s k kind item).gz = s.gz ∧
      (controlItem s k kind item).evc = s.evc ∧ (controlItem s k kind item).nv = s.nv ∧
      (controlItem s k kind item).rtc = s.rtc ∧ (controlItem s k kind item).wdg = s.wdg ∧
      (controlItem s k kind item).frz = s.frz ∧ (controlItem s k kind item).rcd = s.rcd ∧
      (controlItem s k kind item).boot = s.boot ∧ (controlItem s k kind item).phr = s.phr ∧
      (controlItem s k kind item).lpe = s.lpe ∧ (controlItem s k kind item).trc = s.trc ∧
      (controlItem s k kind item).nrg = s.nrg ∧ (controlItem s k kind item).hsb.unit = s.hsb.unit ∧
      (controlItem s k kind item).hsb.role = s.hsb.role ∧ (controlItem s k kind item).field = s.field ∧
      (controlItem s k kind item).can = s.can ∧ (controlItem s k kind item).saf = s.saf ∧
      (controlItem s k kind item).jrn = s.jrn ∧ (controlItem s k kind item).stations = s.stations := by
  unfold controlItem
  simp

@[simp] theorem queueTx_rest (s : State) (t : Tx) :
    (queueTx s t).now = s.now ∧ (queueTx s t).pending = s.pending ∧ (queueTx s t).draws = s.draws ∧
      (queueTx s t).rdata = s.rdata ∧ (queueTx s t).regs = s.regs ∧ (queueTx s t).mem = s.mem ∧ (queueTx s t).units = s.units ∧
      (queueTx s t).objs = s.objs ∧ (queueTx s t).prog = s.prog ∧ (queueTx s t).img = s.img ∧ (queueTx s t).tsk = s.tsk ∧
      (queueTx s t).gz = s.gz ∧ (queueTx s t).evc = s.evc ∧ (queueTx s t).nv = s.nv ∧ (queueTx s t).rtc = s.rtc ∧
      (queueTx s t).wdg = s.wdg ∧ (queueTx s t).frz = s.frz ∧ (queueTx s t).rcd = s.rcd ∧ (queueTx s t).boot = s.boot ∧
      (queueTx s t).phr.rings = s.phr.rings ∧ (queueTx s t).phr.atStart = s.phr.atStart ∧
      (queueTx s t).phr.linksDown = s.phr.linksDown ∧ (queueTx s t).lpe = s.lpe ∧ (queueTx s t).trc = s.trc ∧
      (queueTx s t).nrg = s.nrg ∧ (queueTx s t).hsb = s.hsb ∧ (queueTx s t).field = s.field ∧ (queueTx s t).can = s.can ∧
      (queueTx s t).saf = s.saf ∧ (queueTx s t).jrn = s.jrn ∧ (queueTx s t).stations = s.stations ∧ (queueTx s t).sent = s.sent := by
  unfold queueTx
  simp

@[simp] theorem cancelEntry_rest (s : State) (tag : Nat) :
    (cancelEntry s tag).now = s.now ∧ (cancelEntry s tag).pending = s.pending ∧ (cancelEntry s tag).draws = s.draws ∧
      (cancelEntry s tag).rdata = s.rdata ∧ (cancelEntry s tag).regs = s.regs ∧ (cancelEntry s tag).mem = s.mem ∧
      (cancelEntry s tag).units = s.units ∧ (cancelEntry s tag).objs = s.objs ∧ (cancelEntry s tag).prog = s.prog ∧
      (cancelEntry s tag).img = s.img ∧ (cancelEntry s tag).tsk = s.tsk ∧ (cancelEntry s tag).gz = s.gz ∧
      (cancelEntry s tag).evc = s.evc ∧ (cancelEntry s tag).nv = s.nv ∧ (cancelEntry s tag).rtc = s.rtc ∧
      (cancelEntry s tag).wdg = s.wdg ∧ (cancelEntry s tag).frz = s.frz ∧ (cancelEntry s tag).rcd = s.rcd ∧
      (cancelEntry s tag).boot = s.boot ∧ (cancelEntry s tag).phr.rings = s.phr.rings ∧
      (cancelEntry s tag).phr.atStart = s.phr.atStart ∧ (cancelEntry s tag).phr.linksDown = s.phr.linksDown ∧
      (cancelEntry s tag).lpe = s.lpe ∧ (cancelEntry s tag).trc = s.trc ∧ (cancelEntry s tag).nrg = s.nrg ∧
      (cancelEntry s tag).hsb = s.hsb ∧ (cancelEntry s tag).field = s.field ∧ (cancelEntry s tag).can = s.can ∧
      (cancelEntry s tag).saf = s.saf ∧ (cancelEntry s tag).jrn = s.jrn ∧ (cancelEntry s tag).stations = s.stations ∧
      (cancelEntry s tag).sent = s.sent := by
  unfold cancelEntry
  simp

@[simp] theorem cancelCyclic_rest (s : State) (stops : Bool) :
    (cancelCyclic s stops).now = s.now ∧ (cancelCyclic s stops).pending = s.pending ∧ (cancelCyclic s stops).draws = s.draws ∧
      (cancelCyclic s stops).rdata = s.rdata ∧ (cancelCyclic s stops).regs = s.regs ∧ (cancelCyclic s stops).mem = s.mem ∧
      (cancelCyclic s stops).units = s.units ∧ (cancelCyclic s stops).objs = s.objs ∧ (cancelCyclic s stops).prog = s.prog ∧
      (cancelCyclic s stops).img = s.img ∧ (cancelCyclic s stops).tsk = s.tsk ∧ (cancelCyclic s stops).gz = s.gz ∧
      (cancelCyclic s stops).evc = s.evc ∧ (cancelCyclic s stops).nv = s.nv ∧ (cancelCyclic s stops).rtc = s.rtc ∧
      (cancelCyclic s stops).wdg = s.wdg ∧ (cancelCyclic s stops).frz = s.frz ∧ (cancelCyclic s stops).rcd = s.rcd ∧
      (cancelCyclic s stops).boot = s.boot ∧ (cancelCyclic s stops).phr.rings = s.phr.rings ∧
      (cancelCyclic s stops).phr.atStart = s.phr.atStart ∧ (cancelCyclic s stops).phr.linksDown = s.phr.linksDown ∧
      (cancelCyclic s stops).lpe = s.lpe ∧ (cancelCyclic s stops).trc = s.trc ∧ (cancelCyclic s stops).nrg = s.nrg ∧
      (cancelCyclic s stops).hsb = s.hsb ∧ (cancelCyclic s stops).field = s.field ∧ (cancelCyclic s stops).can = s.can ∧
      (cancelCyclic s stops).saf = s.saf ∧ (cancelCyclic s stops).jrn = s.jrn ∧ (cancelCyclic s stops).stations = s.stations ∧
      (cancelCyclic s stops).sent = s.sent := by
  unfold cancelCyclic
  simp

@[simp] theorem queueStops_rest (s : State) :
    (queueStops s).now = s.now ∧ (queueStops s).pending = s.pending ∧ (queueStops s).draws = s.draws ∧
      (queueStops s).rdata = s.rdata ∧ (queueStops s).regs = s.regs ∧ (queueStops s).mem = s.mem ∧
      (queueStops s).units = s.units ∧ (queueStops s).objs = s.objs ∧ (queueStops s).prog = s.prog ∧
      (queueStops s).img = s.img ∧ (queueStops s).tsk = s.tsk ∧ (queueStops s).gz = s.gz ∧ (queueStops s).evc = s.evc ∧
      (queueStops s).nv = s.nv ∧ (queueStops s).rtc = s.rtc ∧ (queueStops s).wdg = s.wdg ∧ (queueStops s).frz = s.frz ∧
      (queueStops s).rcd = s.rcd ∧ (queueStops s).boot = s.boot ∧ (queueStops s).phr.rings = s.phr.rings ∧
      (queueStops s).phr.atStart = s.phr.atStart ∧ (queueStops s).phr.linksDown = s.phr.linksDown ∧
      (queueStops s).lpe = s.lpe ∧ (queueStops s).trc = s.trc ∧ (queueStops s).nrg = s.nrg ∧ (queueStops s).hsb = s.hsb ∧
      (queueStops s).field = s.field ∧ (queueStops s).can = s.can ∧ (queueStops s).saf = s.saf ∧ (queueStops s).jrn = s.jrn ∧
      (queueStops s).stations = s.stations ∧ (queueStops s).sent = s.sent := by
  unfold queueStops
  simp

@[simp] theorem canFlag_rest (s : State) (m b : Nat) :
    (canFlag s m b).now = s.now ∧ (canFlag s m b).pending = s.pending ∧ (canFlag s m b).draws = s.draws ∧
      (canFlag s m b).rdata = s.rdata ∧ (canFlag s m b).mem = s.mem ∧ (canFlag s m b).units = s.units ∧
      (canFlag s m b).objs = s.objs ∧ (canFlag s m b).prog = s.prog ∧ (canFlag s m b).img = s.img ∧
      (canFlag s m b).tsk = s.tsk ∧ (canFlag s m b).gz = s.gz ∧ (canFlag s m b).nv = s.nv ∧ (canFlag s m b).rtc = s.rtc ∧
      (canFlag s m b).wdg = s.wdg ∧ (canFlag s m b).frz = s.frz ∧ (canFlag s m b).rcd = s.rcd ∧ (canFlag s m b).boot = s.boot ∧
      (canFlag s m b).phr = s.phr ∧ (canFlag s m b).lpe = s.lpe ∧ (canFlag s m b).trc = s.trc ∧ (canFlag s m b).nrg = s.nrg ∧
      (canFlag s m b).hsb = s.hsb ∧ (canFlag s m b).field = s.field ∧ (canFlag s m b).can = s.can ∧
      (canFlag s m b).saf = s.saf ∧ (canFlag s m b).jrn = s.jrn ∧ (canFlag s m b).stations = s.stations ∧
      (canFlag s m b).sent = s.sent := by
  unfold canFlag
  simp

@[simp] theorem canResult_rest (s : State) (m b r : Nat) :
    (canResult s m b r).now = s.now ∧ (canResult s m b r).pending = s.pending ∧ (canResult s m b r).draws = s.draws ∧
      (canResult s m b r).rdata = s.rdata ∧ (canResult s m b r).mem = s.mem ∧ (canResult s m b r).units = s.units ∧
      (canResult s m b r).objs = s.objs ∧ (canResult s m b r).prog = s.prog ∧ (canResult s m b r).img = s.img ∧
      (canResult s m b r).tsk = s.tsk ∧ (canResult s m b r).gz = s.gz ∧ (canResult s m b r).evc = s.evc ∧
      (canResult s m b r).nv = s.nv ∧ (canResult s m b r).rtc = s.rtc ∧ (canResult s m b r).wdg = s.wdg ∧
      (canResult s m b r).frz = s.frz ∧ (canResult s m b r).rcd = s.rcd ∧ (canResult s m b r).boot = s.boot ∧
      (canResult s m b r).phr = s.phr ∧ (canResult s m b r).lpe = s.lpe ∧ (canResult s m b r).trc = s.trc ∧
      (canResult s m b r).nrg = s.nrg ∧ (canResult s m b r).hsb = s.hsb ∧ (canResult s m b r).field = s.field ∧
      (canResult s m b r).can = s.can ∧ (canResult s m b r).saf = s.saf ∧ (canResult s m b r).jrn = s.jrn ∧
      (canResult s m b r).stations = s.stations ∧ (canResult s m b r).sent = s.sent := by
  unfold canResult
  simp

@[simp] theorem canEnd_rest (s : State) (m b r : Nat) :
    (canEnd s m b r).now = s.now ∧ (canEnd s m b r).pending = s.pending ∧ (canEnd s m b r).draws = s.draws ∧
      (canEnd s m b r).rdata = s.rdata ∧ (canEnd s m b r).mem = s.mem ∧ (canEnd s m b r).units = s.units ∧
      (canEnd s m b r).objs = s.objs ∧ (canEnd s m b r).prog = s.prog ∧ (canEnd s m b r).img = s.img ∧
      (canEnd s m b r).tsk = s.tsk ∧ (canEnd s m b r).gz = s.gz ∧ (canEnd s m b r).nv = s.nv ∧ (canEnd s m b r).rtc = s.rtc ∧
      (canEnd s m b r).wdg = s.wdg ∧ (canEnd s m b r).frz = s.frz ∧ (canEnd s m b r).rcd = s.rcd ∧
      (canEnd s m b r).boot = s.boot ∧ (canEnd s m b r).phr = s.phr ∧ (canEnd s m b r).lpe = s.lpe ∧
      (canEnd s m b r).trc = s.trc ∧ (canEnd s m b r).nrg = s.nrg ∧ (canEnd s m b r).hsb = s.hsb ∧
      (canEnd s m b r).field = s.field ∧ (canEnd s m b r).saf = s.saf ∧ (canEnd s m b r).jrn = s.jrn ∧
      (canEnd s m b r).stations = s.stations ∧ (canEnd s m b r).sent = s.sent := by
  unfold canEnd
  simp

@[simp] theorem canProgramStop_rest (s : State) :
    (canProgramStop s).now = s.now ∧ (canProgramStop s).pending = s.pending ∧ (canProgramStop s).draws = s.draws ∧
      (canProgramStop s).rdata = s.rdata ∧ (canProgramStop s).mem = s.mem ∧ (canProgramStop s).units = s.units ∧
      (canProgramStop s).objs = s.objs ∧ (canProgramStop s).prog = s.prog ∧ (canProgramStop s).img = s.img ∧
      (canProgramStop s).tsk = s.tsk ∧ (canProgramStop s).gz = s.gz ∧ (canProgramStop s).nv = s.nv ∧
      (canProgramStop s).rtc = s.rtc ∧ (canProgramStop s).wdg = s.wdg ∧ (canProgramStop s).frz = s.frz ∧
      (canProgramStop s).rcd = s.rcd ∧ (canProgramStop s).boot = s.boot ∧ (canProgramStop s).phr = s.phr ∧
      (canProgramStop s).lpe = s.lpe ∧ (canProgramStop s).trc = s.trc ∧ (canProgramStop s).nrg = s.nrg ∧
      (canProgramStop s).hsb = s.hsb ∧ (canProgramStop s).field = s.field ∧ (canProgramStop s).saf = s.saf ∧
      (canProgramStop s).jrn = s.jrn ∧ (canProgramStop s).stations = s.stations ∧ (canProgramStop s).sent = s.sent := by
  unfold canProgramStop
  simp

@[simp] theorem publishLoop_rest (s : State) (n : Nat) (o : LoopOut) :
    (publishLoop s n o).now = s.now ∧ (publishLoop s n o).pending = s.pending ∧ (publishLoop s n o).draws = s.draws ∧
      (publishLoop s n o).rdata = s.rdata ∧ (publishLoop s n o).regs = s.regs ∧ (publishLoop s n o).mem = s.mem ∧
      (publishLoop s n o).units = s.units ∧ (publishLoop s n o).objs = s.objs ∧ (publishLoop s n o).prog = s.prog ∧
      (publishLoop s n o).img = s.img ∧ (publishLoop s n o).tsk = s.tsk ∧ (publishLoop s n o).gz = s.gz ∧
      (publishLoop s n o).evc = s.evc ∧ (publishLoop s n o).nv = s.nv ∧ (publishLoop s n o).rtc = s.rtc ∧
      (publishLoop s n o).wdg = s.wdg ∧ (publishLoop s n o).frz = s.frz ∧ (publishLoop s n o).rcd = s.rcd ∧
      (publishLoop s n o).boot = s.boot ∧ (publishLoop s n o).phr = s.phr ∧ (publishLoop s n o).trc = s.trc ∧
      (publishLoop s n o).nrg = s.nrg ∧ (publishLoop s n o).hsb = s.hsb ∧ (publishLoop s n o).field = s.field ∧
      (publishLoop s n o).can = s.can ∧ (publishLoop s n o).saf = s.saf ∧ (publishLoop s n o).jrn = s.jrn ∧
      (publishLoop s n o).stations = s.stations ∧ (publishLoop s n o).sent = s.sent := by
  unfold publishLoop
  simp

@[simp] theorem applyPub_rest (s : State) (p : Pub) :
    (applyPub s p).now = s.now ∧ (applyPub s p).pending = s.pending ∧ (applyPub s p).draws = s.draws ∧
      (applyPub s p).rdata = s.rdata ∧ (applyPub s p).regs = s.regs ∧ (applyPub s p).mem = s.mem ∧
      (applyPub s p).units = s.units ∧ (applyPub s p).objs = s.objs ∧ (applyPub s p).prog = s.prog ∧
      (applyPub s p).tsk = s.tsk ∧ (applyPub s p).gz = s.gz ∧ (applyPub s p).evc = s.evc ∧ (applyPub s p).nv = s.nv ∧
      (applyPub s p).rtc = s.rtc ∧ (applyPub s p).wdg = s.wdg ∧ (applyPub s p).frz = s.frz ∧ (applyPub s p).rcd = s.rcd ∧
      (applyPub s p).boot = s.boot ∧ (applyPub s p).phr = s.phr ∧ (applyPub s p).trc = s.trc ∧ (applyPub s p).nrg = s.nrg ∧
      (applyPub s p).hsb = s.hsb ∧ (applyPub s p).field = s.field ∧ (applyPub s p).can = s.can ∧ (applyPub s p).saf = s.saf ∧
      (applyPub s p).jrn = s.jrn ∧ (applyPub s p).stations = s.stations ∧ (applyPub s p).sent = s.sent := by
  unfold applyPub
  simp

@[simp] theorem applyHeld_rest (s : State) :
    (applyHeld s).now = s.now ∧ (applyHeld s).pending = s.pending ∧ (applyHeld s).draws = s.draws ∧
      (applyHeld s).rdata = s.rdata ∧ (applyHeld s).regs = s.regs ∧ (applyHeld s).mem = s.mem ∧ (applyHeld s).units = s.units ∧
      (applyHeld s).objs = s.objs ∧ (applyHeld s).prog = s.prog ∧ (applyHeld s).tsk.prog = s.tsk.prog ∧
      (applyHeld s).gz = s.gz ∧ (applyHeld s).evc = s.evc ∧ (applyHeld s).nv = s.nv ∧ (applyHeld s).rtc = s.rtc ∧
      (applyHeld s).wdg = s.wdg ∧ (applyHeld s).frz = s.frz ∧ (applyHeld s).rcd = s.rcd ∧ (applyHeld s).boot = s.boot ∧
      (applyHeld s).phr = s.phr ∧ (applyHeld s).trc = s.trc ∧ (applyHeld s).nrg = s.nrg ∧ (applyHeld s).hsb = s.hsb ∧
      (applyHeld s).field = s.field ∧ (applyHeld s).can = s.can ∧ (applyHeld s).saf = s.saf ∧ (applyHeld s).jrn = s.jrn ∧
      (applyHeld s).stations = s.stations ∧ (applyHeld s).sent = s.sent := by
  unfold applyHeld
  simp

@[simp] theorem haltLoops_rest (s : State) :
    (haltLoops s).now = s.now ∧ (haltLoops s).pending = s.pending ∧ (haltLoops s).draws = s.draws ∧
      (haltLoops s).rdata = s.rdata ∧ (haltLoops s).regs = s.regs ∧ (haltLoops s).mem = s.mem ∧ (haltLoops s).units = s.units ∧
      (haltLoops s).objs = s.objs ∧ (haltLoops s).prog = s.prog ∧ (haltLoops s).img = s.img ∧ (haltLoops s).tsk = s.tsk ∧
      (haltLoops s).gz = s.gz ∧ (haltLoops s).evc = s.evc ∧ (haltLoops s).nv = s.nv ∧ (haltLoops s).rtc = s.rtc ∧
      (haltLoops s).wdg = s.wdg ∧ (haltLoops s).frz = s.frz ∧ (haltLoops s).rcd = s.rcd ∧ (haltLoops s).boot = s.boot ∧
      (haltLoops s).phr = s.phr ∧ (haltLoops s).trc = s.trc ∧ (haltLoops s).nrg = s.nrg ∧ (haltLoops s).hsb = s.hsb ∧
      (haltLoops s).field = s.field ∧ (haltLoops s).can = s.can ∧ (haltLoops s).saf = s.saf ∧ (haltLoops s).jrn = s.jrn ∧
      (haltLoops s).stations = s.stations ∧ (haltLoops s).sent = s.sent := by
  unfold haltLoops
  simp

@[simp] theorem replan_rest (s : State) :
    (replan s).now = s.now ∧ (replan s).pending = s.pending ∧ (replan s).draws = s.draws ∧ (replan s).rdata = s.rdata ∧
      (replan s).mem = s.mem ∧ (replan s).units = s.units ∧ (replan s).objs = s.objs ∧ (replan s).prog = s.prog ∧
      (replan s).img = s.img ∧ (replan s).tsk = s.tsk ∧ (replan s).gz = s.gz ∧ (replan s).evc = s.evc ∧ (replan s).nv = s.nv ∧
      (replan s).rtc = s.rtc ∧ (replan s).wdg = s.wdg ∧ (replan s).frz = s.frz ∧ (replan s).rcd = s.rcd ∧
      (replan s).boot = s.boot ∧ (replan s).phr = s.phr ∧ (replan s).lpe = s.lpe ∧ (replan s).trc = s.trc ∧
      (replan s).nrg = s.nrg ∧ (replan s).hsb = s.hsb ∧ (replan s).field = s.field ∧ (replan s).can = s.can ∧
      (replan s).saf = s.saf ∧ (replan s).jrn = s.jrn ∧ (replan s).stations = s.stations ∧ (replan s).sent = s.sent := by
  unfold replan
  simp

@[simp] theorem dropRun_rest (s : State) (p : Run → Bool) :
    (dropRun s p).now = s.now ∧ (dropRun s p).pending = s.pending ∧ (dropRun s p).draws = s.draws ∧
      (dropRun s p).rdata = s.rdata ∧ (dropRun s p).regs = s.regs ∧ (dropRun s p).mem = s.mem ∧ (dropRun s p).objs = s.objs ∧
      (dropRun s p).prog = s.prog ∧ (dropRun s p).img = s.img ∧ (dropRun s p).tsk = s.tsk ∧ (dropRun s p).gz = s.gz ∧
      (dropRun s p).evc = s.evc ∧ (dropRun s p).nv = s.nv ∧ (dropRun s p).rtc = s.rtc ∧ (dropRun s p).wdg = s.wdg ∧
      (dropRun s p).frz = s.frz ∧ (dropRun s p).rcd = s.rcd ∧ (dropRun s p).boot = s.boot ∧ (dropRun s p).phr = s.phr ∧
      (dropRun s p).lpe = s.lpe ∧ (dropRun s p).trc = s.trc ∧ (dropRun s p).nrg = s.nrg ∧ (dropRun s p).hsb = s.hsb ∧
      (dropRun s p).field = s.field ∧ (dropRun s p).can = s.can ∧ (dropRun s p).saf = s.saf ∧ (dropRun s p).jrn = s.jrn ∧
      (dropRun s p).stations = s.stations ∧ (dropRun s p).sent = s.sent := by
  unfold dropRun
  simp (disch := intros; split <;> simp)

@[simp] theorem abandonAudit_rest (s : State) (k : Nat) :
    (abandonAudit s k).now = s.now ∧ (abandonAudit s k).pending = s.pending ∧ (abandonAudit s k).draws = s.draws ∧
      (abandonAudit s k).rdata = s.rdata ∧ (abandonAudit s k).mem = s.mem ∧ (abandonAudit s k).objs = s.objs ∧
      (abandonAudit s k).prog = s.prog ∧ (abandonAudit s k).img = s.img ∧ (abandonAudit s k).tsk = s.tsk ∧
      (abandonAudit s k).evc = s.evc ∧ (abandonAudit s k).nv = s.nv ∧ (abandonAudit s k).rtc = s.rtc ∧
      (abandonAudit s k).wdg = s.wdg ∧ (abandonAudit s k).frz = s.frz ∧ (abandonAudit s k).rcd = s.rcd ∧
      (abandonAudit s k).boot = s.boot ∧ (abandonAudit s k).phr = s.phr ∧ (abandonAudit s k).lpe = s.lpe ∧
      (abandonAudit s k).trc = s.trc ∧ (abandonAudit s k).nrg = s.nrg ∧ (abandonAudit s k).hsb = s.hsb ∧
      (abandonAudit s k).field = s.field ∧ (abandonAudit s k).can = s.can ∧ (abandonAudit s k).saf = s.saf ∧
      (abandonAudit s k).jrn = s.jrn ∧ (abandonAudit s k).stations = s.stations ∧ (abandonAudit s k).sent = s.sent := by
  unfold abandonAudit
  split <;> simp

@[simp] theorem abandonAny_rest (s : State) :
    (abandonAny s).now = s.now ∧ (abandonAny s).pending = s.pending ∧ (abandonAny s).draws = s.draws ∧
      (abandonAny s).rdata = s.rdata ∧ (abandonAny s).mem = s.mem ∧ (abandonAny s).objs = s.objs ∧
      (abandonAny s).prog = s.prog ∧ (abandonAny s).img = s.img ∧ (abandonAny s).tsk = s.tsk ∧ (abandonAny s).evc = s.evc ∧
      (abandonAny s).nv = s.nv ∧ (abandonAny s).rtc = s.rtc ∧ (abandonAny s).wdg = s.wdg ∧ (abandonAny s).frz = s.frz ∧
      (abandonAny s).rcd = s.rcd ∧ (abandonAny s).boot = s.boot ∧ (abandonAny s).phr = s.phr ∧ (abandonAny s).lpe = s.lpe ∧
      (abandonAny s).trc = s.trc ∧ (abandonAny s).nrg = s.nrg ∧ (abandonAny s).hsb = s.hsb ∧ (abandonAny s).field = s.field ∧
      (abandonAny s).can = s.can ∧ (abandonAny s).saf = s.saf ∧ (abandonAny s).jrn = s.jrn ∧
      (abandonAny s).stations = s.stations ∧ (abandonAny s).sent = s.sent := by
  unfold abandonAny
  split <;> simp

@[simp] theorem stgFail_rest (s : State) (err seg : Nat) :
    (stgFail s err seg).now = s.now ∧ (stgFail s err seg).pending = s.pending ∧ (stgFail s err seg).draws = s.draws ∧
      (stgFail s err seg).rdata = s.rdata ∧ (stgFail s err seg).regs = s.regs ∧ (stgFail s err seg).mem = s.mem ∧
      (stgFail s err seg).units = s.units ∧ (stgFail s err seg).objs = s.objs ∧ (stgFail s err seg).prog = s.prog ∧
      (stgFail s err seg).img = s.img ∧ (stgFail s err seg).tsk = s.tsk ∧ (stgFail s err seg).evc = s.evc ∧
      (stgFail s err seg).nv = s.nv ∧ (stgFail s err seg).rtc = s.rtc ∧ (stgFail s err seg).wdg = s.wdg ∧
      (stgFail s err seg).frz = s.frz ∧ (stgFail s err seg).rcd = s.rcd ∧ (stgFail s err seg).boot = s.boot ∧
      (stgFail s err seg).phr = s.phr ∧ (stgFail s err seg).lpe = s.lpe ∧ (stgFail s err seg).trc = s.trc ∧
      (stgFail s err seg).nrg = s.nrg ∧ (stgFail s err seg).hsb = s.hsb ∧ (stgFail s err seg).field = s.field ∧
      (stgFail s err seg).can = s.can ∧ (stgFail s err seg).saf = s.saf ∧ (stgFail s err seg).jrn = s.jrn ∧
      (stgFail s err seg).stations = s.stations ∧ (stgFail s err seg).sent = s.sent := by
  unfold stgFail
  simp

@[simp] theorem stgStopped_rest (s : State) :
    (stgStopped s).now = s.now ∧ (stgStopped s).pending = s.pending ∧ (stgStopped s).draws = s.draws ∧
      (stgStopped s).rdata = s.rdata ∧ (stgStopped s).regs = s.regs ∧ (stgStopped s).mem = s.mem ∧
      (stgStopped s).units = s.units ∧ (stgStopped s).objs = s.objs ∧ (stgStopped s).prog = s.prog ∧
      (stgStopped s).img = s.img ∧ (stgStopped s).tsk = s.tsk ∧ (stgStopped s).evc = s.evc ∧ (stgStopped s).nv = s.nv ∧
      (stgStopped s).rtc = s.rtc ∧ (stgStopped s).wdg = s.wdg ∧ (stgStopped s).frz = s.frz ∧ (stgStopped s).rcd = s.rcd ∧
      (stgStopped s).boot = s.boot ∧ (stgStopped s).phr = s.phr ∧ (stgStopped s).lpe = s.lpe ∧ (stgStopped s).trc = s.trc ∧
      (stgStopped s).nrg = s.nrg ∧ (stgStopped s).hsb = s.hsb ∧ (stgStopped s).field = s.field ∧ (stgStopped s).can = s.can ∧
      (stgStopped s).saf = s.saf ∧ (stgStopped s).jrn = s.jrn ∧ (stgStopped s).stations = s.stations ∧
      (stgStopped s).sent = s.sent := by
  unfold stgStopped
  simp

@[simp] theorem haltEvaluation_rest (s : State) :
    (haltEvaluation s).now = s.now ∧ (haltEvaluation s).pending = s.pending ∧ (haltEvaluation s).draws = s.draws ∧
      (haltEvaluation s).rdata = s.rdata ∧ (haltEvaluation s).mem = s.mem ∧ (haltEvaluation s).objs = s.objs ∧
      (haltEvaluation s).prog = s.prog ∧ (haltEvaluation s).tsk.prog = s.tsk.prog ∧ (haltEvaluation s).evc = s.evc ∧
      (haltEvaluation s).nv = s.nv ∧ (haltEvaluation s).rtc = s.rtc ∧ (haltEvaluation s).wdg = s.wdg ∧
      (haltEvaluation s).frz = s.frz ∧ (haltEvaluation s).rcd = s.rcd ∧ (haltEvaluation s).boot = s.boot ∧
      (haltEvaluation s).phr = s.phr ∧ (haltEvaluation s).trc = s.trc ∧ (haltEvaluation s).hsb = s.hsb ∧
      (haltEvaluation s).field = s.field ∧ (haltEvaluation s).can = s.can ∧ (haltEvaluation s).saf = s.saf ∧
      (haltEvaluation s).jrn = s.jrn ∧ (haltEvaluation s).stations = s.stations ∧ (haltEvaluation s).sent = s.sent := by
  unfold haltEvaluation
  simp

@[simp] theorem finishStop_rest (s : State) :
    (finishStop s).now = s.now ∧ (finishStop s).pending = s.pending ∧ (finishStop s).draws = s.draws ∧
      (finishStop s).rdata = s.rdata ∧ (finishStop s).mem.code = s.mem.code ∧ (finishStop s).mem.sram = s.mem.sram ∧
      (finishStop s).mem.trace = s.mem.trace ∧ (finishStop s).mem.fw = s.mem.fw ∧ (finishStop s).mem.flash = s.mem.flash ∧
      (finishStop s).units = s.units ∧ (finishStop s).objs = s.objs ∧ (finishStop s).prog = s.prog ∧
      (finishStop s).img = s.img ∧ (finishStop s).gz = s.gz ∧ (finishStop s).evc = s.evc ∧ (finishStop s).nv = s.nv ∧
      (finishStop s).rtc = s.rtc ∧ (finishStop s).wdg = s.wdg ∧ (finishStop s).frz = s.frz ∧ (finishStop s).boot = s.boot ∧
      (finishStop s).phr = s.phr ∧ (finishStop s).lpe = s.lpe ∧ (finishStop s).trc = s.trc ∧ (finishStop s).nrg = s.nrg ∧
      (finishStop s).hsb = s.hsb ∧ (finishStop s).field = s.field ∧ (finishStop s).can = s.can ∧ (finishStop s).saf = s.saf ∧
      (finishStop s).jrn = s.jrn ∧ (finishStop s).stations = s.stations ∧ (finishStop s).sent = s.sent := by
  unfold finishStop
  simp

@[simp] theorem haltProgram_rest (s : State) :
    (haltProgram s).now = s.now ∧ (haltProgram s).pending = s.pending ∧ (haltProgram s).draws = s.draws ∧
      (haltProgram s).rdata = s.rdata ∧ (haltProgram s).mem = s.mem ∧ (haltProgram s).objs = s.objs ∧
      (haltProgram s).prog = s.prog ∧ (haltProgram s).tsk.prog = s.tsk.prog ∧ (haltProgram s).nv = s.nv ∧
      (haltProgram s).rtc = s.rtc ∧ (haltProgram s).wdg = s.wdg ∧ (haltProgram s).frz = s.frz ∧ (haltProgram s).rcd = s.rcd ∧
      (haltProgram s).boot = s.boot ∧ (haltProgram s).phr.rings = s.phr.rings ∧ (haltProgram s).phr.atStart = s.phr.atStart ∧
      (haltProgram s).phr.linksDown = s.phr.linksDown ∧ (haltProgram s).trc = s.trc ∧ (haltProgram s).hsb = s.hsb ∧
      (haltProgram s).field = s.field ∧ (haltProgram s).saf = s.saf ∧ (haltProgram s).jrn = s.jrn ∧
      (haltProgram s).stations = s.stations ∧ (haltProgram s).sent = s.sent := by
  unfold haltProgram
  simp

@[simp] theorem programStop_rest (s : State) (cause k : Nat) :
    (programStop s cause k).now = s.now ∧ (programStop s cause k).pending = s.pending ∧
      (programStop s cause k).draws = s.draws ∧ (programStop s cause k).rdata = s.rdata ∧
      (programStop s cause k).mem.code = s.mem.code ∧ (programStop s cause k).mem.sram = s.mem.sram ∧
      (programStop s cause k).mem.trace = s.mem.trace ∧ (programStop s cause k).mem.fw = s.mem.fw ∧
      (programStop s cause k).mem.flash = s.mem.flash ∧ (programStop s cause k).objs = s.objs ∧
      (programStop s cause k).prog = s.prog ∧ (programStop s cause k).nv = s.nv ∧ (programStop s cause k).rtc = s.rtc ∧
      (programStop s cause k).wdg = s.wdg ∧ (programStop s cause k).frz = s.frz ∧ (programStop s cause k).boot = s.boot ∧
      (programStop s cause k).phr.rings = s.phr.rings ∧ (programStop s cause k).phr.atStart = s.phr.atStart ∧
      (programStop s cause k).phr.linksDown = s.phr.linksDown ∧ (programStop s cause k).trc = s.trc ∧
      (programStop s cause k).hsb.unit = s.hsb.unit ∧ (programStop s cause k).hsb.role = s.hsb.role ∧
      (programStop s cause k).saf = s.saf ∧ (programStop s cause k).jrn = s.jrn ∧ (programStop s cause k).stations = s.stations := by
  unfold programStop
  simp

@[simp] theorem stopPreparing_rest (s : State) (cause k : Nat) :
    (stopPreparing s cause k).now = s.now ∧ (stopPreparing s cause k).pending = s.pending ∧
      (stopPreparing s cause k).draws = s.draws ∧ (stopPreparing s cause k).rdata = s.rdata ∧
      (stopPreparing s cause k).mem.code = s.mem.code ∧ (stopPreparing s cause k).mem.sram = s.mem.sram ∧
      (stopPreparing s cause k).mem.trace = s.mem.trace ∧ (stopPreparing s cause k).mem.fw = s.mem.fw ∧
      (stopPreparing s cause k).mem.flash = s.mem.flash ∧ (stopPreparing s cause k).units = s.units ∧
      (stopPreparing s cause k).objs = s.objs ∧ (stopPreparing s cause k).prog = s.prog ∧
      (stopPreparing s cause k).img = s.img ∧ (stopPreparing s cause k).gz = s.gz ∧ (stopPreparing s cause k).evc = s.evc ∧
      (stopPreparing s cause k).nv = s.nv ∧ (stopPreparing s cause k).rtc = s.rtc ∧ (stopPreparing s cause k).wdg = s.wdg ∧
      (stopPreparing s cause k).frz = s.frz ∧ (stopPreparing s cause k).boot = s.boot ∧ (stopPreparing s cause k).phr = s.phr ∧
      (stopPreparing s cause k).lpe = s.lpe ∧ (stopPreparing s cause k).trc = s.trc ∧ (stopPreparing s cause k).nrg = s.nrg ∧
      (stopPreparing s cause k).hsb.unit = s.hsb.unit ∧ (stopPreparing s cause k).hsb.role = s.hsb.role ∧
      (stopPreparing s cause k).field = s.field ∧ (stopPreparing s cause k).can = s.can ∧
      (stopPreparing s cause k).saf = s.saf ∧ (stopPreparing s cause k).jrn = s.jrn ∧
      (stopPreparing s cause k).stations = s.stations := by
  unfold stopPreparing
  simp

end Sys2Proof.Machine
end

section
/-!
PROOF. The step: it runs the command at the front of the queue, and keeps the locked part of the state; what reset leaves.
-/
namespace Sys2Proof.Machine

/-- Every command keeps the locked part of the state, for each meaning does. -/
theorem exec_kept (c : Instr) (s : State) : outKept s.locked (exec c s) := by
  cases c <;> dsimp only [exec] <;> simp

theorem locked_eq_iff (s : State) (q : List Instr) (f : Tbl (List Byte)) (h : List Byte) (m : Mem) :
    s.locked = (q, f, h, m) ↔ s.nv.factory = f ∧ s.boot.fuse = h ∧ factoryPages s.mem.mram = m ∧ s.pending = q := by
  simp only [State.locked, Prod.mk.injEq]
  tauto

/-- With no command waiting a nanosecond passes. -/
theorem step_idle (s : State) (h : s.pending = []) : step s = .next { s with now := s.now + 1 } := by
  simp [step, h]

/-- Settles O2: an idle step changes the timebase alone, and a command keeps what is locked and the queue behind it. -/
theorem stepKeepsFactory : Obligations.StepKeepsFactory := by
  intro f h m q s t hf hh hm hq hstep
  rw [← locked_eq_iff]
  cases q with
  | nil =>
    rw [step_idle s hq] at hstep
    obtain rfl := Host.Outcome.next.inj hstep
    exact (locked_eq_iff _ _ _ _ _).2 ⟨hf, hh, hm, hq⟩
  | cons c rest =>
    have hexec : exec c { s with pending := rest } = .next t := by simpa [step, hq] using hstep
    rw [exec_kept c _ t hexec]
    exact (locked_eq_iff _ _ _ _ _).2 ⟨hf, hh, hm, rfl⟩

/-- Settles O1: both clauses are the two cases of the queue. -/
theorem stepRunsFront : Obligations.StepRunsFront := ⟨fun _ _ _ => rfl, step_idle⟩

/-- Settles O3: the reset state lists nothing there. -/
theorem resetFactory : Obligations.ResetFactory := ⟨rfl, rfl, rfl, rfl⟩

/-- The fields whose reset value is not 0: VENDOR, ISLAND, and the priority of each task, which is its number (R95). -/
theorem reset_fields : State.reset.fld SYS_ID_VENDOR = 0x59A1 ∧ State.reset.fld SYS_DOMSTAT_ISLAND = 15 ∧
    ∀ k : Fin 24, State.reset.fld (TSK_CTRL_PRIO k.val) = k.val := by decide +kernel

/-- Settles O4: the values of the state after reset; a register that is not listed reads its reset value. -/
theorem resetLeaves : Obligations.ResetLeaves := by
  obtain ⟨hvendor, hislands, hprio⟩ := reset_fields
  exact ⟨rfl, rfl, rfl, rfl, rfl, rfl, hvendor, hislands, hprio, fun _ => rfl⟩

end Sys2Proof.Machine
end

section
/-!
PROOF. StopKeepsItsCause and ProgramStop: what a stop of the program says of itself (R77, R80, R88, R91).
-/
namespace Sys2Proof.Machine

/-- The end of a stop leaves a STOPPING program STOPPING, or STOPPED where no stop is to be acknowledged. -/
theorem finishStop_prog (s : State) (h : s.tsk.prog = .stopping) :
    (finishStop s).tsk.prog = .stopping ∨ (finishStop s).tsk.prog = .stopped := by
  unfold finishStop
  split
  · exact Or.inr (by simp)
  · exact Or.inl h

/-- A stop of a running program ends in STOPPING, or in STOPPED where no stop is to be acknowledged (R80). -/
theorem programStop_prog (s : State) (cause k : Nat) (h : s.running = true) :
    (programStop s cause k).tsk.prog = .stopping ∨ (programStop s cause k).tsk.prog = .stopped := by
  have hrun : s.tsk.prog = .running := eq_of_beq h
  unfold programStop
  rw [if_pos hrun]
  exact finishStop_prog _ (by simp)

/-- Settles O13: from what a stop says, with the state that it ends in. -/
theorem stopKeepsItsCause : Obligations.StopKeepsItsCause := by
  intro s cause k hrun
  obtain ⟨-, hcause, htask, htime, -⟩ := programStop_says s cause k hrun
  exact ⟨programStop_prog s cause k hrun, hcause, htask, htime⟩

end Sys2Proof.Machine
end

section
/-!
PROOF. RegisterCommands: a command that is the write of a register does what the register's block does with the value (R7, R29), each
row by the block that its address lies in.
-/
namespace Sys2Proof.Machine

/-- A register of the peripherals lies at the address, and it is no word of a loop record. -/
def plainRegister (a : Nat) : Bool :=
  (regThere a && areaOf a == some .periph && a % 4 == 0) && !(decide (LPE_RWORD 0 ≤ a) && decide (a < LPE_RWORD 32))

/-- What a command that writes a register says: the effect of the register's block, which a partner is told, or the refusal. -/
def WritesAs (s : State) (core : CoreId) (p : Instr × Nat × Option State) : Prop :=
  MayWrite s core p.2.1 →
    (∀ t, p.2.2 = some t → exec p.1 s = .next (shareRegister s t p.2.1) ∧
      (t.role ≠ roleActive ∨ objectsAt p.2.1 = [] → exec p.1 s = .next t)) ∧
    (p.2.2 = none → exec p.1 s = .next (raiseExc s core.val exAccess 1 p.2.1 (s.unit core.val).pc))

/-- A core's store to a register is what the register's block makes of it. -/
theorem writesAs_of_block {s : State} {core : CoreId} {v : Word} {c : Instr} {a : Nat} {w : Option State}
    (hexec : exec c s = .next (coreStore s core.val a v)) (hreg : plainRegister a = true)
    (hw : blockWrite s (privOf s core.val) a v = w) : WritesAs s core (c, a, w) := by
  intro hmay
  simp only [plainRegister, Bool.and_eq_true, Bool.not_eq_true', Bool.and_eq_false_iff, decide_eq_false_iff_not] at hreg
  obtain ⟨hthere, hloop⟩ := hreg
  subst hw
  refine ⟨fun t ht => ?_, fun hnone => ?_⟩
  · have hstore := hexec.trans (congrArg Host.Outcome.next (coreStore_permitted s t core a v hmay (by simpa using hthere) ht))
    refine ⟨hstore, fun hquiet => hstore.trans (congrArg Host.Outcome.next ?_)⟩
    rcases hquiet with hrole | hobj
    · exact shareRegister_inactive s t a hrole
    · exact shareRegister_of_no_objects s t a (by simp only [not_and]; tauto) hobj
  · simp only [beq_iff_eq] at hthere
    obtain ⟨⟨hdef, harea⟩, h4⟩ := hthere
    rw [← periphWrite_permitted s core a v hmay hdef] at hnone
    exact hexec.trans (congrArg Host.Outcome.next (coreStore_refused s core.val a v hmay.1 hmay.2.1 harea h4 hnone))

/-- A command that writes a register in which no object has its home, or on a module that tells no partner, has the block's effect. -/
theorem exec_of_block {s t : State} {core : CoreId} {v : Word} {c : Instr} {a : Nat} (hmay : MayWrite s core a)
    (hexec : exec c s = .next (coreStore s core.val a v)) (hreg : plainRegister a = true)
    (hquiet : t.role ≠ roleActive ∨ objectsAt a = []) (hw : blockWrite s (privOf s core.val) a v = some t) : exec c s = .next t :=
  ((writesAs_of_block hexec hreg rfl hmay).1 t hw).2 hquiet

/-- A command that writes a register whose block refuses the write raises cause 0x03. -/
theorem exec_of_block_refused {s : State} {core : CoreId} {v : Word} {c : Instr} {a : Nat} (hmay : MayWrite s core a)
    (hexec : exec c s = .next (coreStore s core.val a v)) (hreg : plainRegister a = true)
    (hw : blockWrite s (privOf s core.val) a v = none) :
    exec c s = .next (raiseExc s core.val exAccess 1 a (s.unit core.val).pc) :=
  (writesAs_of_block hexec hreg rfl hmay).2 hw

theorem forall_mem_cons_of {α : Type} {P : α → Prop} {x : α} {xs : List α} (hx : P x) (hxs : ∀ y ∈ xs, P y) :
    ∀ y ∈ x :: xs, P y := List.forall_mem_cons.2 ⟨hx, hxs⟩

/-! ### Registers that there are several of -/

/-- The registers that there are several of are plain, as is every one that only one command writes and no object has its home in. -/
theorem plainRegisters :
    (∀ c : Fin 8, plainRegister (LANE_CLCTRL c.val) = true ∧ plainRegister (TRC_CMD c.val) = true) ∧
    (∀ r : Fin 16, plainRegister (DIO_ENCCTRL r.val) = true ∧ plainRegister (DIO_ENCCNT r.val) = true) ∧
    (∀ m : Fin 2, plainRegister (CAN_CTRL m.val) = true ∧ plainRegister (CAN_RXPOP m.val) = true) ∧
    (∀ (m : Fin 2) (b : Fin 3), plainRegister (canBus m.val b.val) = true) ∧
    (∀ (m : Fin 2) (r : Fin 16), plainRegister (CAN_FLTID m.val r.val) = true ∧ blockOf (CAN_FLTID m.val r.val) = 12 + m.val) ∧
    (∀ a ∈ [SYS_ISLRST, SYS_SWRST, TSK_GCTRL], plainRegister a = true ∧ objectsAt a = []) := by decide +kernel

theorem plain_clctrl (c : Fin 8) : plainRegister (LANE_CLCTRL c.val) = true := (plainRegisters.1 c).1
theorem plain_trcCmd (c : Fin 8) : plainRegister (TRC_CMD c.val) = true := (plainRegisters.1 c).2
theorem plain_encctrl (r : Fin 16) : plainRegister (DIO_ENCCTRL r.val) = true := (plainRegisters.2.1 r).1
theorem plain_enccnt (r : Fin 16) : plainRegister (DIO_ENCCNT r.val) = true := (plainRegisters.2.1 r).2
theorem plain_canCtrl (m : Fin 2) : plainRegister (CAN_CTRL m.val) = true := by
  obtain ⟨-, -, h, -⟩ := plainRegisters
  exact (h m).1
theorem plain_canRxpop (m : Fin 2) : plainRegister (CAN_RXPOP m.val) = true := by
  obtain ⟨-, -, h, -⟩ := plainRegisters
  exact (h m).2
theorem plain_canBus (m : Fin 2) (b : Fin 3) : plainRegister (canBus m.val b.val) = true := by
  obtain ⟨-, -, -, h, -⟩ := plainRegisters
  exact h m b
theorem plain_canFltid (m : Fin 2) (r : Fin 16) : plainRegister (CAN_FLTID m.val r.val) = true := by
  obtain ⟨-, -, -, -, h, -⟩ := plainRegisters
  exact (h m r).1
theorem blockOf_canFltid (m : Fin 2) (r : Fin 16) : blockOf (CAN_FLTID m.val r.val) = 12 + m.val := by
  obtain ⟨-, -, -, -, h, -⟩ := plainRegisters
  exact (h m r).2

/-- The control registers whose write no object shows. -/
theorem plain_control {a : Nat} (h : a ∈ [SYS_ISLRST, SYS_SWRST, TSK_GCTRL]) : plainRegister a = true ∧ objectsAt a = [] := by
  obtain ⟨-, -, -, -, -, hall⟩ := plainRegisters
  exact hall a h

theorem plain_sysIslrst : plainRegister SYS_ISLRST = true ∧ objectsAt SYS_ISLRST = [] := plain_control (.head _)
theorem plain_sysSwrst : plainRegister SYS_SWRST = true ∧ objectsAt SYS_SWRST = [] := plain_control (.tail _ (.head _))
theorem plain_tskGctrl : plainRegister TSK_GCTRL = true ∧ objectsAt TSK_GCTRL = [] := plain_control (.tail _ (.tail _ (.head _)))

section
variable (s : State) (priv : Nat) (v : Word)

theorem block_clctrl (c : Fin 8) : blockWrite s priv (LANE_CLCTRL c.val) v = clctrlWrite s c.val v := by
  fin_cases c <;> rfl
theorem block_trcCmd (c : Fin 8) : blockWrite s priv (TRC_CMD c.val) v = some (trcCmd s c.val v) := by
  fin_cases c <;> rfl
theorem block_encctrl (r : Fin 16) :
    blockWrite s priv (DIO_ENCCTRL r.val) v = allowIf s.stopped (encctrlWrite s r.val v).1 := by
  fin_cases r <;> rfl
theorem block_enccnt (r : Fin 16) : blockWrite s priv (DIO_ENCCNT r.val) v = some (fieldCmd s (.encoder r.val v)) := by
  fin_cases r <;> rfl
theorem block_canCtrl (m : Fin 2) : blockWrite s priv (CAN_CTRL m.val) v = canCtrlWrite s m.val v := by
  fin_cases m <;> rfl
theorem block_canBus (m : Fin 2) (b : Fin 3) : blockWrite s priv (canBus m.val b.val) v = canTxctrlWrite s m.val b.val v := by
  fin_cases m <;> fin_cases b <;> rfl
theorem block_canRxpop (m : Fin 2) : blockWrite s priv (CAN_RXPOP m.val) v = some (canRxpop s m.val v) := by
  fin_cases m <;> rfl
theorem writeCan_fltid (m r : Nat) (h : r < 16) : writeCan s m (CAN_FLTID m r) v = some (canFltidWrite s m r v) := by
  have hoff : CAN_FLTID m r - CAN_CTRL m = 0x400 + 8 * r := by unfold CAN_FLTID CAN_CTRL; omega
  have hidx : (0x400 + 8 * r - 0x400) / 8 = r := by omega
  unfold writeCan
  simp only [hoff, hidx]
  rw [if_neg (by unfold CAN_FLTID CAN_CTRL; omega), if_neg (by unfold CAN_FLTID CAN_NBT; omega),
    if_neg (by unfold CAN_FLTID CAN_DBT CAN_TDC; omega), if_neg (by omega), if_neg (by omega), if_neg (by omega),
    if_neg (by unfold CAN_FLTID CAN_RXPOP; omega), if_pos (by omega), if_pos (by omega)]
theorem block_canFltid (m : Fin 2) (r : Fin 16) :
    blockWrite s priv (CAN_FLTID m.val r.val) v = some (canFltidWrite s m.val r.val v) := by
  rw [← writeCan_fltid s v m.val r.val r.isLt]
  unfold blockWrite
  rw [blockOf_canFltid]
  fin_cases m <;> rfl

theorem block_encctrl_if (r : Fin 16) : blockWrite s priv (DIO_ENCCTRL r.val) v
    = if s.stopped then some (encctrlWrite s r.val v).1 else none := block_encctrl s priv v r
theorem block_prot : blockWrite s priv NVM_PROT v
    = if protAllowed s (wbits v 1 0) then some (setProt s (wbits v 1 0)) else none := rfl
theorem block_epoch (core : CoreId) : blockWrite s (privOf s core.val) PHR_EPOCH v
    = if privOf s core.val = 2 then some (epochWrite s v) else none := by
  have h : blockWrite s (privOf s core.val) PHR_EPOCH v = allowIf (privOf s core.val == 2) (epochWrite s v) := rfl
  simp [h, allowIf]

end

/-- Settles O31: each row is a core's store to its register, and the register's block takes it as the row says. -/
theorem registerCommands : Obligations.RegisterCommands := by
  intro core v s c r m b
  exact
    forall_mem_cons_of (writesAs_of_block rfl (by decide +kernel) rfl) <|
    forall_mem_cons_of (writesAs_of_block rfl (by decide +kernel) rfl) <|
    forall_mem_cons_of (writesAs_of_block rfl (by decide +kernel) rfl) <|
    forall_mem_cons_of (writesAs_of_block rfl (by decide +kernel) rfl) <|
    forall_mem_cons_of (writesAs_of_block rfl (by decide +kernel) rfl) <|
    forall_mem_cons_of (writesAs_of_block rfl (by decide +kernel) rfl) <|
    forall_mem_cons_of (writesAs_of_block rfl (by decide +kernel) rfl) <|
    forall_mem_cons_of (writesAs_of_block rfl (by decide +kernel) rfl) <|
    forall_mem_cons_of (writesAs_of_block rfl (plain_clctrl c) (block_clctrl s _ v c)) <|
    forall_mem_cons_of (writesAs_of_block rfl (by decide +kernel) rfl) <|
    forall_mem_cons_of (writesAs_of_block rfl (by decide +kernel) (block_epoch s v core)) <|
    forall_mem_cons_of (writesAs_of_block rfl (by decide +kernel) rfl) <|
    forall_mem_cons_of (writesAs_of_block rfl (by decide +kernel) rfl) <|
    forall_mem_cons_of (writesAs_of_block rfl (plain_trcCmd c) (block_trcCmd s _ v c)) <|
    forall_mem_cons_of (writesAs_of_block rfl (plain_trcCmd c) (block_trcCmd s _ v c)) <|
    forall_mem_cons_of (writesAs_of_block rfl (plain_trcCmd c) (block_trcCmd s _ v c)) <|
    forall_mem_cons_of (writesAs_of_block rfl (by decide +kernel) rfl) <|
    forall_mem_cons_of (writesAs_of_block rfl (by decide +kernel) rfl) <|
    forall_mem_cons_of (writesAs_of_block rfl (by decide +kernel) rfl) <|
    forall_mem_cons_of (writesAs_of_block rfl (by decide +kernel) rfl) <|
    forall_mem_cons_of (writesAs_of_block rfl (by decide +kernel) rfl) <|
    forall_mem_cons_of (writesAs_of_block rfl (by decide +kernel) rfl) <|
    forall_mem_cons_of (writesAs_of_block rfl (by decide +kernel) rfl) <|
    forall_mem_cons_of (writesAs_of_block rfl (by decide +kernel) rfl) <|
    forall_mem_cons_of (writesAs_of_block rfl (plain_encctrl r) (block_encctrl_if s _ v r)) <|
    forall_mem_cons_of (writesAs_of_block rfl (plain_enccnt r) (block_enccnt s _ v r)) <|
    forall_mem_cons_of (writesAs_of_block rfl (plain_canCtrl m) (block_canCtrl s _ v m)) <|
    forall_mem_cons_of (writesAs_of_block rfl (plain_canCtrl m) (block_canCtrl s _ v m)) <|
    forall_mem_cons_of (writesAs_of_block rfl (plain_canBus m b) (block_canBus s _ v m b)) <|
    forall_mem_cons_of (writesAs_of_block rfl (plain_canBus m b) (block_canBus s _ v m b)) <|
    forall_mem_cons_of (writesAs_of_block rfl (plain_canRxpop m) (block_canRxpop s _ v m)) <|
    forall_mem_cons_of (writesAs_of_block rfl (plain_canFltid m r) (block_canFltid s _ v m r)) <|
    forall_mem_cons_of (writesAs_of_block rfl (by decide +kernel) rfl) <|
    forall_mem_cons_of (writesAs_of_block rfl (by decide +kernel) rfl) <|
    forall_mem_cons_of (writesAs_of_block rfl (by decide +kernel) rfl) <|
    forall_mem_cons_of (writesAs_of_block rfl (by decide +kernel) (block_prot s _ v)) <|
    forall_mem_cons_of (writesAs_of_block rfl (by decide +kernel) rfl) <|
    forall_mem_cons_of (writesAs_of_block rfl (by decide +kernel) rfl) <|
    forall_mem_cons_of (writesAs_of_block rfl (by decide +kernel) rfl) <|
    forall_mem_cons_of (writesAs_of_block rfl (by decide +kernel) rfl) <|
    forall_mem_cons_of (writesAs_of_block rfl (by decide +kernel) rfl) <|
    forall_mem_cons_of (writesAs_of_block rfl (by decide +kernel) rfl) <|
    forall_mem_cons_of (writesAs_of_block rfl (by decide +kernel) rfl) <|
    forall_mem_cons_of (writesAs_of_block rfl (by decide +kernel) rfl) <|
    forall_mem_cons_of (writesAs_of_block rfl (by decide +kernel) rfl) <|
    forall_mem_cons_of (writesAs_of_block rfl (by decide +kernel) rfl) <|
    forall_mem_cons_of (writesAs_of_block rfl (by decide +kernel) rfl) <|
    forall_mem_cons_of (writesAs_of_block rfl (by decide +kernel) rfl) <|
    List.forall_mem_nil _

end Sys2Proof.Machine
end

section
/-!
PROOF. RegisterWrite: what REGISTER_WRITE does, by what the register's block makes of the value (R7, R9, R29).
-/
namespace Sys2Proof.Machine

@[simp] theorem shareRegister_keeps (old s : State) (a : Nat) :
    (shareRegister old s a).now = s.now ∧ (shareRegister old s a).pending = s.pending ∧
      (shareRegister old s a).draws = s.draws ∧ (shareRegister old s a).rdata = s.rdata ∧
      (shareRegister old s a).regs = s.regs ∧ (shareRegister old s a).mem = s.mem ∧ (shareRegister old s a).units = s.units ∧
      (shareRegister old s a).objs = s.objs ∧ (shareRegister old s a).prog = s.prog ∧ (shareRegister old s a).img = s.img ∧
      (shareRegister old s a).tsk = s.tsk ∧ (shareRegister old s a).gz = s.gz ∧ (shareRegister old s a).evc = s.evc ∧
      (shareRegister old s a).nv = s.nv ∧ (shareRegister old s a).rtc = s.rtc ∧ (shareRegister old s a).wdg = s.wdg ∧
      (shareRegister old s a).frz = s.frz ∧ (shareRegister old s a).rcd = s.rcd ∧ (shareRegister old s a).boot = s.boot ∧
      (shareRegister old s a).phr = s.phr ∧ (shareRegister old s a).lpe = s.lpe ∧ (shareRegister old s a).trc = s.trc ∧
      (shareRegister old s a).nrg = s.nrg ∧ (shareRegister old s a).hsb.unit = s.hsb.unit ∧
      (shareRegister old s a).hsb.role = s.hsb.role ∧ (shareRegister old s a).field = s.field ∧
      (shareRegister old s a).can = s.can ∧ (shareRegister old s a).saf = s.saf ∧ (shareRegister old s a).jrn = s.jrn ∧
      (shareRegister old s a).stations = s.stations := by
  unfold shareRegister
  simp

/-- The registers of the statement hold their fields alone. -/
def plainFields : List Nat :=
  [GZ_SUBSEL, GZ_DIRSEL, SEG_HSEL, SEG_STGSEL, LPE_RSEL, JRN_SLOTSEL, EVC_STAT, TSK_WDMASK, TSK_WDAUTO, REC_WSRC, DIO_OWNSEL,
    NVM_FADDR]

/-- The block of such a register sets its fields and does nothing else. -/
theorem block_plainFields (s : State) (priv : Nat) (v : Word) : ∀ a ∈ plainFields, blockWrite s priv a v = some (regWrite s a v) :=
  forall_mem_cons_of rfl <| forall_mem_cons_of rfl <| forall_mem_cons_of rfl <| forall_mem_cons_of rfl <|
  forall_mem_cons_of rfl <| forall_mem_cons_of rfl <| forall_mem_cons_of rfl <| forall_mem_cons_of rfl <|
  forall_mem_cons_of rfl <| forall_mem_cons_of rfl <| forall_mem_cons_of rfl <| forall_mem_cons_of rfl <| List.forall_mem_nil _

theorem plainRegister_plainFields : ∀ a ∈ plainFields, plainRegister a = true := by decide +kernel

/-- A write that sets fields sets them as their access codes say (R7). -/
theorem reg_regWrite_same (s : State) (a : Nat) (v : Word) (d : RegDef) (h : regDefAt a = some d) :
    (regWrite s a v).reg a = toWord (d.written v.toNat (s.reg a).toNat) := by
  simp [regWrite, h]

/-- A core's write of a register that the block takes has the block's effect. -/
theorem coreStore_of_registerWrite (s t : State) (u a : Nat) (v : Word) (hl : unitLive s u = true) (ha : auditing s u = false)
    (hp : areaOf a = some .periph) (h4 : a % 4 = 0) (h : registerWrite s u a v = some t) : coreStore s u a v = t := by
  simp [coreStore, hl, ha, hp, h4, h]

/-- Without the privilege, or where no register lies, no write is made. -/
theorem periphWrite_none (s : State) (u a : Nat) (v : Word) (h : regPermits (privOf s u) a true = false ∨ regThere a = false) :
    periphWrite s u a v = none := by
  unfold periphWrite
  rcases h with h | h <;> simp [h]

/-- Settles O7: the block's effect, the registers that only hold their fields, and the two refusals. -/
theorem registerWriteCommand : Obligations.RegisterWrite := by
  intro core a v s hlive haudit harea
  refine ⟨fun t h4 ht => ?_, fun d hmay hd hmem => ?_, fun h4 => ?_, fun h4 hno => ?_⟩
  · exact congrArg Host.Outcome.next (coreStore_of_registerWrite s t core.val a.toNat v hlive haudit harea h4 ht)
  · obtain ⟨hexec, -⟩ := (writesAs_of_block (c := .registerWrite core a v) rfl (plainRegister_plainFields _ hmem)
      (block_plainFields s (privOf s core.val) v _ hmem) hmay).1 _ rfl
    obtain ⟨hother, hmemory, hunits, -⟩ := regWrite_rest s a.toNat v
    obtain ⟨hregs, -, hmem'⟩ := shareRegister_rest s (regWrite s a.toNat v) a.toNat
    refine ⟨_, hexec, ?_, fun b hb => ?_, ?_, ?_⟩
    · exact (reg_eq_of_regs hregs _).trans (reg_regWrite_same s a.toNat v d hd)
    · exact (reg_eq_of_regs hregs _).trans (hother b hb)
    · exact hmem'.trans hmemory
    · exact Eq.trans (by simp) hunits
  · exact congrArg Host.Outcome.next (coreStore_misaligned s core.val a.toNat v hlive haudit harea h4)
  · exact congrArg Host.Outcome.next
      (coreStore_refused s core.val a.toNat v hlive haudit harea h4 (periphWrite_none s core.val a.toNat v hno))

end Sys2Proof.Machine
end

section
/-!
PROOF. RegisterRead: what REGISTER_READ gives and clears, and what it refuses (R7, R9, R29).
-/
namespace Sys2Proof.Machine

/-- A permitted read gives the word that the register shows, and the state that the read leaves. -/
theorem coreLoad_permitted (s : State) (u a : Nat) (hl : unitLive s u = true) (ha : auditing s u = false)
    (hp : areaOf a = some .periph) (h4 : a % 4 = 0) (h : periphReadable s u a = true) :
    coreLoad s u a = { (periphRead s u a).2 with rdata := toWord (periphRead s u a).1 } := by
  simp [coreLoad, hl, ha, hp, h4, h]

/-- A read that is not permitted raises cause 0x03 for operand 2 (R29). -/
theorem coreLoad_refused (s : State) (u a : Nat) (hl : unitLive s u = true) (ha : auditing s u = false)
    (hp : areaOf a = some .periph) (h4 : a % 4 = 0) (h : periphReadable s u a = false) :
    coreLoad s u a = raiseExc s u exAccess 2 a (s.unit u).pc := by
  simp [coreLoad, hl, ha, hp, h4, h]

/-- A misaligned read raises cause 0x04 for operand 2 (R9). -/
theorem coreLoad_misaligned (s : State) (u a : Nat) (hl : unitLive s u = true) (ha : auditing s u = false)
    (hp : areaOf a = some .periph) (h4 : a % 4 ≠ 0) : coreLoad s u a = raiseExc s u exMisaligned 2 a (s.unit u).pc := by
  simp [coreLoad, hl, ha, hp, h4]

/-- A register whose read has no effect of its own shows its view, and its RC fields are cleared (R7). -/
theorem periphRead_plain (s : State) (u a : Nat) (hrtc : isRtcFive a = false) (hsync : a ≠ NVM_SYNC) (hsub : a ≠ GZ_SUBDATA) :
    periphRead s u a = (regPeek s a, regClear s a) := by
  simp [periphRead, hrtc, hsync, hsub]

/-- Settles O8: a permitted read, the frame of a plain one, and the two refusals. -/
theorem registerReadCommand : Obligations.RegisterRead := by
  intro core a s hlive haudit harea
  refine ⟨fun h4 hread => ?_, fun h4 hread hrtc hsync hsub => ?_, fun h4 => ?_, fun h4 hno => ?_⟩
  · exact ⟨_, congrArg Host.Outcome.next (coreLoad_permitted s core.val a.toNat hlive haudit harea h4 hread), rfl, rfl, rfl⟩
  · have hload := coreLoad_permitted s core.val a.toNat hlive haudit harea h4 hread
    rw [periphRead_plain s core.val a.toNat hrtc hsync hsub] at hload
    obtain ⟨hother, hmem, hunits⟩ := regClear_rest s a.toNat
    exact ⟨_, congrArg Host.Outcome.next hload, rfl, hother, hmem, hunits⟩
  · exact congrArg Host.Outcome.next (coreLoad_misaligned s core.val a.toNat hlive haudit harea h4)
  · exact congrArg Host.Outcome.next (coreLoad_refused s core.val a.toNat hlive haudit harea h4 hno)

end Sys2Proof.Machine
end

section
/-!
PROOF. IslandReset: what a write of SYS_ISLRST and its completion do to the islands (R22, R33).
-/
namespace Sys2Proof.Machine

@[simp] theorem islandReset_rest (s : State) (i : Nat) :
    (islandReset s i).now = s.now ∧ (islandReset s i).pending = s.pending ∧ (islandReset s i).draws = s.draws ∧
      (islandReset s i).rdata = s.rdata ∧ (islandReset s i).mem = s.mem ∧ (islandReset s i).objs = s.objs ∧
      (islandReset s i).prog = s.prog ∧ (islandReset s i).img = s.img ∧ (islandReset s i).tsk = s.tsk ∧
      (islandReset s i).evc = s.evc ∧ (islandReset s i).nv = s.nv ∧ (islandReset s i).rtc = s.rtc ∧
      (islandReset s i).wdg = s.wdg ∧ (islandReset s i).frz = s.frz ∧ (islandReset s i).rcd = s.rcd ∧
      (islandReset s i).boot = s.boot ∧ (islandReset s i).phr = s.phr ∧ (islandReset s i).lpe = s.lpe ∧
      (islandReset s i).trc = s.trc ∧ (islandReset s i).nrg = s.nrg ∧ (islandReset s i).hsb = s.hsb ∧
      (islandReset s i).field = s.field ∧ (islandReset s i).can = s.can ∧ (islandReset s i).saf = s.saf ∧
      (islandReset s i).jrn = s.jrn ∧ (islandReset s i).stations = s.stations ∧ (islandReset s i).sent = s.sent := by
  unfold islandReset
  simp

/-- What each step of a fold keeps and the step of one element brings about, the fold brings about. -/
theorem foldl_establishes {α : Type} {P : State → Prop} {f : State → α → State} {x : α} (hdoes : ∀ s, P (f s x))
    (hkeeps : ∀ s y, P s → P (f s y)) {xs : List α} (hx : x ∈ xs) (s : State) : P (xs.foldl f s) := by
  have hkept : ∀ (ys : List α) (t : State), P t → P (ys.foldl f t) := fun ys => by
    induction ys with
    | nil => exact fun _ h => h
    | cons y ys ih => exact fun t h => ih _ (hkeeps t y h)
  induction xs generalizing s with
  | nil => cases hx
  | cons y ys ih =>
    rcases List.mem_cons.1 hx with rfl | hx
    · exact hkept ys _ (hdoes s)
    · exact ih hx _

/-- A bit that is put reads as it was put, and every other bit as it did. -/
theorem bit_putBits (n i v j : Nat) : bit (putBits n i i v) j = if j = i then v % 2 == 1 else bit n j := by
  split
  · have h := bits_putBits_same n i i v (Nat.le_refl i)
    subst_vars
    simp only [bits, Nat.add_sub_cancel_left, Nat.pow_one] at h
    simp [bit, h]
  · rw [bit_eq_testBit, bit_eq_testBit, testBit_putBits_outside n i i v j (Nat.le_refl i) (by omega)]

/-- Units that are each put in their state after a reset stand so; the others as they did. -/
theorem unit_foldl_reset (us : List Nat) (s : State) (u : Nat) :
    (us.foldl (fun s u => s.setUnit u {}) s).unit u = if u ∈ us then {} else s.unit u := by
  induction us generalizing s with
  | nil => simp
  | cons w us ih =>
    rw [List.foldl_cons, ih]
    by_cases hu : u ∈ us
    · simp [hu]
    · by_cases hw : u = w
      · simp [hw]
      · simp [hu, hw, State.unit_setUnit_ne]

/-- The units of an island: the lanes of its two clusters (R22). -/
def islandLanes (i : Nat) : List Nat := [i, i + 4].flatMap fun c => (List.range 8).map fun j => 16 + 8 * c + j

theorem mem_islandLanes (i u : Nat) : u ∈ islandLanes i ↔ ∃ j < 8, u = 16 + 8 * i + j ∨ u = 48 + 8 * i + j := by
  simp only [islandLanes, List.mem_flatMap, List.mem_cons, List.not_mem_nil, or_false, List.mem_map, List.mem_range]
  refine ⟨?_, ?_⟩
  · rintro ⟨c, rfl | rfl, j, hj, rfl⟩
    · exact ⟨j, hj, Or.inl rfl⟩
    · exact ⟨j, hj, Or.inr (by omega)⟩
  · rintro ⟨j, hj, rfl | rfl⟩
    · exact ⟨i, Or.inl rfl, j, hj, rfl⟩
    · exact ⟨i + 4, Or.inr rfl, j, hj, by omega⟩

/-- The reset of an island resets its lanes and no other unit. -/
theorem unit_islandReset (s : State) (i u : Nat) : (islandReset s i).unit u = if u ∈ islandLanes i then {} else s.unit u := by
  rw [← unit_foldl_reset]
  simp only [islandReset, State.unit, State.setFld_rest, State.modGz_rest]
  rfl

/-- A bit of the islands' field of SYS_DOMSTAT reads as it was written. -/
theorem bit_domstat (s : State) (n k : Nat) (hk : k < 4) :
    bit ((s.setFld SYS_DOMSTAT_ISLAND n).fld SYS_DOMSTAT_ISLAND) k = bit n k := by
  rw [fld_setFld_same _ _ _ (by decide) (by decide), bit_eq_testBit, bit_eq_testBit, Nat.testBit_mod_two_pow]
  simp [show k < 3 + 1 - 0 from hk, SYS_DOMSTAT_ISLAND]

/-- The reset of an island takes its bit out of SYS_DOMSTAT and leaves the others' bits (R22). -/
theorem bit_islandReset (s : State) (i k : Nat) (hk : k < 4) :
    bit ((islandReset s i).fld SYS_DOMSTAT_ISLAND) k = if k = i then false else bit (s.fld SYS_DOMSTAT_ISLAND) k := by
  rw [islandReset, bit_domstat _ _ _ hk, bit_putBits]
  split
  · rfl
  · refine congrArg (bit · k) (fld_eq_of_reg _ (reg_eq_of_regs ?_ _))
    simp

/-- An island's bit of SYS_DOMSTAT reads 0 and its lanes stand as after a reset. -/
def IslandDown (i : Nat) (s : State) : Prop :=
  bit (s.fld SYS_DOMSTAT_ISLAND) i = false ∧ ∀ u ∈ islandLanes i, s.unit u = {}

/-- A reset of several islands brings down each of them. -/
theorem islandDown_of_mem (is : List Nat) (i : Nat) (hi : i ∈ is) (hlt : i < 4) (s : State) :
    IslandDown i (is.foldl islandReset s) := by
  refine foldl_establishes (P := IslandDown i) (fun t => ?_) (fun t j hdown => ?_) hi s
  · exact ⟨by rw [bit_islandReset t i i hlt, if_pos rfl], fun u hu => by rw [unit_islandReset, if_pos hu]⟩
  · obtain ⟨hbit, hunits⟩ := hdown
    refine ⟨?_, fun u hu => ?_⟩
    · rw [bit_islandReset t j i hlt, hbit, ite_self]
    · rw [unit_islandReset, hunits u hu, ite_self]

/-- In STOPPED a permitted write of SYS_ISLRST resets the islands that it names. -/
theorem exec_sysIslrst (core : CoreId) (v : Word) (s : State) (h : MayWrite s core SYS_ISLRST) (hstop : s.stopped = true) :
    exec (.sysIslrst core v) s = .next (((List.range 4).filter (wbit v)).foldl islandReset s) := by
  have hw : blockWrite s (privOf s core.val) SYS_ISLRST v = some (((List.range 4).filter (wbit v)).foldl islandReset s) := by
    have hwrite : blockWrite s (privOf s core.val) SYS_ISLRST v = islrstWrite s v := rfl
    rw [hwrite, islrstWrite]
    cases hnames : (List.range 4).filter (wbit v) with
    | nil => rfl
    | cons => simp [allowIf, hstop]
  exact exec_of_block h rfl plain_sysIslrst.1 (Or.inr plain_sysIslrst.2) hw

/-- The bits [3:0] of a value, as a number, are 0 just where none of them is set. -/
theorem filter_wbit_eq_nil (v : Word) : (List.range 4).filter (wbit v) = [] ↔ wbits v 3 0 = 0 := by
  have hbit (i : Nat) (hi : i < 4) : (wbits v 3 0).testBit i = wbit v i := by
    simp [wbits, testBit_bits, wbit, BitVec.getLsbD, hi]
  rw [List.filter_eq_nil_iff]
  refine ⟨fun h => ?_, fun h i hi => ?_⟩
  · refine Nat.eq_of_testBit_eq fun i => ?_
    rw [Nat.zero_testBit]
    by_cases hi : i < 4
    · rw [hbit i hi]
      simpa using h i (List.mem_range.2 hi)
    · simp [wbits, testBit_bits, hi]
  · rw [← hbit i (List.mem_range.1 hi), h]
    simp

/-- While the program is not STOPPED a write that names an island is refused; one that names none does nothing. -/
theorem block_islrst_running (s : State) (priv : Nat) (v : Word) (hstop : s.stopped = false) :
    blockWrite s priv SYS_ISLRST v = if wbits v 3 0 = 0 then some s else none := by
  have hwrite : blockWrite s priv SYS_ISLRST v = islrstWrite s v := rfl
  simp only [hwrite, islrstWrite, List.isEmpty_iff, filter_wbit_eq_nil, allowIf, hstop, Bool.false_eq_true, if_false]

/-- Settles O9: the write in STOPPED, the write at any other time, and the completion. -/
theorem islandResetCommand : Obligations.IslandReset := by
  refine ⟨fun core v s hmay hstop => ?_, fun core v s hmay hstop => ?_, fun i s hlive => ?_⟩
  · have hexec := exec_sysIslrst core v s hmay hstop
    refine ⟨hexec, _, hexec, fun i hi hv => ?_, by simp, by simp, by simp⟩
    obtain ⟨hbit, hunits⟩ := islandDown_of_mem _ i (List.mem_filter.2 ⟨List.mem_range.2 hi, hv⟩) hi s
    exact ⟨hbit, fun j hj => ⟨hunits _ ((mem_islandLanes i _).2 ⟨j, hj, Or.inl rfl⟩),
      hunits _ ((mem_islandLanes i _).2 ⟨j, hj, Or.inr rfl⟩)⟩⟩
  · have hblock := block_islrst_running s (privOf s core.val) v hstop
    exact ⟨fun hnamed => exec_of_block_refused hmay rfl plain_sysIslrst.1 (hblock.trans (if_neg hnamed)),
      fun hnone => exec_of_block hmay rfl plain_sysIslrst.1 (Or.inr plain_sysIslrst.2) (hblock.trans (if_pos hnone))⟩
  · have hexec : exec (.islandResetComplete i) s
        = .next (s.setFld SYS_DOMSTAT_ISLAND (putBits (s.fld SYS_DOMSTAT_ISLAND) i.val i.val 1)) :=
      if_neg (ne_true_of_eq_false hlive)
    exact ⟨_, hexec, by rw [bit_domstat _ _ _ i.isLt, bit_putBits, if_pos rfl]; rfl,
      fun a ha => reg_setFld_ne s SYS_DOMSTAT_ISLAND a _ ha, by simp, by simp⟩

end Sys2Proof.Machine
end

section
/-!
PROOF. SoftwareReset: what a module reset leaves (R20, R711), and the write of SYS_SWRST that is one (R733).
-/
namespace Sys2Proof.Machine

@[simp] theorem sendNotice_rest (s : State) (code : Nat) :
    (sendNotice s code).now = s.now ∧ (sendNotice s code).pending = s.pending ∧ (sendNotice s code).draws = s.draws ∧
      (sendNotice s code).rdata = s.rdata ∧ (sendNotice s code).regs = s.regs ∧ (sendNotice s code).mem = s.mem ∧
      (sendNotice s code).units = s.units ∧ (sendNotice s code).objs = s.objs ∧ (sendNotice s code).prog = s.prog ∧
      (sendNotice s code).img = s.img ∧ (sendNotice s code).tsk = s.tsk ∧ (sendNotice s code).gz = s.gz ∧
      (sendNotice s code).evc = s.evc ∧ (sendNotice s code).nv = s.nv ∧ (sendNotice s code).rtc = s.rtc ∧
      (sendNotice s code).wdg = s.wdg ∧ (sendNotice s code).frz = s.frz ∧ (sendNotice s code).rcd = s.rcd ∧
      (sendNotice s code).boot = s.boot ∧ (sendNotice s code).phr = s.phr ∧ (sendNotice s code).lpe = s.lpe ∧
      (sendNotice s code).trc = s.trc ∧ (sendNotice s code).nrg = s.nrg ∧ (sendNotice s code).hsb.unit = s.hsb.unit ∧
      (sendNotice s code).hsb.role = s.hsb.role ∧ (sendNotice s code).field = s.field ∧ (sendNotice s code).can = s.can ∧
      (sendNotice s code).saf = s.saf ∧ (sendNotice s code).jrn = s.jrn ∧ (sendNotice s code).stations = s.stations := by
  unfold sendNotice
  simp

/-- The module just before a reset of its own: the active module of a pair has sent notice 1 (R452). -/
def beforeReset (s : State) : State := if s.frz.frozen then s else sendNotice s 1

theorem beforeReset_rest (s : State) :
    (beforeReset s).now = s.now ∧ (beforeReset s).mem = s.mem ∧ (beforeReset s).wdg = s.wdg ∧ (beforeReset s).nv = s.nv ∧
      (beforeReset s).boot = s.boot ∧ (beforeReset s).img = s.img := by
  unfold beforeReset
  split <;> simp

/-- A source that acts on a module out of reset resets it (R711). -/
theorem moduleReset_released (s : State) (source : Nat) (h : s.boot.held = false) :
    moduleReset s source = inReset (beforeReset s) (2 ^ (source - 1)) := by
  simp [moduleReset, h, beforeReset]

/-- What a module reset leaves: the module held with its source, STOPPED, the memories that a reset clears and the registers listing
nothing; MRAM, flash and the timebase as they were (R20, R711). -/
theorem moduleReset_says (s : State) (source : Nat) (h : s.boot.held = false) :
    (moduleReset s source).boot.held = true ∧ (moduleReset s source).boot.sources = 2 ^ (source - 1) ∧
      (moduleReset s source).stopped = true ∧ (moduleReset s source).mem.sram = [] ∧ (moduleReset s source).mem.code = [] ∧
      (moduleReset s source).mem.mram = s.mem.mram ∧ (moduleReset s source).mem.flash = s.mem.flash ∧
      (moduleReset s source).regs = [] ∧ (moduleReset s source).now = s.now := by
  obtain ⟨hnow, hmem, -⟩ := beforeReset_rest s
  rw [moduleReset_released s source h]
  exact ⟨rfl, rfl, rfl, rfl, rfl, hmem ▸ rfl, hmem ▸ rfl, rfl, hnow⟩

/-- A permitted write of SYS_SWRST is the write of the key. -/
theorem exec_sysSwrst (core : CoreId) (v : Word) (s : State) (h : MayWrite s core SYS_SWRST) :
    exec (.sysSwrst core v) s = .next (swrstWrite s v) :=
  exec_of_block h rfl plain_sysSwrst.1 (Or.inr plain_sysSwrst.2) rfl

/-- Settles O10: the write with the key and with another, by what a module reset leaves. -/
theorem softwareReset : Obligations.SoftwareReset := by
  intro core v s hmay
  have hexec := exec_sysSwrst core v s hmay
  refine ⟨fun hkey hpfw => ?_, fun hkey => ?_⟩
  · have hreset : swrstWrite s v = (moduleReset s srcSoftware).modBoot fun b => { b with ldrReq := wbit v 0 } := by
      simp [swrstWrite, hkey, hpfw]
    obtain ⟨hheld, hsource, hstopped, hsram, hcode, hmram, hflash, hregs, -⟩ :=
      moduleReset_says s srcSoftware (not_held_of_unitLive s core.val hmay.1)
    exact ⟨_, hexec.trans (congrArg _ hreset), hheld, hsource, rfl, hstopped, hsram, hcode, hmram, hflash, hregs⟩
  · rw [hexec, swrstWrite, if_pos (Or.inl hkey)]

end Sys2Proof.Machine
end

section
/-!
PROOF. ProgramStart and ProgramStop: what a write of TSK_GCTRL does (R88, R91).
-/
namespace Sys2Proof.Machine

@[simp] theorem setRingState_rest (s : State) (r new : Nat) :
    (setRingState s r new).now = s.now ∧ (setRingState s r new).pending = s.pending ∧ (setRingState s r new).draws = s.draws ∧
      (setRingState s r new).rdata = s.rdata ∧ (setRingState s r new).mem.code = s.mem.code ∧
      (setRingState s r new).mem.sram = s.mem.sram ∧ (setRingState s r new).mem.trace = s.mem.trace ∧
      (setRingState s r new).mem.fw = s.mem.fw ∧ (setRingState s r new).mem.flash = s.mem.flash ∧
      (setRingState s r new).units = s.units ∧ (setRingState s r new).objs = s.objs ∧ (setRingState s r new).prog = s.prog ∧
      (setRingState s r new).img = s.img ∧ (setRingState s r new).tsk = s.tsk ∧ (setRingState s r new).gz = s.gz ∧
      (setRingState s r new).nv = s.nv ∧ (setRingState s r new).rtc = s.rtc ∧ (setRingState s r new).wdg = s.wdg ∧
      (setRingState s r new).frz = s.frz ∧ (setRingState s r new).boot = s.boot ∧
      (setRingState s r new).phr.atStart = s.phr.atStart ∧ (setRingState s r new).phr.linksDown = s.phr.linksDown ∧
      (setRingState s r new).lpe = s.lpe ∧ (setRingState s r new).trc = s.trc ∧ (setRingState s r new).nrg = s.nrg ∧
      (setRingState s r new).hsb = s.hsb ∧ (setRingState s r new).field = s.field ∧ (setRingState s r new).can = s.can ∧
      (setRingState s r new).saf = s.saf ∧ (setRingState s r new).jrn = s.jrn ∧ (setRingState s r new).stations = s.stations ∧
      (setRingState s r new).sent = s.sent := by
  unfold setRingState
  simp

@[simp] theorem enableRings_rest (s : State) (bits : Nat) :
    (enableRings s bits).now = s.now ∧ (enableRings s bits).pending = s.pending ∧ (enableRings s bits).draws = s.draws ∧
      (enableRings s bits).rdata = s.rdata ∧ (enableRings s bits).mem.code = s.mem.code ∧
      (enableRings s bits).mem.sram = s.mem.sram ∧ (enableRings s bits).mem.trace = s.mem.trace ∧
      (enableRings s bits).mem.fw = s.mem.fw ∧ (enableRings s bits).mem.flash = s.mem.flash ∧
      (enableRings s bits).units = s.units ∧ (enableRings s bits).objs = s.objs ∧ (enableRings s bits).prog = s.prog ∧
      (enableRings s bits).img = s.img ∧ (enableRings s bits).tsk = s.tsk ∧ (enableRings s bits).gz = s.gz ∧
      (enableRings s bits).nv = s.nv ∧ (enableRings s bits).rtc = s.rtc ∧ (enableRings s bits).wdg = s.wdg ∧
      (enableRings s bits).frz = s.frz ∧ (enableRings s bits).boot = s.boot ∧
      (enableRings s bits).phr.atStart = s.phr.atStart ∧ (enableRings s bits).phr.linksDown = s.phr.linksDown ∧
      (enableRings s bits).lpe = s.lpe ∧ (enableRings s bits).trc = s.trc ∧ (enableRings s bits).nrg = s.nrg ∧
      (enableRings s bits).hsb = s.hsb ∧ (enableRings s bits).field = s.field ∧ (enableRings s bits).can = s.can ∧
      (enableRings s bits).saf = s.saf ∧ (enableRings s bits).jrn = s.jrn ∧ (enableRings s bits).stations = s.stations ∧
      (enableRings s bits).sent = s.sent := by
  unfold enableRings
  simp

@[simp] theorem setPtp_rest (s : State) (st : Nat) :
    (setPtp s st).now = s.now ∧ (setPtp s st).pending = s.pending ∧ (setPtp s st).draws = s.draws ∧
      (setPtp s st).rdata = s.rdata ∧ (setPtp s st).mem = s.mem ∧ (setPtp s st).units = s.units ∧ (setPtp s st).objs = s.objs ∧
      (setPtp s st).prog = s.prog ∧ (setPtp s st).img = s.img ∧ (setPtp s st).tsk = s.tsk ∧ (setPtp s st).gz = s.gz ∧
      (setPtp s st).nv = s.nv ∧ (setPtp s st).rtc = s.rtc ∧ (setPtp s st).wdg = s.wdg ∧ (setPtp s st).frz = s.frz ∧
      (setPtp s st).rcd = s.rcd ∧ (setPtp s st).boot = s.boot ∧ (setPtp s st).phr = s.phr ∧ (setPtp s st).lpe = s.lpe ∧
      (setPtp s st).trc = s.trc ∧ (setPtp s st).nrg = s.nrg ∧ (setPtp s st).hsb = s.hsb ∧ (setPtp s st).field = s.field ∧
      (setPtp s st).can = s.can ∧ (setPtp s st).saf = s.saf ∧ (setPtp s st).jrn = s.jrn ∧ (setPtp s st).stations = s.stations ∧
      (setPtp s st).sent = s.sent := by
  unfold setPtp
  simp

@[simp] theorem showOffset_rest (s : State) (d : Int) :
    (showOffset s d).now = s.now ∧ (showOffset s d).pending = s.pending ∧ (showOffset s d).draws = s.draws ∧
      (showOffset s d).rdata = s.rdata ∧ (showOffset s d).mem = s.mem ∧ (showOffset s d).units = s.units ∧
      (showOffset s d).objs = s.objs ∧ (showOffset s d).prog = s.prog ∧ (showOffset s d).img = s.img ∧
      (showOffset s d).tsk = s.tsk ∧ (showOffset s d).gz = s.gz ∧ (showOffset s d).evc = s.evc ∧ (showOffset s d).nv = s.nv ∧
      (showOffset s d).rtc = s.rtc ∧ (showOffset s d).wdg = s.wdg ∧ (showOffset s d).frz = s.frz ∧
      (showOffset s d).rcd = s.rcd ∧ (showOffset s d).boot = s.boot ∧ (showOffset s d).phr = s.phr ∧
      (showOffset s d).lpe = s.lpe ∧ (showOffset s d).trc = s.trc ∧ (showOffset s d).nrg = s.nrg ∧
      (showOffset s d).hsb = s.hsb ∧ (showOffset s d).field = s.field ∧ (showOffset s d).can = s.can ∧
      (showOffset s d).saf = s.saf ∧ (showOffset s d).jrn = s.jrn ∧ (showOffset s d).stations = s.stations ∧
      (showOffset s d).sent = s.sent := by
  unfold showOffset
  simp

@[simp] theorem ptpFree_rest (s : State) :
    (ptpFree s).now = s.now ∧ (ptpFree s).pending = s.pending ∧ (ptpFree s).draws = s.draws ∧ (ptpFree s).rdata = s.rdata ∧
      (ptpFree s).mem = s.mem ∧ (ptpFree s).units = s.units ∧ (ptpFree s).objs = s.objs ∧ (ptpFree s).prog = s.prog ∧
      (ptpFree s).img = s.img ∧ (ptpFree s).tsk = s.tsk ∧ (ptpFree s).gz = s.gz ∧ (ptpFree s).evc = s.evc ∧
      (ptpFree s).nv = s.nv ∧ (ptpFree s).rtc = s.rtc ∧ (ptpFree s).wdg = s.wdg ∧ (ptpFree s).frz = s.frz ∧
      (ptpFree s).rcd = s.rcd ∧ (ptpFree s).boot = s.boot ∧ (ptpFree s).phr.rings = s.phr.rings ∧
      (ptpFree s).phr.atStart = s.phr.atStart ∧ (ptpFree s).phr.linksDown = s.phr.linksDown ∧ (ptpFree s).lpe = s.lpe ∧
      (ptpFree s).trc = s.trc ∧ (ptpFree s).nrg = s.nrg ∧ (ptpFree s).hsb = s.hsb ∧ (ptpFree s).field = s.field ∧
      (ptpFree s).can = s.can ∧ (ptpFree s).saf = s.saf ∧ (ptpFree s).jrn = s.jrn ∧ (ptpFree s).stations = s.stations ∧
      (ptpFree s).sent = s.sent := by
  unfold ptpFree
  simp

@[simp] theorem ptpSettle_rest (s : State) :
    (ptpSettle s).now = s.now ∧ (ptpSettle s).pending = s.pending ∧ (ptpSettle s).draws = s.draws ∧
      (ptpSettle s).rdata = s.rdata ∧ (ptpSettle s).mem = s.mem ∧ (ptpSettle s).units = s.units ∧ (ptpSettle s).objs = s.objs ∧
      (ptpSettle s).prog = s.prog ∧ (ptpSettle s).img = s.img ∧ (ptpSettle s).tsk = s.tsk ∧ (ptpSettle s).gz = s.gz ∧
      (ptpSettle s).nv = s.nv ∧ (ptpSettle s).rtc = s.rtc ∧ (ptpSettle s).wdg = s.wdg ∧ (ptpSettle s).frz = s.frz ∧
      (ptpSettle s).rcd = s.rcd ∧ (ptpSettle s).boot = s.boot ∧ (ptpSettle s).phr.rings = s.phr.rings ∧
      (ptpSettle s).phr.atStart = s.phr.atStart ∧ (ptpSettle s).phr.linksDown = s.phr.linksDown ∧ (ptpSettle s).lpe = s.lpe ∧
      (ptpSettle s).trc = s.trc ∧ (ptpSettle s).nrg = s.nrg ∧ (ptpSettle s).hsb = s.hsb ∧ (ptpSettle s).field = s.field ∧
      (ptpSettle s).can = s.can ∧ (ptpSettle s).saf = s.saf ∧ (ptpSettle s).jrn = s.jrn ∧ (ptpSettle s).stations = s.stations ∧
      (ptpSettle s).sent = s.sent := by
  unfold ptpSettle
  simp

@[simp] theorem ptpChanged_rest (s : State) (oldDomain : Nat) :
    (ptpChanged s oldDomain).now = s.now ∧ (ptpChanged s oldDomain).pending = s.pending ∧
      (ptpChanged s oldDomain).draws = s.draws ∧ (ptpChanged s oldDomain).rdata = s.rdata ∧
      (ptpChanged s oldDomain).mem = s.mem ∧ (ptpChanged s oldDomain).units = s.units ∧
      (ptpChanged s oldDomain).objs = s.objs ∧ (ptpChanged s oldDomain).prog = s.prog ∧ (ptpChanged s oldDomain).img = s.img ∧
      (ptpChanged s oldDomain).tsk = s.tsk ∧ (ptpChanged s oldDomain).gz = s.gz ∧ (ptpChanged s oldDomain).nv = s.nv ∧
      (ptpChanged s oldDomain).rtc = s.rtc ∧ (ptpChanged s oldDomain).wdg = s.wdg ∧ (ptpChanged s oldDomain).frz = s.frz ∧
      (ptpChanged s oldDomain).rcd = s.rcd ∧ (ptpChanged s oldDomain).boot = s.boot ∧
      (ptpChanged s oldDomain).phr.rings = s.phr.rings ∧ (ptpChanged s oldDomain).phr.atStart = s.phr.atStart ∧
      (ptpChanged s oldDomain).phr.linksDown = s.phr.linksDown ∧ (ptpChanged s oldDomain).lpe = s.lpe ∧
      (ptpChanged s oldDomain).trc = s.trc ∧ (ptpChanged s oldDomain).nrg = s.nrg ∧ (ptpChanged s oldDomain).hsb = s.hsb ∧
      (ptpChanged s oldDomain).field = s.field ∧ (ptpChanged s oldDomain).can = s.can ∧ (ptpChanged s oldDomain).saf = s.saf ∧
      (ptpChanged s oldDomain).jrn = s.jrn ∧ (ptpChanged s oldDomain).stations = s.stations ∧
      (ptpChanged s oldDomain).sent = s.sent := by
  unfold ptpChanged
  simp

@[simp] theorem putAtStart_rest (s : State) (key : Nat) (f : Fld) :
    (putAtStart s key f).now = s.now ∧ (putAtStart s key f).pending = s.pending ∧ (putAtStart s key f).draws = s.draws ∧
      (putAtStart s key f).rdata = s.rdata ∧ (putAtStart s key f).mem = s.mem ∧ (putAtStart s key f).units = s.units ∧
      (putAtStart s key f).objs = s.objs ∧ (putAtStart s key f).prog = s.prog ∧ (putAtStart s key f).img = s.img ∧
      (putAtStart s key f).tsk = s.tsk ∧ (putAtStart s key f).gz = s.gz ∧ (putAtStart s key f).evc = s.evc ∧
      (putAtStart s key f).nv = s.nv ∧ (putAtStart s key f).rtc = s.rtc ∧ (putAtStart s key f).wdg = s.wdg ∧
      (putAtStart s key f).frz = s.frz ∧ (putAtStart s key f).rcd = s.rcd ∧ (putAtStart s key f).boot = s.boot ∧
      (putAtStart s key f).phr = s.phr ∧ (putAtStart s key f).lpe = s.lpe ∧ (putAtStart s key f).trc = s.trc ∧
      (putAtStart s key f).nrg = s.nrg ∧ (putAtStart s key f).hsb = s.hsb ∧ (putAtStart s key f).field = s.field ∧
      (putAtStart s key f).can = s.can ∧ (putAtStart s key f).saf = s.saf ∧ (putAtStart s key f).jrn = s.jrn ∧
      (putAtStart s key f).stations = s.stations ∧ (putAtStart s key f).sent = s.sent := by
  unfold putAtStart
  split <;> simp

@[simp] theorem takeAtStart_rest (s : State) :
    (takeAtStart s).now = s.now ∧ (takeAtStart s).pending = s.pending ∧ (takeAtStart s).draws = s.draws ∧
      (takeAtStart s).rdata = s.rdata ∧ (takeAtStart s).mem.code = s.mem.code ∧ (takeAtStart s).mem.sram = s.mem.sram ∧
      (takeAtStart s).mem.trace = s.mem.trace ∧ (takeAtStart s).mem.fw = s.mem.fw ∧ (takeAtStart s).mem.flash = s.mem.flash ∧
      (takeAtStart s).units = s.units ∧ (takeAtStart s).objs = s.objs ∧ (takeAtStart s).prog = s.prog ∧
      (takeAtStart s).img = s.img ∧ (takeAtStart s).tsk = s.tsk ∧ (takeAtStart s).gz = s.gz ∧ (takeAtStart s).nv = s.nv ∧
      (takeAtStart s).rtc = s.rtc ∧ (takeAtStart s).wdg = s.wdg ∧ (takeAtStart s).frz = s.frz ∧ (takeAtStart s).boot = s.boot ∧
      (takeAtStart s).phr.linksDown = s.phr.linksDown ∧ (takeAtStart s).lpe = s.lpe ∧ (takeAtStart s).trc = s.trc ∧
      (takeAtStart s).nrg = s.nrg ∧ (takeAtStart s).hsb = s.hsb ∧ (takeAtStart s).field = s.field ∧
      (takeAtStart s).can = s.can ∧ (takeAtStart s).saf = s.saf ∧ (takeAtStart s).jrn = s.jrn ∧
      (takeAtStart s).stations = s.stations ∧ (takeAtStart s).sent = s.sent := by
  unfold takeAtStart
  simp

@[simp] theorem releaseClaims_rest (s : State) (who : Nat) :
    (releaseClaims s who).now = s.now ∧ (releaseClaims s who).pending = s.pending ∧ (releaseClaims s who).draws = s.draws ∧
      (releaseClaims s who).rdata = s.rdata ∧ (releaseClaims s who).regs = s.regs ∧ (releaseClaims s who).mem = s.mem ∧
      (releaseClaims s who).units = s.units ∧ (releaseClaims s who).objs = s.objs ∧ (releaseClaims s who).prog = s.prog ∧
      (releaseClaims s who).img = s.img ∧ (releaseClaims s who).tsk = s.tsk ∧ (releaseClaims s who).gz = s.gz ∧
      (releaseClaims s who).evc = s.evc ∧ (releaseClaims s who).nv = s.nv ∧ (releaseClaims s who).rtc = s.rtc ∧
      (releaseClaims s who).wdg = s.wdg ∧ (releaseClaims s who).frz = s.frz ∧ (releaseClaims s who).rcd = s.rcd ∧
      (releaseClaims s who).boot = s.boot ∧ (releaseClaims s who).phr = s.phr ∧ (releaseClaims s who).lpe = s.lpe ∧
      (releaseClaims s who).trc = s.trc ∧ (releaseClaims s who).nrg = s.nrg ∧ (releaseClaims s who).hsb = s.hsb ∧
      (releaseClaims s who).can = s.can ∧ (releaseClaims s who).saf = s.saf ∧ (releaseClaims s who).jrn = s.jrn ∧
      (releaseClaims s who).stations = s.stations ∧ (releaseClaims s who).sent = s.sent := by
  unfold releaseClaims
  simp

@[simp] theorem wdgCtrlWrite_rest (s : State) (w : Word) :
    (wdgCtrlWrite s w).now = s.now ∧ (wdgCtrlWrite s w).pending = s.pending ∧ (wdgCtrlWrite s w).draws = s.draws ∧
      (wdgCtrlWrite s w).rdata = s.rdata ∧ (wdgCtrlWrite s w).mem = s.mem ∧ (wdgCtrlWrite s w).units = s.units ∧
      (wdgCtrlWrite s w).objs = s.objs ∧ (wdgCtrlWrite s w).prog = s.prog ∧ (wdgCtrlWrite s w).img = s.img ∧
      (wdgCtrlWrite s w).tsk = s.tsk ∧ (wdgCtrlWrite s w).gz = s.gz ∧ (wdgCtrlWrite s w).evc = s.evc ∧
      (wdgCtrlWrite s w).nv = s.nv ∧ (wdgCtrlWrite s w).rtc = s.rtc ∧ (wdgCtrlWrite s w).frz = s.frz ∧
      (wdgCtrlWrite s w).rcd = s.rcd ∧ (wdgCtrlWrite s w).boot = s.boot ∧ (wdgCtrlWrite s w).phr = s.phr ∧
      (wdgCtrlWrite s w).lpe = s.lpe ∧ (wdgCtrlWrite s w).trc = s.trc ∧ (wdgCtrlWrite s w).nrg = s.nrg ∧
      (wdgCtrlWrite s w).hsb = s.hsb ∧ (wdgCtrlWrite s w).field = s.field ∧ (wdgCtrlWrite s w).can = s.can ∧
      (wdgCtrlWrite s w).saf = s.saf ∧ (wdgCtrlWrite s w).jrn = s.jrn ∧ (wdgCtrlWrite s w).stations = s.stations ∧
      (wdgCtrlWrite s w).sent = s.sent := by
  unfold wdgCtrlWrite
  simp

@[simp] theorem wdgApply_rest (s : State) (long : Bool) :
    (wdgApply s long).now = s.now ∧ (wdgApply s long).pending = s.pending ∧ (wdgApply s long).draws = s.draws ∧
      (wdgApply s long).rdata = s.rdata ∧ (wdgApply s long).mem = s.mem ∧ (wdgApply s long).units = s.units ∧
      (wdgApply s long).objs = s.objs ∧ (wdgApply s long).prog = s.prog ∧ (wdgApply s long).img = s.img ∧
      (wdgApply s long).tsk = s.tsk ∧ (wdgApply s long).gz = s.gz ∧ (wdgApply s long).evc = s.evc ∧
      (wdgApply s long).nv = s.nv ∧ (wdgApply s long).rtc = s.rtc ∧ (wdgApply s long).frz = s.frz ∧
      (wdgApply s long).rcd = s.rcd ∧ (wdgApply s long).boot = s.boot ∧ (wdgApply s long).phr = s.phr ∧
      (wdgApply s long).lpe = s.lpe ∧ (wdgApply s long).trc = s.trc ∧ (wdgApply s long).nrg = s.nrg ∧
      (wdgApply s long).hsb = s.hsb ∧ (wdgApply s long).field = s.field ∧ (wdgApply s long).can = s.can ∧
      (wdgApply s long).saf = s.saf ∧ (wdgApply s long).jrn = s.jrn ∧ (wdgApply s long).stations = s.stations ∧
      (wdgApply s long).sent = s.sent := by
  unfold wdgApply
  simp

/-! ### Writes of TSK_GCTRL -/

theorem exec_tskGctrlStart (core : CoreId) (v : Word) (s : State) (h : MayWrite s core TSK_GCTRL) :
    exec (.tskGctrlStart core v) s = .next (gctrlWrite s v) :=
  exec_of_block h rfl plain_tskGctrl.1 (Or.inr plain_tskGctrl.2) rfl

theorem exec_tskGctrlStop (core : CoreId) (v : Word) (s : State) (h : MayWrite s core TSK_GCTRL) :
    exec (.tskGctrlStop core v) s = .next (gctrlWrite s v) :=
  exec_of_block h rfl plain_tskGctrl.1 (Or.inr plain_tskGctrl.2) rfl

/-- A STOP in the write is the stop, whatever else the write holds (R91). -/
theorem gctrlWrite_stop (s : State) (v : Word) (h : wbit v 1 = true) : gctrlWrite s v = (stopRequest s).1 := if_pos h

/-- A START without STOP is the start (R91). -/
theorem gctrlWrite_start (s : State) (v : Word) (hstop : wbit v 1 = false) (hstart : wbit v 0 = true) :
    gctrlWrite s v = (startCommand s (wbit v 2) false).1 := by simp [gctrlWrite, hstop, hstart]

/-! ### The start -/

/-- A start is refused otherwise than from STOPPED, and on a module that does not act. -/
theorem startCommand_refused (s : State) (cold firmware : Bool) (h : s.acts = false ∨ s.stopped = false) :
    startCommand s cold firmware = (s, 0x0701) := by
  unfold startCommand
  rcases h with h | h <;> simp [h]

/-- A cold start, or a warm one whose retentive data are there, enters PREPARING (R88). -/
theorem startCommand_accepted (s : State) (cold firmware : Bool) (hacts : s.acts = true) (hstop : s.stopped = true)
    (hwarm : cold = true ∨ warmSource s = true) : (startCommand s cold firmware).1 =
      (fieldCmd (takeAtStart (releaseClaims (wdgApply s (!firmware && s.flag WDG_CTRL_LONG)) ownProgram)) .release).modTsk
        fun t => { t with prog := .preparing, cold := cold, prepEnd := none } := by
  have hlost : (!cold && !warmSource s) = false := by rcases hwarm with h | h <;> simp [h]
  simp [startCommand, hacts, hstop, hlost]

/-- Where no ring value waits for the start, taking them does nothing. -/
theorem takeAtStart_of_none (s : State) (h : s.phr.atStart = []) : takeAtStart s = s := by simp [takeAtStart, h]

/-- Settles O11: an accepted start is PREPARING and leaves memories, image and units; a refused one does nothing. -/
theorem programStart : Obligations.ProgramStart := by
  intro core v s hmay hstart hstop
  have hexec := exec_tskGctrlStart core v s hmay
  rw [gctrlWrite_start s v hstop hstart] at hexec
  refine ⟨fun hacts hstopped hwarm => ?_, fun hrefused => ?_⟩
  · rw [startCommand_accepted s _ _ hacts hstopped hwarm] at hexec
    refine ⟨_, hexec, by simp, by simp, by simp, by simp, by simp, by simp, fun hnone => ?_, by simp, by simp⟩
    rw [takeAtStart_of_none _ (by simpa using hnone)]
    simp
  · rw [hexec, startCommand_refused s _ _ hrefused]

/-! ### The stop -/

/-- A program that is not PREPARING is not stopped from there. -/
theorem stopPreparing_of_running (s : State) (cause k : Nat) (h : s.running = true) : stopPreparing s cause k = s := by
  have hrun : s.tsk.prog = .running := eq_of_beq h
  simp [stopPreparing, hrun]

theorem stopRequest_acts (s : State) (h : s.acts = true) : (stopRequest s).1 = stopCommand s := by simp [stopRequest, h]

/-- Settles O12: STOP is the stop with cause 0x01, and nothing on a module that does not act. -/
theorem programStopCommand : Obligations.ProgramStop := by
  intro core v s hmay hstop
  have hexec := exec_tskGctrlStop core v s hmay
  rw [gctrlWrite_stop s v hstop] at hexec
  have hacts_exec (hacts : s.acts = true) : exec (.tskGctrlStop core v) s = .next (stopCommand s) := by
    rw [hexec, stopRequest_acts s hacts]
  refine ⟨hacts_exec, fun hacts hrun => ⟨_, hacts_exec hacts, ?_⟩, fun hno => ?_⟩
  · rw [stopCommand, stopPreparing_of_running s 1 0xFF hrun]
    exact stopKeepsItsCause s 1 0xFF hrun
  · rw [hexec, stopRequest, hno]
    rfl

end Sys2Proof.Machine
end

section
/-!
PROOF. ProgramRuns: how PREPARING ends, and the entry to RUNNING (R87 to R90, R530, R715).
-/
namespace Sys2Proof.Machine

@[simp] theorem wdWindow_rest (s : State) (t : Nat) :
    (wdWindow s t).now = s.now ∧ (wdWindow s t).pending = s.pending ∧ (wdWindow s t).draws = s.draws ∧
      (wdWindow s t).rdata = s.rdata ∧ (wdWindow s t).mem = s.mem ∧ (wdWindow s t).units = s.units ∧
      (wdWindow s t).objs = s.objs ∧ (wdWindow s t).prog = s.prog ∧ (wdWindow s t).img = s.img ∧
      (wdWindow s t).tsk.prog = s.tsk.prog ∧ (wdWindow s t).tsk.cold = s.tsk.cold ∧
      (wdWindow s t).tsk.prepEnd = s.tsk.prepEnd ∧ (wdWindow s t).gz = s.gz ∧ (wdWindow s t).evc = s.evc ∧
      (wdWindow s t).nv = s.nv ∧ (wdWindow s t).rtc = s.rtc ∧ (wdWindow s t).wdg = s.wdg ∧ (wdWindow s t).frz = s.frz ∧
      (wdWindow s t).rcd = s.rcd ∧ (wdWindow s t).boot = s.boot ∧ (wdWindow s t).phr = s.phr ∧ (wdWindow s t).lpe = s.lpe ∧
      (wdWindow s t).trc = s.trc ∧ (wdWindow s t).nrg = s.nrg ∧ (wdWindow s t).hsb = s.hsb ∧ (wdWindow s t).field = s.field ∧
      (wdWindow s t).can = s.can ∧ (wdWindow s t).saf = s.saf ∧ (wdWindow s t).jrn = s.jrn ∧
      (wdWindow s t).stations = s.stations ∧ (wdWindow s t).sent = s.sent := by
  unfold wdWindow
  simp

@[simp] theorem wdFirst_rest (s : State) (entry : Bool) :
    (wdFirst s entry).now = s.now ∧ (wdFirst s entry).pending = s.pending ∧ (wdFirst s entry).draws = s.draws ∧
      (wdFirst s entry).rdata = s.rdata ∧ (wdFirst s entry).mem = s.mem ∧ (wdFirst s entry).units = s.units ∧
      (wdFirst s entry).objs = s.objs ∧ (wdFirst s entry).prog = s.prog ∧ (wdFirst s entry).img = s.img ∧
      (wdFirst s entry).tsk.prog = s.tsk.prog ∧ (wdFirst s entry).tsk.cold = s.tsk.cold ∧
      (wdFirst s entry).tsk.prepEnd = s.tsk.prepEnd ∧ (wdFirst s entry).gz = s.gz ∧ (wdFirst s entry).evc = s.evc ∧
      (wdFirst s entry).nv = s.nv ∧ (wdFirst s entry).rtc = s.rtc ∧ (wdFirst s entry).wdg = s.wdg ∧
      (wdFirst s entry).frz = s.frz ∧ (wdFirst s entry).rcd = s.rcd ∧ (wdFirst s entry).boot = s.boot ∧
      (wdFirst s entry).phr = s.phr ∧ (wdFirst s entry).lpe = s.lpe ∧ (wdFirst s entry).trc = s.trc ∧
      (wdFirst s entry).nrg = s.nrg ∧ (wdFirst s entry).hsb = s.hsb ∧ (wdFirst s entry).field = s.field ∧
      (wdFirst s entry).can = s.can ∧ (wdFirst s entry).saf = s.saf ∧ (wdFirst s entry).jrn = s.jrn ∧
      (wdFirst s entry).stations = s.stations ∧ (wdFirst s entry).sent = s.sent := by
  unfold wdFirst
  simp

/-! ### The end of PREPARING -/

/-- The end of PREPARING in a module that runs: the checks, then the claims (R87). -/
theorem exec_preparingEnd (s : State) (hprog : s.tsk.prog = .preparing) (hend : s.tsk.prepEnd = none) (hlive : halted s = false) :
    exec .preparingEnd s = match configBad (showBudget s) with
      | some k => .next (stopPreparing (showBudget s) 6 k)
      | none =>
        if (programClaim (showBudget s)).2 then .next (setUp (programClaim (showBudget s)).1)
        else .next (stopPreparing (programClaim (showBudget s)).1 6 0xFF) := by
  obtain ⟨hheld, hfrozen⟩ := Bool.or_eq_false_iff.1 hlive
  have hgoes : (decide (s.tsk.prog ≠ .preparing) || s.tsk.prepEnd.isSome || s.boot.held || s.frz.frozen) = false := by
    simp [hprog, hend, hheld, hfrozen]
  exact (if_neg (ne_true_of_eq_false hgoes)).trans rfl

/-- A program that is set up has ended PREPARING, and no window of the task watchdog runs yet. -/
theorem setUp_says (s : State) : (setUp s).tsk.prepEnd.isSome = true ∧ (setUp s).tsk.wdStart = none := by
  unfold setUp
  simp

/-! ### The entry to RUNNING -/

theorem ctrUp_at (s : State) (t k : Nat) : (s.at t).ctrUp k = (s.ctrUp k).at t := by
  unfold State.ctrUp State.at
  split <;> rfl

/-- The state in which the program has entered RUNNING: the run is counted and noted (R88, R643). -/
def runEntered (s : State) : State :=
  let s := ((s.at s.tsk.runAt).ctrUp ctrRun).modTsk fun t => { t with prog := .running, prepEnd := none }
  { s with boot := { s.boot with runUs := if s.boot.ranSince then s.boot.runUs else s.now / 1000, ranSince := true } }

/-- The entry drives SYS_OK (R715). -/
def sysOkDriven (s : State) : State := (wdFirst (runEntered s) true).setFlag SYS_SYSOK_DRIVE true

/-- A module that acts sends its field side to RUN (R530). -/
theorem exec_programRunningEntry (s : State) (hprog : s.tsk.prog = .preparing) (hend : s.tsk.prepEnd.isSome = true)
    (hlive : halted s = false) : exec .programRunningEntry s =
      .next (if (sysOkDriven s).acts then fieldCmd (sysOkDriven s) (.state fsRun) else sysOkDriven s) := by
  obtain ⟨hheld, hfrozen⟩ := Bool.or_eq_false_iff.1 hlive
  have hgoes : (decide (s.tsk.prog ≠ .preparing) || s.tsk.prepEnd.isNone || s.boot.held || s.frz.frozen) = false := by
    rw [← Option.not_isSome, hend]
    simp [hprog, hheld, hfrozen]
  exact (if_neg (ne_true_of_eq_false hgoes)).trans rfl

/-- What the entry leaves, but for the command to the field side. -/
theorem sysOkDriven_says (s : State) : (sysOkDriven s).tsk.prog = .running ∧ (sysOkDriven s).tsk.prepEnd = none ∧
    (sysOkDriven s).boot.ranSince = true ∧ (sysOkDriven s).flag SYS_SYSOK_DRIVE = true ∧
    (sysOkDriven s).now = max s.now s.tsk.runAt ∧ (sysOkDriven s).nv = (s.ctrUp ctrRun).nv ∧ (sysOkDriven s).mem = s.mem ∧
    (sysOkDriven s).field = s.field ∧ (sysOkDriven s).acts = s.acts := by
  have hflag : (sysOkDriven s).flag SYS_SYSOK_DRIVE = true := flag_setFlag_true _ _ (by decide) (by decide)
  refine ⟨?_, ?_, ?_, hflag, ?_⟩ <;> simp [sysOkDriven, runEntered, ctrUp_at, State.acts, State.role]

/-- Settles O14: the three ends of PREPARING, and the entry. -/
theorem programRuns : Obligations.ProgramRuns := by
  refine ⟨fun s k hprog hend hlive hbad => ?_, fun s hprog hend hlive hok hclaim => ?_, fun s hprog hend hlive hok hclaim => ?_,
    fun s hprog hend hlive => ?_⟩
  · rw [exec_preparingEnd s hprog hend hlive, hbad]
  · rw [exec_preparingEnd s hprog hend hlive, hok]
    simp [hclaim]
  · have hexec := exec_preparingEnd s hprog hend hlive
    rw [hok] at hexec
    exact ⟨_, hexec.trans (if_pos hclaim), rfl, setUp_says _⟩
  · obtain ⟨hrun, hprep, hran, hflag, hnow, hnv, hmem, hfield, hacts⟩ := sysOkDriven_says s
    refine ⟨_, (exec_programRunningEntry s hprog hend hlive), ?_⟩
    rw [hacts]
    split
    · exact ⟨hrun, hprep, hran, hflag, hnow, hnv, hmem, congrArg (fun f : FieldState => f.cmds ++ [FieldCmd.state fsRun]) hfield⟩
    · exact ⟨hrun, hprep, hran, hflag, hnow, hnv, hmem, by simp [hfield]⟩

end Sys2Proof.Machine
end

section
/-!
PROOF. ValueInstructions: the instructions that end with a value and conditions for operand 1 (R240 to R254, R275).
-/
namespace Sys2Proof.Machine

/-- An instruction whose meaning is a value and conditions for operand 1 says what it completes with. -/
def ValueRow (s t t' : State) (u : UnitId) (c : Ctx) (p : Instr × Op × Nat × Nat) : Prop :=
  Stands s (UnitId.key u) p.2.1 c t → c.write t 0 p.2.2.1 = .ok t' →
    exec p.1 s = .next (complete c { s := t', pc := c.next, cond := p.2.2.2 })

/-- Where the write of the value to operand 1 succeeds, the instruction ends with it. -/
theorem result_of_write {c : Ctx} {s t : State} {r : Nat × Nat} (h : c.write s 0 r.1 = .ok t) :
    c.result s r = .ok { s := t, pc := c.next, cond := r.2 } := by
  simp [Ctx.result, h]

/-- An instruction that ends with a result completes with it where its unit stands at it. -/
theorem valueRow_of_result {s t t' : State} {u : UnitId} {c : Ctx} {i : Instr} {op : Op} {r : Nat × Nat}
    (act : Ctx → State → Res Done) (hexec : exec i s = .next (insn s (UnitId.key u) op act)) (hact : act c t = c.result t r) :
    ValueRow s t t' u c (i, op, r) := by
  intro hstands hwrite
  dsimp only at hstands hwrite ⊢
  rw [hexec, insn_stands act hstands, hact, result_of_write hwrite]

/-- A shift to the left multiplies by a power of two, and one beyond the width leaves 0 (R246). -/
theorem shiftLeft_eq (w a n : Nat) : shiftLeft w a n = if w ≤ n then 0 else a * 2 ^ n % 2 ^ w := by
  rw [shiftLeft, Nat.shiftLeft_eq]

/-- A shift to the right divides by a power of two, and one beyond the width leaves 0 (R246). -/
theorem shiftRight_eq (w a n : Nat) : shiftRight w a n = a / 2 ^ n * b2n (decide (n < w)) := by
  rw [shiftRight, Nat.shiftRight_eq_div_pow]
  split
  · simp [b2n, show ¬n < w by omega]
  · simp [b2n, show n < w by omega]

/-- Settles O21: each row's meaning ends with the row's value and conditions. -/
theorem valueInstructions : Obligations.ValueInstructions := by
  intro u s t t' c
  exact
    forall_mem_cons_of (valueRow_of_result _ rfl rfl) <|
    forall_mem_cons_of (valueRow_of_result _ rfl rfl) <|
    forall_mem_cons_of (valueRow_of_result _ rfl rfl) <|
    forall_mem_cons_of (valueRow_of_result _ rfl rfl) <|
    forall_mem_cons_of (valueRow_of_result _ rfl rfl) <|
    forall_mem_cons_of (valueRow_of_result _ rfl rfl) <|
    forall_mem_cons_of (valueRow_of_result _ rfl rfl) <|
    forall_mem_cons_of (valueRow_of_result _ rfl rfl) <|
    forall_mem_cons_of (valueRow_of_result _ rfl rfl) <|
    forall_mem_cons_of (valueRow_of_result _ rfl rfl) <|
    forall_mem_cons_of (valueRow_of_result _ rfl rfl) <|
    forall_mem_cons_of (valueRow_of_result _ rfl rfl) <|
    forall_mem_cons_of (valueRow_of_result _ rfl rfl) <|
    forall_mem_cons_of (valueRow_of_result _ rfl rfl) <|
    forall_mem_cons_of (valueRow_of_result _ rfl rfl) <|
    forall_mem_cons_of (valueRow_of_result _ rfl rfl) <|
    forall_mem_cons_of (valueRow_of_result _ rfl rfl) <|
    forall_mem_cons_of (valueRow_of_result _ rfl rfl) <|
    forall_mem_cons_of (valueRow_of_result _ rfl rfl) <|
    forall_mem_cons_of (valueRow_of_result _ rfl rfl) <|
    forall_mem_cons_of (valueRow_of_result _ rfl rfl) <|
    forall_mem_cons_of (valueRow_of_result _ rfl rfl) <|
    forall_mem_cons_of (valueRow_of_result _ rfl rfl) <|
    forall_mem_cons_of (valueRow_of_result _ rfl rfl) <|
    forall_mem_cons_of (valueRow_of_result _ rfl rfl) <|
    forall_mem_cons_of (valueRow_of_result _ rfl rfl) <|
    forall_mem_cons_of (valueRow_of_result _ rfl rfl) <|
    forall_mem_cons_of (valueRow_of_result _ rfl rfl) <|
    forall_mem_cons_of (valueRow_of_result _ rfl rfl) <|
    forall_mem_cons_of (valueRow_of_result _ rfl rfl) <|
    forall_mem_cons_of (valueRow_of_result _ rfl (congrArg (fun x => c.result t (x, 0)) (shiftLeft_eq _ _ _))) <|
    forall_mem_cons_of (valueRow_of_result _ rfl (congrArg (fun x => c.result t (x, 0)) (shiftRight_eq _ _ _))) <|
    forall_mem_cons_of (valueRow_of_result _ rfl rfl) <|
    forall_mem_cons_of (valueRow_of_result _ rfl rfl) <|
    forall_mem_cons_of (valueRow_of_result _ rfl rfl) <|
    forall_mem_cons_of (valueRow_of_result _ rfl rfl) <|
    forall_mem_cons_of (valueRow_of_result _ rfl rfl) <|
    forall_mem_cons_of (valueRow_of_result _ rfl rfl) <|
    forall_mem_cons_of (valueRow_of_result _ rfl rfl) <|
    forall_mem_cons_of (valueRow_of_result _ rfl rfl) <|
    forall_mem_cons_of (valueRow_of_result _ rfl rfl) <|
    forall_mem_cons_of (valueRow_of_result _ rfl rfl) <|
    forall_mem_cons_of (valueRow_of_result _ rfl rfl) <|
    forall_mem_cons_of (valueRow_of_result _ rfl rfl) <|
    forall_mem_cons_of (valueRow_of_result _ rfl rfl) <|
    forall_mem_cons_of (valueRow_of_result _ rfl rfl) <|
    forall_mem_cons_of (valueRow_of_result _ rfl rfl) <|
    List.forall_mem_nil _

end Sys2Proof.Machine
end

section
/-!
PROOF. IntegerEdges: integer arithmetic modulo 2^w at the edges of the signed range (R243).
-/
namespace Sys2Proof.Machine

/-! ### Numbers modulo a power of two -/

/-- The power that a width's signed range reaches to. -/
theorem two_pow_width (w : Nat) (hw : 0 < w) : (2 : Int) ^ w = 2 * 2 ^ (w - 1) := by
  obtain ⟨k, rfl⟩ : ∃ k, w = k + 1 := ⟨w - 1, by omega⟩
  rw [Nat.add_sub_cancel, Int.pow_succ, Int.mul_comm]

theorem intMin_eq (w : Nat) : intMin w = -2 ^ (w - 1) := by simp [intMin]
theorem intMax_eq (w : Nat) : intMax w = 2 ^ (w - 1) - 1 := by simp [intMax]

/-- A signed reading lies in the signed range. -/
theorem signed_range (w v : Nat) : -2 ^ (w - 1) ≤ signed w v ∧ signed w v < 2 ^ (w - 1) := by
  have hlow := BitVec.le_toInt (BitVec.ofNat w v)
  have hhigh := BitVec.toInt_lt (x := BitVec.ofNat w v)
  exact ⟨by simpa [signed] using hlow, by simpa [signed] using hhigh⟩

/-- A number that fits its width reads 0 just where it is 0. -/
theorem signed_eq_zero_iff (w v : Nat) (h : v < 2 ^ w) : signed w v = 0 ↔ v = 0 := by
  rw [signed, ← BitVec.toInt_zero (w := w), BitVec.toInt_inj, ← BitVec.toNat_inj, BitVec.toNat_ofNat, Nat.mod_eq_of_lt h]
  simp

/-- The wrapped number is congruent to the integer. -/
theorem wrap_cast (w : Nat) (n : Int) : (wrap w n : Int) = n % 2 ^ w := by
  have hpos : (0 : Int) < ((2 ^ w : Nat) : Int) := by exact_mod_cast Nat.two_pow_pos w
  rw [wrap, Int.toNat_of_nonneg (Int.emod_nonneg n (by omega))]
  simp

/-- An integer in the signed range reads back after it is wrapped. -/
theorem signed_wrap (w : Nat) (n : Int) (hw : 0 < w) (hlow : -2 ^ (w - 1) ≤ n) (hhigh : n < 2 ^ (w - 1)) :
    signed w (wrap w n) = n := by
  have hcast : ((2 ^ w : Nat) : Int) = 2 ^ w := by simp
  have htwo := two_pow_width w hw
  rw [signed, BitVec.toInt_eq_toNat_bmod, BitVec.toNat_ofNat, Int.natCast_mod, wrap_cast, ← hcast, Int.emod_emod,
    Int.emod_bmod]
  refine Int.bmod_eq_of_le ?_ ?_
  · rw [hcast]; omega
  · rw [hcast]; omega

/-! ### Quotients and remainders -/

/-- The truncated quotient of two numbers of the range stays in it, but for the most negative number over −1. -/
theorem tdiv_range (m x y : Int) (hlow : -m ≤ x) (hhigh : x < m) (hy : y ≠ 0) (hedge : ¬(x = -m ∧ y = -1)) :
    -m ≤ Int.tdiv x y ∧ Int.tdiv x y < m := by
  have habs : (Int.tdiv x y).natAbs = x.natAbs / y.natAbs := Int.natAbs_tdiv x y
  by_cases hone : y = 1
  · subst hone
    rw [Int.tdiv_one]
    exact ⟨hlow, hhigh⟩
  · by_cases hneg : y = -1
    · subst hneg
      rw [Int.tdiv_neg, Int.tdiv_one]
      omega
    · have hhalf : x.natAbs / y.natAbs ≤ x.natAbs / 2 := Nat.div_le_div_left (by omega) (by omega)
      omega

/-- The truncated remainder lies nearer to 0 than the divisor. -/
theorem tmod_range (m x y : Int) (hy : y ≠ 0) (hlow : -m ≤ y) (hhigh : y < m) : -m ≤ Int.tmod x y ∧ Int.tmod x y < m := by
  have habs : (Int.tmod x y).natAbs = x.natAbs % y.natAbs := Int.natAbs_tmod x y
  have hlt : x.natAbs % y.natAbs < y.natAbs := Nat.mod_lt _ (by omega)
  omega

/-! ### The operations at an integer size -/

theorem isFloat_of_szInt : ∀ z ∈ szInt, z.isFloat = false ∧ 0 < z.width := by decide

/-- A true result modulo 2^w, with IOVF just outside the signed range (R243). -/
theorem intResult_says (w : Nat) (n : Int) : ((intResult w n).1 : Int) = n % 2 ^ w ∧
    (intResult w n).2 = if n < -2 ^ (w - 1) ∨ 2 ^ (w - 1) - 1 < n then 8 else 0 := by
  rw [← intMin_eq, ← intMax_eq]
  exact ⟨wrap_cast w n, rfl⟩

/-- A divisor 0 gives the table's results with DZERO. -/
theorem division_by_zero (w a : Nat) :
    intDiv w a 0 = (0, 4) ∧ natDiv a 0 = (0, 4) ∧ intRem w a 0 = (a, 4) ∧ natRem a 0 = (a, 4) := ⟨rfl, rfl, rfl, rfl⟩

/-- The most negative number over −1 gives the table's results with DOVF. -/
theorem division_overflow (w a b : Nat) (hb : b ≠ 0) (hx : signed w a = -2 ^ (w - 1)) (hy : signed w b = -1) :
    intDiv w a b = (a, 2) ∧ intRem w a b = (0, 2) := by
  rw [← intMin_eq] at hx
  simp [intDiv, intRem, hb, hx, hy, cDOVF]

/-- Elsewhere a division gives the truncated quotient and the remainder with the sign of the dividend, and no condition. -/
theorem division_regular (w a b : Nat) (hw : 0 < w) (hlt : b < 2 ^ w) (hb : b ≠ 0)
    (hedge : ¬(signed w a = -2 ^ (w - 1) ∧ signed w b = -1)) :
    signed w (intDiv w a b).1 = Int.tdiv (signed w a) (signed w b) ∧
      signed w (intRem w a b).1 = Int.tmod (signed w a) (signed w b) ∧ (intDiv w a b).2 = 0 ∧ (intRem w a b).2 = 0 ∧
      (natDiv a b).2 = 0 ∧ (natRem a b).2 = 0 := by
  obtain ⟨hlowx, hhighx⟩ := signed_range w a
  obtain ⟨hlowy, hhighy⟩ := signed_range w b
  have hy : signed w b ≠ 0 := fun h => hb ((signed_eq_zero_iff w b hlt).1 h)
  obtain ⟨hlowq, hhighq⟩ := tdiv_range _ _ _ hlowx hhighx hy hedge
  obtain ⟨hlowr, hhighr⟩ := tmod_range _ (signed w a) _ hy hlowy hhighy
  have hedge' : ¬(signed w a = intMin w ∧ signed w b = -1) := by rwa [intMin_eq]
  simp only [intDiv, intRem, natDiv, natRem, if_neg hb, if_neg hedge']
  exact ⟨signed_wrap w _ hw hlowq hhighq, signed_wrap w _ hw hlowr hhighr, trivial, trivial, trivial, trivial⟩

/-- The most negative number negates to itself with NEG. -/
theorem negation_edge (w a : Nat) (hx : signed w a = -2 ^ (w - 1)) : intNeg w a = (a, 1) ∧ intAbs w a = (a, 1) := by
  rw [← intMin_eq] at hx
  simp [intNeg, intAbs, hx, cNEG]

/-- Any other number negates, and has its absolute value, with no condition. -/
theorem negation_regular (w a : Nat) (hw : 0 < w) (hx : signed w a ≠ -2 ^ (w - 1)) :
    signed w (intNeg w a).1 = -signed w a ∧ signed w (intAbs w a).1 = (signed w a).natAbs ∧ (intNeg w a).2 = 0 ∧
      (intAbs w a).2 = 0 := by
  obtain ⟨hlow, hhigh⟩ := signed_range w a
  have hneg : signed w (wrap w (-signed w a)) = -signed w a := signed_wrap w _ hw (by omega) (by omega)
  rw [← intMin_eq] at hx
  simp only [intNeg, intAbs, if_neg hx]
  refine ⟨hneg, ?_, trivial, trivial⟩
  split
  · rw [hneg]; omega
  · omega

/-- The larger or the smaller of two numbers, with no condition. -/
theorem intMinMax_says (w : Nat) (big : Bool) (a b : Nat) : (intMinMax w big a b).2 = 0 ∧
    signed w (intMinMax w big a b).1 = if big then max (signed w a) (signed w b) else min (signed w a) (signed w b) := by
  refine ⟨rfl, ?_⟩
  unfold intMinMax
  cases big <;> by_cases h : signed w a < signed w b <;> simp [h] <;> omega

/-- Settles O20: each edge by the lemma of its operation, at an integer size. -/
theorem integerEdges : Obligations.IntegerEdges := by
  intro z hz a b ha hb
  obtain ⟨hfloat, hw⟩ := isFloat_of_szInt z hz
  have hadd : aluAdd z a b = intAdd z.width a b := by simp [aluAdd, hfloat]
  have hsub : aluSub z a b = intSub z.width a b := by simp [aluSub, hfloat]
  have hmul : aluMul z a b = intMul z.width a b := by simp [aluMul, hfloat]
  have hdiv : aluDiv z a b = intDiv z.width a b := by simp [aluDiv, hfloat]
  have hneg : aluNeg z a = intNeg z.width a := by simp [aluNeg, hfloat]
  have habs : aluAbs z a = intAbs z.width a := by simp [aluAbs, hfloat]
  have hminmax (big : Bool) : aluMinMax z big a b = intMinMax z.width big a b := by simp [aluMinMax, hfloat]
  simp only [hadd, hsub, hmul, hdiv, hneg, habs, hminmax]
  refine ⟨?_, ?_, fun hx hy => ?_, fun hb0 hedge => division_regular z.width a b hw hb hb0 hedge,
    negation_edge z.width a, negation_regular z.width a hw, fun big => intMinMax_says z.width big a b⟩
  · exact forall_mem_cons_of (intResult_says z.width _) <| forall_mem_cons_of (intResult_says z.width _) <|
      forall_mem_cons_of (intResult_says z.width _) <| List.forall_mem_nil _
  · rintro rfl
    exact division_by_zero z.width a
  · have hb0 : b ≠ 0 := by
      rintro rfl
      rw [(signed_eq_zero_iff z.width 0 hb).2 rfl] at hy
      omega
    exact division_overflow z.width a b hb0 hx hy

end Sys2Proof.Machine
end

section
/-!
PROOF. StoreFrame and InstructionEnds: what a store changes (R212, R216), and what the end of an instruction leaves (R198, R199, R211).
-/
namespace Sys2Proof.Machine

/-! ### Stores to data SRAM (R212, R216) -/

/-- Data SRAM's addresses. -/
theorem areaOf_eq_sram_iff (a : Nat) : areaOf a = some .sram ↔ 0x20000000 ≤ a ∧ a < 0x21000000 := by
  unfold areaOf
  repeat' split
  all_goals simp
  all_goals omega

/-- What a store to data SRAM leaves: all but data SRAM and the marks of errors that ECC keeps. -/
def sramRest (s : State) : State := { s with mem := { s.mem with sram := [], ecc := [], eccOne := [] } }

/-- A byte stored to data SRAM is put there, and all else stays. -/
theorem storeByte_sram (s : State) (a : Nat) (b : Byte) (h : areaOf a = some .sram) :
    (storeByte s a b).mem.sram = s.mem.sram.set 0 a b ∧ sramRest (storeByte s a b) = sramRest s := by
  unfold storeByte
  cases hecc : s.mem.ecc.contains a || s.mem.eccOne.contains a
  all_goals
    simp only [h]
    exact ⟨rfl, rfl⟩

/-- Bytes stored to data SRAM are put there one after the other, and all else stays. -/
theorem storeBytes_sram (bs : List Byte) (s : State) (a : Nat) (hlow : 0x20000000 ≤ a) (hhigh : a + bs.length ≤ 0x21000000) :
    (storeBytes s a bs).mem.sram = s.mem.sram.setMany 0 a bs ∧ sramRest (storeBytes s a bs) = sramRest s := by
  induction bs generalizing s a with
  | nil => exact ⟨rfl, rfl⟩
  | cons b bs ih =>
    simp only [List.length_cons] at hhigh
    obtain ⟨hbyte, hrest⟩ := storeByte_sram s a b ((areaOf_eq_sram_iff a).2 ⟨hlow, by omega⟩)
    obtain ⟨hbytes, hrests⟩ := ih (storeByte s a b) (a + 1) (by omega) (by omega)
    exact ⟨hbytes.trans (by rw [hbyte]; rfl), hrests.trans hrest⟩

/-- Bytes written one after the other read back in their order. -/
theorem get_setMany_at (bs : List Byte) (m : Mem) (a k : Nat) (h : k < bs.length) :
    (m.setMany 0 a bs).get 0 (a + k) = bs.getD k 0 := by
  induction bs generalizing m a k with
  | nil => simp at h
  | cons b bs ih =>
    unfold Tbl.setMany
    cases k with
    | zero => rw [Tbl.get_setMany_ne _ _ _ _ _ (by omega)]; exact Tbl.get_set_same ..
    | succ k =>
      rw [show a + (k + 1) = a + 1 + k by omega, ih _ _ _ (by simpa using h)]
      rfl

/-- Outside the runs that buffer stores, a store to data SRAM is made there (R216). -/
theorem putBytes_sram (s : State) (u i a : Nat) (bs : List Byte) (hu : u ≠ safetyUnit) (hrun : (s.unit u).run = none)
    (h : areaOf a = some .sram) : putBytes s u i a bs = .ok (storeBytes s a bs) := by
  simp [putBytes, hu, h, buffers, hrun]

/-- Settles O23: the bytes in their order, and what a store to data SRAM leaves. -/
theorem storeFrame : Obligations.StoreFrame := by
  intro s t u i a bs hu hrun hne hfirst hlast hput
  rw [putBytes_sram s u i a bs hu hrun hfirst] at hput
  obtain rfl := Except.ok.inj hput
  rw [areaOf_eq_sram_iff] at hfirst hlast
  have hlen : 0 < bs.length := List.length_pos_iff.2 hne
  obtain ⟨hsram, hrest⟩ := storeBytes_sram bs s a hfirst.1 (by omega)
  have hpart {α : Type} (part : State → α) : part (sramRest (storeBytes s a bs)) = part (sramRest s) := congrArg part hrest
  rw [hsram]
  exact ⟨fun k hk => get_setMany_at bs _ a k hk, fun b hb => Tbl.get_setMany_ne bs _ _ a b hb, hpart (·.mem.code),
    hpart (·.mem.trace), hpart (·.mem.fw), hpart (·.mem.mram), hpart (·.mem.flash), hpart (·.regs), hpart (·.units), hpart (·.img)⟩

/-! ### The end of an instruction (R198, R199, R211) -/

/-- A unit with no load in its delay slot has none to bring to an end. -/
theorem loadDone_of_no_slot (x : UnitSt) (h : x.slot = []) : x.loadDone = x := by
  obtain ⟨⟩ := x
  simp_all [UnitSt.loadDone]

/-- Conditions in the low half of ARITH leave the enables in its high half. -/
theorem enables_or_cond (arith : Word) (cond : Nat) (h : cond < 0x10000) :
    (arith ||| toWord cond).toNat >>> 16 = arith.toNat >>> 16 := by
  have hcond : cond >>> 16 = 0 := by rw [Nat.shiftRight_eq_div_pow]; omega
  rw [BitVec.toNat_or, toWord, BitVec.toNat_ofNat, Nat.mod_eq_of_lt (by omega), Nat.shiftRight_or_distrib, hcond, Nat.or_zero]

/-- Whether conditions trap does not depend on those that ARITH already holds. -/
theorem trapOf_or_cond (arith : Word) (cond : Nat) (h : cond < 0x10000) :
    trapOf (arith ||| toWord cond).toNat cond = trapOf arith.toNat cond := by
  simp only [trapOf, enables_or_cond arith cond h]

/-- An instruction of a core that raises no trap ends with its conditions gained, at the next address. -/
theorem complete_of_core (c : Ctx) (t : State) (cond : Nat) (hlane : isLane c.u = false) (hcond : cond < 0x10000)
    (hslot : (t.unit c.u).slot = []) (htrap : trapOf (t.unit c.u).arith.toNat cond = none) :
    complete c { s := t, pc := c.next, cond := cond } =
      t.modUnit c.u fun x => { x with pc := c.next, arith := x.arith ||| toWord cond } := by
  have hend : (t.modUnit c.u fun x => { x.loadDone with slot := [], pc := c.next, arith := x.arith ||| toWord cond }) =
      t.modUnit c.u fun x => { x with pc := c.next, arith := x.arith ||| toWord cond } := by
    refine congrArg (t.setUnit c.u) ?_
    dsimp only
    rw [loadDone_of_no_slot _ hslot]
    exact congrArg (fun l => { t.unit c.u with slot := l, pc := c.next, arith := (t.unit c.u).arith ||| toWord cond }) hslot.symm
  simp only [complete, hlane, Bool.false_eq_true, if_false]
  rw [hend, State.unit_modUnit, trapOf_or_cond _ _ hcond, htrap]
  rfl

/-- Settles O22: the write of the register, and the end of the instruction after it. -/
theorem instructionEnds : Obligations.InstructionEnds := by
  intro s t t' c op v cond hstands hslot hlane hcond htrap hwrite
  have hends (x : UnitSt → UnitSt) (ht : t' = t.modUnit c.u x) (hx : ∀ y, (x y).slot = y.slot ∧ (x y).arith = y.arith) :
      complete c { s := t', pc := c.next, cond := cond } =
        t'.modUnit c.u fun x => { x with pc := c.next, arith := x.arith ||| toWord cond } := by
    obtain ⟨hslot', harith⟩ := hx (t.unit c.u)
    subst ht
    exact complete_of_core c _ cond hlane hcond (by rw [State.unit_modUnit, hslot', hslot])
      (by rw [State.unit_modUnit, harith, htrap])
  refine ⟨fun k z r hopnd hpair => ?_, fun k z r hopnd hpair hr => ?_⟩
  all_goals
    simp only [Ctx.write, hopnd, writeLoc, hpair, if_true, Bool.false_eq_true, if_false, Except.ok.injEq] at hwrite
    have hend := hends _ hwrite.symm fun y => ⟨rfl, rfl⟩
    dsimp only
    rw [hend, ← hwrite]
  · exact ⟨by simp [UnitSt.setG], fun k hk => by simp [State.unit_modUnit_ne, hk], by simp, by simp, by simp⟩
  · exact ⟨by simp [UnitSt.setG], by simp, by simp, by simp, by simp⟩

end Sys2Proof.Machine
end

section
/-!
PROOF. Exceptions: entry into an exception, a caught trap and a double fault (R229 to R233).
-/
namespace Sys2Proof.Machine

/-- An exception outside an uncorrectable error, on a unit with no load in its delay slot, starts from the unit as it stands. -/
theorem unit_loadDone (s : State) (u : Nat) (h : (s.unit u).slot = []) :
    (s.modUnit u UnitSt.loadDone).unit u = s.unit u := by
  rw [State.unit_modUnit, loadDone_of_no_slot _ h]

/-- What an exception of a core does, by whether it is caught and by EXL (R231 to R233). -/
theorem raiseExc_of_core (s : State) (u cause info addr ret : Nat) (hu : u < 5) (hecc : cause ≠ exEcc) (hslot : (s.unit u).slot = []) :
    raiseExc s u cause info addr ret =
      if trapCaught (s.unit u) cause then
        (s.modUnit u UnitSt.loadDone).setUnit u
          { ((s.unit u).setG 0 (toWord cause)).setG 15 (toWord ret) with pc := (s.unit u).hndl.toNat, hndl := 0 }
      else if (s.unit u).exl then doubleFault (s.modUnit u UnitSt.loadDone) u cause
      else enterExc (s.modUnit u UnitSt.loadDone) u cause info addr ret := by
  have hsafety : u ≠ safetyUnit := by unfold safetyUnit; omega
  unfold raiseExc
  simp only [if_neg hecc, unit_loadDone s u hslot, if_neg hsafety]

/-- Outside a segment run a fault ends no run. -/
theorem runFault_of_no_run (s : State) (u cause : Nat) (h : (s.unit u).run = none) : runFault s u cause = s := by
  simp [runFault, h]

/-- A source that acts shows in the reset sources, in a reset or in one that is in progress (R711). -/
theorem moduleReset_source (s : State) (k : Nat) :
    (moduleReset s (k + 1)).boot.held = true ∧ bit (moduleReset s (k + 1)).boot.sources k = true := by
  cases hheld : s.boot.held with
  | false =>
    obtain ⟨hheld', hsource, -⟩ := moduleReset_says s (k + 1) hheld
    exact ⟨hheld', by rw [hsource, bit_eq_testBit]; simp⟩
  | true =>
    rw [moduleReset, if_pos hheld]
    exact ⟨hheld, by simp [bit_eq_testBit]⟩

/-- Entry into an exception outside a segment run writes the core's exception registers alone (R231). -/
theorem enterExc_outside_run (s : State) (u cause info addr ret : Nat) (hrun : (s.unit u).run = none) :
    enterExc s u cause info addr ret = s.modUnit u fun x => { x with
      expc := toWord ret, exstat := toWord (cstat s u), excause := toWord (info * 256 + cause), exaddr := toWord addr,
      priv := if u = 4 then 2 else 1, exl := true, wait := .none, pc := (x.vbase.toNat + 0x40 * cause) % 2 ^ 32 } :=
  runFault_of_no_run _ u cause (by simpa using hrun)

/-- A double fault of a Serge core outside a segment run stops the core (R233). -/
theorem doubleFault_of_serge (s : State) (u cause : Nat) (hu : u ≠ 4) (hrun : (s.unit u).run = none) :
    ((doubleFault s u cause).unit u).halted = true := by
  have hunit (t : State) : (t.record 0x0012 3 0 0 [u, cause, (t.unit u).expc.toNat]).unit u = t.unit u := by simp [State.unit]
  unfold doubleFault
  rw [if_neg hu]
  dsimp only
  rw [runFault_of_no_run _ u cause (by rw [State.unit_modUnit, hunit]; exact hrun), State.unit_modUnit]

/-- Settles O30: entry, the caught trap, and a double fault of a Serge core and of the supervisor core. -/
theorem exceptions : Obligations.Exceptions := by
  intro s u cause info addr ret hu hecc hslot
  have hraise := raiseExc_of_core s u cause info addr ret hu hecc hslot
  have hunit := unit_loadDone s u hslot
  refine ⟨fun hexl hrun hcaught => ?_, fun hcause hhndl hexl => ?_, fun hexl hserge hrun => ?_, fun hexl hsup => ?_⟩
  · rw [hraise, hcaught, if_neg Bool.false_ne_true, hexl, if_neg Bool.false_ne_true,
      enterExc_outside_run _ u cause info addr ret (by rw [hunit]; exact hrun)]
    have hcstat : cstat (s.modUnit u UnitSt.loadDone) u = cstat s u := by simp only [cstat, privOf, hunit]
    exact ⟨by rw [State.unit_modUnit, hunit, hcstat], by simp, by simp⟩
  · have hcaught : trapCaught (s.unit u) cause = true := by
      rcases hcause with rfl | rfl <;> simp only [trapCaught, bne_iff_ne.2 hhndl, hexl] <;> rfl
    rw [hraise, if_pos hcaught]
    exact ⟨by simp [UnitSt.setG], by simp, by simp⟩
  · have hcaught : trapCaught (s.unit u) cause = false := by simp [trapCaught, hexl]
    rw [hraise, hcaught, if_neg Bool.false_ne_true, if_pos hexl]
    exact doubleFault_of_serge _ u cause hserge (by rw [hunit]; exact hrun)
  · have hcaught : trapCaught (s.unit u) cause = false := by simp [trapCaught, hexl]
    rw [hraise, hcaught, if_neg Bool.false_ne_true, if_pos hexl, doubleFault, if_pos hsup]
    exact moduleReset_source _ 3

end Sys2Proof.Machine
end

section
/-!
PROOF. Transactions: issue, the return of a copy and expiry (spec/06).
-/
namespace Sys2Proof.Machine

open Host (Outcome)

@[simp] theorem State.entry_setQueue (s : State) (r : Nat) (q : List Tx) (tag : Nat) :
    (s.setQueue r q).entry tag = s.entry tag := rfl

@[simp] theorem State.queue_setEntry (s : State) (tag : Nat) (e : TxEntry) (r : Nat) :
    (s.setEntry tag e).queue r = s.queue r := rfl

theorem ringLink_eq {s t : State} (h : t.phr.rings = s.phr.rings) (hl : t.phr.linksDown = s.phr.linksDown) (r : Nat)
    (b : Bool) : ringLink t r b = ringLink s r b := by
  simp only [ringLink, State.ring, h, hl]

theorem portMac_eq {s t : State} (h : t.nv = s.nv) (k : Nat) : portMac t k = portMac s k := by
  simp only [portMac, factoryBytes, h]

/-- The header of a Phider frame is read from the registers and the factory values alone. -/
theorem frameFrom_eq {s t : State} (hr : t.regs = s.regs) (hh : t.nv = s.nv) (r : Nat) (b : Bool) (typ : Nat) :
    frameFrom t r b typ = frameFrom s r b typ := by
  simp only [frameFrom, portMac_eq hh, State.fld, State.reg, hr]

theorem txFrame_eq {s t : State} (hr : t.regs = s.regs) (hh : t.nv = s.nv) (tag : Nat) (e : TxEntry) (b : Bool) :
    txFrame t tag e b = txFrame s tag e b := by
  simp only [txFrame, frameFrom_eq hr hh]

/-- Sending on both ports leaves all but what has been sent. -/
@[simp] theorem sendBoth_rest (s : State) (r : Nat) (f : Bool → PFrame) :
    (sendBoth s r f).regs = s.regs ∧ (sendBoth s r f).mem = s.mem ∧ (sendBoth s r f).img = s.img ∧
      (sendBoth s r f).phr = s.phr := by
  unfold sendBoth
  by_cases ha : ringLink s r false = true <;> simp only [ha, if_true] <;> split <;> simp

theorem sendBoth_of_links {s : State} {r : Nat} (ha : ringLink s r false = true) (hb : ringLink s r true = true)
    (f : Bool → PFrame) : (sendBoth s r f).sent = .ring r true (f true) :: .ring r false (f false) :: s.sent := by
  have hb' : ringLink (s.send (.ring r false (f false))) r true = true := by
    rw [ringLink_eq (s := s) (by simp) (by simp), hb]
  simp only [sendBoth, ha, hb', if_true]
  rfl

/-- The entry that takes a transaction when it is issued. -/
def issuedEntry (s : State) (tag : Nat) (x : Tx) : TxEntry :=
  { busy := true, gen := ((s.entry tag).gen + 1) % 256, lastGen := (s.entry tag).lastGen,
    cancelled := (s.entry tag).cancelled.del (((s.entry tag).gen + 1) % 256), tx := x, issue := s.now }

theorem issueTx_eq (s : State) (tag : Nat) (x : Tx) :
    issueTx s tag x = if x.typ = .delta then s.setEntry tag (issuedEntry s tag x)
      else sendBoth (s.setEntry tag (issuedEntry s tag x)) x.ring
        fun b => txFrame (s.setEntry tag (issuedEntry s tag x)) tag (issuedEntry s tag x) b := rfl

theorem issueTx_parts (s : State) (tag : Nat) (x : Tx) :
    (issueTx s tag x).phr = (s.setEntry tag (issuedEntry s tag x)).phr ∧ (issueTx s tag x).regs = s.regs ∧
      (issueTx s tag x).mem = s.mem ∧ (issueTx s tag x).img = s.img := by
  rw [issueTx_eq]
  split <;> simp

theorem issueTx_sends {s : State} {tag : Nat} {x : Tx} (hx : x.typ ≠ .delta) (ha : ringLink s x.ring false = true)
    (hb : ringLink s x.ring true = true) :
    (issueTx s tag x).sent = .ring x.ring true (txFrame s tag (issuedEntry s tag x) true) ::
      .ring x.ring false (txFrame s tag (issuedEntry s tag x) false) :: s.sent := by
  rw [issueTx_eq, if_neg hx, sendBoth_of_links (by rw [ringLink_eq (s := s) (by simp) (by simp), ha])
    (by rw [ringLink_eq (s := s) (by simp) (by simp), hb])]
  simp only [txFrame_eq (State.setEntry_rest s tag (issuedEntry s tag x)).2.2.2.2.1
    (show (s.setEntry tag (issuedEntry s tag x)).nv = s.nv by simp)]
  simp

theorem transactionIssue_answers {r : RingId} {s : State} {i tag : Nat} (hissue : mayIssue s = true)
    (hen : ringEn s r.val = true) (hnext : nextTx s r.val = some (i, tag)) :
    exec (.transactionIssue r) s = .next (issueTx (s.setQueue r.val ((s.queue r.val).eraseIdx i)) tag
      ((s.queue r.val).getD i {})) := by
  show execTransactionIssue r s = _
  simp [execTransactionIssue, hissue, hen, hnext]

theorem transactionIssue_says {s : State} {r i tag : Nat} (x : Tx) :
    let u := s.setQueue r ((s.queue r).eraseIdx i)
    let t := issueTx u tag x
    t.entry tag = issuedEntry s tag x ∧ t.queue r = (s.queue r).eraseIdx i ∧
      t.img = s.img ∧ t.mem = s.mem ∧ t.regs = s.regs := by
  intro u t
  obtain ⟨hphr, hregs, hmem, himg⟩ := issueTx_parts u tag x
  refine ⟨?_, ?_, himg, hmem, hregs⟩
  · rw [State.entry, hphr]
    exact State.entry_setEntry u tag _
  · rw [State.queue, hphr]
    exact State.queue_setQueue s r _

section
variable {r : RingId} {port : Bool} {f : PFrame} {s : State} (hrun : halted s = false)
include hrun

section
variable (hup : s.phr.linksDown = false)
include hup

theorem copyReturn_bad : exec (.copyReturn r port false f) s = .next (badFcs s r.val port) := by
  show execCopyReturn r port false f s = _
  simp [execCopyReturn, hrun, hup]

theorem copyReturn_of_flight (hbusy : (s.entry f.tag.toNat).busy = true) (hgen : (s.entry f.tag.toNat).gen = f.gen.toNat) :
    exec (.copyReturn r port true f) s =
      if wbit (f.flags.setWidth 32) 7 = false then
        (if (s.entry f.tag.toNat).unans = 0
          then .next (s.setEntry f.tag.toNat { s.entry f.tag.toNat with unans := 1 })
          else .next (endTx (freeEntry s f.tag.toNat) (s.entry f.tag.toNat).tx false []))
      else .next (completeTx s f.tag.toNat f) := by
  show execCopyReturn r port true f s = _
  simp [execCopyReturn, hrun, hup, hbusy, hgen]

theorem copyReturn_of_no_flight
    (hfree : (s.entry f.tag.toNat).busy = false ∨ (s.entry f.tag.toNat).gen ≠ f.gen.toNat) :
    exec (.copyReturn r port true f) s = .next (strayCopy s f.tag.toNat f.gen.toNat) := by
  show execCopyReturn r port true f s = _
  have hfree' : (!(s.entry f.tag.toNat).busy || decide ((s.entry f.tag.toNat).gen ≠ f.gen.toNat)) = true := by
    simpa using hfree
  simp only [execCopyReturn, hrun, hup, Bool.or_self, Bool.not_true, Bool.false_eq_true, if_false]
  rcases hfree with h | h <;> simp [h]
end

theorem transactionExpiry_waits {tag : Byte} (hwaits : awaitsRelease s (s.entry tag.toNat) = true) :
    exec (.transactionExpiry (.entry tag)) s = .next s := by
  show execTransactionExpiry (.entry tag) s = _
  simp [execTransactionExpiry, hrun, hwaits]

theorem transactionExpiry_of_entry {tag : Byte} {x : Nat} (hbusy : (s.entry tag.toNat).busy = true)
    (hgoes : awaitsRelease s (s.entry tag.toNat) = false) (hat : txExpiry s (s.entry tag.toNat) = some x) :
    exec (.transactionExpiry (.entry tag)) s
      = .next (expireTx (expireEntry (s.at x) tag.toNat) (s.entry tag.toNat).tx) := by
  show execTransactionExpiry (.entry tag) s = _
  simp [execTransactionExpiry, hrun, hbusy, hgoes, hat]

theorem transactionExpiry_of_queue {i : Nat} {x : Tx} (hold : oldestAcyclic (s.queue r.val) = some (i, x)) :
    exec (.transactionExpiry (.queue r)) s
      = .next (let u := s.at (x.since + s.fld PHR_TMO_ACYC * 1000000)
               expireTx (u.setQueue r.val ((u.queue r.val).eraseIdx i)) x) := by
  show execTransactionExpiry (.queue r) s = _
  simp only [execTransactionExpiry, hrun, hold, Bool.false_eq_true, if_false]

end

theorem strayCopy_counted {s : State} {tag gen : Nat} (hlast : (s.entry tag).lastGen ≠ some gen)
    (hcan : (s.entry tag).cancelled.contains gen = false) : strayCopy s tag gen = s.count32 PHR_STRAY 1 := by
  unfold strayCopy
  exact if_neg (by simp only [hcan, Bool.false_eq_true, or_false]; exact hlast)

/-- Settles O35: issue goes by `issueTx`, a copy's return by the entry's flight, an expiry by what waits. -/
theorem transactions : Obligations.Transactions := by
  refine ⟨?_, ?_, ?_, ?_⟩
  · intro r s i tag hissue hen hnext x
    refine ⟨_, transactionIssue_answers hissue hen hnext, ?_⟩
    obtain ⟨he, hq, himg, hmem, hregs⟩ := transactionIssue_says (s := s) (r := r.val) (i := i) (tag := tag) x
    refine ⟨rfl, ?_, ?_, ?_, ?_, hq, himg, hmem, hregs, fun hx ha hb => ?_⟩
    iterate 4 exact congrArg _ he
    rw [show _ = _ from he]
    exact issueTx_sends hx ha hb
  · intro r port f s hrun hup e
    refine ⟨?_, ?_, ?_, ?_, copyReturn_bad hrun hup⟩
    · intro hbusy hgen hans
      rw [copyReturn_of_flight hrun hup hbusy hgen, if_neg (by simp [hans])]
    · intro hbusy hgen hans hfirst
      refine ⟨_, (copyReturn_of_flight hrun hup hbusy hgen).trans ((if_pos hans).trans (if_pos hfirst)), ?_⟩
      simp [e]
    · intro hbusy hgen hans hsecond
      exact (copyReturn_of_flight hrun hup hbusy hgen).trans ((if_pos hans).trans (if_neg hsecond))
    · intro hfree
      refine ⟨fun hknown => ?_, fun hlast hcan => ?_⟩
      · exact (copyReturn_of_no_flight hrun hup hfree).trans (congrArg Outcome.next (if_pos hknown))
      · refine ⟨_, copyReturn_of_no_flight hrun hup hfree, ?_⟩
        rw [strayCopy_counted hlast hcan]
        simp
  · intro tag s hrun hbusy
    exact ⟨transactionExpiry_waits hrun, fun x => transactionExpiry_of_entry hrun hbusy⟩
  · intro r s i x hrun hold
    exact transactionExpiry_of_queue hrun hold
end Sys2Proof.Machine
end

section
/-!
PROOF. TimersCounters: edges, timers and counters, the rules on their records and the instructions (R255 to R265).
-/
namespace Sys2Proof.Machine

open Host (Outcome)

/-! ### The rules (R259, R264) -/

theorem Timer.ton_of_off (t : Timer) (now pt : Nat) :
    t.ton false now pt = { t with q := false, run := false, done := false } := by
  simp [Timer.ton, Timer.expire]

/-- A TON that starts takes the task time as START; with a preset of 0 it is done at once. -/
theorem Timer.ton_starts {t : Timer} (now pt : Nat) (hq : t.q = false) (hrun : t.run = false) :
    t.ton true now pt = if pt = 0 then { t with q := true, run := false, done := true, start := now }
      else { t with run := true, start := now } := by
  simp [Timer.ton, Timer.expire, hq, hrun]

theorem Timer.ton_runs {t : Timer} (now pt : Nat) (hq : t.q = false) (hrun : t.run = true) :
    t.ton true now pt = if pt ≤ now - t.start then { t with q := true, run := false, done := true } else t := by
  simp [Timer.ton, Timer.expire, hq, hrun]

theorem Timer.tof_of_on (t : Timer) (now pt : Nat) :
    t.tof true now pt = { t with q := true, run := false, done := false } := by
  simp [Timer.tof, Timer.expire]

theorem Timer.tof_runs {t : Timer} (now pt : Nat) (hq : t.q = true) (hrun : t.run = true) :
    t.tof false now pt = if pt ≤ now - t.start then { t with q := false, run := false, done := true } else t := by
  simp [Timer.tof, Timer.expire, hq, hrun]

/-- A TP with a preset above 0 that starts does not expire at once: no time has passed since START. -/
theorem Timer.tp_q {t : Timer} (now pt : Nat) (b : Bool) (hrun : t.run = false) :
    (t.tp b now pt).q = ((b && !t.inprev && decide (0 < pt)) || t.q) := by
  by_cases hstarts : (b && !t.inprev && decide (0 < pt)) = true
  · obtain ⟨⟨rfl, hin⟩, hpt⟩ : (b = true ∧ t.inprev = false) ∧ 0 < pt := by simpa using hstarts
    simp [Timer.tp, Timer.expire, hrun, hin, hpt, Nat.pos_iff_ne_zero.mp hpt]
  · simp only [Bool.not_eq_true] at hstarts
    simp only [Timer.tp, Timer.expire, hrun, hstarts, Bool.not_false, Bool.and_true, Bool.false_or, Bool.false_eq_true, false_and, if_false]
    split <;> rfl

/-- Settles O25: each rule is the corresponding equation of the instruction on a record. -/
theorem timerRules : Obligations.TimerRules := by
  refine ⟨?_, ?_, ?_, ?_, ?_, fun t now pt b => Timer.tp_q now pt b, ?_⟩
  · intro t now pt
    simp [Timer.ton_of_off]
  · intro t now pt hq hrun
    rw [Timer.ton_starts now pt hq hrun]
    split <;> simp [*, Nat.pos_iff_ne_zero]
  · intro t now pt hq hrun
    rw [Timer.ton_runs now pt hq hrun]
    split <;> simp [*]
  · intro t now pt
    simp [Timer.tof_of_on]
  · intro t now pt hq hrun
    rw [Timer.tof_runs now pt hq hrun]
    split <;> simp [*]
  · intro k
    refine ⟨?_, ?_, ?_, ?_, ?_, ?_, rfl, rfl, rfl, rfl⟩
    · intro h1 h2; simp [Counter.ctu, h1, h2]
    · intro h; simp [Counter.ctu, h]
    · simp [Counter.ctu]
    · intro h; simp [Counter.ctu, show ¬k.cv < 2147483647 by omega]
    · intro h1 h2; simp [Counter.ctd, h1, h2]
    · intro h; simp [Counter.ctd, show ¬-2147483648 < k.cv by omega]

/-! ### The instructions (R255 to R265) -/

/-- An instruction whose meaning comes to an end completes with it, where its unit stands at it. -/
theorem exec_of_act {u : UnitId} {s t : State} {c : Ctx} {i : Instr} {op : Op} {d : Done} (act : Ctx → State → Res Done)
    (hexec : exec i s = .next (insn s (UnitId.key u) op act)) (hstands : Stands s (UnitId.key u) op c t)
    (hact : act c t = .ok d) : exec i s = .next (complete c d) := by
  rw [hexec, insn_stands act hstands, hact]

theorem edgeAct_ends {rising : Bool} {c : Ctx} {t t1 t2 : State} (hmem : c.write t 2 (c.val 1) = .ok t1)
    (hd : c.write (if (if rising then c.val 1 * (1 - c.val 2) else (1 - c.val 1) * c.val 2) = 1
        then t1.modUnit c.u fun x => { x with run := x.run.map fun r => { r with edge := true } } else t1) 0
      (if rising then c.val 1 * (1 - c.val 2) else (1 - c.val 1) * c.val 2) = .ok t2) :
    edgeAct rising c t = .ok { s := t2, pc := c.next } := by
  simp only [edgeAct, hmem]
  exact result_of_write hd

theorem timerAct_ends {f : Timer → Bool → Nat → Nat → Timer} {c : Ctx} {t t1 t2 : State}
    (hrec : let pt := (preset (instWord t c.u (c.record 2) 0)).1
      let r := { f (timerAt t c.u (c.record 2)) (c.val 1 == 1) (t.unit c.u).ttime pt with inprev := c.val 1 == 1 }
      instWrite t c.u 3 (c.record 2) (b2n r.q + 2 * b2n r.inprev + 4 * b2n r.run + 8 * b2n r.done) (r.start % 2 ^ 32)
        (r.start / 2 ^ 32) = .ok t1)
    (hd : let pt := (preset (instWord t c.u (c.record 2) 0)).1
      let r := { f (timerAt t c.u (c.record 2)) (c.val 1 == 1) (t.unit c.u).ttime pt with inprev := c.val 1 == 1 }
      c.write (if r.run then offerWheel t1 c.u ((r.start + pt) % 2 ^ 64) else t1) 0 (b2n r.q) = .ok t2) :
    timerAct f c t = .ok { s := t2, pc := c.next } := by
  dsimp only at hrec
  simp only [timerAct, hrec]
  exact result_of_write hd

theorem countAct_ends {f : Counter → Bool → Counter} {out : Counter → Bool} {c : Ctx} {t t1 t2 : State}
    (hrec : counterWrite t c.u 3 (c.record 2) (f (counterAt t c.u (c.record 2)) (c.val 1 == 1)) = .ok t1)
    (hd : c.write t1 0 (b2n (out (f (counterAt t c.u (c.record 2)) (c.val 1 == 1)))) = .ok t2) :
    countAct f out c t = .ok { s := t2, pc := c.next } := by
  simp only [countAct, hrec]
  exact result_of_write hd

theorem setCountAct_ends {f : Counter → Bool → Counter} {c : Ctx} {t t1 : State}
    (hrec : counterWrite t c.u 1 (c.record 0) (f (counterAt t c.u (c.record 0)) (c.val 1 == 1)) = .ok t1) :
    setCountAct f c t = .ok { s := t1, pc := c.next } := by
  simp only [setCountAct, hrec]
  rfl

/-- Settles O24: every meaning ends where its two writes succeed. -/
theorem edgesTimersCounters : Obligations.EdgesTimersCounters := by
  intro u s t t1 t2 c
  refine ⟨?_, ?_, ?_, ?_, ?_⟩
  · exact
      forall_mem_cons_of (fun hs hm hd => exec_of_act _ rfl hs (edgeAct_ends (rising := true) hm hd)) <|
      forall_mem_cons_of (fun hs hm hd => exec_of_act _ rfl hs (edgeAct_ends (rising := false) hm hd)) <|
      List.forall_mem_nil _
  · exact
      forall_mem_cons_of (fun hs hm hd => exec_of_act _ rfl hs (timerAct_ends hm hd)) <|
      forall_mem_cons_of (fun hs hm hd => exec_of_act _ rfl hs (timerAct_ends hm hd)) <|
      forall_mem_cons_of (fun hs hm hd => exec_of_act _ rfl hs (timerAct_ends hm hd)) <|
      List.forall_mem_nil _
  · intro hs q r e hd
    exact exec_of_act tetAct rfl hs (result_of_write hd)
  · exact
      forall_mem_cons_of (fun hs hm hd => exec_of_act _ rfl hs (countAct_ends hm hd)) <|
      forall_mem_cons_of (fun hs hm hd => exec_of_act _ rfl hs (countAct_ends hm hd)) <|
      List.forall_mem_nil _
  · exact
      forall_mem_cons_of (fun hs hm => exec_of_act _ rfl hs (setCountAct_ends hm)) <|
      forall_mem_cons_of (fun hs hm => exec_of_act _ rfl hs (setCountAct_ends hm)) <|
      List.forall_mem_nil _
end Sys2Proof.Machine
end

section
/-!
PROOF. RoundTrip: what one side sends, the other reads: messages and heartbeats (R440, R500).
-/
namespace Sys2Proof.Machine


@[simp] theorem length_toLE (k n : Nat) : (toLE k n).length = k := by
  induction k generalizing n with
  | zero => rfl
  | succ k ih => simp [toLE, ih]

/-- Reading a number's bytes gives the number back, as far as they hold it. -/
theorem fromLE_toLE (k n : Nat) : fromLE (toLE k n) = n % 256 ^ k := by
  induction k generalizing n with
  | zero => simp [toLE, fromLE, Nat.mod_one]
  | succ k ih => rw [toLE, fromLE, ih, BitVec.toNat_ofNat, Nat.pow_succ' (n := k), Nat.mod_mul]

theorem fromLE_toLE_of_lt {k n : Nat} (h : n < 256 ^ k) : fromLE (toLE k n) = n := by
  rw [fromLE_toLE, Nat.mod_eq_of_lt h]

/-- A word's bytes stand for the word. -/
theorem fromLE_toLE_word {w k : Nat} (x : BitVec w) (h : 2 ^ w ≤ 256 ^ k) :
    BitVec.ofNat w (fromLE (toLE k x.toNat)) = x := by
  rw [fromLE_toLE_of_lt (x.isLt.trans_le h), BitVec.ofNat_toNat, BitVec.setWidth_eq]

/-! ### Messages (R500) -/

theorem length_msgBytes (m : JMsg) : (msgBytes m).length = 16 + m.data.length := by
  simp only [msgBytes, List.length_append, length_toLE, List.length_cons, List.length_nil]

/-- Each field of a message is read from the bytes that were built from it. -/
theorem msgOf_msgBytes_eq (m : JMsg) :
    msgOf (msgBytes m) =
      { service := BitVec.ofNat 8 (fromLE [m.service]), reqid := BitVec.ofNat 8 (fromLE [m.reqid]),
        status := BitVec.ofNat 16 (fromLE (toLE 2 m.status.toNat)), index := BitVec.ofNat 16 (fromLE (toLE 2 m.index.toNat)),
        sub := BitVec.ofNat 8 (fromLE [m.sub]), flags := BitVec.ofNat 8 (fromLE [m.flags]),
        target := BitVec.ofNat 16 (fromLE (toLE 2 m.target.toNat)),
        offset := BitVec.ofNat 32 (fromLE (toLE 4 m.offset.toNat)), len := BitVec.ofNat 16 (fromLE (toLE 2 m.len.toNat)),
        data := m.data } := rfl

theorem msgOf_msgBytes (m : JMsg) : msgOf (msgBytes m) = m := by
  have hbyte (b : Byte) : BitVec.ofNat 8 (fromLE [b]) = b := by simp [fromLE]
  have htwo (x : BitVec 16) : BitVec.ofNat 16 (fromLE (toLE 2 x.toNat)) = x := fromLE_toLE_word x (by decide)
  have hfour (x : BitVec 32) : BitVec.ofNat 32 (fromLE (toLE 4 x.toNat)) = x := fromLE_toLE_word x (by decide)
  rw [msgOf_msgBytes_eq]
  simp only [hbyte, htwo, hfour]

/-! ### Heartbeats and notices (R440) -/

theorem crc16Bit_lt {c : Nat} (h : c < 65536) : crc16Bit c < 65536 := by
  unfold crc16Bit
  split
  · exact Nat.xor_lt_two_pow (n := 16) (Nat.mod_lt _ (by decide)) (by decide)
  · omega

theorem crc16_lt (bs : List Byte) : crc16 bs < 65536 := by
  refine List.foldlRecOn bs _ (motive := fun c => c < 65536) (by decide) fun c hc b _ => ?_
  have hx : c ^^^ b.toNat * 256 < 65536 := Nat.xor_lt_two_pow (n := 16) hc (by have := b.isLt; omega)
  exact crc16Bit_lt <| crc16Bit_lt <| crc16Bit_lt <| crc16Bit_lt <| crc16Bit_lt <| crc16Bit_lt <| crc16Bit_lt <| crc16Bit_lt hx

/-- What a heartbeat says, before its CRC. -/
def hbBody (s : State) (typ notice : Nat) : List Byte :=
  toLE 1 typ ++ toLE 1 (s.role * 16 + s.hsb.unit) ++ toLE 1 (hbFlags s) ++ toLE 1 notice
    ++ toLE 4 (s.reg PHR_EPOCH).toNat ++ toLE 4 s.hsb.seq ++ toLE 4 s.prog.check.toNat

theorem hbFrame_eq (s : State) (typ notice : Nat) :
    hbFrame s typ notice = hbBody s typ notice ++ toLE 2 (crc16 (hbBody s typ notice)) := rfl

theorem length_hbFrame (s : State) (typ notice : Nat) : (hbFrame s typ notice).length = 18 := by
  simp only [hbFrame_eq, hbBody, List.length_append, length_toLE]

theorem hbFlags_lt (s : State) : hbFlags s < 256 := by
  have hb (b : Bool) : b2n b ≤ 1 := by cases b <;> decide
  have h1 := hb (s.flag HSB_CTRL_MAINT)
  have h2 := hb s.running
  have h3 := hb s.frz.strap
  unfold hbFlags
  omega

/-- A heartbeat is read where its CRC is that of its first 16 bytes. -/
theorem parseHb_hbFrame_eq (s : State) (typ notice : Nat) :
    parseHb (hbFrame s typ notice) =
      if (hbFrame s typ notice).length ≠ 18 ∨
          fromLE (toLE 2 (crc16 (hbBody s typ notice))) ≠ crc16 (hbBody s typ notice) then none
      else some (fromLE (toLE 1 typ),
        { role := bits (fromLE (toLE 1 (s.role * 16 + s.hsb.unit))) 7 4,
          unit := bits (fromLE (toLE 1 (s.role * 16 + s.hsb.unit))) 1 0, flags := fromLE (toLE 1 (hbFlags s)),
          notice := fromLE (toLE 1 notice), epoch := fromLE (toLE 4 (s.reg PHR_EPOCH).toNat),
          seq := fromLE (toLE 4 s.hsb.seq), check := toWord (fromLE (toLE 4 s.prog.check.toNat)) }) := rfl

/-- Role and unit share a byte. -/
theorem bits_role_unit {role unit : Nat} (hr : role < 16) (hu : unit < 4) :
    bits (role * 16 + unit) 7 4 = role ∧ bits (role * 16 + unit) 1 0 = unit := by
  simp only [bits, Nat.shiftRight_eq_div_pow]
  omega

theorem parseHb_hbFrame {s : State} {typ notice : Nat} (ht : typ < 256) (hn : notice < 256) (hr : s.role < 16)
    (hu : s.hsb.unit < 4) (hq : s.hsb.seq < 2 ^ 32) :
    parseHb (hbFrame s typ notice) = some (typ,
      { role := s.role, unit := s.hsb.unit, flags := hbFlags s, notice := notice, epoch := (s.reg PHR_EPOCH).toNat,
        seq := s.hsb.seq, check := s.prog.check }) := by
  obtain ⟨hrole, hunit⟩ := bits_role_unit hr hu
  rw [parseHb_hbFrame_eq, length_hbFrame, fromLE_toLE_of_lt (k := 1) (n := typ) (by omega),
    fromLE_toLE_of_lt (k := 1) (n := s.role * 16 + s.hsb.unit) (by omega),
    fromLE_toLE_of_lt (k := 1) (n := hbFlags s) (by have := hbFlags_lt s; omega),
    fromLE_toLE_of_lt (k := 1) (n := notice) (by omega), fromLE_toLE_of_lt (k := 4) (n := s.hsb.seq) (by omega),
    fromLE_toLE_of_lt (k := 4) (n := (s.reg PHR_EPOCH).toNat) (by have := (s.reg PHR_EPOCH).isLt; omega),
    fromLE_toLE_of_lt (k := 2) (n := crc16 (hbBody s typ notice)) (by have := crc16_lt (hbBody s typ notice); omega), hrole, hunit]
  simp only [ne_eq, not_true_eq_false, or_self, if_false]
  rw [toWord, fromLE_toLE_word s.prog.check (k := 4) (by decide)]

/-- Settles O45: messages and heartbeats are read from the bytes that were built from them. -/
theorem framesRoundTrip : Obligations.FramesRoundTrip :=
  ⟨fun m => ⟨length_msgBytes m, msgOf_msgBytes m⟩,
    fun s typ notice ht hn hr hu hq => ⟨length_hbFrame s typ notice, parseHb_hbFrame ht hn hr hu hq⟩⟩
end Sys2Proof.Machine
end

section
/-!
SUPPORT. CycleFrames: what the steps of a task's cycle leave: the trace, the giving out of segments, publications, roles.
-/
namespace Sys2Proof.Machine

@[simp] theorem deliverLocal_rest (s : State) (k : Nat) :
    (deliverLocal s k).now = s.now ∧ (deliverLocal s k).pending = s.pending ∧ (deliverLocal s k).draws = s.draws ∧
      (deliverLocal s k).rdata = s.rdata ∧ (deliverLocal s k).regs = s.regs ∧ (deliverLocal s k).mem = s.mem ∧
      (deliverLocal s k).units = s.units ∧ (deliverLocal s k).objs = s.objs ∧ (deliverLocal s k).prog = s.prog ∧
      (deliverLocal s k).tsk = s.tsk ∧ (deliverLocal s k).gz = s.gz ∧ (deliverLocal s k).evc = s.evc ∧
      (deliverLocal s k).nv = s.nv ∧ (deliverLocal s k).rtc = s.rtc ∧ (deliverLocal s k).wdg = s.wdg ∧
      (deliverLocal s k).frz = s.frz ∧ (deliverLocal s k).rcd = s.rcd ∧ (deliverLocal s k).boot = s.boot ∧
      (deliverLocal s k).phr = s.phr ∧ (deliverLocal s k).lpe = s.lpe ∧ (deliverLocal s k).trc = s.trc ∧
      (deliverLocal s k).nrg = s.nrg ∧ (deliverLocal s k).hsb = s.hsb ∧ (deliverLocal s k).field = s.field ∧
      (deliverLocal s k).can = s.can ∧ (deliverLocal s k).saf = s.saf ∧ (deliverLocal s k).jrn = s.jrn ∧
      (deliverLocal s k).stations = s.stations ∧ (deliverLocal s k).sent = s.sent := by
  unfold deliverLocal
  simp

@[simp] theorem setRole_rest (s : State) (r : Nat) :
    (setRole s r).now = s.now ∧ (setRole s r).pending = s.pending ∧ (setRole s r).draws = s.draws ∧
      (setRole s r).rdata = s.rdata ∧ (setRole s r).mem.code = s.mem.code ∧ (setRole s r).mem.sram = s.mem.sram ∧
      (setRole s r).mem.trace = s.mem.trace ∧ (setRole s r).mem.fw = s.mem.fw ∧ (setRole s r).mem.flash = s.mem.flash ∧
      (setRole s r).units = s.units ∧ (setRole s r).objs = s.objs ∧ (setRole s r).prog = s.prog ∧ (setRole s r).img = s.img ∧
      (setRole s r).tsk = s.tsk ∧ (setRole s r).gz = s.gz ∧ (setRole s r).nv = s.nv ∧ (setRole s r).rtc = s.rtc ∧
      (setRole s r).wdg = s.wdg ∧ (setRole s r).frz = s.frz ∧ (setRole s r).boot = s.boot ∧ (setRole s r).phr = s.phr ∧
      (setRole s r).lpe = s.lpe ∧ (setRole s r).trc = s.trc ∧ (setRole s r).nrg = s.nrg ∧ (setRole s r).hsb.unit = s.hsb.unit ∧
      (setRole s r).can = s.can ∧ (setRole s r).saf = s.saf ∧ (setRole s r).jrn = s.jrn ∧ (setRole s r).stations = s.stations ∧
      (setRole s r).sent = s.sent := by
  unfold setRole
  simp

@[simp] theorem trcEnd_rest (s : State) (b : Nat) :
    (trcEnd s b).now = s.now ∧ (trcEnd s b).pending = s.pending ∧ (trcEnd s b).draws = s.draws ∧ (trcEnd s b).rdata = s.rdata ∧
      (trcEnd s b).mem = s.mem ∧ (trcEnd s b).units = s.units ∧ (trcEnd s b).objs = s.objs ∧ (trcEnd s b).prog = s.prog ∧
      (trcEnd s b).img = s.img ∧ (trcEnd s b).tsk = s.tsk ∧ (trcEnd s b).gz = s.gz ∧ (trcEnd s b).evc = s.evc ∧
      (trcEnd s b).nv = s.nv ∧ (trcEnd s b).rtc = s.rtc ∧ (trcEnd s b).wdg = s.wdg ∧ (trcEnd s b).frz = s.frz ∧
      (trcEnd s b).rcd = s.rcd ∧ (trcEnd s b).boot = s.boot ∧ (trcEnd s b).phr = s.phr ∧ (trcEnd s b).lpe = s.lpe ∧
      (trcEnd s b).nrg = s.nrg ∧ (trcEnd s b).hsb = s.hsb ∧ (trcEnd s b).field = s.field ∧ (trcEnd s b).can = s.can ∧
      (trcEnd s b).saf = s.saf ∧ (trcEnd s b).jrn = s.jrn ∧ (trcEnd s b).stations = s.stations ∧ (trcEnd s b).sent = s.sent := by
  unfold trcEnd
  simp

@[simp] theorem trcWrite_rest (s : State) (b : Nat) (x : TrcSample) (trig : Bool) :
    (trcWrite s b x trig).now = s.now ∧ (trcWrite s b x trig).pending = s.pending ∧ (trcWrite s b x trig).draws = s.draws ∧
      (trcWrite s b x trig).rdata = s.rdata ∧ (trcWrite s b x trig).mem.code = s.mem.code ∧
      (trcWrite s b x trig).mem.sram = s.mem.sram ∧ (trcWrite s b x trig).mem.fw = s.mem.fw ∧
      (trcWrite s b x trig).mem.flash = s.mem.flash ∧ (trcWrite s b x trig).units = s.units ∧
      (trcWrite s b x trig).objs = s.objs ∧ (trcWrite s b x trig).prog = s.prog ∧ (trcWrite s b x trig).img = s.img ∧
      (trcWrite s b x trig).tsk = s.tsk ∧ (trcWrite s b x trig).gz = s.gz ∧ (trcWrite s b x trig).evc = s.evc ∧
      (trcWrite s b x trig).nv = s.nv ∧ (trcWrite s b x trig).rtc = s.rtc ∧ (trcWrite s b x trig).wdg = s.wdg ∧
      (trcWrite s b x trig).frz = s.frz ∧ (trcWrite s b x trig).rcd = s.rcd ∧ (trcWrite s b x trig).boot = s.boot ∧
      (trcWrite s b x trig).phr = s.phr ∧ (trcWrite s b x trig).lpe = s.lpe ∧ (trcWrite s b x trig).nrg = s.nrg ∧
      (trcWrite s b x trig).hsb = s.hsb ∧ (trcWrite s b x trig).field = s.field ∧ (trcWrite s b x trig).can = s.can ∧
      (trcWrite s b x trig).saf = s.saf ∧ (trcWrite s b x trig).jrn = s.jrn ∧ (trcWrite s b x trig).stations = s.stations ∧
      (trcWrite s b x trig).sent = s.sent := by
  unfold trcWrite
  simp

@[simp] theorem trcShed_rest (s : State) (b : Nat) :
    (trcShed s b).now = s.now ∧ (trcShed s b).pending = s.pending ∧ (trcShed s b).draws = s.draws ∧
      (trcShed s b).rdata = s.rdata ∧ (trcShed s b).mem = s.mem ∧ (trcShed s b).units = s.units ∧ (trcShed s b).objs = s.objs ∧
      (trcShed s b).prog = s.prog ∧ (trcShed s b).img = s.img ∧ (trcShed s b).tsk = s.tsk ∧ (trcShed s b).gz = s.gz ∧
      (trcShed s b).evc = s.evc ∧ (trcShed s b).nv = s.nv ∧ (trcShed s b).rtc = s.rtc ∧ (trcShed s b).wdg = s.wdg ∧
      (trcShed s b).frz = s.frz ∧ (trcShed s b).rcd = s.rcd ∧ (trcShed s b).boot = s.boot ∧ (trcShed s b).phr = s.phr ∧
      (trcShed s b).lpe = s.lpe ∧ (trcShed s b).nrg = s.nrg ∧ (trcShed s b).hsb = s.hsb ∧ (trcShed s b).field = s.field ∧
      (trcShed s b).can = s.can ∧ (trcShed s b).saf = s.saf ∧ (trcShed s b).jrn = s.jrn ∧ (trcShed s b).stations = s.stations ∧
      (trcShed s b).sent = s.sent := by
  unfold trcShed
  simp

@[simp] theorem trcTrigger_rest (s : State) (b : Nat) :
    (trcTrigger s b).now = s.now ∧ (trcTrigger s b).pending = s.pending ∧ (trcTrigger s b).draws = s.draws ∧
      (trcTrigger s b).rdata = s.rdata ∧ (trcTrigger s b).mem = s.mem ∧ (trcTrigger s b).units = s.units ∧
      (trcTrigger s b).objs = s.objs ∧ (trcTrigger s b).prog = s.prog ∧ (trcTrigger s b).img = s.img ∧
      (trcTrigger s b).tsk = s.tsk ∧ (trcTrigger s b).gz = s.gz ∧ (trcTrigger s b).nv = s.nv ∧ (trcTrigger s b).rtc = s.rtc ∧
      (trcTrigger s b).wdg = s.wdg ∧ (trcTrigger s b).frz = s.frz ∧ (trcTrigger s b).rcd = s.rcd ∧
      (trcTrigger s b).boot = s.boot ∧ (trcTrigger s b).phr = s.phr ∧ (trcTrigger s b).lpe = s.lpe ∧
      (trcTrigger s b).trc = s.trc ∧ (trcTrigger s b).nrg = s.nrg ∧ (trcTrigger s b).hsb = s.hsb ∧
      (trcTrigger s b).field = s.field ∧ (trcTrigger s b).can = s.can ∧ (trcTrigger s b).saf = s.saf ∧
      (trcTrigger s b).jrn = s.jrn ∧ (trcTrigger s b).stations = s.stations ∧ (trcTrigger s b).sent = s.sent := by
  unfold trcTrigger
  simp

@[simp] theorem trcTriggerRecord_rest (s : State) (b : Nat) (x : TrcSample) :
    (trcTriggerRecord s b x).now = s.now ∧ (trcTriggerRecord s b x).pending = s.pending ∧
      (trcTriggerRecord s b x).draws = s.draws ∧ (trcTriggerRecord s b x).rdata = s.rdata ∧
      (trcTriggerRecord s b x).mem.code = s.mem.code ∧ (trcTriggerRecord s b x).mem.sram = s.mem.sram ∧
      (trcTriggerRecord s b x).mem.fw = s.mem.fw ∧ (trcTriggerRecord s b x).mem.flash = s.mem.flash ∧
      (trcTriggerRecord s b x).units = s.units ∧ (trcTriggerRecord s b x).objs = s.objs ∧
      (trcTriggerRecord s b x).prog = s.prog ∧ (trcTriggerRecord s b x).img = s.img ∧ (trcTriggerRecord s b x).tsk = s.tsk ∧
      (trcTriggerRecord s b x).gz = s.gz ∧ (trcTriggerRecord s b x).evc = s.evc ∧ (trcTriggerRecord s b x).nv = s.nv ∧
      (trcTriggerRecord s b x).rtc = s.rtc ∧ (trcTriggerRecord s b x).wdg = s.wdg ∧ (trcTriggerRecord s b x).frz = s.frz ∧
      (trcTriggerRecord s b x).rcd = s.rcd ∧ (trcTriggerRecord s b x).boot = s.boot ∧ (trcTriggerRecord s b x).phr = s.phr ∧
      (trcTriggerRecord s b x).lpe = s.lpe ∧ (trcTriggerRecord s b x).nrg = s.nrg ∧ (trcTriggerRecord s b x).hsb = s.hsb ∧
      (trcTriggerRecord s b x).field = s.field ∧ (trcTriggerRecord s b x).can = s.can ∧ (trcTriggerRecord s b x).saf = s.saf ∧
      (trcTriggerRecord s b x).jrn = s.jrn ∧ (trcTriggerRecord s b x).stations = s.stations ∧
      (trcTriggerRecord s b x).sent = s.sent := by
  unfold trcTriggerRecord
  simp

@[simp] theorem trcSample_rest (s : State) (b : Nat) (x : TrcSample) (alm : Bool) :
    (trcSample s b x alm).now = s.now ∧ (trcSample s b x alm).pending = s.pending ∧ (trcSample s b x alm).draws = s.draws ∧
      (trcSample s b x alm).rdata = s.rdata ∧ (trcSample s b x alm).mem.code = s.mem.code ∧
      (trcSample s b x alm).mem.sram = s.mem.sram ∧ (trcSample s b x alm).mem.fw = s.mem.fw ∧
      (trcSample s b x alm).mem.flash = s.mem.flash ∧ (trcSample s b x alm).units = s.units ∧
      (trcSample s b x alm).objs = s.objs ∧ (trcSample s b x alm).prog = s.prog ∧ (trcSample s b x alm).img = s.img ∧
      (trcSample s b x alm).tsk = s.tsk ∧ (trcSample s b x alm).gz = s.gz ∧ (trcSample s b x alm).nv = s.nv ∧
      (trcSample s b x alm).rtc = s.rtc ∧ (trcSample s b x alm).wdg = s.wdg ∧ (trcSample s b x alm).frz = s.frz ∧
      (trcSample s b x alm).rcd = s.rcd ∧ (trcSample s b x alm).boot = s.boot ∧ (trcSample s b x alm).phr = s.phr ∧
      (trcSample s b x alm).lpe = s.lpe ∧ (trcSample s b x alm).nrg = s.nrg ∧ (trcSample s b x alm).hsb = s.hsb ∧
      (trcSample s b x alm).field = s.field ∧ (trcSample s b x alm).can = s.can ∧ (trcSample s b x alm).saf = s.saf ∧
      (trcSample s b x alm).jrn = s.jrn ∧ (trcSample s b x alm).stations = s.stations ∧ (trcSample s b x alm).sent = s.sent := by
  unfold trcSample
  simp

@[simp] theorem traceLoop_rest (s : State) (n tl : Nat) (signals : List Word) (alm : Bool) :
    (traceLoop s n tl signals alm).now = s.now ∧ (traceLoop s n tl signals alm).pending = s.pending ∧
      (traceLoop s n tl signals alm).draws = s.draws ∧ (traceLoop s n tl signals alm).rdata = s.rdata ∧
      (traceLoop s n tl signals alm).mem.code = s.mem.code ∧ (traceLoop s n tl signals alm).mem.sram = s.mem.sram ∧
      (traceLoop s n tl signals alm).mem.fw = s.mem.fw ∧ (traceLoop s n tl signals alm).mem.flash = s.mem.flash ∧
      (traceLoop s n tl signals alm).units = s.units ∧ (traceLoop s n tl signals alm).objs = s.objs ∧
      (traceLoop s n tl signals alm).prog = s.prog ∧ (traceLoop s n tl signals alm).img = s.img ∧
      (traceLoop s n tl signals alm).tsk = s.tsk ∧ (traceLoop s n tl signals alm).gz = s.gz ∧
      (traceLoop s n tl signals alm).nv = s.nv ∧ (traceLoop s n tl signals alm).rtc = s.rtc ∧
      (traceLoop s n tl signals alm).wdg = s.wdg ∧ (traceLoop s n tl signals alm).frz = s.frz ∧
      (traceLoop s n tl signals alm).rcd = s.rcd ∧ (traceLoop s n tl signals alm).boot = s.boot ∧
      (traceLoop s n tl signals alm).phr = s.phr ∧ (traceLoop s n tl signals alm).lpe = s.lpe ∧
      (traceLoop s n tl signals alm).nrg = s.nrg ∧ (traceLoop s n tl signals alm).hsb = s.hsb ∧
      (traceLoop s n tl signals alm).field = s.field ∧ (traceLoop s n tl signals alm).can = s.can ∧
      (traceLoop s n tl signals alm).saf = s.saf ∧ (traceLoop s n tl signals alm).jrn = s.jrn ∧
      (traceLoop s n tl signals alm).stations = s.stations ∧ (traceLoop s n tl signals alm).sent = s.sent := by
  unfold traceLoop
  simp

@[simp] theorem loopsAtRelease_rest (s : State) (k : Nat) :
    (loopsAtRelease s k).now = s.now ∧ (loopsAtRelease s k).pending = s.pending ∧ (loopsAtRelease s k).draws = s.draws ∧
      (loopsAtRelease s k).rdata = s.rdata ∧ (loopsAtRelease s k).regs = s.regs ∧ (loopsAtRelease s k).mem = s.mem ∧
      (loopsAtRelease s k).units = s.units ∧ (loopsAtRelease s k).objs = s.objs ∧ (loopsAtRelease s k).prog = s.prog ∧
      (loopsAtRelease s k).img = s.img ∧ (loopsAtRelease s k).tsk = s.tsk ∧ (loopsAtRelease s k).gz = s.gz ∧
      (loopsAtRelease s k).evc = s.evc ∧ (loopsAtRelease s k).nv = s.nv ∧ (loopsAtRelease s k).rtc = s.rtc ∧
      (loopsAtRelease s k).wdg = s.wdg ∧ (loopsAtRelease s k).frz = s.frz ∧ (loopsAtRelease s k).rcd = s.rcd ∧
      (loopsAtRelease s k).boot = s.boot ∧ (loopsAtRelease s k).phr = s.phr ∧ (loopsAtRelease s k).trc = s.trc ∧
      (loopsAtRelease s k).nrg = s.nrg ∧ (loopsAtRelease s k).hsb = s.hsb ∧ (loopsAtRelease s k).field = s.field ∧
      (loopsAtRelease s k).can = s.can ∧ (loopsAtRelease s k).saf = s.saf ∧ (loopsAtRelease s k).jrn = s.jrn ∧
      (loopsAtRelease s k).stations = s.stations ∧ (loopsAtRelease s k).sent = s.sent := by
  unfold loopsAtRelease
  simp

@[simp] theorem loopToField_rest (s : State) (g : Nat) (w : Word) :
    (loopToField s g w).now = s.now ∧ (loopToField s g w).pending = s.pending ∧ (loopToField s g w).draws = s.draws ∧
      (loopToField s g w).rdata = s.rdata ∧ (loopToField s g w).regs = s.regs ∧ (loopToField s g w).mem = s.mem ∧
      (loopToField s g w).units = s.units ∧ (loopToField s g w).objs = s.objs ∧ (loopToField s g w).prog = s.prog ∧
      (loopToField s g w).img = s.img ∧ (loopToField s g w).tsk = s.tsk ∧ (loopToField s g w).gz = s.gz ∧
      (loopToField s g w).evc = s.evc ∧ (loopToField s g w).nv = s.nv ∧ (loopToField s g w).rtc = s.rtc ∧
      (loopToField s g w).wdg = s.wdg ∧ (loopToField s g w).frz = s.frz ∧ (loopToField s g w).rcd = s.rcd ∧
      (loopToField s g w).boot = s.boot ∧ (loopToField s g w).phr = s.phr ∧ (loopToField s g w).lpe = s.lpe ∧
      (loopToField s g w).trc = s.trc ∧ (loopToField s g w).nrg = s.nrg ∧ (loopToField s g w).hsb = s.hsb ∧
      (loopToField s g w).can = s.can ∧ (loopToField s g w).saf = s.saf ∧ (loopToField s g w).jrn = s.jrn ∧
      (loopToField s g w).stations = s.stations ∧ (loopToField s g w).sent = s.sent := by
  unfold loopToField
  simp

@[simp] theorem handoverDone_rest (s : State) :
    (handoverDone s).now = s.now ∧ (handoverDone s).pending = s.pending ∧ (handoverDone s).draws = s.draws ∧
      (handoverDone s).rdata = s.rdata ∧ (handoverDone s).mem.code = s.mem.code ∧ (handoverDone s).mem.sram = s.mem.sram ∧
      (handoverDone s).mem.trace = s.mem.trace ∧ (handoverDone s).mem.fw = s.mem.fw ∧
      (handoverDone s).mem.flash = s.mem.flash ∧ (handoverDone s).units = s.units ∧ (handoverDone s).objs = s.objs ∧
      (handoverDone s).prog = s.prog ∧ (handoverDone s).img = s.img ∧ (handoverDone s).tsk = s.tsk ∧
      (handoverDone s).gz = s.gz ∧ (handoverDone s).nv = s.nv ∧ (handoverDone s).rtc = s.rtc ∧ (handoverDone s).wdg = s.wdg ∧
      (handoverDone s).frz = s.frz ∧ (handoverDone s).boot = s.boot ∧ (handoverDone s).phr = s.phr ∧
      (handoverDone s).lpe = s.lpe ∧ (handoverDone s).trc = s.trc ∧ (handoverDone s).nrg = s.nrg ∧
      (handoverDone s).hsb.unit = s.hsb.unit ∧ (handoverDone s).can = s.can ∧ (handoverDone s).saf = s.saf ∧
      (handoverDone s).jrn = s.jrn ∧ (handoverDone s).stations = s.stations ∧ (handoverDone s).sent = s.sent := by
  unfold handoverDone
  simp

@[simp] theorem cacheMeet_rest (s : State) (c seg : Nat) :
    (cacheMeet s c seg).now = s.now ∧ (cacheMeet s c seg).pending = s.pending ∧ (cacheMeet s c seg).rdata = s.rdata ∧
      (cacheMeet s c seg).mem = s.mem ∧ (cacheMeet s c seg).units = s.units ∧ (cacheMeet s c seg).objs = s.objs ∧
      (cacheMeet s c seg).prog = s.prog ∧ (cacheMeet s c seg).img = s.img ∧ (cacheMeet s c seg).tsk = s.tsk ∧
      (cacheMeet s c seg).evc = s.evc ∧ (cacheMeet s c seg).nv = s.nv ∧ (cacheMeet s c seg).rtc = s.rtc ∧
      (cacheMeet s c seg).wdg = s.wdg ∧ (cacheMeet s c seg).frz = s.frz ∧ (cacheMeet s c seg).rcd = s.rcd ∧
      (cacheMeet s c seg).boot = s.boot ∧ (cacheMeet s c seg).phr = s.phr ∧ (cacheMeet s c seg).lpe = s.lpe ∧
      (cacheMeet s c seg).trc = s.trc ∧ (cacheMeet s c seg).nrg = s.nrg ∧ (cacheMeet s c seg).hsb = s.hsb ∧
      (cacheMeet s c seg).field = s.field ∧ (cacheMeet s c seg).can = s.can ∧ (cacheMeet s c seg).saf = s.saf ∧
      (cacheMeet s c seg).jrn = s.jrn ∧ (cacheMeet s c seg).stations = s.stations ∧ (cacheMeet s c seg).sent = s.sent := by
  unfold cacheMeet
  extract_lets key held d t
  have hd : d.2 = s ∨ d.2 = s.drawBit.2 := by
    simp only [d]
    split <;> simp
  rcases hd with hd | hd <;> simp [t, hd, State.drawBit]

@[simp] theorem startRun_rest (s : State) (u seg k : Nat) (audit : Bool) (time : Nat) :
    (startRun s u seg k audit time).now = s.now ∧ (startRun s u seg k audit time).pending = s.pending ∧
      (startRun s u seg k audit time).rdata = s.rdata ∧ (startRun s u seg k audit time).mem = s.mem ∧
      (startRun s u seg k audit time).objs = s.objs ∧ (startRun s u seg k audit time).prog = s.prog ∧
      (startRun s u seg k audit time).img = s.img ∧ (startRun s u seg k audit time).tsk = s.tsk ∧
      (startRun s u seg k audit time).evc = s.evc ∧ (startRun s u seg k audit time).nv = s.nv ∧
      (startRun s u seg k audit time).rtc = s.rtc ∧ (startRun s u seg k audit time).wdg = s.wdg ∧
      (startRun s u seg k audit time).frz = s.frz ∧ (startRun s u seg k audit time).rcd = s.rcd ∧
      (startRun s u seg k audit time).boot = s.boot ∧ (startRun s u seg k audit time).phr = s.phr ∧
      (startRun s u seg k audit time).lpe = s.lpe ∧ (startRun s u seg k audit time).trc = s.trc ∧
      (startRun s u seg k audit time).nrg = s.nrg ∧ (startRun s u seg k audit time).hsb = s.hsb ∧
      (startRun s u seg k audit time).field = s.field ∧ (startRun s u seg k audit time).can = s.can ∧
      (startRun s u seg k audit time).saf = s.saf ∧ (startRun s u seg k audit time).jrn = s.jrn ∧
      (startRun s u seg k audit time).stations = s.stations ∧ (startRun s u seg k audit time).sent = s.sent := by
  unfold startRun
  simp

@[simp] theorem yieldAudit_rest (s : State) (u : Nat) :
    (yieldAudit s u).now = s.now ∧ (yieldAudit s u).pending = s.pending ∧ (yieldAudit s u).draws = s.draws ∧
      (yieldAudit s u).rdata = s.rdata ∧ (yieldAudit s u).regs = s.regs ∧ (yieldAudit s u).mem = s.mem ∧
      (yieldAudit s u).objs = s.objs ∧ (yieldAudit s u).prog = s.prog ∧ (yieldAudit s u).img = s.img ∧
      (yieldAudit s u).tsk = s.tsk ∧ (yieldAudit s u).evc = s.evc ∧ (yieldAudit s u).nv = s.nv ∧ (yieldAudit s u).rtc = s.rtc ∧
      (yieldAudit s u).wdg = s.wdg ∧ (yieldAudit s u).frz = s.frz ∧ (yieldAudit s u).rcd = s.rcd ∧
      (yieldAudit s u).boot = s.boot ∧ (yieldAudit s u).phr = s.phr ∧ (yieldAudit s u).lpe = s.lpe ∧
      (yieldAudit s u).trc = s.trc ∧ (yieldAudit s u).nrg = s.nrg ∧ (yieldAudit s u).hsb = s.hsb ∧
      (yieldAudit s u).field = s.field ∧ (yieldAudit s u).can = s.can ∧ (yieldAudit s u).saf = s.saf ∧
      (yieldAudit s u).jrn = s.jrn ∧ (yieldAudit s u).stations = s.stations ∧ (yieldAudit s u).sent = s.sent := by
  unfold yieldAudit
  split <;> simp

@[simp] theorem giveSegment_rest (s : State) (k seg : Nat) :
    (giveSegment s k seg).now = s.now ∧ (giveSegment s k seg).pending = s.pending ∧ (giveSegment s k seg).rdata = s.rdata ∧
      (giveSegment s k seg).mem = s.mem ∧ (giveSegment s k seg).objs = s.objs ∧ (giveSegment s k seg).prog = s.prog ∧
      (giveSegment s k seg).img = s.img ∧ (giveSegment s k seg).tsk = s.tsk ∧ (giveSegment s k seg).evc = s.evc ∧
      (giveSegment s k seg).nv = s.nv ∧ (giveSegment s k seg).rtc = s.rtc ∧ (giveSegment s k seg).wdg = s.wdg ∧
      (giveSegment s k seg).frz = s.frz ∧ (giveSegment s k seg).rcd = s.rcd ∧ (giveSegment s k seg).boot = s.boot ∧
      (giveSegment s k seg).phr = s.phr ∧ (giveSegment s k seg).lpe = s.lpe ∧ (giveSegment s k seg).trc = s.trc ∧
      (giveSegment s k seg).nrg = s.nrg ∧ (giveSegment s k seg).hsb = s.hsb ∧ (giveSegment s k seg).field = s.field ∧
      (giveSegment s k seg).can = s.can ∧ (giveSegment s k seg).saf = s.saf ∧ (giveSegment s k seg).jrn = s.jrn ∧
      (giveSegment s k seg).stations = s.stations ∧ (giveSegment s k seg).sent = s.sent := by
  unfold giveSegment
  split <;> simp

@[simp] theorem fill_rest (s : State) :
    (fill s).now = s.now ∧ (fill s).pending = s.pending ∧ (fill s).rdata = s.rdata ∧ (fill s).mem = s.mem ∧
      (fill s).objs = s.objs ∧ (fill s).prog = s.prog ∧ (fill s).img = s.img ∧ (fill s).tsk = s.tsk ∧ (fill s).evc = s.evc ∧
      (fill s).nv = s.nv ∧ (fill s).rtc = s.rtc ∧ (fill s).wdg = s.wdg ∧ (fill s).frz = s.frz ∧ (fill s).rcd = s.rcd ∧
      (fill s).boot = s.boot ∧ (fill s).phr = s.phr ∧ (fill s).lpe = s.lpe ∧ (fill s).trc = s.trc ∧ (fill s).nrg = s.nrg ∧
      (fill s).hsb = s.hsb ∧ (fill s).field = s.field ∧ (fill s).can = s.can ∧ (fill s).saf = s.saf ∧ (fill s).jrn = s.jrn ∧
      (fill s).stations = s.stations ∧ (fill s).sent = s.sent := by
  unfold fill
  simp

@[simp] theorem shadowMiss_rest (s : State) (k : Nat) :
    (shadowMiss s k).now = s.now ∧ (shadowMiss s k).pending = s.pending ∧ (shadowMiss s k).draws = s.draws ∧
      (shadowMiss s k).rdata = s.rdata ∧ (shadowMiss s k).mem = s.mem ∧ (shadowMiss s k).units = s.units ∧
      (shadowMiss s k).objs = s.objs ∧ (shadowMiss s k).prog = s.prog ∧ (shadowMiss s k).img = s.img ∧
      (shadowMiss s k).tsk.prog = s.tsk.prog ∧ (shadowMiss s k).tsk.cold = s.tsk.cold ∧
      (shadowMiss s k).tsk.prepEnd = s.tsk.prepEnd ∧ (shadowMiss s k).gz = s.gz ∧ (shadowMiss s k).evc = s.evc ∧
      (shadowMiss s k).nv = s.nv ∧ (shadowMiss s k).rtc = s.rtc ∧ (shadowMiss s k).wdg = s.wdg ∧ (shadowMiss s k).frz = s.frz ∧
      (shadowMiss s k).rcd = s.rcd ∧ (shadowMiss s k).boot = s.boot ∧ (shadowMiss s k).phr = s.phr ∧
      (shadowMiss s k).lpe = s.lpe ∧ (shadowMiss s k).trc = s.trc ∧ (shadowMiss s k).nrg = s.nrg ∧
      (shadowMiss s k).hsb = s.hsb ∧ (shadowMiss s k).field = s.field ∧ (shadowMiss s k).can = s.can ∧
      (shadowMiss s k).saf = s.saf ∧ (shadowMiss s k).jrn = s.jrn ∧ (shadowMiss s k).stations = s.stations ∧
      (shadowMiss s k).sent = s.sent := by
  unfold shadowMiss
  simp

@[simp] theorem auditNext_rest (s : State) :
    (auditNext s).now = s.now ∧ (auditNext s).pending = s.pending ∧ (auditNext s).rdata = s.rdata ∧ (auditNext s).mem = s.mem ∧
      (auditNext s).objs = s.objs ∧ (auditNext s).prog = s.prog ∧ (auditNext s).img = s.img ∧ (auditNext s).tsk = s.tsk ∧
      (auditNext s).evc = s.evc ∧ (auditNext s).nv = s.nv ∧ (auditNext s).rtc = s.rtc ∧ (auditNext s).wdg = s.wdg ∧
      (auditNext s).frz = s.frz ∧ (auditNext s).rcd = s.rcd ∧ (auditNext s).boot = s.boot ∧ (auditNext s).phr = s.phr ∧
      (auditNext s).lpe = s.lpe ∧ (auditNext s).trc = s.trc ∧ (auditNext s).nrg = s.nrg ∧ (auditNext s).hsb = s.hsb ∧
      (auditNext s).field = s.field ∧ (auditNext s).can = s.can ∧ (auditNext s).saf = s.saf ∧ (auditNext s).jrn = s.jrn ∧
      (auditNext s).stations = s.stations ∧ (auditNext s).sent = s.sent := by
  unfold auditNext
  repeat' split
  all_goals simp

end Sys2Proof.Machine
end

section
/-!
PROOF. Cycles: release, evaluation and strike of a task's cycle (R50 to R56, R74 to R79).
-/
namespace Sys2Proof.Machine

open Host (Outcome)

theorem not_frozen_of_not_halted {s : State} (h : halted s = false) : s.frz.frozen = false :=
  (Bool.or_eq_false_iff.mp h).2

theorem State.task_of_tsk {s t : State} (h : t.tsk = s.tsk) (k : Nat) : t.task k = s.task k :=
  congrArg (fun x => x.tasks.get {} k) h

/-! ### Release of a cycle (R51, R74, R529) -/

theorem loopsAtRelease_task (s : State) (k j : Nat) : (loopsAtRelease s k).task j = s.task j :=
  State.task_of_tsk (by simp) j

theorem release_released (s : State) (k : Nat) :
    ((release s k).task k).released = true ∧ ((release s k).task k).relBusy = true := by
  unfold release
  extract_lets
  rw [loopsAtRelease_task]
  simp only [released, State.task_modTask, and_self]

section
variable {s : State} (hrun : s.running = true) (hgoes : halted s = false)
include hrun hgoes

theorem inputDeadline_releases {k : Fin 16} (hactive : (s.task k.val).active = true)
    (hnew : (s.task k.val).released = false) (hown : (s.task k.val).shadow = false) :
    exec (.inputDeadline k) s = .next (release (s.at ((s.task k.val).ts + taskD s k.val)) k.val) := by
  show execInputDeadline k s = _
  simp [execInputDeadline, hrun, hgoes, hactive, hnew, hown]

theorem eventTaskReleaseTimeout_releases {k : TaskId} (hevent : 16 ≤ k.val) (hactive : (s.task k.val).active = true)
    (hnew : (s.task k.val).released = false) (hown : (s.task k.val).shadow = false) :
    exec (.eventTaskReleaseTimeout k) s = .next (release (s.at ((s.task k.val).ts + 20000)) k.val) := by
  show execEventTaskReleaseTimeout k s = _
  simp [execEventTaskReleaseTimeout, hrun, hgoes, hactive, hnew, hown, Nat.not_lt.mpr hevent]

theorem localInputDelivery_delivers {k : TaskId} (hactive : (s.task k.val).active = true)
    (hnew : (s.task k.val).released = false) (hown : (s.task k.val).shadow = false) (hlink : s.field.link = true)
    (hlocal : (localInGroups s k.val).isEmpty = false) :
    exec (.localInputDelivery k) s = .next (releaseIfIn (deliverLocal s k.val) k.val) := by
  show execLocalInputDelivery k s = _
  simp only [execLocalInputDelivery, hrun, hgoes, hactive, hnew, hown, hlink, hlocal, Bool.not_true, Bool.or_self,
    Bool.false_eq_true, if_false]

end

theorem inputDeadline_of_released {k : Fin 16} {s : State} (h : (s.task k.val).released = true ∨ (s.task k.val).shadow = true) :
    exec (.inputDeadline k) s = .next s := by
  show execInputDeadline k s = _
  rcases h with h | h <;> simp [execInputDeadline, h]

@[simp] theorem NSet.mem_add {t : NSet} {a b : Nat} : b ∈ t.add a ↔ b = a ∨ b ∈ t := by
  induction t with
  | nil => simp [NSet.add]
  | cons i rest ih =>
    unfold NSet.add
    split
    · rename_i h; subst h; simp
    · split
      · simp
      · rw [List.mem_cons, ih, List.mem_cons]
        exact or_left_comm

theorem NSet.contains_add (t : NSet) (a b : Nat) : (t.add a).contains b = (b == a || t.contains b) := by
  rw [Bool.eq_iff_iff]
  simp

/-- A delivery of local inputs changes the image alone, and is noted there beside what had been committed. -/
theorem deliverLocal_img (s : State) (k : Nat) :
    ∃ i, deliverLocal s k = s.modImg (fun _ => i) ∧ i.comm = s.img.comm.add (localKey k) := by
  have h (gs : List Nat) (t : State) : ∃ i, (gs.foldl (fun s g =>
      let w := localWord s k g
      let bad := localBad s k g
      s.modImg fun i => { i with
        samp := i.samp.set 0 g w, bad := if bad then i.bad.add g else i.bad.del g }) t) = t.modImg (fun _ => i) ∧
        i.comm = t.img.comm := by
    induction gs generalizing t with
    | nil => exact ⟨t.img, rfl, rfl⟩
    | cons g gs ih =>
      obtain ⟨i, hi, hcomm⟩ := ih (t.modImg _)
      exact ⟨i, hi, hcomm⟩
  obtain ⟨i, hi, hcomm⟩ := h (localInGroups s k) s
  refine ⟨{ i with comm := i.comm.add (localKey k) }, ?_, congrArg (·.add (localKey k)) hcomm⟩
  exact (congrArg (fun t : State => t.modImg fun i => { i with comm := i.comm.add (localKey k) }) hi).trans rfl

theorem deliverLocal_comm (s : State) (k : Nat) : (deliverLocal s k).img.comm = s.img.comm.add (localKey k) := by
  obtain ⟨i, hi, hcomm⟩ := deliverLocal_img s k
  rw [hi]
  exact hcomm

theorem taskStations_deliverLocal (s : State) (k : Nat) : taskStations (deliverLocal s k) k = taskStations s k := by
  obtain ⟨i, hi, -⟩ := deliverLocal_img s k
  rw [hi]
  rfl

theorem localInGroups_deliverLocal (s : State) (k : Nat) : localInGroups (deliverLocal s k) k = localInGroups s k := by
  obtain ⟨i, hi, -⟩ := deliverLocal_img s k
  rw [hi]
  rfl

/-- With its local inputs delivered, a task has all it waits for where each of its stations is committed. -/
theorem allIn_deliverLocal (s : State) (k : Nat) :
    allIn (deliverLocal s k) k = (taskStations s k).all fun key => key == localKey k || s.img.comm.contains key := by
  simp only [allIn, taskStations_deliverLocal, deliverLocal_comm, NSet.contains_add, beq_self_eq_true, Bool.true_or,
    Bool.or_true, Bool.and_true]

theorem releaseIfIn_deliverLocal {s : State} {k : Nat} (hactive : (s.task k).active = true)
    (hnew : (s.task k).released = false) :
    releaseIfIn (deliverLocal s k) k =
      if (taskStations s k).all fun key => key == localKey k || s.img.comm.contains key then release (deliverLocal s k) k
      else deliverLocal s k := by
  have htask : (deliverLocal s k).task k = s.task k := State.task_of_tsk (by simp) k
  simp only [releaseIfIn, htask, hactive, hnew, allIn_deliverLocal, Bool.not_false, Bool.true_and]

/-- Settles O17: each command releases the cycle, or only notes the delivery where a station is still awaited. -/
theorem cycleRelease : Obligations.CycleRelease := by
  refine ⟨?_, ?_, ?_, fun k s => inputDeadline_of_released⟩
  · intro k s hrun hgoes hactive hnew hown
    exact ⟨_, inputDeadline_releases hrun hgoes hactive hnew hown, rfl, release_released _ _⟩
  · intro k s hrun hgoes hevent hactive hnew hown
    exact ⟨_, eventTaskReleaseTimeout_releases hrun hgoes hevent hactive hnew hown, rfl, release_released _ _⟩
  · intro k s hrun hgoes hactive hnew hown hlink hlocal
    have hexec := localInputDelivery_delivers hrun hgoes hactive hnew hown hlink hlocal
    rw [releaseIfIn_deliverLocal hactive hnew] at hexec
    refine ⟨fun hall => ?_, fun hany => ?_⟩
    · rw [if_pos (by rw [List.all_eq_true] at hall ⊢; exact fun key hkey => by rw [hall key hkey, Bool.or_true])] at hexec
      exact ⟨_, hexec, rfl, release_released _ _⟩
    · obtain ⟨key, hkey, hne⟩ := List.any_eq_true.mp hany
      rw [if_neg fun h => by have := List.all_eq_true.mp h key hkey; simp at hne; simp [hne] at this] at hexec
      refine ⟨_, hexec, rfl, ?_, ?_, ?_⟩
      · rw [deliverLocal_comm, NSet.contains_add, beq_self_eq_true, Bool.true_or]
      · simp
      · simp

/-! ### Strikes, misses and executions that exceed their time (R50, R76, R79) -/

theorem State.running_of_prog {s t : State} (h : t.tsk.prog = s.tsk.prog) : t.running = s.running := by
  simp only [State.running, h]

theorem handoverDone_task (s : State) (k : Nat) : (handoverDone s).task k = s.task k := State.task_of_tsk (by simp) k

theorem handoverDone_running (s : State) : (handoverDone s).running = s.running := State.running_of_prog (by simp)

/-- A strike of a cycle that has not struck is noted, unless it stops the program. -/
theorem strike_strikes {s : State} {k : Nat} (hactive : (s.task k).active = true) (hnew : (s.task k).struck = false) :
    (strike s k).running = false ∨ ((strike s k).task k).struck = true := by
  unfold strike
  extract_lets t u v w x
  rw [if_neg (by simp [t, hactive, hnew])]
  by_cases hw : w.running = true
  · rw [if_neg (by simp [hw]), State.task_modTask]
    exact Or.inr rfl
  · rw [if_pos (by simp [hw])]
    exact Or.inl (by simpa using hw)

/-- What a strike miss counts, where it does not stop the program. -/
theorem strikeMiss_counts {s : State} {k : Nat} (hact : s.flag (TSK_CTRL_MISSACT k) = true) :
    ((strikeMiss s k).task k).miss = true ∧ (strikeMiss s k).flag (TSK_STAT_MISS k) = true ∧
      (strikeMiss s k).running = s.running ∧
      ((strikeMiss s k).task k).missCnt = holdAt 0xFFFFFFFF ((s.task k).missCnt + 1) ∧
      (strikeMiss s k).mem = s.mem ∧ (strikeMiss s k).img = s.img := by
  unfold strikeMiss
  rw [if_pos hact]
  extract_lets u
  have htask : u.task k = s.task k := State.task_of_tsk (by simp [u]) k
  have hflag : u.flag (TSK_STAT_MISS k) = true := by
    show ((State.setFld _ _ _).fld _ != 0) = true
    rw [fld_setFld_ne _ _ _ _ <| by simp only [TSK_STAT_MISS, TSK_STAT, TSK_LATE_MISSCNT, TSK_LATE]; omega]
    exact flag_setFlag_true s _ (by simp [TSK_STAT_MISS]) (by simp [TSK_STAT_MISS])
  refine ⟨by rw [State.task_modTask], ?_, State.running_of_prog (by simp [u]), by rw [State.task_modTask, htask], ?_, ?_⟩
  · exact hflag
  · simp [u]
  · simp [u]

theorem strikeMiss_stops {s : State} {k : Nat} (hact : s.flag (TSK_CTRL_MISSACT k) = false) :
    strikeMiss s k = programStop s 4 k := if_neg (by simp [hact])

section
variable {s : State} (hrun : s.running = true) (hgoes : halted s = false)
include hrun hgoes

theorem strikeInstant_strikes (k : Fin 16) : exec (.strikeInstant k) s = .next (handoverDone (strike s k.val)) := by
  show execStrikeInstant k s = _
  simp [execStrikeInstant, hrun, hgoes]

theorem strikeMiss_misses {k : Fin 16} (hacts : s.acts = true) (hactive : (s.task k.val).active = true)
    (hended : (s.task k.val).ended = false) (hmiss : (s.task k.val).miss = false) (hown : (s.task k.val).shadow = false) :
    exec (.strikeMiss k) s = .next (strikeMiss (s.at (taskTod s k.val + 1)) k.val) := by
  show execStrikeMiss k s = _
  simp [execStrikeMiss, hrun, hgoes, hacts, hactive, hended, hmiss, hown]

theorem executionTimeExceeded_stops {k : TaskId} (hevent : 16 ≤ k.val) (hacts : s.acts = true)
    (hactive : (s.task k.val).active = true) (hended : (s.task k.val).ended = false) :
    exec (.executionTimeExceeded k) s
      = .next (programStop (s.at ((s.task k.val).ts + taskM s k.val + 1)) 5 k.val) := by
  show execExecutionTimeExceeded k s = _
  simp [execExecutionTimeExceeded, hrun, hgoes, hacts, hactive, hended, Nat.not_lt.mpr hevent]

end

/-- Settles O19: a strike notes its cycle; a miss counts or stops; an excess of time stops. -/
theorem strikes : Obligations.Strikes := by
  refine ⟨?_, ?_, ?_⟩
  · intro k s hrun hgoes
    refine ⟨strikeInstant_strikes hrun hgoes k, fun hactive hnew => ⟨_, strikeInstant_strikes hrun hgoes k, fun ht => ?_⟩⟩
    rw [handoverDone_task]
    rw [handoverDone_running] at ht
    exact (strike_strikes hactive hnew).resolve_left (by simp [ht])
  · intro k s hrun hgoes hacts hactive hended hmiss hown
    have hexec := strikeMiss_misses hrun hgoes hacts hactive hended hmiss hown
    refine ⟨fun hact => ⟨_, hexec, ?_⟩, fun hact => ⟨_, hexec, ?_⟩⟩
    · obtain ⟨h1, h2, h3, h4, h5, h6⟩ := strikeMiss_counts (s := s.at (taskTod s k.val + 1)) hact
      exact ⟨h1, h2, h3.trans hrun, h4, h5, h6⟩
    · obtain ⟨hstop, hcause, htask, -⟩ := programStop_says (s.at (taskTod s k.val + 1)) 4 k.val hrun
      rw [strikeMiss_stops (s := s.at (taskTod s k.val + 1)) hact]
      exact ⟨hcause, htask, hstop⟩
  · intro k s hrun hgoes hevent hacts hactive hended
    obtain ⟨hstop, hcause, htask, htime, -⟩ :=
      programStop_says (s.at ((s.task k.val).ts + taskM s k.val + 1)) 5 k.val hrun
    exact ⟨_, executionTimeExceeded_stops hrun hgoes hevent hacts hactive hended, hcause, htask, hstop, htime⟩

theorem Tbl.erase_insert {α : Type} (t : Tbl α) (k : Nat) (v : α) : (t.insert k v).erase k = t.erase k := by
  induction t with
  | nil => simp [Tbl.insert, Tbl.erase]
  | cons e rest ih =>
    obtain ⟨i, x⟩ := e
    unfold Tbl.insert
    split
    · simp [Tbl.erase]
    · simp [Tbl.erase, ih]

theorem Tbl.set_set {α : Type} [DecidableEq α] (t : Tbl α) (d : α) (k : Nat) (v w : α) :
    (t.set d k v).set d k w = t.set d k w := by
  have herase : (t.set d k v).erase k = t.erase k := by
    unfold Tbl.set
    split
    · simp [Tbl.erase_eq_filter]
    · rw [Tbl.erase_insert]
      simp [Tbl.erase_eq_filter]
  rw [Tbl.set, herase, Tbl.set]

theorem State.modTask_modTask (s : State) (k : Nat) (f g : TaskSt → TaskSt) :
    (s.modTask k f).modTask k g = s.modTask k (g ∘ f) := by
  show (s.modTask k f).setTask k (g ((s.modTask k f).task k)) = s.setTask k (g (f (s.task k)))
  rw [State.task_modTask]
  simp only [State.modTask, State.setTask, Tbl.set_set]

/-! ### Evaluation (R51, R56, R353) -/

/-- With a segment of the task's rank pending, the task waits where it is. -/
theorem advance_of_pending {s : State} {k : Nat} (n : Nat)
    (h : (ofTask s k s.gz.pending).any (fun g => (s.hdr g).rank == (s.task k).rank) = true) : advance s k n = s := by
  cases n with
  | zero => rfl
  | succ n => simp only [advance, h, if_true, ite_self]

theorem advance_of_idle {s : State} {k : Nat} (n : Nat) (h : (s.task k).evaluating = false) : advance s k n = s := by
  cases n with
  | zero => rfl
  | succ n => simp [advance, h]

/-- Giving out segments to units leaves tasks, image, memory and loops. -/
theorem auditNext_fill_rest (s : State) :
    (auditNext (fill s)).tsk = s.tsk ∧ (auditNext (fill s)).img = s.img ∧ (auditNext (fill s)).mem = s.mem ∧
      (auditNext (fill s)).lpe = s.lpe := by
  simp

/-- A segment of rank 0 of the task is pending. -/
def FirstRankPending (s : State) (k : Nat) : Prop :=
  ∃ n ∈ s.gz.pending, (s.hdr n).cls ≠ 0 ∧ (s.hdr n).task = k ∧ (s.hdr n).rank = 0

theorem goOn_at_first_rank {s : State} {k : Nat} (hrank : (s.task k).rank = 0) (hpend : FirstRankPending s k) :
    goOn s k = auditNext (fill s) := by
  obtain ⟨n, hn, hcls, htask, h0⟩ := hpend
  rw [goOn, advance_of_pending]
  refine List.any_eq_true.mpr ⟨n, List.mem_filter.mpr ⟨hn, ?_⟩, ?_⟩
  · simp [hcls, htask]
  · simp [h0, hrank]

/-- What is complete of a cycle when its evaluation may begin. -/
def MayEvaluate (t : TaskSt) : Prop :=
  t.active = true ∧ t.released = true ∧ t.relBusy = false ∧ t.exchBusy = false ∧ t.evaluating = false ∧ t.ended = false

theorem beginEval_begins {s : State} {k : Nat} (h : MayEvaluate (s.task k)) :
    beginEval s k = goOn (s.modTask k fun t => { t with evaluating := true, rank := 0 }) k := by
  obtain ⟨h1, h2, h3, h4, h5, h6⟩ := h
  simp [beginEval, h1, h2, h3, h4, h5, h6]

theorem beginEval_waits {s : State} {k : Nat} (h : (s.task k).relBusy = true ∨ (s.task k).exchBusy = true) :
    beginEval s k = s := by
  rcases h with h | h <;> simp [beginEval, h]

/-- An evaluation that begins with a segment pending goes on at rank 0, and changes no other task. -/
theorem goOn_begins {s : State} {k : Nat} (f : TaskSt → TaskSt) (hrank : (f (s.task k)).rank = 0)
    (hpend : FirstRankPending s k) :
    let t := goOn (s.modTask k f) k
    t.task k = f (s.task k) ∧ (∀ j, j ≠ k → t.task j = s.task j) ∧ t.img = s.img ∧ t.mem = s.mem := by
  intro t
  have ht : t = auditNext (fill (s.modTask k f)) :=
    goOn_at_first_rank (by rw [State.task_modTask, hrank]) hpend
  obtain ⟨htsk, himg, hmem, -⟩ := auditNext_fill_rest (s.modTask k f)
  rw [ht]
  refine ⟨?_, fun j hj => ?_, himg, hmem⟩
  · rw [State.task_of_tsk htsk, State.task_modTask]
  · rw [State.task_of_tsk htsk, State.task_modTask_ne _ _ _ _ hj]

section
variable {s : State} (hrun : s.running = true) (hgoes : halted s = false)
include hrun hgoes

theorem releaseComplete_ends {k : TaskId} (hbusy : (s.task k.val).relBusy = true) :
    exec (.releaseComplete k) s = .next (beginEval (s.modTask k.val fun t => { t with relBusy := false }) k.val) := by
  show execReleaseComplete k s = _
  simp [execReleaseComplete, hrun, hgoes, hbusy]

theorem exchangeCopyComplete_ends {k : TaskId} (hbusy : (s.task k.val).exchBusy = true) :
    exec (.exchangeCopyComplete k) s
      = .next (beginEval (publishHeld (s.modTask k.val fun t => { t with exchBusy := false })) k.val) := by
  show execExchangeCopyComplete k s = _
  simp [execExchangeCopyComplete, hrun, hgoes, hbusy]

theorem loopExecutionComplete_ends {u : Fin 4} {i : Nat} {e : LoopExec} {rest : Tbl LoopExec}
    (hunit : Tbl.range s.lpe.units u.val 1 = (i, e) :: rest) :
    exec (.loopExecutionComplete u) s = .next (goOn (loopComplete s u.val) (s.loop e.loop).host) := by
  show execLoopExecutionComplete u s = _
  simp [execLoopExecutionComplete, hrun, hgoes, hunit]

end

theorem applyHeld_tsk (s : State) : (applyHeld s).tsk = { s.tsk with held := [] } := by
  simp [applyHeld]

theorem publishHeld_of_none {s : State} (h : s.tsk.held = []) : publishHeld s = s := by
  have happly : applyHeld s = s := by
    unfold applyHeld
    rw [h]
    show { s with tsk := { s.tsk with held := [] } } = s
    rw [← h]
  unfold publishHeld
  rw [happly, ite_self]

/-- What the end of a loop's execution leaves in the loop engine: the unit is free, the loop holds its output. -/
theorem loopComplete_says {s : State} {u i : Nat} {e : LoopExec} {rest : Tbl LoopExec} (hfrz : s.frz.frozen = false)
    (hunit : Tbl.range s.lpe.units u 1 = (i, e) :: rest) :
    let l := ((s.loop e.loop).execute e.cap e.writes).loop
    (loopComplete s u).lpe.units = Tbl.erase s.lpe.units u ∧ (loopComplete s u).lpe.queue = s.lpe.queue ∧
      (loopComplete s u).tsk = s.tsk ∧
      ∃ o, ((loopComplete s u).loop e.loop).out = some o ∧ o.t = e.tl + 500000 ∧ o.u = l.word 0x1D ∧ o.state = l.saved := by
  intro l
  unfold loopComplete
  rw [hunit]
  dsimp -zeta only
  rw [if_neg (by simp [hfrz])]
  extract_lets n r l' dest out w x y z v
  have hv : v.tsk = s.tsk ∧ v.lpe = x.lpe := by
    have hz : z.tsk = s.tsk ∧ z.lpe = x.lpe := by
      simp only [z]
      split <;> simp [y, x, w]
    simp only [v]
    split <;> simp [hz]
  obtain ⟨htsk, hlpe⟩ := hv
  have hend (t : State) (ht : t.lpe = x.lpe) (hk : t.tsk = s.tsk) :
      t.lpe.units = Tbl.erase s.lpe.units u ∧ t.lpe.queue = s.lpe.queue ∧ t.tsk = s.tsk ∧
      ∃ o, (t.loop e.loop).out = some o ∧ o.t = e.tl + 500000 ∧ o.u = l.word 0x1D ∧ o.state = l.saved := by
    refine ⟨congrArg LpeState.units ht, (congrArg LpeState.queue ht).trans rfl, hk, out, ?_, rfl, rfl, rfl⟩
    rw [State.loop, ht]
    exact congrArg LoopSt.out (State.loop_setLoop s n _)
  split
  · split
    · exact hend _ (by simpa using hlpe) (by simpa using htsk)
    · exact hend _ (by simpa using hlpe) (by simpa using htsk)
  · exact hend _ hlpe htsk

/-- Settles O18: the first of the two completions only ends, the second begins the evaluation; a loop's end frees its unit. -/
theorem evaluationBegins : Obligations.EvaluationBegins := by
  refine ⟨?_, ?_, ?_⟩
  · intro k s hrun hgoes hbusy
    have hexec := releaseComplete_ends hrun hgoes hbusy
    refine ⟨fun hexch => ?_, fun hexch hactive hrel heval hended => ?_⟩
    · rw [hexec, beginEval_waits (Or.inr (by rw [State.task_modTask]; exact hexch))]
    · have hmay : MayEvaluate ((s.modTask k.val fun t => { t with relBusy := false }).task k.val) := by
        rw [State.task_modTask]
        exact ⟨hactive, hrel, rfl, hexch, heval, hended⟩
      rw [beginEval_begins hmay] at hexec
      have hmod : ((s.modTask k.val fun t => { t with relBusy := false }).modTask k.val fun t =>
          { t with evaluating := true, rank := 0 })
            = s.modTask k.val fun t => { t with relBusy := false, evaluating := true, rank := 0 } :=
        State.modTask_modTask _ _ _ _
      rw [hmod] at hexec
      refine ⟨hexec, fun hpend => ⟨_, hexec, ?_⟩⟩
      obtain ⟨htask, hothers, himg, hmem⟩ := goOn_begins
        (fun t => { t with relBusy := false, evaluating := true, rank := 0 }) rfl hpend
      exact ⟨by rw [htask], by rw [htask], by rw [htask], hothers, himg, hmem⟩
  · intro k s hrun hgoes hbusy u
    have hexec := exchangeCopyComplete_ends hrun hgoes hbusy
    have hu : u.task k.val = { s.task k.val with exchBusy := false } := State.task_modTask s k.val _
    refine ⟨fun hrel hexch => ?_, fun hrel hexch => ⟨_, hexec, ?_⟩, fun hrel hactive hreleased heval hended hheld hpend =>
      ⟨_, hexec, ?_⟩⟩
    · rw [hexec, publishHeld, if_pos hexch, beginEval_waits (Or.inl (by rw [hu]; exact hrel))]
    · have htask : (applyHeld u).task k.val = u.task k.val := by rw [State.task, applyHeld_tsk]; rfl
      rw [publishHeld, if_neg (Bool.eq_false_iff.mp hexch),
        beginEval_waits (Or.inl (by rw [htask, hu]; exact hrel))]
      refine ⟨rfl, by rw [applyHeld_tsk], by rw [htask, hu], ?_, ?_, ?_⟩ <;> simp
    · rw [publishHeld_of_none (s := u) (by simpa [u] using hheld)]
      have hmay : MayEvaluate (u.task k.val) := by
        rw [hu]
        exact ⟨hactive, hreleased, hrel, rfl, heval, hended⟩
      rw [beginEval_begins hmay, State.modTask_modTask]
      obtain ⟨htask, hothers, himg, hmem⟩ := goOn_begins
        (fun t => { t with exchBusy := false, evaluating := true, rank := 0 }) rfl hpend
      exact ⟨congrArg TaskSt.evaluating htask, congrArg TaskSt.rank htask, congrArg TaskSt.exchBusy htask, hothers, himg, hmem⟩
  · intro u s i e rest hrun hgoes hunit
    have hexec := loopExecutionComplete_ends hrun hgoes hunit
    obtain ⟨hunits, hqueue, htsk, hout⟩ := loopComplete_says (not_frozen_of_not_halted hgoes) hunit
    refine ⟨hexec, fun hidle => ⟨_, hexec, ?_⟩⟩
    rw [goOn, advance_of_idle _ (by rw [State.task_of_tsk htsk]; exact hidle)]
    obtain ⟨-, -, -, hlpe⟩ := auditNext_fill_rest (loopComplete s u.val)
    refine ⟨by rw [hlpe, hunits], by rw [hlpe, hqueue], ?_⟩
    have hloop : (auditNext (fill (loopComplete s u.val))).loop e.loop = (loopComplete s u.val).loop e.loop :=
      congrArg (fun p => p.loops.get {} e.loop) hlpe
    rw [hloop]
    exact hout
end Sys2Proof.Machine
end

section
/-!
PROOF. ControlFlow: jumps, calls, END, RTE, delayed loads, special registers, event instructions and TRAP (R194 to R229, R266, R275).
-/
namespace Sys2Proof.Machine

open Host (Outcome)

theorem Stands.unit {s t : State} {u : Nat} {op : Op} {c : Ctx} (h : Stands s u op c t) : c.u = u := by
  obtain ⟨-, -, os, g, -, -, -, -, -, -, hu, -, -⟩ := h
  exact hu

/-- An instruction whose meaning is an exception raises it, and the operands' reading leaves nothing behind. -/
theorem exec_of_act_error {u : UnitId} {s t : State} {c : Ctx} {i : Instr} {op : Op} {e : Exc} (act : Ctx → State → Res Done)
    (hexec : exec i s = .next (insn s (UnitId.key u) op act)) (hstands : Stands s (UnitId.key u) op c t)
    (hact : act c t = .error e) : exec i s = .next (raiseInsn s c.u c.pc e) := by
  rw [hexec, insn_stands act hstands, hact, hstands.unit]

/-! ### Jumps (R194, R218, R266) -/

theorem jump_taken {c : Ctx} {s : State} {i a : Nat} (h : mayFetch s c.u a = true) : jump c s i a = .ok { s := s, pc := a } :=
  if_pos h

theorem jump_refused {c : Ctx} {s : State} {i a : Nat} (h : mayFetch s c.u a = false) :
    jump c s i a = .error ⟨exAccess, i, a⟩ := if_neg (Bool.eq_false_iff.mp h)

theorem bzAct_falls {zero : Bool} {c : Ctx} {s : State} (h : ((c.val 0 == 0) == zero) = false) :
    bzAct zero c s = .ok { s := s, pc := c.next } := if_neg (Bool.eq_false_iff.mp h)

theorem bzAct_jumps {zero : Bool} {c : Ctx} {s : State} (h : ((c.val 0 == 0) == zero) = true) :
    bzAct zero c s = jump c s 2 (c.target s 1) := if_pos h

/-- BZ and BNZ jump on their condition, to where the unit may fetch. -/
theorem bz_row {u : UnitId} {s t : State} {c : Ctx} {i : Instr} {op : Op} {zero : Bool}
    (hexec : exec i s = .next (insn s (UnitId.key u) op (bzAct zero))) (hstands : Stands s (UnitId.key u) op c t) :
    (((c.val 0 == 0) == zero) = false → exec i s = .next (complete c { s := t, pc := c.next })) ∧
      (((c.val 0 == 0) == zero) = true → mayFetch t c.u (c.target t 1) = true →
        exec i s = .next (complete c { s := t, pc := c.target t 1 })) ∧
      (((c.val 0 == 0) == zero) = true → mayFetch t c.u (c.target t 1) = false →
        exec i s = .next (raiseInsn s c.u c.pc ⟨exAccess, 2, c.target t 1⟩)) :=
  ⟨fun h => exec_of_act _ hexec hstands (bzAct_falls h),
    fun h hmay => exec_of_act _ hexec hstands ((bzAct_jumps h).trans (jump_taken hmay)),
    fun h hmay => exec_of_act_error _ hexec hstands ((bzAct_jumps h).trans (jump_refused hmay))⟩

theorem callAct_taken {c : Ctx} {s : State} (h : mayFetch s c.u (c.target s 0) = true) :
    callAct c s = .ok { s := s.modUnit c.u fun x => x.setG 15 (toWord c.next), pc := c.target s 0 } := by
  simp only [callAct, jump_taken h]

theorem callAct_refused {c : Ctx} {s : State} (h : mayFetch s c.u (c.target s 0) = false) :
    callAct c s = .error ⟨exAccess, 1, c.target s 0⟩ := by
  simp only [callAct, jump_refused h]

/-! ### RTE (R231) -/

/-- With no segment pending nothing is given out. -/
theorem fill_of_none {s : State} (h : s.gz.pending = []) : fill s = s := by
  have hof (k : Nat) : ofTask s k s.gz.pending = [] := by rw [h]; rfl
  exact List.foldl_fixed' (fun k => by rw [hof]; rfl) _

theorem auditNext_of_none {s : State} (h : s.gz.audit = none) : auditNext s = s := by
  unfold auditNext
  rw [h, ite_self]

theorem trapOf_zero (arith : Nat) : trapOf arith 0 = none := by
  simp [trapOf]

/-- What RTE leaves of its unit and of the state. -/
theorem complete_rte {c : Ctx} {t : State} (hslot : (t.unit c.u).slot = []) (hlane : isLane c.u = false)
    (hpend : t.gz.pending = []) (haudit : t.gz.audit = none) {priv : Nat} {exl : Bool} {a : Nat} :
    let d : Done := { s := t.setUnit c.u { t.unit c.u with exl := exl, priv := priv }, pc := a,
                      after := fun t => auditNext (fill t) }
    ((complete c d).unit c.u).pc = a ∧ ((complete c d).unit c.u).exl = exl ∧ ((complete c d).unit c.u).priv = priv ∧
      ((complete c d).unit c.u).g = (t.unit c.u).g ∧ (complete c d).mem = t.mem ∧ (complete c d).regs = t.regs := by
  intro d
  have hcomp : complete c d = d.s.modUnit c.u fun x => { x.loadDone with slot := [], pc := a, arith := x.arith } := by
    simp only [complete, hlane, Bool.false_eq_true, if_false, d, trapOf_zero]
    rw [fill_of_none (by simpa using hpend), auditNext_of_none (by simpa using haudit)]
    simp only [show toWord 0 = 0#32 from rfl, BitVec.or_zero]
  rw [hcomp]
  simp only [State.unit_modUnit, d, State.unit_setUnit]
  rw [loadDone_of_no_slot _ (by exact hslot)]
  simp

theorem rteAct_refused {c : Ctx} {s : State} (h : privOf s c.u = 0) : rteAct c s = .error ⟨exPrivilege, 0, c.pc⟩ := if_pos h

theorem rteAct_returns {c : Ctx} {s : State} (h : privOf s c.u ≠ 0) :
    rteAct c s = .ok { s := s.setUnit c.u { s.unit c.u with
                         exl := wbit (s.unit c.u).exstat 7,
                         priv := if c.u = 4 then 2 else Nat.min 1 (wbits (s.unit c.u).exstat 5 4) },
                       pc := (s.unit c.u).expc.toNat, after := fun t => auditNext (fill t) } := if_neg h

/-- Settles O26: each meaning is a jump, an end or an exception. -/
theorem controlFlow : Obligations.ControlFlow := by
  intro u s t c
  refine ⟨?_, ?_, fun hs => exec_of_act _ rfl hs rfl, fun hs => ⟨fun hrun => ?_, fun hrun => ?_⟩, fun hs => ⟨fun hpriv => ?_, ?_⟩⟩
  · exact
      forall_mem_cons_of (fun hs => ⟨fun h => exec_of_act _ rfl hs (jump_taken h),
        fun h => exec_of_act_error _ rfl hs (jump_refused h)⟩) <|
      forall_mem_cons_of (fun hs => ⟨fun h => exec_of_act _ rfl hs (callAct_taken h),
        fun h => exec_of_act_error _ rfl hs (callAct_refused h)⟩) <|
      forall_mem_cons_of (fun hs => ⟨fun h => exec_of_act _ rfl hs (jump_taken h),
        fun h => exec_of_act_error _ rfl hs (jump_refused h)⟩) <|
      List.forall_mem_nil _
  · refine forall_mem_cons_of (fun hs => ?_) <| forall_mem_cons_of (fun hs => ?_) <| List.forall_mem_nil _
    · simpa using bz_row (zero := true) rfl hs
    · simpa using bz_row (zero := false) rfl hs
  · exact exec_of_act _ rfl hs (if_pos hrun)
  · exact exec_of_act_error _ rfl hs (if_neg (Bool.eq_false_iff.mp hrun))
  · exact exec_of_act_error _ rfl hs (rteAct_refused hpriv)
  · intro hpriv hslot hlane hpend haudit
    refine ⟨_, exec_of_act _ rfl hs (rteAct_returns hpriv), ?_⟩
    obtain ⟨hpc, hexl, hp, hg, hmem, hregs⟩ := complete_rte (c := c) (t := t) hslot hlane hpend haudit
    exact ⟨hpc, hexl, fun hu => hp.trans (if_neg hu), hg, hmem, hregs⟩

/-! ### Delayed loads, special registers, events and TRAP (R196, R217, R223 to R226, R229, R275) -/

theorem loadAct_waits {c : Ctx} {s : State} {r : Nat} (h : c.loc 0 = .reg r) :
    loadAct c s = .ok { s := s, pc := c.next, load := if c.form.sz.isPair
      then [(r, toWord (c.val 1)), (r + 1, toWord (c.val 1 / 2 ^ 32))] else [(r, toWord (c.val 1))] } := by
  simp only [loadAct, h]

theorem mfsAct_reads {c : Ctx} {s t : State} (hmay : specMay c.spec (privOf s c.u) false = true)
    (hwrite : c.write s 0 (specPeek s c.u c.spec) = .ok t) : mfsAct c s = .ok { s := t, pc := c.next } :=
  (if_pos hmay).trans (result_of_write hwrite)

theorem sevAct_refused {c : Ctx} {s : State} (h : c.val 0 < 96 ∨ 127 < c.val 0 ∨ 0x4000 ≤ c.val 1) :
    sevAct c s = .error ⟨exIllegal, 0, c.pc⟩ := if_pos h

theorem sevAct_raises {c : Ctx} {s : State} (hlo : 96 ≤ c.val 0) (hhi : c.val 0 ≤ 127) (hmask : c.val 1 < 0x4000) :
    sevAct c s = .ok { s := if c.val 1 = 0 then s.raise (c.val 0) else s.latch (c.val 0) (c.val 1), pc := c.next } :=
  if_neg (by omega)

/-- Settles O28: each meaning ends with what it is to do, or is the exception of its refusal. -/
theorem loadsAndSystem : Obligations.LoadsAndSystem := by
  intro u s t t1 c
  refine ⟨?_, fun hs hmay hw => exec_of_act _ rfl hs (mfsAct_reads hmay hw), fun hs hmay => exec_of_act _ rfl hs (if_pos hmay),
    ?_, fun hs hbank => exec_of_act _ rfl hs (if_neg (Nat.not_lt.mpr hbank)),
    fun hs hbank => exec_of_act _ rfl hs (if_neg (Nat.not_lt.mpr hbank)),
    fun hs hlo hhi hmask => exec_of_act _ rfl hs (sevAct_raises hlo hhi hmask), ?_, fun hs => exec_of_act _ rfl hs rfl⟩
  · exact
      forall_mem_cons_of (fun r hs hreg => exec_of_act _ rfl hs (loadAct_waits hreg)) <|
      forall_mem_cons_of (fun r hs hreg => exec_of_act _ rfl hs (loadAct_waits hreg)) <|
      List.forall_mem_nil _
  · exact
      forall_mem_cons_of (fun hs h => exec_of_act_error mfsAct rfl hs (if_neg (Bool.eq_false_iff.mp h))) <|
      forall_mem_cons_of (fun hs h => exec_of_act_error mtsAct rfl hs (if_neg (Bool.eq_false_iff.mp h))) <|
      List.forall_mem_nil _
  · exact
      forall_mem_cons_of (fun hs h => exec_of_act_error wfeAct rfl hs (if_pos (of_decide_eq_true h))) <|
      forall_mem_cons_of (fun hs h => exec_of_act_error wtuAct rfl hs (if_pos (of_decide_eq_true h))) <|
      forall_mem_cons_of (fun hs h => exec_of_act_error _ rfl hs (sevAct_refused (of_decide_eq_true h))) <|
      List.forall_mem_nil _
end Sys2Proof.Machine
end

section
/-!
PROOF. Blocks: block and string instructions (R268 to R273).
-/
namespace Sys2Proof.Machine

open Host (Outcome)

/-! ### Blocks (R268 to R270) -/

/-- What an instruction's end does depends on the unit and the place of the instruction alone. -/
theorem complete_congr {c c' : Ctx} (hu : c'.u = c.u) (hpc : c'.pc = c.pc) (d : Done) : complete c' d = complete c d := by
  simp only [complete, hu, hpc]

/-- A block instruction with count 0 only ends. -/
theorem insn_stands_at_zero {s t : State} {u : Nat} {op : Op} {c : Ctx} (act : Ctx → State → Res Done)
    (h : StandsAtZero s u op c t) : insn s u op act = complete c { s := t, pc := c.next } := by
  obtain ⟨hl, hr, os, g, hf, hlocs, ha, hb, hu, hpc, hnext⟩ := h
  have h1 : (!unitLive s u || (isLane u && !(s.unit u).inRun)) = false := by
    cases hx : isLane u <;> simp_all
  have h2 : (auditing s u && (auditForbids c.form.op || touchesPeriph c.form.op c.locs)) = false := by
    cases hx : auditing s u <;> simp_all
  unfold insn
  rw [hf]
  simp only [h1]
  unfold runForm
  simp only [hlocs, h2, hb, Bool.false_eq_true, if_false, Option.isSome_some, bne_self_eq_false, Bool.and_false]
  rw [complete_congr (c := c) hu.symm hpc.symm, hnext]

theorem limitFault_of_le {c : Ctx} {n : Nat} (h : n ≤ 4096) : limitFault c n = none := if_neg (Nat.not_lt.mpr h)

theorem limitFault_of_gt {c : Ctx} {n : Nat} (h : 4096 < n) : limitFault c n = some ⟨exAccess, 3, (c.loc 0).addr⟩ := if_pos h

theorem firstExc_one (e : Option Exc) : firstExc [e] = e := by
  cases e <;> rfl

theorem movbAct_over {c : Ctx} {s : State} (h : 4096 < c.val 2 * c.form.sz.bytes) :
    movbAct c s = .error ⟨exAccess, 3, (c.loc 0).addr⟩ := by
  simp only [movbAct, limitFault_of_gt h, firstExc_one]

theorem fillAct_over {c : Ctx} {s : State} (h : 4096 < c.val 2 * c.form.sz.bytes) :
    fillAct c s = .error ⟨exAccess, 3, (c.loc 0).addr⟩ := by
  simp only [fillAct, limitFault_of_gt h]

theorem crccAct_over {c : Ctx} {s : State} (h : 4096 < c.val 2) : crccAct c s = .error ⟨exAccess, 3, (c.loc 0).addr⟩ := by
  simp only [crccAct, limitFault_of_gt h]

section
variable {c : Ctx} {s t : State} {e : Exc}

theorem movbAct_fails (hn : c.val 2 * c.form.sz.bytes ≤ 4096)
    (he : firstExc [elemsFault s c.u 1 (c.loc 0).isPc true (c.loc 0).addr c.form.sz.bytes (c.val 2),
      elemsFault s c.u 2 (c.loc 1).isPc false (c.loc 1).addr c.form.sz.bytes (c.val 2),
      elemsEcc s c.u 2 (c.loc 1).addr c.form.sz.bytes (c.val 2)] = some e) : movbAct c s = .error e := by
  simp only [movbAct, limitFault_of_le hn, firstExc_one, he]

theorem movbAct_copies (hn : c.val 2 * c.form.sz.bytes ≤ 4096)
    (he : firstExc [elemsFault s c.u 1 (c.loc 0).isPc true (c.loc 0).addr c.form.sz.bytes (c.val 2),
      elemsFault s c.u 2 (c.loc 1).isPc false (c.loc 1).addr c.form.sz.bytes (c.val 2),
      elemsEcc s c.u 2 (c.loc 1).addr c.form.sz.bytes (c.val 2)] = none)
    (hw : writeElems (readElems s c.u (c.loc 1).addr c.form.sz.bytes (c.val 2)).2 c.u 1 (c.loc 0).addr c.form.sz.bytes
      (readElems s c.u (c.loc 1).addr c.form.sz.bytes (c.val 2)).1 (c.val 2) = .ok t) : movbAct c s = c.ends t := by
  simp only [movbAct, limitFault_of_le hn, firstExc_one, he, hw]

theorem fillAct_fails (hn : c.val 2 * c.form.sz.bytes ≤ 4096)
    (he : elemsFault s c.u 1 (c.loc 0).isPc true (c.loc 0).addr c.form.sz.bytes (c.val 2) = some e) : fillAct c s = .error e := by
  simp only [fillAct, limitFault_of_le hn, he]

theorem fillAct_fills (hn : c.val 2 * c.form.sz.bytes ≤ 4096)
    (he : elemsFault s c.u 1 (c.loc 0).isPc true (c.loc 0).addr c.form.sz.bytes (c.val 2) = none)
    (hw : writeElems s c.u 1 (c.loc 0).addr c.form.sz.bytes
      ((List.replicate (c.val 2) (toLE c.form.sz.bytes (c.val 1))).flatten) (c.val 2) = .ok t) : fillAct c s = c.ends t := by
  simp only [fillAct, limitFault_of_le hn, he, hw]

theorem crccAct_fails (hn : c.val 2 ≤ 4096)
    (he : firstExc [elemsFault s c.u 2 (c.loc 1).isPc false (c.loc 1).addr 1 (c.val 2),
      elemsEcc s c.u 2 (c.loc 1).addr 1 (c.val 2)] = some e) : crccAct c s = .error e := by
  simp only [crccAct, limitFault_of_le hn, he]

theorem crccAct_advances (hn : c.val 2 ≤ 4096)
    (he : firstExc [elemsFault s c.u 2 (c.loc 1).isPc false (c.loc 1).addr 1 (c.val 2),
      elemsEcc s c.u 2 (c.loc 1).addr 1 (c.val 2)] = none)
    (hw : c.write (readElems s c.u (c.loc 1).addr 1 (c.val 2)).2 0
      (crcc (c.val 0) (readElems s c.u (c.loc 1).addr 1 (c.val 2)).1) = .ok t) :
    crccAct c s = .ok { s := t, pc := c.next } := by
  simp only [crccAct, limitFault_of_le hn, he]
  exact result_of_write hw

/-! ### Strings (R271 to R273) -/

variable {r : State} {a b x y : Str} {k : Str → Str → State → Res Done}

theorem withStrs_header (h : readHeads s c.u [a, b] = .error e) : withStrs s c.u a b k = .error e := by
  simp only [withStrs, h]

theorem withStrs_fails (h : readHeads s c.u [a, b] = .ok ([x, y], r)) (he : strFault r c.u [x, y] = some e) :
    withStrs s c.u a b k = .error e := by
  simp only [withStrs, h, List.getD_cons_zero, List.getD_cons_succ, he]

/-- With the headers read and the bytes in order, the meaning goes on with the two strings. -/
theorem withStrs_goes (h : readHeads s c.u [a, b] = .ok ([x, y], r)) (he : strFault r c.u [x, y] = none) :
    withStrs s c.u a b k = k x y r := by
  simp only [withStrs, h, List.getD_cons_zero, List.getD_cons_succ, he]

theorem scpyAct_copies (h : readHeads s c.u [c.str 0 true, c.str 1 false] = .ok ([x, y], r))
    (he : strFault r c.u [x, y] = none)
    (hw : strWrite r c.u x (Nat.min y.len x.cap) 0 ((y.text r c.u).take (Nat.min y.len x.cap)) = .ok t) :
    scpyAct c s = c.ends t := by
  rw [scpyAct, withStrs_goes h he]
  simp only [hw]

theorem scatAct_appends (h : readHeads s c.u [c.str 0 true, c.str 1 false] = .ok ([x, y], r))
    (he : strFault r c.u [x, y] = none)
    (hw : strWrite r c.u x (x.len + Nat.min y.len (x.cap - x.len)) x.len
      ((y.text r c.u).take (Nat.min y.len (x.cap - x.len))) = .ok t) : scatAct c s = c.ends t := by
  rw [scatAct, withStrs_goes h he]
  simp only [hw]

theorem slenAct_header (h : readHeads s c.u [c.str 1 false] = .error e) : slenAct c s = .error e := by
  simp only [slenAct, h]

theorem slenAct_fails (h : readHeads s c.u [c.str 1 false] = .ok ([x], r)) (he : strFault r c.u [x] = some e) :
    slenAct c s = .error e := by
  simp only [slenAct, h, he]

theorem slenAct_measures (h : readHeads s c.u [c.str 1 false] = .ok ([x], r)) (he : strFault r c.u [x] = none)
    (hw : c.write r 0 x.len = .ok t) : slenAct c s = .ok { s := t, pc := c.next } := by
  simp only [slenAct, h, he]
  exact result_of_write hw

theorem scmpAct_compares (h : readHeads s c.u [c.str 1 false, c.str 2 false] = .ok ([x, y], r))
    (he : strFault r c.u [x, y] = none) (hw : c.write r 0 (wrap 32 (textCompare (x.text r c.u) (y.text r c.u))) = .ok t) :
    scmpAct c s = .ok { s := t, pc := c.next } := by
  rw [scmpAct, withStrs_goes h he]
  exact result_of_write hw

theorem sfndAct_finds (h : readHeads s c.u [c.str 1 false, c.str 2 false] = .ok ([x, y], r))
    (he : strFault r c.u [x, y] = none)
    (hw : c.write r 0 (if (y.text r c.u).isEmpty then 1 else textFind (y.text r c.u) 1 (x.text r c.u)) = .ok t) :
    sfndAct c s = .ok { s := t, pc := c.next } := by
  rw [sfndAct, withStrs_goes h he]
  exact result_of_write hw

end

/-- Settles O27: each meaning fails at its first fault, and completes where there is none. -/
theorem blocksStrings : Obligations.BlocksStrings := by
  refine ⟨?_, ?_, ?_⟩
  · intro u s t c
    exact
      forall_mem_cons_of (fun hs => congrArg Outcome.next (insn_stands_at_zero movbAct hs)) <|
      forall_mem_cons_of (fun hs => congrArg Outcome.next (insn_stands_at_zero fillAct hs)) <|
      forall_mem_cons_of (fun hs => congrArg Outcome.next (insn_stands_at_zero crccAct hs)) <|
      List.forall_mem_nil _
  · intro u s t t1 c z n d b
    refine ⟨fun hs hn => ?_, ?_, fun hs hn => ?_, fun hs hn => ?_⟩
    · exact ⟨fun e he => exec_of_act_error _ rfl hs (movbAct_fails hn he),
        fun he hw => exec_of_act _ rfl hs (movbAct_copies hn he hw)⟩
    · exact
        forall_mem_cons_of (fun hs h => exec_of_act_error _ rfl hs (movbAct_over h)) <|
        forall_mem_cons_of (fun hs h => exec_of_act_error _ rfl hs (fillAct_over h)) <|
        forall_mem_cons_of (fun hs h => exec_of_act_error _ rfl hs (crccAct_over h)) <|
        List.forall_mem_nil _
    · exact ⟨fun e he => exec_of_act_error _ rfl hs (fillAct_fails hn he),
        fun he hw => exec_of_act _ rfl hs (fillAct_fills hn he hw)⟩
    · exact ⟨fun e he => exec_of_act_error _ rfl hs (crccAct_fails hn he),
        fun he hw => exec_of_act _ rfl hs (crccAct_advances hn he hw)⟩
  · intro u s t t1 r c x y
    refine ⟨?_, fun hs h => ?_, ?_, ?_⟩
    · exact
        forall_mem_cons_of (fun hs h => ⟨fun e he => exec_of_act_error scpyAct rfl hs (withStrs_fails h he),
          fun he hw => exec_of_act _ rfl hs (scpyAct_copies h he hw)⟩) <|
        forall_mem_cons_of (fun hs h => ⟨fun e he => exec_of_act_error scatAct rfl hs (withStrs_fails h he),
          fun he hw => exec_of_act _ rfl hs (scatAct_appends h he hw)⟩) <|
        List.forall_mem_nil _
    · exact ⟨fun e he => exec_of_act_error _ rfl hs (slenAct_fails h he),
        fun he hw => exec_of_act _ rfl hs (slenAct_measures h he hw)⟩
    · exact
        forall_mem_cons_of (fun hs h => ⟨fun e he => exec_of_act_error scmpAct rfl hs (withStrs_fails h he),
          fun he hw => exec_of_act _ rfl hs (scmpAct_compares h he hw)⟩) <|
        forall_mem_cons_of (fun hs h => ⟨fun e he => exec_of_act_error sfndAct rfl hs (withStrs_fails h he),
          fun he hw => exec_of_act _ rfl hs (sfndAct_finds h he hw)⟩) <|
        List.forall_mem_nil _
    · exact
        forall_mem_cons_of (fun e hs h => exec_of_act_error scpyAct rfl hs (withStrs_header h)) <|
        forall_mem_cons_of (fun e hs h => exec_of_act_error scatAct rfl hs (withStrs_header h)) <|
        forall_mem_cons_of (fun e hs h => exec_of_act_error slenAct rfl hs (slenAct_header h)) <|
        forall_mem_cons_of (fun e hs h => exec_of_act_error scmpAct rfl hs (withStrs_header h)) <|
        forall_mem_cons_of (fun e hs h => exec_of_act_error sfndAct rfl hs (withStrs_header h)) <|
        List.forall_mem_nil _
end Sys2Proof.Machine
end

section
/-!
PROOF. CoresWake: waiting cores wake and stopped cores are reset (R222 to R224, R233).
-/
namespace Sys2Proof.Machine

open Host (Outcome)

/-! ### The ends of WFE and WTU (R222 to R224) -/

theorem wfeWake_checks {core : CoreId} {s : State} {mask : Word} {bank : Nat} (hgoes : halted s = false)
    (hwait : (s.unit core.val).wait = .wfe mask bank) :
    exec (.wfeWake core) s = .next (wfeCheck s core.val mask bank) := by
  show execWfeWake core s = _
  simp only [execWfeWake, hwait, hgoes, Bool.false_eq_true, if_false]

theorem wfeCheck_wakes {s : State} {u : Nat} {mask : Word} {bank n : Nat} (hmask : mask ≠ 0)
    (hmatch : pendingMatch (s.unit u) mask bank = some n) :
    (wfeCheck s u mask bank).unit u =
      { (s.unit u).setG 0 (toWord n) with wait := .none, evpend := (s.unit u).evpend.del n } := by
  simp only [wfeCheck, State.unit_modUnit, if_neg hmask, hmatch]

theorem wtuWake_checks {core : CoreId} {s : State} {time : Nat} {mask : Word} {bank : Nat} (hgoes : halted s = false)
    (hwait : (s.unit core.val).wait = .wtu time mask bank) :
    exec (.wtuWake core) s = .next (if (pendingMatch (s.unit core.val) mask bank).isSome = true
      then wtuCheck s core.val time mask bank else wtuCheck (s.at time) core.val time mask bank) := by
  show execWtuWake core s = _
  simp only [execWtuWake, hwait, hgoes, Bool.false_eq_true, if_false]
  split <;> rfl

theorem wtuCheck_matched {s : State} {u time : Nat} {mask : Word} {bank : Nat}
    (hmatch : (pendingMatch (s.unit u) mask bank).isSome = true) :
    (wtuCheck s u time mask bank).unit u = { (s.unit u).setG 0 0 with wait := .none } := by
  simp only [wtuCheck, State.unit_modUnit, if_pos hmatch]

theorem wtuCheck_at_time {s : State} {u time : Nat} {mask : Word} {bank : Nat}
    (hmatch : pendingMatch (s.unit u) mask bank = none) (htime : time ≤ s.now) :
    (wtuCheck s u time mask bank).unit u = { (s.unit u).setG 0 1 with wait := .none } := by
  simp only [wtuCheck, State.unit_modUnit, hmatch, Option.isSome_none, Bool.false_eq_true, if_false, if_pos htime]

/-! ### The reset of a stopped core (R233) -/

/-- A core that does not stand stopped does not stop when work is given out. -/
theorem runUnit_halted {s : State} {u : Nat} (seg : Nat) (r : Run) (h : (s.unit u).halted = false) :
    (runUnit s u seg r).halted = false := by
  simp only [runUnit]
  split
  · rfl
  · exact h

theorem startRun_halted {s : State} {j : Nat} (u seg k : Nat) (audit : Bool) (time : Nat) (h : (s.unit j).halted = false) :
    ((startRun s u seg k audit time).unit j).halted = false := by
  unfold startRun
  extract_lets hd r v w x
  have hunits : x.units = s.units := by
    have hw : w.units = s.units := by
      simp only [w]
      split
      · simp [v]
      · rfl
    simp only [x]
    split
    · exact hw
    · exact hw
  have hx (i : Nat) : x.unit i = s.unit i := congrArg (fun t => t.get {} i) hunits
  rcases eq_or_ne j u with rfl | hne
  · rw [State.unit_setUnit]
    exact runUnit_halted seg r (by rw [hx]; exact h)
  · rw [State.unit_setUnit_ne _ _ _ _ hne, hx]
    exact h

theorem yieldAudit_halted {s : State} {j : Nat} (u : Nat) (h : (s.unit j).halted = false) :
    ((yieldAudit s u).unit j).halted = false := by
  unfold yieldAudit
  split
  · rcases eq_or_ne j u with rfl | hne
    · show ((s.modUnit j UnitSt.leave).unit j).halted = false
      rw [State.unit_modUnit]
      exact h
    · show ((s.modUnit u UnitSt.leave).unit j).halted = false
      rw [State.unit_modUnit_ne _ _ _ _ hne]
      exact h
  · exact h

theorem giveSegment_halted {s : State} {j : Nat} (k seg : Nat) (h : (s.unit j).halted = false) :
    ((giveSegment s k seg).unit j).halted = false := by
  unfold giveSegment
  split
  · exact startRun_halted _ seg k false _ (yieldAudit_halted _ h)
  · exact h

theorem fill_halted {s : State} {j : Nat} (h : (s.unit j).halted = false) : ((fill s).unit j).halted = false :=
  List.foldlRecOn _ _ (motive := fun t : State => (t.unit j).halted = false) h fun _ ht k _ =>
    List.foldlRecOn _ _ (motive := fun t : State => (t.unit j).halted = false) ht fun _ ht n _ => giveSegment_halted k n ht

theorem auditNext_halted {s : State} {j : Nat} (h : (s.unit j).halted = false) : ((auditNext s).unit j).halted = false := by
  unfold auditNext
  split
  · exact h
  · split
    · exact h
    · split
      · exact h
      · split
        · exact h
        · split
          · exact startRun_halted _ _ _ _ _ h
          · exact h

theorem atReset_halted (u : Nat) : (UnitSt.atReset u).halted = false := by
  unfold UnitSt.atReset
  split <;> rfl

theorem coreResetComplete_resets {k : Fin 4} {s : State} (hgoes : halted s = false) (hstopped : (s.unit k.val).halted = true) :
    exec (.coreResetComplete k) s = .next (auditNext (fill (s.setUnit k.val (UnitSt.atReset k.val)))) := by
  show execCoreResetComplete k s = _
  simp [execCoreResetComplete, hgoes, hstopped]

/-- Settles O29: a wait ends by its check; a stopped core is reset, and gets work where some is pending. -/
theorem coresWake : Obligations.CoresWake := by
  intro core s hgoes
  refine ⟨?_, ?_, ?_, ?_⟩
  · intro mask bank n hwait hmask hmatch
    refine ⟨_, wfeWake_checks hgoes hwait, ?_⟩
    beta_reduce
    rw [wfeCheck_wakes hmask hmatch]
    exact ⟨rfl, rfl, rfl, rfl, rfl⟩
  · intro time mask bank hwait hmatch
    refine ⟨_, (wtuWake_checks hgoes hwait).trans (congrArg Outcome.next (if_pos hmatch)), ?_⟩
    beta_reduce
    rw [wtuCheck_matched hmatch]
    exact ⟨rfl, rfl, rfl, rfl, rfl⟩
  · intro time mask bank hwait hmatch
    refine ⟨_, (wtuWake_checks hgoes hwait).trans (congrArg Outcome.next (if_neg (by simp [hmatch]))), ?_⟩
    beta_reduce
    rw [wtuCheck_at_time (s := s.at time) hmatch (Nat.le_max_right _ _)]
    exact ⟨rfl, rfl, Nat.le_max_right _ _, rfl, rfl, rfl⟩
  · intro k hstopped
    have hexec := coreResetComplete_resets hgoes hstopped
    refine ⟨hexec, _, hexec, ?_⟩
    have hlive : ((s.setUnit k.val (UnitSt.atReset k.val)).unit k.val).halted = false := by
      rw [State.unit_setUnit]
      exact atReset_halted _
    obtain ⟨htsk, himg, hmem, -⟩ := auditNext_fill_rest (s.setUnit k.val (UnitSt.atReset k.val))
    refine ⟨auditNext_halted (fill_halted hlive), hmem, himg, htsk, fun hpend haudit => ?_⟩
    rw [fill_of_none (by exact hpend), auditNext_of_none (by exact haudit)]
    exact ⟨State.unit_setUnit _ _ _, fun j hj => State.unit_setUnit_ne _ _ _ _ hj, rfl⟩
end Sys2Proof.Machine
end

section
/-!
PROOF. Stations: latches, frames, enumeration, strikes and safe values of the stations (R279, R282, R303 to R318).
-/
namespace Sys2Proof.Machine

open Host (Outcome)

/-- The next multiple of a period past a phase lies less than a period ahead. -/
theorem next_at_phase {p : Nat} (now phase : Nat) (hp : p ≠ 0) :
    now ≤ now + (phase + p - now % p) % p ∧ now + (phase + p - now % p) % p < now + p ∧
      (now + (phase + p - now % p) % p) % p = phase % p := by
  have hlt : now % p < p := Nat.mod_lt _ (Nat.pos_of_ne_zero hp)
  refine ⟨by omega, by have := Nat.mod_lt (phase + p - now % p) (Nat.pos_of_ne_zero hp); omega, ?_⟩
  have hsum : now % p + (phase + p - now % p) = phase + p := by omega
  calc (now + (phase + p - now % p) % p) % p = (now % p + (phase + p - now % p)) % p := by simp [Nat.add_mod]
    _ = phase % p := by rw [hsum, Nat.add_mod_right]

theorem State.stn_of_setStn (s : State) (k : Nat) (x : Station) :
    (s.setStn k x).stn k = x ∧ ∀ j, j ≠ k → (s.setStn k x).stn j = s.stn j :=
  ⟨State.stn_setStn s k x, fun j hj => State.stn_setStn_ne s k j x hj⟩

theorem stationLatch_latches {r : RingId} {n : Byte} {inputs : List Byte} {s : State}
    (hpresent : (s.stn (stnKey r.val n.toNat)).present = true) (hsync : (s.stn (stnKey r.val n.toNat)).sync = true)
    (hconfig : (s.stn (stnKey r.val n.toNat)).config = true) (hperiod : (s.stn (stnKey r.val n.toNat)).period ≠ 0) :
    let x := s.stn (stnKey r.val n.toNat)
    let a := s.now + (x.phase + x.period - s.now % x.period) % x.period
    exec (.stationLatch r n inputs) s = .next ((s.at a).setStn (stnKey r.val n.toNat) { x with latch := some (a, inputs) }) := by
  show execStationLatch r n inputs s = _
  simp [execStationLatch, hpresent, hsync, hconfig, hperiod]

/-! ### Frames (R282, R303 to R315) -/

section
variable {r : RingId} {pos : Byte} {on : Bool} {f : PFrame} {answer : List Byte} {s : State}

/-- The types of frame that a station knows (R283). -/
def knownType (f : PFrame) : Bool := decide (1 ≤ f.typ.toNat ∧ f.typ.toNat ≤ 5) || f.typ.toNat == 8 || f.typ.toNat == 9

theorem stationFrame_absent {ok : Bool} (h : (s.stn (stnKey r.val pos.toNat)).present = false) :
    exec (.stationFrame r ⟨pos, on, ok⟩ f answer) s = .next s := by
  show execStationFrame r ⟨pos, on, ok⟩ f answer s = _
  simp [execStationFrame, h]

variable (hpresent : (s.stn (stnKey r.val pos.toNat)).present = true)
include hpresent

theorem stationFrame_bad : exec (.stationFrame r ⟨pos, on, false⟩ f answer) s =
    .next (s.setStn (stnKey r.val pos.toNat) ((s.stn (stnKey r.val pos.toNat)).sendOn on true (b2n (knownType f)) f)) := by
  show execStationFrame r ⟨pos, on, false⟩ f answer s = _
  simp [execStationFrame, knownType, hpresent]

theorem stationFrame_passes (htyp : f.typ.toNat ≠ 8) (hother : (s.stn (stnKey r.val pos.toNat)).addressed f = false) :
    exec (.stationFrame r ⟨pos, on, true⟩ f answer) s =
      .next (s.setStn (stnKey r.val pos.toNat) ((s.stn (stnKey r.val pos.toNat)).sendOn on false (b2n (knownType f)) f)) := by
  show execStationFrame r ⟨pos, on, true⟩ f answer s = _
  simp [execStationFrame, knownType, hpresent, htyp, hother]

variable (hmine : (s.stn (stnKey r.val pos.toNat)).addressed f = true)
include hmine

omit hpresent in
/-- A frame that is addressed to a station is none of enumeration. -/
theorem typ_of_addressed : f.typ.toNat ≠ 8 := by
  simp only [Station.addressed, Bool.and_eq_true, decide_eq_true_eq] at hmine
  omega

/-- A station answers a frame of its own epoch by `stnAct`; one of an older epoch it refuses with status 2, one of a newer epoch
makes it drop its pending set first. -/
theorem stationFrame_answers : exec (.stationFrame r ⟨pos, on, true⟩ f answer) s =
    if f.epoch.toNat < (s.stn (stnKey r.val pos.toNat)).epoch.toNat then
      .next (s.setStn (stnKey r.val pos.toNat) ((s.stn (stnKey r.val pos.toNat)).sendOn on false 1
        { stnReply (s.stn (stnKey r.val pos.toNat)) f 2 f.data with epoch := (s.stn (stnKey r.val pos.toNat)).epoch }))
    else
      let x := if (s.stn (stnKey r.val pos.toNat)).epoch.toNat < f.epoch.toNat
        then { s.stn (stnKey r.val pos.toNat) with epoch := f.epoch, pend := none } else s.stn (stnKey r.val pos.toNat)
      let a := stnAct s x f answer
      .next (a.2.2.2.setStn (stnKey r.val pos.toNat) (a.1.sendOn on false 1 (stnReply a.1 f a.2.1 a.2.2.1))) := by
  show execStationFrame r ⟨pos, on, true⟩ f answer s = _
  have htyp := typ_of_addressed hmine
  simp only [execStationFrame, hpresent, hmine, if_neg htyp, Bool.not_true, Bool.false_eq_true, if_false]

end

/-! ### Enumeration (R316 to R318) -/

/-- Where a station takes its place in an enumeration, from either side. -/
def enmPlace (f : PFrame) : Nat :=
  if f.dirB then (f.station.toNat + 1 + 256 - (f.hops.toNat + 1) % 256) % 256 else (f.hops.toNat + 1) % 256

theorem stationEnm_takes {r : RingId} {pos : Byte} {on : Bool} {f : PFrame} {s : State}
    (hpresent : (s.stn (stnKey r.val pos.toNat)).present = true) (htyp : f.typ = BitVec.ofNat 8 ftENM) :
    exec (.stationEnm r ⟨pos, on, true⟩ f) s =
      .next (s.setStn (stnKey r.val pos.toNat) (stnEnm (s.stn (stnKey r.val pos.toNat)) on f)) := by
  show execStationEnm r ⟨pos, on, true⟩ f s = _
  simp [execStationEnm, hpresent, htyp]

theorem stnEnm_new {x : Station} {on : Bool} {f : PFrame} (hloop : f.loop = false) (h : x.addr = 0) :
    stnEnm x on f = ({ x with addr := enmPlace f }).sendOn on false 0 { f with hops := BitVec.ofNat 8 ((f.hops.toNat + 1) % 256) } := by
  simp [stnEnm, hloop, h, enmPlace]

theorem stnEnm_moved {x : Station} {on : Bool} {f : PFrame} (hloop : f.loop = false) (h : x.addr ≠ 0) (hplace : x.addr ≠ enmPlace f)
    (hrun : wbit (f.flags.setWidth 32) 2 = true) :
    stnEnm x on f = ({ x.goSafe x.safeNow with addr := enmPlace f, config := false }).sendOn on false 0
      { f with hops := BitVec.ofNat 8 ((f.hops.toNat + 1) % 256) } := by
  unfold enmPlace at hplace ⊢
  simp [stnEnm, hloop, h, hplace, hrun]

theorem stnEnm_kept {x : Station} {on : Bool} {f : PFrame} (hloop : f.loop = false) (h : x.addr ≠ 0)
    (hkeep : x.addr = enmPlace f ∨ wbit (f.flags.setWidth 32) 2 = false) :
    stnEnm x on f = x.sendOn on false 0 { f with hops := BitVec.ofNat 8 ((f.hops.toNat + 1) % 256) } := by
  have hstay : ¬(wbit (f.flags.setWidth 32) 2 = true ∧ x.addr ≠ 0 ∧ x.addr ≠ enmPlace f) := by
    rintro ⟨hrun, -, hne⟩
    exact hkeep.elim hne (by simp [hrun])
  unfold enmPlace at hstay
  simp only [stnEnm, hloop, Bool.false_eq_true, if_false, if_neg hstay, if_neg h]

/-! ### Strikes, hold time and power-up (R304, R311 to R313) -/

theorem stationStrike_strikes {r : RingId} {n : Byte} {s : State} {x : Nat} {on : Bool} {v : List Byte}
    (h : (s.stn (stnKey r.val n.toNat)).pend = some (x, on, v)) :
    let y := s.stn (stnKey r.val n.toNat)
    exec (.stationStrike r n) s = .next ((s.at x).setStn (stnKey r.val n.toNat)
      { (if on then { y with outputs := v, safe := false, pend := none } else y.goSafe y.safeNow) with lastStrike := x }) := by
  show execStationStrike r n s = _
  simp only [execStationStrike, h]

theorem holdTimeExpiry_falls {r : RingId} {n : Byte} {s : State} (hpresent : (s.stn (stnKey r.val n.toNat)).present = true)
    (hsafe : (s.stn (stnKey r.val n.toNat)).safe = false) :
    let x := s.stn (stnKey r.val n.toNat)
    exec (.holdTimeExpiry r n) s = .next ((s.at (x.lastStrike + x.holdUs * 1000)).setStn (stnKey r.val n.toNat)
      { x.goSafe x.safeNow with pend := x.pend }) := by
  show execHoldTimeExpiry r n s = _
  simp [execHoldTimeExpiry, hpresent, hsafe]

/-- Settles O37: latch, frame, enumeration, strike, hold time and power-up, each by what it makes of its station. -/
theorem stationsAct : Obligations.StationsAct := by
  refine ⟨?_, ?_, ?_, ?_, ?_, ?_⟩
  · intro r n inputs s x hpresent hsync hconfig hperiod
    refine ⟨_, stationLatch_latches hpresent hsync hconfig hperiod,
      s.now + (x.phase + x.period - s.now % x.period) % x.period, ?_⟩
    obtain ⟨hle, hlt, hphase⟩ := next_at_phase s.now x.phase hperiod
    exact ⟨congrArg Station.latch (State.stn_setStn _ _ _), hle, hlt, hphase, rfl, rfl⟩
  · intro r pos on ok f answer s key x n
    refine ⟨stationFrame_absent, ?_, ?_, ?_⟩
    · rintro hpresent rfl
      exact stationFrame_bad hpresent
    · rintro hpresent rfl htyp hother
      refine ⟨_, stationFrame_passes hpresent htyp hother, ?_⟩
      obtain ⟨hself, hothers⟩ := State.stn_of_setStn s key (x.sendOn on false (b2n (knownType f)) f)
      refine ⟨hself, hothers, rfl, rfl, ?_, ?_⟩
      · rintro rfl hloop
        rw [hself]
        simp [Station.sendOn, hloop, n, knownType]
      · rintro rfl
        rw [hself]
        simp [Station.sendOn]
    · rintro hpresent rfl hmine
      have hexec := stationFrame_answers (on := on) (answer := answer) hpresent hmine
      refine ⟨fun hold => ⟨_, hexec.trans (if_pos hold), State.stn_of_setStn _ _ _⟩, fun hsame => ?_, fun hnew => ?_⟩
      · rw [hexec, if_neg (by rw [← hsame]; exact Nat.lt_irrefl _), if_neg (by rw [← hsame]; exact Nat.lt_irrefl _)]
      · rw [hexec, if_neg (Nat.lt_asymm hnew), if_pos hnew]
  · intro r pos on f s key x hops place hpresent hloop htyp
    have hexec := stationEnm_takes (on := on) hpresent htyp
    have hself := State.stn_setStn s key (stnEnm x on f)
    refine ⟨fun h => ⟨_, hexec, ?_⟩, fun h hplace hrun => ⟨_, hexec, ?_⟩, fun hkeep h => ⟨_, hexec, ?_⟩⟩
    · have hx := hself.trans (stnEnm_new hloop h)
      exact ⟨(congrArg Station.addr hx :), (congrArg Station.outputs hx :), (congrArg Station.config hx :), rfl⟩
    · have hx := hself.trans (stnEnm_moved hloop h hplace hrun)
      exact ⟨(congrArg Station.addr hx :), (congrArg Station.outputs hx :), (congrArg Station.safe hx :), (congrArg Station.config hx :), rfl⟩
    · have hx := hself.trans (stnEnm_kept hloop h hkeep)
      exact ⟨(congrArg Station.addr hx :), (congrArg Station.outputs hx :), (congrArg Station.config hx :), rfl⟩
  · intro r n s x on v k hpend
    have hexec := stationStrike_strikes hpend
    have hself := State.stn_setStn (s.at x) k
    refine ⟨?_, ?_⟩
    · rintro rfl
      have hx := hself { s.stn k with outputs := v, safe := false, pend := none, lastStrike := x }
      exact ⟨_, hexec, (congrArg Station.outputs hx :), (congrArg Station.safe hx :), (congrArg Station.lastStrike hx :),
        (congrArg Station.pend hx :), rfl, rfl⟩
    · rintro rfl
      have hx := hself { (s.stn k).goSafe (s.stn k).safeNow with lastStrike := x }
      exact ⟨_, hexec, (congrArg Station.outputs hx :), (congrArg Station.safe hx :), (congrArg Station.pend hx :),
        (congrArg Station.lastStrike hx :), rfl, rfl⟩
  · intro r n s k hpresent hsafe
    have hx := State.stn_setStn (s.at ((s.stn k).lastStrike + (s.stn k).holdUs * 1000)) k
      { (s.stn k).goSafe (s.stn k).safeNow with pend := (s.stn k).pend }
    exact ⟨_, holdTimeExpiry_falls hpresent hsafe, (congrArg Station.outputs hx :), (congrArg Station.safe hx :),
      (congrArg Station.pend hx :), rfl, rfl⟩
  · intro r pos id ps s k
    obtain ⟨hself, hothers⟩ := State.stn_of_setStn s k
      { present := true, ident := id, powerSafe := ps, outputs := ps, nvStore := (s.stn k).nvStore }
    exact ⟨_, rfl, (congrArg Station.outputs hself :), (congrArg Station.ident hself :), (congrArg Station.addr hself :),
      (congrArg Station.config hself :), (congrArg Station.nvStore hself :), rfl, rfl, hothers⟩
end Sys2Proof.Machine
end

section
/-!
PROOF. Sessions: the times of the management port, ARP and ICMP (R502, R505 to R515).
-/
namespace Sys2Proof.Machine

open Host (Outcome)

@[simp] theorem canSetState_rest (s : State) (m st : Nat) :
    (canSetState s m st).now = s.now ∧ (canSetState s m st).pending = s.pending ∧ (canSetState s m st).draws = s.draws ∧
      (canSetState s m st).rdata = s.rdata ∧ (canSetState s m st).mem = s.mem ∧ (canSetState s m st).units = s.units ∧
      (canSetState s m st).objs = s.objs ∧ (canSetState s m st).prog = s.prog ∧ (canSetState s m st).img = s.img ∧
      (canSetState s m st).tsk = s.tsk ∧ (canSetState s m st).gz = s.gz ∧ (canSetState s m st).nv = s.nv ∧
      (canSetState s m st).rtc = s.rtc ∧ (canSetState s m st).wdg = s.wdg ∧ (canSetState s m st).frz = s.frz ∧
      (canSetState s m st).rcd = s.rcd ∧ (canSetState s m st).boot = s.boot ∧ (canSetState s m st).phr = s.phr ∧
      (canSetState s m st).lpe = s.lpe ∧ (canSetState s m st).trc = s.trc ∧ (canSetState s m st).nrg = s.nrg ∧
      (canSetState s m st).hsb = s.hsb ∧ (canSetState s m st).field = s.field ∧ (canSetState s m st).can = s.can ∧
      (canSetState s m st).saf = s.saf ∧ (canSetState s m st).jrn = s.jrn ∧ (canSetState s m st).stations = s.stations ∧
      (canSetState s m st).sent = s.sent := by
  unfold canSetState
  simp

@[simp] theorem canRecover_rest (s : State) (m : Nat) :
    (canRecover s m).now = s.now ∧ (canRecover s m).pending = s.pending ∧ (canRecover s m).draws = s.draws ∧
      (canRecover s m).rdata = s.rdata ∧ (canRecover s m).mem = s.mem ∧ (canRecover s m).units = s.units ∧
      (canRecover s m).objs = s.objs ∧ (canRecover s m).prog = s.prog ∧ (canRecover s m).img = s.img ∧
      (canRecover s m).tsk = s.tsk ∧ (canRecover s m).gz = s.gz ∧ (canRecover s m).nv = s.nv ∧ (canRecover s m).rtc = s.rtc ∧
      (canRecover s m).wdg = s.wdg ∧ (canRecover s m).frz = s.frz ∧ (canRecover s m).rcd = s.rcd ∧
      (canRecover s m).boot = s.boot ∧ (canRecover s m).phr = s.phr ∧ (canRecover s m).lpe = s.lpe ∧
      (canRecover s m).trc = s.trc ∧ (canRecover s m).nrg = s.nrg ∧ (canRecover s m).hsb = s.hsb ∧
      (canRecover s m).field = s.field ∧ (canRecover s m).can = s.can ∧ (canRecover s m).saf = s.saf ∧
      (canRecover s m).jrn = s.jrn ∧ (canRecover s m).stations = s.stations ∧ (canRecover s m).sent = s.sent := by
  unfold canRecover
  simp

@[simp] theorem canDisable_rest (s : State) (m : Nat) :
    (canDisable s m).now = s.now ∧ (canDisable s m).pending = s.pending ∧ (canDisable s m).draws = s.draws ∧
      (canDisable s m).rdata = s.rdata ∧ (canDisable s m).mem = s.mem ∧ (canDisable s m).units = s.units ∧
      (canDisable s m).objs = s.objs ∧ (canDisable s m).prog = s.prog ∧ (canDisable s m).img = s.img ∧
      (canDisable s m).tsk = s.tsk ∧ (canDisable s m).gz = s.gz ∧ (canDisable s m).nv = s.nv ∧ (canDisable s m).rtc = s.rtc ∧
      (canDisable s m).wdg = s.wdg ∧ (canDisable s m).frz = s.frz ∧ (canDisable s m).rcd = s.rcd ∧
      (canDisable s m).boot = s.boot ∧ (canDisable s m).phr = s.phr ∧ (canDisable s m).lpe = s.lpe ∧
      (canDisable s m).trc = s.trc ∧ (canDisable s m).nrg = s.nrg ∧ (canDisable s m).hsb = s.hsb ∧
      (canDisable s m).field = s.field ∧ (canDisable s m).saf = s.saf ∧ (canDisable s m).jrn = s.jrn ∧
      (canDisable s m).stations = s.stations ∧ (canDisable s m).sent = s.sent := by
  unfold canDisable
  dsimp only
  repeat' split
  all_goals simp

@[simp] theorem canNbtWrite_rest (s : State) (m : Nat) (w : Word) :
    (canNbtWrite s m w).now = s.now ∧ (canNbtWrite s m w).pending = s.pending ∧ (canNbtWrite s m w).draws = s.draws ∧
      (canNbtWrite s m w).rdata = s.rdata ∧ (canNbtWrite s m w).mem = s.mem ∧ (canNbtWrite s m w).units = s.units ∧
      (canNbtWrite s m w).objs = s.objs ∧ (canNbtWrite s m w).prog = s.prog ∧ (canNbtWrite s m w).img = s.img ∧
      (canNbtWrite s m w).tsk = s.tsk ∧ (canNbtWrite s m w).gz = s.gz ∧ (canNbtWrite s m w).evc = s.evc ∧
      (canNbtWrite s m w).nv = s.nv ∧ (canNbtWrite s m w).rtc = s.rtc ∧ (canNbtWrite s m w).wdg = s.wdg ∧
      (canNbtWrite s m w).frz = s.frz ∧ (canNbtWrite s m w).rcd = s.rcd ∧ (canNbtWrite s m w).boot = s.boot ∧
      (canNbtWrite s m w).phr = s.phr ∧ (canNbtWrite s m w).lpe = s.lpe ∧ (canNbtWrite s m w).trc = s.trc ∧
      (canNbtWrite s m w).nrg = s.nrg ∧ (canNbtWrite s m w).hsb = s.hsb ∧ (canNbtWrite s m w).field = s.field ∧
      (canNbtWrite s m w).can = s.can ∧ (canNbtWrite s m w).saf = s.saf ∧ (canNbtWrite s m w).jrn = s.jrn ∧
      (canNbtWrite s m w).stations = s.stations ∧ (canNbtWrite s m w).sent = s.sent := by
  unfold canNbtWrite
  simp


/-! ### Sessions, lockouts, unlocks and assemblies (R502, R506, R508, R511) -/

/-- Ending one session leaves the others. -/
theorem sessionAt_setSession (s : State) (k : Nat) (x : Option JSess) :
    sessionAt (setSession s k x) k = x ∧ ∀ j, j ≠ k → sessionAt (setSession s k x) j = sessionAt s j :=
  ⟨Tbl.get_set_same _ _ _ _, fun _ hj => Tbl.get_set_ne _ _ _ _ _ hj⟩

section
variable {s : State} (hgoes : halted s = false)
include hgoes

theorem sessionAuthTimeout_ends {k : Fin 8} {x : JSess} (hx : sessionAt s k.val = some x) (hauth : x.authed = false) :
    exec (.sessionAuthTimeout k) s = .next (setSession (s.at (x.openAt + 5000000000)) k.val none) := by
  show execSessionAuthTimeout k s = _
  simp only [execSessionAuthTimeout, hx, hauth, hgoes, Bool.or_self, Bool.false_eq_true, if_false]

omit hgoes in
theorem sessionAuthTimeout_of_authed {k : Fin 8} {x : JSess} (hx : sessionAt s k.val = some x) (hauth : x.authed = true) :
    exec (.sessionAuthTimeout k) s = .next s := by
  show execSessionAuthTimeout k s = _
  simp only [execSessionAuthTimeout, hx, hauth, Bool.true_or, if_true]

theorem sessionInactivity_ends {k : Fin 8} {x : JSess} (hx : sessionAt s k.val = some x) (hauth : x.authed = true) :
    exec (.sessionInactivity k) s = .next (setSession (s.at (x.last + x.idle * 1000000000)) k.val none) := by
  show execSessionInactivity k s = _
  simp only [execSessionInactivity, hx, hauth, hgoes, Bool.not_true, Bool.or_self, Bool.false_eq_true, if_false]

theorem addressLockoutEnd_ends {ip : Word} (hlock : s.jrn.locks.get 0 ip.toNat ≠ 0) :
    exec (.addressLockoutEnd ip) s = .next ((s.at (s.jrn.locks.get 0 ip.toNat)).modJrn fun j =>
      { j with locks := j.locks.set 0 ip.toNat 0 }) := by
  show execAddressLockoutEnd ip s = _
  simp [execAddressLockoutEnd, hlock, hgoes]

theorem unlockExpiry_ends {k : Fin 8} {x : JUnlock} (hx : s.jrn.unlocks.get none k.val = some x) :
    exec (.unlockExpiry k) s = .next ((s.at x.until_).modJrn fun j =>
      { j with unlocks := j.unlocks.set none k.val none }) := by
  show execUnlockExpiry k s = _
  simp only [execUnlockExpiry, hx, hgoes, Bool.false_eq_true, if_false]

theorem partAssemblyTimeout_ends {index : BitVec 16} {sub : Byte} {p : JPart}
    (hp : s.jrn.parts.get none (objKey index.toNat sub.toNat) = some p) :
    exec (.partAssemblyTimeout index sub) s
      = .next (setPart (s.at (p.at_ + 1000000000)) (objKey index.toNat sub.toNat) none) := by
  show execPartAssemblyTimeout index sub s = _
  simp only [execPartAssemblyTimeout, hp, hgoes, Bool.false_eq_true, if_false]

end

theorem lockedOut_of_no_lock {s : State} {ip : Word} (h : s.jrn.locks.get 0 ip.toNat = 0) : lockedOut s ip = false := by
  simp [lockedOut, h]

/-! ### ARP and ICMP (R505, R515) -/

/-- A frame for the management port is counted. -/
def State.frameCounted (s : State) : State := s.modJrn fun j => { j with rxFrames := j.rxFrames + 1 }

theorem arpRequest_answers {mac : BitVec 48} {ip target : Word} {s : State} (hup : portUp s = true) :
    exec (.arpRequest mac ip target) s
      = .next (if target = s.jrn.ip then s.frameCounted.send (.arp mac ip) else s.frameCounted) := by
  show execArpRequest mac ip target s = _
  exact (if_neg (by simp [hup])).trans (apply_ite Outcome.next _ _ _).symm

theorem icmpEcho_answers {src dst : Word} {bs : List Byte} {s : State} (hup : portUp s = true) :
    exec (.icmpEcho src dst bs) s
      = .next (if dst = s.jrn.ip then s.frameCounted.send (.icmp src bs) else s.frameCounted) := by
  show execIcmpEcho src dst bs s = _
  exact (if_neg (by simp [hup])).trans (apply_ite Outcome.next _ _ _).symm

/-- What an answer to a counted frame leaves. -/
theorem frameCounted_says (s : State) (m : Sent) (p : Prop) [Decidable p] :
    let t := if p then s.frameCounted.send m else s.frameCounted
    t.sent = (if p then m :: s.sent else s.sent) ∧ t.jrn.rxFrames = s.jrn.rxFrames + 1 ∧ t.mem = s.mem := by
  by_cases hp : p
  · simp only [hp, if_true]
    exact ⟨rfl, rfl, rfl⟩
  · simp only [hp, if_false]
    exact ⟨rfl, rfl, rfl⟩

theorem port_of_down {mac : BitVec 48} {ip target : Word} {bs : List Byte} {s : State} (hdown : portUp s = false) :
    exec (.arpRequest mac ip target) s = .next s ∧ exec (.icmpEcho ip target bs) s = .next s := by
  refine ⟨?_, ?_⟩
  · show execArpRequest mac ip target s = _
    simp [execArpRequest, hdown]
  · show execIcmpEcho ip target bs s = _
    simp [execIcmpEcho, hdown]

/-! ### The phases of the port (R515) -/

/-- A write of a CAN controller's control register leaves time, memory, start-up, Jurno and what has been sent. -/
@[simp] theorem canCtrlWrite_getD_rest (s : State) (m : Nat) (w : Word) :
    let t := (canCtrlWrite s m w).getD s
    t.now = s.now ∧ t.mem = s.mem ∧ t.nv = s.nv ∧ t.boot = s.boot ∧ t.jrn = s.jrn ∧ t.objs = s.objs ∧ t.sent = s.sent := by
  unfold canCtrlWrite
  dsimp only
  repeat' split
  all_goals simp

@[simp] theorem recallCan_rest (s : State) (m : Nat) :
    (recallCan s m).now = s.now ∧ (recallCan s m).mem = s.mem ∧ (recallCan s m).nv = s.nv ∧ (recallCan s m).boot = s.boot ∧
      (recallCan s m).jrn = s.jrn ∧ (recallCan s m).objs = s.objs ∧ (recallCan s m).sent = s.sent := by
  unfold recallCan
  simp

theorem jurnoPhaseRecall_answers {s : State} (hheld : s.boot.held = false) (hphase : s.jrn.phase = 0) :
    Answers .jurnoPhaseRecall s fun t =>
      t.jrn.phase = (if s.nv.ready then 2 else 1) ∧ t.now = max s.now (s.boot.release + 500000) ∧ t.mem = s.mem ∧
        t.sent = s.sent := by
  have hgoes : ¬(s.boot.held || decide (s.jrn.phase ≠ 0)) = true := by simp [hheld, hphase]
  refine ⟨_, (if_neg hgoes).trans rfl, ?_⟩
  simp

/-- Settles O50: each time ends what runs by it, and the port answers ARP and ICMP requests where it is up. -/
theorem sessions : Obligations.Sessions := by
  refine ⟨?_, ?_, ?_, ?_, ?_, ?_, ?_, ?_⟩
  · intro k s x hx hgoes
    refine ⟨fun hauth => ⟨_, sessionAuthTimeout_ends hgoes hx hauth, ?_⟩, sessionAuthTimeout_of_authed hx,
      fun hauth => ⟨_, sessionInactivity_ends hgoes hx hauth, ?_⟩⟩
    · obtain ⟨hself, hothers⟩ := sessionAt_setSession (s.at (x.openAt + 5000000000)) k.val none
      exact ⟨hself, hothers, rfl, rfl, rfl⟩
    · obtain ⟨hself, hothers⟩ := sessionAt_setSession (s.at (x.last + x.idle * 1000000000)) k.val none
      exact ⟨hself, hothers, rfl, rfl, rfl⟩
  · intro ip s hgoes hlock
    exact ⟨_, addressLockoutEnd_ends hgoes hlock, lockedOut_of_no_lock (Tbl.get_set_same s.jrn.locks 0 ip.toNat 0), rfl, rfl, rfl⟩
  · intro k s x hgoes hx
    exact ⟨_, unlockExpiry_ends hgoes hx, Tbl.get_set_same s.jrn.unlocks none k.val none, rfl, rfl,
      fun j hj => Tbl.get_set_ne s.jrn.unlocks none k.val j none hj⟩
  · intro index sub s p hgoes hp
    exact ⟨_, partAssemblyTimeout_ends hgoes hp, Tbl.get_set_same s.jrn.parts none (objKey index.toNat sub.toNat) none, rfl, rfl, rfl⟩
  · intro mac ip target s hup
    exact ⟨_, arpRequest_answers hup, frameCounted_says s _ _⟩
  · intro src dst bs s hup
    exact ⟨_, icmpEcho_answers hup, frameCounted_says s _ _⟩
  · intro mac ip target bs s hdown
    exact port_of_down hdown
  · intro s hheld hphase
    exact jurnoPhaseRecall_answers hheld hphase
end Sys2Proof.Machine
end

section
/-!
PROOF. JurnoGate: what a request passes before it is served (R500, R505, R507, R513, R515).
-/
namespace Sys2Proof.Machine

open Host (Outcome)

/-! ### What a request passes before it is served (R500, R505, R507, R513, R515) -/

/-- A port that is down takes no request. -/
theorem jurnoReceive_of_down {q : JReq} {s : State} (h : halted s = true ∨ s.jrn.phase = 0) : jurnoReceive s q = s := by
  rcases h with h | h <;> simp [jurnoReceive, h]

theorem ofService_of_down {q : JReq} {s : State} {svc : Nat} (h : halted s = true ∨ s.jrn.phase = 0) :
    ofService s q svc = .next s := by
  rw [ofService, jurnoReceive_of_down h, ite_self]

theorem ofService_other {q : JReq} {s : State} {svc : Nat} (h : q.msg.service.toNat ≠ svc) : ofService s q svc = .next s :=
  if_neg h

theorem ofService_of {q : JReq} {s : State} {svc : Nat} (h : q.msg.service.toNat = svc) :
    ofService s q svc = .next (jurnoReceive s q) := if_pos h

section
variable {q : JReq} {s : State} (hgoes : halted s = false) (hen : s.flag JRN_CTRL_EN = true)
include hgoes hen

section
variable (hcan : isEth q.src = false) (hup : s.jrn.phase ≠ 0)
include hcan hup

/-- A request on the CAN port meets the form, the phases and the firmware in this order. -/
theorem jurnoReceive_of_can : jurnoReceive s q =
    if msgBad q = true then discard s q
    else if s.jrn.phase = 1 then answerRetry s q 0x0102 (msLeft s (s.jrn.phaseAt + 3500000))
    else if s.jrn.phase = 2 then answerRetry s q 0x0101 (msLeft s (s.jrn.phaseAt + 40000000))
    else if s.boot.stage != .firmware then s else admitReq s q := by
  simp [jurnoReceive, hgoes, hup, hcan, hen]

theorem jurnoReceive_bad (hbad : msgBad q = true) : jurnoReceive s q = s.count32 JRN_DISCARD 1 := by
  rw [jurnoReceive_of_can hgoes hen hcan hup, if_pos hbad]
  simp [discard, hcan]

variable (hgood : msgBad q = false)
include hgood

theorem jurnoReceive_before_recall (hphase : s.jrn.phase = 1) :
    jurnoReceive s q = answerRetry s q 0x0102 (ceilDiv (s.jrn.phaseAt + 3500000 - s.now) 1000000) := by
  rw [jurnoReceive_of_can hgoes hen hcan hup, if_neg (by simp [hgood]), if_pos hphase]
  rfl

theorem jurnoReceive_before_firmware (hphase : s.jrn.phase = 2) :
    jurnoReceive s q = answerRetry s q 0x0101 (ceilDiv (s.jrn.phaseAt + 40000000 - s.now) 1000000) := by
  rw [jurnoReceive_of_can hgoes hen hcan hup, if_neg (by simp [hgood]), if_neg (by simp [hphase]), if_pos hphase]
  rfl

/-- Beyond the limits of requests in flight a request is answered, and counted. -/
theorem jurnoReceive_no_room (hphase : s.jrn.phase = 3) (hfw : s.boot.stage = .firmware) (hroom : noRoom s q.src = true) :
    jurnoReceive s q = answerRetry (s.count32 JRN_BUSYCNT 1) q 0x0101 5 := by
  rw [jurnoReceive_of_can hgoes hen hcan hup, if_neg (by simp [hgood]), if_neg (by simp [hphase]), if_neg (by simp [hphase]),
    if_neg (by simp [hfw]), admitReq]
  obtain ⟨ctrl, node, hsrc⟩ : ∃ ctrl node, q.src = .can ctrl node := by
    cases hq : q.src with
    | can ctrl node => exact ⟨ctrl, node, rfl⟩
    | eth => simp [hq, isEth] at hcan
  have hgate : gate s q = .go (canRole s ctrl.val node.toNat) none := by simp only [gate, hsrc]
  simp only [hgate, hroom, if_true]

end

/-- A request of a session that is not open is discarded, and counted as a bad frame. -/
theorem jurnoReceive_of_no_session {ip sid seq : Word} {port : BitVec 16} {tag : List Byte}
    (hsrc : q.src = .eth ip port sid seq tag) (hphase : s.jrn.phase = 3) (hgood : msgBad q = false) (hsid : sid ≠ 0)
    (hslot : sessionSlot s sid.toNat = none) :
    jurnoReceive s q = (s.frameCounted.count32 JRN_DISCARD 1).modJrn fun j => { j with badFrames := j.badFrames + 1 } := by
  have heth : isEth q.src = true := by rw [hsrc]; rfl
  have hgate : gate s.frameCounted q = .drop := by
    have hslot' : sessionSlot s.frameCounted sid.toNat = none := hslot
    simp only [gate, hsrc, if_neg (show ¬sid = 0#32 from hsid), hslot']
  have hadmit : jurnoReceive s q = admitReq s.frameCounted q := by
    have hen' : s.frameCounted.flag JRN_CTRL_EN = true := hen
    have hphase' : s.frameCounted.jrn.phase = 3 := hphase
    have hcounted : (s.modJrn fun j => { j with rxFrames := j.rxFrames + 1 }) = s.frameCounted := rfl
    simp only [jurnoReceive, hgoes, hphase, heth, hgood, hcounted, hen', hphase', if_true]
    simp
  rw [hadmit, admitReq, hgate]
  simp only [discard, heth, if_true]

end

/-- What a request of a service meets on its way. -/
def GateRow (q : JReq) (s : State) (p : Instr × Nat) : Prop :=
  (q.msg.service.toNat ≠ p.2 → exec p.1 s = .next s) ∧
  (q.msg.service.toNat = p.2 → isEth q.src = false → halted s = false → s.jrn.phase ≠ 0 → s.flag JRN_CTRL_EN = true →
    (msgBad q = true → Answers p.1 s fun t => t = s.count32 JRN_DISCARD 1 ∧ t.mem = s.mem ∧ t.objs = s.objs ∧ t.jrn = s.jrn) ∧
    (msgBad q = false → s.jrn.phase = 1 →
      exec p.1 s = .next (answerRetry s q 0x0102 (ceilDiv (s.jrn.phaseAt + 3500000 - s.now) 1000000))) ∧
    (msgBad q = false → s.jrn.phase = 2 →
      exec p.1 s = .next (answerRetry s q 0x0101 (ceilDiv (s.jrn.phaseAt + 40000000 - s.now) 1000000))) ∧
    (msgBad q = false → s.jrn.phase = 3 → s.boot.stage = .firmware → noRoom s q.src = true →
      exec p.1 s = .next (answerRetry (s.count32 JRN_BUSYCNT 1) q 0x0101 5))) ∧
  (∀ ip port sid seq tag, q.msg.service.toNat = p.2 → q.src = .eth ip port sid seq tag → halted s = false → s.jrn.phase = 3 →
    s.flag JRN_CTRL_EN = true → msgBad q = false → sid ≠ 0 → sessionSlot s sid.toNat = none →
      Answers p.1 s fun t => t.mem = s.mem ∧ t.objs = s.objs ∧ t.sent = s.sent ∧
        t.jrn.rxFrames = s.jrn.rxFrames + 1 ∧ t.jrn.badFrames = s.jrn.badFrames + 1)

theorem gateRow_of_service {q : JReq} {s : State} {i : Instr} {svc : Nat} (hexec : exec i s = ofService s q svc) :
    GateRow q s (i, svc) := by
  refine ⟨fun hother => hexec.trans (ofService_other hother), fun hsvc hcan hgoes hup hen => ⟨fun hbad => ?_, fun hgood hphase => ?_,
    fun hgood hphase => ?_, fun hgood hphase hfw hroom => ?_⟩, fun ip port sid seq tag hsvc hsrc hgoes hphase hen hgood hsid hslot => ?_⟩
  · refine ⟨_, hexec.trans ((ofService_of hsvc).trans (congrArg Outcome.next (jurnoReceive_bad hgoes hen hcan hup hbad))), rfl, ?_⟩
    simp
  · rw [hexec, ofService_of hsvc, jurnoReceive_before_recall hgoes hen hcan hup hgood hphase]
  · rw [hexec, ofService_of hsvc, jurnoReceive_before_firmware hgoes hen hcan hup hgood hphase]
  · rw [hexec, ofService_of hsvc, jurnoReceive_no_room hgoes hen hcan hup hgood hphase hfw hroom]
  · refine ⟨_, hexec.trans ((ofService_of hsvc).trans (congrArg Outcome.next
      (jurnoReceive_of_no_session hgoes hen hsrc hphase hgood hsid hslot))), ?_⟩
    simp [State.frameCounted]

/-- Settles O46: every service's command is `ofService`, whose request meets the gate in its order. -/
theorem jurnoGate : Obligations.JurnoGate := by
  refine ⟨fun q s h => ?_, fun q s => ?_⟩
  · exact
      forall_mem_cons_of (ofService_of_down h) <| forall_mem_cons_of (ofService_of_down h) <|
      forall_mem_cons_of (ofService_of_down h) <| forall_mem_cons_of (ofService_of_down h) <|
      forall_mem_cons_of (ofService_of_down h) <| forall_mem_cons_of (ofService_of_down h) <|
      forall_mem_cons_of (ofService_of_down h) <| forall_mem_cons_of (ofService_of_down h) <| List.forall_mem_nil _
  · exact
      forall_mem_cons_of (gateRow_of_service rfl) <| forall_mem_cons_of (gateRow_of_service rfl) <|
      forall_mem_cons_of (gateRow_of_service rfl) <| forall_mem_cons_of (gateRow_of_service rfl) <|
      forall_mem_cons_of (gateRow_of_service rfl) <| forall_mem_cons_of (gateRow_of_service rfl) <|
      forall_mem_cons_of (gateRow_of_service rfl) <| forall_mem_cons_of (gateRow_of_service rfl) <| List.forall_mem_nil _
end Sys2Proof.Machine
end

section
/-!
PROOF. Reads: requests that are served, and the two reads that move a reader on (R392, R500, R502, R690).
-/
namespace Sys2Proof.Machine

open Host (Outcome)

/-! ### A request that is served (R500) -/

/-- A request that passes the gate is served, once its sequence number is accepted. -/
theorem jurnoReceive_of_served {s u : State} {q : JReq} {role : Nat} (h : Served s q role u) :
    jurnoReceive s q = serve u q role := by
  obtain ⟨hgoes, h0, h1, h2, hen, hgood, hstage, -, slot, t, ht, hgate, hroom, rfl⟩ := h
  have hphase : t.jrn.phase = s.jrn.phase := by rw [ht]; split <;> rfl
  have hflag : t.flag JRN_CTRL_EN = true := by rw [ht, ← hen]; split <;> rfl
  have hboot : t.boot = s.boot := by rw [ht]; split <;> rfl
  have hserves : (!isEth q.src && t.boot.stage != .firmware) = false := by
    rw [hboot]
    rcases hstage with hfw | ⟨heth, -⟩
    · simp [hfw]
    · simp [heth]
  have hadmit : jurnoReceive s q = admitReq t q := by
    simp only [jurnoReceive, ← ht, hflag, hgood, hserves, hphase, h1, h2, hgoes]
    simp [h0]
  rw [hadmit, admitReq, hgate]
  simp only [hroom, Bool.false_eq_true, if_false]

theorem acceptSeq_boot (s : State) (slot : Option Nat) (src : JSrc) : (acceptSeq s slot src).boot = s.boot := by
  unfold acceptSeq
  split
  · split <;> rfl
  · rfl

/-- With no module of a chain addressed, the service itself is served: in the loader one that the loader serves. -/
theorem serve_of_served {s u : State} {q : JReq} {role : Nat} (h : Served s q role u) :
    (q.msg.service.toNat = svcRead → serve u q role = serveRead u q role) ∧
      (q.msg.service.toNat = svcWrite → serve u q role = serveWrite u q role) := by
  obtain ⟨-, -, -, -, -, -, hstage, htarget, slot, t, ht, -, -, rfl⟩ := h
  have hboot : (acceptSeq t slot q.src).boot = s.boot := by
    rw [acceptSeq_boot, ht]
    split <;> rfl
  have hgoes : (decide ((acceptSeq t slot q.src).boot.stage ≠ .firmware) && !(q.msg.service.toNat == svcOpen ||
      q.msg.service.toNat == svcAuth || q.msg.service.toNat == svcClose ||
      (q.msg.target == 0xFFFF#16 && (q.msg.index == 0x1000#16 || q.msg.index == 0x1040#16)))) = false := by
    rw [hboot, htarget]
    rcases hstage with hfw | ⟨-, hserves⟩
    · simp [hfw]
    · rw [loaderServes] at hserves
      simp only [beq_self_eq_true, Bool.true_and, ← Bool.or_assoc, hserves, Bool.not_true, Bool.and_false]
  unfold serve
  dsimp only
  rw [if_neg (ne_true_of_eq_false hgoes), if_neg (not_not.mpr htarget)]
  refine ⟨fun hsvc => if_pos hsvc, fun hsvc => ?_⟩
  rw [if_neg (by rw [hsvc]; decide), if_pos hsvc]

theorem objectCommand_of {s : State} {q : JReq} {ok : Bool} (h : ok = true) : objectCommand s q ok = .next (jurnoReceive s q) :=
  if_pos h

theorem objectCommand_other {s : State} {q : JReq} {ok : Bool} (h : ok = false) : objectCommand s q ok = .next s :=
  if_neg (Bool.eq_false_iff.mp h)

/-! ### Reads that move on (R392, R502, R690) -/

/-- The offset that a READ starts at, and the bytes that it wants at most. -/
def readOff (q : JReq) : Nat := if bit q.msg.flags.toNat 1 then q.msg.offset.toNat else 0
def readMax (q : JReq) : Nat := if bit q.msg.flags.toNat 1 then q.msg.len.toNat else 1024

/-- A READ of a value that does not move on of itself: the reader is moved where the answer reaches the end. -/
theorem serveRead_whole {u : State} {q : JReq} {role : Nat} {v : List Byte} {t : State}
    (hst : readStatus u role q.msg.index.toNat q.msg.sub.toNat = 0)
    (hval : readValue u q.src q.msg.index.toNat q.msg.sub.toNat = (v, t))
    (hobj : ¬(0x7010 ≤ q.msg.index.toNat ∧ q.msg.index.toNat < 0x7018 ∧ q.msg.sub.toNat = 0x12)) (hoff : readOff q ≤ v.length) :
    serveRead u q role = reply (if v.length ≤ readOff q + readMax q then t else u)
      (engineObject u q.msg.index.toNat q.msg.sub.toNat) q role
      (msgAnswer q.msg 0 (slice v (readOff q) (readMax q))
        (b2n (decide (v.length ≤ readOff q + readMax q)) + 2 * b2n (bit q.msg.flags.toNat 1))) := by
  unfold readOff readMax at *
  simp only [serveRead, hst, hval, ne_eq, not_true_eq_false, if_false, if_neg (Nat.not_lt.mpr hoff), if_neg hobj,
    decide_eq_true_eq]

/-- A READ of captured trace bytes moves the reader on by the bytes answered. -/
theorem serveRead_trace {u : State} {q : JReq} {role : Nat} {v : List Byte} {t : State}
    (hst : readStatus u role q.msg.index.toNat q.msg.sub.toNat = 0)
    (hval : readValue u q.src q.msg.index.toNat q.msg.sub.toNat = (v, t))
    (hobj : 0x7010 ≤ q.msg.index.toNat ∧ q.msg.index.toNat < 0x7018 ∧ q.msg.sub.toNat = 0x12) (hoff : readOff q ≤ v.length) :
    serveRead u q role = reply (trcAdvance u (q.msg.index.toNat - 0x7010) (slice v (readOff q) (readMax q)).length)
      (engineObject u q.msg.index.toNat q.msg.sub.toNat) q role
      (msgAnswer q.msg 0 (slice v (readOff q) (readMax q))
        (b2n (decide (v.length ≤ readOff q + readMax q)) + 2 * b2n (bit q.msg.flags.toNat 1))) := by
  unfold readOff readMax at *
  simp only [serveRead, hst, hval, ne_eq, not_true_eq_false, if_false, if_neg (Nat.not_lt.mpr hoff), if_pos hobj]

theorem readValue_record {u : State} {src : JSrc} {index sub : Nat} (hindex : index = 0x1C21) (hsub : sub = 2) :
    readValue u src index sub = match recNext u (readKey src) with
      | none => ([], u)
      | some r => (r.2, recRead u (readKey src) r.1) := by
  subst hindex hsub
  rfl

theorem readValue_trace {u : State} {src : JSrc} {index sub : Nat} (h : 0x7010 ≤ index ∧ index < 0x7018 ∧ sub = 0x12) :
    readValue u src index sub = (trcRead u (index - 0x7010), u) := by
  obtain ⟨h1, h2, h3⟩ := h
  rw [readValue, if_neg (by omega), if_neg (by omega), if_pos ⟨h1, h2, h3⟩]

theorem names_iff {q : JReq} {svc index sub : Nat} :
    names q svc index sub = true ↔ q.msg.service.toNat = svc ∧ q.msg.index.toNat = index ∧ q.msg.sub.toNat = sub := by
  simp [names, and_assoc]

theorem namesOf_iff {q : JReq} {svc index n sub : Nat} :
    namesOf q svc index n sub = true ↔ q.msg.service.toNat = svc ∧ index ≤ q.msg.index.toNat ∧ q.msg.index.toNat < index + n ∧
      q.msg.sub.toNat = sub := by
  simp [namesOf, and_assoc]

/-- Settles O49: a served READ of the reader's object answers by `serveRead`, which steps the reader on. -/
theorem readsThatMoveOn : Obligations.ReadsThatMoveOn := by
  rintro q s u role off n hserved hoff hn index sub gives
  obtain rfl : off = readOff q := hoff
  obtain rfl : n = readMax q := hn
  obtain ⟨hread, -⟩ := serve_of_served hserved
  refine ⟨fun r hname hst hnext hlen => ?_, fun hname hst hnext hlen => ?_, fun hname => objectCommand_other hname, ?_,
    fun hname => objectCommand_other hname⟩
  · obtain ⟨hsvc, hindex, hsub⟩ := names_iff.mp hname
    refine (objectCommand_of hname).trans (congrArg Outcome.next ?_)
    rw [jurnoReceive_of_served hserved, hread hsvc]
    exact serveRead_whole hst (by rw [readValue_record hindex hsub, hnext]) (by omega) hlen
  · obtain ⟨hsvc, hindex, hsub⟩ := names_iff.mp hname
    refine (objectCommand_of hname).trans (congrArg Outcome.next ?_)
    rw [jurnoReceive_of_served hserved, hread hsvc,
      serveRead_whole hst (by rw [readValue_record hindex hsub, hnext]) (by omega) (by simp [hlen]), ite_self]
    simp only [gives, ite_self]
    rfl
  · rintro v rfl hname hst hlen
    obtain ⟨hsvc, hlo, hhi, hsub⟩ := namesOf_iff.mp hname
    have hobj : 0x7010 ≤ q.msg.index.toNat ∧ q.msg.index.toNat < 0x7018 ∧ q.msg.sub.toNat = 0x12 := ⟨hlo, hhi, hsub⟩
    refine (objectCommand_of hname).trans (congrArg Outcome.next ?_)
    rw [jurnoReceive_of_served hserved, hread hsvc]
    exact serveRead_trace hst (readValue_trace hobj) hobj hlen
end Sys2Proof.Machine
end

section
/-!
PROOF. ObjectCommands: the commands that are writes of a dictionary object (R486, R499, R502 and the rules of each object).
-/
namespace Sys2Proof.Machine

open Host (Outcome)

/-! ### A write that is served (R486, R499, R502) -/

/-- The last part of a value, or a value that is whole, is written as a whole. -/
theorem serveWrite_of_whole {u0 u : State} {q : JReq} {role : Nat} {bs : List Byte} (h : wholeValue u0 q = some (u, bs)) :
    serveWrite u0 q role = writeWhole u q role bs := by
  unfold wholeValue at h
  unfold serveWrite
  by_cases hpart : bit q.msg.flags.toNat 1 = true
  · rw [if_pos hpart]
    by_cases hlast : bit q.msg.flags.toNat 0 = true
    · simp only [hpart, hlast, Bool.true_eq_false, if_false] at h
      unfold writePart
      split at h
      · rename_i hnone
        split at h
        · rename_i hoff
          obtain ⟨rfl, rfl⟩ := Prod.mk.inj (Option.some.inj h)
          simp only [hnone, hoff, hlast, if_true, List.nil_append]
        · cases h
      · rename_i p hsome
        split at h
        · rename_i hok
          obtain ⟨rfl, rfl⟩ := Prod.mk.inj (Option.some.inj h)
          obtain ⟨hsrc, hoff, hne⟩ := hok
          simp only [hsome, hsrc, hoff, hlast, if_true, Bool.not_true, Bool.false_eq_true, if_false, true_and]
          rw [if_pos (by simpa using hne)]
        · cases h
    · simp only [hpart, hlast, Bool.true_eq_false, if_false] at h
      simp at h
  · simp only [hpart, if_true] at h
    obtain ⟨rfl, rfl⟩ := Prod.mk.inj (Option.some.inj h)
    rw [if_neg hpart]

/-- A whole value ends with the request's data; where it is as long, it is the data. -/
theorem data_of_whole {u0 u : State} {q : JReq} {bs : List Byte} (h : wholeValue u0 q = some (u, bs))
    (hlen : bs.length = q.msg.data.length) : bs = q.msg.data := by
  have hends : ∃ before, bs = before ++ q.msg.data := by
    unfold wholeValue at h
    dsimp only at h
    split at h
    · exact ⟨[], (Prod.mk.inj (Option.some.inj h)).2.symm⟩
    · split at h
      · cases h
      · split at h
        · split at h
          · exact ⟨[], (Prod.mk.inj (Option.some.inj h)).2.symm⟩
          · cases h
        · rename_i p _
          split at h
          · exact ⟨p.bytes, (Prod.mk.inj (Option.some.inj h)).2.symm⟩
          · cases h
  obtain ⟨before, rfl⟩ := hends
  have hnil : before = [] := by simpa using hlen
  rw [hnil, List.nil_append]

/-- A write that passes its checks has the object's effect, and is stored and answered as the object is. -/
theorem writeWhole_passes {u : State} {q : JReq} {role : Nat} {bs : List Byte} {d : ObjDef}
    (hst : writeStatus u q role q.msg.index.toNat q.msg.sub.toNat bs = 0)
    (hdef : defOf u q.msg.index.toNat q.msg.sub.toNat = some d) (hfree : blocked u q.msg.index.toNat q.msg.sub.toNat d = false) :
    writeWhole u q role bs =
      afterWrite u q role d bs (objEffect u (some q) role q.msg.index.toNat q.msg.sub.toNat d bs) := by
  unfold writeWhole
  simp only [hst, hdef, ne_eq, not_true_eq_false, if_false]
  unfold objAccept afterWrite
  generalize objEffect u (some q) role q.msg.index.toNat q.msg.sub.toNat d bs = e
  obtain ⟨t, st⟩ := e
  rcases st with - | - | st
  · rfl
  · simp only [hfree, if_false, Bool.false_eq_true, ne_eq, not_true_eq_false]
    by_cases hp : (!d.persistent) = true
    · simp only [hp, if_true]
    · by_cases he : d.engine = true
      · simp only [hp, he, if_true, if_false, Bool.false_eq_true]
      · simp only [hp, he, if_false, Bool.false_eq_true]
  · rfl

/-- What a write that passes its checks has shown of its length. -/
theorem lenOk_of_writeStatus {u : State} {q : JReq} {role index sub : Nat} {bs : List Byte} {d : ObjDef}
    (hst : writeStatus u q role index sub bs = 0) (hdef : defOf u index sub = some d) (hedit : index ≠ 0x4101) :
    lenOk index sub d bs = true := by
  by_contra hlen
  unfold writeStatus at hst
  simp only [hdef, if_neg hedit] at hst
  split at hst
  · contradiction
  · split at hst
    · cases hst
    · split at hst
      · cases hst
      · split at hst
        · cases hst
        · rw [if_pos (by simpa using hlen)] at hst
          cases hst

/-- The bytes of a value of fixed length that has passed its checks are the request's data, where those have the length. -/
theorem bytes_of_checked {u0 u : State} {q : JReq} {role n v : Nat} {bs : List Byte} {d : ObjDef} (hwhole : wholeValue u0 q = some (u, bs))
    (hst : writeStatus u q role q.msg.index.toNat q.msg.sub.toNat bs = 0)
    (hdef : defOf u q.msg.index.toNat q.msg.sub.toNat = some d) (hedit : q.msg.index.toNat ≠ 0x4101)
    (hbytes : typeBytes d.typ = n) (hn : n ≠ 0) (hdata : q.msg.data = toLE n v) : bs = toLE n v := by
  have hlen := lenOk_of_writeStatus hst hdef hedit
  rw [lenOk, if_pos (by rw [hbytes]; exact hn), hbytes, beq_iff_eq] at hlen
  rw [← hdata]
  exact data_of_whole hwhole (by rw [hlen, hdata, length_toLE])

/-! ### The objects of the commands -/

/-- Where the first class of a list that meets a range of indexes covers it, it is the class of each of them. -/
theorem findClass_of_find {cs : List ObjClass} {lo hi index : Nat} {c : ObjClass}
    (hfind : cs.find? (fun x => decide (x.base < hi ∧ lo < x.base + x.count)) = some c) (hlo : c.base ≤ lo)
    (hhi : hi ≤ c.base + c.count) (h1 : lo ≤ index) (h2 : index < hi) : findClass cs index = some c := by
  induction cs with
  | nil => cases hfind
  | cons x rest ih =>
    rw [List.find?_cons] at hfind
    unfold findClass
    split at hfind
    · obtain rfl := Option.some.inj hfind
      exact if_pos ⟨by omega, by omega⟩
    · rename_i hmiss
      rw [if_neg (by simp only [decide_eq_false_iff_not] at hmiss; omega)]
      exact ih hfind

/-- Where an object's value lives, and its length, 0 for one of any length. -/
def homeOf (d : ObjDef) : ObjHome × Nat := (d.home, typeBytes d.typ)

/-- An object whose definition depends on no value of the state. -/
theorem defOf_fixed {s : State} {index sub : Nat} (happ : index < 0x8000) (hgroup : groupIndex index = false)
    (hfactory : factoryIndex index = false) (hsub : sub ≠ 0) : defOf s index sub = objDefAt index sub := by
  have hhead : headSub s index sub = none := by rw [headSub, if_pos hsub]
  unfold defOf
  simp only [hhead, Option.map_none, Option.isSome_none, Bool.false_and, Bool.false_eq_true, if_false,
    if_neg (Nat.not_le.mpr happ), hgroup, hfactory]

/-- An object that every module has, with where it lives and its length. -/
def fixedAt (index sub : Nat) (h : ObjHome × Nat) : Bool :=
  (objDefAt index sub).map homeOf == some h && decide (index < 0x8000) && !groupIndex index && !factoryIndex index && sub != 0

theorem defOf_of_fixedAt {s : State} {index sub : Nat} {h : ObjHome × Nat} (hfix : fixedAt index sub h = true) :
    (defOf s index sub).map homeOf = some h := by
  simp only [fixedAt, Bool.and_eq_true, beq_iff_eq, decide_eq_true_eq, Bool.not_eq_true', bne_iff_ne] at hfix
  obtain ⟨⟨⟨⟨hdef, happ⟩, hgroup⟩, hfactory⟩, hsub⟩ := hfix
  rw [defOf_fixed happ hgroup hfactory hsub, hdef]

/-- The objects that the commands name by one index, and those that they name by one of several. -/
def commandObjects : List (Nat × Nat × ObjHome × Nat) := [
  (0x1031, 1, .calc, 0), (0x1040, 1, .calc, 1), (0x1040, 3, .calc, 0), (0x1400, 0x0E, .calc, 2), (0x1800, 7, .calc, 1),
  (0x1C10, 2, .calc, 1), (0x1C20, 0x0B, .calc, 4), (0x1E00, 1, .calc, 8), (0x1E01, 1, .calc, 0), (0x1E01, 2, .calc, 1),
  (0x1F00, 1, .field NVM_PROT_LEVEL 0, 1), (0x3FFF, 1, .calc, 1), (0x4021, 2, .calc, 1), (0x4022, 3, .calc, 1),
  (0x4022, 5, .calc, 0), (0x4100, 7, .calc, 1), (0x4100, 8, .calc, 1), (0x4101, 1, .calc, 0), (0x4102, 1, .calc, 0),
  (0x4102, 2, .calc, 1), (0x7100, 3, .calc, 1), (0x7150, 4, .field AIO_TRIM_EN 0, 1), (0x7300, 2, .calc, 0), (0x7300, 4, .calc, 4),
  (0x7300, 7, .calc, 1)]

def rangeObjects : List (Nat × Nat × Nat × ObjHome × Nat) := [
  (0x7010, 8, 0x0D, .calc, 1), (0x7140, 8, 0x0E, .store, 4), (0x7140, 8, 0x0F, .store, 4), (0x7200, 2, 0x0A, .calc, 1),
  (0x7310, 8, 0x0F, .calc, 1)]

theorem commandObjects_fixed : (∀ p ∈ commandObjects, fixedAt p.1 p.2.1 p.2.2 = true) ∧
    (∀ p ∈ rangeObjects, ∀ k ∈ List.range p.2.1, fixedAt (p.1 + k) p.2.2.1 p.2.2.2 = true) ∧
    (objClasses.find? fun x => decide (x.base < 0x7000 ∧ 0x6000 < x.base + x.count)).any fun c =>
      decide (c.base ≤ 0x6000 ∧ 0x7000 ≤ c.base + c.count ∧
        ∀ w : Fin 32, (findSub c.subs (w.val + 1)).map homeOf = some (.loop, 4)) := by decide +kernel

theorem defOf_command (s : State) {index sub : Nat} {h : ObjHome × Nat} (hmem : (index, sub, h) ∈ commandObjects) :
    (defOf s index sub).map homeOf = some h :=
  defOf_of_fixedAt (commandObjects_fixed.1 _ hmem)

theorem defOf_range (s : State) {base n index sub : Nat} {h : ObjHome × Nat} (hmem : (base, n, sub, h) ∈ rangeObjects)
    (hlo : base ≤ index) (hhi : index < base + n) : (defOf s index sub).map homeOf = some h := by
  obtain ⟨k, rfl⟩ := Nat.exists_eq_add_of_le hlo
  exact defOf_of_fixedAt (commandObjects_fixed.2.1 _ hmem k (List.mem_range.mpr (show k < n by omega)))

theorem defOf_loop (s : State) (n : Fin 4096) (w : Fin 32) :
    (defOf s (0x6000 + n.val) (w.val + 1)).map homeOf = some (.loop, 4) := by
  obtain ⟨-, -, hclass⟩ := commandObjects_fixed
  cases hfind : objClasses.find? fun x => decide (x.base < 0x7000 ∧ 0x6000 < x.base + x.count) with
  | none => rw [hfind] at hclass; cases hclass
  | some c =>
    rw [hfind, Option.any_some, decide_eq_true_eq] at hclass
    obtain ⟨hlo, hhi, hsubs⟩ := hclass
    have hn := n.isLt
    have hat : objDefAt (0x6000 + n.val) (w.val + 1) = findSub c.subs (w.val + 1) := by
      rw [objDefAt, objClassAt, if_neg (by omega), findClass_of_find hfind hlo hhi (by omega) (by omega)]
    have hgroup : groupIndex (0x6000 + n.val) = false := by simp only [groupIndex, Bool.and_eq_false_iff, decide_eq_false_iff_not]; omega
    have hfactory : factoryIndex (0x6000 + n.val) = false := by
      simp only [factoryIndex, Bool.and_eq_false_iff, decide_eq_false_iff_not]
      omega
    rw [defOf_fixed (by omega) hgroup hfactory (Nat.succ_ne_zero _), hat, hsubs w]

/-! ### The effect of an object's write -/

section
variable {s : State} {q : Option JReq} {role index sub : Nat} {d : ObjDef} {bs : List Byte}

theorem objEffect_calc1 (h : index < 0x3000) (hd : d.home = .calc) :
    objEffect s q role index sub d bs = calcWrite1 s q role index sub bs := by
  unfold objEffect
  simp only [hd, if_neg (show ¬0x8000 ≤ index by omega), if_pos h]

theorem objEffect_calc4 (hlo : 0x4000 ≤ index) (hhi : index < 0x5000) (hedit : index ≠ 0x4101) (hd : d.home = .calc) :
    objEffect s q role index sub d bs = ((calcWrite4 s index sub bs).1, some (calcWrite4 s index sub bs).2) := by
  unfold objEffect
  simp only [hd, if_neg (show ¬0x8000 ≤ index by omega), if_neg (show ¬index < 0x3000 by omega),
    if_neg (show ¬index < 0x4000 by omega), if_neg hedit, if_pos hhi]

theorem objEffect_calc7 (hlo : 0x5000 ≤ index) (hhi : index < 0x8000) (hd : d.home = .calc) :
    objEffect s q role index sub d bs = ((calcWrite7 s index sub bs).1, some (calcWrite7 s index sub bs).2) := by
  unfold objEffect
  simp only [hd, if_neg (show ¬0x8000 ≤ index by omega), if_neg (show ¬index < 0x3000 by omega),
    if_neg (show ¬index < 0x4000 by omega), if_neg (show ¬index = 0x4101 by omega), if_neg (show ¬index < 0x5000 by omega)]

theorem objEffect_clear (hd : d.home = .calc) : objEffect s q role 0x3FFF sub d bs = (clearCalibration s, some 0) := by
  unfold objEffect
  simp only [hd]
  rfl

theorem objEffect_edit {r : JReq} (hd : d.home = .calc) :
    objEffect s (some r) role 0x4101 sub d bs = (s.modJrn fun j => { j with edits := j.edits ++ [⟨r, role, bs⟩] }, none) := by
  unfold objEffect
  simp only [hd]
  rfl

theorem objEffect_store (hhi : index < 0x8000) (hd : d.home = .store) :
    objEffect s q role index sub d bs = ((storeWrite s index sub bs).1, some (storeWrite s index sub bs).2) := by
  unfold objEffect
  simp only [hd, if_neg (Nat.not_le.mpr hhi)]

theorem objEffect_loop {n : Nat} (hn : n < 0x1000) (hd : d.home = .loop) :
    objEffect s q role (0x6000 + n) sub d bs =
      ((loopWrite s n sub (toWord (fromLE bs))).1, some (loopWrite s n sub (toWord (fromLE bs))).2) := by
  unfold objEffect
  simp only [hd, if_neg (show ¬0x8000 ≤ 0x6000 + n by omega), Nat.add_sub_cancel_left]

theorem objEffect_trim {f : Fld} {k : Nat} (hd : d.home = .field f k) :
    objEffect s q role 0x7150 4 d bs = ((trimObject s 4 (fromLE bs)).1, some (trimObject s 4 (fromLE bs)).2) := by
  unfold objEffect
  simp only [hd]
  rfl

/-- A write of the protection level is that of its register. -/
theorem objEffect_protection (hd : d.home = .field NVM_PROT_LEVEL 0) :
    objEffect s q role 0x1F00 1 d bs = match engineWrite s NVM_PROT_LEVEL NVM_PROT (fromLE bs) with
      | some t => (t, some 0)
      | none => (s, some 0x0701) := by
  unfold objEffect
  simp only [hd]
  have hfield : fieldWrite s 0x1F00 1 NVM_PROT_LEVEL NVM_PROT (fromLE bs) =
      match engineWrite s NVM_PROT_LEVEL NVM_PROT (fromLE bs) with
      | some t => (t, 0)
      | none => (s, 0x0701) := rfl
  have haddr : NVM_PROT_LEVEL.addr + 0 * (0x1F00 - ((objClassAt 0x1F00).map (·.base)).getD 0x1F00) = NVM_PROT := by
    rw [Nat.zero_mul]
    rfl
  rw [if_neg (by decide), haddr, hfield]
  cases engineWrite s NVM_PROT_LEVEL NVM_PROT (fromLE bs) <;> rfl

end

/-! ### The commands -/

/-- What a command that is a write of an object says: nothing for another request, and for one that passes its checks its effect. -/
def ObjectRow (q : JReq) (s u0 u : State) (bs : List Byte) (role : Nat) (p : Instr × Bool × State × Option Nat) : Prop :=
  (p.2.1 = false → exec p.1 s = .next s) ∧
  (∀ d, Served s q role u0 → wholeValue u0 q = some (u, bs) → writeStatus u q role q.msg.index.toNat q.msg.sub.toNat bs = 0 →
    defOf u q.msg.index.toNat q.msg.sub.toNat = some d → blocked u q.msg.index.toNat q.msg.sub.toNat d = false → p.2.1 = true →
    exec p.1 s = .next (afterWrite u q role d bs p.2.2))

section
variable {q : JReq} {s u0 u : State} {bs : List Byte} {role : Nat} {i : Instr} {ok : Bool} {e : State × Option Nat}
variable {home : ObjHome} {n : Nat}

theorem objectRow (hexec : exec i s = objectCommand s q ok) (hsvc : ok = true → q.msg.service.toNat = svcWrite)
    (heff : ok = true → ∀ d, wholeValue u0 q = some (u, bs) →
      writeStatus u q role q.msg.index.toNat q.msg.sub.toNat bs = 0 → defOf u q.msg.index.toNat q.msg.sub.toNat = some d →
      objEffect u (some q) role q.msg.index.toNat q.msg.sub.toNat d bs = e) : ObjectRow q s u0 u bs role (i, ok, e) := by
  refine ⟨fun hother => hexec.trans (objectCommand_other hother), fun d hserved hwhole hst hdef hfree hok => ?_⟩
  obtain ⟨-, hwrite⟩ := serve_of_served hserved
  rw [hexec, objectCommand_of hok, jurnoReceive_of_served hserved, hwrite (hsvc hok), serveWrite_of_whole hwhole,
    writeWhole_passes hst hdef hfree, heff hok d hwhole hst hdef]

theorem home_of_defOf {index sub : Nat} {d : ObjDef} (hhome : (defOf u index sub).map homeOf = some (home, n))
    (hdef : defOf u index sub = some d) : d.home = home ∧ typeBytes d.typ = n := by
  rw [hdef] at hhome
  exact Prod.mk.inj (Option.some.inj hhome)

/-- A command that names one object, whatever value is written. -/
theorem objectRow_names {index sub : Nat} (hexec : exec i s = objectCommand s q (names q svcWrite index sub))
    (hmem : (index, sub, home, n) ∈ commandObjects)
    (heff : ∀ d, d.home = home → objEffect u (some q) role index sub d bs = e) :
    ObjectRow q s u0 u bs role (i, names q svcWrite index sub, e) := by
  refine objectRow hexec (fun hok => (names_iff.mp hok).1) fun hok d _ _ hdef => ?_
  obtain ⟨-, hindex, hsub⟩ := names_iff.mp hok
  rw [hindex, hsub] at hdef ⊢
  exact heff d (home_of_defOf (defOf_command u hmem) hdef).1

/-- A command that writes one byte of a given value to one object. -/
theorem objectRow_writes {index sub v : Nat} (hexec : exec i s = objectCommand s q (writes q index sub v))
    (hmem : (index, sub, home, 1) ∈ commandObjects) (hedit : index ≠ 0x4101)
    (heff : ∀ d, d.home = home → objEffect u (some q) role index sub d (toLE 1 v) = e) :
    ObjectRow q s u0 u bs role (i, writes q index sub v, e) := by
  have hsplit (hok : writes q index sub v = true) : names q svcWrite index sub = true ∧ q.msg.data = toLE 1 v := by
    simpa [writes] using hok
  refine objectRow hexec (fun hok => (names_iff.mp (hsplit hok).1).1) fun hok d hwhole hst hdef => ?_
  obtain ⟨hname, hdata⟩ := hsplit hok
  obtain ⟨-, hindex, hsub⟩ := names_iff.mp hname
  have hdef' := hdef
  rw [hindex, hsub] at hdef'
  obtain ⟨hhome, hbytes⟩ := home_of_defOf (defOf_command u hmem) hdef'
  rw [bytes_of_checked hwhole hst hdef (by rw [hindex]; exact hedit) hbytes one_ne_zero hdata, hindex, hsub]
  exact heff d hhome

/-- A command that names one of several objects. -/
theorem objectRow_namesOf {base count sub : Nat} (hexec : exec i s = objectCommand s q (namesOf q svcWrite base count sub))
    (hmem : (base, count, sub, home, n) ∈ rangeObjects)
    (heff : ∀ d, d.home = home → base ≤ q.msg.index.toNat → q.msg.index.toNat < base + count →
      objEffect u (some q) role q.msg.index.toNat sub d bs = e) :
    ObjectRow q s u0 u bs role (i, namesOf q svcWrite base count sub, e) := by
  refine objectRow hexec (fun hok => (namesOf_iff.mp hok).1) fun hok d _ _ hdef => ?_
  obtain ⟨-, hlo, hhi, hsub⟩ := namesOf_iff.mp hok
  rw [hsub] at hdef ⊢
  exact heff d (home_of_defOf (defOf_range u hmem hlo hhi) hdef).1 hlo hhi

/-- A command that writes one byte of a given value to one of several objects. -/
theorem objectRow_writesOf {base count sub v : Nat}
    (hexec : exec i s = objectCommand s q (namesOf q svcWrite base count sub && q.msg.data == toLE 1 v))
    (hmem : (base, count, sub, home, 1) ∈ rangeObjects) (hedit : 0x4101 < base)
    (heff : ∀ d, d.home = home → base ≤ q.msg.index.toNat → q.msg.index.toNat < base + count →
      objEffect u (some q) role q.msg.index.toNat sub d (toLE 1 v) = e) :
    ObjectRow q s u0 u bs role (i, namesOf q svcWrite base count sub && q.msg.data == toLE 1 v, e) := by
  have hsplit (hok : (namesOf q svcWrite base count sub && q.msg.data == toLE 1 v) = true) :
      namesOf q svcWrite base count sub = true ∧ q.msg.data = toLE 1 v := by
    simpa using hok
  refine objectRow hexec (fun hok => (namesOf_iff.mp (hsplit hok).1).1) fun hok d hwhole hst hdef => ?_
  obtain ⟨hname, hdata⟩ := hsplit hok
  obtain ⟨-, hlo, hhi, hsub⟩ := namesOf_iff.mp hname
  have hdef' := hdef
  rw [hsub] at hdef'
  obtain ⟨hhome, hbytes⟩ := home_of_defOf (defOf_range u hmem hlo hhi) hdef'
  rw [bytes_of_checked hwhole hst hdef (by omega) hbytes one_ne_zero hdata, hsub]
  exact heff d hhome hlo hhi

theorem objectRow_loop {k : Fin 4096} {w : Fin 32} {value : Word} :
    ObjectRow q s u0 u bs role (.loopRecordWrite (.jurno q) k w value,
      names q svcWrite (0x6000 + k.val) (w.val + 1) && q.msg.data == toLE 4 value.toNat,
      (loopWrite u k.val (w.val + 1) value).1, some (loopWrite u k.val (w.val + 1) value).2) := by
  have hsplit (hok : (names q svcWrite (0x6000 + k.val) (w.val + 1) && q.msg.data == toLE 4 value.toNat) = true) :
      names q svcWrite (0x6000 + k.val) (w.val + 1) = true ∧ q.msg.data = toLE 4 value.toNat := by
    simpa using hok
  refine objectRow rfl (fun hok => (names_iff.mp (hsplit hok).1).1) fun hok d hwhole hst hdef => ?_
  obtain ⟨hname, hdata⟩ := hsplit hok
  obtain ⟨-, hindex, hsub⟩ := names_iff.mp hname
  have hdef' := hdef
  rw [hindex, hsub] at hdef'
  obtain ⟨hhome, hbytes⟩ := home_of_defOf (defOf_loop u k w) hdef'
  rw [bytes_of_checked hwhole hst hdef (by omega) hbytes (by decide) hdata, hindex, hsub, objEffect_loop k.isLt hhome, toWord,
    fromLE_toLE_word value (k := 4) (by decide)]

end

/-- A write of 0x0D of a trace object is the command. -/
theorem objEffect_trace {s : State} {q : Option JReq} {role index v : Nat} {d : ObjDef} {bs : List Byte} (hd : d.home = .calc)
    (hlo : 0x7010 ≤ index) (hhi : index < 0x7010 + 8) (hv : fromLE bs = v) :
    objEffect s q role index 0x0D d bs = (trcCommand s (index - 0x7010) v, some 0) := by
  rw [objEffect_calc7 (by omega) (by omega) hd]
  unfold calcWrite7
  simp only [if_neg (show ¬index < 0x5014 by omega), if_neg (show ¬index = 0x7000 by omega), if_pos (show index < 0x7018 by omega),
    trcObject, if_true, hv]

theorem objEffect_busOff {s : State} {q : Option JReq} {role index sub : Nat} {d : ObjDef} {bs : List Byte} (hd : d.home = .calc)
    (hlo : 0x7200 ≤ index) (hhi : index < 0x7200 + 2) :
    objEffect s q role index sub d bs = (canRecover s (index - 0x7200), some 0) := by
  rw [objEffect_calc7 (by omega) (by omega) hd]
  unfold calcWrite7
  simp only [if_neg (show ¬index < 0x5014 by omega), if_neg (show ¬index = 0x7000 by omega), if_neg (show ¬index < 0x7018 by omega),
    if_neg (show ¬index = 0x7100 by omega), if_pos (show index < 0x7202 by omega)]

theorem objEffect_axis {s : State} {q : Option JReq} {role index sub : Nat} {d : ObjDef} {bs : List Byte} (hd : d.home = .calc)
    (hlo : 0x7310 ≤ index) (hhi : index < 0x7310 + 8) :
    objEffect s q role index sub d bs = ((axisResetCmd s (index - 0x7310)).1, some (axisResetCmd s (index - 0x7310)).2) := by
  rw [objEffect_calc7 (by omega) (by omega) hd]
  unfold calcWrite7
  simp only [if_neg (show ¬index < 0x5014 by omega), if_neg (show ¬index = 0x7000 by omega), if_neg (show ¬index < 0x7018 by omega),
    if_neg (show ¬index = 0x7100 by omega), if_neg (show ¬index < 0x7202 by omega), if_neg (show ¬index = 0x7300 by omega)]

/-- Settles O48: each row is a write of its object, whose effect is the row's. -/
theorem objectCommands : Obligations.ObjectCommands := by
  intro q s u0 u bs role n w value index sub v st ok
  exact
    forall_mem_cons_of (objectRow_writes rfl (by decide) (by decide) fun _ hd => objEffect_calc4 (by decide) (by decide) (by decide) hd) <|
    forall_mem_cons_of (objectRow_writes rfl (by decide) (by decide) fun _ hd => objEffect_calc4 (by decide) (by decide) (by decide) hd) <|
    forall_mem_cons_of (objectRow_writes rfl (by decide) (by decide) fun _ hd => objEffect_calc4 (by decide) (by decide) (by decide) hd) <|
    forall_mem_cons_of (objectRow_names (n := 0) rfl (by decide) fun _ hd => objEffect_calc4 (by decide) (by decide) (by decide) hd) <|
    forall_mem_cons_of (objectRow_writes rfl (by decide) (by decide) fun _ hd => objEffect_calc4 (by decide) (by decide) (by decide) hd) <|
    forall_mem_cons_of (objectRow_names (n := 1) rfl (by decide) fun _ hd => objEffect_calc4 (by decide) (by decide) (by decide) hd) <|
    forall_mem_cons_of (objectRow_names (n := 1) rfl (by decide) fun _ hd => objEffect_calc4 (by decide) (by decide) (by decide) hd) <|
    forall_mem_cons_of (objectRow_names (n := 0) rfl (by decide) fun _ hd => objEffect_edit hd) <|
    forall_mem_cons_of (objectRow_names (n := 0) rfl (by decide) fun _ hd => objEffect_calc4 (by decide) (by decide) (by decide) hd) <|
    forall_mem_cons_of (objectRow_writes rfl (by decide) (by decide) fun _ hd => objEffect_calc4 (by decide) (by decide) (by decide) hd) <|
    forall_mem_cons_of (objectRow_writes rfl (by decide) (by decide) fun _ hd => objEffect_calc4 (by decide) (by decide) (by decide) hd) <|
    forall_mem_cons_of objectRow_loop <|
    forall_mem_cons_of (objectRow_writesOf rfl (by decide) (by decide) fun _ hd hlo hhi => objEffect_trace hd hlo hhi rfl) <|
    forall_mem_cons_of (objectRow_writesOf rfl (by decide) (by decide) fun _ hd hlo hhi => objEffect_trace hd hlo hhi rfl) <|
    forall_mem_cons_of (objectRow_writesOf rfl (by decide) (by decide) fun _ hd hlo hhi => objEffect_trace hd hlo hhi rfl) <|
    forall_mem_cons_of (objectRow_names (n := 2) rfl (by decide) fun _ hd => objEffect_calc1 (by decide) hd) <|
    forall_mem_cons_of (objectRow_writes rfl (by decide) (by decide) fun _ hd => objEffect_calc1 (by decide) hd) <|
    forall_mem_cons_of (objectRow_writes rfl (by decide) (by decide) fun _ hd => objEffect_calc1 (by decide) hd) <|
    forall_mem_cons_of (objectRow_writes rfl (by decide) (by decide) fun _ hd => objEffect_calc1 (by decide) hd) <|
    forall_mem_cons_of (objectRow_names (n := 0) rfl (by decide) fun _ hd => objEffect_calc1 (by decide) hd) <|
    forall_mem_cons_of (objectRow_writes rfl (by decide) (by decide) fun _ hd => objEffect_clear hd) <|
    forall_mem_cons_of (objectRow_writes rfl (by decide) (by decide) fun _ hd => objEffect_calc7 (by decide) (by decide) hd) <|
    forall_mem_cons_of (objectRow_namesOf (n := 4) rfl (by decide) fun _ hd hlo hhi => objEffect_store (by omega) hd) <|
    forall_mem_cons_of (objectRow_namesOf (n := 4) rfl (by decide) fun _ hd hlo hhi => objEffect_store (by omega) hd) <|
    forall_mem_cons_of (objectRow_names (home := .field AIO_TRIM_EN 0) (n := 1) rfl (by decide) fun _ hd => objEffect_trim hd) <|
    forall_mem_cons_of (objectRow_writesOf rfl (by decide) (by decide) fun _ hd hlo hhi => objEffect_busOff hd hlo hhi) <|
    forall_mem_cons_of (objectRow_writes rfl (by decide) (by decide) fun _ hd => objEffect_calc7 (by decide) (by decide) hd) <|
    forall_mem_cons_of (objectRow_names (n := 4) rfl (by decide) fun _ hd => objEffect_calc7 (by decide) (by decide) hd) <|
    forall_mem_cons_of (objectRow_names (n := 0) rfl (by decide) fun _ hd => objEffect_calc7 (by decide) (by decide) hd) <|
    forall_mem_cons_of (objectRow_writesOf rfl (by decide) (by decide) fun _ hd hlo hhi => objEffect_axis hd hlo hhi) <|
    forall_mem_cons_of (objectRow_names (n := 1) rfl (by decide) fun _ hd => objEffect_protection hd) <|
    forall_mem_cons_of (objectRow_names (n := 8) rfl (by decide) fun _ hd => objEffect_calc1 (by decide) hd) <|
    forall_mem_cons_of (objectRow_names (n := 0) rfl (by decide) fun _ hd => objEffect_calc1 (by decide) hd) <|
    forall_mem_cons_of (objectRow_writes rfl (by decide) (by decide) fun _ hd => objEffect_calc1 (by decide) hd) <|
    forall_mem_cons_of (objectRow_writes rfl (by decide) (by decide) fun _ hd => objEffect_calc1 (by decide) hd) <|
    forall_mem_cons_of (objectRow_names (n := 4) rfl (by decide) fun _ hd => objEffect_calc1 (by decide) hd) <|
    forall_mem_cons_of (objectRow_writes rfl (by decide) (by decide) fun _ hd => objEffect_calc1 (by decide) hd) <|
    forall_mem_cons_of (objectRow_writes rfl (by decide) (by decide) fun _ hd => objEffect_calc1 (by decide) hd) <|
    forall_mem_cons_of (objectRow_writes rfl (by decide) (by decide) fun _ hd => objEffect_calc1 (by decide) hd) <|
    forall_mem_cons_of (objectRow_names (n := 0) rfl (by decide) fun _ hd => objEffect_calc1 (by decide) hd) <|
    List.forall_mem_nil _
end Sys2Proof.Machine
end

section
/-!
SUPPORT. FieldFrames: what the operations of the field side leave of it and of the rest of the state.
-/
namespace Sys2Proof.Machine

@[simp] theorem FieldState.ite_parts (c : Prop) [Decidable c] (x y : FieldState) :
    (if c then x else y).state = (if c then x.state else y.state) ∧
      (if c then x else y).link = (if c then x.link else y.link) ∧
      (if c then x else y).lastFrame = (if c then x.lastFrame else y.lastFrame) ∧
      (if c then x else y).lastUpd = (if c then x.lastUpd else y.lastUpd) ∧
      (if c then x else y).silence = (if c then x.silence else y.silence) ∧
      (if c then x else y).silStandby = (if c then x.silStandby else y.silStandby) ∧
      (if c then x else y).unit = (if c then x.unit else y.unit) ∧
      (if c then x else y).digital = (if c then x.digital else y.digital) ∧
      (if c then x else y).analog = (if c then x.analog else y.analog) ∧
      (if c then x else y).enc = (if c then x.enc else y.enc) ∧ (if c then x else y).cmds = (if c then x.cmds else y.cmds) ∧
      (if c then x else y).vflow = (if c then x.vflow else y.vflow) ∧
      (if c then x else y).vfhigh = (if c then x.vfhigh else y.vfhigh) ∧ (if c then x else y).mv = (if c then x.mv else y.mv) ∧
      (if c then x else y).lowCnt = (if c then x.lowCnt else y.lowCnt) ∧
      (if c then x else y).silentCnt = (if c then x.silentCnt else y.silentCnt) ∧
      (if c then x else y).safAt = (if c then x.safAt else y.safAt) ∧
      (if c then x else y).stoOn = (if c then x.stoOn else y.stoOn) ∧
      (if c then x else y).pulses = (if c then x.pulses else y.pulses) ∧
      (if c then x else y).owners = (if c then x.owners else y.owners) := by
  split <;> simp

@[simp] theorem foldl_field_state {α : Type} (xs : List α) (f : State → α → State) (hf : ∀ s x, (f s x).field.state = s.field.state)
    (s : State) : (xs.foldl f s).field.state = s.field.state := foldl_keeps (fun s => s.field.state) f hf xs s

@[simp] theorem foldl_field_link {α : Type} (xs : List α) (f : State → α → State) (hf : ∀ s x, (f s x).field.link = s.field.link)
    (s : State) : (xs.foldl f s).field.link = s.field.link := foldl_keeps (fun s => s.field.link) f hf xs s

@[simp] theorem foldl_field_lastFrame {α : Type} (xs : List α) (f : State → α → State) (hf : ∀ s x, (f s x).field.lastFrame = s.field.lastFrame)
    (s : State) : (xs.foldl f s).field.lastFrame = s.field.lastFrame := foldl_keeps (fun s => s.field.lastFrame) f hf xs s

@[simp] theorem foldl_field_lastUpd {α : Type} (xs : List α) (f : State → α → State) (hf : ∀ s x, (f s x).field.lastUpd = s.field.lastUpd)
    (s : State) : (xs.foldl f s).field.lastUpd = s.field.lastUpd := foldl_keeps (fun s => s.field.lastUpd) f hf xs s

@[simp] theorem foldl_field_silence {α : Type} (xs : List α) (f : State → α → State) (hf : ∀ s x, (f s x).field.silence = s.field.silence)
    (s : State) : (xs.foldl f s).field.silence = s.field.silence := foldl_keeps (fun s => s.field.silence) f hf xs s

@[simp] theorem foldl_field_silStandby {α : Type} (xs : List α) (f : State → α → State) (hf : ∀ s x, (f s x).field.silStandby = s.field.silStandby)
    (s : State) : (xs.foldl f s).field.silStandby = s.field.silStandby := foldl_keeps (fun s => s.field.silStandby) f hf xs s

@[simp] theorem foldl_field_unit {α : Type} (xs : List α) (f : State → α → State) (hf : ∀ s x, (f s x).field.unit = s.field.unit)
    (s : State) : (xs.foldl f s).field.unit = s.field.unit := foldl_keeps (fun s => s.field.unit) f hf xs s

@[simp] theorem foldl_field_digital {α : Type} (xs : List α) (f : State → α → State) (hf : ∀ s x, (f s x).field.digital = s.field.digital)
    (s : State) : (xs.foldl f s).field.digital = s.field.digital := foldl_keeps (fun s => s.field.digital) f hf xs s

@[simp] theorem foldl_field_analog {α : Type} (xs : List α) (f : State → α → State) (hf : ∀ s x, (f s x).field.analog = s.field.analog)
    (s : State) : (xs.foldl f s).field.analog = s.field.analog := foldl_keeps (fun s => s.field.analog) f hf xs s

@[simp] theorem foldl_field_enc {α : Type} (xs : List α) (f : State → α → State) (hf : ∀ s x, (f s x).field.enc = s.field.enc)
    (s : State) : (xs.foldl f s).field.enc = s.field.enc := foldl_keeps (fun s => s.field.enc) f hf xs s

@[simp] theorem foldl_field_cmds {α : Type} (xs : List α) (f : State → α → State) (hf : ∀ s x, (f s x).field.cmds = s.field.cmds)
    (s : State) : (xs.foldl f s).field.cmds = s.field.cmds := foldl_keeps (fun s => s.field.cmds) f hf xs s

@[simp] theorem foldl_field_vflow {α : Type} (xs : List α) (f : State → α → State) (hf : ∀ s x, (f s x).field.vflow = s.field.vflow)
    (s : State) : (xs.foldl f s).field.vflow = s.field.vflow := foldl_keeps (fun s => s.field.vflow) f hf xs s

@[simp] theorem foldl_field_vfhigh {α : Type} (xs : List α) (f : State → α → State) (hf : ∀ s x, (f s x).field.vfhigh = s.field.vfhigh)
    (s : State) : (xs.foldl f s).field.vfhigh = s.field.vfhigh := foldl_keeps (fun s => s.field.vfhigh) f hf xs s

@[simp] theorem foldl_field_mv {α : Type} (xs : List α) (f : State → α → State) (hf : ∀ s x, (f s x).field.mv = s.field.mv)
    (s : State) : (xs.foldl f s).field.mv = s.field.mv := foldl_keeps (fun s => s.field.mv) f hf xs s

@[simp] theorem foldl_field_lowCnt {α : Type} (xs : List α) (f : State → α → State) (hf : ∀ s x, (f s x).field.lowCnt = s.field.lowCnt)
    (s : State) : (xs.foldl f s).field.lowCnt = s.field.lowCnt := foldl_keeps (fun s => s.field.lowCnt) f hf xs s

@[simp] theorem foldl_field_silentCnt {α : Type} (xs : List α) (f : State → α → State) (hf : ∀ s x, (f s x).field.silentCnt = s.field.silentCnt)
    (s : State) : (xs.foldl f s).field.silentCnt = s.field.silentCnt := foldl_keeps (fun s => s.field.silentCnt) f hf xs s

@[simp] theorem foldl_field_safAt {α : Type} (xs : List α) (f : State → α → State) (hf : ∀ s x, (f s x).field.safAt = s.field.safAt)
    (s : State) : (xs.foldl f s).field.safAt = s.field.safAt := foldl_keeps (fun s => s.field.safAt) f hf xs s

@[simp] theorem foldl_field_stoOn {α : Type} (xs : List α) (f : State → α → State) (hf : ∀ s x, (f s x).field.stoOn = s.field.stoOn)
    (s : State) : (xs.foldl f s).field.stoOn = s.field.stoOn := foldl_keeps (fun s => s.field.stoOn) f hf xs s

@[simp] theorem foldl_field_pulses {α : Type} (xs : List α) (f : State → α → State) (hf : ∀ s x, (f s x).field.pulses = s.field.pulses)
    (s : State) : (xs.foldl f s).field.pulses = s.field.pulses := foldl_keeps (fun s => s.field.pulses) f hf xs s

@[simp] theorem foldl_field_owners {α : Type} (xs : List α) (f : State → α → State) (hf : ∀ s x, (f s x).field.owners = s.field.owners)
    (s : State) : (xs.foldl f s).field.owners = s.field.owners := foldl_keeps (fun s => s.field.owners) f hf xs s

@[simp] theorem prove_rest (s : State) (sub : Nat) :
    (prove s sub).now = s.now ∧ (prove s sub).pending = s.pending ∧ (prove s sub).draws = s.draws ∧
      (prove s sub).rdata = s.rdata ∧ (prove s sub).regs = s.regs ∧ (prove s sub).mem = s.mem ∧ (prove s sub).units = s.units ∧
      (prove s sub).objs = s.objs ∧ (prove s sub).prog = s.prog ∧ (prove s sub).img = s.img ∧ (prove s sub).tsk = s.tsk ∧
      (prove s sub).gz = s.gz ∧ (prove s sub).evc = s.evc ∧ (prove s sub).nv = s.nv ∧ (prove s sub).rtc = s.rtc ∧
      (prove s sub).wdg = s.wdg ∧ (prove s sub).frz = s.frz ∧ (prove s sub).rcd = s.rcd ∧ (prove s sub).boot = s.boot ∧
      (prove s sub).phr = s.phr ∧ (prove s sub).lpe = s.lpe ∧ (prove s sub).trc = s.trc ∧ (prove s sub).nrg = s.nrg ∧
      (prove s sub).hsb.unit = s.hsb.unit ∧ (prove s sub).hsb.role = s.hsb.role ∧ (prove s sub).field = s.field ∧
      (prove s sub).can = s.can ∧ (prove s sub).saf = s.saf ∧ (prove s sub).jrn = s.jrn ∧ (prove s sub).stations = s.stations ∧
      (prove s sub).sent = s.sent := by
  unfold prove
  simp

@[simp] theorem dLive_rest (s : State) (k b : Nat) :
    (dLive s k b).now = s.now ∧ (dLive s k b).pending = s.pending ∧ (dLive s k b).draws = s.draws ∧
      (dLive s k b).rdata = s.rdata ∧ (dLive s k b).mem = s.mem ∧ (dLive s k b).units = s.units ∧ (dLive s k b).objs = s.objs ∧
      (dLive s k b).prog = s.prog ∧ (dLive s k b).img = s.img ∧ (dLive s k b).tsk = s.tsk ∧ (dLive s k b).gz = s.gz ∧
      (dLive s k b).nv = s.nv ∧ (dLive s k b).rtc = s.rtc ∧ (dLive s k b).wdg = s.wdg ∧ (dLive s k b).frz = s.frz ∧
      (dLive s k b).rcd = s.rcd ∧ (dLive s k b).boot = s.boot ∧ (dLive s k b).phr = s.phr ∧ (dLive s k b).lpe = s.lpe ∧
      (dLive s k b).trc = s.trc ∧ (dLive s k b).nrg = s.nrg ∧ (dLive s k b).hsb = s.hsb ∧
      (dLive s k b).field.state = s.field.state ∧ (dLive s k b).field.link = s.field.link ∧
      (dLive s k b).field.lastFrame = s.field.lastFrame ∧ (dLive s k b).field.lastUpd = s.field.lastUpd ∧
      (dLive s k b).field.silence = s.field.silence ∧ (dLive s k b).field.silStandby = s.field.silStandby ∧
      (dLive s k b).field.unit = s.field.unit ∧ (dLive s k b).field.analog = s.field.analog ∧
      (dLive s k b).field.enc = s.field.enc ∧ (dLive s k b).field.cmds = s.field.cmds ∧
      (dLive s k b).field.vflow = s.field.vflow ∧ (dLive s k b).field.vfhigh = s.field.vfhigh ∧
      (dLive s k b).field.mv = s.field.mv ∧ (dLive s k b).field.lowCnt = s.field.lowCnt ∧
      (dLive s k b).field.silentCnt = s.field.silentCnt ∧ (dLive s k b).field.safAt = s.field.safAt ∧
      (dLive s k b).field.stoOn = s.field.stoOn ∧ (dLive s k b).field.pulses = s.field.pulses ∧
      (dLive s k b).field.owners = s.field.owners ∧ (dLive s k b).can = s.can ∧ (dLive s k b).saf = s.saf ∧
      (dLive s k b).jrn = s.jrn ∧ (dLive s k b).stations = s.stations ∧ (dLive s k b).sent = s.sent := by
  unfold dLive
  simp

@[simp] theorem aLive_rest (s : State) (k b : Nat) :
    (aLive s k b).now = s.now ∧ (aLive s k b).pending = s.pending ∧ (aLive s k b).draws = s.draws ∧
      (aLive s k b).rdata = s.rdata ∧ (aLive s k b).mem = s.mem ∧ (aLive s k b).units = s.units ∧ (aLive s k b).objs = s.objs ∧
      (aLive s k b).prog = s.prog ∧ (aLive s k b).img = s.img ∧ (aLive s k b).tsk = s.tsk ∧ (aLive s k b).gz = s.gz ∧
      (aLive s k b).nv = s.nv ∧ (aLive s k b).rtc = s.rtc ∧ (aLive s k b).wdg = s.wdg ∧ (aLive s k b).frz = s.frz ∧
      (aLive s k b).rcd = s.rcd ∧ (aLive s k b).boot = s.boot ∧ (aLive s k b).phr = s.phr ∧ (aLive s k b).lpe = s.lpe ∧
      (aLive s k b).trc = s.trc ∧ (aLive s k b).nrg = s.nrg ∧ (aLive s k b).hsb = s.hsb ∧
      (aLive s k b).field.state = s.field.state ∧ (aLive s k b).field.link = s.field.link ∧
      (aLive s k b).field.lastFrame = s.field.lastFrame ∧ (aLive s k b).field.lastUpd = s.field.lastUpd ∧
      (aLive s k b).field.silence = s.field.silence ∧ (aLive s k b).field.silStandby = s.field.silStandby ∧
      (aLive s k b).field.unit = s.field.unit ∧ (aLive s k b).field.digital = s.field.digital ∧
      (aLive s k b).field.enc = s.field.enc ∧ (aLive s k b).field.cmds = s.field.cmds ∧
      (aLive s k b).field.vflow = s.field.vflow ∧ (aLive s k b).field.vfhigh = s.field.vfhigh ∧
      (aLive s k b).field.mv = s.field.mv ∧ (aLive s k b).field.lowCnt = s.field.lowCnt ∧
      (aLive s k b).field.silentCnt = s.field.silentCnt ∧ (aLive s k b).field.safAt = s.field.safAt ∧
      (aLive s k b).field.stoOn = s.field.stoOn ∧ (aLive s k b).field.pulses = s.field.pulses ∧
      (aLive s k b).field.owners = s.field.owners ∧ (aLive s k b).can = s.can ∧ (aLive s k b).saf = s.saf ∧
      (aLive s k b).jrn = s.jrn ∧ (aLive s k b).stations = s.stations ∧ (aLive s k b).sent = s.sent := by
  unfold aLive
  simp

@[simp] theorem aLiveOff_rest (s : State) (k b : Nat) :
    (aLiveOff s k b).now = s.now ∧ (aLiveOff s k b).pending = s.pending ∧ (aLiveOff s k b).draws = s.draws ∧
      (aLiveOff s k b).rdata = s.rdata ∧ (aLiveOff s k b).regs = s.regs ∧ (aLiveOff s k b).mem = s.mem ∧
      (aLiveOff s k b).units = s.units ∧ (aLiveOff s k b).objs = s.objs ∧ (aLiveOff s k b).prog = s.prog ∧
      (aLiveOff s k b).img = s.img ∧ (aLiveOff s k b).tsk = s.tsk ∧ (aLiveOff s k b).gz = s.gz ∧ (aLiveOff s k b).evc = s.evc ∧
      (aLiveOff s k b).nv = s.nv ∧ (aLiveOff s k b).rtc = s.rtc ∧ (aLiveOff s k b).wdg = s.wdg ∧ (aLiveOff s k b).frz = s.frz ∧
      (aLiveOff s k b).rcd = s.rcd ∧ (aLiveOff s k b).boot = s.boot ∧ (aLiveOff s k b).phr = s.phr ∧
      (aLiveOff s k b).lpe = s.lpe ∧ (aLiveOff s k b).trc = s.trc ∧ (aLiveOff s k b).nrg = s.nrg ∧
      (aLiveOff s k b).hsb = s.hsb ∧ (aLiveOff s k b).field.state = s.field.state ∧
      (aLiveOff s k b).field.link = s.field.link ∧ (aLiveOff s k b).field.lastFrame = s.field.lastFrame ∧
      (aLiveOff s k b).field.lastUpd = s.field.lastUpd ∧ (aLiveOff s k b).field.silence = s.field.silence ∧
      (aLiveOff s k b).field.silStandby = s.field.silStandby ∧ (aLiveOff s k b).field.unit = s.field.unit ∧
      (aLiveOff s k b).field.digital = s.field.digital ∧ (aLiveOff s k b).field.enc = s.field.enc ∧
      (aLiveOff s k b).field.cmds = s.field.cmds ∧ (aLiveOff s k b).field.vflow = s.field.vflow ∧
      (aLiveOff s k b).field.vfhigh = s.field.vfhigh ∧ (aLiveOff s k b).field.mv = s.field.mv ∧
      (aLiveOff s k b).field.lowCnt = s.field.lowCnt ∧ (aLiveOff s k b).field.silentCnt = s.field.silentCnt ∧
      (aLiveOff s k b).field.safAt = s.field.safAt ∧ (aLiveOff s k b).field.stoOn = s.field.stoOn ∧
      (aLiveOff s k b).field.pulses = s.field.pulses ∧ (aLiveOff s k b).field.owners = s.field.owners ∧
      (aLiveOff s k b).can = s.can ∧ (aLiveOff s k b).saf = s.saf ∧ (aLiveOff s k b).jrn = s.jrn ∧
      (aLiveOff s k b).stations = s.stations ∧ (aLiveOff s k b).sent = s.sent := by
  unfold aLiveOff
  simp

@[simp] theorem dDrive_rest (s : State) (k : Nat) :
    (dDrive s k).now = s.now ∧ (dDrive s k).pending = s.pending ∧ (dDrive s k).draws = s.draws ∧ (dDrive s k).rdata = s.rdata ∧
      (dDrive s k).regs = s.regs ∧ (dDrive s k).mem = s.mem ∧ (dDrive s k).units = s.units ∧ (dDrive s k).objs = s.objs ∧
      (dDrive s k).prog = s.prog ∧ (dDrive s k).img = s.img ∧ (dDrive s k).tsk = s.tsk ∧ (dDrive s k).gz = s.gz ∧
      (dDrive s k).evc = s.evc ∧ (dDrive s k).nv = s.nv ∧ (dDrive s k).rtc = s.rtc ∧ (dDrive s k).wdg = s.wdg ∧
      (dDrive s k).frz = s.frz ∧ (dDrive s k).rcd = s.rcd ∧ (dDrive s k).boot = s.boot ∧ (dDrive s k).phr = s.phr ∧
      (dDrive s k).lpe = s.lpe ∧ (dDrive s k).trc = s.trc ∧ (dDrive s k).nrg = s.nrg ∧ (dDrive s k).hsb = s.hsb ∧
      (dDrive s k).field.state = s.field.state ∧ (dDrive s k).field.link = s.field.link ∧
      (dDrive s k).field.lastFrame = s.field.lastFrame ∧ (dDrive s k).field.lastUpd = s.field.lastUpd ∧
      (dDrive s k).field.silence = s.field.silence ∧ (dDrive s k).field.silStandby = s.field.silStandby ∧
      (dDrive s k).field.unit = s.field.unit ∧ (dDrive s k).field.analog = s.field.analog ∧
      (dDrive s k).field.enc = s.field.enc ∧ (dDrive s k).field.cmds = s.field.cmds ∧
      (dDrive s k).field.vflow = s.field.vflow ∧ (dDrive s k).field.vfhigh = s.field.vfhigh ∧
      (dDrive s k).field.mv = s.field.mv ∧ (dDrive s k).field.lowCnt = s.field.lowCnt ∧
      (dDrive s k).field.silentCnt = s.field.silentCnt ∧ (dDrive s k).field.safAt = s.field.safAt ∧
      (dDrive s k).field.stoOn = s.field.stoOn ∧ (dDrive s k).field.pulses = s.field.pulses ∧
      (dDrive s k).field.owners = s.field.owners ∧ (dDrive s k).can = s.can ∧ (dDrive s k).saf = s.saf ∧
      (dDrive s k).jrn = s.jrn ∧ (dDrive s k).stations = s.stations ∧ (dDrive s k).sent = s.sent := by
  unfold dDrive
  simp

@[simp] theorem dChange_rest (s : State) (k : Nat) :
    (dChange s k).now = s.now ∧ (dChange s k).pending = s.pending ∧ (dChange s k).draws = s.draws ∧
      (dChange s k).rdata = s.rdata ∧ (dChange s k).mem = s.mem ∧ (dChange s k).units = s.units ∧ (dChange s k).objs = s.objs ∧
      (dChange s k).prog = s.prog ∧ (dChange s k).img = s.img ∧ (dChange s k).tsk = s.tsk ∧ (dChange s k).gz = s.gz ∧
      (dChange s k).nv = s.nv ∧ (dChange s k).rtc = s.rtc ∧ (dChange s k).wdg = s.wdg ∧ (dChange s k).frz = s.frz ∧
      (dChange s k).rcd = s.rcd ∧ (dChange s k).boot = s.boot ∧ (dChange s k).phr = s.phr ∧ (dChange s k).lpe = s.lpe ∧
      (dChange s k).trc = s.trc ∧ (dChange s k).nrg = s.nrg ∧ (dChange s k).hsb = s.hsb ∧
      (dChange s k).field.state = s.field.state ∧ (dChange s k).field.link = s.field.link ∧
      (dChange s k).field.lastFrame = s.field.lastFrame ∧ (dChange s k).field.lastUpd = s.field.lastUpd ∧
      (dChange s k).field.silence = s.field.silence ∧ (dChange s k).field.silStandby = s.field.silStandby ∧
      (dChange s k).field.unit = s.field.unit ∧ (dChange s k).field.analog = s.field.analog ∧
      (dChange s k).field.enc = s.field.enc ∧ (dChange s k).field.cmds = s.field.cmds ∧
      (dChange s k).field.vflow = s.field.vflow ∧ (dChange s k).field.vfhigh = s.field.vfhigh ∧
      (dChange s k).field.mv = s.field.mv ∧ (dChange s k).field.lowCnt = s.field.lowCnt ∧
      (dChange s k).field.silentCnt = s.field.silentCnt ∧ (dChange s k).field.safAt = s.field.safAt ∧
      (dChange s k).field.stoOn = s.field.stoOn ∧ (dChange s k).field.pulses = s.field.pulses ∧
      (dChange s k).field.owners = s.field.owners ∧ (dChange s k).can = s.can ∧ (dChange s k).saf = s.saf ∧
      (dChange s k).jrn = s.jrn ∧ (dChange s k).stations = s.stations ∧ (dChange s k).sent = s.sent := by
  unfold dChange
  simp

@[simp] theorem dUpdate_rest (s : State) (lowCurrent cooled : Word) (k : Nat) :
    (dUpdate s lowCurrent cooled k).now = s.now ∧ (dUpdate s lowCurrent cooled k).pending = s.pending ∧
      (dUpdate s lowCurrent cooled k).draws = s.draws ∧ (dUpdate s lowCurrent cooled k).rdata = s.rdata ∧
      (dUpdate s lowCurrent cooled k).mem = s.mem ∧ (dUpdate s lowCurrent cooled k).units = s.units ∧
      (dUpdate s lowCurrent cooled k).objs = s.objs ∧ (dUpdate s lowCurrent cooled k).prog = s.prog ∧
      (dUpdate s lowCurrent cooled k).img = s.img ∧ (dUpdate s lowCurrent cooled k).tsk = s.tsk ∧
      (dUpdate s lowCurrent cooled k).gz = s.gz ∧ (dUpdate s lowCurrent cooled k).nv = s.nv ∧
      (dUpdate s lowCurrent cooled k).rtc = s.rtc ∧ (dUpdate s lowCurrent cooled k).wdg = s.wdg ∧
      (dUpdate s lowCurrent cooled k).frz = s.frz ∧ (dUpdate s lowCurrent cooled k).rcd = s.rcd ∧
      (dUpdate s lowCurrent cooled k).boot = s.boot ∧ (dUpdate s lowCurrent cooled k).phr = s.phr ∧
      (dUpdate s lowCurrent cooled k).lpe = s.lpe ∧ (dUpdate s lowCurrent cooled k).trc = s.trc ∧
      (dUpdate s lowCurrent cooled k).nrg = s.nrg ∧ (dUpdate s lowCurrent cooled k).hsb = s.hsb ∧
      (dUpdate s lowCurrent cooled k).field.state = s.field.state ∧ (dUpdate s lowCurrent cooled k).field.link = s.field.link ∧
      (dUpdate s lowCurrent cooled k).field.lastFrame = s.field.lastFrame ∧
      (dUpdate s lowCurrent cooled k).field.lastUpd = s.field.lastUpd ∧
      (dUpdate s lowCurrent cooled k).field.silence = s.field.silence ∧
      (dUpdate s lowCurrent cooled k).field.silStandby = s.field.silStandby ∧
      (dUpdate s lowCurrent cooled k).field.unit = s.field.unit ∧
      (dUpdate s lowCurrent cooled k).field.analog = s.field.analog ∧ (dUpdate s lowCurrent cooled k).field.enc = s.field.enc ∧
      (dUpdate s lowCurrent cooled k).field.cmds = s.field.cmds ∧ (dUpdate s lowCurrent cooled k).field.vflow = s.field.vflow ∧
      (dUpdate s lowCurrent cooled k).field.vfhigh = s.field.vfhigh ∧ (dUpdate s lowCurrent cooled k).field.mv = s.field.mv ∧
      (dUpdate s lowCurrent cooled k).field.lowCnt = s.field.lowCnt ∧
      (dUpdate s lowCurrent cooled k).field.silentCnt = s.field.silentCnt ∧
      (dUpdate s lowCurrent cooled k).field.safAt = s.field.safAt ∧
      (dUpdate s lowCurrent cooled k).field.stoOn = s.field.stoOn ∧
      (dUpdate s lowCurrent cooled k).field.pulses = s.field.pulses ∧
      (dUpdate s lowCurrent cooled k).field.owners = s.field.owners ∧ (dUpdate s lowCurrent cooled k).can = s.can ∧
      (dUpdate s lowCurrent cooled k).saf = s.saf ∧ (dUpdate s lowCurrent cooled k).jrn = s.jrn ∧
      (dUpdate s lowCurrent cooled k).stations = s.stations ∧ (dUpdate s lowCurrent cooled k).sent = s.sent := by
  unfold dUpdate
  dsimp only
  repeat' split
  all_goals simp

@[simp] theorem aAlarm_rest (s : State) (k : Nat) :
    (aAlarm s k).now = s.now ∧ (aAlarm s k).pending = s.pending ∧ (aAlarm s k).draws = s.draws ∧ (aAlarm s k).rdata = s.rdata ∧
      (aAlarm s k).mem = s.mem ∧ (aAlarm s k).units = s.units ∧ (aAlarm s k).objs = s.objs ∧ (aAlarm s k).prog = s.prog ∧
      (aAlarm s k).img = s.img ∧ (aAlarm s k).tsk = s.tsk ∧ (aAlarm s k).gz = s.gz ∧ (aAlarm s k).nv = s.nv ∧
      (aAlarm s k).rtc = s.rtc ∧ (aAlarm s k).wdg = s.wdg ∧ (aAlarm s k).frz = s.frz ∧ (aAlarm s k).rcd = s.rcd ∧
      (aAlarm s k).boot = s.boot ∧ (aAlarm s k).phr = s.phr ∧ (aAlarm s k).lpe = s.lpe ∧ (aAlarm s k).trc = s.trc ∧
      (aAlarm s k).nrg = s.nrg ∧ (aAlarm s k).hsb = s.hsb ∧ (aAlarm s k).field.state = s.field.state ∧
      (aAlarm s k).field.link = s.field.link ∧ (aAlarm s k).field.lastFrame = s.field.lastFrame ∧
      (aAlarm s k).field.lastUpd = s.field.lastUpd ∧ (aAlarm s k).field.silence = s.field.silence ∧
      (aAlarm s k).field.silStandby = s.field.silStandby ∧ (aAlarm s k).field.unit = s.field.unit ∧
      (aAlarm s k).field.digital = s.field.digital ∧ (aAlarm s k).field.enc = s.field.enc ∧
      (aAlarm s k).field.cmds = s.field.cmds ∧ (aAlarm s k).field.vflow = s.field.vflow ∧
      (aAlarm s k).field.vfhigh = s.field.vfhigh ∧ (aAlarm s k).field.mv = s.field.mv ∧
      (aAlarm s k).field.lowCnt = s.field.lowCnt ∧ (aAlarm s k).field.silentCnt = s.field.silentCnt ∧
      (aAlarm s k).field.safAt = s.field.safAt ∧ (aAlarm s k).field.stoOn = s.field.stoOn ∧
      (aAlarm s k).field.pulses = s.field.pulses ∧ (aAlarm s k).field.owners = s.field.owners ∧ (aAlarm s k).can = s.can ∧
      (aAlarm s k).saf = s.saf ∧ (aAlarm s k).jrn = s.jrn ∧ (aAlarm s k).stations = s.stations ∧ (aAlarm s k).sent = s.sent := by
  unfold aAlarm
  simp

@[simp] theorem aDrive_rest (s : State) (k : Nat) :
    (aDrive s k).now = s.now ∧ (aDrive s k).pending = s.pending ∧ (aDrive s k).draws = s.draws ∧ (aDrive s k).rdata = s.rdata ∧
      (aDrive s k).mem = s.mem ∧ (aDrive s k).units = s.units ∧ (aDrive s k).objs = s.objs ∧ (aDrive s k).prog = s.prog ∧
      (aDrive s k).img = s.img ∧ (aDrive s k).tsk = s.tsk ∧ (aDrive s k).gz = s.gz ∧ (aDrive s k).nv = s.nv ∧
      (aDrive s k).rtc = s.rtc ∧ (aDrive s k).wdg = s.wdg ∧ (aDrive s k).frz = s.frz ∧ (aDrive s k).rcd = s.rcd ∧
      (aDrive s k).boot = s.boot ∧ (aDrive s k).phr = s.phr ∧ (aDrive s k).lpe = s.lpe ∧ (aDrive s k).trc = s.trc ∧
      (aDrive s k).nrg = s.nrg ∧ (aDrive s k).hsb = s.hsb ∧ (aDrive s k).field.state = s.field.state ∧
      (aDrive s k).field.link = s.field.link ∧ (aDrive s k).field.lastFrame = s.field.lastFrame ∧
      (aDrive s k).field.lastUpd = s.field.lastUpd ∧ (aDrive s k).field.silence = s.field.silence ∧
      (aDrive s k).field.silStandby = s.field.silStandby ∧ (aDrive s k).field.unit = s.field.unit ∧
      (aDrive s k).field.digital = s.field.digital ∧ (aDrive s k).field.enc = s.field.enc ∧
      (aDrive s k).field.cmds = s.field.cmds ∧ (aDrive s k).field.vflow = s.field.vflow ∧
      (aDrive s k).field.vfhigh = s.field.vfhigh ∧ (aDrive s k).field.mv = s.field.mv ∧
      (aDrive s k).field.lowCnt = s.field.lowCnt ∧ (aDrive s k).field.silentCnt = s.field.silentCnt ∧
      (aDrive s k).field.safAt = s.field.safAt ∧ (aDrive s k).field.stoOn = s.field.stoOn ∧
      (aDrive s k).field.pulses = s.field.pulses ∧ (aDrive s k).field.owners = s.field.owners ∧ (aDrive s k).can = s.can ∧
      (aDrive s k).saf = s.saf ∧ (aDrive s k).jrn = s.jrn ∧ (aDrive s k).stations = s.stations ∧ (aDrive s k).sent = s.sent := by
  unfold aDrive
  simp

@[simp] theorem driveAll_rest (s : State) :
    (driveAll s).now = s.now ∧ (driveAll s).pending = s.pending ∧ (driveAll s).draws = s.draws ∧ (driveAll s).rdata = s.rdata ∧
      (driveAll s).mem = s.mem ∧ (driveAll s).units = s.units ∧ (driveAll s).objs = s.objs ∧ (driveAll s).prog = s.prog ∧
      (driveAll s).img = s.img ∧ (driveAll s).tsk = s.tsk ∧ (driveAll s).gz = s.gz ∧ (driveAll s).nv = s.nv ∧
      (driveAll s).rtc = s.rtc ∧ (driveAll s).wdg = s.wdg ∧ (driveAll s).frz = s.frz ∧ (driveAll s).rcd = s.rcd ∧
      (driveAll s).boot = s.boot ∧ (driveAll s).phr = s.phr ∧ (driveAll s).lpe = s.lpe ∧ (driveAll s).trc = s.trc ∧
      (driveAll s).nrg = s.nrg ∧ (driveAll s).hsb = s.hsb ∧ (driveAll s).field.state = s.field.state ∧
      (driveAll s).field.link = s.field.link ∧ (driveAll s).field.lastFrame = s.field.lastFrame ∧
      (driveAll s).field.lastUpd = s.field.lastUpd ∧ (driveAll s).field.silence = s.field.silence ∧
      (driveAll s).field.silStandby = s.field.silStandby ∧ (driveAll s).field.unit = s.field.unit ∧
      (driveAll s).field.enc = s.field.enc ∧ (driveAll s).field.cmds = s.field.cmds ∧
      (driveAll s).field.vflow = s.field.vflow ∧ (driveAll s).field.vfhigh = s.field.vfhigh ∧
      (driveAll s).field.mv = s.field.mv ∧ (driveAll s).field.lowCnt = s.field.lowCnt ∧
      (driveAll s).field.silentCnt = s.field.silentCnt ∧ (driveAll s).field.safAt = s.field.safAt ∧
      (driveAll s).field.stoOn = s.field.stoOn ∧ (driveAll s).field.pulses = s.field.pulses ∧
      (driveAll s).field.owners = s.field.owners ∧ (driveAll s).can = s.can ∧ (driveAll s).saf = s.saf ∧
      (driveAll s).jrn = s.jrn ∧ (driveAll s).stations = s.stations ∧ (driveAll s).sent = s.sent := by
  unfold driveAll
  simp

@[simp] theorem dCommand_rest (s : State) (k : Nat) (v : Bool) :
    (dCommand s k v).now = s.now ∧ (dCommand s k v).pending = s.pending ∧ (dCommand s k v).draws = s.draws ∧
      (dCommand s k v).rdata = s.rdata ∧ (dCommand s k v).regs = s.regs ∧ (dCommand s k v).mem = s.mem ∧
      (dCommand s k v).units = s.units ∧ (dCommand s k v).objs = s.objs ∧ (dCommand s k v).prog = s.prog ∧
      (dCommand s k v).img = s.img ∧ (dCommand s k v).tsk = s.tsk ∧ (dCommand s k v).gz = s.gz ∧ (dCommand s k v).evc = s.evc ∧
      (dCommand s k v).nv = s.nv ∧ (dCommand s k v).rtc = s.rtc ∧ (dCommand s k v).wdg = s.wdg ∧ (dCommand s k v).frz = s.frz ∧
      (dCommand s k v).rcd = s.rcd ∧ (dCommand s k v).boot = s.boot ∧ (dCommand s k v).phr = s.phr ∧
      (dCommand s k v).lpe = s.lpe ∧ (dCommand s k v).trc = s.trc ∧ (dCommand s k v).nrg = s.nrg ∧
      (dCommand s k v).hsb = s.hsb ∧ (dCommand s k v).field.state = s.field.state ∧
      (dCommand s k v).field.link = s.field.link ∧ (dCommand s k v).field.lastFrame = s.field.lastFrame ∧
      (dCommand s k v).field.lastUpd = s.field.lastUpd ∧ (dCommand s k v).field.silence = s.field.silence ∧
      (dCommand s k v).field.silStandby = s.field.silStandby ∧ (dCommand s k v).field.unit = s.field.unit ∧
      (dCommand s k v).field.analog = s.field.analog ∧ (dCommand s k v).field.enc = s.field.enc ∧
      (dCommand s k v).field.cmds = s.field.cmds ∧ (dCommand s k v).field.vflow = s.field.vflow ∧
      (dCommand s k v).field.vfhigh = s.field.vfhigh ∧ (dCommand s k v).field.mv = s.field.mv ∧
      (dCommand s k v).field.lowCnt = s.field.lowCnt ∧ (dCommand s k v).field.silentCnt = s.field.silentCnt ∧
      (dCommand s k v).field.safAt = s.field.safAt ∧ (dCommand s k v).field.stoOn = s.field.stoOn ∧
      (dCommand s k v).field.pulses = s.field.pulses ∧ (dCommand s k v).field.owners = s.field.owners ∧
      (dCommand s k v).can = s.can ∧ (dCommand s k v).saf = s.saf ∧ (dCommand s k v).jrn = s.jrn ∧
      (dCommand s k v).stations = s.stations ∧ (dCommand s k v).sent = s.sent := by
  unfold dCommand
  simp

@[simp] theorem aCommand_rest (s : State) (k : Nat) (w : Word) :
    (aCommand s k w).now = s.now ∧ (aCommand s k w).pending = s.pending ∧ (aCommand s k w).draws = s.draws ∧
      (aCommand s k w).rdata = s.rdata ∧ (aCommand s k w).mem = s.mem ∧ (aCommand s k w).units = s.units ∧
      (aCommand s k w).objs = s.objs ∧ (aCommand s k w).prog = s.prog ∧ (aCommand s k w).img = s.img ∧
      (aCommand s k w).tsk = s.tsk ∧ (aCommand s k w).gz = s.gz ∧ (aCommand s k w).nv = s.nv ∧ (aCommand s k w).rtc = s.rtc ∧
      (aCommand s k w).wdg = s.wdg ∧ (aCommand s k w).frz = s.frz ∧ (aCommand s k w).rcd = s.rcd ∧
      (aCommand s k w).boot = s.boot ∧ (aCommand s k w).phr = s.phr ∧ (aCommand s k w).lpe = s.lpe ∧
      (aCommand s k w).trc = s.trc ∧ (aCommand s k w).nrg = s.nrg ∧ (aCommand s k w).hsb = s.hsb ∧
      (aCommand s k w).field.state = s.field.state ∧ (aCommand s k w).field.link = s.field.link ∧
      (aCommand s k w).field.lastFrame = s.field.lastFrame ∧ (aCommand s k w).field.lastUpd = s.field.lastUpd ∧
      (aCommand s k w).field.silence = s.field.silence ∧ (aCommand s k w).field.silStandby = s.field.silStandby ∧
      (aCommand s k w).field.unit = s.field.unit ∧ (aCommand s k w).field.digital = s.field.digital ∧
      (aCommand s k w).field.enc = s.field.enc ∧ (aCommand s k w).field.cmds = s.field.cmds ∧
      (aCommand s k w).field.vflow = s.field.vflow ∧ (aCommand s k w).field.vfhigh = s.field.vfhigh ∧
      (aCommand s k w).field.mv = s.field.mv ∧ (aCommand s k w).field.lowCnt = s.field.lowCnt ∧
      (aCommand s k w).field.silentCnt = s.field.silentCnt ∧ (aCommand s k w).field.safAt = s.field.safAt ∧
      (aCommand s k w).field.stoOn = s.field.stoOn ∧ (aCommand s k w).field.pulses = s.field.pulses ∧
      (aCommand s k w).field.owners = s.field.owners ∧ (aCommand s k w).can = s.can ∧ (aCommand s k w).saf = s.saf ∧
      (aCommand s k w).jrn = s.jrn ∧ (aCommand s k w).stations = s.stations ∧ (aCommand s k w).sent = s.sent := by
  unfold aCommand
  simp

@[simp] theorem loadSettings_rest (s : State) :
    (loadSettings s).now = s.now ∧ (loadSettings s).pending = s.pending ∧ (loadSettings s).draws = s.draws ∧
      (loadSettings s).rdata = s.rdata ∧ (loadSettings s).regs = s.regs ∧ (loadSettings s).mem = s.mem ∧
      (loadSettings s).units = s.units ∧ (loadSettings s).objs = s.objs ∧ (loadSettings s).prog = s.prog ∧
      (loadSettings s).img = s.img ∧ (loadSettings s).tsk = s.tsk ∧ (loadSettings s).gz = s.gz ∧ (loadSettings s).evc = s.evc ∧
      (loadSettings s).nv = s.nv ∧ (loadSettings s).rtc = s.rtc ∧ (loadSettings s).wdg = s.wdg ∧ (loadSettings s).frz = s.frz ∧
      (loadSettings s).rcd = s.rcd ∧ (loadSettings s).boot = s.boot ∧ (loadSettings s).phr = s.phr ∧
      (loadSettings s).lpe = s.lpe ∧ (loadSettings s).trc = s.trc ∧ (loadSettings s).nrg = s.nrg ∧
      (loadSettings s).hsb = s.hsb ∧ (loadSettings s).field.state = s.field.state ∧
      (loadSettings s).field.link = s.field.link ∧ (loadSettings s).field.lastFrame = s.field.lastFrame ∧
      (loadSettings s).field.lastUpd = s.field.lastUpd ∧ (loadSettings s).field.silStandby = s.field.silStandby ∧
      (loadSettings s).field.unit = s.field.unit ∧ (loadSettings s).field.enc = s.field.enc ∧
      (loadSettings s).field.cmds = s.field.cmds ∧ (loadSettings s).field.vflow = s.field.vflow ∧
      (loadSettings s).field.vfhigh = s.field.vfhigh ∧ (loadSettings s).field.mv = s.field.mv ∧
      (loadSettings s).field.lowCnt = s.field.lowCnt ∧ (loadSettings s).field.silentCnt = s.field.silentCnt ∧
      (loadSettings s).field.safAt = s.field.safAt ∧ (loadSettings s).field.stoOn = s.field.stoOn ∧
      (loadSettings s).field.pulses = s.field.pulses ∧ (loadSettings s).field.owners = s.field.owners ∧
      (loadSettings s).can = s.can ∧ (loadSettings s).saf = s.saf ∧ (loadSettings s).jrn = s.jrn ∧
      (loadSettings s).stations = s.stations ∧ (loadSettings s).sent = s.sent := by
  unfold loadSettings
  simp

@[simp] theorem loadConfig_rest (s : State) :
    (loadConfig s).now = s.now ∧ (loadConfig s).pending = s.pending ∧ (loadConfig s).draws = s.draws ∧
      (loadConfig s).rdata = s.rdata ∧ (loadConfig s).regs = s.regs ∧ (loadConfig s).mem = s.mem ∧
      (loadConfig s).units = s.units ∧ (loadConfig s).objs = s.objs ∧ (loadConfig s).prog = s.prog ∧
      (loadConfig s).img = s.img ∧ (loadConfig s).tsk = s.tsk ∧ (loadConfig s).gz = s.gz ∧ (loadConfig s).evc = s.evc ∧
      (loadConfig s).nv = s.nv ∧ (loadConfig s).rtc = s.rtc ∧ (loadConfig s).wdg = s.wdg ∧ (loadConfig s).frz = s.frz ∧
      (loadConfig s).rcd = s.rcd ∧ (loadConfig s).boot = s.boot ∧ (loadConfig s).phr = s.phr ∧ (loadConfig s).lpe = s.lpe ∧
      (loadConfig s).trc = s.trc ∧ (loadConfig s).nrg = s.nrg ∧ (loadConfig s).hsb = s.hsb ∧
      (loadConfig s).field.link = s.field.link ∧ (loadConfig s).field.lastFrame = s.field.lastFrame ∧
      (loadConfig s).field.lastUpd = s.field.lastUpd ∧ (loadConfig s).field.silStandby = s.field.silStandby ∧
      (loadConfig s).field.cmds = s.field.cmds ∧ (loadConfig s).field.vflow = s.field.vflow ∧
      (loadConfig s).field.vfhigh = s.field.vfhigh ∧ (loadConfig s).field.mv = s.field.mv ∧
      (loadConfig s).field.lowCnt = s.field.lowCnt ∧ (loadConfig s).field.silentCnt = s.field.silentCnt ∧
      (loadConfig s).field.safAt = s.field.safAt ∧ (loadConfig s).field.stoOn = s.field.stoOn ∧
      (loadConfig s).field.pulses = s.field.pulses ∧ (loadConfig s).field.owners = s.field.owners ∧
      (loadConfig s).can = s.can ∧ (loadConfig s).saf = s.saf ∧ (loadConfig s).jrn = s.jrn ∧
      (loadConfig s).stations = s.stations ∧ (loadConfig s).sent = s.sent := by
  unfold loadConfig
  simp

@[simp] theorem enterField_rest (s : State) (st : Nat) :
    (enterField s st).now = s.now ∧ (enterField s st).pending = s.pending ∧ (enterField s st).draws = s.draws ∧
      (enterField s st).rdata = s.rdata ∧ (enterField s st).regs = s.regs ∧ (enterField s st).mem = s.mem ∧
      (enterField s st).units = s.units ∧ (enterField s st).objs = s.objs ∧ (enterField s st).prog = s.prog ∧
      (enterField s st).img = s.img ∧ (enterField s st).tsk = s.tsk ∧ (enterField s st).gz = s.gz ∧
      (enterField s st).evc = s.evc ∧ (enterField s st).nv = s.nv ∧ (enterField s st).rtc = s.rtc ∧
      (enterField s st).wdg = s.wdg ∧ (enterField s st).frz = s.frz ∧ (enterField s st).rcd = s.rcd ∧
      (enterField s st).boot = s.boot ∧ (enterField s st).phr = s.phr ∧ (enterField s st).lpe = s.lpe ∧
      (enterField s st).trc = s.trc ∧ (enterField s st).nrg = s.nrg ∧ (enterField s st).hsb = s.hsb ∧
      (enterField s st).field.link = s.field.link ∧ (enterField s st).field.lastFrame = s.field.lastFrame ∧
      (enterField s st).field.lastUpd = s.field.lastUpd ∧ (enterField s st).field.silence = s.field.silence ∧
      (enterField s st).field.unit = s.field.unit ∧ (enterField s st).field.enc = s.field.enc ∧
      (enterField s st).field.cmds = s.field.cmds ∧ (enterField s st).field.vflow = s.field.vflow ∧
      (enterField s st).field.vfhigh = s.field.vfhigh ∧ (enterField s st).field.mv = s.field.mv ∧
      (enterField s st).field.lowCnt = s.field.lowCnt ∧ (enterField s st).field.silentCnt = s.field.silentCnt ∧
      (enterField s st).field.safAt = s.field.safAt ∧ (enterField s st).field.stoOn = s.field.stoOn ∧
      (enterField s st).field.pulses = s.field.pulses ∧ (enterField s st).field.owners = s.field.owners ∧
      (enterField s st).can = s.can ∧ (enterField s st).saf = s.saf ∧ (enterField s st).jrn = s.jrn ∧
      (enterField s st).stations = s.stations ∧ (enterField s st).sent = s.sent := by
  unfold enterField
  simp

@[simp] theorem fieldReleased_rest (s : State) :
    (fieldReleased s).now = s.now ∧ (fieldReleased s).pending = s.pending ∧ (fieldReleased s).draws = s.draws ∧
      (fieldReleased s).rdata = s.rdata ∧ (fieldReleased s).regs = s.regs ∧ (fieldReleased s).mem = s.mem ∧
      (fieldReleased s).units = s.units ∧ (fieldReleased s).objs = s.objs ∧ (fieldReleased s).prog = s.prog ∧
      (fieldReleased s).img = s.img ∧ (fieldReleased s).tsk = s.tsk ∧ (fieldReleased s).gz = s.gz ∧
      (fieldReleased s).evc = s.evc ∧ (fieldReleased s).nv = s.nv ∧ (fieldReleased s).rtc = s.rtc ∧
      (fieldReleased s).wdg = s.wdg ∧ (fieldReleased s).frz = s.frz ∧ (fieldReleased s).rcd = s.rcd ∧
      (fieldReleased s).boot = s.boot ∧ (fieldReleased s).phr = s.phr ∧ (fieldReleased s).lpe = s.lpe ∧
      (fieldReleased s).trc = s.trc ∧ (fieldReleased s).nrg = s.nrg ∧ (fieldReleased s).hsb = s.hsb ∧
      (fieldReleased s).field.link = s.field.link ∧ (fieldReleased s).field.lastFrame = s.field.lastFrame ∧
      (fieldReleased s).field.lastUpd = s.field.lastUpd ∧ (fieldReleased s).field.silence = s.field.silence ∧
      (fieldReleased s).field.unit = s.field.unit ∧ (fieldReleased s).field.enc = s.field.enc ∧
      (fieldReleased s).field.cmds = s.field.cmds ∧ (fieldReleased s).field.vflow = s.field.vflow ∧
      (fieldReleased s).field.vfhigh = s.field.vfhigh ∧ (fieldReleased s).field.mv = s.field.mv ∧
      (fieldReleased s).field.lowCnt = s.field.lowCnt ∧ (fieldReleased s).field.silentCnt = s.field.silentCnt ∧
      (fieldReleased s).field.safAt = s.field.safAt ∧ (fieldReleased s).field.stoOn = s.field.stoOn ∧
      (fieldReleased s).field.pulses = s.field.pulses ∧ (fieldReleased s).field.owners = s.field.owners ∧
      (fieldReleased s).can = s.can ∧ (fieldReleased s).saf = s.saf ∧ (fieldReleased s).jrn = s.jrn ∧
      (fieldReleased s).stations = s.stations ∧ (fieldReleased s).sent = s.sent := by
  unfold fieldReleased
  simp

@[simp] theorem applyCmd_rest (s : State) (c : FieldCmd) :
    (applyCmd s c).now = s.now ∧ (applyCmd s c).pending = s.pending ∧ (applyCmd s c).draws = s.draws ∧
      (applyCmd s c).rdata = s.rdata ∧ (applyCmd s c).mem = s.mem ∧ (applyCmd s c).units = s.units ∧
      (applyCmd s c).objs = s.objs ∧ (applyCmd s c).prog = s.prog ∧ (applyCmd s c).img = s.img ∧ (applyCmd s c).tsk = s.tsk ∧
      (applyCmd s c).gz = s.gz ∧ (applyCmd s c).nv = s.nv ∧ (applyCmd s c).rtc = s.rtc ∧ (applyCmd s c).wdg = s.wdg ∧
      (applyCmd s c).frz = s.frz ∧ (applyCmd s c).rcd = s.rcd ∧ (applyCmd s c).boot = s.boot ∧ (applyCmd s c).phr = s.phr ∧
      (applyCmd s c).lpe = s.lpe ∧ (applyCmd s c).trc = s.trc ∧ (applyCmd s c).nrg = s.nrg ∧ (applyCmd s c).hsb = s.hsb ∧
      (applyCmd s c).field.link = s.field.link ∧ (applyCmd s c).field.lastFrame = s.field.lastFrame ∧
      (applyCmd s c).field.lastUpd = s.field.lastUpd ∧ (applyCmd s c).field.cmds = s.field.cmds ∧
      (applyCmd s c).field.vflow = s.field.vflow ∧ (applyCmd s c).field.vfhigh = s.field.vfhigh ∧
      (applyCmd s c).field.mv = s.field.mv ∧ (applyCmd s c).field.lowCnt = s.field.lowCnt ∧
      (applyCmd s c).field.silentCnt = s.field.silentCnt ∧ (applyCmd s c).field.safAt = s.field.safAt ∧
      (applyCmd s c).field.stoOn = s.field.stoOn ∧ (applyCmd s c).field.pulses = s.field.pulses ∧
      (applyCmd s c).field.owners = s.field.owners ∧ (applyCmd s c).can = s.can ∧ (applyCmd s c).saf = s.saf ∧
      (applyCmd s c).jrn = s.jrn ∧ (applyCmd s c).stations = s.stations ∧ (applyCmd s c).sent = s.sent := by
  unfold applyCmd
  split <;> simp

@[simp] theorem fieldSupply_rest (s : State) (mv : Nat) :
    (fieldSupply s mv).now = s.now ∧ (fieldSupply s mv).pending = s.pending ∧ (fieldSupply s mv).rdata = s.rdata ∧
      (fieldSupply s mv).regs = s.regs ∧ (fieldSupply s mv).mem = s.mem ∧ (fieldSupply s mv).units = s.units ∧
      (fieldSupply s mv).objs = s.objs ∧ (fieldSupply s mv).prog = s.prog ∧ (fieldSupply s mv).img = s.img ∧
      (fieldSupply s mv).tsk = s.tsk ∧ (fieldSupply s mv).gz = s.gz ∧ (fieldSupply s mv).evc = s.evc ∧
      (fieldSupply s mv).nv = s.nv ∧ (fieldSupply s mv).rtc = s.rtc ∧ (fieldSupply s mv).wdg = s.wdg ∧
      (fieldSupply s mv).frz = s.frz ∧ (fieldSupply s mv).rcd = s.rcd ∧ (fieldSupply s mv).boot = s.boot ∧
      (fieldSupply s mv).phr = s.phr ∧ (fieldSupply s mv).lpe = s.lpe ∧ (fieldSupply s mv).trc = s.trc ∧
      (fieldSupply s mv).nrg = s.nrg ∧ (fieldSupply s mv).hsb = s.hsb ∧ (fieldSupply s mv).field.state = s.field.state ∧
      (fieldSupply s mv).field.link = s.field.link ∧ (fieldSupply s mv).field.lastFrame = s.field.lastFrame ∧
      (fieldSupply s mv).field.lastUpd = s.field.lastUpd ∧ (fieldSupply s mv).field.silence = s.field.silence ∧
      (fieldSupply s mv).field.silStandby = s.field.silStandby ∧ (fieldSupply s mv).field.unit = s.field.unit ∧
      (fieldSupply s mv).field.digital = s.field.digital ∧ (fieldSupply s mv).field.analog = s.field.analog ∧
      (fieldSupply s mv).field.enc = s.field.enc ∧ (fieldSupply s mv).field.cmds = s.field.cmds ∧
      (fieldSupply s mv).field.lowCnt = s.field.lowCnt ∧ (fieldSupply s mv).field.silentCnt = s.field.silentCnt ∧
      (fieldSupply s mv).field.safAt = s.field.safAt ∧ (fieldSupply s mv).field.stoOn = s.field.stoOn ∧
      (fieldSupply s mv).field.pulses = s.field.pulses ∧ (fieldSupply s mv).field.owners = s.field.owners ∧
      (fieldSupply s mv).can = s.can ∧ (fieldSupply s mv).saf = s.saf ∧ (fieldSupply s mv).jrn = s.jrn ∧
      (fieldSupply s mv).stations = s.stations ∧ (fieldSupply s mv).sent = s.sent := by
  unfold fieldSupply
  simp [State.drawBit]

@[simp] theorem fieldUpdated_rest (s : State) (lowCurrent cooled : Word) (vfieldMv : Nat) :
    (fieldUpdated s lowCurrent cooled vfieldMv).now = s.now ∧ (fieldUpdated s lowCurrent cooled vfieldMv).pending = s.pending ∧
      (fieldUpdated s lowCurrent cooled vfieldMv).rdata = s.rdata ∧ (fieldUpdated s lowCurrent cooled vfieldMv).mem = s.mem ∧
      (fieldUpdated s lowCurrent cooled vfieldMv).units = s.units ∧ (fieldUpdated s lowCurrent cooled vfieldMv).objs = s.objs ∧
      (fieldUpdated s lowCurrent cooled vfieldMv).prog = s.prog ∧ (fieldUpdated s lowCurrent cooled vfieldMv).img = s.img ∧
      (fieldUpdated s lowCurrent cooled vfieldMv).tsk = s.tsk ∧ (fieldUpdated s lowCurrent cooled vfieldMv).gz = s.gz ∧
      (fieldUpdated s lowCurrent cooled vfieldMv).nv = s.nv ∧ (fieldUpdated s lowCurrent cooled vfieldMv).rtc = s.rtc ∧
      (fieldUpdated s lowCurrent cooled vfieldMv).wdg = s.wdg ∧ (fieldUpdated s lowCurrent cooled vfieldMv).frz = s.frz ∧
      (fieldUpdated s lowCurrent cooled vfieldMv).rcd = s.rcd ∧ (fieldUpdated s lowCurrent cooled vfieldMv).boot = s.boot ∧
      (fieldUpdated s lowCurrent cooled vfieldMv).phr = s.phr ∧ (fieldUpdated s lowCurrent cooled vfieldMv).lpe = s.lpe ∧
      (fieldUpdated s lowCurrent cooled vfieldMv).trc = s.trc ∧ (fieldUpdated s lowCurrent cooled vfieldMv).nrg = s.nrg ∧
      (fieldUpdated s lowCurrent cooled vfieldMv).hsb.unit = s.hsb.unit ∧
      (fieldUpdated s lowCurrent cooled vfieldMv).hsb.role = s.hsb.role ∧
      (fieldUpdated s lowCurrent cooled vfieldMv).field.state = s.field.state ∧
      (fieldUpdated s lowCurrent cooled vfieldMv).field.link = s.field.link ∧
      (fieldUpdated s lowCurrent cooled vfieldMv).field.lastFrame = s.field.lastFrame ∧
      (fieldUpdated s lowCurrent cooled vfieldMv).field.lastUpd = s.field.lastUpd ∧
      (fieldUpdated s lowCurrent cooled vfieldMv).field.silence = s.field.silence ∧
      (fieldUpdated s lowCurrent cooled vfieldMv).field.silStandby = s.field.silStandby ∧
      (fieldUpdated s lowCurrent cooled vfieldMv).field.unit = s.field.unit ∧
      (fieldUpdated s lowCurrent cooled vfieldMv).field.enc = s.field.enc ∧
      (fieldUpdated s lowCurrent cooled vfieldMv).field.cmds = s.field.cmds ∧
      (fieldUpdated s lowCurrent cooled vfieldMv).field.lowCnt = s.field.lowCnt ∧
      (fieldUpdated s lowCurrent cooled vfieldMv).field.silentCnt = s.field.silentCnt ∧
      (fieldUpdated s lowCurrent cooled vfieldMv).field.safAt = s.field.safAt ∧
      (fieldUpdated s lowCurrent cooled vfieldMv).field.stoOn = s.field.stoOn ∧
      (fieldUpdated s lowCurrent cooled vfieldMv).field.pulses = s.field.pulses ∧
      (fieldUpdated s lowCurrent cooled vfieldMv).field.owners = s.field.owners ∧
      (fieldUpdated s lowCurrent cooled vfieldMv).can = s.can ∧ (fieldUpdated s lowCurrent cooled vfieldMv).saf = s.saf ∧
      (fieldUpdated s lowCurrent cooled vfieldMv).jrn = s.jrn ∧
      (fieldUpdated s lowCurrent cooled vfieldMv).stations = s.stations ∧
      (fieldUpdated s lowCurrent cooled vfieldMv).sent = s.sent := by
  unfold fieldUpdated
  simp

end Sys2Proof.Machine
end

section
/-!
SUPPORT. Registers: an event and a record change no register but those of the recorder and the event controller.
-/
namespace Sys2Proof.Machine

/-- The first register of the recorder: in those from there on the recorder and the event controller keep their counts. -/
def recorderRegs : Nat := 0xF0130000

/-- An event changes no register before the recorder's. -/
theorem raise_reg {s : State} {n a : Nat} (h : a < recorderRegs) : (s.raise n).reg a = s.reg a := by
  have h1 : a ≠ EVC_OVFCNT := by simp only [recorderRegs, EVC_OVFCNT] at *; omega
  have h2 : a ≠ EVC_STAT_LASTOVF.addr := by simp only [recorderRegs, EVC_STAT_LASTOVF, EVC_STAT] at *; omega
  unfold State.raise State.latch
  dsimp only
  split
  · rfl
  · split
    · show (State.countMerge s n).reg a = _
      rw [State.countMerge, reg_setFld_ne _ _ _ _ h2]
      exact reg_setFld_ne _ _ _ _ h1
    · rfl

theorem count32_reg {s : State} {b n a : Nat} (h : a ≠ b) : (s.count32 b n).reg a = s.reg a :=
  reg_setFld_ne _ _ _ _ h

theorem recLost_reg {s : State} {sev a : Nat} (h : a < recorderRegs) : (recLost s sev).reg a = s.reg a := by
  refine count32_reg ?_
  simp only [recorderRegs, REC_LOST] at *
  omega

theorem recStore_reg {s : State} {e : RecEntry} {a : Nat} (h : a < recorderRegs) : (recStore s e).1.reg a = s.reg a := by
  unfold recStore
  split
  · exact recLost_reg h
  · split
    · exact recLost_reg h
    · simp only [State.reg]

/-- A record changes no register before the recorder's. -/
theorem recordR_reg {s : State} {code sev kind num a : Nat} {words : List Word} (h : a < recorderRegs) :
    (recordR s code sev kind num words).1.reg a = s.reg a := by
  unfold recordR
  split
  · have hne : a ≠ REC_SUPPR := by simp only [recorderRegs, REC_SUPPR] at *; omega
    simpa only [State.reg] using count32_reg (s := s) (n := 1) hne
  · extract_lets r0 t ws e r
    have ht : t.reg a = s.reg a := by
      simp only [t]
      split <;> simp only [State.reg]
    split
    · split
      · simpa only [State.reg] using ht
      · exact (recLost_reg h).trans ht
    · exact (recStore_reg h).trans ht

theorem record_reg {s : State} {code sev kind num a : Nat} {words : List Nat} (h : a < recorderRegs) :
    (s.record code sev kind num words).reg a = s.reg a := recordR_reg h

theorem flag_of_reg {s t : State} {f : Fld} (h : t.reg f.addr = s.reg f.addr) : t.flag f = s.flag f := by
  simp only [State.flag, State.fld, h]

theorem fld_of_reg {s t : State} {f : Fld} (h : t.reg f.addr = s.reg f.addr) : t.fld f = s.fld f := by
  simp only [State.fld, h]
end Sys2Proof.Machine
end

section
/-!
PROOF. FieldSide: the field side's update, silence and V_FIELD (R527 to R532, R542).
-/
namespace Sys2Proof.Machine

open Host (Outcome)

/-! ### Digital drivers (R527, R528, R542) -/

/-- A driver is on only where it is commanded, not latched off, and V_FIELD is not too high. -/
def Driven (k : Nat) (s : State) : Prop :=
  (s.dchan k).driver = true → (s.dchan k).latched = false ∧ s.field.vfhigh = false ∧ dWant s.field k (s.dchan k) = true

/-- Two field sides command their channels alike: state, standby pattern, unit, safety outputs and pulses, and V_FIELD too high. -/
def SameDrive (f g : FieldState) : Prop :=
  f.state = g.state ∧ f.silStandby = g.silStandby ∧ f.unit = g.unit ∧ f.stoOn = g.stoOn ∧ f.pulses = g.pulses ∧ f.vfhigh = g.vfhigh

theorem allOff_eq {f g : FieldState} (h : SameDrive f g) : allOff f = allOff g := by
  obtain ⟨hst, hsil, -⟩ := h
  simp only [allOff, hst, hsil]

theorem dWant_eq {f g : FieldState} (h : SameDrive f g) (k : Nat) (c : DChan) : dWant f k c = dWant g k c := by
  obtain ⟨hst, -, hunit, hsto, hpul, -⟩ := id h
  simp only [dWant, allOff_eq h, dSafe, hst, hunit, hsto, hpul]

theorem aWant_eq {f g : FieldState} (h : SameDrive f g) (c : AChan) : aWant f c = aWant g c := by
  obtain ⟨hst, -, hunit, -⟩ := id h
  simp only [aWant, allOff_eq h, hst, hunit]

theorem SameDrive.rfl {f : FieldState} : SameDrive f f := ⟨.refl _, .refl _, .refl _, .refl _, .refl _, .refl _⟩

theorem Driven.of_same {k : Nat} {s t : State} (h : Driven k s) (hchan : t.dchan k = s.dchan k) (hf : SameDrive t.field s.field) :
    Driven k t := by
  intro ht
  rw [hchan] at ht ⊢
  obtain ⟨hlatch, hhigh, hwant⟩ := h ht
  exact ⟨hlatch, hf.2.2.2.2.2.trans hhigh, (dWant_eq hf k _).trans hwant⟩

/-- Commanding a channel again to what it is commanded gives the same. -/
theorem dWant_again (f : FieldState) (k : Nat) (c : DChan) (n : Nat) (b : Bool) :
    dWant f k { c with want := dWant f k c, wantAt := n, driver := b } = dWant f k c := by
  unfold dWant dSafe
  split_ifs <;> rfl

theorem dDrive_dchan (s : State) (k : Nat) : (dDrive s k).dchan k =
    { s.dchan k with
      want := dWant s.field k (s.dchan k),
      wantAt := if dWant s.field k (s.dchan k) = (s.dchan k).want then (s.dchan k).wantAt else s.now,
      driver := dWant s.field k (s.dchan k) && !(s.dchan k).latched && !s.field.vfhigh } := State.dchan_setDchan s k _

theorem dDrive_same (s : State) (k : Nat) : SameDrive (dDrive s k).field s.field := by
  simp [SameDrive]

theorem dDrive_driven (s : State) (k : Nat) : Driven k (dDrive s k) := by
  intro ht
  rw [dDrive_dchan] at ht ⊢
  simp only [Bool.and_eq_true, Bool.not_eq_true'] at ht
  obtain ⟨⟨hwant, hlatch⟩, hhigh⟩ := ht
  refine ⟨hlatch, by simpa using hhigh, ?_⟩
  rw [dWant_eq (dDrive_same s k), dWant_again, hwant]

/-! ### What an operation on one channel leaves of the others -/

theorem dDrive_dchan_ne {s : State} {k j : Nat} (h : j ≠ k) : (dDrive s k).dchan j = s.dchan j :=
  State.dchan_setDchan_ne s k j _ h

theorem raise_dchan (s : State) (n j : Nat) : (s.raise n).dchan j = s.dchan j := by
  simp [State.dchan]

theorem raise_achan (s : State) (n j : Nat) : (s.raise n).achan j = s.achan j := by
  simp [State.achan]

theorem dLive_dchan_ne {s : State} {k j : Nat} (b : Nat) (h : j ≠ k) : (dLive s k b).dchan j = s.dchan j := by
  unfold dLive
  dsimp only
  split
  · rw [raise_dchan, State.dchan_setDchan_ne _ _ _ _ h]
  · exact State.dchan_setDchan_ne _ _ _ _ h

theorem dChange_dchan_ne {s : State} {k j : Nat} (h : j ≠ k) : (dChange s k).dchan j = s.dchan j := by
  unfold dChange
  dsimp only
  split
  · rw [raise_dchan, State.dchan_setDchan_ne _ _ _ _ h]
  · exact State.dchan_setDchan_ne _ _ _ _ h

/-- An update of a channel ends with its drive, and changes no other channel. -/
theorem dUpdate_drives (s : State) (low cooled : Word) (k : Nat) :
    ∃ t, dUpdate s low cooled k = dDrive t k ∧ ∀ j, j ≠ k → t.dchan j = s.dchan j := by
  unfold dUpdate
  extract_lets c lo opn since a b c1 d c2 off e
  clear_value since
  refine ⟨e, rfl, fun j hj => ?_⟩
  have ha : a.dchan j = s.dchan j := State.dchan_setDchan_ne _ _ _ _ hj
  have hb : b.dchan j = s.dchan j := by
    simp only [b]
    split
    · split
      · rw [dLive_dchan_ne _ hj, ha]
      · exact ha
    · exact ha
  have hd : d.dchan j = s.dchan j := by
    simp only [d]
    split
    · split
      · rw [dChange_dchan_ne hj, hb]
      · exact hb
    · exact hb
  simp only [e]
  split
  · rw [State.dchan_setDchan_ne _ _ _ _ hj, hd]
  · exact hd

theorem dUpdate_same (s : State) (low cooled : Word) (k : Nat) : SameDrive (dUpdate s low cooled k).field s.field := by
  simp [SameDrive]

theorem dUpdate_driven (s : State) (low cooled : Word) (k : Nat) : Driven k (dUpdate s low cooled k) := by
  obtain ⟨t, ht, -⟩ := dUpdate_drives s low cooled k
  rw [ht]
  exact dDrive_driven t k

theorem Driven.dUpdate {k : Nat} {s : State} (h : Driven k s) (low cooled : Word) (j : Nat) : Driven k (dUpdate s low cooled j) := by
  rcases eq_or_ne k j with rfl | hne
  · exact dUpdate_driven s low cooled k
  · obtain ⟨t, ht, hchan⟩ := dUpdate_drives s low cooled j
    exact h.of_same (by rw [ht, dDrive_dchan_ne hne, hchan k hne]) (dUpdate_same s low cooled j)

theorem Driven.dDrive {k : Nat} {s : State} (h : Driven k s) (j : Nat) : Driven k (dDrive s j) := by
  rcases eq_or_ne k j with rfl | hne
  · exact dDrive_driven s k
  · exact h.of_same (dDrive_dchan_ne hne) (dDrive_same s j)

theorem dchan_of_digital {s t : State} (h : t.field.digital = s.field.digital) (k : Nat) : t.dchan k = s.dchan k := by
  simp only [State.dchan, h]

theorem achan_of_analog {s t : State} (h : t.field.analog = s.field.analog) (k : Nat) : t.achan k = s.achan k := by
  simp only [State.achan, h]

theorem aDrive_same (s : State) (k : Nat) : SameDrive (aDrive s k).field s.field := by
  simp [SameDrive]

theorem Driven.aDrive {k : Nat} {s : State} (h : Driven k s) (j : Nat) : Driven k (aDrive s j) :=
  h.of_same (dchan_of_digital (by simp) k) (aDrive_same s j)

/-! ### Analogue stages (R531) -/

/-- A stage is off in INIT and in the standby pattern. -/
def OffInPattern (k : Nat) (s : State) : Prop := allOff s.field = true → (s.achan k).on = false

theorem aLive_on (s : State) (k b j : Nat) : ((aLive s k b).achan j).on = (s.achan j).on := by
  have hset (c : AChan) (h : c.on = (s.achan k).on) : ((s.setAchan k c).achan j).on = (s.achan j).on := by
    rcases eq_or_ne j k with rfl | hne
    · rw [State.achan_setAchan, h]
    · rw [State.achan_setAchan_ne _ _ _ _ hne]
  unfold aLive
  dsimp only
  split
  · rw [raise_achan]
    exact hset _ rfl
  · exact hset _ rfl

theorem aLiveOff_on (s : State) (k b j : Nat) : ((aLiveOff s k b).achan j).on = (s.achan j).on := by
  unfold aLiveOff
  rcases eq_or_ne j k with rfl | hne
  · rw [State.achan_setAchan]
  · rw [State.achan_setAchan_ne _ _ _ _ hne]

theorem aAlarm_on (s : State) (k j : Nat) : ((aAlarm s k).achan j).on = (s.achan j).on := by
  unfold aAlarm
  dsimp only
  split
  · rfl
  · split
    · exact aLive_on s k 2 j
    · exact aLiveOff_on s k 2 j

theorem aDrive_off (s : State) (k : Nat) : OffInPattern k (aDrive s k) := by
  intro hoff
  rw [allOff_eq (aDrive_same s k)] at hoff
  unfold aDrive
  rw [aAlarm_on, State.achan_setAchan]
  simp [aWant, hoff]

/-- A stage's drive leaves the others on or off as they are. -/
theorem aDrive_on_ne {s : State} {k j : Nat} (h : j ≠ k) : ((aDrive s k).achan j).on = (s.achan j).on := by
  unfold aDrive
  rw [aAlarm_on, State.achan_setAchan_ne _ _ _ _ h]

theorem OffInPattern.aDrive {k : Nat} {s : State} (h : OffInPattern k s) (j : Nat) : OffInPattern k (aDrive s j) := by
  rcases eq_or_ne k j with rfl | hne
  · exact aDrive_off s k
  · intro hoff
    rw [allOff_eq (aDrive_same s j)] at hoff
    rw [aDrive_on_ne hne]
    exact h hoff

/-! ### An update of the field side (R527, R528) -/

/-- The second half of an update: every analogue stage is driven anew, without what a trim drives. -/
def analogUpdate (s : State) (k : Nat) : State :=
  aDrive (s.setAchan k { s.achan k with trimUa := (s.achan k).trim.map (·.1) }) k

theorem analogUpdate_same (s : State) (k : Nat) : SameDrive (analogUpdate s k).field s.field := by
  simp [SameDrive, analogUpdate]

theorem OffInPattern.analogUpdate {k : Nat} {s : State} (h : OffInPattern k s) (j : Nat) :
    OffInPattern k (analogUpdate s j) := by
  rcases eq_or_ne k j with rfl | hne
  · exact aDrive_off _ k
  · refine OffInPattern.aDrive (fun hoff => ?_) j
    rw [State.achan_setAchan_ne _ _ _ _ hne]
    exact h hoff

/-- The update of the channels, once the supply has been compared. -/
def channelsUpdated (s : State) (low cooled : Word) : State :=
  (List.range 8).foldl analogUpdate ((List.range 32).foldl (fun s k => dUpdate s low cooled k) s)

theorem fieldUpdated_eq (s : State) (low cooled : Word) (mv : Nat) :
    fieldUpdated s low cooled mv =
      let t := channelsUpdated (fieldSupply s mv) low cooled
      if t.field.state = fsStandby && t.field.link then prove t 0x0A else t := by
  unfold fieldUpdated channelsUpdated analogUpdate
  with_reducible rfl

theorem foldl_keeps_prop {α : Type} {P : State → Prop} {f : State → α → State} (hkeeps : ∀ s x, P s → P (f s x)) (xs : List α)
    {s : State} (h : P s) : P (xs.foldl f s) :=
  List.foldlRecOn xs f (motive := P) h fun t ht x _ => hkeeps t x ht

theorem channelsUpdated_driven (s : State) (low cooled : Word) {k : Nat} (hk : k < 32) :
    Driven k (channelsUpdated s low cooled) :=
  foldl_keeps_prop (P := Driven k)
    (fun t j h => (h.of_same (t := t.setAchan j _) (dchan_of_digital (by simp) k) (by simp [SameDrive])).aDrive j) _ <|
    foldl_establishes (P := Driven k) (f := fun s k => dUpdate s low cooled k) (fun t => dUpdate_driven t low cooled k)
      (fun t j h => h.dUpdate low cooled j) (List.mem_range.mpr hk) s

theorem channelsUpdated_off (s : State) (low cooled : Word) {k : Nat} (hk : k < 8) :
    OffInPattern k (channelsUpdated s low cooled) :=
  foldl_establishes (P := OffInPattern k) (f := analogUpdate) (fun _ => aDrive_off _ k) (fun _ j h => h.analogUpdate j) (List.mem_range.mpr hk) _

/-- What is so of an updated field side, before the standby pattern is proven. -/
theorem fieldUpdated_of {P : State → Prop} (s : State) (low cooled : Word) (mv : Nat)
    (hprove : ∀ t, P t → P (prove t 0x0A)) (h : P (channelsUpdated (fieldSupply s mv) low cooled)) :
    P (fieldUpdated s low cooled mv) := by
  rw [fieldUpdated_eq]
  dsimp only
  split
  · exact hprove _ h
  · exact h

theorem driver_of_allOff {s : State} {k : Nat} (hdriven : Driven k s) (hoff : allOff s.field = true) :
    (s.dchan k).driver = false := by
  by_contra hon
  obtain ⟨-, -, hwant⟩ := hdriven (by simpa using hon)
  simp [dWant, hoff] at hwant

/-- The comparison of V_FIELD with the thresholds of too low, and with those of too high. -/
def supplyLow (s : State) (mv : Nat) : State :=
  if !s.field.vflow || mv ≤ 18100 then s
  else if mv > 18900 then s.modField fun f => { f with vflow := false }
  else s.drawBit.2.modField fun f => { f with vflow := s.drawBit.1 }

def supplyHigh (s : State) (mv : Nat) : State :=
  if !s.field.vfhigh || mv ≥ 32000 then s
  else if mv < 30000 then s.modField fun f => { f with vfhigh := false }
  else s.drawBit.2.modField fun f => { f with vfhigh := s.drawBit.1 }

theorem fieldSupply_eq (s : State) (mv : Nat) :
    fieldSupply s mv = supplyHigh (supplyLow (s.modField fun f => { f with mv := mv }) mv) mv := rfl

theorem supplyLow_says (s : State) (mv : Nat) :
    (supplyLow s mv).field.mv = s.field.mv ∧ (supplyLow s mv).field.vfhigh = s.field.vfhigh ∧
      (18900 < mv → (supplyLow s mv).field.vflow = false) ∧
      (mv ≤ 18100 → (supplyLow s mv).field.vflow = s.field.vflow) := by
  unfold supplyLow
  split
  · rename_i h
    refine ⟨rfl, rfl, fun hmv => ?_, fun _ => rfl⟩
    simpa [show ¬mv ≤ 18100 by omega] using h
  · rename_i h
    have hmv : ¬mv ≤ 18100 := by simp at h; omega
    split
    · exact ⟨rfl, rfl, fun _ => rfl, fun h => absurd h hmv⟩
    · exact ⟨rfl, rfl, fun h => absurd h (by assumption), fun h => absurd h hmv⟩

theorem supplyHigh_says (s : State) (mv : Nat) :
    (supplyHigh s mv).field.mv = s.field.mv ∧ (supplyHigh s mv).field.vflow = s.field.vflow ∧
      (mv < 30000 → (supplyHigh s mv).field.vfhigh = false) ∧
      (32000 ≤ mv → (supplyHigh s mv).field.vfhigh = s.field.vfhigh) := by
  unfold supplyHigh
  split
  · rename_i h
    refine ⟨rfl, rfl, fun hmv => ?_, fun _ => rfl⟩
    simpa [show ¬32000 ≤ mv by omega] using h
  · rename_i h
    have hmv : ¬32000 ≤ mv := by simp at h; omega
    split
    · exact ⟨rfl, rfl, fun _ => rfl, fun h => absurd h hmv⟩
    · exact ⟨rfl, rfl, fun h => absurd h (by assumption), fun h => absurd h hmv⟩

/-- The comparison of V_FIELD with its thresholds, outside their tolerance. -/
theorem fieldSupply_says (s : State) (mv : Nat) :
    (fieldSupply s mv).field.mv = mv ∧ (18900 < mv → (fieldSupply s mv).field.vflow = false) ∧
      (mv < 30000 → (fieldSupply s mv).field.vfhigh = false) ∧
      (mv ≤ 18100 → (fieldSupply s mv).field.vflow = s.field.vflow) ∧
      (32000 ≤ mv → (fieldSupply s mv).field.vfhigh = s.field.vfhigh) := by
  obtain ⟨hmv, hhigh, hlow, hlowKept⟩ := supplyLow_says (s.modField fun f => { f with mv := mv }) mv
  obtain ⟨hmv', hflow, hhigh', hhighKept⟩ := supplyHigh_says (supplyLow (s.modField fun f => { f with mv := mv }) mv) mv
  rw [fieldSupply_eq]
  exact ⟨hmv'.trans hmv, fun h => hflow.trans (hlow h), hhigh', fun h => hflow.trans (hlowKept h),
    fun h => (hhighKept h).trans hhigh⟩

/-! ### The commands (R527 to R532) -/

theorem channelsUpdated_field (s : State) (low cooled : Word) :
    (channelsUpdated s low cooled).field.mv = s.field.mv ∧ (channelsUpdated s low cooled).field.vflow = s.field.vflow ∧
      (channelsUpdated s low cooled).field.vfhigh = s.field.vfhigh := by
  simp [channelsUpdated, analogUpdate]

/-- What an update leaves of the supply: V_FIELD as it was compared with its thresholds. -/
theorem fieldUpdated_supply (s : State) (low cooled : Word) (mv : Nat) :
    (fieldUpdated s low cooled mv).field.mv = (fieldSupply s mv).field.mv ∧
      (fieldUpdated s low cooled mv).field.vflow = (fieldSupply s mv).field.vflow ∧
      (fieldUpdated s low cooled mv).field.vfhigh = (fieldSupply s mv).field.vfhigh :=
  fieldUpdated_of (P := fun t => t.field.mv = (fieldSupply s mv).field.mv ∧ t.field.vflow = (fieldSupply s mv).field.vflow ∧
    t.field.vfhigh = (fieldSupply s mv).field.vfhigh) s low cooled mv (fun _ h => h) (channelsUpdated_field _ low cooled)

/-- The commands that had come in are taken, with the publications that fall due. -/
def commandsTaken (s : State) : State :=
  let t := (s.at (updateAt s)).modField fun f => { f with lastUpd := some (s.at (updateAt s)).now, cmds := [] }
  s.field.cmds.foldl applyCmd (if t.running && !halted t then publishDue t t.now else t)

theorem fieldSideUpdate_updates (low cooled : Word) (mv : Nat) (s : State) :
    exec (.fieldSideUpdate low cooled mv) s = .next (fieldUpdated (commandsTaken s) low cooled mv) := rfl

theorem updateAt_says (s : State) : s.now ≤ updateAt s ∧ updateAt s % 50000 = 0 := by
  unfold updateAt
  split <;> omega

/-- Where no publication falls due, taking the commands is all. -/
theorem commandsTaken_quiet {s : State} (h : s.running = false ∨ publicationsDue s (updateAt s) = []) :
    (commandsTaken s).field.lastUpd = some (updateAt s) ∧ (commandsTaken s).field.cmds = [] ∧
      (commandsTaken s).now = updateAt s ∧ (commandsTaken s).field.vflow = s.field.vflow ∧
      (commandsTaken s).field.vfhigh = s.field.vfhigh := by
  have hnow : (s.at (updateAt s)).now = updateAt s := max_eq_right (updateAt_says s).1
  unfold commandsTaken
  extract_lets t
  have hquiet : (if (t.running && !halted t) = true then publishDue t t.now else t) = t := by
    rcases h with hstop | hnone
    · have hrun : t.running = false := hstop
      simp [hrun]
    · have hdue : publicationsDue t t.now = [] := by
        rw [show t.now = updateAt s from hnow]
        exact hnone
      simp [publishDue, hdue]
  rw [hquiet]
  have hcmds (u : State) : (s.field.cmds.foldl applyCmd u).field.lastUpd = u.field.lastUpd ∧
      (s.field.cmds.foldl applyCmd u).field.cmds = u.field.cmds ∧ (s.field.cmds.foldl applyCmd u).now = u.now ∧
      (s.field.cmds.foldl applyCmd u).field.vflow = u.field.vflow ∧
      (s.field.cmds.foldl applyCmd u).field.vfhigh = u.field.vfhigh := by
    simp
  obtain ⟨hlast, hcmd, hat, hlow, hhigh⟩ := hcmds t
  exact ⟨hlast.trans (congrArg some hnow), hcmd, hat.trans hnow, hlow, hhigh⟩

/-- While the link is down a fault of an analogue channel raises no event: its drive changes no register. -/
theorem aLive_regs {s : State} (k b : Nat) (h : s.field.link = false) : (aLive s k b).regs = s.regs := by
  simp [aLive, h]

theorem aAlarm_regs {s : State} (k : Nat) (h : s.field.link = false) : (aAlarm s k).regs = s.regs := by
  unfold aAlarm
  dsimp only
  split
  · rfl
  · split
    · exact aLive_regs k 2 h
    · rfl

theorem driveAll_regs {s : State} (h : s.field.link = false) : (driveAll s).regs = s.regs := by
  have hdigital : ((List.range 32).foldl dDrive s).regs = s.regs ∧ ((List.range 32).foldl dDrive s).field.link = false := by
    simp [h]
  refine (foldl_keeps_prop (P := fun t : State => t.regs = s.regs ∧ t.field.link = false) (f := aDrive) (fun t k ht => ?_)
    (List.range 8) hdigital).1
  obtain ⟨hregs, hlink⟩ := ht
  exact ⟨(aAlarm_regs (s := t.setAchan k _) k hlink).trans hregs, by simpa using hlink⟩

theorem driveAll_driven (s : State) {k : Nat} (hk : k < 32) : Driven k (driveAll s) :=
  foldl_keeps_prop (P := Driven k) (f := aDrive) (fun _ j h => h.aDrive j) _ <|
    foldl_establishes (P := Driven k) (f := dDrive) (fun t => dDrive_driven t k) (fun _ j h => h.dDrive j) (List.mem_range.mpr hk) s

theorem driveAll_off (s : State) {k : Nat} (hk : k < 8) : OffInPattern k (driveAll s) := by
  show OffInPattern k ((List.range 8).foldl aDrive ((List.range 32).foldl dDrive s))
  generalize (List.range 32).foldl dDrive s = t
  exact foldl_establishes (P := OffInPattern k) (f := aDrive) (fun t => aDrive_off t k) (fun _ j h => h.aDrive j)
    (List.mem_range.mpr hk) t

/-- The field side falls silent, in the standby pattern where it held that. -/
def silent (s : State) : State :=
  (s.at (s.field.lastFrame + s.field.silence * 1000000)).modField fun f => { f with
    silStandby := f.state == fsStandby, state := fsSilent, link := false, silentCnt := f.silentCnt + 1 }

theorem silenceTimeout_silent {s : State} (h1 : s.field.state ≠ fsInit) (h2 : s.field.state ≠ fsSilent) :
    exec .silenceTimeout s = .next (driveAll (silent s)) :=
  (if_neg (by simp [h1, h2])).trans rfl

theorem silenceTimeout_idle {s : State} (h : s.field.state = fsInit ∨ s.field.state = fsSilent) :
    exec .silenceTimeout s = .next s := if_pos h

theorem allOff_silent {s : State} (h : s.field.state = fsStandby) : allOff (driveAll (silent s)).field = true := by
  simp [allOff, silent, h]

/-- A frame of the link, and whether it ends a silence. -/
theorem linkFrame_takes {s : State} (hheld : s.boot.held = false) (hfrz : s.frz.frozen = false) :
    exec .linkFrame s = .next (if (!s.field.link && s.field.state == fsSilent) = true
      then (((s.modField fun f => { f with link := true, lastFrame := s.now }).setFlag DIO_FSTAT_SILENTSEEN true).raise 43).record
        0x0600 2 0 0 []
      else s.modField fun f => { f with link := true, lastFrame := s.now }) :=
  (if_neg (by simp [hheld, hfrz])).trans rfl

theorem silentSeen_kept (s : State) : (((s.setFlag DIO_FSTAT_SILENTSEEN true).raise 43).record 0x0600 2 0 0 []).flag
    DIO_FSTAT_SILENTSEEN = true := by
  have hbelow : DIO_FSTAT_SILENTSEEN.addr < recorderRegs := by decide
  rw [flag_of_reg (record_reg hbelow), flag_of_reg (raise_reg hbelow)]
  exact flag_setFlag_true s _ (by decide) (by decide)

/-- V_FIELD fell below its limit: counted, and shown on a module that is not held. -/
def lowSupply (s : State) (mv : Nat) : State :=
  let t := s.modField fun f => { f with vflow := true, mv := mv, lowCnt := f.lowCnt + 1 }
  if s.boot.held then t else t.setFlag DIO_FSTAT_VFLOWSEEN true

theorem vflow_comes {s : State} {mv : Nat} (hmv : mv < 18400) (h : s.field.vflow = false) :
    exec (.vflow mv) s = .next (if s.field.link then (lowSupply s mv).raise 42 else lowSupply s mv) := by
  show execVflow mv s = _
  rw [execVflow, if_neg (by simp [h]; omega)]
  cases hheld : s.boot.held <;> simp [lowSupply, hheld]

@[simp] theorem lowSupply_rest (s : State) (mv : Nat) :
    (lowSupply s mv).field = { s.field with vflow := true, mv := mv, lowCnt := s.field.lowCnt + 1 } ∧
      (lowSupply s mv).mem = s.mem ∧ (lowSupply s mv).img = s.img := by
  unfold lowSupply
  cases s.boot.held <;> simp [State.modField]

theorem lowSupply_shown {s : State} (mv : Nat) (hheld : s.boot.held = false) :
    (lowSupply s mv).flag DIO_FSTAT_VFLOWSEEN = true := by
  simp only [lowSupply, hheld]
  exact flag_setFlag_true _ _ (by decide) (by decide)

theorem lowSupply_held {s : State} (mv : Nat) (hheld : s.boot.held = true) : (lowSupply s mv).regs = s.regs := by
  simp [lowSupply, hheld]

theorem vfhigh_comes {s : State} {mv : Nat} (hmv : 31000 < mv) (h : s.field.vfhigh = false) :
    exec (.vfhigh mv) s = .next (driveAll (s.modField fun f => { f with vfhigh := true, mv := mv })) :=
  (if_neg (by simp [h]; omega)).trans rfl

/-- Settles O51: an update by what each channel ends with, silence, link and supply by their equations. -/
theorem fieldSide : Obligations.FieldSide := by
  refine ⟨?_, ?_, ?_, fun s => silenceTimeout_idle, ?_, ?_⟩
  · intro low cooled mv s
    refine ⟨_, fieldSideUpdate_updates low cooled mv s, ?_⟩
    obtain ⟨hmv, hlow, hhigh⟩ := fieldUpdated_supply (commandsTaken s) low cooled mv
    obtain ⟨hsmv, hslow, hshigh, hslowKept, hshighKept⟩ := fieldSupply_says (commandsTaken s) mv
    have hdriven (k : Nat) (hk : k < 32) : Driven k (fieldUpdated (commandsTaken s) low cooled mv) :=
      fieldUpdated_of (P := Driven k) _ low cooled mv (fun _ h => h) (channelsUpdated_driven _ low cooled hk)
    have hoff (k : Nat) (hk : k < 8) : OffInPattern k (fieldUpdated (commandsTaken s) low cooled mv) :=
      fieldUpdated_of (P := OffInPattern k) _ low cooled mv (fun _ h => h) (channelsUpdated_off _ low cooled hk)
    refine ⟨hmv.trans hsmv, hdriven, fun hall => ⟨fun k hk => driver_of_allOff (hdriven k hk) hall, fun k hk => hoff k hk hall⟩,
      fun h => hlow.trans (hslow h), fun h => hhigh.trans (hshigh h), fun hquiet => ?_⟩
    obtain ⟨hlast, hcmds, hnow, hclow, hchigh⟩ := commandsTaken_quiet hquiet
    have hkept : (fieldUpdated (commandsTaken s) low cooled mv).field.lastUpd = (commandsTaken s).field.lastUpd ∧
        (fieldUpdated (commandsTaken s) low cooled mv).field.cmds = (commandsTaken s).field.cmds ∧
        (fieldUpdated (commandsTaken s) low cooled mv).now = (commandsTaken s).now := by simp
    obtain ⟨hkl, hkc, hkn⟩ := hkept
    exact ⟨hkl.trans hlast, hkc.trans hcmds, hkn.trans hnow, by rw [hkn, hnow]; exact (updateAt_says s).2,
      fun h => (hlow.trans (hslowKept h)).trans hclow, fun h => (hhigh.trans (hshighKept h)).trans hchigh⟩
  · intro s hheld hfrz
    refine ⟨_, linkFrame_takes hheld hfrz, ?_⟩
    by_cases hsilent : (!s.field.link && s.field.state == fsSilent) = true
    · rw [if_pos hsilent]
      refine ⟨by simp, by simp, by simp, by simp, fun _ _ => silentSeen_kept _, fun hlink => ?_⟩
      simp [hlink] at hsilent
    · rw [if_neg hsilent]
      refine ⟨rfl, rfl, rfl, rfl, fun hdown hst => ?_, fun _ => ⟨rfl, rfl⟩⟩
      simp [hdown, hst] at hsilent
  · intro s h1 h2
    refine ⟨_, silenceTimeout_silent h1 h2, ?_⟩
    have hregs : (driveAll (silent s)).regs = s.regs := driveAll_regs rfl
    refine ⟨by simp [silent], by simp [silent], by simp [silent], by simp [silent], by simp [silent], hregs, by simp [silent],
      by simp [silent], by simp [silent], fun hst => ⟨fun k hk => ?_, fun k hk => ?_⟩⟩
    · exact driver_of_allOff (driveAll_driven _ hk) (allOff_silent hst)
    · exact driveAll_off _ hk (allOff_silent hst)
  · intro mv s hmv hlow
    refine ⟨_, vflow_comes hmv hlow, ?_⟩
    beta_reduce
    cases hlink : s.field.link
    · exact ⟨by simp, by simp, lowSupply_shown mv, fun hheld _ => lowSupply_held mv hheld, by simp, by simp⟩
    · refine ⟨by simp, by simp, fun hheld => ?_, fun _ hdown => by simp at hdown, by simp, by simp⟩
      exact (flag_of_reg (raise_reg (by decide))).trans (lowSupply_shown mv hheld)
  · intro mv s hmv hhigh
    refine ⟨_, vfhigh_comes hmv hhigh, by simp, fun k hk => ?_, by simp⟩
    by_contra hon
    obtain ⟨-, hno, -⟩ := driveAll_driven (s.modField fun f => { f with vfhigh := true, mv := mv }) hk (by simpa using hon)
    simp at hno
end Sys2Proof.Machine
end

section
/-!
PROOF. DigitalChannels: debounce, encoders, drivers and their diagnostics (R537 to R545).
-/
namespace Sys2Proof.Machine

theorem dLive_dchan (s : State) (k b : Nat) : (dLive s k b).dchan k =
    { s.dchan k with live := setBit (s.dchan k).live b true, seen := setBit (s.dchan k).seen b true } := by
  unfold dLive
  dsimp only
  split
  · rw [raise_dchan]
    exact State.dchan_setDchan s k _
  · exact State.dchan_setDchan s k _

theorem bit_setBit (n b : Nat) (v : Bool) : bit (setBit n b v) b = v := by
  rw [setBit, bit_putBits, if_pos rfl]
  cases v <;> rfl

/-- A channel that a limit latches off: its driver is off, and the bit shows. -/
theorem latchOff_dchan (s : State) (k b : Nat) : ((latchOff s k b).dchan k).latched = true ∧
    ((latchOff s k b).dchan k).driver = false ∧ ((latchOff s k b).dchan k).live = setBit (s.dchan k).live b true := by
  have hlatched : ((dLive s k b).setDchan k { (dLive s k b).dchan k with latched := true }).dchan k =
      { (dLive s k b).dchan k with latched := true } := State.dchan_setDchan _ k _
  refine ⟨?_, ?_, ?_⟩
  · simp only [latchOff, dDrive_dchan, hlatched]
  · simp only [latchOff, dDrive_dchan, hlatched, Bool.not_true, Bool.and_false, Bool.false_and]
  · exact (congrArg DChan.live (dDrive_dchan _ k)).trans
      ((congrArg DChan.live hlatched).trans (congrArg DChan.live (dLive_dchan s k b)))

theorem latchOff_dchan_ne {s : State} {k j : Nat} (b : Nat) (h : j ≠ k) : (latchOff s k b).dchan j = s.dchan j := by
  unfold latchOff
  rw [dDrive_dchan_ne h, State.dchan_setDchan_ne _ _ _ _ h, dLive_dchan_ne _ h]

theorem latchOff_sram (s : State) (k b : Nat) : (latchOff s k b).mem.sram = s.mem.sram := by
  simp [latchOff]

theorem ovl_latches {ch : Fin 32} {s : State} (hdrv : isDriver (s.dchan ch.val) = true) (hon : (s.dchan ch.val).driver = true) :
    exec (.ovl ch) s = .next (latchOff s ch.val 0) := if_pos (by simp [hdrv, hon])

theorem ot_latches {ch : Fin 32} {s : State} (hdrv : isDriver (s.dchan ch.val) = true) :
    exec (.ot ch) s = .next (latchOff s ch.val 2) := if_pos hdrv

theorem rberr_shows {ch : Fin 32} {s : State} (hmode : (s.dchan ch.val).mode = 2) (hlatch : (s.dchan ch.val).latched = false)
    (hflow : s.field.vflow = false) (hst : s.field.state ≠ fsStandby) (hne : (s.dchan ch.val).state ≠ (s.dchan ch.val).want) :
    exec (.rberr ch) s = .next (dLive (s.at ((s.dchan ch.val).wantAt + 1100000)) ch.val 3) :=
  (if_neg (by simp [hlatch, hflow, hst, hne])).trans (if_pos hmode)

/-! ### Raw levels and the debounce -/

theorem rawLevelChange_same {ch : Fin 32} {level : Bool} {s : State} (h : (s.dchan ch.val).raw = level) :
    exec (.rawLevelChange ch level) s = .next s := if_pos h

theorem rawLevelChange_changes {ch : Fin 32} {level : Bool} {s : State} (h : (s.dchan ch.val).raw ≠ level) :
    exec (.rawLevelChange ch level) s = .next (s.setDchan ch.val { s.dchan ch.val with
      raw := level, since := if level = (s.dchan ch.val).state || s.field.state == fsInit then none else some s.now }) :=
  if_neg h

theorem debounceExpiry_changes {ch : Fin 32} {s : State} {x : Nat} (h : (s.dchan ch.val).since = some x) :
    exec (.debounceExpiry ch) s = .next (dChange (s.at (x + debNs (s.dchan ch.val))) ch.val) := by
  show execDebounceExpiry ch s = _
  simp [execDebounceExpiry, h]

/-- The polarity's bit is 0 for a rising edge and 1 for a falling one. -/
theorem edge_iff (c : DChan) : ((c.raw && bit c.evpol 0) || (!c.raw && bit c.evpol 1)) = bit c.evpol (if c.raw then 0 else 1) := by
  cases c.raw <;> simp

theorem dChange_eq (s : State) (k : Nat) : dChange s k =
    if (s.dchan k).mode = 1 ∧ bit (s.dchan k).evpol (if (s.dchan k).raw then 0 else 1) = true
      then (s.setDchan k { s.dchan k with state := (s.dchan k).raw, since := none }).raise (64 + k)
      else s.setDchan k { s.dchan k with state := (s.dchan k).raw, since := none } := by
  simp only [dChange, edge_iff, Bool.and_eq_true, decide_eq_true_eq]

/-! ### Encoders -/

theorem trackLevel_dchan (s : State) (k : Nat) (v : Bool) : ((trackLevel s k v).dchan k).state = v :=
  congrArg DChan.state (State.dchan_setDchan s k _)

theorem trackLevel_dchan_ne {s : State} {k j : Nat} (v : Bool) (h : j ≠ k) : (trackLevel s k v).dchan j = s.dchan j :=
  State.dchan_setDchan_ne s k j _ h

/-- Both tracks' levels as their channels' states. -/
def tracked (s : State) (p : Nat) (a b : Bool) : State := trackLevel (trackLevel s (2 * p) a) (2 * p + 1) b

theorem tracked_dchan (s : State) (p : Nat) (a b : Bool) : ((tracked s p a b).dchan (2 * p)).state = a ∧
    ((tracked s p a b).dchan (2 * p + 1)).state = b := by
  refine ⟨?_, trackLevel_dchan _ _ b⟩
  rw [tracked, trackLevel_dchan_ne b (by omega)]
  exact trackLevel_dchan s _ a

theorem tracked_rest (s : State) (p : Nat) (a b : Bool) :
    (tracked s p a b).regs = s.regs ∧ (tracked s p a b).mem = s.mem := ⟨rfl, rfl⟩

theorem encPair_dchan (s : State) (j k : Nat) (e : EncSt) : (s.setEncPair j e).dchan k = s.dchan k := dchan_of_digital rfl k

theorem errShown_encPair (s : State) (a k b j : Nat) : (dLive (s.count32 a 1) k b).encPair j = s.encPair j := by
  simp [State.encPair]

theorem encoderEdge_counts {p : Fin 16} {a b : Bool} {s : State} (hen : (s.encPair p.val).en = true)
    (hst : s.field.state ≠ fsInit) (hedge : ((s.encPair p.val).a != a) ≠ ((s.encPair p.val).b != b)) :
    exec (.encoderEdge p a b) s = .next ((tracked s p.val a b).setEncPair p.val { s.encPair p.val with
      a := a, b := b, count := if (if (s.encPair p.val).a != a then a != b else a == b) then (s.encPair p.val).count + 1
        else (s.encPair p.val).count - 1 }) := by
  refine (if_neg ?_).trans (if_neg ?_)
  · cases h1 : (s.encPair p.val).a <;> cases h2 : (s.encPair p.val).b <;> cases a <;> cases b <;> simp_all
  · cases h1 : ((s.encPair p.val).a != a) <;> simp_all

theorem encoderEdge_errs {p : Fin 16} {a b : Bool} {s : State} (hen : (s.encPair p.val).en = true)
    (hst : s.field.state ≠ fsInit) (ha : a ≠ (s.encPair p.val).a) (hb : b ≠ (s.encPair p.val).b) :
    exec (.encoderEdge p a b) s = .next (dLive (((tracked s p.val a b).setEncPair p.val
      { s.encPair p.val with a := a, b := b }).count32 (DIO_ENCERR p.val) 1) (2 * p.val) 4) :=
  (if_neg (by simp [hen, hst, ha.symm])).trans (if_pos (by simp [ha.symm, hb.symm]))

/-! ### Live bits -/

theorem liveBitClear_clears {ch b : Fin 32} {s : State} (hb : b.val = 1) (hopen : (s.dchan ch.val).openAt = none) :
    exec (.liveBitClear false ch b) s = .next (dLiveOff s ch.val 1) := by
  show execLiveBitClear false ch b s = _
  simp [execLiveBitClear, hb, hopen]

theorem liveBitClear_stays {ch b : Fin 32} {s : State} (hb : b.val = 0 ∨ b.val = 2) (hlatch : (s.dchan ch.val).latched = true) :
    exec (.liveBitClear false ch b) s = .next s := by
  show execLiveBitClear false ch b s = _
  rcases hb with hb | hb <;> simp [execLiveBitClear, hb, hlatch]

theorem dLiveOff_dchan (s : State) (k b : Nat) :
    (dLiveOff s k b).dchan k = { s.dchan k with live := setBit (s.dchan k).live b false } := State.dchan_setDchan s k _

/-- Settles O52: each command by its equation, and what its channel or pair then holds. -/
theorem digitalChannels : Obligations.DigitalChannels := by
  refine ⟨fun ch level s => ⟨rawLevelChange_same, fun h => ?_⟩, ?_, ?_, ?_, ?_, ?_⟩
  · have hchan := State.dchan_setDchan s ch.val { s.dchan ch.val with
      raw := level, since := if level = (s.dchan ch.val).state || s.field.state == fsInit then none else some s.now }
    refine ⟨_, rawLevelChange_changes h, ?_⟩
    beta_reduce
    rw [hchan]
    exact ⟨rfl, rfl, fun hsame => by simp [hsame], fun hnew hst => by simp [hnew, hst],
      fun j hj => State.dchan_setDchan_ne s _ _ _ hj, rfl, rfl, rfl⟩
  · intro ch s x u hsince hu
    have hexec := (debounceExpiry_changes hsince).trans (congrArg _ (dChange_eq _ _))
    subst hu
    refine ⟨fun hmode hpol => hexec.trans (congrArg _ (if_pos ⟨hmode, hpol⟩)),
      fun hno => hexec.trans (congrArg _ (if_neg ?_))⟩
    rintro ⟨hmode, hpol⟩
    rcases hno with hno | hno
    · exact hno hmode
    · exact Bool.noConfusion (hpol.symm.trans hno)
  · intro p a b s hen hst
    dsimp only
    refine ⟨fun ha hb => ?_, fun ha hb => ?_, fun ha hb => ?_⟩
    · refine ⟨_, encoderEdge_counts hen hst (by simp [ha.symm, hb]), ?_⟩
      beta_reduce
      rw [State.encPair_setEncPair, encPair_dchan]
      refine ⟨?_, rfl, (tracked_dchan s p.val a b).1, (tracked_rest s p.val a b).1, (tracked_rest s p.val a b).2⟩
      cases a <;> cases b <;> simp [ha.symm]
    · refine ⟨_, encoderEdge_counts hen hst (by simp [hb.symm, ha]), ?_⟩
      beta_reduce
      rw [State.encPair_setEncPair, encPair_dchan]
      refine ⟨?_, rfl, (tracked_dchan s p.val a b).2, (tracked_rest s p.val a b).1, (tracked_rest s p.val a b).2⟩
      cases a <;> cases b <;> simp [ha]
    · refine ⟨_, encoderEdge_errs hen hst ha hb, ?_, ?_, by simp [tracked_rest]⟩
      · rw [errShown_encPair, State.encPair_setEncPair]
      · rw [dLive_dchan]
        exact bit_setBit _ 4 true
  · intro ch s hdrv
    have hlatched (b : Nat) : ((latchOff s ch.val b).dchan ch.val).latched = true ∧
        ((latchOff s ch.val b).dchan ch.val).driver = false ∧ bit ((latchOff s ch.val b).dchan ch.val).live b = true ∧
        (∀ j, j ≠ ch.val → (latchOff s ch.val b).dchan j = s.dchan j) ∧ (latchOff s ch.val b).mem.sram = s.mem.sram := by
      obtain ⟨hl, hd, hlive⟩ := latchOff_dchan s ch.val b
      exact ⟨hl, hd, by rw [hlive, bit_setBit], fun j hj => latchOff_dchan_ne b hj, latchOff_sram s _ b⟩
    exact ⟨fun hon => ⟨_, ovl_latches hdrv hon, hlatched 0⟩, _, ot_latches hdrv, hlatched 2⟩
  · intro ch s hmode hlatch hflow hst hne
    refine ⟨_, rberr_shows hmode hlatch hflow hst hne, ?_⟩
    beta_reduce
    rw [dLive_dchan]
    exact ⟨bit_setBit _ 3 true, bit_setBit _ 3 true, rfl, by simp⟩
  · intro ch b s
    refine ⟨fun hb hopen => ⟨_, liveBitClear_clears hb hopen, ?_⟩, liveBitClear_stays⟩
    beta_reduce
    rw [dLiveOff_dchan]
    exact ⟨bit_setBit _ 1 false, rfl, rfl, rfl⟩
end Sys2Proof.Machine
end

section
/-!
PROOF. Clock: the real-time clock, its alarm, its cell and its capture (R648 to R656).
-/
namespace Sys2Proof.Machine

/-! ### A second boundary -/

theorem rtcAlarm_off {s : State} (h : s.rtc.almEn = false) : rtcAlarm s = s := if_neg (by simp [h])

theorem rtcTick_almEn (s : State) : (rtcTick s).rtc.almEn = s.rtc.almEn := by
  simp [rtcTick, State.modRtc]
  split <;> rfl

theorem rtcTick_alarm (s : State) : (rtcTick s).rtc.alarm = s.rtc.alarm ∧ (rtcTick s).rtc.onbat = s.rtc.onbat ∧
    (rtcTick s).rtc.almf = s.rtc.almf ∧ (rtcTick s).boot = s.boot := by
  simp only [rtcTick, State.modRtc]
  split <;> exact ⟨rfl, rfl, rfl, rfl⟩

theorem rtcTick_counts {s : State} (h : s.rtc.armed = none) : rtcTick s =
    (s.at (rtcNext s)).modRtc fun r => { r with bound := rtcNext s, sec := (r.sec + 1) % 2 ^ 40 } := by
  simp [rtcTick, State.modRtc, State.at, h]

theorem rtcTick_takes {s : State} {v : Nat} (h : s.rtc.armed = some (v, false)) : rtcTick s =
    (s.at (rtcNext s)).modRtc fun r => { r with bound := rtcNext s, sec := v, tvalid := true, armed := none } := by
  simp [rtcTick, State.modRtc, State.at, h]

theorem rtcTick_defers {s : State} {v : Nat} (h : s.rtc.armed = some (v, true)) : rtcTick s =
    (s.at (rtcNext s)).modRtc fun r => { r with bound := rtcNext s, sec := (r.sec + 1) % 2 ^ 40, armed := some (v, false) } := by
  simp [rtcTick, State.modRtc, State.at, h]

theorem secondBoundary_ticks {s : State} (h : s.rtc.almEn = false) : exec .rtcSecondBoundary s = .next (rtcTick s) :=
  congrArg Host.Outcome.next (rtcAlarm_off ((rtcTick_almEn s).trans h))

/-- An alarm that has come is flagged and disables itself. -/
theorem rtcAlarm_comes {s : State} (hen : s.rtc.almEn = true) (hbat : s.rtc.onbat = false) (hheld : s.boot.held = false)
    (hcome : s.rtc.alarm ≤ s.rtc.sec) : (rtcAlarm s).rtc.almf = true ∧ (rtcAlarm s).rtc.almEn = false := by
  rw [rtcAlarm, if_pos (by simp [hen, hbat, hheld, hcome])]
  simp

theorem rtcAlarm_early {s : State} (h : s.rtc.sec < s.rtc.alarm) : rtcAlarm s = s := if_neg (by simp [h])

/-! ### The compensation and the cell -/

theorem clampInt_within {lo hi : Int} (h : lo ≤ hi) (x : Int) : lo ≤ clampInt lo hi x ∧ clampInt lo hi x ≤ hi := by
  unfold clampInt
  split_ifs <;> omega

/-- The compensation, before the cell is compared. -/
def compensated (s : State) (c : Int) (mv : Nat) : State :=
  s.modRtc fun r => { r with
    temp := divNearest (c + signed 16 (wbits s.rtc.model2 15 0)) 10,
    corr := rtcSteps r (c + signed 16 (wbits s.rtc.model2 15 0)), vbat := mv }

theorem batLow_rest (s : State) (mv : Nat) :
    (batLow s mv).rtc.corr = s.rtc.corr ∧ (batLow s mv).rtc.vbat = s.rtc.vbat ∧ (batLow s mv).rtc.sec = s.rtc.sec ∧
      (batLow s mv).regs = s.regs ∧ (batLow s mv).mem = s.mem := by
  unfold batLow
  simp only [State.modRtc, State.drawBit]
  split_ifs <;> exact ⟨rfl, rfl, rfl, rfl, rfl⟩

theorem batLow_low {s : State} {mv : Nat} (h : mv < 2350) : (batLow s mv).rtc.batlow = true := by
  simp [batLow, h, State.modRtc]

theorem batLow_high {s : State} {mv : Nat} (h : 2450 < mv) : (batLow s mv).rtc.batlow = false := by
  simp [batLow, h, State.modRtc, show ¬mv < 2350 by omega]

/-! ### The five registers and their capture -/

/-- The five registers are read as any register: aligned words of the peripheral area. -/
theorem rtcFive_area {a : Nat} (h : isRtcFive a = true) : areaOf a = some .periph ∧ a % 4 = 0 ∧ regThere a = true := by
  simp only [isRtcFive, Bool.or_eq_true, beq_iff_eq] at h
  rcases h with (((h | h) | h) | h) | h <;> subst h <;> decide

theorem coreLoad_rtcFive {s : State} {core : CoreId} {a : Nat} (h5 : isRtcFive a = true) (hmay : MayRead s core a) :
    coreLoad s core.val a = { (rtcRead s core.val a).2 with rdata := toWord (rtcRead s core.val a).1 } := by
  obtain ⟨harea, h4, hthere⟩ := rtcFive_area h5
  obtain ⟨hlive, haudit, hperm, hgate⟩ := hmay
  rw [coreLoad_permitted s core.val a hlive haudit harea h4 (by simp [periphReadable, hthere, hperm, hgate])]
  simp [periphRead, h5]

theorem shadow_rtcThaw (s : State) (core : Nat) : (rtcThaw s core).shadow core = { s.shadow core with frozen := false } := by
  simp [rtcThaw, State.modRtc, State.shadow, Tbl.modify]

theorem shadow_rtcThaw_ne {s : State} {core j : Nat} (h : j ≠ core) : (rtcThaw s core).shadow j = s.shadow j := by
  simp [rtcThaw, State.modRtc, State.shadow, Tbl.modify, Tbl.get_set_ne s.rtc.shadows _ core j _ h]

/-- What a reader's capture holds after a read: thawed by a read of RTC_CAL1. -/
theorem rtcRead_captured {s : State} {core a : Nat} (h : (s.shadow core).frozen = true) :
    rtcRead s core a = (rtcFive a (s.shadow core).capno (s.shadow core).sub (s.shadow core).sec,
      if a = RTC_CAL1 then rtcThaw s core else s) := by
  simp [rtcRead, h]

theorem shadow_rtcCapture (s : State) (core : Nat) : (rtcCapture s core).shadow core =
    { frozen := true, capno := ((s.shadow core).capno + 1) % 256, at_ := s.now, sub := rtcSub s, sec := s.rtc.sec } := by
  simp [rtcCapture, State.modRtc, State.shadow]

theorem shadow_rtcCapture_ne {s : State} {core j : Nat} (h : j ≠ core) : (rtcCapture s core).shadow j = s.shadow j := by
  simp [rtcCapture, State.modRtc, State.shadow, Tbl.get_set_ne s.rtc.shadows _ core j _ h]

/-- A reader's first read captures the five registers for it (R649). -/
theorem rtcRead_captures {s : State} {core a : Nat} (h : (s.shadow core).frozen = false) :
    rtcRead s core a = rtcRead (rtcCapture s core) core a := by
  rw [rtcRead_captured (congrArg Shadow.frozen (shadow_rtcCapture s core))]
  simp [rtcRead, h]

/-- What a read of a captured reader leaves of it, and of the others. -/
theorem rtcRead_shadow {s : State} {core a : Nat} (h : (s.shadow core).frozen = true) :
    (rtcRead s core a).2.shadow core = { s.shadow core with frozen := a != RTC_CAL1 } ∧
      ∀ j, j ≠ core → (rtcRead s core a).2.shadow j = s.shadow j := by
  rw [rtcRead_captured h]
  by_cases hend : a = RTC_CAL1
  · simp only [if_pos hend]
    exact ⟨by rw [shadow_rtcThaw, hend]; rfl, fun j hj => shadow_rtcThaw_ne hj⟩
  · simp only [if_neg hend]
    have hmark : (a != RTC_CAL1) = true := bne_iff_ne.mpr hend
    refine ⟨?_, fun j _ => trivial⟩
    rw [hmark, ← h]

/-! ### The plant time -/

theorem plantCheck_near {s : State} {p : Nat} (h1 : s.rtc.sec ≤ p + 1) (h2 : p ≤ s.rtc.sec + 1) : plantCheck s p = s :=
  if_neg (by rintro ⟨-, -, -, h⟩; omega)

theorem plantCheck_sets {s : State} {p : Nat} (hobj : s.objNum 0x1E00 8 = 1) (hmode : s.fld PHR_PTPCTRL_MODE = 1)
    (hstat : s.fld PHR_PTPSTAT_STATE = 3) (hfar : s.rtc.sec + 2 ≤ p ∨ p + 2 ≤ s.rtc.sec) (hnow : s.now + 30000 ≤ rtcNext s) :
    plantCheck s p = (s.modRtc fun r => { r with armed := some (p % 2 ^ 40, false), stage := p % 2 ^ 40 }).record 0x0900 1 0 0
      [s.rtc.sec % 2 ^ 32, p % 2 ^ 32] := by
  simp [plantCheck, rtcArm, hobj, hmode, hstat, hfar, hnow]

/-- Settles O57: each command of the clock by its equation; a read by whether its reader holds a capture. -/
theorem clock : Obligations.Clock := by
  refine ⟨fun s hen => ⟨fun harm => ?_, fun v harm => ?_, fun v harm => ?_⟩, fun s hen harm hbat hheld => ?_, fun c mv s => ?_,
    fun mv s => ⟨⟨_, rfl, rfl, rfl, rfl⟩, fun h => ?_, fun h => ?_⟩, fun s => ⟨_, rfl, rfl, rfl, rfl, rfl, rfl, rfl⟩, ?_, ?_, ?_⟩
  · exact ⟨_, (secondBoundary_ticks hen).trans (congrArg _ (rtcTick_counts harm)), rfl, rfl, rfl, rfl, rfl⟩
  · exact ⟨_, (secondBoundary_ticks hen).trans (congrArg _ (rtcTick_takes harm)), rfl, rfl, rfl⟩
  · exact ⟨_, (secondBoundary_ticks hen).trans (congrArg _ (rtcTick_defers harm)), rfl, rfl⟩
  · have htick := congrArg rtcAlarm (rtcTick_counts harm)
    refine ⟨fun hcome => ⟨_, congrArg Host.Outcome.next htick, rtcAlarm_comes hen hbat hheld hcome⟩, fun hearly => ?_⟩
    exact ⟨_, congrArg Host.Outcome.next (htick.trans (rtcAlarm_early hearly)), rfl, hen⟩
  · obtain ⟨hcorr, hvbat, hsec, hregs, hmem⟩ := batLow_rest (compensated s c mv) mv
    have hsteps : -255 ≤ (compensated s c mv).rtc.corr ∧ (compensated s c mv).rtc.corr ≤ 255 :=
      clampInt_within (by decide) _
    refine ⟨batLow (compensated s c mv) mv, rfl, ?_⟩
    beta_reduce
    rw [hcorr]
    exact ⟨hsteps.1, hsteps.2, hvbat, hsec, batLow_low, batLow_high, hregs, hmem⟩
  · exact ⟨_, rfl, by simp [h]⟩
  · exact ⟨_, rfl, by simp [Nat.not_lt.mpr h]⟩
  · intro core a s h5 hmay
    have hload : exec (.rtcShadowCapture core a) s = _ := congrArg Host.Outcome.next (coreLoad_rtcFive h5 hmay)
    refine ⟨fun hfrozen => ⟨_, hload, ?_⟩, fun hfree => ?_⟩
    · obtain ⟨hself, hothers⟩ := rtcRead_shadow (a := a.toNat) hfrozen
      exact ⟨congrArg toWord (congrArg Prod.fst (rtcRead_captured hfrozen)), (congrArg Shadow.frozen hself :),
        (congrArg Shadow.capno hself :), hothers⟩
    · have hcap := shadow_rtcCapture s core.val
      have hfrozen := congrArg Shadow.frozen hcap
      obtain ⟨hself, hothers⟩ := rtcRead_shadow (a := a.toNat) hfrozen
      rw [rtcRead_captures hfree] at hload
      rw [hcap] at hself
      refine ⟨_, hload, ?_, (congrArg Shadow.capno hself :), (congrArg Shadow.sec hself :), (congrArg Shadow.frozen hself :),
        fun j hj => (hothers j hj).trans (shadow_rtcCapture_ne hj)⟩
      refine (congrArg toWord (congrArg Prod.fst (rtcRead_captured hfrozen))).trans ?_
      rw [hcap]
  · intro core s hfrozen
    exact ⟨_, if_pos hfrozen, congrArg Shadow.frozen (shadow_rtcThaw _ _), rfl, rfl, fun j hj => shadow_rtcThaw_ne hj⟩
  · intro p s
    refine ⟨fun h1 h2 => congrArg Host.Outcome.next (plantCheck_near h1 h2), fun hobj hmode hstat hfar hnow => ?_⟩
    exact ⟨_, congrArg Host.Outcome.next (plantCheck_sets hobj hmode hstat hfar hnow), by simp, by simp⟩
end Sys2Proof.Machine
end

section
/-!
PROOF. WatchdogAndRecorder: the hardware watchdog, the counters and the recorder's freeze (R643 to R689, R763).
-/
namespace Sys2Proof.Machine

@[simp] theorem recFlush_rest (s : State) :
    (recFlush s).now = s.now ∧ (recFlush s).pending = s.pending ∧ (recFlush s).draws = s.draws ∧ (recFlush s).rdata = s.rdata ∧
      (recFlush s).mem.code = s.mem.code ∧ (recFlush s).mem.sram = s.mem.sram ∧ (recFlush s).mem.trace = s.mem.trace ∧
      (recFlush s).mem.fw = s.mem.fw ∧ (recFlush s).mem.flash = s.mem.flash ∧ (recFlush s).units = s.units ∧
      (recFlush s).objs = s.objs ∧ (recFlush s).prog = s.prog ∧ (recFlush s).img = s.img ∧ (recFlush s).tsk = s.tsk ∧
      (recFlush s).gz = s.gz ∧ (recFlush s).evc = s.evc ∧ (recFlush s).nv = s.nv ∧ (recFlush s).rtc = s.rtc ∧
      (recFlush s).wdg = s.wdg ∧ (recFlush s).frz = s.frz ∧ (recFlush s).boot = s.boot ∧ (recFlush s).phr = s.phr ∧
      (recFlush s).lpe = s.lpe ∧ (recFlush s).trc = s.trc ∧ (recFlush s).nrg = s.nrg ∧ (recFlush s).hsb = s.hsb ∧
      (recFlush s).field = s.field ∧ (recFlush s).can = s.can ∧ (recFlush s).saf = s.saf ∧ (recFlush s).jrn = s.jrn ∧
      (recFlush s).stations = s.stations ∧ (recFlush s).sent = s.sent := by
  unfold recFlush
  simp

@[simp] theorem recErase_rest (s : State) (r : Nat) :
    (recErase s r).now = s.now ∧ (recErase s r).pending = s.pending ∧ (recErase s r).draws = s.draws ∧
      (recErase s r).rdata = s.rdata ∧ (recErase s r).regs = s.regs ∧ (recErase s r).mem.code = s.mem.code ∧
      (recErase s r).mem.sram = s.mem.sram ∧ (recErase s r).mem.trace = s.mem.trace ∧ (recErase s r).mem.fw = s.mem.fw ∧
      (recErase s r).mem.flash = s.mem.flash ∧ (recErase s r).units = s.units ∧ (recErase s r).objs = s.objs ∧
      (recErase s r).prog = s.prog ∧ (recErase s r).img = s.img ∧ (recErase s r).tsk = s.tsk ∧ (recErase s r).gz = s.gz ∧
      (recErase s r).evc = s.evc ∧ (recErase s r).nv = s.nv ∧ (recErase s r).rtc = s.rtc ∧ (recErase s r).wdg = s.wdg ∧
      (recErase s r).frz = s.frz ∧ (recErase s r).boot = s.boot ∧ (recErase s r).phr = s.phr ∧ (recErase s r).lpe = s.lpe ∧
      (recErase s r).trc = s.trc ∧ (recErase s r).nrg = s.nrg ∧ (recErase s r).hsb = s.hsb ∧ (recErase s r).field = s.field ∧
      (recErase s r).can = s.can ∧ (recErase s r).saf = s.saf ∧ (recErase s r).jrn = s.jrn ∧
      (recErase s r).stations = s.stations ∧ (recErase s r).sent = s.sent := by
  unfold recErase
  simp

@[simp] theorem recRebuild_rest (s : State) :
    (recRebuild s).now = s.now ∧ (recRebuild s).pending = s.pending ∧ (recRebuild s).draws = s.draws ∧
      (recRebuild s).rdata = s.rdata ∧ (recRebuild s).mem.code = s.mem.code ∧ (recRebuild s).mem.sram = s.mem.sram ∧
      (recRebuild s).mem.trace = s.mem.trace ∧ (recRebuild s).mem.fw = s.mem.fw ∧ (recRebuild s).mem.flash = s.mem.flash ∧
      (recRebuild s).units = s.units ∧ (recRebuild s).objs = s.objs ∧ (recRebuild s).prog = s.prog ∧
      (recRebuild s).img = s.img ∧ (recRebuild s).tsk = s.tsk ∧ (recRebuild s).gz = s.gz ∧ (recRebuild s).evc = s.evc ∧
      (recRebuild s).nv = s.nv ∧ (recRebuild s).rtc = s.rtc ∧ (recRebuild s).wdg = s.wdg ∧ (recRebuild s).frz = s.frz ∧
      (recRebuild s).boot = s.boot ∧ (recRebuild s).phr = s.phr ∧ (recRebuild s).lpe = s.lpe ∧ (recRebuild s).trc = s.trc ∧
      (recRebuild s).nrg = s.nrg ∧ (recRebuild s).hsb = s.hsb ∧ (recRebuild s).field = s.field ∧ (recRebuild s).can = s.can ∧
      (recRebuild s).saf = s.saf ∧ (recRebuild s).jrn = s.jrn ∧ (recRebuild s).stations = s.stations ∧
      (recRebuild s).sent = s.sent := by
  unfold recRebuild
  simp

/-! ### The watchdog -/

theorem wdgPair_lapses {s : State} {x : Nat} (h : s.wdg.armed = some x) (hhalt : halted s = false) :
    exec .wdgPairWindowTimeout s = .next ((s.at (x + 100000)).modWdg fun w => { w with armed := none }) := by
  show execWdgPairWindowTimeout s = _
  simp [execWdgPairWindowTimeout, h, hhalt]

/-- What the watchdog's own reset leaves, beside what any module reset leaves. -/
theorem moduleReset_wdg {s : State} (k : Nat) (h : s.boot.held = false) :
    (moduleReset s k).wdg.count = s.wdg.count ∧ (moduleReset s k).wdg.lastCause = s.wdg.lastCause := by
  obtain ⟨-, -, hwdg, -⟩ := beforeReset_rest s
  rw [moduleReset_released s k h]
  exact ⟨(congrArg WdgState.count hwdg :), (congrArg WdgState.lastCause hwdg :)⟩

/-- A watchdog reset with a cause (R668). -/
def WatchdogReset (s : State) (c : Nat) (t : State) : Prop := t.boot.held = true ∧ t.boot.sources = 2 ^ (srcWatchdog - 1) ∧
  t.stopped = true ∧ t.wdg.count = holdAt 255 (s.wdg.count + 1) ∧ t.wdg.lastCause = c ∧ t.mem.mram = s.mem.mram

theorem watchdogExpire_resets {s : State} (c : Nat) (hheld : s.boot.held = false) (hp : s.wdg.paused = false) :
    WatchdogReset s c (watchdogExpire s c) := by
  unfold watchdogExpire
  rw [if_neg (by simp [hp])]
  obtain ⟨h1, h2, h3, -, -, hmram, -⟩ := moduleReset_says
    ((s.modWdg fun w => { w with count := holdAt 255 (w.count + 1), lastCause := c }).ctrUp ctrWdg) srcWatchdog (by simpa using hheld)
  obtain ⟨hcount, hcause⟩ := moduleReset_wdg
    (s := (s.modWdg fun w => { w with count := holdAt 255 (w.count + 1), lastCause := c }).ctrUp ctrWdg) srcWatchdog (by simpa using hheld)
  exact ⟨h1, h2, h3, hcount.trans (by simp), hcause.trans (by simp), hmram.trans (by simp)⟩

theorem watchdogExpiry_expires {s : State} (hhalt : halted s = false) (hp : s.wdg.paused = false) :
    exec .watchdogExpiry s = .next (watchdogExpire (s.at (s.wdg.last + wdgWindowNs s)) 1) := if_neg (by simp [hhalt, hp])

theorem clockStop_expires {rc : Bool} {s : State} (hhalt : halted s = false) (h : rc = false ∨ s.flag WDG_CTRL_CLKSEL = true) :
    exec (.clockStop rc) s = .next (watchdogExpire s 4) :=
  (if_neg (by simp [hhalt])).trans (if_neg (by rcases h with h | h <;> simp [h]))

theorem clockStop_shows {s : State} (hhalt : halted s = false) (h : s.flag WDG_CTRL_CLKSEL = false) :
    exec (.clockStop true) s = .next ((s.setFlag WDG_STAT_ALTSTOP true).record 0x0016 2 0 0 []) :=
  (if_neg (by simp [hhalt])).trans (if_pos (by simp [h]))

/-! ### Lifetime counters -/

theorem ctrUp_locked {s : State} (k : Nat) (h : s.nv.prot = 3) : s.ctrUp k = s := if_pos h

/-- A counter of two words counts on, below its end (R643). -/
theorem ctr_ctrUp {s : State} {k : Nat} (h : s.nv.prot ≠ 3) (hlow : (s.nv.ctrs.get {} k).low < 2 ^ 32)
    (hhigh : (s.nv.ctrs.get {} k).high + 1 < 2 ^ 31) : (s.ctrUp k).ctr k = s.ctr k + 1 := by
  unfold State.ctrUp
  rw [if_neg h]
  simp only [State.ctr, Tbl.get_set_same, NvCtr.value]
  split <;> omega

/-- The module at its next operating second, before that is counted. -/
def opTicked (s : State) : State :=
  { s.at (s.boot.opLast + 1000000000).toNat with boot := { s.boot with opLast := s.boot.opLast + 1000000000 } }

/-! ### The recorder -/

theorem recFlush_empty {s : State} (h : s.rcd.queue = []) : recFlush s = s := by
  unfold recFlush
  split
  · rfl
  · rw [h, List.foldl_nil, ← h]

/-- Storing and erasing records leave whether the index is being rebuilt. -/
theorem recStore_indexing (s : State) (e : RecEntry) : (recStore s e).1.rcd.indexing = s.rcd.indexing := by
  unfold recStore
  split
  · simp [recLost]
  · split
    · simp [recLost]
    · rfl

theorem recErase_indexing (s : State) (r : Nat) : (recErase s r).rcd.indexing = s.rcd.indexing := by
  unfold recErase
  split <;> rfl

theorem recFlush_indexing {s : State} {b : Bool} (h : s.rcd.indexing = b) : (recFlush s).rcd.indexing = b := by
  unfold recFlush
  split
  · exact h
  · exact foldl_keeps_prop (P := fun t : State => t.rcd.indexing = b) (fun t e ht => (recStore_indexing t e).trans ht) _ h

theorem recRebuild_indexed (s : State) : (recRebuild s).rcd.indexing = false :=
  recFlush_indexing (recErase_indexing _ _)

theorem recorderFreezeEnd_ends {s : State} (h : recFrozen s = true) : exec .recorderFreezeEnd s =
    .next (recFlush ((s.at (s.rcd.frozenAt + 60000000000)).setFlag REC_CTRL_RFREEZE false)) := if_pos h

theorem indexRebuild_ends {s : State} (hidx : s.rcd.indexing = true) (hready : s.nv.ready = true) (hfrz : s.frz.frozen = false) :
    exec .indexRebuildComplete s = .next (recRebuild s) := if_pos (by simp [hidx, hready, hfrz])

/-- Settles O58: each command by its equation; the watchdog's reset by what a module reset leaves. -/
theorem watchdogAndRecorder : Obligations.WatchdogAndRecorder := by
  refine ⟨fun s x harm hhalt => ⟨_, wdgPair_lapses harm hhalt, rfl, rfl, rfl, rfl⟩, fun s h => if_pos (by simpa using h), ?_,
    fun s => ⟨(opTicked s).ctrUp ctrOpSec, rfl, ?_⟩, fun c s => ?_, fun s => ⟨fun h => if_neg (by simp [h]), fun hfrozen hqueue => ?_⟩,
    fun s hidx hready hfrz => ⟨_, indexRebuild_ends hidx hready hfrz, ?_⟩⟩
  · intro rc s hhalt hp
    have hheld : s.boot.held = false := by simp [halted] at hhalt; exact hhalt.1
    refine ⟨⟨_, watchdogExpiry_expires hhalt hp, watchdogExpire_resets (s := s.at _) 1 hheld hp⟩,
      fun h => ⟨_, clockStop_expires hhalt h, watchdogExpire_resets 4 hheld hp⟩, fun hrc hsel => ?_⟩
    subst hrc
    refine ⟨_, clockStop_shows hhalt hsel, by simp, ?_, by simp, by simp⟩
    rw [flag_of_reg (record_reg (by decide))]
    exact flag_setFlag_true s _ (by decide) (by decide)
  · refine ⟨by simp [opTicked], by simp [opTicked], by simp [opTicked], fun hp => ?_, fun hp hlow hhigh => ?_⟩
    · exact (congrArg (State.ctr · ctrOpSec) (ctrUp_locked (s := opTicked s) ctrOpSec hp) :)
    · exact ctr_ctrUp (s := opTicked s) hp hlow hhigh
  · exact ⟨_, rfl, Tbl.get_set_same s.rcd.spent 0 c.toNat _, fun j hj => Tbl.get_set_ne s.rcd.spent 0 c.toNat j _ hj, rfl, rfl⟩
  · have hkept : recFlush ((s.at (s.rcd.frozenAt + 60000000000)).setFlag REC_CTRL_RFREEZE false) =
        (s.at (s.rcd.frozenAt + 60000000000)).setFlag REC_CTRL_RFREEZE false := recFlush_empty (by simpa using hqueue)
    refine ⟨_, (recorderFreezeEnd_ends hfrozen).trans (congrArg _ hkept), ?_, by simp, by simp⟩
    exact flag_setFlag_same (s.at _) _ false (by decide) (by decide)
  · exact ⟨recRebuild_indexed s, by simp, by simp⟩
end Sys2Proof.Machine
end

section
/-!
PROOF. AnalogueChannels: conversions, outputs and trims (R546 to R556).
-/
namespace Sys2Proof.Machine

@[simp] theorem State.persist_rest (s : State) (key : Nat) (payload : List Byte) (wait : Option JReq) :
    (State.persist s key payload wait).now = s.now ∧ (State.persist s key payload wait).pending = s.pending ∧
      (State.persist s key payload wait).draws = s.draws ∧ (State.persist s key payload wait).rdata = s.rdata ∧
      (State.persist s key payload wait).regs = s.regs ∧ (State.persist s key payload wait).mem = s.mem ∧
      (State.persist s key payload wait).units = s.units ∧ (State.persist s key payload wait).objs = s.objs ∧
      (State.persist s key payload wait).prog = s.prog ∧ (State.persist s key payload wait).img = s.img ∧
      (State.persist s key payload wait).tsk = s.tsk ∧ (State.persist s key payload wait).gz = s.gz ∧
      (State.persist s key payload wait).evc = s.evc ∧ (State.persist s key payload wait).rtc = s.rtc ∧
      (State.persist s key payload wait).wdg = s.wdg ∧ (State.persist s key payload wait).frz = s.frz ∧
      (State.persist s key payload wait).rcd = s.rcd ∧ (State.persist s key payload wait).boot = s.boot ∧
      (State.persist s key payload wait).phr = s.phr ∧ (State.persist s key payload wait).lpe = s.lpe ∧
      (State.persist s key payload wait).trc = s.trc ∧ (State.persist s key payload wait).nrg = s.nrg ∧
      (State.persist s key payload wait).hsb = s.hsb ∧ (State.persist s key payload wait).field = s.field ∧
      (State.persist s key payload wait).can = s.can ∧ (State.persist s key payload wait).saf = s.saf ∧
      (State.persist s key payload wait).jrn = s.jrn ∧ (State.persist s key payload wait).stations = s.stations ∧
      (State.persist s key payload wait).sent = s.sent := by
  unfold State.persist
  simp

theorem aLive_achan (s : State) (k b : Nat) : (aLive s k b).achan k =
    { s.achan k with live := setBit (s.achan k).live b true, seen := setBit (s.achan k).seen b true } := by
  unfold aLive
  dsimp only
  split
  · rw [raise_achan]
    exact State.achan_setAchan s k _
  · exact State.achan_setAchan s k _

theorem aLive_achan_ne {s : State} {k j : Nat} (b : Nat) (h : j ≠ k) : (aLive s k b).achan j = s.achan j := by
  unfold aLive
  dsimp only
  split
  · rw [raise_achan, State.achan_setAchan_ne _ _ _ _ h]
  · exact State.achan_setAchan_ne _ _ _ _ h

theorem aLiveOff_achan (s : State) (k b : Nat) :
    (aLiveOff s k b).achan k = { s.achan k with live := setBit (s.achan k).live b false } := State.achan_setAchan s k _

theorem bit_setBit_ne {n b j : Nat} (v : Bool) (h : j ≠ b) : bit (setBit n b v) j = bit n j := by
  rw [setBit, bit_putBits, if_neg h]

/-! ### Conversions -/

/-- A channel's samples once a conversion is in, and the calibrated mean over its window. -/
def sampled (c : AChan) (ua : Int) : List Int := (ua :: c.hist).take 5000

def measured (c : AChan) (ua : Int) : Int :=
  calibrated c (((sampled c ua).take c.win).foldl (· + ·) 0) ((sampled c ua).take c.win).length

/-- An input after a conversion, before its quality. -/
def converted (c : AChan) (ua : Int) (limiter : Bool) (now : Nat) : AChan :=
  { c with hist := sampled c ua, limiter := limiter, meas := clampInt 0 24000 (measured c ua),
           lowAt := lasting c.lowAt now (decide (measured c ua < 500)) }

/-- The instant of a conversion. -/
def conversionAt (s : State) : State := s.at (ceilDiv s.now 100000 * 100000)

/-- The live bits that a conversion's class shows. -/
def showClass (s : State) (k cls : Nat) : State := (List.range 4).foldl (fun s b => if bit cls b then aLive s k b else s) s

theorem analogConversion_input {ch : Fin 8} {ua : Int} {limiter : Bool} {s : State} (hst : s.field.state ≠ fsInit)
    (hmode : (s.achan ch.val).mode = 1 ∨ (s.achan ch.val).mode = 2) :
    let c := converted (s.achan ch.val) ua limiter (conversionAt s).now
    let cl := classify c (measured (s.achan ch.val) ua) (conversionAt s).now
    exec (.analogConversion ch ua limiter) s = .next (showClass ((conversionAt s).setAchan ch.val { c with good := cl.2 }) ch.val cl.1) := by
  have hon : ¬((s.achan ch.val).mode = 0 || s.field.state == fsInit) = true := by
    rcases hmode with h | h <;> simp [h, hst]
  have hin : ¬(s.achan ch.val).mode = 3 := by rcases hmode with h | h <;> simp [h]
  exact (if_neg hon).trans (if_neg hin)

theorem analogConversion_class {ch : Fin 8} {ua : Int} {limiter : Bool} {s : State} {cls : Nat} {good : Bool}
    (hst : s.field.state ≠ fsInit) (hmode : (s.achan ch.val).mode = 1 ∨ (s.achan ch.val).mode = 2)
    (hcl : classify (converted (s.achan ch.val) ua limiter (conversionAt s).now) (measured (s.achan ch.val) ua) (conversionAt s).now =
      (cls, good)) : exec (.analogConversion ch ua limiter) s = .next (showClass ((conversionAt s).setAchan ch.val
        { converted (s.achan ch.val) ua limiter (conversionAt s).now with good := good }) ch.val cls) :=
  (analogConversion_input hst hmode).trans (by rw [hcl])

theorem analogConversion_idle {ch : Fin 8} (ua : Int) (limiter : Bool) {s : State} (h : (s.achan ch.val).mode = 0) :
    exec (.analogConversion ch ua limiter) s = .next (conversionAt s) :=
  if_pos (by simp [show ((s.at (ceilDiv s.now 100000 * 100000)).achan ch.val).mode = 0 from h])

/-- An output's conversion reads its current back. -/
theorem analogConversion_output {ch : Fin 8} {ua : Int} {limiter : Bool} {s : State} (hst : s.field.state ≠ fsInit)
    (hmode : (s.achan ch.val).mode = 3) : ∃ since, exec (.analogConversion ch ua limiter) s =
      .next ((conversionAt s).setAchan ch.val { s.achan ch.val with
        hist := sampled (s.achan ch.val) ua, limiter := limiter, meas := measured (s.achan ch.val) ua,
        good := !bit (s.achan ch.val).live 5, rbAt := since }) := by
  have hon : ¬((s.achan ch.val).mode = 0 || s.field.state == fsInit) = true := by simp [hmode, hst]
  exact ⟨_, (if_neg hon).trans (if_pos hmode)⟩

theorem showClass_keeps {P : State → Prop} {k : Nat} (hkeeps : ∀ s b, b < 4 → P s → P (aLive s k b)) (cls : Nat) {s : State} (h : P s) :
    P (showClass s k cls) := by
  refine List.foldlRecOn (List.range 4) _ (motive := P) h fun t ht b hb => ?_
  split
  · exact hkeeps t b (List.mem_range.mp hb) ht
  · exact ht

theorem showClass_none (s : State) (k : Nat) : showClass s k 0 = s := rfl

/-- The class of a current of at least 23 mA shows live bit 3. -/
theorem showClass_high (s : State) (k : Nat) : showClass s k 8 = aLive s k 3 := rfl

theorem classify_good {c : AChan} {ua : Int} {now : Nat} (hlow : c.lowAt = none) (hmode : c.mode = 1) (h1 : 3600 < ua)
    (h2 : ua < 21000) : classify c ua now = (0, true) := by
  simp [classify, hlow, hmode, show ¬ua ≤ 3600 by omega, h2]

theorem classify_high {c : AChan} {ua : Int} {now : Nat} (hlow : c.lowAt = none) (h : 23000 ≤ ua) :
    classify c ua now = (8, false) := by
  simp [classify, hlow, show ¬ua ≤ 3600 by omega, show ¬ua < 21000 by omega, show ¬ua < 23000 by omega]

theorem converted_lowAt {c : AChan} {ua : Int} (limiter : Bool) (now : Nat) (h : 500 ≤ measured c ua) :
    (converted c ua limiter now).lowAt = none := by
  simp [converted, lasting, show ¬measured c ua < 500 by omega]

/-- What every input keeps of a conversion, whatever its class. -/
theorem showClass_says (s : State) (k cls : Nat) : ((showClass s k cls).achan k).meas = (s.achan k).meas ∧
    ((showClass s k cls).achan k).hist = (s.achan k).hist ∧ (∀ j, j ≠ k → (showClass s k cls).achan j = s.achan j) ∧
    (showClass s k cls).mem.sram = s.mem.sram := by
  refine showClass_keeps (P := fun t => (t.achan k).meas = (s.achan k).meas ∧ (t.achan k).hist = (s.achan k).hist ∧
    (∀ j, j ≠ k → t.achan j = s.achan j) ∧ t.mem.sram = s.mem.sram) (fun t b _ ht => ?_) cls ⟨rfl, rfl, fun _ _ => rfl, rfl⟩
  obtain ⟨hmeas, hhist, hothers, hsram⟩ := ht
  exact ⟨by rw [aLive_achan]; exact hmeas, by rw [aLive_achan]; exact hhist,
    fun j hj => (aLive_achan_ne b hj).trans (hothers j hj), by simpa using hsram⟩

/-! ### Outputs -/

/-- What the alarm current shows in live bit 2, and that it leaves the other bits. -/
theorem aAlarm_says {s : State} {k : Nat} (h : (s.achan k).mode = 3) : ((aAlarm s k).achan k).live =
    setBit (s.achan k).live 2 (((s.achan k).on && decide ((s.achan k).drive = -1)) ||
      (bit (s.achan k).live 4 && !(s.achan k).almHigh)) := by
  unfold aAlarm
  simp only [h, ne_eq, not_true_eq_false, ite_false]
  split
  · next hshown => rw [aLive_achan, hshown]
  · next hclear => rw [aLiveOff_achan, Bool.not_eq_true _ |>.mp hclear]

theorem compl_shows {ch : Fin 8} {s : State} (hmode : (s.achan ch.val).mode = 3) (hon : (s.achan ch.val).on = true) :
    exec (.compl ch) s = .next (aAlarm (aLive s ch.val 4) ch.val) := if_pos (by simp [hmode, hon])

theorem rbfault_shows {ch : Fin 8} {s : State} {x : Nat} (hmode : (s.achan ch.val).mode = 3) (hrb : (s.achan ch.val).rbAt = some x)
    (hcompl : bit (s.achan ch.val).live 4 = false) (hst : s.field.state ≠ fsStandby) :
    exec (.rbfault ch) s = .next ((aLive (s.at (x + 50000000)) ch.val 5).setAchan ch.val
      { (aLive (s.at (x + 50000000)) ch.val 5).achan ch.val with good := false }) := by
  show execRbfault ch s = _
  simp [execRbfault, hrb, hmode, hcompl, hst]

theorem liveBitClear_output {ch : Fin 8} {b : Fin 32} {s : State} (hb : b.val = 5) (hmode : (s.achan ch.val).mode = 3)
    (hrb : (s.achan ch.val).rbAt = none) :
    exec (.liveBitClear true ⟨ch.val, by omega⟩ b) s = .next (aLiveOff s ch.val 5) := by
  show execLiveBitClear true _ b s = _
  simp [execLiveBitClear, hb, hmode, hrb, show ¬8 ≤ ch.val by omega]

theorem trimDriveTimeout_ends {ch : Fin 8} {s : State} {x : Int × Nat} (h : (s.achan ch.val).trim = some x) :
    exec (.trimDriveTimeout ch) s = .next ((s.at x.2).setAchan ch.val { s.achan ch.val with trim := none, trimUa := none }) := by
  show execTrimDriveTimeout ch s = _
  simp [execTrimDriveTimeout, h]

/-! ### Trims -/

/-- A user calibration that is set is what its object's two elements hold. -/
theorem setUserCal_obj (s : State) (c : Nat) (g o : Word) : (setUserCal s c g o).obj (0x3000 + c) 1 = toLE 4 g.toNat ∧
    (setUserCal s c g o).obj (0x3000 + c) 2 = toLE 4 o.toNat ∧ (setUserCal s c g o).regs = s.regs := by
  have hobjs : (setUserCal s c g o).objs =
      ((s.setObj (0x3000 + c) 1 (toLE 4 g.toNat)).setObj (0x3000 + c) 2 (toLE 4 o.toNat)).objs := by simp [setUserCal]
  refine ⟨?_, ?_, by simp [setUserCal]⟩
  · rw [State.obj, hobjs]
    have hne : objKey (0x3000 + c) 1 ≠ objKey (0x3000 + c) 2 := by simp only [objKey]; omega
    exact (Tbl.get_set_ne (s.setObj (0x3000 + c) 1 (toLE 4 g.toNat)).objs [] (objKey (0x3000 + c) 2) _ (toLE 4 o.toNat) hne).trans
      (Tbl.get_set_same s.objs [] (objKey (0x3000 + c) 1) (toLE 4 g.toNat))
  · rw [State.obj, hobjs]
    exact Tbl.get_set_same (s.setObj (0x3000 + c) 1 (toLE 4 g.toNat)).objs [] (objKey (0x3000 + c) 2) (toLE 4 o.toNat)

/-- Settles O53: a conversion by its channel's mode and class; outputs, trims and buttons by their equations. -/
theorem analogueChannels : Obligations.AnalogueChannels := by
  refine ⟨?_, fun ch ua limiter s h => analogConversion_idle ua limiter h, ?_, ?_, ?_⟩
  · intro ch ua limiter s c hist raw hst
    refine ⟨fun hmode => ⟨_, analogConversion_input hst hmode, ?_⟩, fun hmode h1 h2 => ?_, fun hmode h => ?_, fun hmode => ?_⟩
    · obtain ⟨hmeas, hhist, hothers, hsram⟩ := showClass_says ((conversionAt s).setAchan ch.val _) ch.val _
      rw [State.achan_setAchan] at hmeas hhist
      exact ⟨hmeas, hhist, fun j hj => (hothers j hj).trans (State.achan_setAchan_ne _ _ _ _ hj), hsram⟩
    · have hcl := classify_good (now := (conversionAt s).now) (converted_lowAt limiter (conversionAt s).now
        (show 500 ≤ measured (s.achan ch.val) ua by have : 3600 < measured (s.achan ch.val) ua := h1; omega)) hmode h1 h2
      exact ⟨_, analogConversion_class hst (Or.inl hmode) hcl, by rw [showClass_none, State.achan_setAchan], by rw [showClass_none, State.achan_setAchan]; rfl, rfl⟩
    · have hcl := classify_high (now := (conversionAt s).now) (converted_lowAt limiter (conversionAt s).now
        (show 500 ≤ measured (s.achan ch.val) ua by have : 23000 ≤ measured (s.achan ch.val) ua := h; omega)) h
      refine ⟨_, analogConversion_class hst (Or.inl hmode) hcl, ?_⟩
      beta_reduce
      rw [showClass_high, aLive_achan, State.achan_setAchan]
      exact ⟨rfl, bit_setBit _ 3 true⟩
    · obtain ⟨since, hexec⟩ := analogConversion_output (ua := ua) (limiter := limiter) hst hmode
      refine ⟨_, hexec, ?_⟩
      beta_reduce
      rw [State.achan_setAchan]
      exact ⟨rfl, rfl, fun j hj => State.achan_setAchan_ne _ _ _ _ hj, rfl, rfl⟩
  · intro ch s hmode
    refine ⟨fun hon => ⟨_, compl_shows hmode hon, ?_⟩, ⟨_, rfl, ?_⟩, fun x hrb hcompl hst => ⟨_, rbfault_shows hmode hrb hcompl hst, ?_⟩,
      fun b hb hrb => ⟨_, liveBitClear_output hb hmode hrb, ?_⟩⟩
    · have hlive := aLive_achan s ch.val 4
      beta_reduce
      rw [aAlarm_says (by rw [hlive]; exact hmode), hlive, bit_setBit, bit_setBit_ne _ (by decide)]
      simp only [bit_setBit, hon, Bool.true_and, and_self]
    · have hlive := aLiveOff_achan s ch.val 4
      beta_reduce
      rw [aAlarm_says (by rw [hlive]; exact hmode), hlive, bit_setBit_ne _ (by decide), bit_setBit]
    · beta_reduce
      rw [State.achan_setAchan, aLive_achan]
      exact ⟨bit_setBit _ 5 true, rfl, by simp⟩
    · beta_reduce
      rw [aLiveOff_achan]
      exact ⟨bit_setBit _ 5 false, rfl⟩
  · intro ch s x htrim
    refine ⟨_, trimDriveTimeout_ends htrim, ?_⟩
    beta_reduce
    rw [State.achan_setAchan]
    exact ⟨rfl, rfl, rfl, rfl⟩
  · intro s c
    refine ⟨fun hready hboth => ⟨_, if_pos (by simp [hready, hboth]), setUserCal_obj s c 0 0⟩,
      fun hready hzero => if_pos (by simp [hready, hzero]), fun hready hspan => if_pos (by simp [hready, hspan]), fun hno => ?_⟩
    exact ⟨if_neg (by simp [hno]), if_neg (by simp [hno]), if_neg (by simp [hno])⟩
end Sys2Proof.Machine
end

section
/-!
SUPPORT. What CAN requests, Jurno answers, a cancellation and the power-fail stop leave unchanged.
-/
namespace Sys2Proof.Machine

@[simp] theorem bankSave_rest (s : State) (payload : List Byte) :
    (bankSave s payload).now = s.now ∧ (bankSave s payload).pending = s.pending ∧ (bankSave s payload).draws = s.draws ∧
      (bankSave s payload).rdata = s.rdata ∧ (bankSave s payload).regs = s.regs ∧ (bankSave s payload).mem.code = s.mem.code ∧
      (bankSave s payload).mem.sram = s.mem.sram ∧ (bankSave s payload).mem.trace = s.mem.trace ∧
      (bankSave s payload).mem.fw = s.mem.fw ∧ (bankSave s payload).mem.flash = s.mem.flash ∧
      (bankSave s payload).units = s.units ∧ (bankSave s payload).objs = s.objs ∧ (bankSave s payload).prog = s.prog ∧
      (bankSave s payload).img = s.img ∧ (bankSave s payload).tsk = s.tsk ∧ (bankSave s payload).gz = s.gz ∧
      (bankSave s payload).evc = s.evc ∧ (bankSave s payload).nv = s.nv ∧ (bankSave s payload).rtc = s.rtc ∧
      (bankSave s payload).wdg = s.wdg ∧ (bankSave s payload).frz = s.frz ∧ (bankSave s payload).rcd = s.rcd ∧
      (bankSave s payload).boot = s.boot ∧ (bankSave s payload).phr = s.phr ∧ (bankSave s payload).lpe = s.lpe ∧
      (bankSave s payload).trc = s.trc ∧ (bankSave s payload).nrg = s.nrg ∧ (bankSave s payload).hsb = s.hsb ∧
      (bankSave s payload).field = s.field ∧ (bankSave s payload).can = s.can ∧ (bankSave s payload).saf = s.saf ∧
      (bankSave s payload).jrn = s.jrn ∧ (bankSave s payload).stations = s.stations ∧ (bankSave s payload).sent = s.sent := by
  unfold bankSave
  simp

@[simp] theorem claimRefused_rest (s : State) (res owner claimant : Nat) :
    (claimRefused s res owner claimant).now = s.now ∧ (claimRefused s res owner claimant).pending = s.pending ∧
      (claimRefused s res owner claimant).draws = s.draws ∧ (claimRefused s res owner claimant).rdata = s.rdata ∧
      (claimRefused s res owner claimant).mem.code = s.mem.code ∧ (claimRefused s res owner claimant).mem.sram = s.mem.sram ∧
      (claimRefused s res owner claimant).mem.trace = s.mem.trace ∧ (claimRefused s res owner claimant).mem.fw = s.mem.fw ∧
      (claimRefused s res owner claimant).mem.flash = s.mem.flash ∧ (claimRefused s res owner claimant).units = s.units ∧
      (claimRefused s res owner claimant).objs = s.objs ∧ (claimRefused s res owner claimant).prog = s.prog ∧
      (claimRefused s res owner claimant).img = s.img ∧ (claimRefused s res owner claimant).tsk = s.tsk ∧
      (claimRefused s res owner claimant).gz = s.gz ∧ (claimRefused s res owner claimant).nv = s.nv ∧
      (claimRefused s res owner claimant).rtc = s.rtc ∧ (claimRefused s res owner claimant).wdg = s.wdg ∧
      (claimRefused s res owner claimant).frz = s.frz ∧ (claimRefused s res owner claimant).boot = s.boot ∧
      (claimRefused s res owner claimant).phr = s.phr ∧ (claimRefused s res owner claimant).lpe = s.lpe ∧
      (claimRefused s res owner claimant).trc = s.trc ∧ (claimRefused s res owner claimant).nrg = s.nrg ∧
      (claimRefused s res owner claimant).hsb = s.hsb ∧ (claimRefused s res owner claimant).field = s.field ∧
      (claimRefused s res owner claimant).can = s.can ∧ (claimRefused s res owner claimant).saf = s.saf ∧
      (claimRefused s res owner claimant).jrn = s.jrn ∧ (claimRefused s res owner claimant).stations = s.stations ∧
      (claimRefused s res owner claimant).sent = s.sent := by
  unfold claimRefused
  simp

@[simp] theorem canSelect_rest (s : State) (m : Nat) :
    (canSelect s m).now = s.now ∧ (canSelect s m).pending = s.pending ∧ (canSelect s m).draws = s.draws ∧
      (canSelect s m).rdata = s.rdata ∧ (canSelect s m).mem = s.mem ∧ (canSelect s m).units = s.units ∧
      (canSelect s m).objs = s.objs ∧ (canSelect s m).prog = s.prog ∧ (canSelect s m).img = s.img ∧
      (canSelect s m).tsk = s.tsk ∧ (canSelect s m).gz = s.gz ∧ (canSelect s m).evc = s.evc ∧ (canSelect s m).nv = s.nv ∧
      (canSelect s m).rtc = s.rtc ∧ (canSelect s m).wdg = s.wdg ∧ (canSelect s m).frz = s.frz ∧ (canSelect s m).rcd = s.rcd ∧
      (canSelect s m).boot = s.boot ∧ (canSelect s m).phr = s.phr ∧ (canSelect s m).lpe = s.lpe ∧ (canSelect s m).trc = s.trc ∧
      (canSelect s m).nrg = s.nrg ∧ (canSelect s m).hsb = s.hsb ∧ (canSelect s m).field = s.field ∧
      (canSelect s m).saf = s.saf ∧ (canSelect s m).jrn = s.jrn ∧ (canSelect s m).stations = s.stations ∧
      (canSelect s m).sent = s.sent := by
  unfold canSelect
  split <;> simp

@[simp] theorem canRequest_rest (s : State) (m b : Nat) (jurno : Bool) :
    (canRequest s m b jurno).now = s.now ∧ (canRequest s m b jurno).pending = s.pending ∧
      (canRequest s m b jurno).draws = s.draws ∧ (canRequest s m b jurno).rdata = s.rdata ∧
      (canRequest s m b jurno).mem.code = s.mem.code ∧ (canRequest s m b jurno).mem.sram = s.mem.sram ∧
      (canRequest s m b jurno).mem.trace = s.mem.trace ∧ (canRequest s m b jurno).mem.fw = s.mem.fw ∧
      (canRequest s m b jurno).mem.flash = s.mem.flash ∧ (canRequest s m b jurno).units = s.units ∧
      (canRequest s m b jurno).objs = s.objs ∧ (canRequest s m b jurno).prog = s.prog ∧ (canRequest s m b jurno).img = s.img ∧
      (canRequest s m b jurno).tsk = s.tsk ∧ (canRequest s m b jurno).gz = s.gz ∧ (canRequest s m b jurno).nv = s.nv ∧
      (canRequest s m b jurno).rtc = s.rtc ∧ (canRequest s m b jurno).wdg = s.wdg ∧ (canRequest s m b jurno).frz = s.frz ∧
      (canRequest s m b jurno).boot = s.boot ∧ (canRequest s m b jurno).phr = s.phr ∧ (canRequest s m b jurno).lpe = s.lpe ∧
      (canRequest s m b jurno).trc = s.trc ∧ (canRequest s m b jurno).nrg = s.nrg ∧ (canRequest s m b jurno).hsb = s.hsb ∧
      (canRequest s m b jurno).field = s.field ∧ (canRequest s m b jurno).saf = s.saf ∧ (canRequest s m b jurno).jrn = s.jrn ∧
      (canRequest s m b jurno).stations = s.stations ∧ (canRequest s m b jurno).sent = s.sent := by
  unfold canRequest
  dsimp only
  split
  · simp
  · split
    · simp
    · split <;> simp

@[simp] theorem canLoad_rest (s : State) (m : Nat) (f : CanFrame) :
    (canLoad s m f).now = s.now ∧ (canLoad s m f).pending = s.pending ∧ (canLoad s m f).draws = s.draws ∧
      (canLoad s m f).rdata = s.rdata ∧ (canLoad s m f).mem = s.mem ∧ (canLoad s m f).units = s.units ∧
      (canLoad s m f).objs = s.objs ∧ (canLoad s m f).prog = s.prog ∧ (canLoad s m f).img = s.img ∧
      (canLoad s m f).tsk = s.tsk ∧ (canLoad s m f).gz = s.gz ∧ (canLoad s m f).evc = s.evc ∧ (canLoad s m f).nv = s.nv ∧
      (canLoad s m f).rtc = s.rtc ∧ (canLoad s m f).wdg = s.wdg ∧ (canLoad s m f).frz = s.frz ∧ (canLoad s m f).rcd = s.rcd ∧
      (canLoad s m f).boot = s.boot ∧ (canLoad s m f).phr = s.phr ∧ (canLoad s m f).lpe = s.lpe ∧ (canLoad s m f).trc = s.trc ∧
      (canLoad s m f).nrg = s.nrg ∧ (canLoad s m f).hsb = s.hsb ∧ (canLoad s m f).field = s.field ∧
      (canLoad s m f).can = s.can ∧ (canLoad s m f).saf = s.saf ∧ (canLoad s m f).jrn = s.jrn ∧
      (canLoad s m f).stations = s.stations ∧ (canLoad s m f).sent = s.sent := by
  unfold canLoad
  simp

@[simp] theorem canJurnoNext_rest (s : State) (m : Nat) (n : Nat) :
    (canJurnoNext s m n).now = s.now ∧ (canJurnoNext s m n).pending = s.pending ∧ (canJurnoNext s m n).draws = s.draws ∧
      (canJurnoNext s m n).rdata = s.rdata ∧ (canJurnoNext s m n).mem.code = s.mem.code ∧
      (canJurnoNext s m n).mem.sram = s.mem.sram ∧ (canJurnoNext s m n).mem.trace = s.mem.trace ∧
      (canJurnoNext s m n).mem.fw = s.mem.fw ∧ (canJurnoNext s m n).mem.flash = s.mem.flash ∧
      (canJurnoNext s m n).units = s.units ∧ (canJurnoNext s m n).objs = s.objs ∧ (canJurnoNext s m n).prog = s.prog ∧
      (canJurnoNext s m n).img = s.img ∧ (canJurnoNext s m n).tsk = s.tsk ∧ (canJurnoNext s m n).gz = s.gz ∧
      (canJurnoNext s m n).nv = s.nv ∧ (canJurnoNext s m n).rtc = s.rtc ∧ (canJurnoNext s m n).wdg = s.wdg ∧
      (canJurnoNext s m n).frz = s.frz ∧ (canJurnoNext s m n).boot = s.boot ∧ (canJurnoNext s m n).phr = s.phr ∧
      (canJurnoNext s m n).lpe = s.lpe ∧ (canJurnoNext s m n).trc = s.trc ∧ (canJurnoNext s m n).nrg = s.nrg ∧
      (canJurnoNext s m n).hsb = s.hsb ∧ (canJurnoNext s m n).field = s.field ∧ (canJurnoNext s m n).saf = s.saf ∧
      (canJurnoNext s m n).jrn = s.jrn ∧ (canJurnoNext s m n).stations = s.stations ∧ (canJurnoNext s m n).sent = s.sent := by
  induction n generalizing s with
  | zero => simp [canJurnoNext]
  | succ n ih =>
    unfold canJurnoNext
    dsimp only
    split
    · simp
    · split
      · simp
      · simp [ih]

@[simp] theorem canAnswer_rest (s : State) (m node : Nat) (bs : List Byte) :
    (canAnswer s m node bs).now = s.now ∧ (canAnswer s m node bs).pending = s.pending ∧
      (canAnswer s m node bs).rdata = s.rdata ∧ (canAnswer s m node bs).mem.code = s.mem.code ∧
      (canAnswer s m node bs).mem.sram = s.mem.sram ∧ (canAnswer s m node bs).mem.trace = s.mem.trace ∧
      (canAnswer s m node bs).mem.fw = s.mem.fw ∧ (canAnswer s m node bs).mem.flash = s.mem.flash ∧
      (canAnswer s m node bs).units = s.units ∧ (canAnswer s m node bs).objs = s.objs ∧ (canAnswer s m node bs).prog = s.prog ∧
      (canAnswer s m node bs).img = s.img ∧ (canAnswer s m node bs).tsk = s.tsk ∧ (canAnswer s m node bs).gz = s.gz ∧
      (canAnswer s m node bs).nv = s.nv ∧ (canAnswer s m node bs).rtc = s.rtc ∧ (canAnswer s m node bs).wdg = s.wdg ∧
      (canAnswer s m node bs).frz = s.frz ∧ (canAnswer s m node bs).boot = s.boot ∧ (canAnswer s m node bs).phr = s.phr ∧
      (canAnswer s m node bs).lpe = s.lpe ∧ (canAnswer s m node bs).trc = s.trc ∧ (canAnswer s m node bs).nrg = s.nrg ∧
      (canAnswer s m node bs).hsb = s.hsb ∧ (canAnswer s m node bs).field = s.field ∧ (canAnswer s m node bs).saf = s.saf ∧
      (canAnswer s m node bs).jrn = s.jrn ∧ (canAnswer s m node bs).stations = s.stations ∧
      (canAnswer s m node bs).sent = s.sent := by
  unfold canAnswer
  simp [State.drawBit]

@[simp] theorem keepAnswer_rest (s : State) (sid seq : Nat) (m : JMsg) :
    (keepAnswer s sid seq m).now = s.now ∧ (keepAnswer s sid seq m).pending = s.pending ∧
      (keepAnswer s sid seq m).draws = s.draws ∧ (keepAnswer s sid seq m).rdata = s.rdata ∧
      (keepAnswer s sid seq m).regs = s.regs ∧ (keepAnswer s sid seq m).mem = s.mem ∧
      (keepAnswer s sid seq m).units = s.units ∧ (keepAnswer s sid seq m).objs = s.objs ∧
      (keepAnswer s sid seq m).prog = s.prog ∧ (keepAnswer s sid seq m).img = s.img ∧ (keepAnswer s sid seq m).tsk = s.tsk ∧
      (keepAnswer s sid seq m).gz = s.gz ∧ (keepAnswer s sid seq m).evc = s.evc ∧ (keepAnswer s sid seq m).nv = s.nv ∧
      (keepAnswer s sid seq m).rtc = s.rtc ∧ (keepAnswer s sid seq m).wdg = s.wdg ∧ (keepAnswer s sid seq m).frz = s.frz ∧
      (keepAnswer s sid seq m).rcd = s.rcd ∧ (keepAnswer s sid seq m).boot = s.boot ∧ (keepAnswer s sid seq m).phr = s.phr ∧
      (keepAnswer s sid seq m).lpe = s.lpe ∧ (keepAnswer s sid seq m).trc = s.trc ∧ (keepAnswer s sid seq m).nrg = s.nrg ∧
      (keepAnswer s sid seq m).hsb = s.hsb ∧ (keepAnswer s sid seq m).field = s.field ∧ (keepAnswer s sid seq m).can = s.can ∧
      (keepAnswer s sid seq m).saf = s.saf ∧ (keepAnswer s sid seq m).stations = s.stations ∧
      (keepAnswer s sid seq m).sent = s.sent := by
  unfold keepAnswer
  split
  · simp
  · split
    · simp
    · simp [setSession, State.modJrn]

@[simp] theorem sendTo_rest (s : State) (src : JSrc) (m : JMsg) :
    (sendTo s src m).now = s.now ∧ (sendTo s src m).pending = s.pending ∧ (sendTo s src m).rdata = s.rdata ∧
      (sendTo s src m).mem.code = s.mem.code ∧ (sendTo s src m).mem.sram = s.mem.sram ∧
      (sendTo s src m).mem.trace = s.mem.trace ∧ (sendTo s src m).mem.fw = s.mem.fw ∧
      (sendTo s src m).mem.flash = s.mem.flash ∧ (sendTo s src m).units = s.units ∧ (sendTo s src m).objs = s.objs ∧
      (sendTo s src m).prog = s.prog ∧ (sendTo s src m).img = s.img ∧ (sendTo s src m).tsk = s.tsk ∧
      (sendTo s src m).gz = s.gz ∧ (sendTo s src m).nv = s.nv ∧ (sendTo s src m).rtc = s.rtc ∧ (sendTo s src m).wdg = s.wdg ∧
      (sendTo s src m).frz = s.frz ∧ (sendTo s src m).boot = s.boot ∧ (sendTo s src m).phr = s.phr ∧
      (sendTo s src m).lpe = s.lpe ∧ (sendTo s src m).trc = s.trc ∧ (sendTo s src m).nrg = s.nrg ∧
      (sendTo s src m).hsb = s.hsb ∧ (sendTo s src m).field = s.field ∧ (sendTo s src m).saf = s.saf ∧
      (sendTo s src m).jrn = s.jrn ∧ (sendTo s src m).stations = s.stations := by
  unfold sendTo
  split <;> simp

@[simp] theorem endSession_rest (s : State) (src : JSrc) :
    (endSession s src).now = s.now ∧ (endSession s src).pending = s.pending ∧ (endSession s src).draws = s.draws ∧
      (endSession s src).rdata = s.rdata ∧ (endSession s src).regs = s.regs ∧ (endSession s src).mem = s.mem ∧
      (endSession s src).units = s.units ∧ (endSession s src).objs = s.objs ∧ (endSession s src).prog = s.prog ∧
      (endSession s src).img = s.img ∧ (endSession s src).tsk = s.tsk ∧ (endSession s src).gz = s.gz ∧
      (endSession s src).evc = s.evc ∧ (endSession s src).nv = s.nv ∧ (endSession s src).rtc = s.rtc ∧
      (endSession s src).wdg = s.wdg ∧ (endSession s src).frz = s.frz ∧ (endSession s src).rcd = s.rcd ∧
      (endSession s src).boot = s.boot ∧ (endSession s src).phr = s.phr ∧ (endSession s src).lpe = s.lpe ∧
      (endSession s src).trc = s.trc ∧ (endSession s src).nrg = s.nrg ∧ (endSession s src).hsb = s.hsb ∧
      (endSession s src).field = s.field ∧ (endSession s src).can = s.can ∧ (endSession s src).saf = s.saf ∧
      (endSession s src).stations = s.stations ∧ (endSession s src).sent = s.sent := by
  unfold endSession
  split
  · split <;> simp [setSession, State.modJrn]
  · simp

@[simp] theorem answer_rest (s : State) (q : JReq) (m : JMsg) :
    (answer s q m).now = s.now ∧ (answer s q m).pending = s.pending ∧ (answer s q m).rdata = s.rdata ∧
      (answer s q m).mem.code = s.mem.code ∧ (answer s q m).mem.sram = s.mem.sram ∧ (answer s q m).mem.trace = s.mem.trace ∧
      (answer s q m).mem.fw = s.mem.fw ∧ (answer s q m).mem.flash = s.mem.flash ∧ (answer s q m).units = s.units ∧
      (answer s q m).objs = s.objs ∧ (answer s q m).prog = s.prog ∧ (answer s q m).img = s.img ∧ (answer s q m).tsk = s.tsk ∧
      (answer s q m).gz = s.gz ∧ (answer s q m).nv = s.nv ∧ (answer s q m).rtc = s.rtc ∧ (answer s q m).wdg = s.wdg ∧
      (answer s q m).frz = s.frz ∧ (answer s q m).boot = s.boot ∧ (answer s q m).phr = s.phr ∧ (answer s q m).lpe = s.lpe ∧
      (answer s q m).trc = s.trc ∧ (answer s q m).nrg = s.nrg ∧ (answer s q m).hsb = s.hsb ∧ (answer s q m).field = s.field ∧
      (answer s q m).saf = s.saf ∧ (answer s q m).stations = s.stations := by
  unfold answer
  split <;> simp

@[simp] theorem answerRetry_rest (s : State) (q : JReq) (status ms : Nat) :
    (answerRetry s q status ms).now = s.now ∧ (answerRetry s q status ms).pending = s.pending ∧
      (answerRetry s q status ms).rdata = s.rdata ∧ (answerRetry s q status ms).mem.code = s.mem.code ∧
      (answerRetry s q status ms).mem.sram = s.mem.sram ∧ (answerRetry s q status ms).mem.trace = s.mem.trace ∧
      (answerRetry s q status ms).mem.fw = s.mem.fw ∧ (answerRetry s q status ms).mem.flash = s.mem.flash ∧
      (answerRetry s q status ms).units = s.units ∧ (answerRetry s q status ms).objs = s.objs ∧
      (answerRetry s q status ms).prog = s.prog ∧ (answerRetry s q status ms).img = s.img ∧
      (answerRetry s q status ms).tsk = s.tsk ∧ (answerRetry s q status ms).gz = s.gz ∧ (answerRetry s q status ms).nv = s.nv ∧
      (answerRetry s q status ms).rtc = s.rtc ∧ (answerRetry s q status ms).wdg = s.wdg ∧
      (answerRetry s q status ms).frz = s.frz ∧ (answerRetry s q status ms).boot = s.boot ∧
      (answerRetry s q status ms).phr = s.phr ∧ (answerRetry s q status ms).lpe = s.lpe ∧
      (answerRetry s q status ms).trc = s.trc ∧ (answerRetry s q status ms).nrg = s.nrg ∧
      (answerRetry s q status ms).hsb = s.hsb ∧ (answerRetry s q status ms).field = s.field ∧
      (answerRetry s q status ms).saf = s.saf ∧ (answerRetry s q status ms).stations = s.stations := by
  unfold answerRetry
  simp

@[simp] theorem answerFailed_rest (s : State) (t : Tx) :
    (answerFailed s t).now = s.now ∧ (answerFailed s t).pending = s.pending ∧ (answerFailed s t).rdata = s.rdata ∧
      (answerFailed s t).mem.code = s.mem.code ∧ (answerFailed s t).mem.sram = s.mem.sram ∧
      (answerFailed s t).mem.trace = s.mem.trace ∧ (answerFailed s t).mem.fw = s.mem.fw ∧
      (answerFailed s t).mem.flash = s.mem.flash ∧ (answerFailed s t).units = s.units ∧ (answerFailed s t).objs = s.objs ∧
      (answerFailed s t).prog = s.prog ∧ (answerFailed s t).img = s.img ∧ (answerFailed s t).tsk = s.tsk ∧
      (answerFailed s t).gz = s.gz ∧ (answerFailed s t).nv = s.nv ∧ (answerFailed s t).rtc = s.rtc ∧
      (answerFailed s t).wdg = s.wdg ∧ (answerFailed s t).frz = s.frz ∧ (answerFailed s t).boot = s.boot ∧
      (answerFailed s t).phr = s.phr ∧ (answerFailed s t).lpe = s.lpe ∧ (answerFailed s t).trc = s.trc ∧
      (answerFailed s t).nrg = s.nrg ∧ (answerFailed s t).hsb = s.hsb ∧ (answerFailed s t).field = s.field ∧
      (answerFailed s t).saf = s.saf ∧ (answerFailed s t).stations = s.stations := by
  unfold answerFailed
  split <;> simp

@[simp] theorem cancelAll_rest (s : State) :
    (cancelAll s).now = s.now ∧ (cancelAll s).pending = s.pending ∧ (cancelAll s).rdata = s.rdata ∧
      (cancelAll s).mem.code = s.mem.code ∧ (cancelAll s).mem.sram = s.mem.sram ∧ (cancelAll s).mem.trace = s.mem.trace ∧
      (cancelAll s).mem.fw = s.mem.fw ∧ (cancelAll s).mem.flash = s.mem.flash ∧ (cancelAll s).units = s.units ∧
      (cancelAll s).objs = s.objs ∧ (cancelAll s).prog = s.prog ∧ (cancelAll s).img = s.img ∧ (cancelAll s).tsk = s.tsk ∧
      (cancelAll s).gz = s.gz ∧ (cancelAll s).nv = s.nv ∧ (cancelAll s).rtc = s.rtc ∧ (cancelAll s).wdg = s.wdg ∧
      (cancelAll s).frz = s.frz ∧ (cancelAll s).boot = s.boot ∧ (cancelAll s).phr.rings = s.phr.rings ∧
      (cancelAll s).phr.atStart = s.phr.atStart ∧ (cancelAll s).phr.linksDown = s.phr.linksDown ∧ (cancelAll s).lpe = s.lpe ∧
      (cancelAll s).trc = s.trc ∧ (cancelAll s).nrg = s.nrg ∧ (cancelAll s).hsb = s.hsb ∧ (cancelAll s).field = s.field ∧
      (cancelAll s).saf = s.saf ∧ (cancelAll s).stations = s.stations := by
  unfold cancelAll
  simp

@[simp] theorem openFlash_rest (s : State) (off n : Nat) :
    (openFlash s off n).now = s.now ∧ (openFlash s off n).pending = s.pending ∧ (openFlash s off n).rdata = s.rdata ∧
      (openFlash s off n).regs = s.regs ∧ (openFlash s off n).mem.code = s.mem.code ∧
      (openFlash s off n).mem.sram = s.mem.sram ∧ (openFlash s off n).mem.trace = s.mem.trace ∧
      (openFlash s off n).mem.fw = s.mem.fw ∧ (openFlash s off n).units = s.units ∧ (openFlash s off n).objs = s.objs ∧
      (openFlash s off n).prog = s.prog ∧ (openFlash s off n).img = s.img ∧ (openFlash s off n).tsk = s.tsk ∧
      (openFlash s off n).gz = s.gz ∧ (openFlash s off n).evc = s.evc ∧ (openFlash s off n).nv = s.nv ∧
      (openFlash s off n).rtc = s.rtc ∧ (openFlash s off n).wdg = s.wdg ∧ (openFlash s off n).frz = s.frz ∧
      (openFlash s off n).rcd = s.rcd ∧ (openFlash s off n).boot = s.boot ∧ (openFlash s off n).phr = s.phr ∧
      (openFlash s off n).lpe = s.lpe ∧ (openFlash s off n).trc = s.trc ∧ (openFlash s off n).nrg = s.nrg ∧
      (openFlash s off n).hsb = s.hsb ∧ (openFlash s off n).field = s.field ∧ (openFlash s off n).can = s.can ∧
      (openFlash s off n).saf = s.saf ∧ (openFlash s off n).jrn = s.jrn ∧ (openFlash s off n).stations = s.stations ∧
      (openFlash s off n).sent = s.sent := by
  unfold openFlash
  simp

@[simp] theorem wdgPause_rest (s : State) :
    (wdgPause s).now = s.now ∧ (wdgPause s).pending = s.pending ∧ (wdgPause s).draws = s.draws ∧ (wdgPause s).rdata = s.rdata ∧
      (wdgPause s).regs = s.regs ∧ (wdgPause s).mem = s.mem ∧ (wdgPause s).units = s.units ∧ (wdgPause s).objs = s.objs ∧
      (wdgPause s).prog = s.prog ∧ (wdgPause s).img = s.img ∧ (wdgPause s).tsk = s.tsk ∧ (wdgPause s).gz = s.gz ∧
      (wdgPause s).evc = s.evc ∧ (wdgPause s).nv = s.nv ∧ (wdgPause s).rtc = s.rtc ∧ (wdgPause s).frz = s.frz ∧
      (wdgPause s).rcd = s.rcd ∧ (wdgPause s).boot = s.boot ∧ (wdgPause s).phr = s.phr ∧ (wdgPause s).lpe = s.lpe ∧
      (wdgPause s).trc = s.trc ∧ (wdgPause s).nrg = s.nrg ∧ (wdgPause s).hsb = s.hsb ∧ (wdgPause s).field = s.field ∧
      (wdgPause s).can = s.can ∧ (wdgPause s).saf = s.saf ∧ (wdgPause s).jrn = s.jrn ∧ (wdgPause s).stations = s.stations ∧
      (wdgPause s).sent = s.sent := by
  unfold wdgPause
  simp

@[simp] theorem powerFailStop_rest (s : State) :
    (powerFailStop s).now = s.now ∧ (powerFailStop s).pending = s.pending ∧ (powerFailStop s).rdata = s.rdata ∧
      (powerFailStop s).mem.code = s.mem.code ∧ (powerFailStop s).mem.sram = s.mem.sram ∧
      (powerFailStop s).mem.trace = s.mem.trace ∧ (powerFailStop s).mem.fw = s.mem.fw ∧
      (powerFailStop s).mem.flash = s.mem.flash ∧ (powerFailStop s).objs = s.objs ∧ (powerFailStop s).prog = s.prog ∧
      (powerFailStop s).nv = s.nv ∧ (powerFailStop s).rtc = s.rtc ∧ (powerFailStop s).wdg = s.wdg ∧
      (powerFailStop s).frz = s.frz ∧ (powerFailStop s).boot = s.boot ∧ (powerFailStop s).phr.rings = s.phr.rings ∧
      (powerFailStop s).phr.atStart = s.phr.atStart ∧ (powerFailStop s).phr.linksDown = s.phr.linksDown ∧
      (powerFailStop s).trc = s.trc ∧ (powerFailStop s).hsb.unit = s.hsb.unit ∧ (powerFailStop s).hsb.role = s.hsb.role ∧
      (powerFailStop s).saf = s.saf ∧ (powerFailStop s).stations = s.stations := by
  unfold powerFailStop
  simp

end Sys2Proof.Machine
end

section
/-!
PROOF. SuppliesAndResets: feeds, power-fail warning, loss and rise of power, RESET_N (R472 to R478, R710 to R721).
-/
namespace Sys2Proof.Machine

/-! ### Feeds -/

theorem feedState_below {s : State} {old mv : Nat} (h : mv < 9000) : feedState s old mv = (s, 0) := by
  simp [feedState, show ¬30500 ≤ mv by omega, show ¬32000 < mv by omega, show ¬31000 ≤ mv by omega, h]

theorem feedState_low {s : State} {old mv : Nat} (h1 : 9000 ≤ mv) (h2 : mv < 18300) : feedState s old mv = (s, 1) := by
  simp [feedState, show ¬30500 ≤ mv by omega, show ¬32000 < mv by omega, show ¬31000 ≤ mv by omega, show ¬mv < 9000 by omega,
    show ¬19200 ≤ mv by omega, h2]

theorem feedState_good {s : State} {old mv : Nat} (h1 : 19200 ≤ mv) (h2 : mv < 30500 ∨ mv < 31000 ∧ old ≠ 3) :
    feedState s old mv = (s, 2) := by
  have hhold : ¬(old = 3 ∧ 30500 ≤ mv) := by omega
  simp [feedState, hhold, show ¬32000 < mv by omega, show ¬31000 ≤ mv by omega, show ¬mv < 9000 by omega, h1]

theorem feedState_held {s : State} {old mv : Nat} (h1 : 30500 ≤ mv) (h2 : old = 3) : feedState s old mv = (s, 3) := by
  simp [feedState, h1, h2]

theorem feedState_high {s : State} {old mv : Nat} (h : 32000 < mv) : feedState s old mv = (s, 3) := by
  unfold feedState
  simp [h]

/-- The register of a feed, and the word that shows a state with its current and voltage. -/
def feedReg (f : Fin 2) : Nat := if f.val = 0 then HSB_FEEDA else HSB_FEEDB

def feedWord (n mv ma : Nat) : Word := toWord (n * 2 ^ 30 + Nat.min 1023 (ma / 2) * 65536 + Nat.min 0xFFFF mv)

theorem feedWord_shows {n : Nat} (mv ma : Nat) (hn : n < 4) : wbits (feedWord n mv ma) 31 30 = n ∧
    wbits (feedWord n mv ma) 25 16 = Nat.min 1023 (ma / 2) ∧ wbits (feedWord n mv ma) 15 0 = Nat.min 0xFFFF mv := by
  have h1 : Nat.min 1023 (ma / 2) ≤ 1023 := Nat.min_le_left _ _
  have h2 : Nat.min 0xFFFF mv ≤ 0xFFFF := Nat.min_le_left _ _
  unfold feedWord
  generalize Nat.min 1023 (ma / 2) = x at *
  generalize Nat.min 0xFFFF mv = y at *
  simp only [wbits, bits, toWord, BitVec.toNat_ofNat, Nat.shiftRight_eq_div_pow]
  omega

/-- What a feed shows after a change, and what that counts. -/
def FeedShows (f : Fin 2) (mv ma : Nat) (s : State) (n : Nat) (t : State) : Prop :=
  wbits (t.reg (feedReg f)) 31 30 = n ∧ wbits (t.reg (feedReg f)) 25 16 = Nat.min 1023 (ma / 2) ∧
    wbits (t.reg (feedReg f)) 15 0 = Nat.min 0xFFFF mv ∧
    (n = wbits (s.reg (feedReg f)) 31 30 → t.hsb.feedCnt = s.hsb.feedCnt) ∧
    (n ≠ wbits (s.reg (feedReg f)) 31 30 → t.hsb.feedCnt = holdAt 0xFFFFFFFF (s.hsb.feedCnt + 1))

theorem modHsb_reg (s : State) (f : HsbState → HsbState) (a : Nat) : (s.modHsb f).reg a = s.reg a := rfl

/-- A feed that shows the state of a reading, on the module that the reading leaves. -/
def fed (f : Fin 2) (s : State) (n : State × Nat) (mv ma : Nat) : State :=
  if n.2 = wbits (s.reg (feedReg f)) 31 30 then n.1.setReg (feedReg f) (feedWord n.2 mv ma)
  else ((n.1.setReg (feedReg f) (feedWord n.2 mv ma)).modHsb fun x => { x with feedCnt := holdAt 0xFFFFFFFF (x.feedCnt + 1) }).raise 56

theorem fed_same {f : Fin 2} {mv ma n : Nat} {s : State} (hn : n < 4) (h : n = wbits (s.reg (feedReg f)) 31 30) :
    FeedShows f mv ma s n (fed f s (s, n) mv ma) := by
  have hreg : (s.setReg (feedReg f) (feedWord n mv ma)).reg (feedReg f) = feedWord n mv ma := by simp
  obtain ⟨h31, h25, h15⟩ := feedWord_shows mv ma hn
  rw [fed, if_pos h]
  unfold FeedShows
  rw [hreg]
  exact ⟨h31, h25, h15, fun _ => by simp, fun hne => absurd h hne⟩

theorem fed_changed {f : Fin 2} {mv ma n : Nat} {s : State} (hn : n < 4) (h : n ≠ wbits (s.reg (feedReg f)) 31 30) :
    FeedShows f mv ma s n (fed f s (s, n) mv ma) := by
  have hreg : (s.setReg (feedReg f) (feedWord n mv ma)).reg (feedReg f) = feedWord n mv ma := by simp
  obtain ⟨h31, h25, h15⟩ := feedWord_shows mv ma hn
  have hraise (t : State) : (t.raise 56).reg (feedReg f) = t.reg (feedReg f) := raise_reg (by unfold feedReg; split <;> decide)
  rw [fed, if_neg h]
  unfold FeedShows
  rw [hraise, modHsb_reg, hreg]
  exact ⟨h31, h25, h15, fun heq => absurd heq h, fun _ => by simp⟩

/-- A feed's register takes the word, and a change of state is counted and raised (R472, R478). -/
theorem feedStateChange_shows {f : Fin 2} {mv ma n : Nat} {s : State} (hheld : s.boot.held = false) (hn : n < 4)
    (h : feedState s (wbits (s.reg (feedReg f)) 31 30) mv = (s, n)) :
    Answers (.feedStateChange f mv ma) s (FeedShows f mv ma s n) := by
  have hexec : exec (.feedStateChange f mv ma) s = .next (fed f s (feedState s (wbits (s.reg (feedReg f)) 31 30) mv) mv ma) :=
    if_neg (by simp [hheld])
  rw [h] at hexec
  rcases eq_or_ne n (wbits (s.reg (feedReg f)) 31 30) with hsame | hne
  · exact ⟨_, hexec, fed_same hn hsame⟩
  · exact ⟨_, hexec, fed_changed hn hne⟩

/-! ### The power-fail warning -/

theorem powerFailStop_stops (s : State) : (powerFailStop s).running = false := by
  have hends {t : State} (h : t.tsk.prog = .stopping ∨ t.tsk.prog = .stopped) : t.running = false := by
    rcases h with h | h <;> simp [State.running, h]
  unfold powerFailStop
  split
  · next hno => simpa using hno
  · next hrun =>
    split
    · refine hends ?_
      simpa using finishStop_prog (cancelAll (haltProgram _)) (by simp)
    · exact hends (programStop_prog s 9 0xFF (by simpa using hrun))

/-- The module at a power-fail warning, with the program stopped and the watchdog paused. -/
def warned (s : State) : State :=
  powerFailStop (wdgPause ((sendNotice ((((s.raise 57).setFlag HSB_PWR_PFW true).setFlag HSB_PWR_PFWSEEN true).modHsb
    fun h => { h with pfwCnt := holdAt 0xFFFFFFFF (h.pfwCnt + 1) }) 2).modBoot fun b => { b with pfw := true }))

theorem powerFailWarning_warns {s : State} (hheld : s.boot.held = false) (hpfw : s.boot.pfw = false) (hfrz : s.frz.frozen = false) :
    exec .powerFailWarning s = .next { warned s with nv := { (warned s).nv with
      saving := if s.boot.ranSince && s.tsk.prog != .preparing && decide (s.nv.prot < 3) then some (savePayload (warned s)) else none
      saveAt := (warned s).now } } := by
  refine (if_neg (by simp [hheld, hpfw])).trans ?_
  have hkeep : (if s.frz.frozen then freezeRelease s else s) = s := if_neg (by simp [hfrz])
  simp only [hkeep]
  exact if_neg (by simp [hheld])

theorem warned_pfw (s : State) : (warned s).boot.pfw = true := by
  simp [warned]

/-! ### Resets by supplies and by the pin -/

theorem moduleReset_boot {s : State} (k : Nat) (h : s.boot.held = false) :
    (moduleReset s k).boot.pfw = false ∧ (moduleReset s k).boot.saved = s.boot.saved := by
  obtain ⟨-, -, -, -, hboot, -⟩ := beforeReset_rest s
  rw [moduleReset_released s k h]
  exact ⟨rfl, (congrArg BootState.saved hboot :)⟩

/-- The module once its save is in the bank. -/
def saved (s : State) : State :=
  match s.nv.saving with
  | none => s
  | some p =>
    let t := bankSave s p
    { t with
      nv := { t.nv with saving := none, saveLen := p.length, saveUs := (t.now - t.nv.saveAt) / 1000 }
      boot := { t.boot with saved := true } }

theorem saved_of_none {s : State} (h : s.nv.saving = none) : saved s = s := by
  simp [saved, h]

theorem saved_boot {s : State} {p : List Byte} (h : s.nv.saving = some p) : (saved s).boot = { s.boot with saved := true } := by
  simp [saved, h]

theorem saved_held (s : State) : (saved s).boot.held = s.boot.held := by
  cases h : s.nv.saving with
  | none => rw [saved_of_none h]
  | some p => rw [saved_boot h]

theorem saveComplete_resets {s : State} (hpfw : s.boot.pfw = true) (hheld : s.boot.held = false) :
    exec .saveComplete s = .next (moduleReset (saved s) srcPowerFail) := by
  show execSaveComplete s = _
  cases h : s.nv.saving <;> simp [execSaveComplete, saved, hpfw, hheld, h]

/-- What a loss of power does to a save, a record and a flash operation in progress leaves the counters. -/
theorem tornSave_ctrs (s : State) : (tornSave s).nv.ctrs = s.nv.ctrs := by
  unfold tornSave
  split
  · rfl
  · simp [State.drawBit]

theorem tornRecord_ctrs (s : State) : (tornRecord s).nv.ctrs = s.nv.ctrs := by
  unfold tornRecord
  split
  · dsimp only
    split <;> rfl
  · rfl

theorem tornFlash_ctrs (s : State) : (tornFlash s).nv.ctrs = s.nv.ctrs := by
  unfold tornFlash
  split <;> rfl

theorem powerDown_says (s : State) : (powerDown s).boot.held = true ∧ (powerDown s).boot.sources = 0 ∧
    (powerDown s).stopped = true ∧ (powerDown s).mem.sram = [] ∧ (powerDown s).mem.trace = [] ∧ (powerDown s).regs = [] ∧
    (powerDown s).field = {} ∧ (powerDown s).nv.ctrs = s.nv.ctrs :=
  ⟨rfl, rfl, rfl, rfl, rfl, rfl, rfl, (tornFlash_ctrs _).trans ((tornRecord_ctrs _).trans (tornSave_ctrs s))⟩

/-- Settles O44: feeds by the state that each voltage gives; warning, loss, rise and pin by what a reset leaves. -/
theorem suppliesAndResets : Obligations.SuppliesAndResets := by
  refine ⟨?_, fun s hheld hpfw hfrz => ⟨_, powerFailWarning_warns hheld hpfw hfrz, warned_pfw s, powerFailStop_stops _, ?_⟩,
    fun s hpfw => ⟨if_pos (by simp [hpfw]), if_pos hpfw⟩, fun s hpfw hheld => ?_, fun s => ⟨_, rfl, powerDown_says s⟩,
    fun s => ⟨_, rfl, rfl, rfl, rfl, rfl, rfl⟩, fun s hpfw hheld => ?_⟩
  · intro f mv ma s hheld a old shows
    exact ⟨fun h => feedStateChange_shows hheld (by decide) (feedState_below h),
      fun h1 h2 => feedStateChange_shows hheld (by decide) (feedState_low h1 h2),
      fun h1 h2 => feedStateChange_shows hheld (by decide) (feedState_good h1 h2),
      fun h1 h2 => feedStateChange_shows hheld (by decide) (feedState_held h1 h2),
      fun h => feedStateChange_shows hheld (by decide) (feedState_high h)⟩
  · dsimp only
    cases hran : s.boot.ranSince <;> simp
  · have hreleased := (saved_held s).trans hheld
    obtain ⟨h1, h2, h3, -⟩ := moduleReset_says (saved s) srcPowerFail hreleased
    obtain ⟨h4, h5⟩ := moduleReset_boot srcPowerFail hreleased
    refine ⟨_, saveComplete_resets hpfw hheld, h1, h4, h2, h3, fun hnone => ?_, fun p hsome => ?_⟩
    · rw [h5, saved_of_none hnone]
    · rw [h5, saved_boot hsome]
  · obtain ⟨h1, h2, h3, -, -, h4, h5, -, h6⟩ := moduleReset_says s srcExternal hheld
    exact ⟨_, if_neg (by simp [hpfw]), h1, h2, h3, h4, h5, h6⟩

end Sys2Proof.Machine
end

section
/-!
SUPPORT. What the parts of a firmware start leave unchanged.
-/
namespace Sys2Proof.Machine

@[simp] theorem fieldCmd_field (s : State) (c : FieldCmd) : (fieldCmd s c).field = { s.field with cmds := s.field.cmds ++ [c] } := rfl

@[simp] theorem releaseClaims_field (s : State) (who : Nat) :
    (releaseClaims s who).field = { s.field with owners := s.field.owners.filter fun e => e.2 != who } := rfl

@[simp] theorem passFindings_rest (s : State) :
    (passFindings s).now = s.now ∧ (passFindings s).pending = s.pending ∧ (passFindings s).draws = s.draws ∧
      (passFindings s).rdata = s.rdata ∧ (passFindings s).mem.code = s.mem.code ∧ (passFindings s).mem.sram = s.mem.sram ∧
      (passFindings s).mem.trace = s.mem.trace ∧ (passFindings s).mem.fw = s.mem.fw ∧
      (passFindings s).mem.flash = s.mem.flash ∧ (passFindings s).units = s.units ∧ (passFindings s).objs = s.objs ∧
      (passFindings s).prog = s.prog ∧ (passFindings s).img = s.img ∧ (passFindings s).tsk = s.tsk ∧
      (passFindings s).gz = s.gz ∧ (passFindings s).evc = s.evc ∧ (passFindings s).rtc = s.rtc ∧ (passFindings s).wdg = s.wdg ∧
      (passFindings s).frz = s.frz ∧ (passFindings s).boot = s.boot ∧ (passFindings s).phr = s.phr ∧
      (passFindings s).lpe = s.lpe ∧ (passFindings s).trc = s.trc ∧ (passFindings s).nrg = s.nrg ∧
      (passFindings s).hsb = s.hsb ∧ (passFindings s).field = s.field ∧ (passFindings s).can = s.can ∧
      (passFindings s).saf = s.saf ∧ (passFindings s).jrn = s.jrn ∧ (passFindings s).stations = s.stations ∧
      (passFindings s).sent = s.sent := by
  unfold passFindings
  simp

@[simp] theorem loadRtcModel_rest (s : State) :
    (loadRtcModel s).now = s.now ∧ (loadRtcModel s).pending = s.pending ∧ (loadRtcModel s).draws = s.draws ∧
      (loadRtcModel s).rdata = s.rdata ∧ (loadRtcModel s).regs = s.regs ∧ (loadRtcModel s).mem = s.mem ∧
      (loadRtcModel s).units = s.units ∧ (loadRtcModel s).objs = s.objs ∧ (loadRtcModel s).prog = s.prog ∧
      (loadRtcModel s).img = s.img ∧ (loadRtcModel s).tsk = s.tsk ∧ (loadRtcModel s).gz = s.gz ∧ (loadRtcModel s).evc = s.evc ∧
      (loadRtcModel s).nv = s.nv ∧ (loadRtcModel s).wdg = s.wdg ∧ (loadRtcModel s).frz = s.frz ∧ (loadRtcModel s).rcd = s.rcd ∧
      (loadRtcModel s).boot = s.boot ∧ (loadRtcModel s).phr = s.phr ∧ (loadRtcModel s).lpe = s.lpe ∧
      (loadRtcModel s).trc = s.trc ∧ (loadRtcModel s).nrg = s.nrg ∧ (loadRtcModel s).hsb = s.hsb ∧
      (loadRtcModel s).field = s.field ∧ (loadRtcModel s).can = s.can ∧ (loadRtcModel s).saf = s.saf ∧
      (loadRtcModel s).jrn = s.jrn ∧ (loadRtcModel s).stations = s.stations ∧ (loadRtcModel s).sent = s.sent := by
  unfold loadRtcModel
  simp

@[simp] theorem claim_rest (s : State) (who : Nat) (rs : List Nat) :
    (claim s who rs).1.now = s.now ∧ (claim s who rs).1.pending = s.pending ∧ (claim s who rs).1.draws = s.draws ∧
      (claim s who rs).1.rdata = s.rdata ∧ (claim s who rs).1.mem.code = s.mem.code ∧
      (claim s who rs).1.mem.sram = s.mem.sram ∧ (claim s who rs).1.mem.trace = s.mem.trace ∧
      (claim s who rs).1.mem.fw = s.mem.fw ∧ (claim s who rs).1.mem.flash = s.mem.flash ∧ (claim s who rs).1.units = s.units ∧
      (claim s who rs).1.objs = s.objs ∧ (claim s who rs).1.prog = s.prog ∧ (claim s who rs).1.img = s.img ∧
      (claim s who rs).1.tsk = s.tsk ∧ (claim s who rs).1.gz = s.gz ∧ (claim s who rs).1.nv = s.nv ∧
      (claim s who rs).1.rtc = s.rtc ∧ (claim s who rs).1.wdg = s.wdg ∧ (claim s who rs).1.frz = s.frz ∧
      (claim s who rs).1.boot = s.boot ∧ (claim s who rs).1.phr = s.phr ∧ (claim s who rs).1.lpe = s.lpe ∧
      (claim s who rs).1.trc = s.trc ∧ (claim s who rs).1.nrg = s.nrg ∧ (claim s who rs).1.hsb = s.hsb ∧
      (claim s who rs).1.field.state = s.field.state ∧ (claim s who rs).1.field.link = s.field.link ∧
      (claim s who rs).1.field.lastFrame = s.field.lastFrame ∧ (claim s who rs).1.field.lastUpd = s.field.lastUpd ∧
      (claim s who rs).1.field.silence = s.field.silence ∧ (claim s who rs).1.field.silStandby = s.field.silStandby ∧
      (claim s who rs).1.field.unit = s.field.unit ∧ (claim s who rs).1.field.digital = s.field.digital ∧
      (claim s who rs).1.field.analog = s.field.analog ∧ (claim s who rs).1.field.enc = s.field.enc ∧
      (claim s who rs).1.field.cmds = s.field.cmds ∧ (claim s who rs).1.field.vflow = s.field.vflow ∧
      (claim s who rs).1.field.vfhigh = s.field.vfhigh ∧ (claim s who rs).1.field.mv = s.field.mv ∧
      (claim s who rs).1.field.lowCnt = s.field.lowCnt ∧ (claim s who rs).1.field.silentCnt = s.field.silentCnt ∧
      (claim s who rs).1.field.safAt = s.field.safAt ∧ (claim s who rs).1.field.stoOn = s.field.stoOn ∧
      (claim s who rs).1.field.pulses = s.field.pulses ∧ (claim s who rs).1.can = s.can ∧ (claim s who rs).1.saf = s.saf ∧
      (claim s who rs).1.jrn = s.jrn ∧ (claim s who rs).1.stations = s.stations ∧ (claim s who rs).1.sent = s.sent := by
  unfold claim
  split <;> simp

@[simp] theorem ownedMode_rest (s : State) (k : Nat) :
    (ownedMode s k).now = s.now ∧ (ownedMode s k).pending = s.pending ∧ (ownedMode s k).draws = s.draws ∧
      (ownedMode s k).rdata = s.rdata ∧ (ownedMode s k).regs = s.regs ∧ (ownedMode s k).mem = s.mem ∧
      (ownedMode s k).units = s.units ∧ (ownedMode s k).objs = s.objs ∧ (ownedMode s k).prog = s.prog ∧
      (ownedMode s k).img = s.img ∧ (ownedMode s k).tsk = s.tsk ∧ (ownedMode s k).gz = s.gz ∧ (ownedMode s k).evc = s.evc ∧
      (ownedMode s k).nv = s.nv ∧ (ownedMode s k).rtc = s.rtc ∧ (ownedMode s k).wdg = s.wdg ∧ (ownedMode s k).frz = s.frz ∧
      (ownedMode s k).rcd = s.rcd ∧ (ownedMode s k).boot = s.boot ∧ (ownedMode s k).phr = s.phr ∧ (ownedMode s k).lpe = s.lpe ∧
      (ownedMode s k).trc = s.trc ∧ (ownedMode s k).nrg = s.nrg ∧ (ownedMode s k).hsb = s.hsb ∧
      (ownedMode s k).field.state = s.field.state ∧ (ownedMode s k).field.link = s.field.link ∧
      (ownedMode s k).field.lastFrame = s.field.lastFrame ∧ (ownedMode s k).field.lastUpd = s.field.lastUpd ∧
      (ownedMode s k).field.silence = s.field.silence ∧ (ownedMode s k).field.silStandby = s.field.silStandby ∧
      (ownedMode s k).field.unit = s.field.unit ∧ (ownedMode s k).field.digital = s.field.digital ∧
      (ownedMode s k).field.analog = s.field.analog ∧ (ownedMode s k).field.enc = s.field.enc ∧
      (ownedMode s k).field.vflow = s.field.vflow ∧ (ownedMode s k).field.vfhigh = s.field.vfhigh ∧
      (ownedMode s k).field.mv = s.field.mv ∧ (ownedMode s k).field.lowCnt = s.field.lowCnt ∧
      (ownedMode s k).field.silentCnt = s.field.silentCnt ∧ (ownedMode s k).field.safAt = s.field.safAt ∧
      (ownedMode s k).field.stoOn = s.field.stoOn ∧ (ownedMode s k).field.pulses = s.field.pulses ∧
      (ownedMode s k).field.owners = s.field.owners ∧ (ownedMode s k).can = s.can ∧ (ownedMode s k).saf = s.saf ∧
      (ownedMode s k).jrn = s.jrn ∧ (ownedMode s k).stations = s.stations ∧ (ownedMode s k).sent = s.sent := by
  unfold ownedMode
  simp

@[simp] theorem trimWrite_rest (s : State) (w : Word) :
    (trimWrite s w).1.now = s.now ∧ (trimWrite s w).1.pending = s.pending ∧ (trimWrite s w).1.draws = s.draws ∧
      (trimWrite s w).1.rdata = s.rdata ∧ (trimWrite s w).1.mem.code = s.mem.code ∧ (trimWrite s w).1.mem.sram = s.mem.sram ∧
      (trimWrite s w).1.mem.trace = s.mem.trace ∧ (trimWrite s w).1.mem.fw = s.mem.fw ∧
      (trimWrite s w).1.mem.flash = s.mem.flash ∧ (trimWrite s w).1.units = s.units ∧ (trimWrite s w).1.objs = s.objs ∧
      (trimWrite s w).1.prog = s.prog ∧ (trimWrite s w).1.img = s.img ∧ (trimWrite s w).1.tsk = s.tsk ∧
      (trimWrite s w).1.gz = s.gz ∧ (trimWrite s w).1.nv = s.nv ∧ (trimWrite s w).1.rtc = s.rtc ∧
      (trimWrite s w).1.wdg = s.wdg ∧ (trimWrite s w).1.frz = s.frz ∧ (trimWrite s w).1.boot = s.boot ∧
      (trimWrite s w).1.phr = s.phr ∧ (trimWrite s w).1.lpe = s.lpe ∧ (trimWrite s w).1.trc = s.trc ∧
      (trimWrite s w).1.nrg = s.nrg ∧ (trimWrite s w).1.hsb = s.hsb ∧ (trimWrite s w).1.field.state = s.field.state ∧
      (trimWrite s w).1.field.link = s.field.link ∧ (trimWrite s w).1.field.lastFrame = s.field.lastFrame ∧
      (trimWrite s w).1.field.lastUpd = s.field.lastUpd ∧ (trimWrite s w).1.field.silence = s.field.silence ∧
      (trimWrite s w).1.field.silStandby = s.field.silStandby ∧ (trimWrite s w).1.field.unit = s.field.unit ∧
      (trimWrite s w).1.field.digital = s.field.digital ∧ (trimWrite s w).1.field.analog = s.field.analog ∧
      (trimWrite s w).1.field.enc = s.field.enc ∧ (trimWrite s w).1.field.vflow = s.field.vflow ∧
      (trimWrite s w).1.field.vfhigh = s.field.vfhigh ∧ (trimWrite s w).1.field.mv = s.field.mv ∧
      (trimWrite s w).1.field.lowCnt = s.field.lowCnt ∧ (trimWrite s w).1.field.silentCnt = s.field.silentCnt ∧
      (trimWrite s w).1.field.safAt = s.field.safAt ∧ (trimWrite s w).1.field.stoOn = s.field.stoOn ∧
      (trimWrite s w).1.field.pulses = s.field.pulses ∧ (trimWrite s w).1.can = s.can ∧ (trimWrite s w).1.saf = s.saf ∧
      (trimWrite s w).1.jrn = s.jrn ∧ (trimWrite s w).1.stations = s.stations ∧ (trimWrite s w).1.sent = s.sent := by
  unfold trimWrite
  dsimp only
  split
  · split <;> simp
  · simp

@[simp] theorem setSafState_rest (s : State) (st : Nat) :
    (setSafState s st).now = s.now ∧ (setSafState s st).pending = s.pending ∧ (setSafState s st).draws = s.draws ∧
      (setSafState s st).rdata = s.rdata ∧ (setSafState s st).mem.code = s.mem.code ∧
      (setSafState s st).mem.sram = s.mem.sram ∧ (setSafState s st).mem.trace = s.mem.trace ∧
      (setSafState s st).mem.fw = s.mem.fw ∧ (setSafState s st).mem.flash = s.mem.flash ∧ (setSafState s st).units = s.units ∧
      (setSafState s st).objs = s.objs ∧ (setSafState s st).prog = s.prog ∧ (setSafState s st).img = s.img ∧
      (setSafState s st).tsk = s.tsk ∧ (setSafState s st).gz = s.gz ∧ (setSafState s st).nv = s.nv ∧
      (setSafState s st).rtc = s.rtc ∧ (setSafState s st).wdg = s.wdg ∧ (setSafState s st).frz = s.frz ∧
      (setSafState s st).boot = s.boot ∧ (setSafState s st).phr = s.phr ∧ (setSafState s st).lpe = s.lpe ∧
      (setSafState s st).trc = s.trc ∧ (setSafState s st).nrg = s.nrg ∧ (setSafState s st).hsb = s.hsb ∧
      (setSafState s st).field = s.field ∧ (setSafState s st).can = s.can ∧ (setSafState s st).jrn = s.jrn ∧
      (setSafState s st).stations = s.stations ∧ (setSafState s st).sent = s.sent := by
  unfold setSafState
  simp

@[simp] theorem sendCompat_rest (s : State) :
    (sendCompat s).now = s.now ∧ (sendCompat s).pending = s.pending ∧ (sendCompat s).draws = s.draws ∧
      (sendCompat s).rdata = s.rdata ∧ (sendCompat s).regs = s.regs ∧ (sendCompat s).mem = s.mem ∧
      (sendCompat s).units = s.units ∧ (sendCompat s).objs = s.objs ∧ (sendCompat s).prog = s.prog ∧
      (sendCompat s).img = s.img ∧ (sendCompat s).tsk = s.tsk ∧ (sendCompat s).gz = s.gz ∧ (sendCompat s).evc = s.evc ∧
      (sendCompat s).nv = s.nv ∧ (sendCompat s).rtc = s.rtc ∧ (sendCompat s).wdg = s.wdg ∧ (sendCompat s).frz = s.frz ∧
      (sendCompat s).rcd = s.rcd ∧ (sendCompat s).boot = s.boot ∧ (sendCompat s).phr = s.phr ∧ (sendCompat s).lpe = s.lpe ∧
      (sendCompat s).trc = s.trc ∧ (sendCompat s).nrg = s.nrg ∧ (sendCompat s).hsb = s.hsb ∧ (sendCompat s).field = s.field ∧
      (sendCompat s).can = s.can ∧ (sendCompat s).saf = s.saf ∧ (sendCompat s).jrn = s.jrn ∧
      (sendCompat s).stations = s.stations := by
  unfold sendCompat
  simp

@[simp] theorem relayAnswer_rest (s : State) (kind status : Nat) :
    (relayAnswer s kind status).now = s.now ∧ (relayAnswer s kind status).pending = s.pending ∧
      (relayAnswer s kind status).draws = s.draws ∧ (relayAnswer s kind status).rdata = s.rdata ∧
      (relayAnswer s kind status).regs = s.regs ∧ (relayAnswer s kind status).mem = s.mem ∧
      (relayAnswer s kind status).units = s.units ∧ (relayAnswer s kind status).objs = s.objs ∧
      (relayAnswer s kind status).prog = s.prog ∧ (relayAnswer s kind status).img = s.img ∧
      (relayAnswer s kind status).tsk = s.tsk ∧ (relayAnswer s kind status).gz = s.gz ∧
      (relayAnswer s kind status).evc = s.evc ∧ (relayAnswer s kind status).nv = s.nv ∧
      (relayAnswer s kind status).rtc = s.rtc ∧ (relayAnswer s kind status).wdg = s.wdg ∧
      (relayAnswer s kind status).frz = s.frz ∧ (relayAnswer s kind status).rcd = s.rcd ∧
      (relayAnswer s kind status).boot = s.boot ∧ (relayAnswer s kind status).phr = s.phr ∧
      (relayAnswer s kind status).lpe = s.lpe ∧ (relayAnswer s kind status).trc = s.trc ∧
      (relayAnswer s kind status).nrg = s.nrg ∧ (relayAnswer s kind status).hsb = s.hsb ∧
      (relayAnswer s kind status).field = s.field ∧ (relayAnswer s kind status).can = s.can ∧
      (relayAnswer s kind status).saf = s.saf ∧ (relayAnswer s kind status).jrn = s.jrn ∧
      (relayAnswer s kind status).stations = s.stations := by
  unfold relayAnswer
  simp

@[simp] theorem updFail_rest (s : State) (reason block : Nat) :
    (updFail s reason block).now = s.now ∧ (updFail s reason block).pending = s.pending ∧
      (updFail s reason block).draws = s.draws ∧ (updFail s reason block).rdata = s.rdata ∧
      (updFail s reason block).mem.code = s.mem.code ∧ (updFail s reason block).mem.sram = s.mem.sram ∧
      (updFail s reason block).mem.trace = s.mem.trace ∧ (updFail s reason block).mem.fw = s.mem.fw ∧
      (updFail s reason block).mem.flash = s.mem.flash ∧ (updFail s reason block).units = s.units ∧
      (updFail s reason block).objs = s.objs ∧ (updFail s reason block).prog = s.prog ∧ (updFail s reason block).img = s.img ∧
      (updFail s reason block).tsk = s.tsk ∧ (updFail s reason block).gz = s.gz ∧ (updFail s reason block).evc = s.evc ∧
      (updFail s reason block).nv = s.nv ∧ (updFail s reason block).rtc = s.rtc ∧ (updFail s reason block).wdg = s.wdg ∧
      (updFail s reason block).frz = s.frz ∧ (updFail s reason block).boot.held = s.boot.held ∧
      (updFail s reason block).boot.sources = s.boot.sources ∧ (updFail s reason block).boot.stage = s.boot.stage ∧
      (updFail s reason block).phr = s.phr ∧ (updFail s reason block).lpe = s.lpe ∧ (updFail s reason block).trc = s.trc ∧
      (updFail s reason block).nrg = s.nrg ∧ (updFail s reason block).hsb = s.hsb ∧ (updFail s reason block).field = s.field ∧
      (updFail s reason block).can = s.can ∧ (updFail s reason block).saf = s.saf ∧ (updFail s reason block).jrn = s.jrn ∧
      (updFail s reason block).stations = s.stations ∧ (updFail s reason block).sent = s.sent := by
  unfold updFail
  simp

@[simp] theorem loadImage_rest (s : State) :
    (loadImage s).now = s.now ∧ (loadImage s).pending = s.pending ∧ (loadImage s).draws = s.draws ∧
      (loadImage s).rdata = s.rdata ∧ (loadImage s).regs = s.regs ∧ (loadImage s).mem.code = s.mem.code ∧
      (loadImage s).mem.sram = s.mem.sram ∧ (loadImage s).mem.trace = s.mem.trace ∧ (loadImage s).mem.fw = s.mem.fw ∧
      (loadImage s).mem.flash = s.mem.flash ∧ (loadImage s).units = s.units ∧ (loadImage s).objs = s.objs ∧
      (loadImage s).prog = s.prog ∧ (loadImage s).img = s.img ∧ (loadImage s).tsk = s.tsk ∧ (loadImage s).gz = s.gz ∧
      (loadImage s).evc = s.evc ∧ (loadImage s).nv = s.nv ∧ (loadImage s).rtc = s.rtc ∧ (loadImage s).wdg = s.wdg ∧
      (loadImage s).frz = s.frz ∧ (loadImage s).rcd = s.rcd ∧ (loadImage s).boot = s.boot ∧ (loadImage s).phr = s.phr ∧
      (loadImage s).lpe = s.lpe ∧ (loadImage s).trc = s.trc ∧ (loadImage s).nrg = s.nrg ∧ (loadImage s).hsb = s.hsb ∧
      (loadImage s).field = s.field ∧ (loadImage s).can = s.can ∧ (loadImage s).saf = s.saf ∧ (loadImage s).jrn = s.jrn ∧
      (loadImage s).stations = s.stations ∧ (loadImage s).sent = s.sent := by
  unfold loadImage
  simp

@[simp] theorem setAxisState_rest (s : State) (a st fault : Nat) :
    (setAxisState s a st fault).now = s.now ∧ (setAxisState s a st fault).pending = s.pending ∧
      (setAxisState s a st fault).draws = s.draws ∧ (setAxisState s a st fault).rdata = s.rdata ∧
      (setAxisState s a st fault).mem.code = s.mem.code ∧ (setAxisState s a st fault).mem.sram = s.mem.sram ∧
      (setAxisState s a st fault).mem.trace = s.mem.trace ∧ (setAxisState s a st fault).mem.fw = s.mem.fw ∧
      (setAxisState s a st fault).mem.flash = s.mem.flash ∧ (setAxisState s a st fault).units = s.units ∧
      (setAxisState s a st fault).objs = s.objs ∧ (setAxisState s a st fault).prog = s.prog ∧
      (setAxisState s a st fault).img = s.img ∧ (setAxisState s a st fault).tsk = s.tsk ∧
      (setAxisState s a st fault).gz = s.gz ∧ (setAxisState s a st fault).nv = s.nv ∧ (setAxisState s a st fault).rtc = s.rtc ∧
      (setAxisState s a st fault).wdg = s.wdg ∧ (setAxisState s a st fault).frz = s.frz ∧
      (setAxisState s a st fault).boot = s.boot ∧ (setAxisState s a st fault).phr = s.phr ∧
      (setAxisState s a st fault).lpe = s.lpe ∧ (setAxisState s a st fault).trc = s.trc ∧
      (setAxisState s a st fault).nrg = s.nrg ∧ (setAxisState s a st fault).hsb = s.hsb ∧
      (setAxisState s a st fault).field = s.field ∧ (setAxisState s a st fault).can = s.can ∧
      (setAxisState s a st fault).jrn = s.jrn ∧ (setAxisState s a st fault).stations = s.stations ∧
      (setAxisState s a st fault).sent = s.sent := by
  unfold setAxisState
  simp

@[simp] theorem axesOff_rest (s : State) :
    (axesOff s).now = s.now ∧ (axesOff s).pending = s.pending ∧ (axesOff s).draws = s.draws ∧ (axesOff s).rdata = s.rdata ∧
      (axesOff s).mem.code = s.mem.code ∧ (axesOff s).mem.sram = s.mem.sram ∧ (axesOff s).mem.trace = s.mem.trace ∧
      (axesOff s).mem.fw = s.mem.fw ∧ (axesOff s).mem.flash = s.mem.flash ∧ (axesOff s).units = s.units ∧
      (axesOff s).objs = s.objs ∧ (axesOff s).prog = s.prog ∧ (axesOff s).img = s.img ∧ (axesOff s).tsk = s.tsk ∧
      (axesOff s).gz = s.gz ∧ (axesOff s).nv = s.nv ∧ (axesOff s).rtc = s.rtc ∧ (axesOff s).wdg = s.wdg ∧
      (axesOff s).frz = s.frz ∧ (axesOff s).boot = s.boot ∧ (axesOff s).phr = s.phr ∧ (axesOff s).lpe = s.lpe ∧
      (axesOff s).trc = s.trc ∧ (axesOff s).nrg = s.nrg ∧ (axesOff s).hsb = s.hsb ∧ (axesOff s).field = s.field ∧
      (axesOff s).can = s.can ∧ (axesOff s).jrn = s.jrn ∧ (axesOff s).stations = s.stations ∧ (axesOff s).sent = s.sent := by
  unfold axesOff
  simp

@[simp] theorem pairIdle_rest (s : State) :
    (pairIdle s).now = s.now ∧ (pairIdle s).pending = s.pending ∧ (pairIdle s).draws = s.draws ∧ (pairIdle s).rdata = s.rdata ∧
      (pairIdle s).regs = s.regs ∧ (pairIdle s).mem = s.mem ∧ (pairIdle s).objs = s.objs ∧ (pairIdle s).prog = s.prog ∧
      (pairIdle s).img = s.img ∧ (pairIdle s).tsk = s.tsk ∧ (pairIdle s).gz = s.gz ∧ (pairIdle s).evc = s.evc ∧
      (pairIdle s).nv = s.nv ∧ (pairIdle s).rtc = s.rtc ∧ (pairIdle s).wdg = s.wdg ∧ (pairIdle s).frz = s.frz ∧
      (pairIdle s).rcd = s.rcd ∧ (pairIdle s).boot = s.boot ∧ (pairIdle s).phr = s.phr ∧ (pairIdle s).lpe = s.lpe ∧
      (pairIdle s).trc = s.trc ∧ (pairIdle s).nrg = s.nrg ∧ (pairIdle s).hsb = s.hsb ∧ (pairIdle s).field = s.field ∧
      (pairIdle s).can = s.can ∧ (pairIdle s).saf = s.saf ∧ (pairIdle s).jrn = s.jrn ∧ (pairIdle s).stations = s.stations ∧
      (pairIdle s).sent = s.sent := by
  unfold pairIdle
  simp

@[simp] theorem partFresh_rest (s : State) :
    (partFresh s).now = s.now ∧ (partFresh s).pending = s.pending ∧ (partFresh s).draws = s.draws ∧
      (partFresh s).rdata = s.rdata ∧ (partFresh s).mem.code = s.mem.code ∧ (partFresh s).mem.sram = s.mem.sram ∧
      (partFresh s).mem.trace = s.mem.trace ∧ (partFresh s).mem.fw = s.mem.fw ∧ (partFresh s).mem.flash = s.mem.flash ∧
      (partFresh s).objs = s.objs ∧ (partFresh s).prog = s.prog ∧ (partFresh s).img = s.img ∧ (partFresh s).tsk = s.tsk ∧
      (partFresh s).gz = s.gz ∧ (partFresh s).nv = s.nv ∧ (partFresh s).rtc = s.rtc ∧ (partFresh s).wdg = s.wdg ∧
      (partFresh s).frz = s.frz ∧ (partFresh s).boot = s.boot ∧ (partFresh s).phr = s.phr ∧ (partFresh s).lpe = s.lpe ∧
      (partFresh s).trc = s.trc ∧ (partFresh s).nrg = s.nrg ∧ (partFresh s).hsb = s.hsb ∧ (partFresh s).field = s.field ∧
      (partFresh s).can = s.can ∧ (partFresh s).jrn = s.jrn ∧ (partFresh s).stations = s.stations ∧ (partFresh s).sent = s.sent := by
  unfold partFresh
  simp

@[simp] theorem partLoad_rest (s : State) :
    (partLoad s).1.now = s.now ∧ (partLoad s).1.pending = s.pending ∧ (partLoad s).1.draws = s.draws ∧
      (partLoad s).1.rdata = s.rdata ∧ (partLoad s).1.mem.code = s.mem.code ∧ (partLoad s).1.mem.sram = s.mem.sram ∧
      (partLoad s).1.mem.trace = s.mem.trace ∧ (partLoad s).1.mem.fw = s.mem.fw ∧ (partLoad s).1.mem.flash = s.mem.flash ∧
      (partLoad s).1.units = s.units ∧ (partLoad s).1.objs = s.objs ∧ (partLoad s).1.prog = s.prog ∧
      (partLoad s).1.img = s.img ∧ (partLoad s).1.tsk = s.tsk ∧ (partLoad s).1.gz = s.gz ∧ (partLoad s).1.nv = s.nv ∧
      (partLoad s).1.rtc = s.rtc ∧ (partLoad s).1.wdg = s.wdg ∧ (partLoad s).1.frz = s.frz ∧ (partLoad s).1.boot = s.boot ∧
      (partLoad s).1.phr = s.phr ∧ (partLoad s).1.lpe = s.lpe ∧ (partLoad s).1.trc = s.trc ∧ (partLoad s).1.nrg = s.nrg ∧
      (partLoad s).1.hsb = s.hsb ∧ (partLoad s).1.field.state = s.field.state ∧ (partLoad s).1.field.link = s.field.link ∧
      (partLoad s).1.field.lastFrame = s.field.lastFrame ∧ (partLoad s).1.field.lastUpd = s.field.lastUpd ∧
      (partLoad s).1.field.silence = s.field.silence ∧ (partLoad s).1.field.silStandby = s.field.silStandby ∧
      (partLoad s).1.field.unit = s.field.unit ∧ (partLoad s).1.field.digital = s.field.digital ∧
      (partLoad s).1.field.analog = s.field.analog ∧ (partLoad s).1.field.enc = s.field.enc ∧
      (partLoad s).1.field.vflow = s.field.vflow ∧ (partLoad s).1.field.vfhigh = s.field.vfhigh ∧
      (partLoad s).1.field.mv = s.field.mv ∧ (partLoad s).1.field.lowCnt = s.field.lowCnt ∧
      (partLoad s).1.field.silentCnt = s.field.silentCnt ∧ (partLoad s).1.field.safAt = s.field.safAt ∧
      (partLoad s).1.field.stoOn = s.field.stoOn ∧ (partLoad s).1.field.pulses = s.field.pulses ∧ (partLoad s).1.can = s.can ∧
      (partLoad s).1.saf = s.saf ∧ (partLoad s).1.jrn = s.jrn ∧ (partLoad s).1.stations = s.stations ∧
      (partLoad s).1.sent = s.sent := by
  unfold partLoad
  dsimp only
  split <;> simp

@[simp] theorem safRestart_rest (s : State) :
    (safRestart s).now = s.now ∧ (safRestart s).pending = s.pending ∧ (safRestart s).draws = s.draws ∧
      (safRestart s).rdata = s.rdata ∧ (safRestart s).mem.code = s.mem.code ∧ (safRestart s).mem.sram = s.mem.sram ∧
      (safRestart s).mem.trace = s.mem.trace ∧ (safRestart s).mem.fw = s.mem.fw ∧ (safRestart s).mem.flash = s.mem.flash ∧
      (safRestart s).objs = s.objs ∧ (safRestart s).prog = s.prog ∧ (safRestart s).img = s.img ∧ (safRestart s).tsk = s.tsk ∧
      (safRestart s).gz = s.gz ∧ (safRestart s).nv = s.nv ∧ (safRestart s).rtc = s.rtc ∧ (safRestart s).wdg = s.wdg ∧
      (safRestart s).frz = s.frz ∧ (safRestart s).boot = s.boot ∧ (safRestart s).phr = s.phr ∧ (safRestart s).lpe = s.lpe ∧
      (safRestart s).trc = s.trc ∧ (safRestart s).nrg = s.nrg ∧ (safRestart s).hsb = s.hsb ∧
      (safRestart s).field.state = s.field.state ∧ (safRestart s).field.link = s.field.link ∧
      (safRestart s).field.lastFrame = s.field.lastFrame ∧ (safRestart s).field.lastUpd = s.field.lastUpd ∧
      (safRestart s).field.silence = s.field.silence ∧ (safRestart s).field.silStandby = s.field.silStandby ∧
      (safRestart s).field.unit = s.field.unit ∧ (safRestart s).field.digital = s.field.digital ∧
      (safRestart s).field.analog = s.field.analog ∧ (safRestart s).field.enc = s.field.enc ∧
      (safRestart s).field.vflow = s.field.vflow ∧ (safRestart s).field.vfhigh = s.field.vfhigh ∧
      (safRestart s).field.mv = s.field.mv ∧ (safRestart s).field.lowCnt = s.field.lowCnt ∧
      (safRestart s).field.silentCnt = s.field.silentCnt ∧ (safRestart s).field.safAt = s.field.safAt ∧
      (safRestart s).field.stoOn = s.field.stoOn ∧ (safRestart s).field.pulses = s.field.pulses ∧ (safRestart s).can = s.can ∧
      (safRestart s).jrn = s.jrn ∧ (safRestart s).stations = s.stations ∧ (safRestart s).sent = s.sent := by
  unfold safRestart
  split
  · simp
  · dsimp only
    split <;> simp

@[simp] theorem flashToFw_rest (s : State) (dst off n : Nat) :
    (flashToFw s dst off n).now = s.now ∧ (flashToFw s dst off n).pending = s.pending ∧
      (flashToFw s dst off n).draws = s.draws ∧ (flashToFw s dst off n).rdata = s.rdata ∧
      (flashToFw s dst off n).regs = s.regs ∧ (flashToFw s dst off n).mem.code = s.mem.code ∧
      (flashToFw s dst off n).mem.sram = s.mem.sram ∧ (flashToFw s dst off n).mem.trace = s.mem.trace ∧
      (flashToFw s dst off n).mem.flash = s.mem.flash ∧ (flashToFw s dst off n).units = s.units ∧
      (flashToFw s dst off n).objs = s.objs ∧ (flashToFw s dst off n).prog = s.prog ∧ (flashToFw s dst off n).img = s.img ∧
      (flashToFw s dst off n).tsk = s.tsk ∧ (flashToFw s dst off n).gz = s.gz ∧ (flashToFw s dst off n).evc = s.evc ∧
      (flashToFw s dst off n).nv = s.nv ∧ (flashToFw s dst off n).rtc = s.rtc ∧ (flashToFw s dst off n).wdg = s.wdg ∧
      (flashToFw s dst off n).frz = s.frz ∧ (flashToFw s dst off n).rcd = s.rcd ∧ (flashToFw s dst off n).boot = s.boot ∧
      (flashToFw s dst off n).phr = s.phr ∧ (flashToFw s dst off n).lpe = s.lpe ∧ (flashToFw s dst off n).trc = s.trc ∧
      (flashToFw s dst off n).nrg = s.nrg ∧ (flashToFw s dst off n).hsb = s.hsb ∧ (flashToFw s dst off n).field = s.field ∧
      (flashToFw s dst off n).can = s.can ∧ (flashToFw s dst off n).saf = s.saf ∧ (flashToFw s dst off n).jrn = s.jrn ∧
      (flashToFw s dst off n).stations = s.stations ∧ (flashToFw s dst off n).sent = s.sent := by
  unfold flashToFw
  simp

@[simp] theorem serveJurno_rest (s : State) :
    (serveJurno s).now = s.now ∧ (serveJurno s).pending = s.pending ∧ (serveJurno s).rdata = s.rdata ∧
      (serveJurno s).regs = s.regs ∧ (serveJurno s).mem = s.mem ∧ (serveJurno s).units = s.units ∧
      (serveJurno s).objs = s.objs ∧ (serveJurno s).prog = s.prog ∧ (serveJurno s).img = s.img ∧ (serveJurno s).tsk = s.tsk ∧
      (serveJurno s).gz = s.gz ∧ (serveJurno s).evc = s.evc ∧ (serveJurno s).nv = s.nv ∧ (serveJurno s).rtc = s.rtc ∧
      (serveJurno s).wdg = s.wdg ∧ (serveJurno s).frz = s.frz ∧ (serveJurno s).rcd = s.rcd ∧ (serveJurno s).boot = s.boot ∧
      (serveJurno s).phr = s.phr ∧ (serveJurno s).lpe = s.lpe ∧ (serveJurno s).trc = s.trc ∧ (serveJurno s).nrg = s.nrg ∧
      (serveJurno s).hsb = s.hsb ∧ (serveJurno s).field = s.field ∧ (serveJurno s).can = s.can ∧ (serveJurno s).saf = s.saf ∧
      (serveJurno s).stations = s.stations ∧ (serveJurno s).sent = s.sent := by
  unfold serveJurno
  exact ⟨rfl, rfl, rfl, rfl, rfl, rfl, rfl, rfl, rfl, rfl, rfl, rfl, rfl, rfl, rfl, rfl, rfl, rfl, rfl, rfl, rfl, rfl, rfl, rfl, rfl, rfl, rfl, rfl⟩

@[simp] theorem loadProgram_rest (s : State) :
    (loadProgram s).now = s.now ∧ (loadProgram s).pending = s.pending ∧ (loadProgram s).draws = s.draws ∧
      (loadProgram s).rdata = s.rdata ∧ (loadProgram s).mem.sram = s.mem.sram ∧ (loadProgram s).mem.trace = s.mem.trace ∧
      (loadProgram s).mem.fw = s.mem.fw ∧ (loadProgram s).mem.flash = s.mem.flash ∧ (loadProgram s).units = s.units ∧
      (loadProgram s).objs = s.objs ∧ (loadProgram s).prog = s.prog ∧ (loadProgram s).img = s.img ∧
      (loadProgram s).tsk = s.tsk ∧ (loadProgram s).evc = s.evc ∧ (loadProgram s).nv = s.nv ∧ (loadProgram s).rtc = s.rtc ∧
      (loadProgram s).wdg = s.wdg ∧ (loadProgram s).frz = s.frz ∧ (loadProgram s).rcd = s.rcd ∧ (loadProgram s).boot = s.boot ∧
      (loadProgram s).phr = s.phr ∧ (loadProgram s).lpe = s.lpe ∧ (loadProgram s).trc = s.trc ∧ (loadProgram s).nrg = s.nrg ∧
      (loadProgram s).hsb = s.hsb ∧ (loadProgram s).field = s.field ∧ (loadProgram s).can = s.can ∧
      (loadProgram s).saf = s.saf ∧ (loadProgram s).jrn = s.jrn ∧ (loadProgram s).stations = s.stations ∧
      (loadProgram s).sent = s.sent := by
  unfold loadProgram
  simp

@[simp] theorem routeEvents_rest (s : State) :
    (routeEvents s).now = s.now ∧ (routeEvents s).pending = s.pending ∧ (routeEvents s).draws = s.draws ∧
      (routeEvents s).rdata = s.rdata ∧ (routeEvents s).mem = s.mem ∧ (routeEvents s).units = s.units ∧
      (routeEvents s).objs = s.objs ∧ (routeEvents s).prog = s.prog ∧ (routeEvents s).img = s.img ∧
      (routeEvents s).tsk = s.tsk ∧ (routeEvents s).gz = s.gz ∧ (routeEvents s).evc = s.evc ∧ (routeEvents s).nv = s.nv ∧
      (routeEvents s).rtc = s.rtc ∧ (routeEvents s).wdg = s.wdg ∧ (routeEvents s).frz = s.frz ∧ (routeEvents s).rcd = s.rcd ∧
      (routeEvents s).boot = s.boot ∧ (routeEvents s).phr = s.phr ∧ (routeEvents s).lpe = s.lpe ∧ (routeEvents s).trc = s.trc ∧
      (routeEvents s).nrg = s.nrg ∧ (routeEvents s).hsb = s.hsb ∧ (routeEvents s).field = s.field ∧
      (routeEvents s).can = s.can ∧ (routeEvents s).saf = s.saf ∧ (routeEvents s).jrn = s.jrn ∧
      (routeEvents s).stations = s.stations ∧ (routeEvents s).sent = s.sent := by
  unfold routeEvents
  simp

@[simp] theorem loadOther_rest (s : State) :
    (loadOther s).now = s.now ∧ (loadOther s).pending = s.pending ∧ (loadOther s).draws = s.draws ∧
      (loadOther s).rdata = s.rdata ∧ (loadOther s).regs = s.regs ∧ (loadOther s).mem = s.mem ∧ (loadOther s).units = s.units ∧
      (loadOther s).objs = s.objs ∧ (loadOther s).prog = s.prog ∧ (loadOther s).img = s.img ∧ (loadOther s).tsk = s.tsk ∧
      (loadOther s).gz = s.gz ∧ (loadOther s).evc = s.evc ∧ (loadOther s).nv = s.nv ∧ (loadOther s).rtc = s.rtc ∧
      (loadOther s).wdg = s.wdg ∧ (loadOther s).frz = s.frz ∧ (loadOther s).rcd = s.rcd ∧ (loadOther s).boot = s.boot ∧
      (loadOther s).phr = s.phr ∧ (loadOther s).lpe = s.lpe ∧ (loadOther s).trc = s.trc ∧ (loadOther s).nrg = s.nrg ∧
      (loadOther s).hsb.unit = s.hsb.unit ∧ (loadOther s).hsb.role = s.hsb.role ∧ (loadOther s).field = s.field ∧
      (loadOther s).can = s.can ∧ (loadOther s).jrn = s.jrn ∧ (loadOther s).stations = s.stations ∧ (loadOther s).sent = s.sent := by
  unfold loadOther
  simp

@[simp] theorem firstClaims_rest (s : State) :
    (firstClaims s).now = s.now ∧ (firstClaims s).pending = s.pending ∧ (firstClaims s).draws = s.draws ∧
      (firstClaims s).rdata = s.rdata ∧ (firstClaims s).mem.code = s.mem.code ∧ (firstClaims s).mem.sram = s.mem.sram ∧
      (firstClaims s).mem.trace = s.mem.trace ∧ (firstClaims s).mem.fw = s.mem.fw ∧ (firstClaims s).mem.flash = s.mem.flash ∧
      (firstClaims s).objs = s.objs ∧ (firstClaims s).prog = s.prog ∧ (firstClaims s).img = s.img ∧
      (firstClaims s).tsk = s.tsk ∧ (firstClaims s).gz = s.gz ∧ (firstClaims s).nv = s.nv ∧ (firstClaims s).rtc = s.rtc ∧
      (firstClaims s).wdg = s.wdg ∧ (firstClaims s).frz = s.frz ∧ (firstClaims s).boot = s.boot ∧ (firstClaims s).phr = s.phr ∧
      (firstClaims s).lpe = s.lpe ∧ (firstClaims s).trc = s.trc ∧ (firstClaims s).nrg = s.nrg ∧ (firstClaims s).hsb = s.hsb ∧
      (firstClaims s).field.state = s.field.state ∧ (firstClaims s).field.link = s.field.link ∧
      (firstClaims s).field.lastFrame = s.field.lastFrame ∧ (firstClaims s).field.lastUpd = s.field.lastUpd ∧
      (firstClaims s).field.silence = s.field.silence ∧ (firstClaims s).field.silStandby = s.field.silStandby ∧
      (firstClaims s).field.unit = s.field.unit ∧ (firstClaims s).field.digital = s.field.digital ∧
      (firstClaims s).field.analog = s.field.analog ∧ (firstClaims s).field.enc = s.field.enc ∧
      (firstClaims s).field.vflow = s.field.vflow ∧ (firstClaims s).field.vfhigh = s.field.vfhigh ∧
      (firstClaims s).field.mv = s.field.mv ∧ (firstClaims s).field.lowCnt = s.field.lowCnt ∧
      (firstClaims s).field.silentCnt = s.field.silentCnt ∧ (firstClaims s).field.safAt = s.field.safAt ∧
      (firstClaims s).field.stoOn = s.field.stoOn ∧ (firstClaims s).field.pulses = s.field.pulses ∧
      (firstClaims s).can = s.can ∧ (firstClaims s).jrn = s.jrn ∧ (firstClaims s).stations = s.stations ∧
      (firstClaims s).sent = s.sent := by
  unfold firstClaims
  simp

@[simp] theorem startRecords_rest (s : State) :
    (startRecords s).now = s.now ∧ (startRecords s).pending = s.pending ∧ (startRecords s).draws = s.draws ∧
      (startRecords s).rdata = s.rdata ∧ (startRecords s).mem.code = s.mem.code ∧ (startRecords s).mem.sram = s.mem.sram ∧
      (startRecords s).mem.trace = s.mem.trace ∧ (startRecords s).mem.fw = s.mem.fw ∧
      (startRecords s).mem.flash = s.mem.flash ∧ (startRecords s).units = s.units ∧ (startRecords s).objs = s.objs ∧
      (startRecords s).prog = s.prog ∧ (startRecords s).img = s.img ∧ (startRecords s).tsk = s.tsk ∧
      (startRecords s).gz = s.gz ∧ (startRecords s).evc = s.evc ∧ (startRecords s).rtc = s.rtc ∧ (startRecords s).wdg = s.wdg ∧
      (startRecords s).frz = s.frz ∧ (startRecords s).boot.held = s.boot.held ∧
      (startRecords s).boot.sources = s.boot.sources ∧ (startRecords s).boot.stage = s.boot.stage ∧
      (startRecords s).phr = s.phr ∧ (startRecords s).lpe = s.lpe ∧ (startRecords s).trc = s.trc ∧
      (startRecords s).nrg = s.nrg ∧ (startRecords s).hsb = s.hsb ∧ (startRecords s).field = s.field ∧
      (startRecords s).can = s.can ∧ (startRecords s).saf = s.saf ∧ (startRecords s).jrn = s.jrn ∧
      (startRecords s).stations = s.stations ∧ (startRecords s).sent = s.sent := by
  unfold startRecords
  dsimp only
  repeat' split
  all_goals simp

@[simp] theorem enterFirmware_rest (s : State) :
    (enterFirmware s).now = s.now ∧ (enterFirmware s).pending = s.pending ∧ (enterFirmware s).draws = s.draws ∧
      (enterFirmware s).rdata = s.rdata ∧ (enterFirmware s).regs = s.regs ∧ (enterFirmware s).mem.code = s.mem.code ∧
      (enterFirmware s).mem.sram = s.mem.sram ∧ (enterFirmware s).mem.trace = s.mem.trace ∧
      (enterFirmware s).mem.flash = s.mem.flash ∧ (enterFirmware s).units = s.units ∧ (enterFirmware s).objs = s.objs ∧
      (enterFirmware s).prog = s.prog ∧ (enterFirmware s).img = s.img ∧ (enterFirmware s).tsk = s.tsk ∧
      (enterFirmware s).gz = s.gz ∧ (enterFirmware s).evc = s.evc ∧ (enterFirmware s).nv = s.nv ∧
      (enterFirmware s).rtc = s.rtc ∧ (enterFirmware s).wdg = s.wdg ∧ (enterFirmware s).frz = s.frz ∧
      (enterFirmware s).rcd = s.rcd ∧ (enterFirmware s).boot.held = s.boot.held ∧
      (enterFirmware s).boot.sources = s.boot.sources ∧ (enterFirmware s).phr = s.phr ∧ (enterFirmware s).lpe = s.lpe ∧
      (enterFirmware s).trc = s.trc ∧ (enterFirmware s).nrg = s.nrg ∧ (enterFirmware s).hsb = s.hsb ∧
      (enterFirmware s).field = s.field ∧ (enterFirmware s).can = s.can ∧ (enterFirmware s).saf = s.saf ∧
      (enterFirmware s).jrn = s.jrn ∧ (enterFirmware s).stations = s.stations ∧ (enterFirmware s).sent = s.sent := by
  unfold enterFirmware
  simp

end Sys2Proof.Machine
end

section
/-!
PROOF. Startup: boot ROM, loader, firmware start and update (R474, R712 to R725).
-/
namespace Sys2Proof.Machine

@[simp] theorem flashToFw_mram (s : State) (dst off n : Nat) : (flashToFw s dst off n).mem.mram = s.mem.mram := rfl

theorem flag_of_regs {s t : State} (h : t.regs = s.regs) (f : Fld) : t.flag f = s.flag f := by
  simp only [State.flag, State.fld, State.reg, h]

/-- A release from reset that is not forbidden: into the boot ROM, with the straps sampled (R712). -/
theorem release_releases {straps : Straps} {s : State} (hheld : s.boot.held = true) (hth : s.boot.thermal = false)
    (hsrc : s.boot.sources ≠ 0) :
    let t := flashToFw s.drawBit.2 0x300000 0 0x100000
    let u := if straps.factory then t.setFlag NVM_FSTAT_LDRLOCK false else t
    exec (.moduleResetRelease straps) s = .next { u with
      boot := { s.boot with held := false, stage := .rom, stuck := !s.drawBit.1, release := u.now, safetyUp := true,
                            opLast := if bit s.boot.sources 0 then Int.ofNat u.now else s.boot.opLast }
      frz := { u.frz with strap := straps.freeze }
      wdg := { u.wdg with last := u.now } } :=
  (if_neg (by simp [hheld, hth, hsrc])).trans rfl

theorem release_waits {straps : Straps} {s : State} (h : s.boot.held = false ∨ s.boot.thermal = true ∨ s.boot.sources = 0) :
    exec (.moduleResetRelease straps) s = .next s := if_pos (by rcases h with h | h | h <;> simp [h])

/-! ### The loader -/

/-- What an image's check reads of the state. -/
theorem imageReason_congr {s t : State} (hflash : t.mem.flash = s.mem.flash) (hfuse : t.boot.fuse = s.boot.fuse)
    (hver : t.boot.loaderVer = s.boot.loaderVer) : imageReason t = imageReason s := by
  have hbytes : flashBytes t = flashBytes s := by
    funext o n
    simp only [flashBytes, flashByte, hflash]
  have hheader : headerReason t = headerReason s := by
    funext hd
    unfold headerReason
    rw [hfuse, hver]
  unfold imageReason
  rw [hbytes, hheader]

/-- The unit number that a loader takes into force, 3 as 0 (R474). -/
def loaderUnit (s : State) : Nat := if recalledNum s 0x1800 1 = 3 then 0 else recalledNum s 0x1800 1

/-- A module whose unit and role are in force, in its loader. -/
def inLoader (s : State) (u : Nat) : State :=
  ((s.setFld HSB_CTRL_UNIT u).modHsb fun h => { h with
    unit := u, role := if u = 0 then roleSingle else roleStarting }).modBoot fun b => { b with stage := .loader }

/-- A loader once its verdict is known. -/
def judged (s : State) : State :=
  if (loaderVerdict (finishErases s)).boot.resident then stayResident (loaderVerdict (finishErases s))
  else loaderVerdict (finishErases s)

theorem finishErases_none {s : State} (h : s.nv.begun = []) : finishErases s = { s with nv := { s.nv with flash := none } } := by
  simp [finishErases, h]

theorem loaderVerdict_passes {s : State} (himg : imageReason s = none) (hinc : s.nv.incomplete = false)
    (hrel : s.boot.relReq = false) (hldr : s.boot.ldrReq = false) : loaderVerdict s = s := by
  simp [loaderVerdict, himg, hinc, hrel, hldr]

theorem loaderStart_idle {s : State} (h : halted s = true ∨ s.boot.stuck = true ∨ s.jrn.phase ≠ 2) : exec .loaderStart s = .next s :=
  if_pos (by rcases h with h | h | h <;> simp [h])

theorem loaderStart_starts {s : State} (hhalt : halted s = false) (hstage : s.boot.stage = .rom) (hstuck : s.boot.stuck = false)
    (hphase : s.jrn.phase = 2) (hinc : s.nv.incomplete = false) (hrel : s.boot.relReq = false) (hldr : s.boot.ldrReq = false)
    (hbegun : s.nv.begun = []) (hres : s.boot.resident = false) (himg : imageReason s = none) :
    exec .loaderStart s = .next { inLoader s (loaderUnit s) with nv := { s.nv with flash := none } } := by
  have hverdict : loaderVerdict (finishErases (inLoader s (loaderUnit s))) = { inLoader s (loaderUnit s) with nv := { s.nv with flash := none } } := by
    rw [finishErases_none (by simpa [inLoader] using hbegun)]
    exact loaderVerdict_passes ((imageReason_congr (by simp [inLoader]) (by simp [inLoader]) (by simp [inLoader])).trans himg)
      hinc hrel hldr
  have hexec : exec .loaderStart s = .next (judged (inLoader s (loaderUnit s))) := by
    show execLoaderStart s = _
    rw [execLoaderStart, if_neg (by simp [hhalt, hstage, hstuck, hphase]), loaderUnit, judged, inLoader]
  rw [hexec, judged, hverdict]
  exact congrArg Host.Outcome.next (if_neg (by simp [inLoader, hres]))

/-! ### The firmware -/

/-- The module with its firmware entered, its program loaded and its events routed. -/
def entered (s : State) : State := routeEvents (loadProgram (serveJurno (enterFirmware s)))

/-- The start of firmware from its records on. -/
def startedFrom (s : State) : State :=
  takeAtStart (fieldCmd (loadRtcModel (firstClaims (startRecords (loadOther s)))) (.config true))

theorem entered_says (s : State) : (entered s).nv.recs = s.nv.recs ∧ (entered s).boot.stage = .firmware ∧
    (entered s).gz.hdr = s.prog.hdr ∧ (entered s).gz.dir = s.prog.dir ∧ (entered s).mem.code = s.prog.code ∧
    (entered s).jrn.phase = 3 ∧ (entered s).now = s.now ∧ (entered s).hsb = s.hsb := by
  simp [entered, loadProgram, serveJurno, enterFirmware, State.drawBit]

theorem firmwareStart_starts {s : State} (hhalt : halted s = false) (hstage : s.boot.stage = .loader) (hres : s.boot.resident = false) :
    exec .firmwareStart s = .next (takePlace (startedFrom (s.nv.recs.foldl loadRecord ((entered s).setFld AIO_TRIM_SBTN 1)))) := by
  have hrecs : ((entered s).setFld AIO_TRIM_SBTN 1).nv.recs = s.nv.recs := by simp [(entered_says s).1]
  rw [← hrecs]
  exact (if_neg (by simp [hhalt, hstage, hres])).trans rfl

theorem startedFrom_keeps (s : State) : (startedFrom s).boot.stage = s.boot.stage ∧ (startedFrom s).gz.hdr = s.gz.hdr ∧
    (startedFrom s).gz.dir = s.gz.dir ∧ (startedFrom s).mem.code = s.mem.code ∧ (startedFrom s).jrn.phase = s.jrn.phase ∧
    (startedFrom s).now = s.now ∧ (startedFrom s).hsb.unit = s.hsb.unit ∧ (startedFrom s).hsb.role = s.hsb.role := by
  simp [startedFrom]

theorem takePlace_paired {s : State} (h : s.paired = true) :
    takePlace s = sendCompat (s.modHsb fun h => { h with listen := s.now, heard := none }) := if_pos h

/-! ### The verification of an update -/

theorem verifyComplete_fails {s : State} {r : Nat} (hupd : s.boot.upd = .verifying) (hpart : s.boot.updPartner = false)
    (hheld : s.boot.held = false) (hfrz : s.frz.frozen = false) (himg : imageReason s = some r) :
    exec .verifyComplete s = .next (relayAnswer (updFail s r s.boot.updNext) 3 0x0402) := by
  show execVerifyComplete s = _
  simp [execVerifyComplete, hupd, hpart, hheld, hfrz, himg]

/-- A module whose update is verified, before its reset. -/
def verified (s : State) : State :=
  relayAnswer ({ s with nv := { s.nv with incomplete := false } }.record 0x0A04 1 0 0 [s.boot.fwVer, s.boot.updVer]) 3 0

theorem verifyComplete_activates {s : State} (hupd : s.boot.upd = .verifying) (hpart : s.boot.updPartner = false)
    (hheld : s.boot.held = false) (hfrz : s.frz.frozen = false) (himg : imageReason s = none) :
    exec .verifyComplete s = .next ((moduleReset (verified s) srcSoftware).modBoot fun b => { b with ldrReq := false }) := by
  show execVerifyComplete s = _
  simp [execVerifyComplete, hupd, hpart, hheld, hfrz, himg, verified]

/-- Settles O60: release, loader, firmware and update by their equations, and what each step of a start keeps. -/
theorem startup : Obligations.Startup := by
  refine ⟨fun straps s => ⟨fun hheld hth hsrc => ⟨_, release_releases hheld hth hsrc, ?_⟩, release_waits⟩, ?_,
    fun s => loaderStart_idle, fun s hhalt hstage hres => ⟨(firmwareStart_starts hhalt hstage hres).trans ?_, fun hrecs hpaired => ?_⟩,
    fun s hupd hpart hheld hfrz => ⟨fun r himg => ⟨_, verifyComplete_fails hupd hpart hheld hfrz himg, ?_⟩, fun himg => ?_⟩⟩
  · cases hfac : straps.factory
    · simp [State.drawBit]
    · refine ⟨rfl, rfl, rfl, ?_, ?_, rfl, ?_, ?_, ?_, fun h => by simp at h, fun _ => ?_⟩
      · simp [State.drawBit]
      · simp [State.drawBit]
      · simp [State.drawBit]
      · simp [State.drawBit]
      · simp [State.drawBit]
      · rw [flag_of_regs (s := (flashToFw s.drawBit.2 0x300000 0 0x100000).setFlag NVM_FSTAT_LDRLOCK false) (by simp)]
        exact flag_setFlag_same (flashToFw s.drawBit.2 0x300000 0 0x100000) NVM_FSTAT_LDRLOCK false (by decide) (by decide)
  · intro s hhalt hstage hstuck hphase hinc hrel hldr hbegun hres himg
    refine ⟨_, loaderStart_starts hhalt hstage hstuck hphase hinc hrel hldr hbegun hres himg, rfl, hres, rfl, rfl, ?_⟩
    simp [inLoader]
  · rfl
  · obtain ⟨-, hstage', hhdr, hdir, hcode, hphase, hnow, hhsb⟩ := entered_says s
    have hexec := firmwareStart_starts hhalt hstage hres
    rw [hrecs, List.foldl_nil] at hexec
    obtain ⟨k1, k2, k3, k4, k5, k6, k7, k8⟩ := startedFrom_keeps ((entered s).setFld AIO_TRIM_SBTN 1)
    have hp : (startedFrom ((entered s).setFld AIO_TRIM_SBTN 1)).paired = true := by
      simpa [State.paired, k7, hhsb] using hpaired
    rw [takePlace_paired hp] at hexec
    exact ⟨_, hexec, by simp [k1, hstage'], by simp [State.role, k8, hhsb], by simp [k2, hhdr], by simp [k3, hdir],
      by simp [k4, hcode], by simp [k5, hphase], by simp [k6, hnow]⟩
  · simp [updFail, hheld]
  · obtain ⟨h1, h2, -⟩ := moduleReset_says (verified s) srcSoftware (by simpa [verified] using hheld)
    exact ⟨_, verifyComplete_activates hupd hpart hheld hfrz himg, h1, rfl, h2⟩

end Sys2Proof.Machine
end

section
/-!
PROOF. FreezeAndTap: freeze, release and the test access port (R673 to R683).
-/
namespace Sys2Proof.Machine

@[simp] theorem freezeRequest_rest (s : State) (source trig : Nat) :
    (freezeRequest s source trig).now = s.now ∧ (freezeRequest s source trig).pending = s.pending ∧
      (freezeRequest s source trig).draws = s.draws ∧ (freezeRequest s source trig).rdata = s.rdata ∧
      (freezeRequest s source trig).mem.code = s.mem.code ∧ (freezeRequest s source trig).mem.sram = s.mem.sram ∧
      (freezeRequest s source trig).mem.trace = s.mem.trace ∧ (freezeRequest s source trig).mem.fw = s.mem.fw ∧
      (freezeRequest s source trig).mem.flash = s.mem.flash ∧ (freezeRequest s source trig).units = s.units ∧
      (freezeRequest s source trig).objs = s.objs ∧ (freezeRequest s source trig).prog = s.prog ∧
      (freezeRequest s source trig).img = s.img ∧ (freezeRequest s source trig).tsk = s.tsk ∧
      (freezeRequest s source trig).gz = s.gz ∧ (freezeRequest s source trig).evc = s.evc ∧
      (freezeRequest s source trig).nv = s.nv ∧ (freezeRequest s source trig).rtc = s.rtc ∧
      (freezeRequest s source trig).wdg = s.wdg ∧ (freezeRequest s source trig).boot = s.boot ∧
      (freezeRequest s source trig).phr = s.phr ∧ (freezeRequest s source trig).lpe = s.lpe ∧
      (freezeRequest s source trig).trc = s.trc ∧ (freezeRequest s source trig).nrg = s.nrg ∧
      (freezeRequest s source trig).hsb = s.hsb ∧ (freezeRequest s source trig).field = s.field ∧
      (freezeRequest s source trig).can = s.can ∧ (freezeRequest s source trig).saf = s.saf ∧
      (freezeRequest s source trig).jrn = s.jrn ∧ (freezeRequest s source trig).stations = s.stations ∧
      (freezeRequest s source trig).sent = s.sent := by
  unfold freezeRequest
  simp

@[simp] theorem stopCommand_rest (s : State) :
    (stopCommand s).now = s.now ∧ (stopCommand s).pending = s.pending ∧ (stopCommand s).draws = s.draws ∧
      (stopCommand s).rdata = s.rdata ∧ (stopCommand s).mem.code = s.mem.code ∧ (stopCommand s).mem.sram = s.mem.sram ∧
      (stopCommand s).mem.trace = s.mem.trace ∧ (stopCommand s).mem.fw = s.mem.fw ∧ (stopCommand s).mem.flash = s.mem.flash ∧
      (stopCommand s).objs = s.objs ∧ (stopCommand s).prog = s.prog ∧ (stopCommand s).nv = s.nv ∧ (stopCommand s).rtc = s.rtc ∧
      (stopCommand s).wdg = s.wdg ∧ (stopCommand s).frz = s.frz ∧ (stopCommand s).boot = s.boot ∧
      (stopCommand s).phr.rings = s.phr.rings ∧ (stopCommand s).phr.atStart = s.phr.atStart ∧
      (stopCommand s).phr.linksDown = s.phr.linksDown ∧ (stopCommand s).trc = s.trc ∧ (stopCommand s).hsb.unit = s.hsb.unit ∧
      (stopCommand s).hsb.role = s.hsb.role ∧ (stopCommand s).saf = s.saf ∧ (stopCommand s).jrn = s.jrn ∧
      (stopCommand s).stations = s.stations := by
  unfold stopCommand
  simp

@[simp] theorem stopRequest_rest (s : State) :
    (stopRequest s).1.now = s.now ∧ (stopRequest s).1.pending = s.pending ∧ (stopRequest s).1.draws = s.draws ∧
      (stopRequest s).1.rdata = s.rdata ∧ (stopRequest s).1.mem.code = s.mem.code ∧ (stopRequest s).1.mem.sram = s.mem.sram ∧
      (stopRequest s).1.mem.trace = s.mem.trace ∧ (stopRequest s).1.mem.fw = s.mem.fw ∧
      (stopRequest s).1.mem.flash = s.mem.flash ∧ (stopRequest s).1.objs = s.objs ∧ (stopRequest s).1.prog = s.prog ∧
      (stopRequest s).1.nv = s.nv ∧ (stopRequest s).1.rtc = s.rtc ∧ (stopRequest s).1.wdg = s.wdg ∧
      (stopRequest s).1.frz = s.frz ∧ (stopRequest s).1.boot = s.boot ∧ (stopRequest s).1.phr.rings = s.phr.rings ∧
      (stopRequest s).1.phr.atStart = s.phr.atStart ∧ (stopRequest s).1.phr.linksDown = s.phr.linksDown ∧
      (stopRequest s).1.trc = s.trc ∧ (stopRequest s).1.hsb.unit = s.hsb.unit ∧ (stopRequest s).1.hsb.role = s.hsb.role ∧
      (stopRequest s).1.saf = s.saf ∧ (stopRequest s).1.jrn = s.jrn ∧ (stopRequest s).1.stations = s.stations := by
  unfold stopRequest
  split <;> simp

@[simp] theorem canCut_rest (s : State) (m : Nat) :
    (canCut s m).now = s.now ∧ (canCut s m).pending = s.pending ∧ (canCut s m).draws = s.draws ∧ (canCut s m).rdata = s.rdata ∧
      (canCut s m).mem = s.mem ∧ (canCut s m).units = s.units ∧ (canCut s m).objs = s.objs ∧ (canCut s m).prog = s.prog ∧
      (canCut s m).img = s.img ∧ (canCut s m).tsk = s.tsk ∧ (canCut s m).gz = s.gz ∧ (canCut s m).evc = s.evc ∧
      (canCut s m).nv = s.nv ∧ (canCut s m).rtc = s.rtc ∧ (canCut s m).wdg = s.wdg ∧ (canCut s m).frz = s.frz ∧
      (canCut s m).rcd = s.rcd ∧ (canCut s m).boot = s.boot ∧ (canCut s m).phr = s.phr ∧ (canCut s m).lpe = s.lpe ∧
      (canCut s m).trc = s.trc ∧ (canCut s m).nrg = s.nrg ∧ (canCut s m).hsb = s.hsb ∧ (canCut s m).field = s.field ∧
      (canCut s m).saf = s.saf ∧ (canCut s m).jrn = s.jrn ∧ (canCut s m).stations = s.stations ∧ (canCut s m).sent = s.sent := by
  unfold canCut
  dsimp only
  split <;> simp

@[simp] theorem wtuResume_rest (s : State) (u : Nat) :
    (wtuResume s u).now = s.now ∧ (wtuResume s u).pending = s.pending ∧ (wtuResume s u).draws = s.draws ∧
      (wtuResume s u).rdata = s.rdata ∧ (wtuResume s u).regs = s.regs ∧ (wtuResume s u).mem = s.mem ∧
      (wtuResume s u).objs = s.objs ∧ (wtuResume s u).prog = s.prog ∧ (wtuResume s u).img = s.img ∧
      (wtuResume s u).tsk = s.tsk ∧ (wtuResume s u).gz = s.gz ∧ (wtuResume s u).evc = s.evc ∧ (wtuResume s u).nv = s.nv ∧
      (wtuResume s u).rtc = s.rtc ∧ (wtuResume s u).wdg = s.wdg ∧ (wtuResume s u).frz = s.frz ∧ (wtuResume s u).rcd = s.rcd ∧
      (wtuResume s u).boot = s.boot ∧ (wtuResume s u).phr = s.phr ∧ (wtuResume s u).lpe = s.lpe ∧ (wtuResume s u).trc = s.trc ∧
      (wtuResume s u).nrg = s.nrg ∧ (wtuResume s u).hsb = s.hsb ∧ (wtuResume s u).field = s.field ∧
      (wtuResume s u).can = s.can ∧ (wtuResume s u).saf = s.saf ∧ (wtuResume s u).jrn = s.jrn ∧
      (wtuResume s u).stations = s.stations ∧ (wtuResume s u).sent = s.sent := by
  unfold wtuResume
  simp

@[simp] theorem tapSelect_rest (s : State) (ir : TapIr) (dr : Nat) :
    (tapSelect s ir dr).now = s.now ∧ (tapSelect s ir dr).pending = s.pending ∧ (tapSelect s ir dr).draws = s.draws ∧
      (tapSelect s ir dr).rdata = s.rdata ∧ (tapSelect s ir dr).regs = s.regs ∧ (tapSelect s ir dr).mem = s.mem ∧
      (tapSelect s ir dr).units = s.units ∧ (tapSelect s ir dr).objs = s.objs ∧ (tapSelect s ir dr).prog = s.prog ∧
      (tapSelect s ir dr).img = s.img ∧ (tapSelect s ir dr).tsk = s.tsk ∧ (tapSelect s ir dr).gz = s.gz ∧
      (tapSelect s ir dr).evc = s.evc ∧ (tapSelect s ir dr).nv = s.nv ∧ (tapSelect s ir dr).rtc = s.rtc ∧
      (tapSelect s ir dr).wdg = s.wdg ∧ (tapSelect s ir dr).rcd = s.rcd ∧ (tapSelect s ir dr).boot = s.boot ∧
      (tapSelect s ir dr).phr = s.phr ∧ (tapSelect s ir dr).lpe = s.lpe ∧ (tapSelect s ir dr).trc = s.trc ∧
      (tapSelect s ir dr).nrg = s.nrg ∧ (tapSelect s ir dr).hsb = s.hsb ∧ (tapSelect s ir dr).field = s.field ∧
      (tapSelect s ir dr).can = s.can ∧ (tapSelect s ir dr).saf = s.saf ∧ (tapSelect s ir dr).jrn = s.jrn ∧
      (tapSelect s ir dr).stations = s.stations ∧ (tapSelect s ir dr).sent = s.sent := by
  unfold tapSelect
  simp

/-! ### The request and the halt -/

theorem freezeN_held {s : State} (h : s.boot.held = true) : exec .freezeN s = .next (s.modFrz fun f => { f with pinLow := true }) :=
  if_pos h

theorem freezeN_requests {s : State} (h : s.boot.held = false) :
    exec .freezeN s = .next (freezeRequest (s.modFrz fun f => { f with pinLow := true }) 1 0) := if_neg (by simp [h])

theorem freezeRequest_accepted {s : State} (source trig : Nat) (hfrz : s.frz.frozen = false) (hreq : s.frz.request = none)
    (hstrap : s.frz.strap = true) (hready : s.nv.ready = true) : freezeRequest s source trig = { s with frz := { s.frz with
      request := some source, source := source, trigSrc := if source = 3 then trig else s.frz.trigSrc } } :=
  (if_neg (by simp [hfrz, hreq])).trans (if_pos (by simp [hstrap, hready]))

theorem freezeRequest_refused {s : State} (source trig : Nat) (hfrz : s.frz.frozen = false) (hreq : s.frz.request = none)
    (hstrap : s.frz.strap = false) :
    freezeRequest s source trig = (s.setFlag FRZ_STAT_REFUSED true).record 0x0015 1 0 0 [source] :=
  (if_neg (by simp [hfrz, hreq])).trans (if_neg (by simp [hstrap]))

theorem wdgPause_paused (s : State) : (wdgPause s).wdg.paused = true := by
  unfold wdgPause
  split
  · assumption
  · rfl

/-- A module that halts for its freeze, its frames cut off and its links down (R674, R675). -/
def haltedAt (s : State) : State :=
  let t := (wdgPause (sendNotice s 3)).modFrz fun f => { f with
    frozen := true, tw := (wdgPause (sendNotice s 3)).now, wasActive := (wdgPause (sendNotice s 3)).role == roleActive
    limitRun := false, released := false, extested := false, eccErr := false, badAddr := false, fzaddr := 0 }
  (canCut (canCut ((t.count32 FRZ_COUNT 1).modPhr fun p => { p with linksDown := true }) 0) 1).modField fun f =>
    { f with link := false }

theorem freezeHalt_halts {s : State} (hhalt : halted s = false) (hreq : s.frz.request.isSome = true) :
    exec .freezeHalt s = .next (haltedAt s) := by
  have hon : ¬(halted s || s.frz.request.isNone) = true := by
    cases h : s.frz.request <;> simp_all
  exact (if_neg hon).trans rfl

/-! ### The release -/

theorem programStop_stopped (s : State) (cause k : Nat) : (programStop s cause k).running = false := by
  by_cases hrun : s.running = true
  · rcases programStop_prog s cause k hrun with h | h <;> simp [State.running, h]
  · rw [programStop, if_neg (by simpa [State.running] using hrun)]
    simpa using hrun

/-- A freeze of an unpaired module that has ended: its program does not run, and its watchdog counts from 0 (R677, R678). -/
def Free (t : State) : Prop :=
  t.frz.frozen = false ∧ t.frz.released = true ∧ t.wdg.paused = false ∧ t.wdg.last = t.now ∧ t.running = false

theorem freezeRelease_frees {s : State} (hext : s.frz.extested = false) (hunit : s.hsb.unit = 0) : Free (freezeRelease s) := by
  unfold freezeRelease
  rw [if_neg (by simp [hext])]
  dsimp only
  rw [if_neg (by simp [State.paired, hunit])]
  exact ⟨by simp, by simp, by simp, by simp, programStop_stopped _ 1 0xFF⟩

theorem freezeRelease_keeps {s : State} (hext : s.frz.extested = false) (hunit : s.hsb.unit = 0) :
    (freezeRelease s).now = s.now ∧ (freezeRelease s).frz.pinLow = s.frz.pinLow ∧ (freezeRelease s).frz.ir = s.frz.ir := by
  unfold freezeRelease
  rw [if_neg (by simp [hext])]
  dsimp only
  rw [if_neg (by simp [State.paired, hunit])]
  simp

theorem freezeLimit_expires {s : State} (hfrz : s.frz.frozen = true) (hlimit : s.fld FRZ_CTRL_LIMIT ≠ 0) :
    exec .freezeLimitExpiry s = .next (if s.frz.pinLow
      then (s.at (s.frz.tw + s.fld FRZ_CTRL_LIMIT * 1000000000)).modFrz fun f => { f with limitRun := true }
      else freezeRelease (s.at (s.frz.tw + s.fld FRZ_CTRL_LIMIT * 1000000000))) := by
  have hexec : exec .freezeLimitExpiry s = if s.frz.pinLow
      then .next ((s.at (s.frz.tw + s.fld FRZ_CTRL_LIMIT * 1000000000)).modFrz fun f => { f with limitRun := true })
      else .next (freezeRelease (s.at (s.frz.tw + s.fld FRZ_CTRL_LIMIT * 1000000000))) := if_neg (by simp [hfrz, hlimit])
  rw [hexec]
  exact (apply_ite Host.Outcome.next _ _ _).symm

theorem freezeNRise_releases {s : State} (hfrz : s.frz.frozen = true) (hrun : s.frz.limitRun = true) :
    exec .freezeNRise s = .next (freezeRelease (s.modFrz fun f => { f with pinLow := false })) :=
  if_pos (by simp [hfrz, hrun])

theorem freezeNRise_waits {s : State} (hrun : s.frz.limitRun = false) :
    exec .freezeNRise s = .next (s.modFrz fun f => { f with pinLow := false }) := if_neg (by simp [hrun])

theorem fzrel_releases {s : State} (hfrz : s.frz.frozen = true) (hpin : s.frz.pinLow = false) :
    exec .fzrel s = .next (freezeRelease (tapSelect s .fzrel 0)) := if_pos (by simp [tapSelect, hfrz, hpin])

theorem fzrel_waits {s : State} (hpin : s.frz.pinLow = true) : exec .fzrel s = .next (tapSelect s .fzrel 0) :=
  if_neg (by simp [tapSelect, hpin])

/-! ### The links after a release -/

/-- The rings with the levels that their links have (R678). -/
def linksTaken (s : State) (links : BitVec 8) : State := (List.range 4).foldl (fun s r => s.modRing r fun x => { x with
  linkA := links.getLsbD (2 * r), linkB := links.getLsbD (2 * r + 1) }) s

theorem linksTaken_ring (s : State) (links : BitVec 8) {r : Nat} (hr : r < 4) :
    ((linksTaken s links).ring r).linkA = links.getLsbD (2 * r) ∧ ((linksTaken s links).ring r).linkB = links.getLsbD (2 * r + 1) := by
  refine foldl_establishes (P := fun t : State => (t.ring r).linkA = links.getLsbD (2 * r) ∧
    (t.ring r).linkB = links.getLsbD (2 * r + 1)) (f := fun (s : State) (r : Nat) => s.modRing r fun x => { x with
      linkA := links.getLsbD (2 * r), linkB := links.getLsbD (2 * r + 1) }) (fun t => ?_) (fun t k ht => ?_) (List.mem_range.mpr hr) s
  · rw [State.ring_modRing]
    exact ⟨rfl, rfl⟩
  · rcases eq_or_ne r k with rfl | hne
    · rw [State.ring_modRing]
      exact ⟨rfl, rfl⟩
    · rw [State.ring_modRing_ne _ _ _ _ hne]
      exact ht

theorem linksUp_unpaired {links : BitVec 8} {s : State} (hhalt : halted s = false) (hrel : s.frz.released = true)
    (hunit : s.hsb.unit = 0) : exec (.linksUpAfterRelease links) s =
      .next ((((linksTaken s links).modPhr fun p => { p with linksDown := false }).modFrz fun f => { f with released := false }).record
        0x0014 1 0 0 [s.frz.source, s.frz.trigSrc, s.frz.tw % 2 ^ 32, s.frz.tw / 2 ^ 32 % 2 ^ 32, holdAt 0xFFFFFFFF s.frz.dur]) := by
  show execLinksUpAfterRelease links s = _
  rw [execLinksUpAfterRelease, if_neg (by simp [hhalt, hrel])]
  unfold linksTaken
  dsimp only
  rw [if_pos (by simp [State.paired, State.modRing, hunit])]

/-! ### The test access port -/

theorem fzaddr_frozen (v : BitVec 40) {s : State} (h : s.frz.frozen = true) : exec (.fzaddr v) s =
    .next ((tapSelect s .fzaddr s.frz.fzaddr).modFrz fun f => { f with fzaddr := v.toNat / 4 * 4 }) := if_pos h

theorem fzaddr_free (v : BitVec 40) {s : State} (h : s.frz.frozen = false) : exec (.fzaddr v) s = .next (tapSelect s .fzaddr 0) :=
  if_neg (by simp [h])

theorem fzdata_free {s : State} (h : s.frz.frozen = false) : exec .fzdata s = .next (tapSelect s .fzdata 0) :=
  if_pos (by simp [h])

/-- In a freeze the word at the address is captured, and the address rises by 4 (R681, R682). -/
theorem fzdata_reads {s : State} {w : Nat} {bad : Bool} (h : s.frz.frozen = true) (hspace : s.frz.fzaddr / 2 ^ 32 ≠ 6)
    (hread : tapRead s (s.frz.fzaddr / 2 ^ 32) (s.frz.fzaddr % 2 ^ 32) = some (w, bad)) :
    exec .fzdata s = .next ((tapSelect s .fzdata (toWord w).toNat).modFrz fun f => { f with
      eccErr := bad, badAddr := false, fzaddr := s.frz.fzaddr / 2 ^ 32 * 2 ^ 32 + (s.frz.fzaddr % 2 ^ 32 + 4) % 2 ^ 32 }) := by
  show execFzdata s = _
  simp only [execFzdata, h, hread, hspace, Bool.not_true, Bool.false_eq_true, ite_false, false_and, Option.isNone_some]
  rfl

theorem fzdata_nothing {s : State} (h : s.frz.frozen = true)
    (hread : tapRead s (s.frz.fzaddr / 2 ^ 32) (s.frz.fzaddr % 2 ^ 32) = none) :
    exec .fzdata s = .next ((tapSelect s .fzdata 0).modFrz fun f => { f with
      eccErr := false, badAddr := true, fzaddr := s.frz.fzaddr / 2 ^ 32 * 2 ^ 32 + (s.frz.fzaddr % 2 ^ 32 + 4) % 2 ^ 32 }) := by
  show execFzdata s = _
  simp only [execFzdata, h, hread, Bool.not_true, Bool.false_eq_true, ite_false, Option.isSome_none, and_false, Option.isNone_none]
  rfl

/-- Settles O59: request, halt, release and links by their equations; the port by its instructions'. -/
theorem freezeAndTap : Obligations.FreezeAndTap := by
  refine ⟨fun s => ⟨freezeN_held, fun hheld hfrz hreq hstrap hready => ?_, fun hheld hfrz hreq hstrap => ?_⟩,
    fun s hhalt hreq => ⟨_, freezeHalt_halts hhalt hreq, ?_⟩, ?_, ?_, fun s => ⟨⟨_, rfl, rfl, rfl⟩, ⟨_, rfl, rfl⟩,
    ⟨_, rfl, rfl, rfl, rfl, rfl⟩, fun h => if_neg (by simp [h]), fun h => ⟨_, if_pos h, rfl, rfl⟩⟩,
    fun v s => ⟨fun h => ⟨_, fzaddr_frozen v h, rfl, rfl, rfl⟩, fun h => ⟨_, fzaddr_free v h, rfl, rfl⟩⟩,
    fun s => ⟨fun h => ⟨_, fzdata_free h, rfl, rfl⟩, fun w bad h hspace hread => ⟨_, fzdata_reads h hspace hread, ?_⟩,
      fun h hread => ⟨_, fzdata_nothing h hread, rfl, rfl⟩⟩⟩
  · have hexec := freezeN_requests hheld
    rw [freezeRequest_accepted 1 0 (by exact hfrz) (by exact hreq) (by exact hstrap) (by exact hready)] at hexec
    exact ⟨_, hexec, rfl, rfl, rfl, hfrz, rfl, rfl⟩
  · have hexec := freezeN_requests hheld
    rw [freezeRequest_refused 1 0 (by exact hfrz) (by exact hreq) (by exact hstrap)] at hexec
    refine ⟨_, hexec, by simp [hreq], ?_⟩
    rw [flag_of_reg (record_reg (by decide))]
    exact flag_setFlag_same _ FRZ_STAT_REFUSED true (by decide) (by decide)
  · simp [haltedAt, wdgPause_paused]
  · intro s hfrz hext hunit free
    refine ⟨fun hlimit hpin => ?_, fun hlimit hpin => ?_, fun hrun => ?_, fun hrun => ⟨_, freezeNRise_waits hrun, hfrz, rfl⟩,
      fun hpin => ?_, fun hpin => ⟨_, fzrel_waits hpin, hfrz, rfl⟩⟩
    · have hexec := freezeLimit_expires hfrz hlimit
      rw [if_neg (by simp [hpin])] at hexec
      exact ⟨_, hexec, freezeRelease_frees hext hunit, (freezeRelease_keeps (s := s.at _) hext hunit).1⟩
    · have hexec := freezeLimit_expires hfrz hlimit
      rw [if_pos hpin] at hexec
      exact ⟨_, hexec, hfrz, rfl⟩
    · exact ⟨_, freezeNRise_releases hfrz hrun, freezeRelease_frees hext hunit, (freezeRelease_keeps (s := s.modFrz fun f => { f with pinLow := false }) hext hunit).2.1⟩
    · exact ⟨_, fzrel_releases hfrz hpin, freezeRelease_frees hext hunit, (freezeRelease_keeps (s := tapSelect s .fzrel 0) hext hunit).2.2⟩
  · intro links s hhalt hrel hunit
    refine ⟨_, linksUp_unpaired hhalt hrel hunit, by simp, by simp, fun r hr => ?_⟩
    have hring (t : State) (code sev kind num : Nat) (ws : List Nat) : (t.record code sev kind num ws).ring r = t.ring r := by
      simp [State.ring]
    rw [hring]
    exact linksTaken_ring s links hr
  · simp [tapSelect]

end Sys2Proof.Machine
end

section
/-!
PROOF. SafetyPartition: the partition's cycles, stops, frames and pulses (R598 to R613).
-/
namespace Sys2Proof.Machine

@[simp] theorem safStop_rest (s : State) (cause : Nat) :
    (safStop s cause).now = s.now ∧ (safStop s cause).pending = s.pending ∧ (safStop s cause).draws = s.draws ∧
      (safStop s cause).rdata = s.rdata ∧ (safStop s cause).mem.code = s.mem.code ∧ (safStop s cause).mem.sram = s.mem.sram ∧
      (safStop s cause).mem.trace = s.mem.trace ∧ (safStop s cause).mem.fw = s.mem.fw ∧
      (safStop s cause).mem.flash = s.mem.flash ∧ (safStop s cause).objs = s.objs ∧ (safStop s cause).prog = s.prog ∧
      (safStop s cause).nv = s.nv ∧ (safStop s cause).rtc = s.rtc ∧ (safStop s cause).wdg = s.wdg ∧
      (safStop s cause).frz = s.frz ∧ (safStop s cause).boot = s.boot ∧ (safStop s cause).phr.rings = s.phr.rings ∧
      (safStop s cause).phr.atStart = s.phr.atStart ∧ (safStop s cause).phr.linksDown = s.phr.linksDown ∧
      (safStop s cause).trc = s.trc ∧ (safStop s cause).hsb.unit = s.hsb.unit ∧ (safStop s cause).hsb.role = s.hsb.role ∧
      (safStop s cause).jrn = s.jrn ∧ (safStop s cause).stations = s.stations := by
  unfold safStop
  simp

@[simp] theorem stoHeldOff_rest (s : State) (o : Nat) :
    (stoHeldOff s o).now = s.now ∧ (stoHeldOff s o).pending = s.pending ∧ (stoHeldOff s o).draws = s.draws ∧
      (stoHeldOff s o).rdata = s.rdata ∧ (stoHeldOff s o).mem.code = s.mem.code ∧ (stoHeldOff s o).mem.sram = s.mem.sram ∧
      (stoHeldOff s o).mem.trace = s.mem.trace ∧ (stoHeldOff s o).mem.fw = s.mem.fw ∧
      (stoHeldOff s o).mem.flash = s.mem.flash ∧ (stoHeldOff s o).units = s.units ∧ (stoHeldOff s o).objs = s.objs ∧
      (stoHeldOff s o).prog = s.prog ∧ (stoHeldOff s o).img = s.img ∧ (stoHeldOff s o).tsk = s.tsk ∧
      (stoHeldOff s o).gz = s.gz ∧ (stoHeldOff s o).nv = s.nv ∧ (stoHeldOff s o).rtc = s.rtc ∧ (stoHeldOff s o).wdg = s.wdg ∧
      (stoHeldOff s o).frz = s.frz ∧ (stoHeldOff s o).boot = s.boot ∧ (stoHeldOff s o).phr = s.phr ∧
      (stoHeldOff s o).lpe = s.lpe ∧ (stoHeldOff s o).trc = s.trc ∧ (stoHeldOff s o).nrg = s.nrg ∧
      (stoHeldOff s o).hsb = s.hsb ∧ (stoHeldOff s o).field = s.field ∧ (stoHeldOff s o).can = s.can ∧
      (stoHeldOff s o).jrn = s.jrn ∧ (stoHeldOff s o).stations = s.stations ∧ (stoHeldOff s o).sent = s.sent := by
  unfold stoHeldOff
  simp

@[simp] theorem driveSafety_rest (s : State) :
    (driveSafety s).now = s.now ∧ (driveSafety s).pending = s.pending ∧ (driveSafety s).draws = s.draws ∧
      (driveSafety s).rdata = s.rdata ∧ (driveSafety s).regs = s.regs ∧ (driveSafety s).mem = s.mem ∧
      (driveSafety s).units = s.units ∧ (driveSafety s).objs = s.objs ∧ (driveSafety s).prog = s.prog ∧
      (driveSafety s).img = s.img ∧ (driveSafety s).tsk = s.tsk ∧ (driveSafety s).gz = s.gz ∧ (driveSafety s).evc = s.evc ∧
      (driveSafety s).nv = s.nv ∧ (driveSafety s).rtc = s.rtc ∧ (driveSafety s).wdg = s.wdg ∧ (driveSafety s).frz = s.frz ∧
      (driveSafety s).rcd = s.rcd ∧ (driveSafety s).boot = s.boot ∧ (driveSafety s).phr = s.phr ∧ (driveSafety s).lpe = s.lpe ∧
      (driveSafety s).trc = s.trc ∧ (driveSafety s).nrg = s.nrg ∧ (driveSafety s).hsb = s.hsb ∧
      (driveSafety s).field.state = s.field.state ∧ (driveSafety s).field.link = s.field.link ∧
      (driveSafety s).field.lastFrame = s.field.lastFrame ∧ (driveSafety s).field.lastUpd = s.field.lastUpd ∧
      (driveSafety s).field.silence = s.field.silence ∧ (driveSafety s).field.silStandby = s.field.silStandby ∧
      (driveSafety s).field.unit = s.field.unit ∧ (driveSafety s).field.analog = s.field.analog ∧
      (driveSafety s).field.enc = s.field.enc ∧ (driveSafety s).field.cmds = s.field.cmds ∧
      (driveSafety s).field.vflow = s.field.vflow ∧ (driveSafety s).field.vfhigh = s.field.vfhigh ∧
      (driveSafety s).field.mv = s.field.mv ∧ (driveSafety s).field.lowCnt = s.field.lowCnt ∧
      (driveSafety s).field.silentCnt = s.field.silentCnt ∧ (driveSafety s).field.safAt = s.field.safAt ∧
      (driveSafety s).field.stoOn = s.field.stoOn ∧ (driveSafety s).field.pulses = s.field.pulses ∧
      (driveSafety s).field.owners = s.field.owners ∧ (driveSafety s).can = s.can ∧ (driveSafety s).saf = s.saf ∧
      (driveSafety s).jrn = s.jrn ∧ (driveSafety s).stations = s.stations ∧ (driveSafety s).sent = s.sent := by
  unfold driveSafety
  simp

@[simp] theorem connFail_rest (s : State) (n : Nat) :
    (connFail s n).now = s.now ∧ (connFail s n).pending = s.pending ∧ (connFail s n).draws = s.draws ∧
      (connFail s n).rdata = s.rdata ∧ (connFail s n).regs = s.regs ∧ (connFail s n).mem = s.mem ∧
      (connFail s n).units = s.units ∧ (connFail s n).objs = s.objs ∧ (connFail s n).prog = s.prog ∧
      (connFail s n).img = s.img ∧ (connFail s n).tsk = s.tsk ∧ (connFail s n).gz = s.gz ∧ (connFail s n).evc = s.evc ∧
      (connFail s n).nv = s.nv ∧ (connFail s n).rtc = s.rtc ∧ (connFail s n).wdg = s.wdg ∧ (connFail s n).frz = s.frz ∧
      (connFail s n).rcd = s.rcd ∧ (connFail s n).boot = s.boot ∧ (connFail s n).phr = s.phr ∧ (connFail s n).lpe = s.lpe ∧
      (connFail s n).trc = s.trc ∧ (connFail s n).nrg = s.nrg ∧ (connFail s n).hsb = s.hsb ∧ (connFail s n).field = s.field ∧
      (connFail s n).can = s.can ∧ (connFail s n).jrn = s.jrn ∧ (connFail s n).stations = s.stations ∧
      (connFail s n).sent = s.sent := by
  unfold connFail
  simp

@[simp] theorem inputStep_rest (s : State) (i : Nat) :
    (inputStep s i).now = s.now ∧ (inputStep s i).pending = s.pending ∧ (inputStep s i).draws = s.draws ∧
      (inputStep s i).rdata = s.rdata ∧ (inputStep s i).regs = s.regs ∧ (inputStep s i).mem = s.mem ∧
      (inputStep s i).units = s.units ∧ (inputStep s i).objs = s.objs ∧ (inputStep s i).prog = s.prog ∧
      (inputStep s i).img = s.img ∧ (inputStep s i).tsk = s.tsk ∧ (inputStep s i).gz = s.gz ∧ (inputStep s i).evc = s.evc ∧
      (inputStep s i).nv = s.nv ∧ (inputStep s i).rtc = s.rtc ∧ (inputStep s i).wdg = s.wdg ∧ (inputStep s i).frz = s.frz ∧
      (inputStep s i).rcd = s.rcd ∧ (inputStep s i).boot = s.boot ∧ (inputStep s i).phr = s.phr ∧ (inputStep s i).lpe = s.lpe ∧
      (inputStep s i).trc = s.trc ∧ (inputStep s i).nrg = s.nrg ∧ (inputStep s i).hsb = s.hsb ∧
      (inputStep s i).field = s.field ∧ (inputStep s i).can = s.can ∧ (inputStep s i).jrn = s.jrn ∧
      (inputStep s i).stations = s.stations ∧ (inputStep s i).sent = s.sent := by
  unfold inputStep
  simp

@[simp] theorem inputFault_rest (s : State) (i : Nat) :
    (inputFault s i).now = s.now ∧ (inputFault s i).pending = s.pending ∧ (inputFault s i).draws = s.draws ∧
      (inputFault s i).rdata = s.rdata ∧ (inputFault s i).regs = s.regs ∧ (inputFault s i).mem = s.mem ∧
      (inputFault s i).units = s.units ∧ (inputFault s i).objs = s.objs ∧ (inputFault s i).prog = s.prog ∧
      (inputFault s i).img = s.img ∧ (inputFault s i).tsk = s.tsk ∧ (inputFault s i).gz = s.gz ∧ (inputFault s i).evc = s.evc ∧
      (inputFault s i).nv = s.nv ∧ (inputFault s i).rtc = s.rtc ∧ (inputFault s i).wdg = s.wdg ∧ (inputFault s i).frz = s.frz ∧
      (inputFault s i).rcd = s.rcd ∧ (inputFault s i).boot = s.boot ∧ (inputFault s i).phr = s.phr ∧
      (inputFault s i).lpe = s.lpe ∧ (inputFault s i).trc = s.trc ∧ (inputFault s i).nrg = s.nrg ∧
      (inputFault s i).hsb = s.hsb ∧ (inputFault s i).field = s.field ∧ (inputFault s i).can = s.can ∧
      (inputFault s i).jrn = s.jrn ∧ (inputFault s i).stations = s.stations ∧ (inputFault s i).sent = s.sent := by
  unfold inputFault
  simp

/-- Running over a list that contains k establishes P, where a step at k makes it under the invariant, and every step keeps both. -/
theorem foldl_establishes_under {α : Type} {I P : State → Prop} {f : State → α → State} {k : α} (hmakes : ∀ t, I t → P (f t k))
    (hkeepsI : ∀ t j, I t → I (f t j)) (hkeeps : ∀ t j, I t → P t → P (f t j)) {xs : List α} (hk : k ∈ xs) {s : State} (hs : I s) :
    P (xs.foldl f s) := by
  induction xs generalizing s with
  | nil => exact absurd hk (List.not_mem_nil)
  | cons x xs ih =>
    rw [List.foldl_cons]
    rcases List.mem_cons.mp hk with rfl | hin
    · exact (foldl_keeps_prop (P := fun t => I t ∧ P t) (fun t j h => ⟨hkeepsI t j h.1, hkeeps t j h.1 h.2⟩) xs
        ⟨hkeepsI s k hs, hmakes s hs⟩).2
    · exact ih hin (hkeepsI s x hs)

/-! ### A stop -/

theorem setSafState_saf (s : State) (st : Nat) : (setSafState s st).saf = { s.saf with state := st } := by
  unfold setSafState
  split
  · next h => rw [← h]
  · simp

theorem setAxisState_saf (s : State) (a st fault : Nat) :
    (setAxisState s a st fault).saf = (s.setAxis a { s.safAxis a with state := st, fault := fault, reset := false }).saf := by
  unfold setAxisState
  dsimp only
  split
  · rfl
  · simp

/-- Every STO output of a table of them switched off. -/
def stosOff (t : Tbl StoOut) : Tbl StoOut := t.map fun e => (e.1, { e.2 with on := false })

theorem stosOff_off (t : Tbl StoOut) (o : Nat) : ((stosOff t).get {} o).on = false := by
  induction t with
  | nil => rfl
  | cons e rest ih =>
    show (if e.1 = o then ({ e.2 with on := false } : StoOut) else (stosOff rest).get {} o).on = false
    split
    · rfl
    · exact ih

/-- What a stop of the partition with a cause leaves (R602, R609). -/
def PartitionStopped (s : State) (cause : Nat) (t : State) : Prop :=
  t.saf.state = safStopped ∧ t.saf.cause = cause ∧ t.running = false ∧ (∀ o, (t.sto o).on = false) ∧ t.saf.image = s.saf.image

theorem safStop_stops {s : State} (cause : Nat) (h : s.saf.state = safRunning ∨ s.saf.state = safUnconfirmed) :
    PartitionStopped s cause (safStop s cause) := by
  have hgo : ¬(s.saf.state ≠ safRunning ∧ s.saf.state ≠ safUnconfirmed) := by tauto
  have hsaf : (safStop s cause).saf =
      { s.saf with cause := cause, call := none, stos := stosOff s.saf.stos, state := safStopped } := by
    rw [safStop, if_neg hgo]
    simp [setSafState_saf, stosOff]
  refine ⟨by rw [hsaf], by rw [hsaf], ?_, fun o => ?_, by rw [hsaf]⟩
  · rw [safStop, if_neg hgo]
    exact programStop_stopped _ 7 0xFF
  · rw [State.sto, hsaf]
    exact stosOff_off _ o

theorem safStop_idle {s : State} (cause : Nat) (h : s.saf.state = safStopped) : safStop s cause = s :=
  if_pos (by rw [h]; decide)

/-! ### A cycle -/

/-- The instant of the partition's next cycle. -/
def cycleAt (s : State) : Nat := ceilDiv (Nat.max s.now (s.saf.callAt + 1)) 1000000 * 1000000

theorem le_ceilDiv_mul (n : Nat) {d : Nat} (h : 0 < d) : n ≤ ceilDiv n d * d := by
  have hdiv := Nat.div_add_mod (n + d - 1) d
  have hmod := Nat.mod_lt (n + d - 1) h
  rw [ceilDiv, Nat.mul_comm]
  omega

theorem at_cycleAt (s : State) : (s.at (cycleAt s)).now = cycleAt s ∧ cycleAt s % 1000000 = 0 := by
  have hle := le_ceilDiv_mul (Nat.max s.now (s.saf.callAt + 1)) (show 0 < 1000000 by decide)
  have hnow : s.now ≤ Nat.max s.now (s.saf.callAt + 1) := Nat.le_max_left _ _
  exact ⟨Nat.max_eq_right (hnow.trans hle), Nat.mul_mod_left _ _⟩

theorem safetyCycle_idle (fuel : Nat) {s : State}
    (h : s.saf.state = safUnconfigured ∨ s.saf.state = safStopped ∨ safAlive s = false) : exec (.safetyCycle fuel) s = .next s :=
  if_pos (by rcases h with h | h | h <;> simp [h])

theorem safetyCycle_inputs (fuel : Nat) {s : State} (halive : safAlive s = true) (hst : s.saf.state = safUnconfirmed) :
    exec (.safetyCycle fuel) s = .next ((List.range 8).foldl inputStep (s.at (cycleAt s))) :=
  (if_neg (by simp [halive, hst, safUnconfirmed, safUnconfigured, safStopped])).trans
    (if_pos (by show s.saf.state ≠ safRunning; rw [hst]; decide))

theorem safetyCycle_runs (fuel : Nat) {s : State} (halive : safAlive s = true) (hst : s.saf.state = safRunning)
    (hinit : s.saf.initDone = true) : exec (.safetyCycle fuel) s = .next (safCycle (s.at (cycleAt s)) fuel) := by
  have hrun : ¬(s.at (cycleAt s)).saf.state ≠ safRunning := not_not.mpr hst
  show execSafetyCycle fuel s = _
  rw [execSafetyCycle, if_neg (by simp [halive, hst, safRunning, safUnconfigured, safStopped])]
  dsimp only
  rw [← cycleAt, if_neg hrun, if_pos (show (s.at (cycleAt s)).saf.initDone = true from hinit), if_pos (by simp [hinit, hst])]

theorem safCycle_overrun {s : State} (fuel : Nat) (h : s.saf.call.isSome = true) : safCycle s fuel = safStop s 6 := if_pos h

theorem safCycle_unserved {s : State} (fuel : Nat) (hcall : s.saf.call = none) (h : s.saf.served + 2000000 < s.now) :
    safCycle s fuel = safStop s 2 := (if_neg (by simp [hcall])).trans (if_pos h)

theorem safCycle_calls {s : State} (fuel : Nat) (hcall : s.saf.call = none) (h : ¬s.saf.served + 2000000 < s.now) :
    safCycle s fuel = let u := safRun (safCall (cycleStart s) .cycle) fuel
      if u.saf.call = some .cycle ∧ safReturned u then cycleEnd u else u := (if_neg (by simp [hcall])).trans (if_neg h)

theorem inputStep_saf (s : State) (i : Nat) : (inputStep s i).saf.stos = s.saf.stos ∧ (inputStep s i).saf.axes = s.saf.axes ∧
    (inputStep s i).saf.state = s.saf.state := by
  unfold inputStep
  split <;> exact ⟨rfl, rfl, rfl⟩

/-- The inputs of a cycle, evaluated alone. -/
theorem inputSteps_keep (s : State) (xs : List Nat) : (xs.foldl inputStep s).now = s.now ∧
    (xs.foldl inputStep s).saf.stos = s.saf.stos ∧ (xs.foldl inputStep s).saf.axes = s.saf.axes ∧
    (xs.foldl inputStep s).saf.state = s.saf.state ∧ (xs.foldl inputStep s).regs = s.regs ∧ (xs.foldl inputStep s).mem = s.mem := by
  refine foldl_keeps_prop (P := fun t : State => t.now = s.now ∧ t.saf.stos = s.saf.stos ∧ t.saf.axes = s.saf.axes ∧
    t.saf.state = s.saf.state ∧ t.regs = s.regs ∧ t.mem = s.mem) (fun t i ht => ?_) xs ⟨rfl, rfl, rfl, rfl, rfl, rfl⟩
  obtain ⟨h1, h2, h3, h4, h5, h6⟩ := ht
  obtain ⟨k2, k3, k4⟩ := inputStep_saf t i
  exact ⟨by simpa using h1, k2.trans h2, k3.trans h3, k4.trans h4, by simpa using h5, by simpa using h6⟩

/-! ### The causes of a stop -/

theorem lockstep_stops {s : State} (h : safAlive s = true) : exec .lockstepMismatch s =
    .next (safStop (s.modSaf fun x => { x with lsErr := holdAt 0xFFFFFFFF (x.lsErr + 1) }) 1) := if_neg (by simp [h])

theorem supply_stops {s : State} (h : safAlive s = true) : exec .safetySupplyFault s =
    .next (safStop { s with boot := { s.boot with safetyUp := false } } 5) := if_neg (by simp [h])

theorem safetyWatchdog_stops {s : State} (h : safAlive s = true) (hst : s.saf.state = safRunning) (hinit : s.saf.initDone = true) :
    exec .safetyWatchdogExpiry s = .next (safStop (s.at (s.saf.served + 2000000)) 2) := if_neg (by simp [h, hst, hinit])

theorem initTimeout_stops {s : State} (h : safAlive s = true) (hst : s.saf.state = safRunning) (hinit : s.saf.initDone = false) :
    exec .safetyInitTimeout s = .next (safStop (s.at (s.saf.callAt + 100000000)) 6) := if_neg (by simp [h, hst, hinit])

theorem cycleOverrun_stops {s : State} (h : safAlive s = true) (hst : s.saf.state = safRunning) (hcall : s.saf.call = some .cycle) :
    exec .safetyCycleOverrun s = .next (safStop (s.at (s.saf.callAt + 800000)) 6) := if_neg (by simp [h, hst, hcall])

/-! ### Safety frames -/

theorem driveSafety_drives (s : State) {k : Nat} (hk : k < 32) (hmode : ((driveSafety s).dchan k).mode = 5) :
    Driven k (driveSafety s) := by
  have hdmode (t : State) (j : Nat) : ((dDrive t j).dchan k).mode = (t.dchan k).mode := by
    rcases eq_or_ne k j with rfl | hne
    · rw [dDrive_dchan]
    · rw [dDrive_dchan_ne hne]
  have hkept : ((driveSafety s).dchan k).mode = (s.dchan k).mode :=
    foldl_keeps_prop (P := fun t : State => (t.dchan k).mode = (s.dchan k).mode) (f := dDrive) (fun t j ht => (hdmode t j).trans ht) _ rfl
  refine foldl_establishes (P := Driven k) (f := dDrive) (fun t => dDrive_driven t k) (fun _ j h => h.dDrive j)
    (List.mem_filter.mpr ⟨List.mem_range.mpr hk, ?_⟩) s
  rw [← hkept, hmode]
  rfl

theorem frameSend_sends {s : State} (h : safAlive s = true) (hst : s.saf.state = safRunning ∨ s.saf.state = safUnconfirmed) :
    exec .safetyFrameSend s = .next (driveSafety ((s.at (ceilDiv s.now 250000 * 250000)).modField fun f => { f with
      safAt := (s.at (ceilDiv s.now 250000 * 250000)).now
      stoOn := dedup (if safActs s then ((List.range 4).filter fun o => (s.sto o).on && !(s.sto o).fault).flatMap (stoChannels s) else [])
      pulses := pulseSources s })) :=
  if_neg (by rcases hst with hst | hst <;> simp [h, hst])

/-- A safety channel that neither a frame permits nor a pulse drives is commanded off. -/
theorem dWant_unpermitted {f : FieldState} {k : Nat} {c : DChan} (hmode : c.mode = 5) (hsto : f.stoOn = []) (hpulses : f.pulses = []) :
    dWant f k c = false := by
  simp [dWant, hmode, hsto, hpulses]

/-- The field side's safety outputs when no frame permits any. -/
def unpermitted (s : State) : State :=
  (s.at (s.field.safAt + 3000000)).modField fun f => { f with stoOn := [], pulses := [] }

theorem unpermitted_off (s : State) {k : Nat} (hk : k < 32) (hmode : ((driveSafety (unpermitted s)).dchan k).mode = 5) :
    ((driveSafety (unpermitted s)).dchan k).driver = false := by
  by_contra hon
  obtain ⟨-, -, hwant⟩ := driveSafety_drives (unpermitted s) hk hmode (by simpa using hon)
  rw [dWant_unpermitted hmode (by simp [unpermitted]) (by simp [unpermitted])] at hwant
  exact Bool.noConfusion hwant

/-! ### Connections and inputs -/

theorem connectionWatchdog_fails {n : Fin 32} {s : State} {x : Nat} (hsent : (s.safConn n.val).sentAt = some x)
    (hacts : safActs s = true) (hst : (s.safConn n.val).state ≠ 3) :
    exec (.connectionWatchdog n) s = .next (connFail (s.at (x + connPar s n.val 3 * 1000000)) n.val) := by
  show execConnectionWatchdog n s = _
  simp [execConnectionWatchdog, hsent, hacts, hst]

theorem discrepancy_faults {i : Fin 8} {s : State} {x : Nat} (hdiff : (s.safInput i.val).diffAt = some x) (halive : safAlive s = true)
    (hused : inputUsed s i.val = true) :
    exec (.safetyInputDiscrepancy i) s = .next (inputFault (s.at (x + inputPar s i.val 6 * 1000000)) i.val) := by
  show execSafetyInputDiscrepancy i s = _
  simp [execSafetyInputDiscrepancy, hdiff, halive, hused]

theorem safInput_inputFault (s : State) (i : Nat) :
    (inputFault s i).safInput i = { s.safInput i with fault := true, closed := false, sawOpen := false } :=
  State.safInput_setInput s i _

theorem safInput_inputFault_ne {s : State} {i j : Nat} (h : j ≠ i) : (inputFault s i).safInput j = s.safInput j :=
  State.safInput_setInput_ne s i j _ h

/-- An input that is tested by a source, and that shows the pulse wrong. -/
def pulseFails (s : State) (k : Nat) (dipped : Word) (i : Nat) : Bool :=
  inputUsed s i && (inputPar s i 3 == k || inputPar s i 4 == k)
    && (pulseBad s k dipped (inputPar s i 1) (inputPar s i 3) || pulseBad s k dipped (inputPar s i 2) (inputPar s i 4))

def pulseStep (k : Nat) (dipped : Word) (s : State) (i : Nat) : State := if pulseFails s k dipped i then inputFault s i else s

theorem testPulse_steps {k : Fin 32} {s : State} (dipped : Word) (halive : safAlive s = true)
    (hpulse : s.field.pulses.contains k.val = true) :
    exec (.testPulse k dipped) s = .next ((List.range 8).foldl (pulseStep k.val dipped) s) :=
  if_neg (by rw [halive, hpulse]; decide)

/-- What a test pulse is judged by: the configuration and the channels. -/
def SameTest (s t : State) : Prop := t.objs = s.objs ∧ t.field = s.field

theorem objNum_of_objs {s t : State} (h : t.objs = s.objs) : t.objNum = s.objNum := by
  funext index sub
  rw [State.objNum, State.objNum, State.objBytes, State.objBytes, State.obj, State.obj, h]

theorem pulseFails_congr {s t : State} (h : SameTest s t) (k : Nat) (dipped : Word) (i : Nat) :
    pulseFails t k dipped i = pulseFails s k dipped i := by
  obtain ⟨hobjs, hfield⟩ := h
  have hpar : inputPar t = inputPar s := by
    funext i sub
    rw [inputPar, inputPar, objNum_of_objs hobjs]
  have hon : safOn t = safOn s := by
    funext ch
    rw [safOn, safOn, State.dchan, State.dchan, hfield]
  unfold pulseFails inputUsed pulseBad
  rw [hpar, hon]

theorem pulseStep_sameTest {s t : State} (h : SameTest s t) (k : Nat) (dipped : Word) (i : Nat) :
    SameTest s (pulseStep k dipped t i) := by
  unfold pulseStep
  split
  · exact h
  · exact h

theorem pulseStep_input {t : State} (k : Nat) (dipped : Word) {i j : Nat} (h : i ≠ j) :
    (pulseStep k dipped t j).safInput i = t.safInput i := by
  unfold pulseStep
  split
  · exact safInput_inputFault_ne h
  · rfl

theorem pulseStep_fault {t : State} (k : Nat) (dipped : Word) (i j : Nat) (h : (t.safInput i).fault = true ∧ (t.safInput i).closed = false) :
    ((pulseStep k dipped t j).safInput i).fault = true ∧ ((pulseStep k dipped t j).safInput i).closed = false := by
  unfold pulseStep
  split
  · rcases eq_or_ne i j with rfl | hne
    · rw [safInput_inputFault]
      exact ⟨rfl, rfl⟩
    · rw [safInput_inputFault_ne hne]
      exact h
  · exact h

theorem pulseSteps_fault {s : State} (k : Nat) (dipped : Word) {i : Nat} (hi : i < 8) (hbad : pulseFails s k dipped i = true) :
    (((List.range 8).foldl (pulseStep k dipped) s).safInput i).fault = true ∧
      (((List.range 8).foldl (pulseStep k dipped) s).safInput i).closed = false := by
  refine foldl_establishes_under (I := SameTest s) (P := fun t => (t.safInput i).fault = true ∧ (t.safInput i).closed = false)
    (fun t ht => ?_) (fun t j ht => pulseStep_sameTest ht k dipped j) (fun t j _ h => pulseStep_fault k dipped i j h)
    (List.mem_range.mpr hi) ⟨rfl, rfl⟩
  rw [pulseStep, if_pos ((pulseFails_congr ht k dipped i).trans hbad), safInput_inputFault]
  exact ⟨rfl, rfl⟩

theorem pulseSteps_good {s : State} (k : Nat) (dipped : Word) {i : Nat} (hgood : pulseFails s k dipped i = false) :
    ((List.range 8).foldl (pulseStep k dipped) s).safInput i = s.safInput i := by
  refine (foldl_keeps_prop (P := fun t : State => SameTest s t ∧ t.safInput i = s.safInput i) (fun t j ht => ?_) (List.range 8)
    ⟨⟨rfl, rfl⟩, rfl⟩).2
  obtain ⟨hsame, hin⟩ := ht
  refine ⟨pulseStep_sameTest hsame k dipped j, ?_⟩
  rcases eq_or_ne i j with rfl | hne
  · rw [pulseStep, if_neg (by rw [pulseFails_congr hsame, hgood]; decide)]
    exact hin
  · exact (pulseStep_input k dipped hne).trans hin

theorem pulseSteps_keep (s : State) (k : Nat) (dipped : Word) (xs : List Nat) :
    (xs.foldl (pulseStep k dipped) s).regs = s.regs ∧ (xs.foldl (pulseStep k dipped) s).mem = s.mem := by
  refine foldl_keeps_prop (P := fun t : State => t.regs = s.regs ∧ t.mem = s.mem) (fun t j ht => ?_) xs ⟨rfl, rfl⟩
  unfold pulseStep
  split <;> exact ht

/-! ### STO outputs -/

theorem safAxis_setAxisState (s : State) (a st fault : Nat) :
    (setAxisState s a st fault).safAxis a = { s.safAxis a with state := st, fault := fault, reset := false } := by
  rw [State.safAxis, setAxisState_saf]
  exact State.safAxis_setAxis s a _

theorem safAxis_setAxisState_ne {s : State} {a j : Nat} (st fault : Nat) (h : j ≠ a) :
    (setAxisState s a st fault).safAxis j = s.safAxis j := by
  rw [State.safAxis, setAxisState_saf]
  exact State.safAxis_setAxis_ne s a j _ h

theorem sto_setAxisState (s : State) (a st fault o : Nat) : (setAxisState s a st fault).sto o = s.sto o := by
  rw [State.sto, setAxisState_saf]
  rfl

/-- An axis that runs by an output which is held off is faulted. -/
def axisHeldOff (s : State) (a : Nat) : State :=
  if (s.safAxis a).state = axRun ∨ (s.safAxis a).state = axRamp then setAxisState s a axFault 2 else s

theorem stoHeldOff_eq (s : State) (o : Nat) : stoHeldOff s o =
    (axesOf (s.setSto o { on := false, fault := true }) o).foldl axisHeldOff (s.setSto o { on := false, fault := true }) := rfl

theorem stoHeldOff_sto (s : State) (o : Nat) : (stoHeldOff s o).sto o = { on := false, fault := true } := by
  rw [stoHeldOff_eq]
  refine foldl_keeps_prop (P := fun t : State => t.sto o = { on := false, fault := true }) (fun t a ht => ?_) _
    (State.sto_setSto s o _)
  unfold axisHeldOff
  split
  · rw [sto_setAxisState]
    exact ht
  · exact ht

/-- A fault of axis a that an output held off has made. -/
def AxisFaulted (a : Nat) (t : State) : Prop := (t.safAxis a).state = axFault ∧ (t.safAxis a).fault = 2

theorem axisHeldOff_faults {t : State} {a : Nat} (h : (t.safAxis a).state = axRun ∨ AxisFaulted a t) : AxisFaulted a (axisHeldOff t a) := by
  unfold axisHeldOff
  rcases h with h | h
  · rw [if_pos (Or.inl h), AxisFaulted, safAxis_setAxisState]
    exact ⟨rfl, rfl⟩
  · rw [if_neg (by rw [h.1]; decide)]
    exact h

theorem axisHeldOff_ne {t : State} {a j : Nat} (h : a ≠ j) : (axisHeldOff t j).safAxis a = t.safAxis a := by
  unfold axisHeldOff
  split
  · exact safAxis_setAxisState_ne _ _ h
  · rfl

theorem stoHeldOff_faults {s : State} {o a : Nat} (ha : a < 8) (hused : axisPar s a 1 ≠ 0) (hout : axisPar s a 2 = o)
    (hrun : (s.safAxis a).state = axRun) : AxisFaulted a (stoHeldOff s o) := by
  have hmem : a ∈ axesOf (s.setSto o { on := false, fault := true }) o :=
    List.mem_filter.mpr ⟨List.mem_range.mpr ha, by
      show (axisPar s a 1 != 0 && axisPar s a 2 == o) = true
      simp [hused, hout]⟩
  have hstep (t : State) (j : Nat) {P : State → Prop} (hsame : ∀ u : State, u.safAxis a = t.safAxis a → P t → P u)
      (hself : P t → P (axisHeldOff t a)) (h : P t) : P (axisHeldOff t j) := by
    rcases eq_or_ne a j with rfl | hne
    · exact hself h
    · exact hsame _ (axisHeldOff_ne hne) h
  rw [stoHeldOff_eq]
  refine foldl_establishes_under (I := fun t => (t.safAxis a).state = axRun ∨ AxisFaulted a t) (P := AxisFaulted a)
    (fun t ht => axisHeldOff_faults ht) (fun t j ht => hstep t j (P := fun t => (t.safAxis a).state = axRun ∨ AxisFaulted a t)
      (fun u hu h => by simpa only [AxisFaulted, hu] using h) (fun h => Or.inr (axisHeldOff_faults h)) ht)
    (fun t j _ h => hstep t j (P := AxisFaulted a) (fun u hu h => by simpa only [AxisFaulted, hu] using h)
      (fun h => axisHeldOff_faults (Or.inr h)) h) hmem (Or.inl hrun)

/-- Settles O55: a cycle by its cases, every cause by the stop that it makes, frames and pulses by what they establish. -/
theorem safetyPartition : Obligations.SafetyPartition := by
  refine ⟨fun fuel s => ?_, fun s halive => ?_, fun s halive hst => ?_, fun s halive hst => ?_, fun s => ?_, ?_, ?_, ?_, ?_⟩
  · intro T
    obtain ⟨hnow, hmul⟩ := at_cycleAt s
    refine ⟨safetyCycle_idle fuel, fun halive hst => ?_, fun halive hst hinit hcall => ?_, fun halive hst hinit hcall hlate => ?_,
      fun halive hst hinit hcall htime => ?_⟩
    · obtain ⟨h1, h2, h3, h4, h5, h6⟩ := inputSteps_keep (s.at (cycleAt s)) (List.range 8)
      exact ⟨_, safetyCycle_inputs fuel halive hst, h1.trans hnow, hmul, h2, h3, h4, h5, h6⟩
    · obtain ⟨h1, h2, h3, h4, -⟩ := safStop_stops (s := s.at (cycleAt s)) 6 (Or.inl hst)
      exact ⟨_, (safetyCycle_runs fuel halive hst hinit).trans (congrArg _ (safCycle_overrun (s := s.at _) fuel hcall)), h1, h2, h3, h4⟩
    · obtain ⟨h1, h2, h3, -⟩ := safStop_stops (s := s.at (cycleAt s)) 2 (Or.inl hst)
      exact ⟨_, (safetyCycle_runs fuel halive hst hinit).trans
        (congrArg _ (safCycle_unserved (s := s.at _) fuel hcall (by rw [hnow]; exact hlate))), h1, h2, h3⟩
    · exact (safetyCycle_runs fuel halive hst hinit).trans
        (congrArg _ (safCycle_calls (s := s.at _) fuel hcall (by rw [hnow]; exact Nat.not_lt.mpr htime)))
  · intro p hp
    simp only [List.mem_cons, List.not_mem_nil, or_false] at hp
    rcases hp with rfl | rfl | rfl | rfl | rfl
    · exact fun hst => ⟨_, lockstep_stops halive, safStop_stops (s := s.modSaf _) 1 hst⟩
    · exact fun hst => ⟨_, supply_stops halive, safStop_stops (s := { s with boot := _ }) 5 hst⟩
    · exact fun h => ⟨_, safetyWatchdog_stops halive h.1 h.2, safStop_stops (s := s.at _) 2 (Or.inl h.1)⟩
    · exact fun h => ⟨_, initTimeout_stops halive h.1 h.2, safStop_stops (s := s.at _) 6 (Or.inl h.1)⟩
    · exact fun h => ⟨_, cycleOverrun_stops halive h.1 h.2, safStop_stops (s := s.at _) 6 (Or.inl h.1)⟩
  · exact ⟨_, (lockstep_stops halive).trans (congrArg _ (safStop_idle (s := s.modSaf _) 1 hst)), hst, rfl, rfl⟩
  · have hnow : (s.at (ceilDiv s.now 250000 * 250000)).now = ceilDiv s.now 250000 * 250000 :=
      Nat.max_eq_right (le_ceilDiv_mul s.now (by decide))
    refine ⟨_, frameSend_sends halive hst, ?_, ?_, ?_, fun hno => ?_, ?_, ?_⟩
    · exact (by simp : (driveSafety _).now = _).trans hnow
    · simp
    · simp
    · simp [hno, dedup]
    · simp
    · simp
  · refine ⟨driveSafety (unpermitted s), rfl, ?_, ?_, ?_, fun k hk => unpermitted_off s hk, ?_, ?_⟩ <;> simp [unpermitted]
  · intro n s x hsent hacts hst
    refine ⟨_, connectionWatchdog_fails hsent hacts hst, ?_⟩
    have hconn := State.safConn_setConn (s.at (x + connPar s n.val 3 * 1000000)) n.val { s.safConn n.val with
      state := 3, seq := 0, sentAt := none, data := [], fsv := true, rxAt := none, fails := (s.safConn n.val).fails + 1 }
    exact ⟨(congrArg SafConn.state hconn :), (congrArg SafConn.fsv hconn :), (congrArg SafConn.data hconn :),
      (congrArg SafConn.seq hconn :), rfl, fun j hj => State.safConn_setConn_ne _ _ _ _ hj⟩
  · intro i s x hdiff halive hused
    refine ⟨_, discrepancy_faults hdiff halive hused, ?_⟩
    beta_reduce
    rw [safInput_inputFault]
    exact ⟨rfl, rfl, rfl, fun j hj => safInput_inputFault_ne hj⟩
  · intro k dipped s
    refine ⟨fun hno => if_pos (by rw [hno]; simp), fun halive hpulse => ⟨_, testPulse_steps dipped halive hpulse, ?_⟩⟩
    obtain ⟨hregs, hmem⟩ := pulseSteps_keep s k.val dipped (List.range 8)
    refine ⟨hregs, hmem, fun i hi hused hown => ⟨fun hbad => pulseSteps_fault k.val dipped hi ?_,
      fun h1 h2 => pulseSteps_good k.val dipped (by simp [pulseFails, h1, h2])⟩⟩
    simpa [pulseFails, hused] using ⟨hown, hbad⟩
  · intro o ch s
    refine ⟨if_pos (by simp), fun halive hon => ⟨stoHeldOff s o.val, if_neg (by simp [halive, hon]), ?_, ?_, ?_⟩⟩
    · rw [stoHeldOff_sto]
    · rw [stoHeldOff_sto]
    · exact fun a ha hused hout hrun => stoHeldOff_faults ha hused hout hrun

end Sys2Proof.Machine
end

section
/-!
PROOF. CanControllers: states, frames, errors and requests of the CAN FD controllers (R510, R582 to R594).
-/
namespace Sys2Proof.Machine

@[simp] theorem canToBusOff_rest (s : State) (m : Nat) :
    (canToBusOff s m).now = s.now ∧ (canToBusOff s m).pending = s.pending ∧ (canToBusOff s m).draws = s.draws ∧
      (canToBusOff s m).rdata = s.rdata ∧ (canToBusOff s m).mem.code = s.mem.code ∧ (canToBusOff s m).mem.sram = s.mem.sram ∧
      (canToBusOff s m).mem.trace = s.mem.trace ∧ (canToBusOff s m).mem.fw = s.mem.fw ∧
      (canToBusOff s m).mem.flash = s.mem.flash ∧ (canToBusOff s m).units = s.units ∧ (canToBusOff s m).objs = s.objs ∧
      (canToBusOff s m).prog = s.prog ∧ (canToBusOff s m).img = s.img ∧ (canToBusOff s m).tsk = s.tsk ∧
      (canToBusOff s m).gz = s.gz ∧ (canToBusOff s m).nv = s.nv ∧ (canToBusOff s m).rtc = s.rtc ∧
      (canToBusOff s m).wdg = s.wdg ∧ (canToBusOff s m).frz = s.frz ∧ (canToBusOff s m).boot = s.boot ∧
      (canToBusOff s m).phr = s.phr ∧ (canToBusOff s m).lpe = s.lpe ∧ (canToBusOff s m).trc = s.trc ∧
      (canToBusOff s m).nrg = s.nrg ∧ (canToBusOff s m).hsb = s.hsb ∧ (canToBusOff s m).field = s.field ∧
      (canToBusOff s m).saf = s.saf ∧ (canToBusOff s m).jrn = s.jrn ∧ (canToBusOff s m).stations = s.stations ∧
      (canToBusOff s m).sent = s.sent := by
  unfold canToBusOff
  simp

@[simp] theorem canConfine_rest (s : State) (m : Nat) :
    (canConfine s m).now = s.now ∧ (canConfine s m).pending = s.pending ∧ (canConfine s m).draws = s.draws ∧
      (canConfine s m).rdata = s.rdata ∧ (canConfine s m).mem.code = s.mem.code ∧ (canConfine s m).mem.sram = s.mem.sram ∧
      (canConfine s m).mem.trace = s.mem.trace ∧ (canConfine s m).mem.fw = s.mem.fw ∧
      (canConfine s m).mem.flash = s.mem.flash ∧ (canConfine s m).units = s.units ∧ (canConfine s m).objs = s.objs ∧
      (canConfine s m).prog = s.prog ∧ (canConfine s m).img = s.img ∧ (canConfine s m).tsk = s.tsk ∧
      (canConfine s m).gz = s.gz ∧ (canConfine s m).nv = s.nv ∧ (canConfine s m).rtc = s.rtc ∧ (canConfine s m).wdg = s.wdg ∧
      (canConfine s m).frz = s.frz ∧ (canConfine s m).boot = s.boot ∧ (canConfine s m).phr = s.phr ∧
      (canConfine s m).lpe = s.lpe ∧ (canConfine s m).trc = s.trc ∧ (canConfine s m).nrg = s.nrg ∧
      (canConfine s m).hsb = s.hsb ∧ (canConfine s m).field = s.field ∧ (canConfine s m).saf = s.saf ∧
      (canConfine s m).jrn = s.jrn ∧ (canConfine s m).stations = s.stations ∧ (canConfine s m).sent = s.sent := by
  unfold canConfine
  simp

@[simp] theorem canError_rest (s : State) (m : Nat) (k : CanErr) (dataPhase : Bool) :
    (canError s m k dataPhase).now = s.now ∧ (canError s m k dataPhase).pending = s.pending ∧
      (canError s m k dataPhase).draws = s.draws ∧ (canError s m k dataPhase).rdata = s.rdata ∧
      (canError s m k dataPhase).mem = s.mem ∧ (canError s m k dataPhase).units = s.units ∧
      (canError s m k dataPhase).objs = s.objs ∧ (canError s m k dataPhase).prog = s.prog ∧
      (canError s m k dataPhase).img = s.img ∧ (canError s m k dataPhase).tsk = s.tsk ∧ (canError s m k dataPhase).gz = s.gz ∧
      (canError s m k dataPhase).evc = s.evc ∧ (canError s m k dataPhase).nv = s.nv ∧ (canError s m k dataPhase).rtc = s.rtc ∧
      (canError s m k dataPhase).wdg = s.wdg ∧ (canError s m k dataPhase).frz = s.frz ∧
      (canError s m k dataPhase).rcd = s.rcd ∧ (canError s m k dataPhase).boot = s.boot ∧
      (canError s m k dataPhase).phr = s.phr ∧ (canError s m k dataPhase).lpe = s.lpe ∧
      (canError s m k dataPhase).trc = s.trc ∧ (canError s m k dataPhase).nrg = s.nrg ∧
      (canError s m k dataPhase).hsb = s.hsb ∧ (canError s m k dataPhase).field = s.field ∧
      (canError s m k dataPhase).can = s.can ∧ (canError s m k dataPhase).saf = s.saf ∧
      (canError s m k dataPhase).jrn = s.jrn ∧ (canError s m k dataPhase).stations = s.stations ∧
      (canError s m k dataPhase).sent = s.sent := by
  unfold canError
  simp

@[simp] theorem canRetry_rest (s : State) (m b : Nat) :
    (canRetry s m b).now = s.now ∧ (canRetry s m b).pending = s.pending ∧ (canRetry s m b).draws = s.draws ∧
      (canRetry s m b).rdata = s.rdata ∧ (canRetry s m b).mem = s.mem ∧ (canRetry s m b).units = s.units ∧
      (canRetry s m b).objs = s.objs ∧ (canRetry s m b).prog = s.prog ∧ (canRetry s m b).img = s.img ∧
      (canRetry s m b).tsk = s.tsk ∧ (canRetry s m b).gz = s.gz ∧ (canRetry s m b).nv = s.nv ∧ (canRetry s m b).rtc = s.rtc ∧
      (canRetry s m b).wdg = s.wdg ∧ (canRetry s m b).frz = s.frz ∧ (canRetry s m b).rcd = s.rcd ∧
      (canRetry s m b).boot = s.boot ∧ (canRetry s m b).phr = s.phr ∧ (canRetry s m b).lpe = s.lpe ∧
      (canRetry s m b).trc = s.trc ∧ (canRetry s m b).nrg = s.nrg ∧ (canRetry s m b).hsb = s.hsb ∧
      (canRetry s m b).field = s.field ∧ (canRetry s m b).saf = s.saf ∧ (canRetry s m b).jrn = s.jrn ∧
      (canRetry s m b).stations = s.stations ∧ (canRetry s m b).sent = s.sent := by
  unfold canRetry
  simp

@[simp] theorem intoFifo_rest (s : State) (m : Nat) (f : CanFrame) :
    (intoFifo s m f).now = s.now ∧ (intoFifo s m f).pending = s.pending ∧ (intoFifo s m f).draws = s.draws ∧
      (intoFifo s m f).rdata = s.rdata ∧ (intoFifo s m f).mem = s.mem ∧ (intoFifo s m f).units = s.units ∧
      (intoFifo s m f).objs = s.objs ∧ (intoFifo s m f).prog = s.prog ∧ (intoFifo s m f).img = s.img ∧
      (intoFifo s m f).tsk = s.tsk ∧ (intoFifo s m f).gz = s.gz ∧ (intoFifo s m f).nv = s.nv ∧ (intoFifo s m f).rtc = s.rtc ∧
      (intoFifo s m f).wdg = s.wdg ∧ (intoFifo s m f).frz = s.frz ∧ (intoFifo s m f).rcd = s.rcd ∧
      (intoFifo s m f).boot = s.boot ∧ (intoFifo s m f).phr = s.phr ∧ (intoFifo s m f).lpe = s.lpe ∧
      (intoFifo s m f).trc = s.trc ∧ (intoFifo s m f).nrg = s.nrg ∧ (intoFifo s m f).hsb = s.hsb ∧
      (intoFifo s m f).field = s.field ∧ (intoFifo s m f).saf = s.saf ∧ (intoFifo s m f).jrn = s.jrn ∧
      (intoFifo s m f).stations = s.stations ∧ (intoFifo s m f).sent = s.sent := by
  unfold intoFifo
  split <;> simp

@[simp] theorem canSentOut_rest (s : State) (m : Nat) (f : CanFrame) :
    (canSentOut s m f).now = s.now ∧ (canSentOut s m f).pending = s.pending ∧ (canSentOut s m f).draws = s.draws ∧
      (canSentOut s m f).rdata = s.rdata ∧ (canSentOut s m f).mem = s.mem ∧ (canSentOut s m f).units = s.units ∧
      (canSentOut s m f).objs = s.objs ∧ (canSentOut s m f).prog = s.prog ∧ (canSentOut s m f).img = s.img ∧
      (canSentOut s m f).tsk = s.tsk ∧ (canSentOut s m f).gz = s.gz ∧ (canSentOut s m f).nv = s.nv ∧
      (canSentOut s m f).rtc = s.rtc ∧ (canSentOut s m f).wdg = s.wdg ∧ (canSentOut s m f).frz = s.frz ∧
      (canSentOut s m f).rcd = s.rcd ∧ (canSentOut s m f).boot = s.boot ∧ (canSentOut s m f).phr = s.phr ∧
      (canSentOut s m f).lpe = s.lpe ∧ (canSentOut s m f).trc = s.trc ∧ (canSentOut s m f).nrg = s.nrg ∧
      (canSentOut s m f).hsb = s.hsb ∧ (canSentOut s m f).field = s.field ∧ (canSentOut s m f).saf = s.saf ∧
      (canSentOut s m f).jrn = s.jrn ∧ (canSentOut s m f).stations = s.stations := by
  unfold canSentOut
  simp

@[simp] theorem dropPart_rest (s : State) (m node : Nat) :
    (dropPart s m node).now = s.now ∧ (dropPart s m node).pending = s.pending ∧ (dropPart s m node).draws = s.draws ∧
      (dropPart s m node).rdata = s.rdata ∧ (dropPart s m node).mem = s.mem ∧ (dropPart s m node).units = s.units ∧
      (dropPart s m node).objs = s.objs ∧ (dropPart s m node).prog = s.prog ∧ (dropPart s m node).img = s.img ∧
      (dropPart s m node).tsk = s.tsk ∧ (dropPart s m node).gz = s.gz ∧ (dropPart s m node).evc = s.evc ∧
      (dropPart s m node).nv = s.nv ∧ (dropPart s m node).rtc = s.rtc ∧ (dropPart s m node).wdg = s.wdg ∧
      (dropPart s m node).frz = s.frz ∧ (dropPart s m node).rcd = s.rcd ∧ (dropPart s m node).boot = s.boot ∧
      (dropPart s m node).phr = s.phr ∧ (dropPart s m node).lpe = s.lpe ∧ (dropPart s m node).trc = s.trc ∧
      (dropPart s m node).nrg = s.nrg ∧ (dropPart s m node).hsb = s.hsb ∧ (dropPart s m node).field = s.field ∧
      (dropPart s m node).saf = s.saf ∧ (dropPart s m node).jrn.phase = s.jrn.phase ∧
      (dropPart s m node).stations = s.stations ∧ (dropPart s m node).sent = s.sent := by
  unfold dropPart
  simp

@[simp] theorem recDown_rest (s : State) (m : Nat) :
    (recDown s m).now = s.now ∧ (recDown s m).pending = s.pending ∧ (recDown s m).rdata = s.rdata ∧ (recDown s m).mem = s.mem ∧
      (recDown s m).units = s.units ∧ (recDown s m).objs = s.objs ∧ (recDown s m).prog = s.prog ∧ (recDown s m).img = s.img ∧
      (recDown s m).tsk = s.tsk ∧ (recDown s m).gz = s.gz ∧ (recDown s m).evc = s.evc ∧ (recDown s m).nv = s.nv ∧
      (recDown s m).rtc = s.rtc ∧ (recDown s m).wdg = s.wdg ∧ (recDown s m).frz = s.frz ∧ (recDown s m).rcd = s.rcd ∧
      (recDown s m).boot = s.boot ∧ (recDown s m).phr = s.phr ∧ (recDown s m).lpe = s.lpe ∧ (recDown s m).trc = s.trc ∧
      (recDown s m).nrg = s.nrg ∧ (recDown s m).hsb = s.hsb ∧ (recDown s m).field = s.field ∧ (recDown s m).can = s.can ∧
      (recDown s m).saf = s.saf ∧ (recDown s m).jrn = s.jrn ∧ (recDown s m).stations = s.stations ∧ (recDown s m).sent = s.sent := by
  unfold recDown
  dsimp only
  split <;> simp [State.drawWord]

/-! ### The registers of a controller -/

/-- A field in a register that a controller's events leave. -/
def Quiet (m : Nat) (g : Fld) : Prop := g.addr ≠ CAN_EVT m ∧ g.addr < recorderRegs

theorem quiet_state {m : Nat} (hm : m < 2) : Quiet m (CAN_STAT_STATE m) := by
  simp only [Quiet, CAN_STAT_STATE, CAN_STAT, CAN_EVT, recorderRegs]
  omega

theorem quiet_tec {m : Nat} (hm : m < 2) : Quiet m (CAN_STAT_TEC m) := quiet_state hm

theorem quiet_rec {m : Nat} (hm : m < 2) : Quiet m (CAN_STAT_REC m) := quiet_state hm

theorem quiet_lec {m : Nat} (hm : m < 2) : Quiet m (CAN_ERR_LEC m) := by
  simp only [Quiet, CAN_ERR_LEC, CAN_ERR, CAN_EVT, recorderRegs]
  omega

theorem quiet_req {m b : Nat} (hm : m < 2) (hb : b < 3) : Quiet m (CAN_TXCTRL_REQ m b) := by
  simp only [Quiet, CAN_TXCTRL_REQ, CAN_TXCTRL, canBuf, CAN_EVT, recorderRegs]
  split <;> omega

theorem quiet_result {m b : Nat} (hm : m < 2) (hb : b < 3) : Quiet m (CAN_TXSTAT_RESULT m b) := by
  simp only [Quiet, CAN_TXSTAT_RESULT, CAN_TXSTAT, canBuf, CAN_EVT, recorderRegs]
  split <;> omega

theorem txstat_ne_txctrl (m b c : Nat) : CAN_TXSTAT m b ≠ CAN_TXCTRL m c := by
  simp only [CAN_TXSTAT, CAN_TXCTRL, canBuf]
  split <;> split <;> omega

theorem txstat_ne {m b c : Nat} (hb : b < 3) (hc : c < 3) (h : b ≠ c) : CAN_TXSTAT m b ≠ CAN_TXSTAT m c := by
  simp only [CAN_TXSTAT, canBuf]
  split <;> split <;> omega

theorem stat_ne_buf {m b k : Nat} : CAN_STAT m ≠ canBuf m b + k := by
  simp only [CAN_STAT, canBuf]
  split <;> omega

theorem fld_of_quiet {s t : State} {m : Nat} {g : Fld} (hq : Quiet m g)
    (h : ∀ a, a ≠ CAN_EVT m → a < recorderRegs → t.reg a = s.reg a) : t.fld g = s.fld g :=
  fld_of_reg (h _ hq.1 hq.2)

/-- A controller's event changes no register but its event flags'. -/
theorem canFlag_reg {s : State} {m b a : Nat} (h1 : a ≠ CAN_EVT m) (h2 : a < recorderRegs) : (canFlag s m b).reg a = s.reg a := by
  unfold canFlag
  split
  · rfl
  · dsimp only
    split
    · exact (raise_reg h2).trans (reg_setFld_ne _ _ _ _ h1)
    · exact reg_setFld_ne _ _ _ _ h1

theorem canFlag_fld {s : State} {m b : Nat} {g : Fld} (hq : Quiet m g) : (canFlag s m b).fld g = s.fld g :=
  fld_of_quiet hq fun _ h1 h2 => canFlag_reg h1 h2

/-! ### States and error counters -/

theorem canState_canSetState {s : State} {m st : Nat} (hm : m < 2) (hst : st < 8) : canState (canSetState s m st) m = st := by
  unfold canSetState
  split
  · assumption
  · exact (canFlag_fld (quiet_state hm)).trans
      ((fld_setFld_same s (CAN_STAT_STATE m) st (show 25 ≤ 27 by decide) (show 27 < 32 by decide)).trans (Nat.mod_eq_of_lt hst))

theorem canSetState_tec {s : State} {m st : Nat} (hm : m < 2) : (canSetState s m st).fld (CAN_STAT_TEC m) = s.fld (CAN_STAT_TEC m) := by
  unfold canSetState
  split
  · rfl
  · exact (canFlag_fld (quiet_tec hm)).trans (fld_setFld_apart _ _ _ _ (by simp [Fld.Apart, CAN_STAT_STATE, CAN_STAT_TEC]))

theorem canSetState_rec {s : State} {m st : Nat} (hm : m < 2) : (canSetState s m st).fld (CAN_STAT_REC m) = s.fld (CAN_STAT_REC m) := by
  unfold canSetState
  split
  · rfl
  · exact (canFlag_fld (quiet_rec hm)).trans (fld_setFld_apart _ _ _ _ (by simp [Fld.Apart, CAN_STAT_STATE, CAN_STAT_REC]))

theorem canSetState_reg {s : State} {m st a : Nat} (h1 : a ≠ CAN_EVT m) (h2 : a < recorderRegs) (h3 : a ≠ CAN_STAT m) :
    (canSetState s m st).reg a = s.reg a := by
  unfold canSetState
  split
  · rfl
  · exact (canFlag_reg h1 h2).trans (reg_setFld_ne _ _ _ _ h3)

theorem canOnline_of_active {s : State} {m : Nat} (h : canState s m = canActive) : canOnline s m = true := by
  simp [canOnline, h]

/-- Below 128 in both counters an online controller is ERROR-ACTIVE. -/
theorem canConfine_active {s : State} {m : Nat} (hon : canOnline s m = true) (htec : s.fld (CAN_STAT_TEC m) < 128)
    (hrec : s.fld (CAN_STAT_REC m) < 128) : canConfine s m = canSetState s m canActive := by
  unfold canConfine
  rw [if_neg (by simp [hon]), if_neg (by omega), if_neg (by omega)]

/-- Below 256 errors sent the controller does not go off the bus. -/
theorem canConfine_stays {s : State} {m : Nat} (htec : s.fld (CAN_STAT_TEC m) < 256) :
    canConfine s m = s ∨ ∃ st, canConfine s m = canSetState s m st := by
  unfold canConfine
  split
  · exact Or.inl rfl
  · rw [if_neg (by omega)]
    split
    · exact Or.inr ⟨_, rfl⟩
    · exact Or.inr ⟨_, rfl⟩

/-- What an error confinement that stays on the bus keeps: the requests, their results and what is on the bus. -/
theorem canConfine_keeps {s : State} {m : Nat} (htec : s.fld (CAN_STAT_TEC m) < 256) :
    (canConfine s m).can = s.can ∧ (canConfine s m).sent = s.sent ∧
      ∀ a, a ≠ CAN_EVT m → a < recorderRegs → a ≠ CAN_STAT m → (canConfine s m).reg a = s.reg a := by
  rcases canConfine_stays htec with h | ⟨st, h⟩ <;> rw [h]
  · exact ⟨rfl, rfl, fun _ _ _ _ => rfl⟩
  · exact ⟨by simp, by simp, fun _ h1 h2 h3 => canSetState_reg h1 h2 h3⟩

/-! ### Requests -/

theorem canPending_canResult (s : State) (m b c r : Nat) : canPending (canResult s m c r) m b = canPending s m b :=
  flag_of_reg (reg_setFld_ne _ _ _ _ (txstat_ne_txctrl m c b).symm)

theorem canPending_setCanst (s : State) (m j b : Nat) (x : CanSt) : canPending (s.setCanst j x) m b = canPending s m b := rfl

/-- The buffer that goes on the bus next is one of the three, and pending. -/
theorem canSelection_pending {s : State} {m b : Nat} (h : canSelection s m = some b) : b < 3 ∧ canPending s m b = true := by
  have hmem {x : Nat} (hx : x ∈ (List.range 3).filter (canPending s m)) : x < 3 ∧ canPending s m x = true :=
    ⟨List.mem_range.mp (List.mem_of_mem_filter hx), List.of_mem_filter hx⟩
  unfold canSelection at h
  dsimp only at h
  split at h
  · exact hmem (List.mem_of_mem_head? h)
  · refine (List.foldlRecOn ((List.range 3).filter (canPending s m)) _
      (motive := fun acc : Option (Nat × Nat) => ∀ x, acc.map (·.2) = some x → x < 3 ∧ canPending s m x = true)
      (fun x hx => by simp at hx) (fun acc hacc i hi x hx => ?_)) b h
    split at hx
    · simp only [Option.map_some, Option.some.injEq] at hx
      exact hx ▸ hmem hi
    · split at hx
      · simp only [Option.map_some, Option.some.injEq] at hx
        exact hx ▸ hmem hi
      · exact hacc x hx

theorem canSelect_cases (s : State) (m : Nat) : canSelect s m = s ∨
    ∃ b x, b < 3 ∧ canPending s m b = true ∧ canSelect s m = canResult (s.setCanst m x) m b 2 := by
  unfold canSelect
  dsimp only
  split
  · exact Or.inl rfl
  · split
    · exact Or.inl rfl
    · next b hsel => exact Or.inr ⟨b, _, (canSelection_pending hsel).1, (canSelection_pending hsel).2, rfl⟩

theorem canSelect_pending (s : State) (m b : Nat) : canPending (canSelect s m) m b = canPending s m b := by
  rcases canSelect_cases s m with h | ⟨c, x, -, -, h⟩ <;> rw [h]
  rw [canPending_canResult, canPending_setCanst]

theorem canSelect_reg {s : State} {m a : Nat} (h : ∀ b, b < 3 → a ≠ CAN_TXSTAT m b) : (canSelect s m).reg a = s.reg a := by
  rcases canSelect_cases s m with h' | ⟨c, x, hc, -, h'⟩ <;> rw [h']
  exact reg_setFld_ne _ _ _ _ (h c hc)

/-- A request that is not pending keeps its result when the next is selected. -/
theorem canSelect_result {s : State} {m b : Nat} (hb : b < 3) (h : canPending s m b = false) :
    (canSelect s m).fld (CAN_TXSTAT_RESULT m b) = s.fld (CAN_TXSTAT_RESULT m b) := by
  rcases canSelect_cases s m with h' | ⟨c, x, hc, hp, h'⟩ <;> rw [h']
  have hne : b ≠ c := by rintro rfl; simp [h] at hp
  exact fld_of_reg (reg_setFld_ne _ _ _ _ (txstat_ne hb hc hne))

theorem canEnd_says {s : State} {m b r : Nat} (hm : m < 2) (hb : b < 3) (hr : r < 8) :
    canPending (canEnd s m b r) m b = false ∧ (canEnd s m b r).fld (CAN_TXSTAT_RESULT m b) = r := by
  unfold canEnd
  dsimp only
  constructor
  · refine (congrArg (· != 0) (canFlag_fld (quiet_req hm hb))).trans ?_
    refine (canPending_canResult _ m b b r).trans ?_
    exact flag_setFlag_same _ (CAN_TXCTRL_REQ m b) false (show 9 ≤ 9 by decide) (show 9 < 32 by decide)
  · refine (canFlag_fld (quiet_result hm hb)).trans ?_
    exact (fld_setFld_same _ (CAN_TXSTAT_RESULT m b) r (show 0 ≤ 2 by decide) (show 2 < 32 by decide)).trans (Nat.mod_eq_of_lt hr)

theorem canst_of_can {s t : State} (h : t.can = s.can) (m : Nat) : t.canst m = s.canst m := by
  simp only [State.canst, h]

theorem canEnd_jq (s : State) (m b r : Nat) : ((canEnd s m b r).canst m).jq = (s.canst m).jq := by
  have hcan : (canEnd s m b r).can = (s.setCanst m { s.canst m with
      onBus := if (s.canst m).onBus = some b then none else (s.canst m).onBus, abort := (s.canst m).abort.del b }).can := by
    simp [canEnd]
  rw [canst_of_can hcan, State.canst_setCanst]

theorem canEnd_sent (s : State) (m b r : Nat) : (canEnd s m b r).sent = s.sent := by simp

/-! ### Received frames -/

theorem intoFifo_none {s : State} {m : Nat} {f : CanFrame} (h : filterOf s m f = none) : intoFifo s m f = s := by
  simp [intoFifo, h]

theorem intoFifo_takes {s : State} {m n : Nat} {f : CanFrame} (h : filterOf s m f = some n) (hroom : (s.canst m).fifo.length < 32) :
    ((intoFifo s m f).canst m).fifo = (s.canst m).fifo ++ [{ frame := f, filter := n, time := s.now }] := by
  have hcan : (intoFifo s m f).can = (s.setCanst m { s.canst m with
      fifo := (s.canst m).fifo ++ [{ frame := f, filter := n, time := s.now }] }).can := by
    simp [intoFifo, h, Nat.not_le.mpr hroom]
  rw [canst_of_can hcan, State.canst_setCanst]

theorem intoFifo_full {s : State} {m n : Nat} {f : CanFrame} (h : filterOf s m f = some n) (hfull : 32 ≤ (s.canst m).fifo.length) :
    ((intoFifo s m f).canst m).fifo = (s.canst m).fifo := by
  have hcan : (intoFifo s m f).can = s.can := by simp [intoFifo, h, hfull]
  rw [canst_of_can hcan]

/-- A frame that is not Jurno's goes through the filters, after the error counter went down. -/
theorem frameReceived_filters {c : Fin 2} {f : CanFrame} {s : State} (hhalt : canHalted s = false) (hon : canOnline s c.val = true)
    (hfd : f.fdf = false ∨ s.flag (CAN_CTRL_FDEN c.val) = true)
    (hother : forJurno (canConfine (recDown s c.val) c.val) c.val (storedFrame f) = false) :
    exec (.canFrameReceived c f) s = .next (intoFifo (canConfine (recDown s c.val) c.val) c.val (storedFrame f)) :=
  (if_neg (by simp [hhalt, hon])).trans ((if_neg (by rcases hfd with h | h <;> simp [h])).trans (if_pos (by rw [hother]; rfl)))

/-! ### Received errors -/

/-- A receiver's error in the counters, before the state follows. -/
def receiveError (s : State) (m : Nat) (k : CanErr) (d : Bool) : State := (canError s m k d).count (CAN_STAT_REC m) 255 1

theorem canLec_lt (k : CanErr) : canLec k < 8 := by cases k <;> decide

theorem stat_ne_err (m : Nat) : CAN_STAT m ≠ CAN_ERR m := by simp only [CAN_STAT, CAN_ERR]; omega

theorem canError_stat {s : State} {m : Nat} (k : CanErr) (d : Bool) : (canError s m k d).reg (CAN_STAT m) = s.reg (CAN_STAT m) :=
  (reg_setFld_ne _ (CAN_ERR_DPHASE m) _ _ (stat_ne_err m)).trans
    ((reg_setFld_ne _ (CAN_ERR_LEC m) _ _ (stat_ne_err m)).trans (reg_setFld_ne _ (CAN_ERR_COUNT m) _ _ (stat_ne_err m)))

theorem receiveError_counts {s : State} {m : Nat} (k : CanErr) (d : Bool) (hrec : s.fld (CAN_STAT_REC m) < 127) :
    (receiveError s m k d).fld (CAN_STAT_REC m) = s.fld (CAN_STAT_REC m) + 1 := by
  have hkept : (canError s m k d).fld (CAN_STAT_REC m) = s.fld (CAN_STAT_REC m) := fld_of_reg (canError_stat k d)
  refine (fld_setFld_same _ (CAN_STAT_REC m) _ (show 8 ≤ 15 by decide) (show 15 < 32 by decide)).trans ?_
  rw [hkept, holdAt, if_pos (by omega)]
  exact Nat.mod_eq_of_lt (show _ < 2 ^ 8 by omega)

theorem receiveError_stat {s : State} {m : Nat} (k : CanErr) (d : Bool) {g : Fld} (haddr : g.addr = CAN_STAT m)
    (hapart : (CAN_STAT_REC m).Apart g) : (receiveError s m k d).fld g = s.fld g :=
  (fld_setFld_apart _ _ _ _ hapart).trans (fld_of_reg (by rw [haddr]; exact canError_stat k d))

theorem receiveError_err {s : State} {m : Nat} (k : CanErr) (d : Bool) :
    (receiveError s m k d).fld (CAN_ERR_LEC m) = canLec k ∧ (receiveError s m k d).flag (CAN_ERR_DPHASE m) = d := by
  have hkept : (receiveError s m k d).reg (CAN_ERR m) = (canError s m k d).reg (CAN_ERR m) :=
    reg_setFld_ne _ (CAN_STAT_REC m) _ _ (stat_ne_err m).symm
  constructor
  · refine (fld_of_reg (f := CAN_ERR_LEC m) hkept).trans ?_
    refine (fld_setFlag_apart _ (CAN_ERR_DPHASE m) (CAN_ERR_LEC m) d
      (by simp [Fld.Apart, CAN_ERR_DPHASE, CAN_ERR_LEC])).trans ?_
    exact (fld_setFld_same _ (CAN_ERR_LEC m) _ (show 0 ≤ 2 by decide) (show 2 < 32 by decide)).trans (Nat.mod_eq_of_lt (canLec_lt k))
  · refine (flag_of_reg (f := CAN_ERR_DPHASE m) hkept).trans ?_
    exact flag_setFlag_same _ (CAN_ERR_DPHASE m) d (show 7 ≤ 7 by decide) (show 7 < 32 by decide)

theorem quiet_err {m : Nat} (hm : m < 2) : CAN_ERR m ≠ CAN_EVT m ∧ CAN_ERR m < recorderRegs := quiet_lec hm

/-! ### Attempts -/

theorem canTdc_lost (s : State) (m b v : Nat) : canTdc s m b .lost v = (s, .lost) := by
  simp [canTdc]

/-- A sent frame whose delay is not out of range stays sent, with the delay that it measured. -/
theorem canTdc_sent {s : State} {m b v : Nat} (h : s.flag (CAN_TDC_TDCEN m) = false ∨ v < 128) :
    canTdc s m b .sent v = (s, .sent) ∨ canTdc s m b .sent v = (s.setFld (CAN_TDC_TDCV m) v, .sent) := by
  unfold canTdc
  dsimp only
  split
  · next hreached =>
    have hv : ¬127 < v := by
      rcases h with h | h
      · simp [h] at hreached
      · omega
    rw [if_neg hv]
    exact Or.inr rfl
  · exact Or.inl rfl

/-- An attempt that is counted. -/
def attempted (s : State) (m b : Nat) : State := s.count (CAN_TXSTAT_ATTEMPTS m b) 255 1

theorem attempted_reg {s : State} {m b a : Nat} (h : a ≠ CAN_TXSTAT m b) : (attempted s m b).reg a = s.reg a :=
  reg_setFld_ne _ _ _ _ h

theorem attemptEnd_begins {c : Fin 2} {b : Fin 3} {s : State} (hhalt : canHalted s = false) (hon : canOnline s c.val = true)
    (hbus : (s.canst c.val).onBus = some b.val) :
    ¬(canHalted s || (s.canst c.val).onBus != some b.val || !canOnline s c.val) = true := by
  simp [hhalt, hon, hbus]

/-- A frame that left, with the counter down: what the controller then is, before its next request. -/
def sentState (s : State) (m b : Nat) : State :=
  (canSentOut s m (canFrameOf s m b)).setFld (CAN_STAT_TEC m) ((canSentOut s m (canFrameOf s m b)).fld (CAN_STAT_TEC m) - 1)

theorem attemptEnd_sent {c : Fin 2} {b : Fin 3} {v : Byte} {s u : State} (hhalt : canHalted s = false)
    (hon : canOnline s c.val = true) (hbus : (s.canst c.val).onBus = some b.val)
    (htdc : canTdc (attempted s c.val b.val) c.val b.val .sent v.toNat = (u, .sent)) :
    exec (.canTxAttemptEnd c b .sent v) s = .next (canSelect (canJurnoNext (canEnd (canConfine (sentState u c.val b.val) c.val)
      c.val b.val 3) c.val ((canEnd (canConfine (sentState u c.val b.val) c.val) c.val b.val 3).canst c.val).jq.length) c.val) := by
  show execCanTxAttemptEnd c b .sent v s = _
  rw [execCanTxAttemptEnd, if_neg (attemptEnd_begins hhalt hon hbus)]
  dsimp only [canAcked]
  rw [← attempted, htdc]
  rfl

theorem attemptEnd_lost {c : Fin 2} {b : Fin 3} {v : Byte} {s : State} (hhalt : canHalted s = false)
    (hon : canOnline s c.val = true) (hbus : (s.canst c.val).onBus = some b.val) :
    exec (.canTxAttemptEnd c b .lost v) s = .next (canSelect (canJurnoNext (canRetry (attempted s c.val b.val) c.val b.val) c.val
      ((attempted s c.val b.val).canst c.val).jq.length) c.val) := by
  show execCanTxAttemptEnd c b .lost v s = _
  rw [execCanTxAttemptEnd, if_neg (attemptEnd_begins hhalt hon hbus)]
  dsimp only [canAcked]
  rw [← attempted, canTdc_lost]

/-- What a frame is made of: its buffer's registers and the controller's state. -/
theorem canFrameOf_congr {s t : State} {m b : Nat} (hbuf : ∀ k, k < 0x60 → k ≠ 8 → t.reg (canBuf m b + k) = s.reg (canBuf m b + k))
    (hstat : t.reg (CAN_STAT m) = s.reg (CAN_STAT m)) : canFrameOf t m b = canFrameOf s m b := by
  have hid : t.reg (CAN_TXID m b) = s.reg (CAN_TXID m b) := hbuf 4 (by decide) (by decide)
  have hdlc : t.fld (CAN_TXCTRL_DLC m b) = s.fld (CAN_TXCTRL_DLC m b) := fld_of_reg (hbuf 0 (by decide) (by decide))
  have hst : canState t m = canState s m := fld_of_reg hstat
  have hdata : (List.range 16).flatMap (fun i => toLE 4 (t.reg (CAN_TXDATA m b i)).toNat) =
      (List.range 16).flatMap fun i => toLE 4 (s.reg (CAN_TXDATA m b i)).toNat := by
    refine List.flatMap_congr fun i hi => ?_
    rw [CAN_TXDATA, Nat.add_assoc, hbuf _ (by have := List.mem_range.mp hi; omega) (by omega)]
  unfold canFrameOf
  rw [hid, hdlc, hst, hdata]

/-- What counts of a buffer's attempt, once its delay is in. -/
theorem canSentOut_stat {s : State} {m : Nat} (f : CanFrame) (hm : m < 2) :
    (canSentOut s m f).reg (CAN_STAT m) = s.reg (CAN_STAT m) := by
  obtain ⟨h1, h2⟩ := quiet_state hm
  unfold canSentOut
  split
  · split
    · rfl
    · unfold intoFifo
      split
      · rfl
      · dsimp only
        split
        · exact (canFlag_reg h1 h2).trans (count32_reg (by simp only [CAN_STAT_STATE, CAN_STAT, CAN_RXOVF]; omega))
        · exact canFlag_reg h1 h2
  · rfl

theorem canSentOut_jq (s : State) (m : Nat) (f : CanFrame) : ((canSentOut s m f).canst m).jq = (s.canst m).jq := by
  unfold canSentOut
  split
  · split
    · rfl
    · cases hn : filterOf s m f with
      | none => rw [intoFifo_none hn]
      | some n =>
        by_cases hfull : 32 ≤ (s.canst m).fifo.length
        · have hcan : (intoFifo s m f).can = s.can := by simp [intoFifo, hn, hfull]
          rw [canst_of_can hcan]
        · have hcan : (intoFifo s m f).can = (s.setCanst m { s.canst m with
              fifo := (s.canst m).fifo ++ [{ frame := f, filter := n, time := s.now }] }).can := by
            simp [intoFifo, hn, hfull]
          rw [canst_of_can hcan, State.canst_setCanst]
  · rfl

theorem sentState_tec {s : State} {m b : Nat} (hm : m < 2) (h : s.fld (CAN_STAT_TEC m) < 256) :
    (sentState s m b).fld (CAN_STAT_TEC m) < 256 := by
  have hkept : (canSentOut s m (canFrameOf s m b)).fld (CAN_STAT_TEC m) = s.fld (CAN_STAT_TEC m) :=
    fld_of_reg (canSentOut_stat _ hm)
  have hread : (sentState s m b).fld (CAN_STAT_TEC m) = _ :=
    fld_setFld_same _ (CAN_STAT_TEC m) _ (show 16 ≤ 24 by decide) (show 24 < 32 by decide)
  rw [hread, hkept]
  exact (Nat.mod_le _ _).trans_lt (by omega)

theorem sentState_sent (s : State) (m b : Nat) :
    (canLoops s m = false → .can m (canFrameOf s m b) ∈ (sentState s m b).sent) ∧
      (canLoops s m = true → (sentState s m b).sent = s.sent) := by
  constructor
  · intro h
    simp [sentState, canSentOut, h, State.send]
  · intro h
    simp only [sentState, canSentOut, h, ite_true]
    split <;> simp

/-- A frame that has been sent ends its request with RESULT 3, on the bus but in internal loopback (R583, R590). -/
theorem sent_ends {s u : State} {m b : Nat} (hm : m < 2) (hb : b < 3) (hjq : (u.canst m).jq = []) (htec : u.fld (CAN_STAT_TEC m) < 256)
    (hsent : u.sent = s.sent) (hframe : canFrameOf u m b = canFrameOf s m b) (hloops : canLoops u m = canLoops s m) :
    let t := canSelect (canJurnoNext (canEnd (canConfine (sentState u m b) m) m b 3) m
      ((canEnd (canConfine (sentState u m b) m) m b 3).canst m).jq.length) m
    canPending t m b = false ∧ t.fld (CAN_TXSTAT_RESULT m b) = 3 ∧
      (canLoops s m = false → .can m (canFrameOf s m b) ∈ t.sent) ∧ (canLoops s m = true → t.sent = s.sent) := by
  obtain ⟨hcan, hkept, -⟩ := canConfine_keeps (sentState_tec (b := b) hm htec)
  have hjqs : ((canEnd (canConfine (sentState u m b) m) m b 3).canst m).jq = [] := by
    rw [canEnd_jq, canst_of_can hcan]
    exact (canSentOut_jq u m _).trans hjq
  obtain ⟨hp, hr⟩ := canEnd_says (s := canConfine (sentState u m b) m) hm hb (show 3 < 8 by decide)
  obtain ⟨hout, hloop⟩ := sentState_sent u m b
  rw [hframe, hloops] at hout
  rw [hloops] at hloop
  intro t
  have ht : t = canSelect (canEnd (canConfine (sentState u m b) m) m b 3) m := by
    simp only [t, hjqs]
    rfl
  have hall : t.sent = (sentState u m b).sent := by rw [ht]; simp
  exact ⟨by rw [ht, canSelect_pending, hp], by rw [ht, canSelect_result hb hp, hr], fun h => hall ▸ hout h,
    fun h => hall.trans ((hloop h).trans hsent)⟩

/-- What the attempt's count and the measured delay leave for the frame and its request. -/
theorem attempt_keeps {c : Fin 2} {b : Fin 3} {v : Byte} {s u : State} (h : s.flag (CAN_TDC_TDCEN c.val) = false ∨ v.toNat < 128)
    (hu : canTdc (attempted s c.val b.val) c.val b.val .sent v.toNat = (u, .sent)) :
    u.can = s.can ∧ u.sent = s.sent ∧ ∀ a, a ≠ CAN_TXSTAT c.val b.val → a ≠ CAN_TDC c.val → u.reg a = s.reg a := by
  have hflag : (attempted s c.val b.val).flag (CAN_TDC_TDCEN c.val) = s.flag (CAN_TDC_TDCEN c.val) :=
    flag_of_reg (attempted_reg (by simp only [CAN_TDC_TDCEN, CAN_TDC, CAN_TXSTAT, canBuf]; split <;> omega))
  rcases canTdc_sent (b := b.val) (hflag ▸ h) with h' | h' <;> rw [h'] at hu <;> obtain ⟨rfl, -⟩ := Prod.mk.inj hu
  · exact ⟨rfl, rfl, fun _ h1 _ => attempted_reg h1⟩
  · exact ⟨rfl, rfl, fun _ h1 h2 => (reg_setFld_ne _ _ _ _ h2).trans (attempted_reg h1)⟩

theorem attempted_keeps (s : State) (m b : Nat) : (attempted s m b).can = s.can ∧ (attempted s m b).sent = s.sent ∧
    canPending (attempted s m b) m b = canPending s m b ∧
    (attempted s m b).flag (CAN_TXCTRL_SINGLE m b) = s.flag (CAN_TXCTRL_SINGLE m b) :=
  ⟨rfl, rfl, flag_of_reg (attempted_reg (txstat_ne_txctrl m b b).symm), flag_of_reg (attempted_reg (txstat_ne_txctrl m b b).symm)⟩

/-- An attempt that lost arbitration leaves its request pending (R584). -/
theorem canRetry_again {s : State} {m b : Nat} (hp : canPending s m b = true) (habort : b ∉ (s.canst m).abort)
    (hsingle : s.flag (CAN_TXCTRL_SINGLE m b) = false) :
    canPending (canRetry s m b) m b = true ∧ (canRetry s m b).sent = s.sent := by
  rw [canRetry, if_neg (by simp [hp]), if_neg (by simpa using habort), if_neg (by simp [hsingle])]
  exact ⟨(canPending_canResult _ m b b 1).trans hp, rfl⟩

theorem canRetry_aborted {s : State} {m b : Nat} (hp : canPending s m b = true) (habort : b ∈ (s.canst m).abort) :
    canRetry s m b = canEnd s m b 4 := by
  rw [canRetry, if_neg (by simp [hp]), if_pos (by simpa using habort)]

/-! ### Partial messages -/

theorem segmentTimeout_drops {c : Fin 2} {node : BitVec 7} {s : State} {e : Nat × CanPart} (hhalt : canHalted s = false)
    (hpart : (s.canst c.val).parts.find? (fun e => e.1 == node.toNat) = some e) :
    exec (.canSegmentTimeout c node) s = .next (dropPart (s.at (e.2.at_ + 100000000)) c.val node.toNat) := by
  show execCanSegmentTimeout c node s = _
  simp [execCanSegmentTimeout, hpart, hhalt]

theorem dropPart_parts (s : State) (m node : Nat) : ((dropPart s m node).canst m).parts = (s.canst m).parts.erase node := by
  have hcan : (dropPart s m node).can = (s.setCanst m { s.canst m with parts := (s.canst m).parts.erase node }).can := by
    simp [dropPart]
  rw [canst_of_can hcan, State.canst_setCanst]

/-! ### The three ends of a controller's wait -/

theorem integration_joins {c : Fin 2} {s : State} (hhalt : canHalted s = false) (hst : canState s c.val = canIntegrating) :
    exec (.canIntegrationComplete c) s = .next (canSelect (canConfine (canSetState s c.val canActive) c.val) c.val) :=
  if_neg (by simp [hhalt, hst])

theorem recovery_joins {c : Fin 2} {s : State} (hhalt : canHalted s = false) (hst : canState s c.val = canRecovering) :
    exec (.canRecoveryComplete c) s =
      .next (canSetState ((s.setFld (CAN_STAT_TEC c.val) 0).setFld (CAN_STAT_REC c.val) 0) c.val canActive) :=
  if_neg (by simp [hhalt, hst])

theorem receiveError_confines {c : Fin 2} {k : CanErr} {d : Bool} {s : State} (hhalt : canHalted s = false)
    (hon : canOnline s c.val = true) : exec (.canReceiveError c k d) s = .next (canConfine (receiveError s c.val k d) c.val) :=
  if_neg (by simp [hhalt, hon])

theorem integrated_active {s : State} {m : Nat} (hm : m < 2) (htec : s.fld (CAN_STAT_TEC m) < 128) (hrec : s.fld (CAN_STAT_REC m) < 128) :
    canState (canSelect (canConfine (canSetState s m canActive) m) m) m = canActive := by
  have hactive : canState (canSetState s m canActive) m = canActive := canState_canSetState hm (by decide)
  have hconf := canConfine_active (canOnline_of_active hactive) (by rwa [canSetState_tec hm]) (by rwa [canSetState_rec hm])
  have hsel : canState (canSelect (canConfine (canSetState s m canActive) m) m) m =
      canState (canConfine (canSetState s m canActive) m) m := fld_of_reg (canSelect_reg fun b _ => stat_ne_buf)
  rw [hsel, hconf]
  exact canState_canSetState hm (by decide)

theorem recovered_counters {s : State} {m : Nat} (hm : m < 2) :
    let t := canSetState ((s.setFld (CAN_STAT_TEC m) 0).setFld (CAN_STAT_REC m) 0) m canActive
    t.fld (CAN_STAT_TEC m) = 0 ∧ t.fld (CAN_STAT_REC m) = 0 := by
  intro t
  constructor
  · refine (canSetState_tec hm).trans ((fld_setFld_apart _ _ _ _ (by simp [Fld.Apart, CAN_STAT_TEC, CAN_STAT_REC])).trans ?_)
    exact fld_setFld_same _ (CAN_STAT_TEC m) 0 (show 16 ≤ 24 by decide) (show 24 < 32 by decide)
  · refine (canSetState_rec hm).trans ?_
    exact fld_setFld_same _ (CAN_STAT_REC m) 0 (show 8 ≤ 15 by decide) (show 15 < 32 by decide)

/-- A receiver's error below the limits leaves the controller ERROR-ACTIVE, counted and shown. -/
theorem receiveError_shows {s : State} {m : Nat} (k : CanErr) (d : Bool) (hm : m < 2) (hon : canOnline s m = true)
    (htec : s.fld (CAN_STAT_TEC m) < 128) (hrec : s.fld (CAN_STAT_REC m) < 127) :
    let t := canConfine (receiveError s m k d) m
    t.fld (CAN_STAT_REC m) = s.fld (CAN_STAT_REC m) + 1 ∧ canState t m = canActive ∧ t.fld (CAN_ERR_LEC m) = canLec k ∧
      t.flag (CAN_ERR_DPHASE m) = d := by
  have hcnt := receiveError_counts k d hrec
  have hst : canState (receiveError s m k d) m = canState s m :=
    receiveError_stat (g := CAN_STAT_STATE m) k d rfl (by simp [Fld.Apart, CAN_STAT_STATE, CAN_STAT_REC])
  have hon' : canOnline (receiveError s m k d) m = true := by rw [canOnline, hst]; exact hon
  have htec' : (receiveError s m k d).fld (CAN_STAT_TEC m) = s.fld (CAN_STAT_TEC m) :=
    receiveError_stat (g := CAN_STAT_TEC m) k d rfl (by simp [Fld.Apart, CAN_STAT_TEC, CAN_STAT_REC])
  obtain ⟨hlec, hdph⟩ := receiveError_err (s := s) (m := m) k d
  generalize receiveError s m k d = r at *
  have hconf := canConfine_active (s := r) hon' (by rw [htec']; exact htec) (by rw [hcnt]; omega)
  have herr : (canSetState r m canActive).reg (CAN_ERR m) = r.reg (CAN_ERR m) :=
    canSetState_reg (quiet_err hm).1 (quiet_err hm).2 (stat_ne_err m).symm
  intro t
  rw [show t = canSetState r m canActive from hconf]
  exact ⟨(canSetState_rec hm).trans hcnt, canState_canSetState hm (by decide), (fld_of_reg herr).trans hlec,
    (flag_of_reg herr).trans hdph⟩

/-- The attempt's end of a frame that was sent, from its count and delay on. -/
theorem attemptEnd_sent_says {c : Fin 2} {b : Fin 3} {v : Byte} {s : State} (hhalt : canHalted s = false)
    (hon : canOnline s c.val = true) (hbus : (s.canst c.val).onBus = some b.val) (hjq : (s.canst c.val).jq = [])
    (htdc : s.flag (CAN_TDC_TDCEN c.val) = false ∨ v.toNat < 128) (htec : s.fld (CAN_STAT_TEC c.val) < 256) :
    Answers (.canTxAttemptEnd c b .sent v) s fun t => canPending t c.val b.val = false ∧
      t.fld (CAN_TXSTAT_RESULT c.val b.val) = 3 ∧ (canLoops s c.val = false → .can c.val (canFrameOf s c.val b.val) ∈ t.sent) ∧
      (canLoops s c.val = true → t.sent = s.sent) := by
  obtain ⟨u, hu⟩ : ∃ u, canTdc (attempted s c.val b.val) c.val b.val .sent v.toNat = (u, .sent) := by
    have hflag : (attempted s c.val b.val).flag (CAN_TDC_TDCEN c.val) = s.flag (CAN_TDC_TDCEN c.val) :=
      flag_of_reg (attempted_reg (by simp only [CAN_TDC_TDCEN, CAN_TDC, CAN_TXSTAT, canBuf]; split <;> omega))
    rcases canTdc_sent (b := b.val) (hflag ▸ htdc) with h | h
    · exact ⟨_, h⟩
    · exact ⟨_, h⟩
  obtain ⟨hucan, husent, hureg⟩ := attempt_keeps htdc hu
  have hstat : u.reg (CAN_STAT c.val) = s.reg (CAN_STAT c.val) :=
    hureg _ stat_ne_buf (by simp only [CAN_STAT, CAN_TDC]; omega)
  have hframe : canFrameOf u c.val b.val = canFrameOf s c.val b.val := by
    refine canFrameOf_congr (fun k hk hne => hureg _ ?_ ?_) hstat
    · simp only [CAN_TXSTAT]
      omega
    · simp only [CAN_TDC, canBuf]
      split <;> omega
  have hmode : u.fld (CAN_CTRL_MODE c.val) = s.fld (CAN_CTRL_MODE c.val) := fld_of_reg (hureg _
    (by simp only [CAN_CTRL_MODE, CAN_CTRL, CAN_TXSTAT, canBuf]; split <;> omega)
    (by simp only [CAN_CTRL_MODE, CAN_CTRL, CAN_TDC]; omega))
  have htec' : u.fld (CAN_STAT_TEC c.val) = s.fld (CAN_STAT_TEC c.val) := fld_of_reg hstat
  exact ⟨_, attemptEnd_sent hhalt hon hbus hu, sent_ends c.isLt b.isLt (by rw [canst_of_can hucan, hjq]) (by rw [htec']; exact htec)
    husent hframe (by rw [canLoops, canLoops, hmode])⟩

/-- Settles O54: each command by its equation; the requests by what an end, a selection and an event leave of their registers. -/
theorem canControllers : Obligations.CanControllers := by
  refine ⟨fun c s hhalt htec hrec => ⟨fun hst => ?_, fun hst => ?_⟩, fun c f s u n hhalt hon hfd hu hother => ?_,
    fun c k d s hhalt hon htec hrec => ?_, fun c b s v hhalt hon hbus hjq htdc htec => ?_, fun c node s e hhalt hpart => ?_,
    fun c b f k d h v s hoff => ⟨if_pos ?_, if_pos ?_, if_pos ?_⟩⟩
  · exact ⟨_, integration_joins hhalt hst, integrated_active c.isLt htec hrec, by simp⟩
  · exact ⟨_, recovery_joins hhalt hst, canState_canSetState c.isLt (by decide), recovered_counters c.isLt⟩
  · subst hu
    have hexec := frameReceived_filters hhalt hon hfd hother
    exact ⟨fun hnone => hexec.trans (congrArg _ (intoFifo_none hnone)),
      fun hsome hroom => ⟨_, hexec, intoFifo_takes hsome hroom⟩, fun hsome hfull => ⟨_, hexec, intoFifo_full hsome hfull⟩⟩
  · exact ⟨_, receiveError_confines hhalt hon, receiveError_shows k d c.isLt hon htec hrec⟩
  · have hm := c.isLt
    have hb := b.isLt
    obtain ⟨hcan, hsent, hpend, hsingle⟩ := attempted_keeps s c.val b.val
    have hempty : ((attempted s c.val b.val).canst c.val).jq = [] := by rw [canst_of_can hcan, hjq]
    have hlost := attemptEnd_lost (v := v) hhalt hon hbus
    rw [hempty] at hlost
    refine ⟨?_, fun hp habort hs => ?_, fun hp habort => ?_⟩
    · obtain ⟨t, ht, h1, h2, h3, h4⟩ := attemptEnd_sent_says hhalt hon hbus hjq htdc htec
      exact ⟨t, ht, h1, h2, fun hmode => h3 (by simp [canLoops, hmode]), fun hmode => h4 (by simp [canLoops, hmode])⟩
    · obtain ⟨h1, h2⟩ := canRetry_again (hpend.trans hp) (by rw [canst_of_can hcan]; exact habort) (hsingle.trans hs)
      refine ⟨_, hlost, (canSelect_pending _ _ _).trans h1, ?_⟩
      exact (by simp : (canSelect _ _).sent = _).trans (h2.trans hsent)
    · rw [canRetry_aborted (hpend.trans hp) (by rw [canst_of_can hcan]; exact habort)] at hlost
      obtain ⟨h1, h2⟩ := canEnd_says (s := attempted s c.val b.val) hm hb (show 4 < 8 by decide)
      exact ⟨_, hlost, (canSelect_pending _ _ _).trans h1, (canSelect_result hb h1).trans h2⟩
  · refine ⟨_, segmentTimeout_drops hhalt hpart, dropPart_parts _ _ _, ?_, ?_, ?_, ?_⟩ <;> simp [dropPart]
  · rcases hoff with h | h <;> simp [h]
  · rcases hoff with h | h <;> simp [h]
  · rcases hoff with h | h <;> simp [h]

end Sys2Proof.Machine
end

section
/-!
PROOF. Storage: recall, posted writes and flash (R633 to R647).
-/
namespace Sys2Proof.Machine

@[simp] theorem countFinding_rest (s : State) (f : Finding) :
    (countFinding s f).now = s.now ∧ (countFinding s f).pending = s.pending ∧ (countFinding s f).draws = s.draws ∧
      (countFinding s f).rdata = s.rdata ∧ (countFinding s f).mem = s.mem ∧ (countFinding s f).units = s.units ∧
      (countFinding s f).objs = s.objs ∧ (countFinding s f).prog = s.prog ∧ (countFinding s f).img = s.img ∧
      (countFinding s f).tsk = s.tsk ∧ (countFinding s f).gz = s.gz ∧ (countFinding s f).evc = s.evc ∧
      (countFinding s f).nv = s.nv ∧ (countFinding s f).rtc = s.rtc ∧ (countFinding s f).wdg = s.wdg ∧
      (countFinding s f).frz = s.frz ∧ (countFinding s f).rcd = s.rcd ∧ (countFinding s f).boot = s.boot ∧
      (countFinding s f).phr = s.phr ∧ (countFinding s f).lpe = s.lpe ∧ (countFinding s f).trc = s.trc ∧
      (countFinding s f).nrg = s.nrg ∧ (countFinding s f).hsb = s.hsb ∧ (countFinding s f).field = s.field ∧
      (countFinding s f).can = s.can ∧ (countFinding s f).saf = s.saf ∧ (countFinding s f).jrn = s.jrn ∧
      (countFinding s f).stations = s.stations ∧ (countFinding s f).sent = s.sent := by
  unfold countFinding
  split <;> simp

@[simp] theorem recallRecs_rest (s : State) :
    (recallRecs s).now = s.now ∧ (recallRecs s).pending = s.pending ∧ (recallRecs s).rdata = s.rdata ∧
      (recallRecs s).mem = s.mem ∧ (recallRecs s).units = s.units ∧ (recallRecs s).objs = s.objs ∧
      (recallRecs s).prog = s.prog ∧ (recallRecs s).img = s.img ∧ (recallRecs s).tsk = s.tsk ∧ (recallRecs s).gz = s.gz ∧
      (recallRecs s).evc = s.evc ∧ (recallRecs s).rtc = s.rtc ∧ (recallRecs s).wdg = s.wdg ∧ (recallRecs s).frz = s.frz ∧
      (recallRecs s).rcd = s.rcd ∧ (recallRecs s).boot = s.boot ∧ (recallRecs s).phr = s.phr ∧ (recallRecs s).lpe = s.lpe ∧
      (recallRecs s).trc = s.trc ∧ (recallRecs s).nrg = s.nrg ∧ (recallRecs s).hsb = s.hsb ∧ (recallRecs s).field = s.field ∧
      (recallRecs s).can = s.can ∧ (recallRecs s).saf = s.saf ∧ (recallRecs s).jrn = s.jrn ∧
      (recallRecs s).stations = s.stations ∧ (recallRecs s).sent = s.sent := by
  unfold recallRecs
  simp [State.drawBit]

@[simp] theorem recallBanks_rest (s : State) :
    (recallBanks s).now = s.now ∧ (recallBanks s).pending = s.pending ∧ (recallBanks s).rdata = s.rdata ∧
      (recallBanks s).mem.code = s.mem.code ∧ (recallBanks s).mem.sram = s.mem.sram ∧ (recallBanks s).mem.trace = s.mem.trace ∧
      (recallBanks s).mem.fw = s.mem.fw ∧ (recallBanks s).mem.flash = s.mem.flash ∧ (recallBanks s).units = s.units ∧
      (recallBanks s).objs = s.objs ∧ (recallBanks s).prog = s.prog ∧ (recallBanks s).img = s.img ∧
      (recallBanks s).tsk = s.tsk ∧ (recallBanks s).gz = s.gz ∧ (recallBanks s).evc = s.evc ∧ (recallBanks s).nv = s.nv ∧
      (recallBanks s).rtc = s.rtc ∧ (recallBanks s).wdg = s.wdg ∧ (recallBanks s).frz = s.frz ∧ (recallBanks s).rcd = s.rcd ∧
      (recallBanks s).boot = s.boot ∧ (recallBanks s).phr = s.phr ∧ (recallBanks s).lpe = s.lpe ∧ (recallBanks s).trc = s.trc ∧
      (recallBanks s).nrg = s.nrg ∧ (recallBanks s).hsb = s.hsb ∧ (recallBanks s).field = s.field ∧
      (recallBanks s).can = s.can ∧ (recallBanks s).saf = s.saf ∧ (recallBanks s).jrn = s.jrn ∧
      (recallBanks s).stations = s.stations ∧ (recallBanks s).sent = s.sent := by
  unfold recallBanks
  dsimp only
  split
  · simp
  · split
    · simp [State.drawBit]
    · split <;> simp [State.drawBit]

@[simp] theorem recallCtrs_rest (s : State) :
    (recallCtrs s).now = s.now ∧ (recallCtrs s).pending = s.pending ∧ (recallCtrs s).draws = s.draws ∧
      (recallCtrs s).rdata = s.rdata ∧ (recallCtrs s).mem = s.mem ∧ (recallCtrs s).units = s.units ∧
      (recallCtrs s).objs = s.objs ∧ (recallCtrs s).prog = s.prog ∧ (recallCtrs s).img = s.img ∧ (recallCtrs s).tsk = s.tsk ∧
      (recallCtrs s).gz = s.gz ∧ (recallCtrs s).evc = s.evc ∧ (recallCtrs s).rtc = s.rtc ∧ (recallCtrs s).wdg = s.wdg ∧
      (recallCtrs s).frz = s.frz ∧ (recallCtrs s).rcd = s.rcd ∧ (recallCtrs s).boot = s.boot ∧ (recallCtrs s).phr = s.phr ∧
      (recallCtrs s).lpe = s.lpe ∧ (recallCtrs s).trc = s.trc ∧ (recallCtrs s).nrg = s.nrg ∧ (recallCtrs s).hsb = s.hsb ∧
      (recallCtrs s).field = s.field ∧ (recallCtrs s).can = s.can ∧ (recallCtrs s).saf = s.saf ∧ (recallCtrs s).jrn = s.jrn ∧
      (recallCtrs s).stations = s.stations ∧ (recallCtrs s).sent = s.sent := by
  unfold recallCtrs
  simp (disch := intros; split <;> simp)

@[simp] theorem flashErr_rest (s : State) (e : Nat) :
    (flashErr s e).now = s.now ∧ (flashErr s e).pending = s.pending ∧ (flashErr s e).draws = s.draws ∧
      (flashErr s e).rdata = s.rdata ∧ (flashErr s e).mem = s.mem ∧ (flashErr s e).units = s.units ∧
      (flashErr s e).objs = s.objs ∧ (flashErr s e).prog = s.prog ∧ (flashErr s e).img = s.img ∧ (flashErr s e).tsk = s.tsk ∧
      (flashErr s e).gz = s.gz ∧ (flashErr s e).evc = s.evc ∧ (flashErr s e).nv = s.nv ∧ (flashErr s e).rtc = s.rtc ∧
      (flashErr s e).wdg = s.wdg ∧ (flashErr s e).frz = s.frz ∧ (flashErr s e).rcd = s.rcd ∧ (flashErr s e).boot = s.boot ∧
      (flashErr s e).phr = s.phr ∧ (flashErr s e).lpe = s.lpe ∧ (flashErr s e).trc = s.trc ∧ (flashErr s e).nrg = s.nrg ∧
      (flashErr s e).hsb = s.hsb ∧ (flashErr s e).field = s.field ∧ (flashErr s e).can = s.can ∧ (flashErr s e).saf = s.saf ∧
      (flashErr s e).jrn = s.jrn ∧ (flashErr s e).stations = s.stations ∧ (flashErr s e).sent = s.sent := by
  unfold flashErr
  simp

@[simp] theorem eraseSector_rest (s : State) (sector : Nat) :
    (eraseSector s sector).now = s.now ∧ (eraseSector s sector).pending = s.pending ∧ (eraseSector s sector).draws = s.draws ∧
      (eraseSector s sector).rdata = s.rdata ∧ (eraseSector s sector).regs = s.regs ∧
      (eraseSector s sector).mem.code = s.mem.code ∧ (eraseSector s sector).mem.sram = s.mem.sram ∧
      (eraseSector s sector).mem.trace = s.mem.trace ∧ (eraseSector s sector).mem.fw = s.mem.fw ∧
      (eraseSector s sector).units = s.units ∧ (eraseSector s sector).objs = s.objs ∧ (eraseSector s sector).prog = s.prog ∧
      (eraseSector s sector).img = s.img ∧ (eraseSector s sector).tsk = s.tsk ∧ (eraseSector s sector).gz = s.gz ∧
      (eraseSector s sector).evc = s.evc ∧ (eraseSector s sector).nv = s.nv ∧ (eraseSector s sector).rtc = s.rtc ∧
      (eraseSector s sector).wdg = s.wdg ∧ (eraseSector s sector).frz = s.frz ∧ (eraseSector s sector).rcd = s.rcd ∧
      (eraseSector s sector).boot = s.boot ∧ (eraseSector s sector).phr = s.phr ∧ (eraseSector s sector).lpe = s.lpe ∧
      (eraseSector s sector).trc = s.trc ∧ (eraseSector s sector).nrg = s.nrg ∧ (eraseSector s sector).hsb = s.hsb ∧
      (eraseSector s sector).field = s.field ∧ (eraseSector s sector).can = s.can ∧ (eraseSector s sector).saf = s.saf ∧
      (eraseSector s sector).jrn = s.jrn ∧ (eraseSector s sector).stations = s.stations ∧ (eraseSector s sector).sent = s.sent := by
  unfold eraseSector
  simp

@[simp] theorem programFlash_rest (s : State) (off : Nat) (bs : List Byte) :
    (programFlash s off bs).now = s.now ∧ (programFlash s off bs).pending = s.pending ∧
      (programFlash s off bs).draws = s.draws ∧ (programFlash s off bs).rdata = s.rdata ∧
      (programFlash s off bs).regs = s.regs ∧ (programFlash s off bs).mem.code = s.mem.code ∧
      (programFlash s off bs).mem.sram = s.mem.sram ∧ (programFlash s off bs).mem.trace = s.mem.trace ∧
      (programFlash s off bs).mem.fw = s.mem.fw ∧ (programFlash s off bs).units = s.units ∧
      (programFlash s off bs).objs = s.objs ∧ (programFlash s off bs).prog = s.prog ∧ (programFlash s off bs).img = s.img ∧
      (programFlash s off bs).tsk = s.tsk ∧ (programFlash s off bs).gz = s.gz ∧ (programFlash s off bs).evc = s.evc ∧
      (programFlash s off bs).nv = s.nv ∧ (programFlash s off bs).rtc = s.rtc ∧ (programFlash s off bs).wdg = s.wdg ∧
      (programFlash s off bs).frz = s.frz ∧ (programFlash s off bs).rcd = s.rcd ∧ (programFlash s off bs).boot = s.boot ∧
      (programFlash s off bs).phr = s.phr ∧ (programFlash s off bs).lpe = s.lpe ∧ (programFlash s off bs).trc = s.trc ∧
      (programFlash s off bs).nrg = s.nrg ∧ (programFlash s off bs).hsb = s.hsb ∧ (programFlash s off bs).field = s.field ∧
      (programFlash s off bs).can = s.can ∧ (programFlash s off bs).saf = s.saf ∧ (programFlash s off bs).jrn = s.jrn ∧
      (programFlash s off bs).stations = s.stations ∧ (programFlash s off bs).sent = s.sent := by
  unfold programFlash
  simp

@[simp] theorem flashEnd_rest (s : State) (verifyOk : Bool) :
    (flashEnd s verifyOk).now = s.now ∧ (flashEnd s verifyOk).pending = s.pending ∧ (flashEnd s verifyOk).draws = s.draws ∧
      (flashEnd s verifyOk).rdata = s.rdata ∧ (flashEnd s verifyOk).mem.code = s.mem.code ∧
      (flashEnd s verifyOk).mem.sram = s.mem.sram ∧ (flashEnd s verifyOk).mem.trace = s.mem.trace ∧
      (flashEnd s verifyOk).mem.fw = s.mem.fw ∧ (flashEnd s verifyOk).units = s.units ∧ (flashEnd s verifyOk).objs = s.objs ∧
      (flashEnd s verifyOk).prog = s.prog ∧ (flashEnd s verifyOk).img = s.img ∧ (flashEnd s verifyOk).tsk = s.tsk ∧
      (flashEnd s verifyOk).gz = s.gz ∧ (flashEnd s verifyOk).evc = s.evc ∧ (flashEnd s verifyOk).rtc = s.rtc ∧
      (flashEnd s verifyOk).wdg = s.wdg ∧ (flashEnd s verifyOk).frz = s.frz ∧ (flashEnd s verifyOk).rcd = s.rcd ∧
      (flashEnd s verifyOk).boot = s.boot ∧ (flashEnd s verifyOk).phr = s.phr ∧ (flashEnd s verifyOk).lpe = s.lpe ∧
      (flashEnd s verifyOk).trc = s.trc ∧ (flashEnd s verifyOk).nrg = s.nrg ∧ (flashEnd s verifyOk).hsb = s.hsb ∧
      (flashEnd s verifyOk).field = s.field ∧ (flashEnd s verifyOk).can = s.can ∧ (flashEnd s verifyOk).saf = s.saf ∧
      (flashEnd s verifyOk).jrn = s.jrn ∧ (flashEnd s verifyOk).stations = s.stations ∧ (flashEnd s verifyOk).sent = s.sent := by
  unfold flashEnd
  split
  · simp
  · split <;> simp

@[simp] theorem regClear_keeps (s : State) (a : Nat) :
    (regClear s a).now = s.now ∧ (regClear s a).pending = s.pending ∧ (regClear s a).draws = s.draws ∧
      (regClear s a).rdata = s.rdata ∧ (regClear s a).mem = s.mem ∧ (regClear s a).units = s.units ∧
      (regClear s a).objs = s.objs ∧ (regClear s a).prog = s.prog ∧ (regClear s a).img = s.img ∧ (regClear s a).tsk = s.tsk ∧
      (regClear s a).gz = s.gz ∧ (regClear s a).evc = s.evc ∧ (regClear s a).nv = s.nv ∧ (regClear s a).rtc = s.rtc ∧
      (regClear s a).wdg = s.wdg ∧ (regClear s a).frz = s.frz ∧ (regClear s a).rcd = s.rcd ∧ (regClear s a).boot = s.boot ∧
      (regClear s a).phr = s.phr ∧ (regClear s a).lpe = s.lpe ∧ (regClear s a).trc = s.trc ∧ (regClear s a).nrg = s.nrg ∧
      (regClear s a).hsb = s.hsb ∧ (regClear s a).field = s.field ∧ (regClear s a).can = s.can ∧ (regClear s a).saf = s.saf ∧
      (regClear s a).jrn = s.jrn ∧ (regClear s a).stations = s.stations ∧ (regClear s a).sent = s.sent := by
  unfold regClear
  split <;> simp

@[simp] theorem answerStatus_rest (s : State) (q : JReq) (status : Nat) :
    (answerStatus s q status).now = s.now ∧ (answerStatus s q status).pending = s.pending ∧
      (answerStatus s q status).rdata = s.rdata ∧ (answerStatus s q status).mem.code = s.mem.code ∧
      (answerStatus s q status).mem.sram = s.mem.sram ∧ (answerStatus s q status).mem.trace = s.mem.trace ∧
      (answerStatus s q status).mem.fw = s.mem.fw ∧ (answerStatus s q status).mem.flash = s.mem.flash ∧
      (answerStatus s q status).units = s.units ∧ (answerStatus s q status).objs = s.objs ∧
      (answerStatus s q status).prog = s.prog ∧ (answerStatus s q status).img = s.img ∧ (answerStatus s q status).tsk = s.tsk ∧
      (answerStatus s q status).gz = s.gz ∧ (answerStatus s q status).nv = s.nv ∧ (answerStatus s q status).rtc = s.rtc ∧
      (answerStatus s q status).wdg = s.wdg ∧ (answerStatus s q status).frz = s.frz ∧ (answerStatus s q status).boot = s.boot ∧
      (answerStatus s q status).phr = s.phr ∧ (answerStatus s q status).lpe = s.lpe ∧ (answerStatus s q status).trc = s.trc ∧
      (answerStatus s q status).nrg = s.nrg ∧ (answerStatus s q status).hsb = s.hsb ∧
      (answerStatus s q status).field = s.field ∧ (answerStatus s q status).saf = s.saf ∧
      (answerStatus s q status).stations = s.stations := by
  unfold answerStatus
  simp

/-! ### Recall -/

theorem recallComplete_idle {s : State} (h : s.nv.recalling = false) : exec .recallComplete s = .next s := if_neg (by simp [h])

theorem recallComplete_scans {s : State} (hheld : s.boot.held = false) (h : s.nv.recalling = true) :
    exec .recallComplete s = .next (recallScan s) := if_pos (by simp [h, hheld])

/-- The array scanned, and the time that it took drawn (R647). -/
def scanned (s : State) : State :=
  let t := (recallCtrs (recallBanks (recallRecs s))).ctrUp ctrPower
  t.drawWord.2.setFld NVM_RECT_US (t.drawWord.1.toNat % 4001)

theorem scanned_time (s : State) : (scanned s).fld NVM_RECT_US ≤ 4000 := by
  unfold scanned
  refine (fld_setFld_same _ NVM_RECT_US _ (by decide) (by decide)).trans_le ?_
  exact (Nat.mod_le _ _).trans (Nat.le_of_lt_succ (Nat.mod_lt _ (by decide)))

theorem scanned_jrn (s : State) : (scanned s).jrn = s.jrn := by
  simp [scanned, State.drawWord]

/-- The module with its array recalled, before Jurno is told. -/
def recalled (s : State) : State :=
  { scanned s with nv := { (scanned s).nv with ready := true, recalling := false, findings := (scanned s).reg NVM_RECRES != 0#32 } }

theorem fld_of_regs {s t : State} (h : t.regs = s.regs) (f : Fld) : t.fld f = s.fld f := by
  simp only [State.fld, State.reg, h]

theorem recalled_time (s : State) : (recalled s).fld NVM_RECT_US ≤ 4000 := by
  have hregs : (recalled s).regs = (scanned s).regs := by simp [recalled]
  rw [fld_of_regs hregs]
  exact scanned_time s

theorem recallScan_eq (s : State) : recallScan s = ((if (recalled s).jrn.phase = 1 then
    { recalled s with jrn := { (recalled s).jrn with phase := 2, phaseAt := (recalled s).now } } else recalled s)).raise 63 := rfl

theorem recallScan_says (s : State) : (recallScan s).nv.ready = true ∧ (recallScan s).nv.recalling = false ∧
    (recallScan s).fld NVM_RECT_US ≤ 4000 ∧ (s.jrn.phase = 1 → (recallScan s).jrn.phase = 2) ∧
    (s.jrn.phase ≠ 1 → (recallScan s).jrn.phase = s.jrn.phase) := by
  have hjrn : (recalled s).jrn = s.jrn := scanned_jrn s
  have hraise (t : State) : (t.raise 63).fld NVM_RECT_US = t.fld NVM_RECT_US := fld_of_reg (raise_reg (by decide))
  rw [recallScan_eq, hraise]
  by_cases hphase : (recalled s).jrn.phase = 1
  · rw [if_pos hphase]
    rw [hjrn] at hphase
    refine ⟨by simp [recalled], by simp [recalled], ?_, fun _ => by simp, fun hne => absurd hphase hne⟩
    rw [fld_of_regs (s := recalled s) (by simp)]
    exact recalled_time s
  · rw [if_neg hphase]
    rw [hjrn] at hphase
    exact ⟨by simp [recalled], by simp [recalled], recalled_time s, fun heq => absurd heq hphase, fun _ => by simp [hjrn]⟩

/-! ### Two-copy records -/

theorem NvRec.copy_setCopy (r : NvRec) (b : Bool) (c : NvCopy) : (r.setCopy b c).copy b = some c := by
  cases b <;> rfl

theorem NvRec.copy_setCopy_ne (r : NvRec) (b : Bool) (c : NvCopy) : (r.setCopy (!b) c).copy b = r.copy b := by
  cases b <;> rfl

theorem NvRec.win_setCopy (r : NvRec) (b : Bool) (c : NvCopy) : (r.setCopy b c).win = r.win := by
  cases b <;> rfl

/-- A written record has the new value (R639). -/
theorem NvRec.value_write (r : NvRec) (format : Nat) (payload : List Byte) : (r.write format payload).value = some payload := by
  unfold NvRec.write NvRec.value NvRec.setCopy NvRec.copy
  cases r.loser <;> rfl

/-- A record whose loser does not read back keeps its winner, and so its value (R641). -/
theorem NvRec.value_spoil (r : NvRec) (format : Nat) (payload : List Byte) : (r.spoil format payload).value = r.value := by
  cases hwin : r.win with
  | none => simp [NvRec.spoil, NvRec.value, NvRec.win_setCopy, hwin]
  | some b => simp [NvRec.spoil, NvRec.value, NvRec.win_setCopy, hwin, NvRec.loser, NvRec.copy_setCopy_ne]

/-! ### An answer changes no register past those of the CAN controllers -/

/-- A register past those of the CAN controllers, and before the recorder's. -/
def OffCan (a : Nat) : Prop := 0xF00E0000 ≤ a ∧ a < recorderRegs

theorem offCan_ne_buf {m b k a : Nat} (hm : m < 2) (hk : k < 0x60) (ha : OffCan a) : a ≠ canBuf m b + k := by
  obtain ⟨ha, -⟩ := ha
  unfold canBuf
  split <;> omega

theorem canFlag_reg_off {s : State} {m b a : Nat} (hm : m < 2) (ha : OffCan a) : (canFlag s m b).reg a = s.reg a :=
  canFlag_reg (by obtain ⟨ha, -⟩ := ha; simp only [CAN_EVT]; omega) ha.2

theorem canResult_reg_off {s : State} {m b r a : Nat} (hm : m < 2) (ha : OffCan a) : (canResult s m b r).reg a = s.reg a :=
  reg_setFld_ne _ _ _ _ (offCan_ne_buf hm (by decide) ha)

theorem canEnd_reg_off {s : State} {m b r a : Nat} (hm : m < 2) (ha : OffCan a) : (canEnd s m b r).reg a = s.reg a :=
  (canFlag_reg_off hm ha).trans ((canResult_reg_off hm ha).trans (reg_setFld_ne _ (CAN_TXCTRL_REQ m b) _ _
    (offCan_ne_buf hm (by decide) ha)))

theorem canSelect_reg_off {s : State} {m a : Nat} (hm : m < 2) (ha : OffCan a) : (canSelect s m).reg a = s.reg a :=
  canSelect_reg fun _ _ => offCan_ne_buf hm (by decide) ha

theorem claimRefused_reg_off {s : State} {res owner claimant a : Nat} (ha : OffCan a) :
    (claimRefused s res owner claimant).reg a = s.reg a := (record_reg ha.2).trans (raise_reg ha.2)

theorem canRequest_reg_off {s : State} {m b a : Nat} (jurno : Bool) (hm : m < 2) (ha : OffCan a) :
    (canRequest s m b jurno).reg a = s.reg a := by
  have hclear : ((s.setFld (CAN_TXSTAT_NACK m b) 0).setFld (CAN_TXSTAT_ATTEMPTS m b) 0).reg a = s.reg a :=
    (reg_setFld_ne _ _ _ _ (offCan_ne_buf hm (by decide) ha)).trans (reg_setFld_ne _ _ _ _ (offCan_ne_buf hm (by decide) ha))
  unfold canRequest
  dsimp only
  split
  · exact hclear
  · split
    · exact (canEnd_reg_off hm ha).trans ((claimRefused_reg_off ha).trans hclear)
    · split
      · exact (canEnd_reg_off hm ha).trans hclear
      · exact (canSelect_reg_off hm ha).trans ((canResult_reg_off hm ha).trans
          ((reg_setFld_ne _ (CAN_TXCTRL_REQ m b) _ _ (offCan_ne_buf hm (by decide) ha)).trans hclear))

theorem canLoad_reg_off {s : State} {m a : Nat} (f : CanFrame) (hm : m < 2) (ha : OffCan a) : (canLoad s m f).reg a = s.reg a := by
  unfold canLoad
  refine List.foldlRecOn (List.range 16) _ (motive := fun t : State => t.reg a = s.reg a) ?_ fun t ht i hi => ?_
  · exact (reg_setReg_ne _ _ _ _ (offCan_ne_buf hm (by decide) ha)).trans (reg_setReg_ne _ _ _ _ (offCan_ne_buf hm (by decide) ha))
  · have hi16 := List.mem_range.mp hi
    refine (reg_setReg_ne _ _ _ _ ?_).trans ht
    rw [CAN_TXDATA, Nat.add_assoc]
    exact offCan_ne_buf hm (by omega) ha

theorem canJurnoNext_reg_off {s : State} {m a : Nat} (n : Nat) (hm : m < 2) (ha : OffCan a) :
    (canJurnoNext s m n).reg a = s.reg a := by
  induction n generalizing s with
  | zero => rfl
  | succ n ih =>
    unfold canJurnoNext
    dsimp only
    split
    · rfl
    · split
      · rfl
      · rw [ih, canRequest_reg_off true hm ha, canLoad_reg_off _ hm ha]
        rfl

theorem sendTo_reg_off {s : State} {a : Nat} (src : JSrc) (m : JMsg) (ha : OffCan a) : (sendTo s src m).reg a = s.reg a := by
  cases src with
  | eth ip port sid seq tag => rfl
  | can ctrl node => exact canJurnoNext_reg_off _ ctrl.isLt ha

theorem keepAnswer_regs (s : State) (sid seq : Nat) (m : JMsg) : (keepAnswer s sid seq m).regs = s.regs := by simp

theorem endSession_regs (s : State) (src : JSrc) : (endSession s src).regs = s.regs := by simp

theorem answer_reg_off {s : State} {a : Nat} (q : JReq) (m : JMsg) (ha : OffCan a) : (answer s q m).reg a = s.reg a := by
  unfold answer
  extract_lets kept sent
  have hkept : kept.reg a = s.reg a := by
    simp only [kept]
    split
    · simp only [State.reg, keepAnswer_regs]
    · rfl
  have hsent : sent.reg a = s.reg a := (sendTo_reg_off _ _ ha).trans hkept
  split
  · simpa only [State.reg, endSession_regs] using hsent
  · exact hsent

/-! ### Posted writes -/

/-- The answer to the request that waited for a posted write. -/
def postedAnswer (s : State) : Option (JReq × Bool) → State
  | none => s
  | some (q, ok) => if ok then answerStatus s q 0 else answerRetry s q 0x0101 100

theorem postedStep_ready {s : State} (fail : Bool) (h : postedReady s = true) :
    postedStep s fail = postedAnswer (postedWrite s fail).1 (postedWrite s fail).2 := by
  rw [postedStep, if_neg (by simp [h])]
  dsimp only
  cases (postedWrite s fail).2 <;> rfl

theorem postedAnswer_nv (s : State) (a : Option (JReq × Bool)) : (postedAnswer s a).nv = s.nv := by
  unfold postedAnswer
  split
  · rfl
  · split <;> simp

theorem nvRec_setNvRec (s : State) (k : Nat) (r : NvRec) : (s.setNvRec k r).nvRec k = r := Tbl.get_set_same s.nv.recs {} k r

theorem nvRec_setNvRec_ne {s : State} {k j : Nat} (r : NvRec) (h : j ≠ k) : (s.setNvRec k r).nvRec j = s.nvRec j :=
  Tbl.get_set_ne s.nv.recs {} k j r h

theorem nvRec_of_nv {s t : State} (h : t.nv = s.nv) (k : Nat) : t.nvRec k = s.nvRec k := by
  simp only [State.nvRec, h]

theorem postedAnswer_reg (s : State) (x : Option (JReq × Bool)) {a : Nat} (ha : OffCan a) : (postedAnswer s x).reg a = s.reg a := by
  unfold postedAnswer
  split
  · rfl
  · split
    · exact answer_reg_off _ _ ha
    · exact answer_reg_off _ _ ha

/-- The windows' write is made where it was posted (R633). -/
theorem postedWrite_win {s : State} {off : Nat} {bs : List Byte} {rest : List Posted} (fail : Bool)
    (h : s.nv.posted = .win off bs :: rest) : postedWrite s fail = ({ s.count32 NVM_SYNC 1 with
      nv := { s.nv with posted := rest }, mem := { s.mem with mram := mramPut s.mem.mram off bs } }, none) := by
  simp [postedWrite, h]

/-- The store without the write that is made. -/
def takePosted (s : State) (rest : List Posted) : State := { s with nv := { s.nv with posted := rest } }

theorem postedWrite_record {s : State} {key fmt : Nat} {bs : List Byte} {w : Option JReq} {rest : List Posted}
    (h : s.nv.posted = .record key fmt bs w :: rest) (hfree : keyBlocked s key = false) :
    postedWrite s false = ((takePosted s rest).setNvRec key (((takePosted s rest).nvRec key).write fmt bs), w.map fun q => (q, true)) := by
  have hfree' : keyBlocked (takePosted s rest) key = false := hfree
  unfold takePosted at *
  simp [postedWrite, h, hfree']

/-- A record that does not read back: shown, counted and recorded. -/
def notWritten (s : State) (key fmt : Nat) (bs : List Byte) : State :=
  ((((s.setNvRec key ((s.nvRec key).spoil fmt bs)).setFlag NVM_STAT_WERR true).count32 NVM_WERRCNT 1).raise 63).record 0x0003 2 0 0
    [key, b2n (s.nvRec key).loser]

theorem postedWrite_fails {s : State} {key fmt : Nat} {bs : List Byte} {w : Option JReq} {rest : List Posted}
    (h : s.nv.posted = .record key fmt bs w :: rest) (hfree : keyBlocked s key = false) :
    postedWrite s true = (notWritten (takePosted s rest) key fmt bs, w.map fun q => (q, false)) := by
  have hfree' : keyBlocked (takePosted s rest) key = false := hfree
  unfold takePosted notWritten at *
  simp [postedWrite, h, hfree']

theorem notWritten_says (s : State) (key fmt : Nat) (bs : List Byte) :
    (notWritten s key fmt bs).nv = (s.setNvRec key ((s.nvRec key).spoil fmt bs)).nv ∧
      (notWritten s key fmt bs).flag NVM_STAT_WERR = true := by
  constructor
  · simp [notWritten]
  · rw [notWritten, flag_of_reg (record_reg (by decide)), flag_of_reg (raise_reg (by decide)),
      flag_of_reg (count32_reg (by decide))]
    exact flag_setFlag_true _ _ (by decide) (by decide)

theorem postedReady_record {s : State} {key fmt : Nat} {bs : List Byte} {w : Option JReq} {rest : List Posted}
    (h : s.nv.posted = .record key fmt bs w :: rest) (hsave : s.nv.saving = none) : postedReady s = true := by
  simp [postedReady, h, hsave]

/-- A posted write that is made leaves the queue, and the save as it was. -/
theorem postedStep_takes {s : State} {p : Posted} {rest : List Posted} (h : s.nv.posted = p :: rest) (hsave : s.nv.saving = none) :
    (postedStep s false).nv.posted = rest ∧ (postedStep s false).nv.saving = none := by
  have hready : postedReady s = true := by
    cases p <;> simp [postedReady, h, hsave]
  rw [postedStep_ready false hready, postedAnswer_nv]
  cases p with
  | win off bs =>
    rw [postedWrite_win false h]
    exact ⟨rfl, hsave⟩
  | record key fmt bs w =>
    unfold postedWrite
    rw [h]
    dsimp only
    split
    · split <;> simp [hsave]
    · exact ⟨rfl, hsave⟩

theorem postedAll_empties (n : Nat) {s : State} (h : s.nv.posted.length = n) (hsave : s.nv.saving = none) :
    (postedAll s n).nv.posted = [] := by
  induction n generalizing s with
  | zero => exact List.length_eq_zero_iff.mp h
  | succ n ih =>
    obtain ⟨p, rest, hp⟩ := List.exists_cons_of_length_eq_add_one h
    obtain ⟨hrest, hsave'⟩ := postedStep_takes hp hsave
    exact ih (by rw [hrest]; simpa [hp] using h) hsave'

/-! ### NVM_SYNC -/

/-- NVM_SYNC is read as any register: an aligned word of the peripheral area. -/
theorem nvmSync_area : areaOf NVM_SYNC = some .periph ∧ NVM_SYNC % 4 = 0 ∧ regThere NVM_SYNC = true ∧ isRtcFive NVM_SYNC = false ∧
    NVM_SYNC ≠ GZ_SUBDATA := by decide

theorem nvmSync_reads {s : State} {core : CoreId} (hmay : MayRead s core NVM_SYNC) : exec (.nvmSyncRead core) s =
    .next { regClear (postedAll s s.nv.posted.length) NVM_SYNC with
      rdata := toWord (regPeek (postedAll s s.nv.posted.length) NVM_SYNC) } := by
  obtain ⟨harea, h4, hthere, hfive, hsub⟩ := nvmSync_area
  obtain ⟨hlive, haudit, hperm, hgate⟩ := hmay
  refine congrArg Host.Outcome.next ((coreLoad_permitted s core.val NVM_SYNC hlive haudit harea h4
    (by simp [periphReadable, hthere, hperm, hgate])).trans ?_)
  simp only [periphRead, hfive, hsub, Bool.false_eq_true, ite_false, ite_true]

/-! ### Flash -/

theorem flashComplete_ends {s : State} {op : FlashOp} (v : Bool) (h : s.nv.flash = some op) :
    exec (.flashOperationComplete v) s = .next (updStep (flashEnd s v) op v) := by
  show execFlashOperationComplete v s = _
  simp [execFlashOperationComplete, h]

theorem updStep_idle {s : State} (op : FlashOp) (v : Bool) (h : s.boot.updWork = none) : updStep s op v = s := by
  simp [updStep, h]

theorem flashErr_shows (s : State) : (flashErr s 4).fld NVM_FSTAT_ERR = 4 :=
  fld_setFld_same s NVM_FSTAT_ERR 4 (by decide) (by decide)

/-- An operation that ended, before its verification. -/
def flashDone (s : State) (op : FlashOp) : State :=
  match op with
  | .erase sector => (eraseSector { s with nv := { s.nv with flash := none } } sector).ctrUp (ctrErase sector)
  | .program off bs => programFlash { s with nv := { s.nv with flash := none } } off bs

theorem flashEnd_eq {s : State} {op : FlashOp} (v : Bool) (h : s.nv.flash = some op) :
    flashEnd s v = if v then flashDone s op else flashErr (flashDone s op) 4 := by
  unfold flashEnd
  rw [h]
  cases op <;> rfl

/-- What an operation's end leaves by its verification. -/
theorem flashEnd_says {s : State} {op : FlashOp} (v : Bool) (h : s.nv.flash = some op) :
    (flashEnd s v).nv = (flashDone s op).nv ∧ (flashEnd s v).mem = (flashDone s op).mem ∧
      (v = false → (flashEnd s v).fld NVM_FSTAT_ERR = 4) ∧ (v = true → (flashEnd s v).regs = (flashDone s op).regs) := by
  rw [flashEnd_eq v h]
  cases v
  · exact ⟨rfl, rfl, fun _ => flashErr_shows _, fun hv => by simp at hv⟩
  · exact ⟨rfl, rfl, fun hv => by simp at hv, fun _ => rfl⟩

/-- Settles O56: recall by its scan, a posted write by its kind, a read of NVM_SYNC by the writes that it waits for. -/
theorem storage : Obligations.Storage := by
  refine ⟨fun s hheld => ⟨recallComplete_idle, fun h => ⟨_, recallComplete_scans hheld h, recallScan_says s⟩⟩, fun v s h => ?_,
    fun v s off bs rest hheld hp => ?_, fun s key fmt bs w rest hheld hsave hp hfree => ?_, fun core s hmay => ?_,
    fun v s => ⟨fun h => ?_, fun n hop hwork => ?_, fun off bs hop hwork => ?_⟩⟩
  · rcases h with h | h
    · exact if_pos h
    · show execPostedWriteComplete v s = _
      simp [execPostedWriteComplete, postedStep, postedReady, h]
  · have hstep : postedStep s v = _ := (postedStep_ready v (by simp [postedReady, hp])).trans
      (congrArg (fun r : State × Option (JReq × Bool) => postedAnswer r.1 r.2) (postedWrite_win v hp))
    exact ⟨_, (if_neg (by simp [hheld])).trans (congrArg _ hstep), rfl, rfl, rfl, rfl, rfl, rfl⟩
  · have hready := postedReady_record hp hsave
    constructor
    · have hstep : postedStep s false = _ := (postedStep_ready false hready).trans
        (congrArg (fun r : State × Option (JReq × Bool) => postedAnswer r.1 r.2) (postedWrite_record hp hfree))
      refine ⟨_, (if_neg (by simp [hheld])).trans (congrArg _ hstep), ?_, ?_, fun j hj => ?_⟩
      · rw [State.nvValue, nvRec_of_nv (postedAnswer_nv _ _), nvRec_setNvRec, NvRec.value_write]
      · rw [postedAnswer_nv]
        rfl
      · rw [nvRec_of_nv (postedAnswer_nv _ _), nvRec_setNvRec_ne _ hj]
        rfl
    · have hstep : postedStep s true = _ := (postedStep_ready true hready).trans
        (congrArg (fun r : State × Option (JReq × Bool) => postedAnswer r.1 r.2) (postedWrite_fails hp hfree))
      obtain ⟨hnv, hflag⟩ := notWritten_says (takePosted s rest) key fmt bs
      refine ⟨_, (if_neg (by simp [hheld])).trans (congrArg _ hstep), ?_, ?_, ?_⟩
      · rw [State.nvValue, nvRec_of_nv (postedAnswer_nv _ _), nvRec_of_nv hnv, nvRec_setNvRec, NvRec.value_spoil]
        rfl
      · rw [postedAnswer_nv, hnv]
        rfl
      · exact (flag_of_reg (postedAnswer_reg _ _ ⟨by decide, by decide⟩)).trans hflag
  · have hread := nvmSync_reads hmay
    refine ⟨fun hsave => ⟨_, hread, ?_⟩, fun hnone => ?_⟩
    · have hnv : (regClear (postedAll s s.nv.posted.length) NVM_SYNC).nv = (postedAll s s.nv.posted.length).nv := by simp
      exact (congrArg NvState.posted hnv).trans (postedAll_empties _ rfl hsave)
    · rw [hnone] at hread
      refine ⟨_, hread, rfl, ?_, ?_, ?_⟩
      · exact (by simp : (regClear s NVM_SYNC).mem = s.mem)
      · exact (by simp : (regClear s NVM_SYNC).nv = s.nv)
      · exact (by simp : (regClear s NVM_SYNC).units = s.units)
  · show execFlashOperationComplete v s = _
    simp [execFlashOperationComplete, h]
  · obtain ⟨hnv, hmem, herr, hok⟩ := flashEnd_says v hop
    have hupd := updStep_idle (s := flashEnd s v) (.erase n) v (by simpa using hwork)
    refine ⟨_, (flashComplete_ends v hop).trans (congrArg _ hupd), ?_, ?_, herr, fun hv => (hok hv).trans ?_⟩
    · rw [hnv]
      simp [flashDone, State.ctrUp]
      split <;> rfl
    · rw [hmem]
      simp [flashDone, eraseSector]
    · simp [flashDone]
  · obtain ⟨hnv, hmem, herr, hok⟩ := flashEnd_says v hop
    have hupd := updStep_idle (s := flashEnd s v) (.program off bs) v (by simpa using hwork)
    refine ⟨_, (flashComplete_ends v hop).trans (congrArg _ hupd), by rw [hnv]; rfl, by rw [hmem]; rfl, herr,
      fun hv => ⟨hok hv, by rw [hnv]; rfl⟩⟩

end Sys2Proof.Machine
end

section
/-!
PROOF. Temperatures: readings, the thermal limit and the shutdown (R394, R416, R417).
-/
namespace Sys2Proof.Machine

/-! ### Readings -/

/-- The instant of a reading: the next multiple of 100 µs. -/
theorem at_reading (s : State) : s.now ≤ (s.at (ceilDiv s.now 100000 * 100000)).now ∧
    (s.at (ceilDiv s.now 100000 * 100000)).now < s.now + 100000 ∧ (s.at (ceilDiv s.now 100000 * 100000)).now % 100000 = 0 := by
  have hle := le_ceilDiv_mul s.now (show 0 < 100000 by decide)
  have hnow : (s.at (ceilDiv s.now 100000 * 100000)).now = ceilDiv s.now 100000 * 100000 := Nat.max_eq_right hle
  rw [hnow]
  refine ⟨hle, ?_, Nat.mul_mod_left _ _⟩
  have := Nat.div_mul_le_self (s.now + 100000 - 1) 100000
  rw [ceilDiv]
  omega

/-- A temperature as its register shows it. -/
def tempBits (x : Int) : Nat := (BitVec.ofInt 16 x).toNat

theorem tempBits_lt (x : Int) : tempBits x < 2 ^ 16 := (BitVec.ofInt 16 x).isLt

/-- The readings shown: of the islands, of the cores, and the highest as the junction's. -/
def shown (s : State) (isl : List Int) (c x : Int) : State :=
  (((List.range 4).foldl (fun s i => s.setFld (NRG_ISLTEMP_TEMP i) (tempBits (isl.getD i 0))) s).setFld NRG_CORETEMP_TEMP
    (tempBits c)).setFld NRG_TJ_TJ (tempBits x)

/-- The peak that has followed the junction temperature upwards. -/
def peaked (s : State) (x : Int) : State := if s.fldInt NRG_TJ_TJMAX < x then peakReset s else s

/-- Since when a sensor is at 125 °C or more. -/
def heated (s : State) (x : Int) : State :=
  s.modNrg fun n => { n with hot := if x < 1250 then none else match n.hot with | some y => some y | none => some s.now }

theorem temperatureRead_reads {isl : List Int} {c : Int} {s : State} (h : feltRuns s = true) :
    let u := s.at (ceilDiv s.now 100000 * 100000)
    let core := userEff u 0x3014 c 10
    let islands := (List.range 4).map fun i => userEff u (0x3010 + i) (isl.getD i 0) 10
    let x := islands.foldl Max.max core
    exec (.temperatureRead isl c) s = .next (thermalState (heated (peaked (shown u islands core x) x) x) x) :=
  if_neg (by simp [h])

theorem userEff_at (s : State) (t : Nat) : userEff (s.at t) = userEff s := by
  have hobj : (s.at t).objNum = s.objNum := objNum_of_objs rfl
  funext q v scale
  rw [userEff, userEff, hobj]

theorem shown_rest (s : State) (isl : List Int) (c x : Int) : (shown s isl c x).mem = s.mem ∧ (shown s isl c x).img = s.img ∧
    (shown s isl c x).units = s.units ∧ (shown s isl c x).now = s.now := by
  simp [shown]

/-- A reading leaves every register but those of temperatures. -/
theorem shown_reg {s : State} {isl : List Int} {c x : Int} {a : Nat} (hisl : ∀ i, i < 4 → a ≠ NRG_ISLTEMP i) (hcore : a ≠ NRG_CORETEMP)
    (htj : a ≠ NRG_TJ) : (shown s isl c x).reg a = s.reg a := by
  refine (reg_setFld_ne _ NRG_TJ_TJ _ _ htj).trans ((reg_setFld_ne _ NRG_CORETEMP_TEMP _ _ hcore).trans ?_)
  exact List.foldlRecOn (List.range 4) _ (motive := fun t : State => t.reg a = s.reg a) rfl fun t ht i hi =>
    (reg_setFld_ne _ _ _ _ (hisl i (List.mem_range.mp hi))).trans ht

theorem shown_tj (s : State) (isl : List Int) (c x : Int) : (shown s isl c x).fld NRG_TJ_TJ = tempBits x :=
  (fld_setFld_same _ NRG_TJ_TJ _ (by decide) (by decide)).trans (Nat.mod_eq_of_lt (tempBits_lt x))

theorem shown_tjmax (s : State) (isl : List Int) (c x : Int) : (shown s isl c x).fld NRG_TJ_TJMAX = s.fld NRG_TJ_TJMAX := by
  refine (fld_setFld_apart _ NRG_TJ_TJ NRG_TJ_TJMAX _ (by decide)).trans (fld_of_reg ?_)
  refine (reg_setFld_ne _ NRG_CORETEMP_TEMP NRG_TJ _ (by decide)).trans ?_
  refine List.foldlRecOn (List.range 4) _ (motive := fun t : State => t.reg NRG_TJ = s.reg NRG_TJ) rfl fun t ht i hi =>
    (reg_setFld_ne _ _ _ _ ?_).trans ht
  have := List.mem_range.mp hi
  simp only [NRG_TJ, NRG_ISLTEMP_TEMP, NRG_ISLTEMP]
  omega

theorem shown_stat (s : State) (isl : List Int) (c x : Int) : (shown s isl c x).reg NRG_STAT = s.reg NRG_STAT :=
  shown_reg (fun i hi => by simp only [NRG_STAT, NRG_ISLTEMP]; omega) (by decide) (by decide)

/-- The peak follows the junction temperature upwards (R394). -/
theorem peaked_says {s : State} {x : Int} (htj : s.fld NRG_TJ_TJ = tempBits x) : (peaked s x).fld NRG_TJ_TJ = tempBits x ∧
    (peaked s x).fld NRG_TJ_TJMAX = (if s.fldInt NRG_TJ_TJMAX < x then tempBits x else s.fld NRG_TJ_TJMAX) ∧
    (peaked s x).reg NRG_STAT = s.reg NRG_STAT := by
  unfold peaked
  split
  · refine ⟨(fld_setFld_apart _ NRG_TJ_TJMAX NRG_TJ_TJ _ (by decide)).trans htj, ?_, reg_setFld_ne _ NRG_TJ_TJMAX _ _ (by decide)⟩
    refine (fld_setFld_same _ NRG_TJ_TJMAX _ (by decide) (by decide)).trans ?_
    rw [htj]
    exact Nat.mod_eq_of_lt (tempBits_lt x)
  · exact ⟨htj, rfl, rfl⟩

theorem peaked_rest (s : State) (x : Int) : (peaked s x).mem = s.mem ∧ (peaked s x).img = s.img ∧ (peaked s x).units = s.units ∧
    (peaked s x).now = s.now := by
  unfold peaked peakReset
  split <;> simp

/-! ### The limit -/

theorem thermalState_tj (s : State) (x : Int) : (thermalState s x).reg NRG_TJ = s.reg NRG_TJ := by
  unfold thermalState
  split
  · split
    · exact reg_setFld_ne _ NRG_STAT_LIMITING _ _ (by decide)
    · rfl
  · split
    · exact reg_setFld_ne _ NRG_STAT_LIMITING _ _ (by decide)
    · rfl

theorem thermalState_rest (s : State) (x : Int) : (thermalState s x).mem = s.mem ∧ (thermalState s x).img = s.img ∧
    (thermalState s x).units = s.units ∧ (thermalState s x).now = s.now := by
  unfold thermalState
  split
  · split <;> simp
  · split <;> simp

theorem thermalState_begins {s : State} {x : Int} (h : s.flag NRG_STAT_LIMITING = false) (hx : 1100 ≤ x) :
    (thermalState s x).flag NRG_STAT_LIMITING = true ∧ (thermalState s x).nrg.limit = some (thermalState s x).now := by
  rw [thermalState, if_neg (by simp [h]), if_pos hx]
  exact ⟨flag_setFlag_same s NRG_STAT_LIMITING true (by decide) (by decide), rfl⟩

theorem thermalState_ends {s : State} {x : Int} (h : s.flag NRG_STAT_LIMITING = true) (hx : x < 1070) :
    (thermalState s x).flag NRG_STAT_LIMITING = false := by
  rw [thermalState, if_pos h, if_pos hx]
  exact flag_setFlag_same s NRG_STAT_LIMITING false (by decide) (by decide)

theorem thermalState_stays {s : State} {x : Int} (h1 : 1070 ≤ x) (h2 : x < 1100) : thermalState s x = s := by
  unfold thermalState
  split
  · exact if_neg (by omega)
  · exact if_neg (by omega)

theorem thermalLimit_limits {s : State} {x : Nat} (hlimit : s.nrg.limit = some x) (hfelt : feltRuns s = true)
    (hlimited : s.nrg.limited = false) (htj : 1100 ≤ tj s)
    (hlowest : ∀ i < 4, s.flag (NRG_ISLCTRL_FIX i) = true ∨ s.flag NRG_CTRL_EN = false ∨ s.fld (NRG_ISLSTAT_CODE i) = planCode s i) :
    exec .thermalLimitTimeout s = .next ((((((s.at (x + 10000000)).modNrg fun n => { n with limited := true }).setFlag
      NRG_STAT_LIMITSEEN true).raise 51)).record 0x0301 1 0 0
        [(((s.at (x + 10000000)).modNrg fun n => { n with limited := true }).reg NRG_TJ).toNat]) := by
  have hall : ((List.range 4).all fun i =>
      s.flag (NRG_ISLCTRL_FIX i) || !s.flag NRG_CTRL_EN || s.fld (NRG_ISLSTAT_CODE i) == planCode s i) = true := by
    refine List.all_eq_true.mpr fun i hi => ?_
    rcases hlowest i (List.mem_range.mp hi) with h | h | h <;> simp [h]
  show execThermalLimitTimeout s = _
  unfold execThermalLimitTimeout
  rw [hlimit]
  dsimp only
  rw [hall, if_pos (by simp [hfelt, hlimited, htj])]

/-! ### The shutdown -/

theorem tornSave_boot (s : State) : (tornSave s).boot = s.boot ∧ (tornSave s).field = s.field := by
  unfold tornSave
  split
  · exact ⟨rfl, rfl⟩
  · exact ⟨rfl, rfl⟩

/-- The module at a thermal shutdown, with its field side sent to the safe pattern. -/
def overheated (s : State) : State := fieldCmd (tornSave (match s.nrg.hot with | some t => s.at (t + 100000) | none => s)) .safe

theorem overheated_says (s : State) : (overheated s).boot = s.boot ∧ .safe ∈ (overheated s).field.cmds := by
  constructor
  · refine ((tornSave_boot _).1).trans ?_
    split <;> rfl
  · simp [overheated]

theorem beforeReset_field (s : State) : (beforeReset s).field = s.field := by
  unfold beforeReset
  split <;> simp

/-- The state after a reading of junction temperature x. -/
def read (u : State) (isl : List Int) (c x : Int) : State := thermalState (heated (peaked (shown u isl c x) x) x) x

/-- What a reading keeps of the registers on the way to the limit. -/
theorem read_regs (u : State) (isl : List Int) (c x : Int) : (read u isl c x).fld NRG_TJ_TJ = tempBits x ∧
    (read u isl c x).fld NRG_TJ_TJMAX = (if u.fldInt NRG_TJ_TJMAX < x then tempBits x else u.fld NRG_TJ_TJMAX) ∧
    (heated (peaked (shown u isl c x) x) x).flag NRG_STAT_LIMITING = u.flag NRG_STAT_LIMITING := by
  obtain ⟨htj, hmax, hstat⟩ := peaked_says (shown_tj u isl c x)
  have hint : (shown u isl c x).fldInt NRG_TJ_TJMAX = u.fldInt NRG_TJ_TJMAX := congrArg (signed _) (shown_tjmax u isl c x)
  have hheat (s : State) : (heated s x).regs = s.regs := by simp [heated]
  have hkept (f : Fld) (hf : f.addr = NRG_TJ) : (read u isl c x).fld f = (peaked (shown u isl c x) x).fld f :=
    (fld_of_reg (by rw [hf]; exact thermalState_tj _ x)).trans (fld_of_regs (hheat _) f)
  refine ⟨(hkept _ rfl).trans htj, ?_, ?_⟩
  · rw [hkept _ rfl, hmax, hint, shown_tjmax]
  · exact flag_of_reg (((congrArg (fun r : Tbl Word => r.get 0 NRG_STAT) (hheat _)).trans hstat).trans (shown_stat u isl c x))

theorem read_rest (u : State) (isl : List Int) (c x : Int) : (read u isl c x).mem = u.mem ∧ (read u isl c x).img = u.img ∧
    (read u isl c x).units = u.units ∧ (read u isl c x).now = u.now := by
  obtain ⟨a1, a2, a3, a4⟩ := thermalState_rest (heated (peaked (shown u isl c x) x) x) x
  obtain ⟨b1, b2, b3, b4⟩ := peaked_rest (shown u isl c x) x
  obtain ⟨c1, c2, c3, c4⟩ := shown_rest u isl c x
  exact ⟨a1.trans (b1.trans c1), a2.trans (b2.trans c2), a3.trans (b3.trans c3), a4.trans (b4.trans c4)⟩

/-- Settles O40: a reading by what it shows and what the limit makes of it; the shutdown by its reset. -/
theorem temperatures : Obligations.Temperatures := by
  refine ⟨fun isl c s hfelt => ?_, fun s x hlimit hfelt hlimited htj hlowest => ?_, fun s hheld => ?_,
    fun temps s => ⟨fun h => if_pos h, fun h => if_neg (by simp [h])⟩⟩
  · intro x
    have hexec := temperatureRead_reads (isl := isl) (c := c) hfelt
    dsimp only at hexec
    rw [userEff_at] at hexec
    refine ⟨_, hexec, ?_⟩
    have hat := at_reading s
    obtain ⟨htj, hmax, hflag⟩ := read_regs (s.at (ceilDiv s.now 100000 * 100000))
      ((List.range 4).map fun i => userEff s (0x3010 + i) (isl.getD i 0) 10) (userEff s 0x3014 c 10) x
    obtain ⟨hmem, himg, hunits, hnow⟩ := read_rest (s.at (ceilDiv s.now 100000 * 100000))
      ((List.range 4).map fun i => userEff s (0x3010 + i) (isl.getD i 0) 10) (userEff s 0x3014 c 10) x
    refine ⟨htj, hmax, fun h hx => thermalState_begins (hflag.trans h) hx, fun h hx => thermalState_ends (hflag.trans h) hx,
      fun h1 h2 => ?_, hmem, himg, hunits, ?_⟩
    · rw [thermalState_stays h1 h2]
      exact hflag
    · exact hnow ▸ hat
  · refine ⟨_, thermalLimit_limits hlimit hfelt hlimited htj hlowest, by simp, ?_, by simp, by simp, by simp, by simp⟩
    rw [flag_of_reg (record_reg (by decide)), flag_of_reg (raise_reg (by decide))]
    exact flag_setFlag_same _ NRG_STAT_LIMITSEEN true (by decide) (by decide)
  · obtain ⟨hboot, hcmd⟩ := overheated_says s
    have hheld' : (overheated s).boot.held = false := by rw [hboot, hheld]
    obtain ⟨h1, h2, h3, -, -, -, -, hregs, -⟩ := moduleReset_says (overheated s) srcThermal hheld'
    refine ⟨(moduleReset (overheated s) srcThermal).modBoot fun b => { b with thermal := true }, rfl, h1, rfl, h2, h3, hregs, ?_, ?_⟩
    · rw [moduleReset_released _ _ hheld']
      rfl
    · rw [moduleReset_released _ _ hheld']
      show .safe ∈ (beforeReset (overheated s)).field.cmds
      rw [beforeReset_field]
      exact hcmd

end Sys2Proof.Machine
end

section
/-!
PROOF. Frames of a pair's changes of role and of its heartbeats (R436 to R442).
-/
namespace Sys2Proof.Machine

section

variable {α : Type} (f : State → α → State) (xs : List α) (s : State)

@[simp] theorem State.foldl_hb (hf : ∀ s x, (f s x).hsb.hb = s.hsb.hb) : (xs.foldl f s).hsb.hb = s.hsb.hb :=
  foldl_keeps (fun s => s.hsb.hb) f hf xs s

@[simp] theorem State.foldl_lost (hf : ∀ s x, (f s x).hsb.lost = s.hsb.lost) : (xs.foldl f s).hsb.lost = s.hsb.lost :=
  foldl_keeps (fun s => s.hsb.lost) f hf xs s

@[simp] theorem State.foldl_partner (hf : ∀ s x, (f s x).hsb.partner = s.hsb.partner) :
    (xs.foldl f s).hsb.partner = s.hsb.partner :=
  foldl_keeps (fun s => s.hsb.partner) f hf xs s

@[simp] theorem State.foldl_rxNotice (hf : ∀ s x, (f s x).hsb.rxNotice = s.hsb.rxNotice) :
    (xs.foldl f s).hsb.rxNotice = s.hsb.rxNotice :=
  foldl_keeps (fun s => s.hsb.rxNotice) f hf xs s

@[simp] theorem State.foldl_copying (hf : ∀ s x, (f s x).hsb.copying = s.hsb.copying) :
    (xs.foldl f s).hsb.copying = s.hsb.copying :=
  foldl_keeps (fun s => s.hsb.copying) f hf xs s

end

@[simp] theorem controlItem_hears (s : State) (k kind : Nat) (item : List Byte) :
    (controlItem s k kind item).hsb.hb = s.hsb.hb ∧ (controlItem s k kind item).hsb.lost = s.hsb.lost ∧
      (controlItem s k kind item).hsb.partner = s.hsb.partner ∧ (controlItem s k kind item).hsb.rxNotice = s.hsb.rxNotice ∧
      (controlItem s k kind item).hsb.copying = s.hsb.copying := by
  unfold controlItem controlRecord countDelta
  split
  · simp only [State.send_rest, State.modHsb]
    split <;> simp
  · simp

theorem finishStop_hsb (s : State) : (finishStop s).hsb = s.hsb := by simp

@[simp] theorem programStop_hears (s : State) (cause k : Nat) : (programStop s cause k).hsb.hb = s.hsb.hb ∧
    (programStop s cause k).hsb.lost = s.hsb.lost ∧ (programStop s cause k).hsb.partner = s.hsb.partner ∧
    (programStop s cause k).hsb.rxNotice = s.hsb.rxNotice := by
  unfold programStop
  split
  · dsimp only
    rw [finishStop_hsb]
    repeat' split
    all_goals simp
  · simp

@[simp] theorem setRole_hears (s : State) (r : Nat) : (setRole s r).hsb.hb = s.hsb.hb ∧
    (setRole s r).hsb.lost = s.hsb.lost ∧ (setRole s r).hsb.partner = s.hsb.partner ∧
    (setRole s r).hsb.rxNotice = s.hsb.rxNotice ∧ (setRole s r).hsb.copying = s.hsb.copying := by
  unfold setRole
  split <;> simp

@[simp] theorem setRole_role (s : State) (r : Nat) : (setRole s r).hsb.role = r := by
  unfold setRole
  split
  · assumption
  · simp

@[simp] theorem prove_hears (s : State) (sub : Nat) : (prove s sub).hsb.hb = s.hsb.hb ∧ (prove s sub).hsb.lost = s.hsb.lost ∧
    (prove s sub).hsb.partner = s.hsb.partner ∧ (prove s sub).hsb.rxNotice = s.hsb.rxNotice ∧
    (prove s sub).hsb.copying = s.hsb.copying := ⟨rfl, rfl, rfl, rfl, rfl⟩

@[simp] theorem State.drawWord_rest (s : State) :
    (State.drawWord s).2.now = s.now ∧ (State.drawWord s).2.pending = s.pending ∧ (State.drawWord s).2.rdata = s.rdata ∧
      (State.drawWord s).2.regs = s.regs ∧ (State.drawWord s).2.mem = s.mem ∧ (State.drawWord s).2.units = s.units ∧
      (State.drawWord s).2.objs = s.objs ∧ (State.drawWord s).2.prog = s.prog ∧ (State.drawWord s).2.img = s.img ∧
      (State.drawWord s).2.tsk = s.tsk ∧ (State.drawWord s).2.gz = s.gz ∧ (State.drawWord s).2.evc = s.evc ∧
      (State.drawWord s).2.nv = s.nv ∧ (State.drawWord s).2.rtc = s.rtc ∧ (State.drawWord s).2.wdg = s.wdg ∧
      (State.drawWord s).2.frz = s.frz ∧ (State.drawWord s).2.rcd = s.rcd ∧ (State.drawWord s).2.boot = s.boot ∧
      (State.drawWord s).2.phr = s.phr ∧ (State.drawWord s).2.lpe = s.lpe ∧ (State.drawWord s).2.trc = s.trc ∧
      (State.drawWord s).2.nrg = s.nrg ∧ (State.drawWord s).2.hsb = s.hsb ∧ (State.drawWord s).2.field = s.field ∧
      (State.drawWord s).2.can = s.can ∧ (State.drawWord s).2.saf = s.saf ∧ (State.drawWord s).2.jrn = s.jrn ∧
      (State.drawWord s).2.stations = s.stations ∧ (State.drawWord s).2.sent = s.sent := by
  unfold State.drawWord
  simp

@[simp] theorem State.drawBit_rest (s : State) :
    (State.drawBit s).2.now = s.now ∧ (State.drawBit s).2.pending = s.pending ∧ (State.drawBit s).2.rdata = s.rdata ∧
      (State.drawBit s).2.regs = s.regs ∧ (State.drawBit s).2.mem = s.mem ∧ (State.drawBit s).2.units = s.units ∧
      (State.drawBit s).2.objs = s.objs ∧ (State.drawBit s).2.prog = s.prog ∧ (State.drawBit s).2.img = s.img ∧
      (State.drawBit s).2.tsk = s.tsk ∧ (State.drawBit s).2.gz = s.gz ∧ (State.drawBit s).2.evc = s.evc ∧
      (State.drawBit s).2.nv = s.nv ∧ (State.drawBit s).2.rtc = s.rtc ∧ (State.drawBit s).2.wdg = s.wdg ∧
      (State.drawBit s).2.frz = s.frz ∧ (State.drawBit s).2.rcd = s.rcd ∧ (State.drawBit s).2.boot = s.boot ∧
      (State.drawBit s).2.phr = s.phr ∧ (State.drawBit s).2.lpe = s.lpe ∧ (State.drawBit s).2.trc = s.trc ∧
      (State.drawBit s).2.nrg = s.nrg ∧ (State.drawBit s).2.hsb = s.hsb ∧ (State.drawBit s).2.field = s.field ∧
      (State.drawBit s).2.can = s.can ∧ (State.drawBit s).2.saf = s.saf ∧ (State.drawBit s).2.jrn = s.jrn ∧
      (State.drawBit s).2.stations = s.stations ∧ (State.drawBit s).2.sent = s.sent := by
  unfold State.drawBit
  simp

@[simp] theorem State.modLoop_rest (s : State) (n : Nat) (f : LoopSt → LoopSt) :
    (State.modLoop s n f).now = s.now ∧ (State.modLoop s n f).pending = s.pending ∧ (State.modLoop s n f).draws = s.draws ∧
      (State.modLoop s n f).rdata = s.rdata ∧ (State.modLoop s n f).regs = s.regs ∧ (State.modLoop s n f).mem = s.mem ∧
      (State.modLoop s n f).units = s.units ∧ (State.modLoop s n f).objs = s.objs ∧ (State.modLoop s n f).prog = s.prog ∧
      (State.modLoop s n f).img = s.img ∧ (State.modLoop s n f).tsk = s.tsk ∧ (State.modLoop s n f).gz = s.gz ∧
      (State.modLoop s n f).evc = s.evc ∧ (State.modLoop s n f).nv = s.nv ∧ (State.modLoop s n f).rtc = s.rtc ∧
      (State.modLoop s n f).wdg = s.wdg ∧ (State.modLoop s n f).frz = s.frz ∧ (State.modLoop s n f).rcd = s.rcd ∧
      (State.modLoop s n f).boot = s.boot ∧ (State.modLoop s n f).phr = s.phr ∧ (State.modLoop s n f).trc = s.trc ∧
      (State.modLoop s n f).nrg = s.nrg ∧ (State.modLoop s n f).hsb = s.hsb ∧ (State.modLoop s n f).field = s.field ∧
      (State.modLoop s n f).can = s.can ∧ (State.modLoop s n f).saf = s.saf ∧ (State.modLoop s n f).jrn = s.jrn ∧
      (State.modLoop s n f).stations = s.stations ∧ (State.modLoop s n f).sent = s.sent := by
  unfold State.modLoop
  simp

@[simp] theorem State.persistNow_rest (s : State) (key : Nat) (payload : List Byte) :
    (State.persistNow s key payload).now = s.now ∧ (State.persistNow s key payload).pending = s.pending ∧
      (State.persistNow s key payload).draws = s.draws ∧ (State.persistNow s key payload).rdata = s.rdata ∧
      (State.persistNow s key payload).regs = s.regs ∧ (State.persistNow s key payload).mem = s.mem ∧
      (State.persistNow s key payload).units = s.units ∧ (State.persistNow s key payload).objs = s.objs ∧
      (State.persistNow s key payload).prog = s.prog ∧ (State.persistNow s key payload).img = s.img ∧
      (State.persistNow s key payload).tsk = s.tsk ∧ (State.persistNow s key payload).gz = s.gz ∧
      (State.persistNow s key payload).evc = s.evc ∧ (State.persistNow s key payload).rtc = s.rtc ∧
      (State.persistNow s key payload).wdg = s.wdg ∧ (State.persistNow s key payload).frz = s.frz ∧
      (State.persistNow s key payload).rcd = s.rcd ∧ (State.persistNow s key payload).boot = s.boot ∧
      (State.persistNow s key payload).phr = s.phr ∧ (State.persistNow s key payload).lpe = s.lpe ∧
      (State.persistNow s key payload).trc = s.trc ∧ (State.persistNow s key payload).nrg = s.nrg ∧
      (State.persistNow s key payload).hsb = s.hsb ∧ (State.persistNow s key payload).field = s.field ∧
      (State.persistNow s key payload).can = s.can ∧ (State.persistNow s key payload).saf = s.saf ∧
      (State.persistNow s key payload).jrn = s.jrn ∧ (State.persistNow s key payload).stations = s.stations ∧
      (State.persistNow s key payload).sent = s.sent := by
  unfold State.persistNow
  simp

@[simp] theorem storeEpoch_rest (s : State) (e : Nat) :
    (storeEpoch s e).now = s.now ∧ (storeEpoch s e).pending = s.pending ∧ (storeEpoch s e).draws = s.draws ∧
      (storeEpoch s e).rdata = s.rdata ∧ (storeEpoch s e).regs = s.regs ∧ (storeEpoch s e).mem = s.mem ∧
      (storeEpoch s e).units = s.units ∧ (storeEpoch s e).objs = s.objs ∧ (storeEpoch s e).prog = s.prog ∧
      (storeEpoch s e).img = s.img ∧ (storeEpoch s e).tsk = s.tsk ∧ (storeEpoch s e).gz = s.gz ∧ (storeEpoch s e).evc = s.evc ∧
      (storeEpoch s e).rtc = s.rtc ∧ (storeEpoch s e).wdg = s.wdg ∧ (storeEpoch s e).frz = s.frz ∧
      (storeEpoch s e).rcd = s.rcd ∧ (storeEpoch s e).boot = s.boot ∧ (storeEpoch s e).phr = s.phr ∧
      (storeEpoch s e).lpe = s.lpe ∧ (storeEpoch s e).trc = s.trc ∧ (storeEpoch s e).nrg = s.nrg ∧
      (storeEpoch s e).hsb.unit = s.hsb.unit ∧ (storeEpoch s e).hsb.role = s.hsb.role ∧
      (storeEpoch s e).hsb.partner = s.hsb.partner ∧ (storeEpoch s e).hsb.hb = s.hsb.hb ∧
      (storeEpoch s e).hsb.lost = s.hsb.lost ∧ (storeEpoch s e).hsb.rxNotice = s.hsb.rxNotice ∧
      (storeEpoch s e).field = s.field ∧ (storeEpoch s e).can = s.can ∧ (storeEpoch s e).saf = s.saf ∧
      (storeEpoch s e).jrn = s.jrn ∧ (storeEpoch s e).stations = s.stations ∧ (storeEpoch s e).sent = s.sent := by
  unfold storeEpoch
  simp

@[simp] theorem takeEpoch_rest (s : State) :
    (takeEpoch s).now = s.now ∧ (takeEpoch s).pending = s.pending ∧ (takeEpoch s).draws = s.draws ∧
      (takeEpoch s).rdata = s.rdata ∧ (takeEpoch s).mem = s.mem ∧ (takeEpoch s).units = s.units ∧ (takeEpoch s).objs = s.objs ∧
      (takeEpoch s).prog = s.prog ∧ (takeEpoch s).img = s.img ∧ (takeEpoch s).tsk = s.tsk ∧ (takeEpoch s).gz = s.gz ∧
      (takeEpoch s).evc = s.evc ∧ (takeEpoch s).rtc = s.rtc ∧ (takeEpoch s).wdg = s.wdg ∧ (takeEpoch s).frz = s.frz ∧
      (takeEpoch s).rcd = s.rcd ∧ (takeEpoch s).boot = s.boot ∧ (takeEpoch s).phr = s.phr ∧ (takeEpoch s).lpe = s.lpe ∧
      (takeEpoch s).trc = s.trc ∧ (takeEpoch s).nrg = s.nrg ∧ (takeEpoch s).hsb.unit = s.hsb.unit ∧
      (takeEpoch s).hsb.role = s.hsb.role ∧ (takeEpoch s).hsb.partner = s.hsb.partner ∧ (takeEpoch s).hsb.hb = s.hsb.hb ∧
      (takeEpoch s).hsb.lost = s.hsb.lost ∧ (takeEpoch s).hsb.rxNotice = s.hsb.rxNotice ∧ (takeEpoch s).field = s.field ∧
      (takeEpoch s).can = s.can ∧ (takeEpoch s).saf = s.saf ∧ (takeEpoch s).jrn = s.jrn ∧ (takeEpoch s).stations = s.stations ∧
      (takeEpoch s).sent = s.sent := by
  unfold takeEpoch
  simp

@[simp] theorem stnBad_rest (s : State) (k key : Nat) :
    (stnBad s k key).now = s.now ∧ (stnBad s k key).pending = s.pending ∧ (stnBad s k key).draws = s.draws ∧
      (stnBad s k key).rdata = s.rdata ∧ (stnBad s k key).regs = s.regs ∧ (stnBad s k key).mem = s.mem ∧
      (stnBad s k key).units = s.units ∧ (stnBad s k key).objs = s.objs ∧ (stnBad s k key).prog = s.prog ∧
      (stnBad s k key).img = s.img ∧ (stnBad s k key).gz = s.gz ∧ (stnBad s k key).evc = s.evc ∧ (stnBad s k key).nv = s.nv ∧
      (stnBad s k key).rtc = s.rtc ∧ (stnBad s k key).wdg = s.wdg ∧ (stnBad s k key).frz = s.frz ∧
      (stnBad s k key).rcd = s.rcd ∧ (stnBad s k key).boot = s.boot ∧ (stnBad s k key).phr = s.phr ∧
      (stnBad s k key).lpe = s.lpe ∧ (stnBad s k key).trc = s.trc ∧ (stnBad s k key).nrg = s.nrg ∧
      (stnBad s k key).hsb = s.hsb ∧ (stnBad s k key).field = s.field ∧ (stnBad s k key).can = s.can ∧
      (stnBad s k key).saf = s.saf ∧ (stnBad s k key).jrn = s.jrn ∧ (stnBad s k key).stations = s.stations ∧
      (stnBad s k key).sent = s.sent := by
  unfold stnBad
  simp

@[simp] theorem stnOutBad_rest (s : State) (k key : Nat) :
    (stnOutBad s k key).now = s.now ∧ (stnOutBad s k key).pending = s.pending ∧ (stnOutBad s k key).draws = s.draws ∧
      (stnOutBad s k key).rdata = s.rdata ∧ (stnOutBad s k key).regs = s.regs ∧ (stnOutBad s k key).mem = s.mem ∧
      (stnOutBad s k key).units = s.units ∧ (stnOutBad s k key).objs = s.objs ∧ (stnOutBad s k key).prog = s.prog ∧
      (stnOutBad s k key).img = s.img ∧ (stnOutBad s k key).gz = s.gz ∧ (stnOutBad s k key).evc = s.evc ∧
      (stnOutBad s k key).nv = s.nv ∧ (stnOutBad s k key).rtc = s.rtc ∧ (stnOutBad s k key).wdg = s.wdg ∧
      (stnOutBad s k key).frz = s.frz ∧ (stnOutBad s k key).rcd = s.rcd ∧ (stnOutBad s k key).boot = s.boot ∧
      (stnOutBad s k key).phr = s.phr ∧ (stnOutBad s k key).lpe = s.lpe ∧ (stnOutBad s k key).trc = s.trc ∧
      (stnOutBad s k key).nrg = s.nrg ∧ (stnOutBad s k key).hsb = s.hsb ∧ (stnOutBad s k key).field = s.field ∧
      (stnOutBad s k key).can = s.can ∧ (stnOutBad s k key).saf = s.saf ∧ (stnOutBad s k key).jrn = s.jrn ∧
      (stnOutBad s k key).stations = s.stations ∧ (stnOutBad s k key).sent = s.sent := by
  unfold stnOutBad
  simp

@[simp] theorem cyclicFailed_rest (s : State) (t : Tx) :
    (cyclicFailed s t).now = s.now ∧ (cyclicFailed s t).pending = s.pending ∧ (cyclicFailed s t).draws = s.draws ∧
      (cyclicFailed s t).rdata = s.rdata ∧ (cyclicFailed s t).regs = s.regs ∧ (cyclicFailed s t).mem = s.mem ∧
      (cyclicFailed s t).units = s.units ∧ (cyclicFailed s t).objs = s.objs ∧ (cyclicFailed s t).prog = s.prog ∧
      (cyclicFailed s t).img = s.img ∧ (cyclicFailed s t).gz = s.gz ∧ (cyclicFailed s t).evc = s.evc ∧
      (cyclicFailed s t).nv = s.nv ∧ (cyclicFailed s t).rtc = s.rtc ∧ (cyclicFailed s t).wdg = s.wdg ∧
      (cyclicFailed s t).frz = s.frz ∧ (cyclicFailed s t).rcd = s.rcd ∧ (cyclicFailed s t).boot = s.boot ∧
      (cyclicFailed s t).phr = s.phr ∧ (cyclicFailed s t).lpe = s.lpe ∧ (cyclicFailed s t).trc = s.trc ∧
      (cyclicFailed s t).nrg = s.nrg ∧ (cyclicFailed s t).hsb = s.hsb ∧ (cyclicFailed s t).field = s.field ∧
      (cyclicFailed s t).can = s.can ∧ (cyclicFailed s t).saf = s.saf ∧ (cyclicFailed s t).jrn = s.jrn ∧
      (cyclicFailed s t).stations = s.stations ∧ (cyclicFailed s t).sent = s.sent := by
  unfold cyclicFailed
  split <;> simp

@[simp] theorem withdraw_rest (s : State) (p : Tx → Bool) :
    (withdraw s p).now = s.now ∧ (withdraw s p).pending = s.pending ∧ (withdraw s p).draws = s.draws ∧
      (withdraw s p).rdata = s.rdata ∧ (withdraw s p).mem = s.mem ∧ (withdraw s p).units = s.units ∧
      (withdraw s p).objs = s.objs ∧ (withdraw s p).prog = s.prog ∧ (withdraw s p).img = s.img ∧ (withdraw s p).gz = s.gz ∧
      (withdraw s p).nv = s.nv ∧ (withdraw s p).rtc = s.rtc ∧ (withdraw s p).wdg = s.wdg ∧ (withdraw s p).frz = s.frz ∧
      (withdraw s p).rcd = s.rcd ∧ (withdraw s p).boot = s.boot ∧ (withdraw s p).phr.rings = s.phr.rings ∧
      (withdraw s p).phr.atStart = s.phr.atStart ∧ (withdraw s p).phr.linksDown = s.phr.linksDown ∧
      (withdraw s p).lpe = s.lpe ∧ (withdraw s p).trc = s.trc ∧ (withdraw s p).nrg = s.nrg ∧ (withdraw s p).hsb = s.hsb ∧
      (withdraw s p).field = s.field ∧ (withdraw s p).can = s.can ∧ (withdraw s p).saf = s.saf ∧ (withdraw s p).jrn = s.jrn ∧
      (withdraw s p).stations = s.stations ∧ (withdraw s p).sent = s.sent := by
  unfold withdraw
  simp

@[simp] theorem stepTime_rest (s : State) (d : Int) :
    (stepTime s d).pending = s.pending ∧ (stepTime s d).draws = s.draws ∧ (stepTime s d).rdata = s.rdata ∧
      (stepTime s d).regs = s.regs ∧ (stepTime s d).mem = s.mem ∧ (stepTime s d).units = s.units ∧
      (stepTime s d).objs = s.objs ∧ (stepTime s d).prog = s.prog ∧ (stepTime s d).img = s.img ∧ (stepTime s d).tsk = s.tsk ∧
      (stepTime s d).gz = s.gz ∧ (stepTime s d).evc = s.evc ∧ (stepTime s d).nv = s.nv ∧ (stepTime s d).wdg = s.wdg ∧
      (stepTime s d).frz = s.frz ∧ (stepTime s d).rcd = s.rcd ∧ (stepTime s d).boot.held = s.boot.held ∧
      (stepTime s d).boot.sources = s.boot.sources ∧ (stepTime s d).boot.stage = s.boot.stage ∧ (stepTime s d).phr = s.phr ∧
      (stepTime s d).lpe = s.lpe ∧ (stepTime s d).trc = s.trc ∧ (stepTime s d).nrg = s.nrg ∧ (stepTime s d).hsb = s.hsb ∧
      (stepTime s d).field = s.field ∧ (stepTime s d).can = s.can ∧ (stepTime s d).saf = s.saf ∧ (stepTime s d).jrn = s.jrn ∧
      (stepTime s d).stations = s.stations ∧ (stepTime s d).sent = s.sent := by
  unfold stepTime
  simp

@[simp] theorem fieldStrike_rest (s : State) (k : Nat) :
    (fieldStrike s k).now = s.now ∧ (fieldStrike s k).pending = s.pending ∧ (fieldStrike s k).draws = s.draws ∧
      (fieldStrike s k).rdata = s.rdata ∧ (fieldStrike s k).mem = s.mem ∧ (fieldStrike s k).units = s.units ∧
      (fieldStrike s k).objs = s.objs ∧ (fieldStrike s k).prog = s.prog ∧ (fieldStrike s k).img = s.img ∧
      (fieldStrike s k).tsk = s.tsk ∧ (fieldStrike s k).gz = s.gz ∧ (fieldStrike s k).nv = s.nv ∧
      (fieldStrike s k).rtc = s.rtc ∧ (fieldStrike s k).wdg = s.wdg ∧ (fieldStrike s k).frz = s.frz ∧
      (fieldStrike s k).rcd = s.rcd ∧ (fieldStrike s k).boot = s.boot ∧ (fieldStrike s k).phr = s.phr ∧
      (fieldStrike s k).lpe = s.lpe ∧ (fieldStrike s k).trc = s.trc ∧ (fieldStrike s k).nrg = s.nrg ∧
      (fieldStrike s k).hsb = s.hsb ∧ (fieldStrike s k).can = s.can ∧ (fieldStrike s k).saf = s.saf ∧
      (fieldStrike s k).jrn = s.jrn ∧ (fieldStrike s k).stations = s.stations ∧ (fieldStrike s k).sent = s.sent := by
  unfold fieldStrike
  simp (disch := intros; split <;> simp)

@[simp] theorem loopPublish_rest (s : State) (n : Nat) :
    (loopPublish s n).pending = s.pending ∧ (loopPublish s n).draws = s.draws ∧ (loopPublish s n).rdata = s.rdata ∧
      (loopPublish s n).regs = s.regs ∧ (loopPublish s n).mem = s.mem ∧ (loopPublish s n).units = s.units ∧
      (loopPublish s n).objs = s.objs ∧ (loopPublish s n).prog = s.prog ∧ (loopPublish s n).tsk = s.tsk ∧
      (loopPublish s n).gz = s.gz ∧ (loopPublish s n).evc = s.evc ∧ (loopPublish s n).nv = s.nv ∧
      (loopPublish s n).rtc = s.rtc ∧ (loopPublish s n).wdg = s.wdg ∧ (loopPublish s n).frz = s.frz ∧
      (loopPublish s n).rcd = s.rcd ∧ (loopPublish s n).boot = s.boot ∧ (loopPublish s n).phr = s.phr ∧
      (loopPublish s n).trc = s.trc ∧ (loopPublish s n).nrg = s.nrg ∧ (loopPublish s n).hsb = s.hsb ∧
      (loopPublish s n).field = s.field ∧ (loopPublish s n).can = s.can ∧ (loopPublish s n).saf = s.saf ∧
      (loopPublish s n).jrn = s.jrn ∧ (loopPublish s n).stations = s.stations ∧ (loopPublish s n).sent = s.sent := by
  unfold loopPublish
  dsimp only
  repeat' split
  all_goals simp

@[simp] theorem dropAligned_rest (s : State) (k : Nat) :
    (dropAligned s k).now = s.now ∧ (dropAligned s k).pending = s.pending ∧ (dropAligned s k).draws = s.draws ∧
      (dropAligned s k).rdata = s.rdata ∧ (dropAligned s k).regs = s.regs ∧ (dropAligned s k).mem = s.mem ∧
      (dropAligned s k).units = s.units ∧ (dropAligned s k).objs = s.objs ∧ (dropAligned s k).prog = s.prog ∧
      (dropAligned s k).img = s.img ∧ (dropAligned s k).tsk = s.tsk ∧ (dropAligned s k).gz = s.gz ∧
      (dropAligned s k).evc = s.evc ∧ (dropAligned s k).nv = s.nv ∧ (dropAligned s k).rtc = s.rtc ∧
      (dropAligned s k).wdg = s.wdg ∧ (dropAligned s k).frz = s.frz ∧ (dropAligned s k).rcd = s.rcd ∧
      (dropAligned s k).boot = s.boot ∧ (dropAligned s k).phr = s.phr ∧ (dropAligned s k).trc = s.trc ∧
      (dropAligned s k).nrg = s.nrg ∧ (dropAligned s k).hsb = s.hsb ∧ (dropAligned s k).field = s.field ∧
      (dropAligned s k).can = s.can ∧ (dropAligned s k).saf = s.saf ∧ (dropAligned s k).jrn = s.jrn ∧
      (dropAligned s k).stations = s.stations ∧ (dropAligned s k).sent = s.sent := by
  unfold dropAligned
  simp

@[simp] theorem leaveShadow_rest (s : State) (r : Nat) :
    (leaveShadow s r).now = s.now ∧ (leaveShadow s r).pending = s.pending ∧ (leaveShadow s r).draws = s.draws ∧
      (leaveShadow s r).rdata = s.rdata ∧ (leaveShadow s r).mem.code = s.mem.code ∧ (leaveShadow s r).mem.sram = s.mem.sram ∧
      (leaveShadow s r).mem.trace = s.mem.trace ∧ (leaveShadow s r).mem.fw = s.mem.fw ∧
      (leaveShadow s r).mem.flash = s.mem.flash ∧ (leaveShadow s r).objs = s.objs ∧ (leaveShadow s r).prog = s.prog ∧
      (leaveShadow s r).nv = s.nv ∧ (leaveShadow s r).rtc = s.rtc ∧ (leaveShadow s r).wdg = s.wdg ∧
      (leaveShadow s r).frz = s.frz ∧ (leaveShadow s r).boot = s.boot ∧ (leaveShadow s r).phr = s.phr ∧
      (leaveShadow s r).trc = s.trc ∧ (leaveShadow s r).hsb.unit = s.hsb.unit ∧ (leaveShadow s r).hsb.partner = s.hsb.partner ∧
      (leaveShadow s r).hsb.hb = s.hsb.hb ∧ (leaveShadow s r).hsb.lost = s.hsb.lost ∧
      (leaveShadow s r).hsb.rxNotice = s.hsb.rxNotice ∧ (leaveShadow s r).can = s.can ∧ (leaveShadow s r).saf = s.saf ∧
      (leaveShadow s r).jrn = s.jrn ∧ (leaveShadow s r).stations = s.stations ∧ (leaveShadow s r).sent = s.sent := by
  unfold leaveShadow
  simp

@[simp] theorem strikeMiss_rest (s : State) (k : Nat) :
    (strikeMiss s k).now = s.now ∧ (strikeMiss s k).pending = s.pending ∧ (strikeMiss s k).draws = s.draws ∧
      (strikeMiss s k).rdata = s.rdata ∧ (strikeMiss s k).mem.code = s.mem.code ∧ (strikeMiss s k).mem.sram = s.mem.sram ∧
      (strikeMiss s k).mem.trace = s.mem.trace ∧ (strikeMiss s k).mem.fw = s.mem.fw ∧
      (strikeMiss s k).mem.flash = s.mem.flash ∧ (strikeMiss s k).objs = s.objs ∧ (strikeMiss s k).prog = s.prog ∧
      (strikeMiss s k).nv = s.nv ∧ (strikeMiss s k).rtc = s.rtc ∧ (strikeMiss s k).wdg = s.wdg ∧ (strikeMiss s k).frz = s.frz ∧
      (strikeMiss s k).boot = s.boot ∧ (strikeMiss s k).phr.rings = s.phr.rings ∧
      (strikeMiss s k).phr.atStart = s.phr.atStart ∧ (strikeMiss s k).phr.linksDown = s.phr.linksDown ∧
      (strikeMiss s k).trc = s.trc ∧ (strikeMiss s k).hsb.unit = s.hsb.unit ∧ (strikeMiss s k).hsb.role = s.hsb.role ∧
      (strikeMiss s k).hsb.partner = s.hsb.partner ∧ (strikeMiss s k).hsb.hb = s.hsb.hb ∧
      (strikeMiss s k).hsb.lost = s.hsb.lost ∧ (strikeMiss s k).hsb.rxNotice = s.hsb.rxNotice ∧ (strikeMiss s k).saf = s.saf ∧
      (strikeMiss s k).jrn = s.jrn ∧ (strikeMiss s k).stations = s.stations := by
  unfold strikeMiss
  split <;> simp

@[simp] theorem publishPub_rest (s : State) (p : Pub) :
    (publishPub s p).now = s.now ∧ (publishPub s p).pending = s.pending ∧ (publishPub s p).draws = s.draws ∧
      (publishPub s p).rdata = s.rdata ∧ (publishPub s p).regs = s.regs ∧ (publishPub s p).mem = s.mem ∧
      (publishPub s p).units = s.units ∧ (publishPub s p).objs = s.objs ∧ (publishPub s p).prog = s.prog ∧
      (publishPub s p).gz = s.gz ∧ (publishPub s p).evc = s.evc ∧ (publishPub s p).nv = s.nv ∧ (publishPub s p).rtc = s.rtc ∧
      (publishPub s p).wdg = s.wdg ∧ (publishPub s p).frz = s.frz ∧ (publishPub s p).rcd = s.rcd ∧
      (publishPub s p).boot = s.boot ∧ (publishPub s p).phr = s.phr ∧ (publishPub s p).trc = s.trc ∧
      (publishPub s p).nrg = s.nrg ∧ (publishPub s p).hsb = s.hsb ∧ (publishPub s p).field = s.field ∧
      (publishPub s p).can = s.can ∧ (publishPub s p).saf = s.saf ∧ (publishPub s p).jrn = s.jrn ∧
      (publishPub s p).stations = s.stations ∧ (publishPub s p).sent = s.sent := by
  unfold publishPub
  simp

@[simp] theorem publish_rest (s : State) (k : Nat) :
    (publish s k).now = s.now ∧ (publish s k).pending = s.pending ∧ (publish s k).draws = s.draws ∧
      (publish s k).rdata = s.rdata ∧ (publish s k).regs = s.regs ∧ (publish s k).mem = s.mem ∧ (publish s k).units = s.units ∧
      (publish s k).objs = s.objs ∧ (publish s k).prog = s.prog ∧ (publish s k).gz = s.gz ∧ (publish s k).evc = s.evc ∧
      (publish s k).nv = s.nv ∧ (publish s k).rtc = s.rtc ∧ (publish s k).wdg = s.wdg ∧ (publish s k).frz = s.frz ∧
      (publish s k).rcd = s.rcd ∧ (publish s k).boot = s.boot ∧ (publish s k).phr = s.phr ∧ (publish s k).trc = s.trc ∧
      (publish s k).nrg = s.nrg ∧ (publish s k).hsb = s.hsb ∧ (publish s k).field = s.field ∧ (publish s k).can = s.can ∧
      (publish s k).saf = s.saf ∧ (publish s k).jrn = s.jrn ∧ (publish s k).stations = s.stations ∧ (publish s k).sent = s.sent := by
  unfold publish
  simp

@[simp] theorem strikePublish_rest (s : State) (k : Nat) :
    (strikePublish s k).now = s.now ∧ (strikePublish s k).pending = s.pending ∧ (strikePublish s k).draws = s.draws ∧
      (strikePublish s k).rdata = s.rdata ∧ (strikePublish s k).regs = s.regs ∧ (strikePublish s k).mem = s.mem ∧
      (strikePublish s k).units = s.units ∧ (strikePublish s k).objs = s.objs ∧ (strikePublish s k).prog = s.prog ∧
      (strikePublish s k).gz = s.gz ∧ (strikePublish s k).evc = s.evc ∧ (strikePublish s k).nv = s.nv ∧
      (strikePublish s k).rtc = s.rtc ∧ (strikePublish s k).wdg = s.wdg ∧ (strikePublish s k).frz = s.frz ∧
      (strikePublish s k).rcd = s.rcd ∧ (strikePublish s k).boot = s.boot ∧ (strikePublish s k).phr = s.phr ∧
      (strikePublish s k).trc = s.trc ∧ (strikePublish s k).nrg = s.nrg ∧ (strikePublish s k).hsb = s.hsb ∧
      (strikePublish s k).field = s.field ∧ (strikePublish s k).can = s.can ∧ (strikePublish s k).saf = s.saf ∧
      (strikePublish s k).jrn = s.jrn ∧ (strikePublish s k).stations = s.stations ∧ (strikePublish s k).sent = s.sent := by
  unfold strikePublish
  simp

@[simp] theorem strike_rest (s : State) (k : Nat) :
    (strike s k).pending = s.pending ∧ (strike s k).draws = s.draws ∧ (strike s k).rdata = s.rdata ∧
      (strike s k).mem.code = s.mem.code ∧ (strike s k).mem.sram = s.mem.sram ∧ (strike s k).mem.trace = s.mem.trace ∧
      (strike s k).mem.fw = s.mem.fw ∧ (strike s k).mem.flash = s.mem.flash ∧ (strike s k).objs = s.objs ∧
      (strike s k).prog = s.prog ∧ (strike s k).nv = s.nv ∧ (strike s k).rtc = s.rtc ∧ (strike s k).wdg = s.wdg ∧
      (strike s k).frz = s.frz ∧ (strike s k).boot = s.boot ∧ (strike s k).phr.rings = s.phr.rings ∧
      (strike s k).phr.atStart = s.phr.atStart ∧ (strike s k).phr.linksDown = s.phr.linksDown ∧ (strike s k).trc = s.trc ∧
      (strike s k).hsb.unit = s.hsb.unit ∧ (strike s k).hsb.role = s.hsb.role ∧ (strike s k).hsb.partner = s.hsb.partner ∧
      (strike s k).hsb.hb = s.hsb.hb ∧ (strike s k).hsb.lost = s.hsb.lost ∧ (strike s k).hsb.rxNotice = s.hsb.rxNotice ∧
      (strike s k).saf = s.saf ∧ (strike s k).jrn = s.jrn ∧ (strike s k).stations = s.stations := by
  unfold strike
  dsimp only
  repeat' split
  all_goals simp

@[simp] theorem publishDue_rest (s : State) (t : Nat) :
    (publishDue s t).pending = s.pending ∧ (publishDue s t).draws = s.draws ∧ (publishDue s t).rdata = s.rdata ∧
      (publishDue s t).mem.code = s.mem.code ∧ (publishDue s t).mem.sram = s.mem.sram ∧
      (publishDue s t).mem.trace = s.mem.trace ∧ (publishDue s t).mem.fw = s.mem.fw ∧
      (publishDue s t).mem.flash = s.mem.flash ∧ (publishDue s t).objs = s.objs ∧ (publishDue s t).prog = s.prog ∧
      (publishDue s t).nv = s.nv ∧ (publishDue s t).rtc = s.rtc ∧ (publishDue s t).wdg = s.wdg ∧ (publishDue s t).frz = s.frz ∧
      (publishDue s t).boot = s.boot ∧ (publishDue s t).phr.rings = s.phr.rings ∧
      (publishDue s t).phr.atStart = s.phr.atStart ∧ (publishDue s t).phr.linksDown = s.phr.linksDown ∧
      (publishDue s t).trc = s.trc ∧ (publishDue s t).hsb.unit = s.hsb.unit ∧ (publishDue s t).hsb.role = s.hsb.role ∧
      (publishDue s t).hsb.partner = s.hsb.partner ∧ (publishDue s t).hsb.hb = s.hsb.hb ∧
      (publishDue s t).hsb.lost = s.hsb.lost ∧ (publishDue s t).hsb.rxNotice = s.hsb.rxNotice ∧ (publishDue s t).saf = s.saf ∧
      (publishDue s t).jrn = s.jrn ∧ (publishDue s t).stations = s.stations := by
  unfold publishDue
  simp (disch := intros; split <;> try simp)

@[simp] theorem nowActive_rest (s : State) :
    (nowActive s).now = s.now ∧ (nowActive s).pending = s.pending ∧ (nowActive s).draws = s.draws ∧
      (nowActive s).rdata = s.rdata ∧ (nowActive s).regs = s.regs ∧ (nowActive s).mem = s.mem ∧ (nowActive s).units = s.units ∧
      (nowActive s).objs = s.objs ∧ (nowActive s).prog = s.prog ∧ (nowActive s).img = s.img ∧ (nowActive s).tsk = s.tsk ∧
      (nowActive s).gz = s.gz ∧ (nowActive s).evc = s.evc ∧ (nowActive s).rtc = s.rtc ∧ (nowActive s).wdg = s.wdg ∧
      (nowActive s).frz = s.frz ∧ (nowActive s).rcd = s.rcd ∧ (nowActive s).boot = s.boot ∧ (nowActive s).phr = s.phr ∧
      (nowActive s).lpe = s.lpe ∧ (nowActive s).trc = s.trc ∧ (nowActive s).nrg = s.nrg ∧ (nowActive s).hsb.unit = s.hsb.unit ∧
      (nowActive s).hsb.role = s.hsb.role ∧ (nowActive s).hsb.partner = s.hsb.partner ∧ (nowActive s).hsb.hb = s.hsb.hb ∧
      (nowActive s).hsb.lost = s.hsb.lost ∧ (nowActive s).hsb.rxNotice = s.hsb.rxNotice ∧ (nowActive s).field = s.field ∧
      (nowActive s).can = s.can ∧ (nowActive s).saf = s.saf ∧ (nowActive s).jrn = s.jrn ∧ (nowActive s).stations = s.stations ∧
      (nowActive s).sent = s.sent := by
  unfold nowActive
  simp

@[simp] theorem becomeActive_rest (s : State) :
    (becomeActive s).now = s.now ∧ (becomeActive s).pending = s.pending ∧ (becomeActive s).draws = s.draws ∧
      (becomeActive s).rdata = s.rdata ∧ (becomeActive s).mem.code = s.mem.code ∧ (becomeActive s).mem.sram = s.mem.sram ∧
      (becomeActive s).mem.trace = s.mem.trace ∧ (becomeActive s).mem.fw = s.mem.fw ∧
      (becomeActive s).mem.flash = s.mem.flash ∧ (becomeActive s).units = s.units ∧ (becomeActive s).objs = s.objs ∧
      (becomeActive s).prog = s.prog ∧ (becomeActive s).img = s.img ∧ (becomeActive s).tsk = s.tsk ∧
      (becomeActive s).gz = s.gz ∧ (becomeActive s).rtc = s.rtc ∧ (becomeActive s).wdg = s.wdg ∧ (becomeActive s).frz = s.frz ∧
      (becomeActive s).boot = s.boot ∧ (becomeActive s).phr = s.phr ∧ (becomeActive s).lpe = s.lpe ∧
      (becomeActive s).trc = s.trc ∧ (becomeActive s).nrg = s.nrg ∧ (becomeActive s).hsb.unit = s.hsb.unit ∧
      (becomeActive s).hsb.partner = s.hsb.partner ∧ (becomeActive s).hsb.hb = s.hsb.hb ∧
      (becomeActive s).hsb.lost = s.hsb.lost ∧ (becomeActive s).hsb.rxNotice = s.hsb.rxNotice ∧ (becomeActive s).can = s.can ∧
      (becomeActive s).saf = s.saf ∧ (becomeActive s).jrn = s.jrn ∧ (becomeActive s).stations = s.stations ∧
      (becomeActive s).sent = s.sent := by
  unfold becomeActive
  simp

@[simp] theorem adoptStations_rest (s : State) :
    (adoptStations s).now = s.now ∧ (adoptStations s).pending = s.pending ∧ (adoptStations s).draws = s.draws ∧
      (adoptStations s).rdata = s.rdata ∧ (adoptStations s).regs = s.regs ∧ (adoptStations s).mem = s.mem ∧
      (adoptStations s).units = s.units ∧ (adoptStations s).objs = s.objs ∧ (adoptStations s).prog = s.prog ∧
      (adoptStations s).img = s.img ∧ (adoptStations s).tsk = s.tsk ∧ (adoptStations s).gz = s.gz ∧
      (adoptStations s).evc = s.evc ∧ (adoptStations s).nv = s.nv ∧ (adoptStations s).rtc = s.rtc ∧
      (adoptStations s).wdg = s.wdg ∧ (adoptStations s).frz = s.frz ∧ (adoptStations s).rcd = s.rcd ∧
      (adoptStations s).boot = s.boot ∧ (adoptStations s).phr.rings = s.phr.rings ∧
      (adoptStations s).phr.atStart = s.phr.atStart ∧ (adoptStations s).phr.linksDown = s.phr.linksDown ∧
      (adoptStations s).lpe = s.lpe ∧ (adoptStations s).trc = s.trc ∧ (adoptStations s).nrg = s.nrg ∧
      (adoptStations s).hsb = s.hsb ∧ (adoptStations s).field = s.field ∧ (adoptStations s).can = s.can ∧
      (adoptStations s).saf = s.saf ∧ (adoptStations s).jrn = s.jrn ∧ (adoptStations s).stations = s.stations ∧
      (adoptStations s).sent = s.sent := by
  unfold adoptStations
  simp

@[simp] theorem failover_rest (s : State) :
    (failover s).pending = s.pending ∧ (failover s).rdata = s.rdata ∧ (failover s).mem.code = s.mem.code ∧
      (failover s).mem.sram = s.mem.sram ∧ (failover s).mem.trace = s.mem.trace ∧ (failover s).mem.fw = s.mem.fw ∧
      (failover s).mem.flash = s.mem.flash ∧ (failover s).objs = s.objs ∧ (failover s).prog = s.prog ∧
      (failover s).rtc = s.rtc ∧ (failover s).wdg = s.wdg ∧ (failover s).frz = s.frz ∧ (failover s).boot = s.boot ∧
      (failover s).phr.rings = s.phr.rings ∧ (failover s).phr.atStart = s.phr.atStart ∧
      (failover s).phr.linksDown = s.phr.linksDown ∧ (failover s).trc = s.trc ∧ (failover s).hsb.unit = s.hsb.unit ∧
      (failover s).hsb.partner = s.hsb.partner ∧ (failover s).hsb.hb = s.hsb.hb ∧ (failover s).hsb.lost = s.hsb.lost ∧
      (failover s).hsb.rxNotice = s.hsb.rxNotice ∧ (failover s).saf = s.saf ∧ (failover s).jrn = s.jrn ∧
      (failover s).stations = s.stations := by
  unfold failover
  dsimp only
  split <;> simp

@[simp] theorem noticeIn_rest (s : State) (code : Nat) :
    (noticeIn s code).pending = s.pending ∧ (noticeIn s code).rdata = s.rdata ∧ (noticeIn s code).mem.code = s.mem.code ∧
      (noticeIn s code).mem.sram = s.mem.sram ∧ (noticeIn s code).mem.trace = s.mem.trace ∧
      (noticeIn s code).mem.fw = s.mem.fw ∧ (noticeIn s code).mem.flash = s.mem.flash ∧ (noticeIn s code).objs = s.objs ∧
      (noticeIn s code).prog = s.prog ∧ (noticeIn s code).rtc = s.rtc ∧ (noticeIn s code).wdg = s.wdg ∧
      (noticeIn s code).frz = s.frz ∧ (noticeIn s code).boot = s.boot ∧ (noticeIn s code).phr.rings = s.phr.rings ∧
      (noticeIn s code).phr.atStart = s.phr.atStart ∧ (noticeIn s code).phr.linksDown = s.phr.linksDown ∧
      (noticeIn s code).trc = s.trc ∧ (noticeIn s code).hsb.unit = s.hsb.unit ∧ (noticeIn s code).hsb.hb = s.hsb.hb ∧
      (noticeIn s code).hsb.lost = s.hsb.lost ∧ (noticeIn s code).saf = s.saf ∧ (noticeIn s code).jrn = s.jrn ∧
      (noticeIn s code).stations = s.stations := by
  unfold noticeIn
  dsimp only
  repeat' split
  all_goals simp

@[simp] theorem followTime_rest (s : State) (p : Partner) :
    (followTime s p).pending = s.pending ∧ (followTime s p).rdata = s.rdata ∧ (followTime s p).mem = s.mem ∧
      (followTime s p).units = s.units ∧ (followTime s p).objs = s.objs ∧ (followTime s p).prog = s.prog ∧
      (followTime s p).img = s.img ∧ (followTime s p).tsk = s.tsk ∧ (followTime s p).gz = s.gz ∧ (followTime s p).evc = s.evc ∧
      (followTime s p).nv = s.nv ∧ (followTime s p).wdg = s.wdg ∧ (followTime s p).frz = s.frz ∧ (followTime s p).rcd = s.rcd ∧
      (followTime s p).boot.held = s.boot.held ∧ (followTime s p).boot.sources = s.boot.sources ∧
      (followTime s p).boot.stage = s.boot.stage ∧ (followTime s p).phr.rings = s.phr.rings ∧
      (followTime s p).phr.atStart = s.phr.atStart ∧ (followTime s p).phr.linksDown = s.phr.linksDown ∧
      (followTime s p).lpe = s.lpe ∧ (followTime s p).trc = s.trc ∧ (followTime s p).nrg = s.nrg ∧
      (followTime s p).hsb.unit = s.hsb.unit ∧ (followTime s p).hsb.role = s.hsb.role ∧
      (followTime s p).hsb.partner = s.hsb.partner ∧ (followTime s p).hsb.hb = s.hsb.hb ∧
      (followTime s p).hsb.lost = s.hsb.lost ∧ (followTime s p).hsb.rxNotice = s.hsb.rxNotice ∧
      (followTime s p).field = s.field ∧ (followTime s p).can = s.can ∧ (followTime s p).saf = s.saf ∧
      (followTime s p).jrn = s.jrn ∧ (followTime s p).stations = s.stations ∧ (followTime s p).sent = s.sent := by
  unfold followTime
  dsimp only
  repeat' split
  all_goals simp

@[simp] theorem followActive_rest (s : State) (p : Partner) :
    (followActive s p).now = s.now ∧ (followActive s p).pending = s.pending ∧ (followActive s p).draws = s.draws ∧
      (followActive s p).rdata = s.rdata ∧ (followActive s p).mem.code = s.mem.code ∧
      (followActive s p).mem.sram = s.mem.sram ∧ (followActive s p).mem.trace = s.mem.trace ∧
      (followActive s p).mem.fw = s.mem.fw ∧ (followActive s p).mem.flash = s.mem.flash ∧ (followActive s p).objs = s.objs ∧
      (followActive s p).prog = s.prog ∧ (followActive s p).rtc = s.rtc ∧ (followActive s p).wdg = s.wdg ∧
      (followActive s p).frz = s.frz ∧ (followActive s p).boot = s.boot ∧ (followActive s p).phr = s.phr ∧
      (followActive s p).trc = s.trc ∧ (followActive s p).hsb.unit = s.hsb.unit ∧
      (followActive s p).hsb.partner = s.hsb.partner ∧ (followActive s p).hsb.hb = s.hsb.hb ∧
      (followActive s p).hsb.lost = s.hsb.lost ∧ (followActive s p).hsb.rxNotice = s.hsb.rxNotice ∧
      (followActive s p).can = s.can ∧ (followActive s p).saf = s.saf ∧ (followActive s p).jrn = s.jrn ∧
      (followActive s p).stations = s.stations ∧ (followActive s p).sent = s.sent := by
  unfold followActive
  dsimp only
  repeat' split
  all_goals simp

@[simp] theorem partnerLost_rest (s : State) :
    (partnerLost s).pending = s.pending ∧ (partnerLost s).rdata = s.rdata ∧ (partnerLost s).mem.code = s.mem.code ∧
      (partnerLost s).mem.sram = s.mem.sram ∧ (partnerLost s).mem.trace = s.mem.trace ∧ (partnerLost s).mem.fw = s.mem.fw ∧
      (partnerLost s).mem.flash = s.mem.flash ∧ (partnerLost s).objs = s.objs ∧ (partnerLost s).prog = s.prog ∧
      (partnerLost s).rtc = s.rtc ∧ (partnerLost s).wdg = s.wdg ∧ (partnerLost s).frz = s.frz ∧ (partnerLost s).boot = s.boot ∧
      (partnerLost s).phr.rings = s.phr.rings ∧ (partnerLost s).phr.atStart = s.phr.atStart ∧
      (partnerLost s).phr.linksDown = s.phr.linksDown ∧ (partnerLost s).trc = s.trc ∧ (partnerLost s).hsb.unit = s.hsb.unit ∧
      (partnerLost s).hsb.partner = s.hsb.partner ∧ (partnerLost s).hsb.hb = s.hsb.hb ∧ (partnerLost s).hsb.lost = s.hsb.lost ∧
      (partnerLost s).hsb.rxNotice = s.hsb.rxNotice ∧ (partnerLost s).saf = s.saf ∧ (partnerLost s).jrn = s.jrn ∧
      (partnerLost s).stations = s.stations := by
  unfold partnerLost
  repeat' split
  all_goals simp
end Sys2Proof.Machine
end

section
/-!
PROOF. Heartbeats and notices of a pair (R436, R438, R440 to R442, R450, R452, R465, R729).
-/
namespace Sys2Proof.Machine

/-! ### Sending -/

/-- The notice code that the next heartbeat carries. -/
def heartbeatCode (s : State) : Nat :=
  if s.hsb.repeats ≠ 0 then s.hsb.notice else if s.hsb.switch.isSome && s.role == roleActive then 7 else 0

/-- The module at its next heartbeat instant, the heartbeat sent on the sync link and counted. -/
def heartbeatSent (s : State) : State :=
  ((s.at (hbInstant s)).send (.hsb 0 (hbFrame s 1 (heartbeatCode s)))).modHsb fun h => { h with
    wait485 := false, repeats := h.repeats - 1, seq := (h.seq + 1) % 2 ^ 32, hbSent := some (max s.now (hbInstant s)) }

/-- The TIA-485 side of a heartbeat: a notice's copy that waits goes before the heartbeat. -/
theorem heartbeatSend_sends {s : State} (hup : pairUp s = true) (hstage : s.boot.stage = .firmware ∨ s.boot.relReq = true) :
    exec .heartbeatSend s = .next
      ((if s.hsb.wait485 then ((heartbeatSent s).at (line485At (heartbeatSent s))).send (.hsb 1 (hbFrame s 2 s.hsb.notice))
        else (heartbeatSent s).at (line485At (heartbeatSent s))).send (.hsb 1 (hbFrame s 1 (heartbeatCode s)))) := by
  refine (if_neg ?_).trans rfl
  rcases hstage with h | h <;> simp [hup, h]

theorem heartbeatSent_hsb (s : State) : (heartbeatSent s).hsb.wait485 = false ∧
    (heartbeatSent s).hsb.repeats = s.hsb.repeats - 1 ∧ (heartbeatSent s).hsb.seq = (s.hsb.seq + 1) % 2 ^ 32 ∧
    (heartbeatSent s).hsb.hbSent = some (max s.now (hbInstant s)) ∧
    (heartbeatSent s).sent = .hsb 0 (hbFrame s 1 (heartbeatCode s)) :: s.sent := ⟨rfl, rfl, rfl, rfl, rfl⟩

theorem heartbeatSent_rest (s : State) : (heartbeatSent s).regs = s.regs ∧ (heartbeatSent s).mem = s.mem ∧
    (heartbeatSent s).img = s.img := ⟨rfl, rfl, rfl⟩

/-! ### Hearing -/

/-- What a heartbeat tells: its path is heard, its sender kept, and a module that listens notes it. -/
def heartbeatTold (s : State) (path : Nat) (p : Partner) : State :=
  listen ((pathHeard (heard485 s path) path p).modHsb fun h => { h with partner := p }) p

/-- The module after the copy that a heartbeat asks for and its notice. -/
def heartbeatTaken (s : State) (path : Nat) (p : Partner) : State := noticeIn (copyFor (heartbeatTold s path p) p) p.notice

theorem heartbeatReceive_hears {path : Fin 2} {bs : List Byte} {s : State} {p : Partner} (hup : pairUp s = true)
    (hparse : parseHb bs = some (1, p)) : exec (.heartbeatReceive path bs) s = .next
      (if p.role = roleActive ∧ !(heartbeatTaken s path.val p).acts then followActive (heartbeatTaken s path.val p) p
        else heartbeatTaken s path.val p) := by
  show execHeartbeatReceive path bs s = _
  unfold execHeartbeatReceive
  rw [if_neg (by simp [hup]), hparse]
  rfl

theorem noticeReceive_hears {path : Fin 2} {bs : List Byte} {s : State} {p : Partner} (hup : pairUp s = true)
    (hparse : parseHb bs = some (2, p)) :
    exec (.noticeReceive path bs) s = .next (noticeIn (heard485 s path.val) p.notice) := by
  show execNoticeReceive path bs s = _
  unfold execNoticeReceive
  rw [if_neg (by simp [hup]), hparse]
  rfl

theorem heard485_rest (s : State) (path : Nat) : (heard485 s path).hsb.role = s.hsb.role ∧ (heard485 s path).now = s.now ∧
    (heard485 s path).regs = s.regs ∧ (heard485 s path).mem = s.mem ∧ (heard485 s path).img = s.img ∧
    (heard485 s path).lpe = s.lpe ∧ (heard485 s path).sent = s.sent ∧ (heard485 s path).boot = s.boot ∧
    (heard485 s path).hsb.hb = s.hsb.hb ∧ (heard485 s path).hsb.lost = s.hsb.lost ∧
    (heard485 s path).hsb.copying = s.hsb.copying ∧ (heard485 s path).hsb.partner = s.hsb.partner := by
  unfold heard485
  split <;> simp

theorem listen_rest (s : State) (p : Partner) : (listen s p).hsb.role = s.hsb.role ∧ (listen s p).now = s.now ∧
    (listen s p).regs = s.regs ∧ (listen s p).mem = s.mem ∧ (listen s p).img = s.img ∧ (listen s p).lpe = s.lpe ∧
    (listen s p).sent = s.sent ∧ (listen s p).boot = s.boot ∧ (listen s p).hsb.hb = s.hsb.hb ∧
    (listen s p).hsb.lost = s.hsb.lost ∧ (listen s p).hsb.copying = s.hsb.copying ∧
    (listen s p).hsb.partner = s.hsb.partner := by
  unfold listen
  split <;> simp

/-- A path on which a heartbeat came is not lost, and a module that follows keeps role and stage meanwhile. -/
theorem pathHeard_says {s : State} {path : Nat} {p : Partner} (hlost : path < s.hsb.lost.length) :
    (pathHeard s path p).hsb.lost.getD path true = false ∧ (pathHeard s path p).hsb.role = s.hsb.role ∧
      (pathHeard s path p).boot.stage = s.boot.stage := by
  unfold pathHeard
  split <;> simp [hlost]

/-- A module that acts does not follow the partner's time: only its record of heartbeats changes. -/
theorem pathHeard_acting {s : State} (path : Nat) (p : Partner) (h : s.role = roleActive) :
    pathHeard s path p = prove (s.modHsb fun h => { h with hb := h.hb.set path s.now, lost := h.lost.set path false }) (3 + path) := by
  unfold pathHeard
  rw [if_neg (by simp [State.acts, h])]

theorem heartbeatTold_says {s : State} {path : Nat} (p : Partner) (hlost : path < s.hsb.lost.length) :
    (heartbeatTold s path p).hsb.lost.getD path true = false ∧ (heartbeatTold s path p).hsb.role = s.hsb.role ∧
      (heartbeatTold s path p).boot.stage = s.boot.stage ∧ (heartbeatTold s path p).hsb.partner = p := by
  obtain ⟨hr, -, -, -, -, -, -, hb, -, hl, -, hp⟩ :=
    listen_rest ((pathHeard (heard485 s path) path p).modHsb fun h => { h with partner := p }) p
  obtain ⟨hrole, -, -, -, -, -, -, hboot, -, hlostEq, -⟩ := heard485_rest s path
  obtain ⟨h1, h2, h3⟩ := pathHeard_says (s := heard485 s path) (p := p) (hlostEq ▸ hlost)
  refine ⟨?_, hr.trans (h2.trans hrole), ?_, hp⟩
  · rw [heartbeatTold, hl]
    exact h1
  · rw [heartbeatTold, hb]
    exact h3.trans (congrArg BootState.stage hboot)

/-- What else a heartbeat leaves of an active module. -/
theorem heartbeatTold_acting {s : State} {path : Nat} (p : Partner) (hrole : s.role = roleActive) (hhb : path < s.hsb.hb.length) :
    (heartbeatTold s path p).hsb.hb.getD path 0 = s.now ∧ (heartbeatTold s path p).hsb.copying = s.hsb.copying ∧
      (heartbeatTold s path p).mem = s.mem ∧ (heartbeatTold s path p).img = s.img ∧ (heartbeatTold s path p).sent = s.sent ∧
      (heartbeatTold s path p).lpe = s.lpe := by
  obtain ⟨-, -, -, hm, hi, hlpe, hs, -, hh, -, hc, -⟩ :=
    listen_rest ((pathHeard (heard485 s path) path p).modHsb fun h => { h with partner := p }) p
  obtain ⟨hr, hnow, -, hm', hi', hlpe', hs', -, hh', -, hc', -⟩ := heard485_rest s path
  rw [heartbeatTold, hh, hc, hm, hi, hs, hlpe, pathHeard_acting path p (hr.trans hrole)]
  simp [hh', hc', hm', hi', hs', hlpe', hnow, hhb]

/-! ### Notices and the takeover -/

/-- A module that is not READY, or hears a notice 0, keeps the notice alone. -/
theorem noticeIn_keeps {s : State} {code : Nat} (h : s.role ≠ roleReady ∨ code = 0) :
    noticeIn s code = s.modHsb fun h => { h with
      rxNotice := if code = 0 then h.rxNotice else code, partner := { h.partner with notice := code } } := by
  refine if_neg ?_
  rintro ⟨h1, h2⟩
  rcases h with h | rfl
  · exact h h1
  · simp at h2

theorem becomeActive_role (s : State) : (becomeActive s).role = roleActive := by
  show (becomeActive s).hsb.role = roleActive
  simp [becomeActive]

theorem failover_role (s : State) : (failover s).role = roleActive := by
  show (failover s).hsb.role = roleActive
  have h (s : State) : (becomeActive s).hsb.role = roleActive := becomeActive_role s
  unfold failover
  dsimp only
  generalize (if State.running _ then fastTask _ else none) = o
  cases o with
  | none => simp [h]
  | some f =>
    dsimp only
    split <;> simp [h]

theorem leaveShadow_stopped (s : State) (r : Nat) : (leaveShadow s r).role = r ∧ (leaveShadow s r).stopped = true := by
  constructor
  · exact setRole_role _ r
  · show ((leaveShadow s r).tsk.prog == .stopped) = true
    simp [leaveShadow]

/-! ### The full copy -/

theorem controlItem_sends {s : State} (k kind : Nat) (item : List Byte) {e : Sent} (h : e ∈ s.sent) :
    e ∈ (controlItem s k kind item).sent := by
  unfold controlItem controlRecord
  split
  · exact List.mem_cons_of_mem _ h
  · exact h

/-- A partner that is SYNCING gets a full copy, which the forces follow. -/
theorem copyFor_copies {s : State} {p : Partner} (hrole : s.role = roleActive) (hp : p.role = roleSyncing)
    (hcopy : s.hsb.copying = false) : (copyFor s p).hsb.copying = true ∧ (copyFor s p).hsb.role = s.hsb.role ∧
      .fullCopy s.img s.mem.sram (loopsCopy s) ∈ (copyFor s p).sent := by
  unfold copyFor
  rw [if_neg (by simp [hrole]), if_pos (by simp [hp, hcopy])]
  dsimp only
  refine ⟨by simp, by simp, ?_⟩
  refine foldl_keeps_prop (P := fun u => .fullCopy s.img s.mem.sram (loopsCopy s) ∈ u.sent)
    (fun u e h => controlItem_sends 0xFF itemForce _ h) _ ?_
  exact List.mem_cons_self

/-- The module with a partner's notice kept. -/
def noticed (s : State) (code : Nat) : State :=
  s.modHsb fun h => { h with rxNotice := if code = 0 then h.rxNotice else code, partner := { h.partner with notice := code } }

theorem noticed_partner {s : State} {p : Partner} (h : s.hsb.partner = p) : (noticed s p.notice).hsb.partner = p := by
  show { s.hsb.partner with notice := p.notice } = p
  rw [h]

theorem noticed_rest (s : State) (code : Nat) : (noticed s code).role = s.role ∧ (noticed s code).boot = s.boot ∧
    (noticed s code).hsb.hb = s.hsb.hb ∧ (noticed s code).hsb.lost = s.hsb.lost ∧
    (noticed s code).hsb.copying = s.hsb.copying ∧ (noticed s code).hsb.epStore = s.hsb.epStore ∧
    (noticed s code).mem = s.mem ∧ (noticed s code).img = s.img ∧ (noticed s code).sent = s.sent :=
  ⟨rfl, rfl, rfl, rfl, rfl, rfl, rfl, rfl, rfl⟩

theorem acts_of_active {s : State} (h : s.role = roleActive) : s.acts = true := by simp [State.acts, h]

theorem heartbeatTaken_silent {s : State} {path : Nat} {p : Partner} (hnotice : p.notice = 0) :
    heartbeatTaken s path p = noticed (copyFor (heartbeatTold s path p) p) p.notice := noticeIn_keeps (.inr hnotice)

/-- An active module whose partner does not copy has no copy in progress. -/
theorem copyFor_none {s : State} {p : Partner} (hrole : s.role = roleActive) (hp : p.role ≠ roleSyncing) :
    copyFor s p = s.modHsb fun h => { h with copying := false } := by
  rw [copyFor, if_neg (by simp [hrole]), if_neg (by simp [hp]), if_pos hp]

/-- A READY module stores the epoch of the active one. -/
theorem followActive_ready {s : State} {p : Partner} (hrole : s.role = roleReady) (hstage : s.boot.stage = .firmware) :
    followActive s p = if p.epoch = s.hsb.epStore then s else storeEpoch s p.epoch := by
  have hkeeps (u : State) (hr : u.role = roleReady) (hs : u.boot.stage = .firmware) :
      (if u.boot.stage ≠ .firmware then u
        else if u.role = roleStarting then
          (if u.hsb.relisten then leaveShadow u (if matches_ u p then roleSyncing else roleIncompatible) else u)
        else if u.role = roleDemoted then (if u.flag HSB_CTRL_AUTORESYNC then leaveShadow u roleSyncing else u)
        else if u.role = roleIncompatible then (if matches_ u p && !u.hsb.badSet then leaveShadow u roleSyncing else u)
        else if u.role = roleSyncing then (if matches_ u p then u else leaveShadow u roleIncompatible)
        else u) = u := by
    rw [if_neg (by simp [hs]), hr]
    rfl
  refine hkeeps _ ?_ ?_
  · split
    · exact hrole
    · simpa [State.role] using hrole
  · split
    · exact hstage
    · simpa using hstage

section

variable {s : State} {path : Fin 2} {bs : List Byte} {p : Partner} (hup : pairUp s = true) (hparse : parseHb bs = some (1, p))
  (hnotice : p.notice = 0) (hlost : path.val < s.hsb.lost.length)

include hup hparse hnotice hlost

theorem heartbeat_active (hhb : path.val < s.hsb.hb.length) (hrole : s.role = roleActive) (hp : p.role ≠ roleSyncing) :
    Answers (.heartbeatReceive path bs) s fun t =>
      t.hsb.partner = p ∧ t.pathLost path.val = false ∧ t.hsb.hb.getD path.val 0 = s.now ∧ t.role = roleActive ∧
      t.hsb.copying = false ∧ t.mem = s.mem ∧ t.img = s.img ∧ t.sent = s.sent := by
  obtain ⟨hkept, hkeptRole, -, hkeptPartner⟩ := heartbeatTold_says p hlost
  obtain ⟨h1, -, h3, h4, h5, -⟩ := heartbeatTold_acting p hrole hhb
  have hcopy := copyFor_none (hkeptRole.trans hrole) hp
  obtain ⟨hr, -, hh, hl, hc, -, hm, hi, hs⟩ := noticed_rest (copyFor (heartbeatTold s path.val p) p) p.notice
  have hactive : (noticed (copyFor (heartbeatTold s path.val p) p) p.notice).role = roleActive := by
    rw [hr, hcopy]
    exact hkeptRole.trans hrole
  refine ⟨_, heartbeatReceive_hears hup hparse, ?_⟩
  rw [heartbeatTaken_silent hnotice, if_neg (fun h => by simp [acts_of_active hactive] at h)]
  simp only [State.pathLost]
  rw [hh, hl, hc, hm, hi, hs, hcopy]
  exact ⟨noticed_partner hkeptPartner, hkept, h1, hcopy ▸ hactive, rfl, h3, h4, h5⟩

theorem heartbeat_syncing (hhb : path.val < s.hsb.hb.length) (hrole : s.role = roleActive) (hp : p.role = roleSyncing)
    (hcopying : s.hsb.copying = false) : Answers (.heartbeatReceive path bs) s fun t =>
      t.hsb.copying = true ∧ .fullCopy s.img s.mem.sram (loopsCopy s) ∈ t.sent ∧ t.role = roleActive := by
  obtain ⟨-, hkeptRole, -, -⟩ := heartbeatTold_says p hlost
  obtain ⟨-, h2, h3, h4, -, h6⟩ := heartbeatTold_acting p hrole hhb
  obtain ⟨hcopies, hkeeps, hsent⟩ := copyFor_copies (hkeptRole.trans hrole) hp (h2.trans hcopying)
  obtain ⟨hr, -, -, -, hc, -, -, -, hs⟩ := noticed_rest (copyFor (heartbeatTold s path.val p) p) p.notice
  rw [h3, h4, loopsCopy, h6] at hsent
  refine ⟨_, heartbeatReceive_hears hup hparse, ?_⟩
  rw [heartbeatTaken_silent hnotice, if_neg (fun h => by simp [hp, roleSyncing, roleActive] at h)]
  beta_reduce
  rw [hr, hc, hs]
  exact ⟨hcopies, hsent, hkeeps.trans (hkeptRole.trans hrole)⟩

theorem heartbeat_ready (hrole : s.role = roleReady) (hp : p.role = roleActive) (hstage : s.boot.stage = .firmware) :
    Answers (.heartbeatReceive path bs) s fun t =>
      t.hsb.epStore = p.epoch ∧ t.hsb.partner = p ∧ t.role = roleReady ∧ t.pathLost path.val = false := by
  obtain ⟨hkept, hkeptRole, hkeptStage, hkeptPartner⟩ := heartbeatTold_says p hlost
  have hready : (heartbeatTold s path.val p).role = roleReady := hkeptRole.trans hrole
  have hcopy : copyFor (heartbeatTold s path.val p) p = heartbeatTold s path.val p := if_pos (by rw [hready]; decide)
  obtain ⟨hr, hb, -, hl, -⟩ := noticed_rest (heartbeatTold s path.val p) p.notice
  have hpassive : (noticed (heartbeatTold s path.val p) p.notice).acts = false := by
    rw [State.acts, hr, hready]
    rfl
  have hpartner := noticed_partner hkeptPartner
  refine ⟨_, heartbeatReceive_hears hup hparse, ?_⟩
  rw [heartbeatTaken_silent hnotice, hcopy, if_pos ⟨hp, by rw [hpassive]; rfl⟩,
    followActive_ready (hr.trans hready) ((congrArg BootState.stage hb).trans (hkeptStage.trans hstage))]
  generalize noticed (heartbeatTold s path.val p) p.notice = u at *
  have hlost' : u.pathLost path.val = false := by
    rw [State.pathLost, hl]
    exact hkept
  split
  · next h => exact ⟨h.symm, hpartner, hr.trans hready, hlost'⟩
  · refine ⟨rfl, by simpa using hpartner, ?_, by simpa [State.pathLost] using hlost'⟩
    simpa [State.role] using hr.trans hready

end

/-! ### Losing a path, the end of listening and PAIRCOMPAT -/

/-- The module at the instant at which a path is lost, the loss noted, raised and counted. -/
def pathGone (s : State) (path : Nat) : State :=
  (((s.at (s.hsb.hb.getD path 0 + 1000000)).modHsb fun h => { h with
    lost := h.lost.set path true, follow := h.follow && path != 0 }).raise 53).count
    (if path = 0 then HSB_HBMISS_SL else HSB_HBMISS_RS485) 0xFFFF 1

theorem pathGone_says (s : State) (path : Nat) : (pathGone s path).hsb.lost = s.hsb.lost.set path true ∧
    (pathGone s path).role = s.role ∧ (pathGone s path).hsb.partner = s.hsb.partner ∧
    (pathGone s path).now = max s.now (s.hsb.hb.getD path 0 + 1000000) := by
  simp [pathGone, State.role]

theorem pathLoss_loses {s : State} {path : Fin 2} (hup : pairUp s = true) (h : s.pathLost path.val = false) :
    exec (.pathLoss path) s = .next
      (if (pathGone s path.val).pathLost 0 && (pathGone s path.val).pathLost 1 then partnerLost (pathGone s path.val)
        else pathGone s path.val) :=
  (if_neg (by simp [hup, h])).trans rfl

/-- The two paths after one of them is lost. -/
theorem pathGone_paths {s : State} (path : Fin 2) (hlen : s.hsb.lost.length = 2) :
    (pathGone s path.val).pathLost path.val = true ∧
      (pathGone s path.val).pathLost (1 - path.val) = s.pathLost (1 - path.val) := by
  unfold State.pathLost
  rw [(pathGone_says s path.val).1]
  match path with
  | 0 => simp [hlen]
  | 1 => simp [hlen]

theorem bothLost_iff (s : State) (path : Fin 2) :
    (s.pathLost 0 && s.pathLost 1) = (s.pathLost path.val && s.pathLost (1 - path.val)) := by
  match path with
  | 0 => rfl
  | 1 => exact Bool.and_comm _ _

theorem startingListenEnd_ends {s : State} (hup : pairUp s = true) (hrole : s.role = roleStarting)
    (hstage : s.boot.stage = .firmware) : exec .startingListenEnd s =
      (let u := s.at (s.hsb.listen + 20000000)
       match u.hsb.heard with
       | none => .next (takeCharge (becomeActive u))
       | some p =>
         if p.role = roleActive then .next (leaveShadow u (if matches_ u p then roleSyncing else roleIncompatible))
         else if u.hsb.unit = 1 then .next (takeCharge (becomeActive u))
         else .next (u.modHsb fun h => { h with relisten := true, listen := u.now, heard := none })) :=
  (if_neg (by simp [hup, hrole, hstage])).trans rfl

theorem pairCompatibilityFrame_keeps {s : State} (bs : List Byte) (hup : pairUp s = true) :
    exec (.pairCompatibilityFrame bs) s = .next
      ((if s.role ≠ roleStarting ∨ s.hsb.pairCompat.isNone then sendCompat s else s).modHsb fun h =>
        { h with pairCompat := some (fromLE (bs.take 2)) }) :=
  (if_neg (by simp [hup])).trans rfl

/-- Settles O41: a heartbeat by what it tells, the copy it asks for and its notice; a path by the two that remain. -/
theorem pairHeartbeats : Obligations.PairHeartbeats := by
  refine ⟨fun s hup hstage hwait => ?_, fun s hup hstage hwait hrep => ?_, fun path bs s => ⟨fun hup => ?_, fun hup hparse => ?_⟩,
    fun path bs s p hup hparse hnotice hlost hhb => ?_,
    fun path bs s p hup hparse => ⟨fun hrole => ?_, fun hrole hcode => ?_⟩,
    fun path s hup hpath hlost => ⟨fun hother => ?_, fun hother hrole hnotice => ?_⟩,
    fun s p hup hrole hstage hheard hp => ?_, fun s hup hrole hstage hheard => ⟨?_, becomeActive_role _⟩, fun bs s hup => ?_⟩
  · refine ⟨_, heartbeatSend_sends hup hstage, ?_⟩
    rw [hwait]
    exact ⟨rfl, rfl, rfl, rfl, rfl, rfl, rfl⟩
  · refine ⟨_, heartbeatSend_sends hup (.inl hstage), ?_⟩
    have hcode : heartbeatCode s = s.hsb.notice := if_pos hrep
    rw [hwait, if_pos rfl, hcode]
    refine ⟨?_, rfl, rfl, rfl, rfl, rfl⟩
    show _ :: _ :: (heartbeatSent s).sent = _
    rw [(heartbeatSent_hsb s).2.2.2.2, hcode]
  · exact ⟨if_pos (by simp [hup]), if_pos (by simp [hup])⟩
  · constructor
    · show execHeartbeatReceive path bs s = _
      unfold execHeartbeatReceive
      rw [if_neg (by simp [hup]), hparse]
    · show execNoticeReceive path bs s = _
      unfold execNoticeReceive
      rw [if_neg (by simp [hup]), hparse]
  · have hi : path.val < s.hsb.lost.length := by rw [hlost]; exact path.isLt
    have hh : path.val < s.hsb.hb.length := by rw [hhb]; exact path.isLt
    exact ⟨heartbeat_active hup hparse hnotice hi hh, heartbeat_syncing hup hparse hnotice hi hh,
      heartbeat_ready hup hparse hnotice hi⟩
  · refine ⟨_, noticeReceive_hears hup hparse, ?_⟩
    obtain ⟨hr, -, hregs, hm, hi, -⟩ := heard485_rest s path.val
    rw [noticeIn_keeps (.inl (fun h => hrole (hr.symm.trans h)))]
    exact ⟨rfl, hr, hm, hregs, hi⟩
  · refine ⟨_, noticeReceive_hears hup hparse, ?_⟩
    have hr : (heard485 s path.val).role = roleReady := ((heard485_rest s path.val).1).trans hrole
    have hne : p.notice ≠ 0 := by omega
    unfold noticeIn
    dsimp only
    rw [if_pos ⟨hr, by tauto⟩]
    exact ⟨failover_role _, by simp [hne]⟩
  · refine ⟨_, pathLoss_loses hup hpath, ?_⟩
    obtain ⟨h1, h2⟩ := pathGone_paths path hlost
    obtain ⟨-, hr, -, hnow⟩ := pathGone_says s path.val
    rw [if_neg (by rw [bothLost_iff _ path, h1, h2, hother]; simp)]
    exact ⟨h1, h2.trans hother, hr, hnow⟩
  · refine ⟨_, pathLoss_loses hup hpath, ?_⟩
    obtain ⟨h1, h2⟩ := pathGone_paths path hlost
    obtain ⟨-, hr, hpartner, -⟩ := pathGone_says s path.val
    rw [if_pos (by rw [bothLost_iff _ path, h1, h2, hother]; rfl), partnerLost, if_pos (hr.trans hrole),
      if_neg (by rw [hpartner]; exact fun h => hnotice h.1)]
    exact failover_role _
  · have hexec := startingListenEnd_ends hup hrole hstage
    simp only [State.at, hheard, if_pos hp] at hexec
    refine ⟨_, hexec, ?_⟩
    obtain ⟨h1, h2⟩ := leaveShadow_stopped (s.at (s.hsb.listen + 20000000))
      (if matches_ (s.at (s.hsb.listen + 20000000)) p then roleSyncing else roleIncompatible)
    exact ⟨h1, h2, by simp⟩
  · rw [startingListenEnd_ends hup hrole hstage]
    simp only [State.at, hheard]
  · refine ⟨_, pairCompatibilityFrame_keeps bs hup, rfl, ?_⟩
    refine ⟨?_, ?_, ?_, fun h1 h2 => ?_, fun h => ?_⟩
    · split <;> rfl
    · split <;> rfl
    · split <;> rfl
    · rw [if_neg (by simp [h1, Option.isSome_iff_ne_none.mp h2])]
      rfl
    · rw [if_pos (.inl h)]
      rfl
end Sys2Proof.Machine
end

section
/-!
PROOF. Records of the state delta and the full copy (R418, R443 to R450, R466, R477).
-/
namespace Sys2Proof.Machine

/-! ### Taking a record -/

/-- A record that comes is acknowledged and counted; all else stays. -/
@[simp] theorem takeRecord_rest (s : State) (r : HsbRec) : (takeRecord s r).hsb.role = s.hsb.role ∧
    (takeRecord s r).hsb.deltas = s.hsb.deltas ∧ (takeRecord s r).hsb.mismatches = s.hsb.mismatches ∧
    (takeRecord s r).hsb.switch = s.hsb.switch ∧ (takeRecord s r).hsb.planned = s.hsb.planned ∧
    (takeRecord s r).regs = s.regs ∧ (takeRecord s r).mem = s.mem ∧ (takeRecord s r).img = s.img ∧
    (takeRecord s r).tsk = s.tsk ∧ (takeRecord s r).gz = s.gz ∧ (takeRecord s r).boot = s.boot ∧
    (takeRecord s r).now = s.now ∧ (takeRecord s r).sent = .ack r.task.toNat r.cycle.toNat :: s.sent := by
  unfold takeRecord countDelta
  dsimp only [State.send, State.modHsb]
  split <;> exact ⟨rfl, rfl, rfl, rfl, rfl, rfl, rfl, rfl, rfl, rfl, rfl, rfl, rfl⟩

theorem takeRecord_role (s : State) (r : HsbRec) : (takeRecord s r).role = s.role := (takeRecord_rest s r).1

theorem takeRecord_acts (s : State) (r : HsbRec) : (takeRecord s r).acts = s.acts := by
  simp only [State.acts, takeRecord_role]

theorem takeRecord_delta (s : State) (r : HsbRec) (k : Nat) : (takeRecord s r).delta k = s.delta k :=
  congrArg (fun d : Tbl DeltaSt => d.get {} k) (takeRecord_rest s r).2.1

theorem takeRecord_task (s : State) (r : HsbRec) (k : Nat) : (takeRecord s r).task k = s.task k := by
  simp [State.task]

theorem takeRecord_takesInput (s : State) (r : HsbRec) : takesInput (takeRecord s r) = takesInput s := by
  simp [takesInput, State.role, switched]

/-! ### The items of a record -/

theorem slice_append_left {a b : List Byte} {n : Nat} (h : a.length = n) : slice (a ++ b) 0 n = a := by
  subst h
  exact List.take_left

theorem slice_append_right {a b : List Byte} {n m : Nat} (h : a.length = n) (hb : b.length = m) : slice (a ++ b) n m = b := by
  subst h hb
  rw [slice, List.drop_left, List.take_length]

/-- A record of one entry reads back its address and its word. -/
theorem recEntries_deltaEntry {a : Nat} (w : Word) (ha : a < 2 ^ 32) : recEntries (deltaEntry a w) = [(a, w)] := by
  have hlen : (deltaEntry a w).length = 8 := by simp [deltaEntry]
  have hw : toWord (fromLE (toLE 4 w.toNat)) = w := fromLE_toLE_word w (by decide)
  unfold recEntries
  rw [hlen]
  show [(fromLE (slice (deltaEntry a w) 0 4), toWord (fromLE (slice (deltaEntry a w) 4 4)))] = [(a, w)]
  rw [deltaEntry, slice_append_left (length_toLE _ _), slice_append_right (length_toLE _ _) (length_toLE _ _),
    fromLE_toLE_of_lt (by omega), hw]

/-! ### What each record does -/

theorem dataRecord_other {s : State} {r : HsbRec} (hup : pairUp s = true) (hrole : s.role ≠ roleSyncing) :
    exec (.dataRecord r) s = .next (takeRecord s r) ∧ exec (.groupsRecord r) s = .next (takeRecord s r) ∧
      exec (.loopsRecord r) s = .next (takeRecord s r) := by
  have h : (takeRecord s r).role ≠ roleSyncing := fun h => hrole ((takeRecord_role s r).symm.trans h)
  exact ⟨(if_neg (by simp [hup])).trans (if_pos h), (if_neg (by simp [hup])).trans (if_pos h),
    (if_neg (by simp [hup])).trans (if_pos h)⟩

/-- A task's delta with the digest that an END record brings. -/
def digestBrought (s : State) (k : Nat) (digest : List Byte) : State :=
  s.setDelta k { s.delta k with digest := digest, endDue := false }

theorem digestBrought_delta (s : State) (k : Nat) (digest : List Byte) :
    ((digestBrought s k digest).delta k).digest = digest ∧ ((digestBrought s k digest).delta k).rx = (s.delta k).rx := by
  simp [digestBrought]

/-- An INPUT record that does not follow the last one of its task was missed. -/
theorem shadowInput_missed {s : State} {r : HsbRec} {k c : Nat} (hrole : s.role = roleReady) (hrx : (s.delta k).rx = some c)
    (hgap : r.cycle.toNat ≠ (c + 1) % 2 ^ 32) : shadowInput s r k = leaveShadow s roleSyncing := by
  refine if_pos ?_
  rw [hrx, hrole]
  dsimp only
  rw [bne_iff_ne.mpr hgap]
  rfl

section

variable {s : State} {r : HsbRec} (hup : pairUp s = true)

include hup

theorem dataRecord_entry {a : Nat} {w : Word} (hrole : s.role = roleSyncing) (hbody : r.body = deltaEntry a w) (ha : a < 2 ^ 32) :
    exec (.dataRecord r) s = .next { takeRecord s r with mem := { (takeRecord s r).mem with
      sram := if 0x20000000 ≤ a ∧ a < 0x21000000 then Mem.setWord (takeRecord s r).mem.sram 0 (a / 4 * 4) w
        else (takeRecord s r).mem.sram } } := by
  refine (if_neg (by simp [hup])).trans ((if_neg (by simp [takeRecord_role, hrole])).trans ?_)
  rw [hbody, recEntries_deltaEntry w ha]
  rfl

theorem groupsRecord_entry {a : Nat} {w : Word} (hrole : s.role = roleSyncing) (hbody : r.body = deltaEntry a w)
    (ha : a < 2 ^ 32) : exec (.groupsRecord r) s = .next (copyGroup (takeRecord s r) a w) := by
  refine (if_neg (by simp [hup])).trans ((if_neg (by simp [takeRecord_role, hrole])).trans ?_)
  rw [hbody, recEntries_deltaEntry w ha]
  rfl

theorem loopsRecord_loop {n : Nat} {bs : List Byte} (hrole : s.role = roleSyncing) (hn : n < 4096) (hbs : bs.length = 28)
    (hbody : r.body = toLE 4 n ++ bs) : exec (.loopsRecord r) s = .next (loopState (takeRecord s r) n bs) := by
  refine (if_neg (by simp [hup])).trans ((if_neg (by simp [takeRecord_role, hrole])).trans ?_)
  have hlen : r.body.length / 32 = 1 := by rw [hbody, List.length_append, length_toLE, hbs]
  have hnum : fromLE (slice r.body 0 4) = n := by
    rw [hbody, slice_append_left (length_toLE _ _), fromLE_toLE_of_lt (by omega)]
  have hstate : slice r.body 4 28 = bs := by rw [hbody, slice_append_right (length_toLE _ _) hbs]
  rw [hlen]
  show Host.Outcome.next (if fromLE (slice r.body 0 4) < 4096 then
    loopState (takeRecord s r) (fromLE (slice r.body 0 4)) (slice r.body 4 28) else takeRecord s r) = _
  rw [hnum, hstate, if_pos hn]

theorem inputRecord_shadows (hk : r.task.toNat < 24) (htakes : takesInput s = true) :
    exec (.inputRecord r) s = .next (shadowInput (takeRecord s r) r r.task.toNat) := by
  refine (if_neg ?_).trans (if_pos ((takeRecord_takesInput s r).trans htakes))
  simp only [hup, Bool.not_true, Bool.false_or, decide_eq_true_eq]
  omega

/-- An END record of a module that has heard an INPUT of its task: of another cycle it is a gap, of this one it brings the digest. -/
theorem endRecord_ends {c : Nat} (hk : r.task.toNat < 24) (hrole : s.role = roleReady) (hrx : (s.delta r.task.toNat).rx = some c) :
    exec (.endRecord r) s = .next (if c ≠ r.cycle.toNat then leaveShadow (takeRecord s r) roleSyncing else
      let t := digestBrought (takeRecord s r) r.task.toNat (listFit 0 32 r.body)
      if (t.task r.task.toNat).ended then digestJudge t r.task.toNat else t) := by
  refine (if_neg ?_).trans ((if_neg (by simp [takeRecord_role, hrole])).trans ?_)
  · simp only [hup, Bool.not_true, Bool.false_or, decide_eq_true_eq]
    omega
  · by_cases hc : c = r.cycle.toNat
    · rw [if_neg (not_not.mpr hc)]
      exact if_neg (by rw [takeRecord_delta, hrx, hc]; simp)
    · rw [if_pos hc]
      refine (if_pos (by rw [takeRecord_delta, hrx]; simpa using hc)).trans ?_
      rw [takeRecord_delta, hrx]
      rfl

end

/-- A task's delta with its digest taken out to be judged. -/
def digestTaken (s : State) (k : Nat) : State := s.setDelta k { s.delta k with digest := [], endDue := false }

/-- A READY partner that judges a digest keeps it where it agrees, and leaves where it does not. -/
theorem digestJudge_judges {s : State} (k : Nat) (hrole : s.role = roleReady) : digestJudge s k =
    if (s.delta k).digest = deltaDigest (digestTaken s k) k then prove (digestTaken s k) 2
    else digestMismatch (digestTaken s k) k ((s.delta k).rx.getD 0) :=
  if_neg (not_not.mpr hrole)

theorem deltaDigest_taken (s : State) (k : Nat) (digest : List Byte) :
    deltaDigest (digestTaken (digestBrought s k digest) k) k = deltaDigest s k := by
  unfold deltaDigest digestTaken digestBrought
  rw [State.delta_setDelta, State.delta_setDelta]

theorem digest_kept (s : State) (k : Nat) (digest : List Byte) : (digestTaken (digestBrought s k digest) k).role = s.role ∧
    (digestTaken (digestBrought s k digest) k).hsb.mismatches = s.hsb.mismatches ∧
    (digestTaken (digestBrought s k digest) k).now = s.now := ⟨rfl, rfl, rfl⟩

theorem prove_keepsRole (s : State) (sub : Nat) : (prove s sub).role = s.role ∧ (prove s sub).hsb.mismatches = s.hsb.mismatches :=
  ⟨rfl, rfl⟩

section

variable {s : State} {r : HsbRec} (hup : pairUp s = true) (hk : r.task.toNat < 24) (hrole : s.role = roleReady)
  (hrx : (s.delta r.task.toNat).rx = some r.cycle.toNat)

include hup hk hrole hrx

theorem endRecord_waits (hended : (s.task r.task.toNat).ended = false) :
    exec (.endRecord r) s = .next (digestBrought (takeRecord s r) r.task.toNat (listFit 0 32 r.body)) := by
  have hopen : ((digestBrought (takeRecord s r) r.task.toNat (listFit 0 32 r.body)).task r.task.toNat).ended = false := by
    rw [← hended, ← takeRecord_task s r]
    rfl
  rw [endRecord_ends hup hk hrole hrx, if_neg (not_not.mpr rfl)]
  dsimp only
  rw [hopen, if_neg Bool.false_ne_true]

/-- The END record of a cycle that has ended is judged at once by the digest that it brings. -/
theorem endRecord_judges (hended : (s.task r.task.toNat).ended = true) : exec (.endRecord r) s = .next
    (let t := digestTaken (digestBrought (takeRecord s r) r.task.toNat (listFit 0 32 r.body)) r.task.toNat
     if listFit 0 32 r.body = deltaDigest s r.task.toNat then prove t 2 else digestMismatch t r.task.toNat r.cycle.toNat) := by
  have hover : ((digestBrought (takeRecord s r) r.task.toNat (listFit 0 32 r.body)).task r.task.toNat).ended = true := by
    rw [← hended, ← takeRecord_task s r]
    rfl
  have hsame : deltaDigest (takeRecord s r) r.task.toNat = deltaDigest s r.task.toNat :=
    congrArg (fun d : DeltaSt => sha256 d.body) (takeRecord_delta s r _)
  obtain ⟨hdigest, hcycle⟩ := digestBrought_delta (takeRecord s r) r.task.toNat (listFit 0 32 r.body)
  rw [endRecord_ends hup hk hrole hrx, if_neg (not_not.mpr rfl)]
  dsimp only
  have hready : (digestBrought (takeRecord s r) r.task.toNat (listFit 0 32 r.body)).role = roleReady :=
    (takeRecord_role s r).trans hrole
  rw [if_pos hover, digestJudge_judges _ hready, deltaDigest_taken, hsame, hdigest, hcycle,
    takeRecord_delta, hrx]
  rfl

end

theorem digestMismatch_role (s : State) (k cycle : Nat) : (digestMismatch s k cycle).role =
    if 3 ≤ ((s.now :: s.hsb.mismatches).filter fun x => decide (s.now < x + 3600000000000)).length then roleUnfit
    else roleSyncing := (leaveShadow_stopped _ _).1

/-- A task's next cycle after the full copy is a resync cycle. -/
theorem shadowRun_resync {s : State} {k : Nat} (h : (s.task k).resync = true) : ((shadowRun s).task k).resync = true := by
  unfold shadowRun
  split
  · exact h
  · refine foldl_keeps_prop (P := fun u => (u.task k).resync = true) (fun u j hu => ?_) _ ?_
    · by_cases hj : k = j
      · rw [hj, State.task_modTask]
        exact hj ▸ hu
      · rw [State.task_modTask_ne _ _ _ _ hj]
        exact hu
    · simpa [State.task] using h

theorem shadowRun_copying (s : State) : (shadowRun s).hsb.copying = s.hsb.copying := by
  unfold shadowRun
  split
  · rfl
  · simp

/-- A full copy's end makes each task's next cycle a resync cycle. -/
theorem resynced (f : State → Nat → TaskSt) (hf : ∀ s k, (f s k).resync = true) (s : State) {k : Nat} (hk : k < 24) :
    (((List.range 24).foldl (fun s k => s.setTask k (f s k)) s).task k).resync = true :=
  foldl_establishes (P := fun u => (u.task k).resync = true) (f := fun s k => s.setTask k (f s k))
    (fun t => by rw [State.task_setTask, hf]) (fun t j h => by
      by_cases hj : k = j
      · rw [hj, State.task_setTask, hf]
      · rw [State.task_setTask_ne _ _ _ _ hj, h]) (List.mem_range.mpr hk) s

theorem fullCopyComplete_completes {s : State} (hup : pairUp s = true) (hrole : s.role = roleSyncing) :
    Answers .fullCopyComplete s fun t =>
      t.role = roleReady ∧ t.flag SYS_SYSOK_DRIVE = true ∧ t.hsb.copying = false ∧ ∀ k < 24, (t.task k).resync = true := by
  refine ⟨_, (if_neg (by simp [hup, hrole])).trans rfl, ?_, flag_setFlag_same _ SYS_SYSOK_DRIVE true (by decide) (by decide), ?_,
    fun k hk => ?_⟩
  · simp [State.role]
  · simp only [State.setFlag_rest, setRole_hears]
    split
    · rw [shadowRun_copying]
      simp
    · simp
  · show ((setRole _ roleReady).tsk.tasks.get {} k).resync = true
    rw [(setRole_rest _ _).2.2.2.2.2.2.2.2.2.2.2.2.2.1]
    show (State.task _ k).resync = true
    split
    · exact shadowRun_resync (resynced _ (fun _ _ => rfl) _ hk)
    · exact resynced _ (fun _ _ => rfl) _ hk

theorem fullCopyChunk_byte {s : State} {a : Word} (hup : pairUp s = true) (hrole : s.role = roleSyncing) (b : Byte)
    (hlo : 0x20000000 ≤ a.toNat) (hhi : a.toNat < 0x21000000) : exec (.fullCopyChunk a [b]) s = .next
      { s with mem := { s.mem with sram := s.mem.sram.set 0 a.toNat b } } := by
  have hcopy : copyByte s (a.toNat + 0) b = { s with mem := { s.mem with sram := s.mem.sram.set 0 a.toNat b } } := by
    rw [Nat.add_zero, copyByte, if_pos ⟨hlo, hhi⟩]
  have hloops : ¬ (loopChunk ≤ a.toNat ∧ a.toNat < loopChunk + 131072) := by
    rw [loopChunk]
    omega
  show execFullCopyChunk a [b] s = _
  unfold execFullCopyChunk
  rw [← hcopy, if_neg (by simp [hup, hrole])]
  dsimp only
  rw [if_neg hloops]
  simp

theorem freeEntry_rest (s : State) (e : Nat) : (freeEntry s e).hsb = s.hsb ∧ (freeEntry s e).mem = s.mem := ⟨rfl, rfl⟩

/-- What a LEDGER record carries: the balance, the state bits and the deadlines of the 24 audits. -/
def ledgerBody (s : State) : List Byte := toLE 4 (viewNrg s NRG_BAL 0) ++ toLE 4 (viewNrg s NRG_STAT (s.reg NRG_STAT).toNat)
  ++ (List.range 24).flatMap fun k => toLE 8 (ledgerDeadline s k)

section

variable {s : State} (hup : pairUp s = true)

include hup

theorem ledgerRecordSend_sends (hrole : s.role = roleActive) : Answers .ledgerRecordSend s fun t =>
    ∃ r : HsbRec, t.sent = .delta recLedger r :: s.sent ∧ r.task = 0xFF ∧ r.body.length = 200 ∧
      r.body.take 4 = toLE 4 (viewNrg s NRG_BAL 0) ∧ t.mem = s.mem ∧ t.regs = s.regs := by
  obtain ⟨-, -, -, -, hregs, hmem, -⟩ := countDelta_rest s (8 + (ledgerBody s).length)
  have hsent : (countDelta s (8 + (ledgerBody s).length)).sent = s.sent := by simp
  refine ⟨(countDelta s (8 + (ledgerBody s).length)).send (.delta recLedger { task := 0xFF, cycle := 0, body := ledgerBody s }),
    (if_neg (by simp [hup, hrole])).trans rfl, _, congrArg (_ :: ·) hsent, rfl, ?_, ?_, hmem, hregs⟩
  · simp [ledgerBody, List.length_flatMap]
  · rw [ledgerBody, List.append_assoc]
    exact slice_append_left (length_toLE _ _)

theorem ledgerRecord_kept (r : HsbRec) (hacts : s.acts = true) : exec (.ledgerRecord r) s = .next (takeRecord s r) ∧
    (s.boot.stage = .firmware → exec (.controlRecord r) s = .next (takeRecord s r)) := by
  have h := (takeRecord_acts s r).trans hacts
  exact ⟨(if_neg (by simp [hup])).trans (if_pos h), fun hstage => (if_neg (by simp [hup, hstage])).trans (if_pos h)⟩

end

/-- The audit deadlines of a LEDGER record become the starts of the audits' intervals. -/
theorem auditsTaken (f : Nat → Nat) (s : State) {k : Nat} (hk : k < 24) :
    (((List.range 24).foldl (fun s k => s.modAud k fun a => { a with start := f k }) s).aud k).start = f k :=
  foldl_establishes (P := fun s => (s.aud k).start = f k) (f := fun s k => s.modAud k fun a => { a with start := f k })
    (fun t => by rw [State.aud_modAud]) (fun t j h => by
      by_cases hj : k = j
      · rw [hj, State.aud_modAud]
      · rw [State.aud_modAud_ne _ _ _ _ hj, h]) (List.mem_range.mpr hk) s

theorem ledgerRecord_taken {s : State} (r : HsbRec) (hup : pairUp s = true) (hacts : s.acts = false) :
    Answers (.ledgerRecord r) s fun t => t.hsb.pBal = toWord (fromLE (slice r.body 0 4)) ∧
      t.hsb.pStat = toWord (fromLE (slice r.body 4 4)) ∧ t.regs = s.regs ∧ t.mem = s.mem ∧
      ∀ k < 24, (t.aud k).start = fromLE (slice r.body (8 + 8 * k) 8) - s.fld GZ_AUDINT_SECONDS * 1000000000 := by
  refine ⟨_, (if_neg (by simp [hup])).trans (if_neg (by simp [takeRecord_acts, hacts])), ?_⟩
  refine ⟨by simp, by simp, by simp, by simp, fun k hk => ?_⟩
  rw [auditsTaken (fun k => fromLE (slice r.body (8 + 8 * k) 8) - _) _ hk]
  exact congrArg (fun n => _ - n * 1000000000) (fld_of_regs (takeRecord_rest s r).2.2.2.2.2.1 _)

/-- A CONTROL record at a module that does not act, by the kind of its item. -/
theorem controlRecord_item {s : State} {r : HsbRec} {k : Nat} {bs : List Byte} (hup : pairUp s = true)
    (hstage : s.boot.stage = .firmware) (hrole : s.role = roleReady) (hk : k < 256) (hbody : r.body = toLE 1 k ++ bs) :
    exec (.controlRecord r) s = .next (let s := takeRecord s r
      if k = itemConfig then objLoad s true (fromLE (slice bs 0 2)) (fromLE (slice bs 2 1)) (bs.drop 3)
      else if k = itemForce then itemForceIn s bs
      else if k = itemEdit then s.modGz fun g => { g with edits := g.edits ++ [⟨r.task.toNat, editItems bs⟩] }
      else if k = itemStaging then itemStagingIn s bs
      else if k = itemFault then itemFaultIn s bs
      else if k = itemStop then itemStopIn s (fromLE (bs.take 1)) (fromLE (slice bs 1 1))
      else if k = itemHandover then itemHandoverIn s (fromLE (slice bs 0 8))
      else s) := by
  have hkind : fromLE (r.body.take 1) = k := by
    rw [hbody]
    exact (congrArg fromLE (slice_append_left (length_toLE 1 k))).trans (fromLE_toLE_of_lt hk)
  have hrest : r.body.drop 1 = bs := by
    rw [hbody]
    rfl
  have hready : (takeRecord s r).role = roleReady := (takeRecord_role s r).trans hrole
  show execControlRecord r s = _
  unfold execControlRecord
  rw [if_neg (by simp [hup, hstage])]
  dsimp only
  rw [hkind, hrest, if_neg (by simp [State.acts, hready]; decide)]
  simp only [follows, hready]
  split_ifs <;> first | rfl | contradiction

/-- Settles O42: each record by what it carries, after it is acknowledged. -/
theorem pairRecords : Obligations.PairRecords := by
  refine ⟨fun r s a w hup hrole hbody ha => ⟨fun hlo hhi => ?_, groupsRecord_entry hup hrole hbody ha⟩,
    fun r s hup hrole => dataRecord_other hup hrole,
    fun r s n bs hup hrole hn hbs hbody => loopsRecord_loop hup hrole hn hbs hbody,
    fun r s hup hk => ⟨fun c hrole hrx hgap => ?_, inputRecord_shadows hup hk, fun c hrole hrx hgap => ?_,
      fun hrole hrx hended => ?_, fun hrole hrx hended hdigest => ?_, fun hrole hrx hended hdigest => ?_⟩,
    fun k s hup hrole hdue hk => ?_, fun s hup hrole => ledgerRecordSend_sends hup hrole,
    fun r s hup => ⟨ledgerRecord_kept hup r, ledgerRecord_taken r hup, fun th hstage hrole hth hbody => ?_,
      fun bs hstage hrole hbody => ?_⟩,
    fun k c s hup hrole => ⟨fun hk => ?_, fun x hk hswitch hth => ?_⟩, fun a bs s hrole => if_pos (by simp [hrole]),
    fun a b s hup hrole hlo hhi => ?_, fun s hup hrole => ?_⟩
  · refine ⟨_, dataRecord_entry hup hrole hbody ha, ?_⟩
    rw [if_pos ⟨hlo, hhi⟩]
    exact ⟨by simp, by simp, by simp, by simp⟩
  · refine ⟨_, inputRecord_shadows hup hk (by simp [takesInput, hrole]), ?_⟩
    rw [shadowInput_missed ((takeRecord_role s r).trans hrole) ((congrArg DeltaSt.rx (takeRecord_delta s r _)).trans hrx) hgap]
    exact leaveShadow_stopped _ _
  · refine ⟨_, endRecord_ends hup hk hrole hrx, ?_⟩
    rw [if_pos hgap]
    exact leaveShadow_stopped _ _
  · refine ⟨_, endRecord_waits hup hk hrole hrx hended, ?_⟩
    exact ⟨by simp [digestBrought], by simp [digestBrought], (takeRecord_role s r).trans hrole⟩
  · refine ⟨_, endRecord_judges hup hk hrole hrx hended, ?_⟩
    obtain ⟨hr, hm, -⟩ := digest_kept (takeRecord s r) r.task.toNat (listFit 0 32 r.body)
    dsimp only
    rw [if_pos hdigest, (prove_keepsRole _ 2).1, (prove_keepsRole _ 2).2, hr, hm, takeRecord_role]
    exact ⟨hrole, (takeRecord_rest s r).2.2.1⟩
  · refine ⟨_, endRecord_judges hup hk hrole hrx hended, ?_⟩
    obtain ⟨-, hm, hn⟩ := digest_kept (takeRecord s r) r.task.toNat (listFit 0 32 r.body)
    obtain ⟨-, -, hmis, -, -, -, -, -, -, -, -, hnow, -⟩ := takeRecord_rest s r
    dsimp only
    rw [if_neg hdigest, digestMismatch_role, hm, hn, hmis, hnow]
  · refine ⟨_, (if_neg (by simp [hup, hrole, hdue, hk])).trans rfl, leaveShadow_stopped _ _⟩
  · refine ⟨_, controlRecord_item hup hstage hrole (by decide) hbody, ?_⟩
    have htake : slice (toLE 8 th) 0 8 = toLE 8 th := List.take_of_length_le (by simp)
    dsimp only
    rw [if_neg (by decide), if_neg (by decide), if_neg (by decide), if_neg (by decide), if_neg (by decide), if_neg (by decide),
      if_pos rfl, htake, fromLE_toLE_of_lt (by omega), itemHandoverIn, if_pos ((takeRecord_role s r).trans hrole)]
    exact ⟨by simp, (takeRecord_role s r).trans hrole⟩
  · exact controlRecord_item hup hstage hrole (by decide) hbody
  · refine ⟨_, (if_neg (by simp [hup, hrole])).trans (if_neg (by omega)), ?_⟩
    have hfold (u : State) (es : List (Nat × TxEntry)) : (es.foldl (fun s e => freeEntry s e.1) u).hsb = u.hsb ∧
        (es.foldl (fun s e => freeEntry s e.1) u).mem = u.mem :=
      ⟨foldl_hsb _ _ (fun u (e : Nat × TxEntry) => (freeEntry_rest u e.1).1) u, foldl_mem _ _ (fun u (e : Nat × TxEntry) => (freeEntry_rest u e.1).2) u⟩
    obtain ⟨hhsb, hmem⟩ := hfold ((prove s 3).modDelta k.toNat fun d => { d with ackIn := some c.toNat })
      (((prove s 3).modDelta k.toNat fun d => { d with ackIn := some c.toNat }).phr.entries.filter fun e =>
        e.2.busy && e.2.tx.typ == .delta && e.2.tx.task == k.toNat && e.2.tx.cycle == c.toNat)
    refine ⟨?_, hmem⟩
    rw [State.delta, hhsb]
    exact congrArg DeltaSt.ackIn (State.delta_setDelta (prove s 3) k.toNat _)
  · refine ⟨_, (if_neg (by simp [hup, hrole])).trans (if_pos hk), ?_⟩
    have hswitch' : (prove s 3).hsb.switch = some x := hswitch
    rw [ackSwitch, hswitch']
    dsimp only
    rw [if_pos hth]
    exact ⟨rfl, rfl, rfl⟩
  · refine ⟨_, fullCopyChunk_byte hup hrole b hlo hhi, ?_⟩
    exact ⟨rfl, rfl, rfl, hrole⟩
  · exact fullCopyComplete_completes hup hrole
end Sys2Proof.Machine
end

section
/-!
PROOF. Delivery of latched events to cores and to Gauze (R37, R38, R134).
-/
namespace Sys2Proof.Machine

/-! ### The registers that a merge counts in -/

theorem countMerge_reg {s : State} {n a : Nat} (h1 : a ≠ EVC_OVFCNT) (h2 : a ≠ EVC_STAT) : (s.countMerge n).reg a = s.reg a :=
  (reg_setFld_ne _ EVC_STAT_LASTOVF _ _ h2).trans (count32_reg h1)

/-! ### The cores of a delivery -/

/-- The cores that a delivery takes the event to. -/
def deliveryCores (s : State) (d : Nat) : List Nat := (eventCores d).filter fun c => !(s.unit c).halted

theorem mem_deliveryCores {s : State} {d c : Nat} (hc : c < 5) : c ∈ deliveryCores s d ↔ (bit d c && !(s.unit c).halted) = true := by
  simp [deliveryCores, eventCores, hc, and_comm]

theorem deliveryCores_nodup (s : State) (d : Nat) : (deliveryCores s d).Nodup := (List.nodup_range.filter _).filter _

/-- The module after the cores of a delivery have their event pending. -/
def coresDelivered (s : State) (n d : Nat) : State :=
  (deliveryCores s d).foldl (fun s c => s.modUnit c fun u => { u with evpend := u.evpend.add n })
    (if (deliveryCores s d).any fun c => (s.unit c).evpend.contains n then s.countMerge n else s)

theorem deliver_eq (s : State) (n d : Nat) : deliver s n d =
    (let t := if bit d 5 then eventToGauze (coresDelivered s n d) n else coresDelivered s n d
     if bit d 15 then recTrigger t n else t) := rfl

/-- A change of some units, each once, changes those alone. -/
theorem unit_foldl_modUnit (f : UnitSt → UnitSt) {cs : List Nat} (hcs : cs.Nodup) (s : State) (c : Nat) :
    (cs.foldl (fun s c => s.modUnit c f) s).unit c = if c ∈ cs then f (s.unit c) else s.unit c := by
  induction cs generalizing s with
  | nil => rfl
  | cons x xs ih =>
    obtain ⟨hx, hxs⟩ := List.nodup_cons.mp hcs
    rw [List.foldl_cons, ih hxs]
    by_cases hc : c = x
    · subst hc
      simp [hx]
    · simp [hc, State.unit_modUnit_ne _ _ _ _ hc]

theorem coresDelivered_evpend (s : State) (n d : Nat) {c : Nat} (hc : c < 5) : ((coresDelivered s n d).unit c).evpend =
    if bit d c && !(s.unit c).halted then (s.unit c).evpend.add n else (s.unit c).evpend := by
  have hunits : (if (deliveryCores s d).any fun c => (s.unit c).evpend.contains n then s.countMerge n else s).unit c = s.unit c := by
    split <;> simp [State.unit]
  rw [coresDelivered, unit_foldl_modUnit _ (deliveryCores_nodup s d), hunits]
  simp only [mem_deliveryCores hc]
  split <;> rfl

theorem coresDelivered_rest (s : State) (n d : Nat) : (coresDelivered s n d).evc = s.evc ∧ (coresDelivered s n d).mem = s.mem ∧
    (coresDelivered s n d).img = s.img ∧ (coresDelivered s n d).tsk = s.tsk := by
  unfold coresDelivered
  split <;> simp

theorem coresDelivered_reg (s : State) (n d : Nat) {a : Nat} (h1 : a ≠ EVC_OVFCNT) (h2 : a ≠ EVC_STAT) :
    (coresDelivered s n d).reg a = s.reg a := by
  have hregs : (coresDelivered s n d).regs =
      (if (deliveryCores s d).any fun c => (s.unit c).evpend.contains n then s.countMerge n else s).regs := by
    simp [coresDelivered]
  rw [State.reg, hregs]
  split
  · exact countMerge_reg h1 h2
  · rfl

/-! ### Gauze -/

/-- The triggers of an event, each of which marks its segment. -/
def triggered (s : State) (n : Nat) : State :=
  ((List.range 32).filter fun i => s.flag (GZ_TRIG_EN i) && s.fld (GZ_TRIG_EVSRC i) == n).foldl
    (fun s i => s.modGz fun g => { g with trig := g.trig.add (s.fld (GZ_TRIG_SEGMENT i)) }) s

theorem triggered_rest (s : State) (n : Nat) : (triggered s n).evc = s.evc ∧ (triggered s n).mem = s.mem ∧
    (triggered s n).img = s.img ∧ (triggered s n).tsk = s.tsk := by
  simp [triggered]

theorem triggered_marks {s : State} {n i : Nat} (hi : i < 32) (hen : s.flag (GZ_TRIG_EN i) = true)
    (hsrc : s.fld (GZ_TRIG_EVSRC i) = n) : (triggered s n).gz.trig.contains (s.fld (GZ_TRIG_SEGMENT i)) = true := by
  refine foldl_establishes_under (I := fun t => t.regs = s.regs)
    (f := fun s i => s.modGz fun g => { g with trig := g.trig.add (s.fld (GZ_TRIG_SEGMENT i)) })
    (P := fun t => t.gz.trig.contains (s.fld (GZ_TRIG_SEGMENT i)) = true) (k := i) (fun t ht => ?_) (fun t j ht => ht)
    (fun t j _ h => ?_) ?_ rfl
  · show (t.gz.trig.add (t.fld (GZ_TRIG_SEGMENT i))).contains _ = true
    rw [fld_of_regs ht, NSet.contains_add, beq_self_eq_true, Bool.true_or]
  · show (t.gz.trig.add _).contains _ = true
    rw [NSet.contains_add, h, Bool.or_true]
  · exact List.mem_filter.mpr ⟨List.mem_range.mpr hi, by simp [hen, hsrc]⟩

/-- An event that no enabled event task is bound to only marks the segments of its triggers. -/
theorem eventToGauze_marks {s : State} {n : Nat} (hrun : s.running = true)
    (htasks : ∀ k < 24, 16 ≤ k → taskEn s k = true → s.fld (TSK_CTRL_EVSRC k) ≠ n) : eventToGauze s n = triggered s n := by
  have hnone : (((List.range 24).filter fun k => decide (16 ≤ k)).filter fun k =>
      taskEn s k && s.fld (TSK_CTRL_EVSRC k) == n).isEmpty = true := by
    rw [List.isEmpty_iff, List.filter_eq_nil_iff]
    intro k hk
    obtain ⟨hlt, hge⟩ : k < 24 ∧ 16 ≤ k := by simpa using hk
    have hfree := htasks k hlt hge
    simpa using hfree
  unfold eventToGauze
  dsimp only
  rw [hnone, if_pos rfl, hrun, if_pos rfl]
  rfl

/-- Settles O5: the cores that take the event, each once, and the triggers of Gauze. -/
theorem eventDelivery : Obligations.EventDelivery := by
  intro n s hhalted hlatched
  have hexec : exec (.eventDelivery n) s = .next (deliver { s with evc := { s.evc with latched := s.evc.latched.set 0 n.val 0 } }
      n.val (s.eventDests n.val (s.evc.latched.get 0 n.val))) := if_neg (by simp [hhalted, hlatched])
  refine ⟨hexec, fun hd => ⟨_, hexec, ?_⟩, fun hgauze hrec hrun htasks => ⟨_, hexec, ?_⟩⟩
  all_goals generalize s.eventDests n.val (s.evc.latched.get 0 n.val) = d at *
  · have hbit (i : Nat) (hi : 5 ≤ i) : bit d i = false := by
      have hpow : 2 ^ 5 ≤ 2 ^ i := Nat.pow_le_pow_right Nat.two_pos hi
      have : d < 2 ^ i := hd.trans_le hpow
      simp [bit, Nat.shiftRight_eq_div_pow, Nat.div_eq_of_lt this]
    rw [deliver_eq, hbit 5 (by omega), hbit 15 (by omega)]
    obtain ⟨hevc, hmem, himg, htsk⟩ :=
      coresDelivered_rest { s with evc := { s.evc with latched := s.evc.latched.set 0 n.val 0 } } n.val d
    refine ⟨fun c hc => coresDelivered_evpend _ _ _ hc, ?_, hmem, himg, htsk, fun a h1 h2 => coresDelivered_reg _ _ _ h1 h2⟩
    show (coresDelivered _ _ _).evc.latched.get 0 n.val = 0
    rw [hevc]
    exact Tbl.get_set_same s.evc.latched 0 n.val 0
  · rw [deliver_eq, hgauze, hrec]
    set u : State := { s with evc := { s.evc with latched := s.evc.latched.set 0 n.val 0 } } with hu
    obtain ⟨hevc, hmem, himg, htsk⟩ := coresDelivered_rest u n.val d
    have hfld (f : Fld) (h1 : f.addr ≠ EVC_OVFCNT) (h2 : f.addr ≠ EVC_STAT) : (coresDelivered u n.val d).fld f = s.fld f :=
      fld_of_reg (coresDelivered_reg u n.val d h1 h2)
    have hmarks : eventToGauze (coresDelivered u n.val d) n.val = triggered (coresDelivered u n.val d) n.val := by
      refine eventToGauze_marks (by rw [State.running, htsk]; exact hrun) fun k hk hge hen => ?_
      have hctrl : TSK_CTRL k ≠ EVC_OVFCNT ∧ TSK_CTRL k ≠ EVC_STAT := by
        simp only [TSK_CTRL, EVC_OVFCNT, EVC_STAT]
        omega
      rw [hfld _ hctrl.1 hctrl.2]
      refine htasks k hk hge ?_
      rwa [taskEn, flag_of_reg (coresDelivered_reg u n.val d hctrl.1 hctrl.2)] at hen
    obtain ⟨hevc', hmem', himg', htsk'⟩ := triggered_rest (coresDelivered u n.val d) n.val
    dsimp only
    rw [if_pos rfl, if_neg Bool.false_ne_true, hmarks]
    refine ⟨fun i hi hen hsrc => ?_, ?_, hmem'.trans hmem, himg'.trans himg, htsk'.trans htsk⟩
    · have htrig : GZ_TRIG i ≠ EVC_OVFCNT ∧ GZ_TRIG i ≠ EVC_STAT := by
        simp only [GZ_TRIG, EVC_OVFCNT, EVC_STAT]
        omega
      have hseg := hfld (GZ_TRIG_SEGMENT i) htrig.1 htrig.2
      rw [← hseg]
      exact triggered_marks hi ((flag_of_reg (coresDelivered_reg u n.val d htrig.1 htrig.2)).trans hen)
        ((hfld (GZ_TRIG_EVSRC i) htrig.1 htrig.2).trans hsrc)
    · rw [hevc', hevc]
      exact Tbl.get_set_same s.evc.latched 0 n.val 0
end Sys2Proof.Machine
end

section
/-!
PROOF. Equivalence faults, clears and idle audits (R139, R140, R144, R175).
-/
namespace Sys2Proof.Machine

/-! ### Requests and clears -/

/-- A write of GZ_CMD has its effect alone: the register shows no object (R175). -/
theorem gzCmd_writes {s : State} {core : CoreId} {v : Word} (hmay : MayWrite s core GZ_CMD) :
    exec (.gzCmdEqclr core v) s = .next (gzCmdWrite s v) ∧ exec (.gzCmdAudreq core v) s = .next (gzCmdWrite s v) := by
  have hnone : objectsAt GZ_CMD = [] := by decide +kernel
  constructor
  · exact ((registerCommands core v s 0 0 0 0 _ List.mem_cons_self hmay).1 _ rfl).2 (.inr hnone)
  · exact ((registerCommands core v s 0 0 0 0 _ (List.mem_cons_of_mem _ List.mem_cons_self) hmay).1 _ rfl).2 (.inr hnone)

theorem clearEquiv_clears {s : State} {k : Nat} (h : (s.aud k).fault = true) :
    ((clearEquiv s k).aud k).fault = false ∧ ((clearEquiv s k).aud k).start = s.now ∧ ((clearEquiv s k).task k).resync = true ∧
      (clearEquiv s k).mem = s.mem ∧ (clearEquiv s k).img = s.img ∧ (clearEquiv s k).units = s.units := by
  have hitem (t : State) (item : List Byte) : (controlItem t k itemFault item).aud k = t.aud k := by simp [State.aud]
  have htask (t : State) (item : List Byte) : (controlItem t k itemFault item).task k = t.task k := by simp [State.task]
  have haud (t : State) (f : TaskSt → TaskSt) : (t.modTask k f).aud k = t.aud k := rfl
  unfold clearEquiv
  rw [if_pos h]
  refine ⟨?_, ?_, ?_, by simp [auditInterval], by simp [auditInterval], by simp [auditInterval]⟩
  · rw [hitem, haud, State.aud_modAud]
  · rw [hitem, haud, State.aud_modAud, auditInterval, State.aud_modAud]
  · rw [htask, State.task_modTask]

/-! ### The run of an audit -/

theorem Tbl.mem_insert_self {α : Type} (t : Tbl α) (k : Nat) (v : α) : (k, v) ∈ t.insert k v := by
  induction t with
  | nil => exact List.mem_cons_self
  | cons e rest ih =>
    unfold Tbl.insert
    split
    · exact List.mem_cons_self
    · exact List.mem_cons_of_mem _ ih

/-- A unit that is given an audit's run is among those that make one. -/
theorem auditRunning_setUnit {s : State} {u : Nat} {x : UnitSt} {r : Run} (hrun : x.run = some r) (haudit : r.audit = true) :
    auditRunning (s.setUnit u x) = true := by
  have hne : x ≠ {} := fun h => by simp [h] at hrun
  refine List.any_eq_true.mpr ⟨(u, x), ?_, by rw [hrun]; exact haudit⟩
  show (u, x) ∈ s.units.set {} u x
  rw [Tbl.set, if_neg hne]
  exact Tbl.mem_insert_self _ _ _

theorem runUnit_run (s : State) (u seg : Nat) (r : Run) : (runUnit s u seg r).run = some r := by
  unfold runUnit
  dsimp only
  split <;> rfl

@[simp] theorem cacheMeet_audit (s : State) (c seg : Nat) : (cacheMeet s c seg).gz.audit = s.gz.audit ∧
    (cacheMeet s c seg).gz.pending = s.gz.pending := by
  unfold cacheMeet
  extract_lets key held d t
  have hd : d.2 = s ∨ d.2 = s.drawBit.2 := by
    simp only [d]
    split <;> simp
  rcases hd with hd | hd <;> simp only [t, hd] <;> split <;> simp [State.drawBit]

/-- An audit's run on a unit: what it stands at, and that nothing becomes pending by it. -/
theorem startRun_audits (s : State) (u seg k time : Nat) : auditRunning (startRun s u seg k true time) = true ∧
    (∃ r, ((startRun s u seg k true time).unit u).run = some r ∧ r.audit = true ∧ r.seg = seg ∧ r.taskTime = time) ∧
    (startRun s u seg k true time).gz.audit = s.gz.audit ∧ (startRun s u seg k true time).gz.pending = s.gz.pending := by
  unfold startRun
  dsimp only
  refine ⟨auditRunning_setUnit (runUnit_run _ _ _ _) rfl, ?_, ?_, ?_⟩
  · rw [State.unit_setUnit, runUnit_run]
    exact ⟨_, rfl, rfl, rfl, rfl⟩
  · rw [if_pos rfl]
    split <;> simp
  · rw [if_pos rfl]
    split <;> simp

/-! ### The next run and the end -/

/-- With no segment left an audit starts no further run. -/
theorem auditNext_none {s : State} {a : Audit} (ha : s.gz.audit = some a) (htodo : a.todo = []) : auditNext s = s := by
  unfold auditNext
  rw [ha]
  dsimp only
  rw [htodo]
  dsimp only
  split_ifs <;> rfl

/-- A unit that is free for it runs an audit's next segment. -/
theorem auditNext_runs {s : State} {a : Audit} {seg : Nat} {rest : List Nat} {u : Nat} (ha : s.gz.audit = some a)
    (htodo : a.todo = seg :: rest) (hfree : auditRunning s = false) (hfunded : auditFunded s a.task = true)
    (hu : (unitsFor (s.hdr seg)).find? (unitFree s) = some u) : auditNext s =
      startRun (s.modGz fun g => { g with audit := some { a with todo := rest } }) u seg a.task true a.time := by
  unfold auditNext
  rw [hfree, if_neg Bool.false_ne_true, ha]
  dsimp only
  rw [hfunded, if_neg (by simp), htodo]
  dsimp only
  rw [hu]

theorem auditFinish_running {s : State} (h : auditRunning s = true) : auditFinish s = s := by
  unfold auditFinish
  split
  · rw [h, if_neg (by simp)]
  · rfl

/-- An audit with no segment left and no run is over: its finding is an equivalence fault, and without one it is complete. -/
theorem auditFinish_ends {s : State} {a : Audit} (ha : s.gz.audit = some a) (htodo : a.todo = []) (hfree : auditRunning s = false) :
    auditFinish s = if a.found then
        equivFault ((s.modGz fun g => { g with audit := none }).modAud a.task fun x => { x with req := false }) a.task a.firstSeg
          a.firstAddr a.bytes
      else (auditDone (s.modGz fun g => { g with audit := none }) a.task).raise 46 := by
  unfold auditFinish
  rw [ha]
  dsimp only
  rw [htodo, hfree]
  rfl

/-- A complete audit restarts its interval. -/
theorem auditDone_says (s : State) (k : Nat) : (auditDone s k).gz.audit = s.gz.audit ∧ ((auditDone s k).aud k).start = s.now ∧
    ((auditDone s k).aud k).req = false ∧ (auditDone s k).img = s.img ∧ (auditDone s k).mem = s.mem ∧
    (auditDone s k).units = s.units := by
  refine ⟨rfl, ?_, ?_, rfl, rfl, rfl⟩
  · rw [auditDone, State.aud_modAud, auditInterval, State.aud_modAud]
  · rw [auditDone, State.aud_modAud]

theorem auditDone_raised (s : State) (k : Nat) : ((auditDone s k).raise 46).gz.audit = s.gz.audit ∧
    (((auditDone s k).raise 46).aud k).start = s.now ∧ (((auditDone s k).raise 46).aud k).req = false ∧
    ((auditDone s k).raise 46).img = s.img ∧ ((auditDone s k).raise 46).mem = s.mem ∧
    ((auditDone s k).raise 46).units = s.units := by
  have haud : ((auditDone s k).raise 46).aud k = (auditDone s k).aud k := by simp [State.aud]
  obtain ⟨h1, h2, h3, h4, h5, h6⟩ := auditDone_says s k
  rw [haud]
  exact ⟨by simpa using h1, h2, h3, by simpa using h4, by simpa using h5, by simpa using h6⟩

theorem equivFault_says (s : State) (k seg addr count : Nat) : (equivFault s k seg addr count).gz.audit = s.gz.audit ∧
    (equivFault s k seg addr count).gz.mismatch = s.gz.mismatch ∧ (equivFault s k seg addr count).img = s.img ∧
    (equivFault s k seg addr count).aud k = { s.aud k with
      fault := true, eqCount := holdAt 255 count, eqSeg := seg, eqAddr := addr } := by
  refine ⟨by simp [equivFault], by simp [equivFault], by simp [equivFault], ?_⟩
  have hitem (t : State) (item : List Byte) : (controlItem t k itemFault item).aud k = t.aud k := by simp [State.aud]
  have hrecord (t : State) (ws : List Nat) : ((t.raise 47).record 0x0121 2 1 k ws).aud k = t.aud k := by simp [State.aud]
  rw [equivFault, hitem, hrecord, State.aud_modAud]

/-! ### The instructions -/

/-- The audit of a task as it begins. -/
def auditOf (s : State) (k : Nat) : Audit := { task := k, time := (s.task k).lastTime, todo := auditSegments s k }

/-- The module with a task's audit begun. -/
def auditBegun (s : State) (k : Nat) : State :=
  s.modGz fun g => { g with mismatch := notTask s k g.mismatch, audit := some (auditOf s k) }

theorem idleAuditStart_starts {s : State} {k : TaskId} (hmay : auditMay s k.val = true) (hfunded : auditFunded s k.val = true) :
    exec (.idleAuditStart k) s = .next (auditFinish (auditNext (auditBegun s k.val))) :=
  if_neg (by simp [hmay, hfunded])

/-- The unit of an audit's run, free again. -/
def auditLeft (s : State) (u : UnitId) : State := s.modUnit (UnitId.key u) UnitSt.leave

/-- The module with the first finding of an audit marked. -/
def auditMarked (s : State) (a : Audit) (r : Run) (x n : Nat) : State :=
  s.modGz fun g => { g with
    audit := some { a with bytes := a.bytes + 1 + n, found := true, firstSeg := r.seg, firstAddr := x }
    mismatch := g.mismatch.add r.seg }

section

variable {s : State} {u : UnitId} {r : Run} {a : Audit} (hrun : (s.unit (UnitId.key u)).run = some r) (ha : s.gz.audit = some a)
  (haudit : r.audit = true) (hdone : r.done = true) (hhalted : halted s = false)

include hrun ha haudit hdone hhalted

theorem auditRunEnd_clean (hfound : auditFound (auditLeft s u) r = []) :
    exec (.auditRunEnd u) s = .next (auditFinish (auditNext (auditLeft s u))) := by
  show execAuditRunEnd u s = _
  unfold execAuditRunEnd
  dsimp only
  rw [hrun, ha]
  dsimp only
  rw [if_neg (by simp [haudit, hdone, hhalted])]
  rw [auditLeft] at hfound
  rw [hfound]
  rfl

theorem auditRunEnd_finds {x : Nat} {more : List Nat} (hfound : auditFound (auditLeft s u) r = x :: more)
    (hfirst : a.found = false) :
    exec (.auditRunEnd u) s = .next (auditFinish (auditNext (auditMarked (auditLeft s u) a r x more.length))) := by
  show execAuditRunEnd u s = _
  unfold execAuditRunEnd
  dsimp only
  rw [hrun, ha]
  dsimp only
  rw [if_neg (by simp [haudit, hdone, hhalted])]
  rw [auditLeft] at hfound
  rw [hfound]
  dsimp only
  rw [hfirst, if_neg Bool.false_ne_true, if_neg Bool.false_ne_true]
  rfl

end

/-- Settles O32: EQCLR and AUDREQ; an audit's first run or its end; the end of a run by what it found. -/
theorem audits : Obligations.Audits := by
  refine ⟨fun core v s hmay hk => ⟨fun heq haud hfault => ?_, fun heq haud => ?_⟩,
    fun k s hmay hfunded => ⟨idleAuditStart_starts hmay hfunded, fun hfree hnone => ?_, fun seg rest u hfree hsegs hu => ?_⟩,
    fun u s t r a hrun ha haudit hdone hhalted ht => ?_⟩
  · have hwrite : gzCmdWrite s v = clearEquiv s (wbits v 4 0) := by
      unfold gzCmdWrite
      dsimp only
      rw [if_pos hk, heq, haud, if_pos rfl, if_neg Bool.false_ne_true]
    exact ⟨_, (gzCmd_writes hmay).1, hwrite ▸ clearEquiv_clears hfault⟩
  · have hwrite : gzCmdWrite s v = requestAudit s (wbits v 4 0) := by
      unfold gzCmdWrite
      dsimp only
      rw [if_pos hk, heq, haud, if_neg Bool.false_ne_true, if_pos rfl]
    refine ⟨_, (gzCmd_writes hmay).2, ?_⟩
    rw [hwrite]
    refine ⟨?_, fun j hj => State.aud_modAud_ne _ _ _ _ hj, rfl, rfl⟩
    rw [requestAudit, State.aud_modAud]
  · have hbegun : (auditBegun s k.val).gz.audit = some (auditOf s k.val) := rfl
    have hfree' : auditRunning (auditBegun s k.val) = false := hfree
    refine ⟨_, idleAuditStart_starts hmay hfunded, ?_⟩
    rw [auditNext_none hbegun hnone, auditFinish_ends hbegun hnone hfree', auditOf, if_neg Bool.false_ne_true]
    obtain ⟨h1, h2, h3, h4, h5, -⟩ := auditDone_raised ((auditBegun s k.val).modGz fun g => { g with audit := none }) k.val
    exact ⟨h1, h2, h3, h4, h5⟩
  · have hbegun : (auditBegun s k.val).gz.audit = some (auditOf s k.val) := rfl
    have hfree' : auditRunning (auditBegun s k.val) = false := hfree
    have hunit : (unitsFor ((auditBegun s k.val).hdr seg)).find? (unitFree (auditBegun s k.val)) = some u := hu
    refine ⟨_, idleAuditStart_starts hmay hfunded, ?_⟩
    rw [auditNext_runs hbegun hsegs hfree' hfunded hunit]
    obtain ⟨h1, h2, h3, h4⟩ := startRun_audits ((auditBegun s k.val).modGz fun g =>
        { g with audit := some { auditOf s k.val with todo := rest } }) u seg (auditOf s k.val).task (auditOf s k.val).time
    obtain ⟨-, -, -, hmem, -, -, himg, -⟩ := startRun_rest ((auditBegun s k.val).modGz fun g =>
        { g with audit := some { auditOf s k.val with todo := rest } }) u seg (auditOf s k.val).task true (auditOf s k.val).time
    rw [auditFinish_running h1]
    exact ⟨h3, h2, h4, himg, hmem⟩
  · obtain rfl : t = auditLeft s u := ht
    have hleft : (auditLeft s u).gz.audit = some a := ha
    refine ⟨fun hfound => ⟨auditRunEnd_clean hrun ha haudit hdone hhalted hfound, fun htodo hfree hclean => ?_⟩,
      fun x more hfound hfirst => ⟨auditRunEnd_finds hrun ha haudit hdone hhalted hfound hfirst, fun htodo hfree => ?_⟩⟩
    · refine ⟨_, auditRunEnd_clean hrun ha haudit hdone hhalted hfound, ?_⟩
      rw [auditNext_none hleft htodo, auditFinish_ends hleft htodo hfree, hclean, if_neg Bool.false_ne_true]
      obtain ⟨h1, h2, h3, h4, h5, h6⟩ := auditDone_raised ((auditLeft s u).modGz fun g => { g with audit := none }) a.task
      exact ⟨h1, h2, h3, congrArg (fun us : Tbl UnitSt => us.get {} (UnitId.key u)) h6, h4, h5⟩
    · have hmarked : (auditMarked (auditLeft s u) a r x more.length).gz.audit =
          some { a with bytes := a.bytes + 1 + more.length, found := true, firstSeg := r.seg, firstAddr := x } := rfl
      have hfree' : auditRunning (auditMarked (auditLeft s u) a r x more.length) = false := hfree
      refine ⟨_, auditRunEnd_finds hrun ha haudit hdone hhalted hfound hfirst, ?_⟩
      rw [auditNext_none hmarked htodo, auditFinish_ends hmarked htodo hfree', if_pos rfl]
      obtain ⟨h1, h2, h3, h4⟩ := equivFault_says (((auditMarked (auditLeft s u) a r x more.length).modGz fun g =>
        { g with audit := none }).modAud a.task fun x => { x with req := false }) a.task r.seg x (a.bytes + 1 + more.length)
      dsimp only
      rw [h4, h1, h2]
      refine ⟨rfl, rfl, rfl, rfl, rfl, ?_, h3⟩
      show (NSet.add _ r.seg).contains r.seg = true
      rw [NSet.contains_add, beq_self_eq_true, Bool.true_or]
end Sys2Proof.Machine
end

section
/-!
PROOF. Staging: commit, abort, validation and the window of the lists (R148, R151, R152, R165, R180).
-/
namespace Sys2Proof.Machine

/-! ### Commit and abort -/

/-- A write of SEG_STGCTRL has its effect alone: the register shows no object. -/
theorem stgctrl_writes {s : State} {core : CoreId} {v : Word} (hmay : MayWrite s core SEG_STGCTRL) :
    exec (.segStgctrlCommit core v) s = .next (stgctrlWrite s v) ∧
      exec (.segStgctrlAbort core v) s = .next (stgctrlWrite s v) := by
  have hreg : plainRegister SEG_STGCTRL = true ∧ objectsAt SEG_STGCTRL = [] := by decide +kernel
  exact ⟨exec_of_block hmay rfl hreg.1 (.inr hreg.2) rfl, exec_of_block hmay rfl hreg.1 (.inr hreg.2) rfl⟩

/-- COMMIT alone of a set that is staged. -/
theorem stgctrlWrite_commit {s : State} {v : Word} (hv : wbit v 0 = true) (hv' : wbit v 1 = false) (hstg : s.gz.stg = .staging) :
    stgctrlWrite s v = (stgCommand s true).1 := by
  unfold stgctrlWrite
  dsimp only
  rw [hv', if_neg Bool.false_ne_true, if_pos (by simp [hv, hstg])]

theorem stgctrlWrite_ignored {s : State} {v : Word} (hv : wbit v 1 = false) (hstg : s.gz.stg ≠ .staging) :
    stgctrlWrite s v = s := by
  unfold stgctrlWrite
  dsimp only
  rw [hv, if_neg Bool.false_ne_true, if_neg (by simp [hstg])]

theorem stgctrlWrite_abort {s : State} {v : Word} (hv : wbit v 0 = false) (hv' : wbit v 1 = true) :
    stgctrlWrite s v = controlItem (stgAbort s) 0xFF itemStaging (toLE 1 2) := by
  unfold stgctrlWrite
  dsimp only
  rw [hv, hv', if_pos rfl, Bool.false_and, if_neg Bool.false_ne_true]
  rfl

/-- A set in BUILDING shows no error, and keeps its segments. -/
theorem stgCommand_builds {s : State} (hprog : s.tsk.prog ≠ .preparing ∧ s.tsk.prog ≠ .stopping) (hstg : s.gz.stg = .staging) :
    (stgCommand s true).1 =
      controlItem (s.modGz fun g => { g with stg := .building, stgErr := 0, stgErrSeg := 0 }) 0xFF itemStaging (toLE 1 1) := by
  have hcommit : stgCommit s = (s.modGz fun g => { g with stg := .building, stgErr := 0, stgErrSeg := 0 }, 0) := by
    rw [stgCommit, if_neg (by simp [hprog]), if_pos hstg]
  unfold stgCommand
  rw [if_pos rfl, hcommit]
  rfl

theorem stgCommand_early {s : State} (hprog : s.tsk.prog = .preparing ∨ s.tsk.prog = .stopping) : (stgCommand s true).1 = s := by
  have hcommit : stgCommit s = (s, 0x0701) := if_pos hprog
  unfold stgCommand
  rw [if_pos rfl, hcommit]
  rfl

/-- ABORT discards the staged set; where BUILDING had begun the set has failed with error 0x08. -/
theorem stgAbort_aborts (s : State) : (∀ e ∈ (stgAbort s).gz.slots, e.2.valid = false) ∧
    (stgAbort s).mem = s.mem ∧ (stgAbort s).regs = s.regs ∧
    (s.gz.stg = .empty ∨ s.gz.stg = .staging ∨ s.gz.stg = .failed → (stgAbort s).gz.stg = .empty) ∧
    (s.gz.stg = .building ∨ s.gz.stg = .validating ∨ s.gz.stg = .armed →
      (stgAbort s).gz.stg = .failed ∧ (stgAbort s).gz.stgErr = 8) := by
  refine ⟨fun e he => ?_, by simp [stgAbort], by simp [stgAbort], fun h => ?_, fun h => ?_⟩
  · simpa using (List.mem_filter.mp (show e ∈ _ from he)).2
  · have hstopped : stgStopped s = s := if_neg (by rcases h with h | h | h <;> simp [h])
    unfold stgAbort
    rw [hstopped]
    exact if_pos rfl
  · have hstopped : (stgStopped s).gz.stg = .failed ∧ (stgStopped s).gz.stgErr = 8 := by
      unfold stgStopped
      rw [if_pos h]
      exact ⟨rfl, rfl⟩
    have hne : s.gz.stg ≠ (stgStopped s).gz.stg := by
      rw [hstopped.1]
      rcases h with h | h | h <;> simp [h]
    unfold stgAbort
    exact ⟨if_neg hne, (if_neg hne).trans hstopped.2⟩

/-! ### Failing and swapping -/

/-- A module that goes back from the shadow keeps what is staged, and the headers. -/
theorem leaveShadow_staging (s : State) (r : Nat) : (leaveShadow s r).gz.stg = s.gz.stg ∧
    (leaveShadow s r).gz.stgErr = s.gz.stgErr ∧ (leaveShadow s r).gz.stgErrSeg = s.gz.stgErrSeg ∧
    (leaveShadow s r).gz.slots = s.gz.slots ∧ (leaveShadow s r).gz.hdr = s.gz.hdr := by
  have hany (s : State) : (abandonAny s).gz.stg = s.gz.stg ∧ (abandonAny s).gz.stgErr = s.gz.stgErr ∧
      (abandonAny s).gz.stgErrSeg = s.gz.stgErrSeg ∧ (abandonAny s).gz.slots = s.gz.slots ∧ (abandonAny s).gz.hdr = s.gz.hdr := by
    unfold abandonAny
    split
    · unfold abandonAudit
      split
      · split <;> simp [State.modAud, State.setAud]
      · simp
    · simp
  unfold leaveShadow haltEvaluation
  simp [hany]

theorem setFailed_says (s : State) (err seg : Nat) : (setFailed s err seg).gz.stg = .failed ∧
    (setFailed s err seg).gz.stgErr = err ∧ (setFailed s err seg).gz.stgErrSeg = seg ∧
    (setFailed s err seg).gz.slots = s.gz.slots ∧ (setFailed s err seg).gz.hdr = s.gz.hdr ∧
    (setFailed s err seg).mem.code = s.mem.code ∧
    (s.role = roleSyncing ∨ s.role = roleReady → (setFailed s err seg).role = roleIncompatible) := by
  unfold setFailed
  dsimp only
  split
  · next h =>
    obtain ⟨h1, h2, h3, h4, h5⟩ := leaveShadow_staging ((stgFail s err seg).modHsb fun h => { h with badSet := true }) roleIncompatible
    exact ⟨h1, h2, h3, h4, h5, by simp, fun _ => (leaveShadow_stopped _ _).1⟩
  · next h => exact ⟨rfl, rfl, rfl, rfl, rfl, rfl, fun h' => absurd h' h⟩

theorem swapped_rest (s : State) : (swapped s).img = s.img ∧ (swapped s).mem.sram = s.mem.sram := by
  unfold swapped
  simp

/-- A set that is swapped in leaves nothing staged; the image and data SRAM stay. -/
theorem swap_says (s : State) : (swap s).1.gz.stg = .empty ∧ (∀ e ∈ (swap s).1.gz.slots, e.2.valid = false) ∧
    (swap s).1.img = s.img ∧ (swap s).1.mem.sram = s.mem.sram := by
  obtain ⟨himg, hsram⟩ := swapped_rest s
  have hslots (t : State) (code sev kind num : Nat) (ws : List Nat) : (t.record code sev kind num ws).gz = t.gz := by simp
  unfold swap
  dsimp only
  refine ⟨by simp, fun e he => ?_, by simp [himg], by simp [hsram]⟩
  rw [hslots] at he
  simpa using (List.mem_filter.mp (show e ∈ List.filter _ _ from he)).2

/-! ### Building and validation -/

section

variable {s : State} (hfelt : feltRuns s = true) (hslice : inSlice s .replace = true)

include hfelt hslice

theorem buildingComplete_ends (hstg : s.gz.stg = .building) : exec .buildingComplete s =
    if entriesFree s < (stagedNews s).foldl (fun n x => n + x.rcount + x.wcount) 0 then
      (match stgCheck s with
      | some e => .next (setFailed s e.1 e.2)
      | none => .next (setFailed s 0x07 0))
    else .next (s.modGz fun g => { g with stg := .validating }) :=
  if_neg (by simp [hstg, hfelt, hslice])

theorem validationComplete_ends (hstg : s.gz.stg = .validating) : exec .validationComplete s =
    match stgCheck s with
    | some e => .next (setFailed s e.1 e.2)
    | none => if plantRuns s then .next (s.modGz fun g => { g with stg := .armed }) else .next (swap s).1 := by
  refine (if_neg (by simp [hstg, hfelt, hslice])).trans ?_
  rfl

/-- Building that does not find its entries fails, with the error of the first check that fails. -/
theorem buildingComplete_fails (hstg : s.gz.stg = .building)
    (hents : entriesFree s < (stagedNews s).foldl (fun n x => n + x.rcount + x.wcount) 0) :
    Answers .buildingComplete s fun t =>
      t.gz.stg = .failed ∧ t.gz.slots = s.gz.slots ∧ t.gz.hdr = s.gz.hdr ∧ t.mem.code = s.mem.code ∧
      (∀ e, stgCheck s = some e → t.gz.stgErr = e.1 ∧ t.gz.stgErrSeg = e.2) := by
  have hexec := buildingComplete_ends hfelt hslice hstg
  rw [if_pos hents] at hexec
  cases hcheck : stgCheck s with
  | none =>
    rw [hcheck] at hexec
    obtain ⟨h1, -, -, h4, h5, h6, -⟩ := setFailed_says s 0x07 0
    exact ⟨_, hexec, h1, h4, h5, h6, fun e he => nomatch he⟩
  | some e =>
    rw [hcheck] at hexec
    obtain ⟨h1, h2, h3, h4, h5, h6, -⟩ := setFailed_says s e.1 e.2
    refine ⟨_, hexec, h1, h4, h5, h6, fun e' he => ?_⟩
    cases he
    exact ⟨h2, h3⟩

end

/-! ### The window of the lists -/

theorem subdata_plain : plainRegister GZ_SUBDATA = true ∧ objectsAt GZ_SUBDATA = [] := by decide +kernel

theorem block_subdata (s : State) (priv : Nat) (v : Word) : blockWrite s priv GZ_SUBDATA v =
    allowIf s.stopped (subselNext (s.modGz fun g => { g with
      ent := g.ent.set 0 (s.fld GZ_SUBSEL_INDEX) v, eccEnt := g.eccEnt.del (s.fld GZ_SUBSEL_INDEX) })) := rfl

theorem subselNext_index (s : State) : (subselNext s).fld GZ_SUBSEL_INDEX = (s.fld GZ_SUBSEL_INDEX + 1) % 2097152 := by
  rw [subselNext, fld_setFld_same _ _ _ (by decide) (by decide)]
  exact Nat.mod_mod _ _

theorem subselNext_rest (s : State) : (subselNext s).gz = s.gz ∧ (subselNext s).mem = s.mem := ⟨rfl, rfl⟩

theorem gzSubdata_written {s : State} {core : CoreId} {v : Word} (hmay : MayWrite s core GZ_SUBDATA) (hstop : s.stopped = true) :
    exec (.gzSubdataAccess core (some v)) s = .next (subselNext (s.modGz fun g => { g with
      ent := g.ent.set 0 (s.fld GZ_SUBSEL_INDEX) v, eccEnt := g.eccEnt.del (s.fld GZ_SUBSEL_INDEX) })) :=
  exec_of_block hmay rfl subdata_plain.1 (.inr subdata_plain.2) ((block_subdata s _ v).trans (if_pos hstop))

theorem gzSubdata_refused {s : State} {core : CoreId} {v : Word} (hmay : MayWrite s core GZ_SUBDATA) (hstop : s.stopped = false) :
    exec (.gzSubdataAccess core (some v)) s = .next (raiseExc s core.val exAccess 1 GZ_SUBDATA (s.unit core.val).pc) :=
  exec_of_block_refused hmay rfl subdata_plain.1 ((block_subdata s _ v).trans (if_neg (by simp [hstop])))

theorem subdata_there : regThere GZ_SUBDATA = true ∧ areaOf GZ_SUBDATA = some .periph ∧
    (regDefAt GZ_SUBDATA).map readMask = some (2 ^ 32 - 1) := by
  decide +kernel

theorem subdata_peek (s : State) : regPeek s GZ_SUBDATA = (s.gz.ent.get 0 (s.fld GZ_SUBSEL_INDEX)).toNat := by
  obtain ⟨d, hd, hmask⟩ := Option.map_eq_some_iff.mp subdata_there.2.2
  have hview : regPeek s GZ_SUBDATA = (s.gz.ent.get 0 (s.fld GZ_SUBSEL_INDEX)).toNat &&& readMask d := by
    unfold regPeek
    rw [hd]
    rfl
  rw [hview, hmask, Nat.and_two_pow_sub_one_eq_mod, Nat.mod_eq_of_lt (BitVec.isLt _)]

/-- Reading the window gives the entry, and moves the index on. -/
theorem gzSubdata_read {s : State} {core : CoreId} (hmay : MayRead s core GZ_SUBDATA) : exec (.gzSubdataAccess core none) s =
    .next { subselNext s with rdata := s.gz.ent.get 0 (s.fld GZ_SUBSEL_INDEX) } := by
  obtain ⟨hlive, haudit, hperm, hgate⟩ := hmay
  have hreadable : periphReadable s core.val GZ_SUBDATA = true := by
    rw [periphReadable, subdata_there.1, hperm, hgate]
    rfl
  have hread : periphRead s core.val GZ_SUBDATA = (regPeek s GZ_SUBDATA, subselNext s) := by
    unfold periphRead
    rw [if_neg (by decide), if_neg (by decide)]
    dsimp only
    rw [if_pos rfl]
  refine congrArg Host.Outcome.next ?_
  rw [coreLoad_permitted s core.val GZ_SUBDATA hlive haudit subdata_there.2.1 (by decide) hreadable, hread, subdata_peek]
  simp [toWord]

/-- Settles O33: commit and abort; building and validation in their slice and outside; the window of the lists. -/
theorem staging : Obligations.Staging := by
  refine ⟨fun core v s hmay => ⟨fun hv hv' hstg hprog => ?_, fun hv hv' hstg => ?_, fun hv hv' => ?_⟩,
    fun s hstg hslice => ⟨if_pos ?_, if_pos ?_⟩,
    fun s hstg hfelt hslice => ⟨fun hents => ⟨_, (buildingComplete_ends hfelt hslice hstg).trans (if_neg (by omega)), rfl, rfl⟩,
      buildingComplete_fails hfelt hslice hstg⟩,
    fun s hstg hfelt hslice => ⟨fun e he => ?_, fun hnone hplant => ?_, fun hnone hplant => ?_⟩,
    fun core v s hmay => ⟨fun hstop => ⟨_, gzSubdata_written hmay hstop, ?_, ?_, fun i hi => ?_, rfl⟩, gzSubdata_refused hmay⟩,
    fun core s hmay => ⟨_, gzSubdata_read hmay, rfl, rfl, subselNext_index s⟩⟩
  · refine ⟨_, (stgctrl_writes hmay).1, ?_⟩
    have hready : s.tsk.prog ≠ .preparing ∧ s.tsk.prog ≠ .stopping := by
      rcases hprog with h | h <;> rw [beq_iff_eq.mp h] <;> exact ⟨by decide, by decide⟩
    rw [stgctrlWrite_commit hv hv' hstg, stgCommand_builds hready hstg]
    exact ⟨by simp, by simp, by simp, by simp, by simp⟩
  · rw [(stgctrl_writes hmay).1]
    by_cases h : s.gz.stg = .staging
    · rw [stgctrlWrite_commit hv hv' h, stgCommand_early (hstg.resolve_left (not_not.mpr h))]
    · rw [stgctrlWrite_ignored hv' h]
  · refine ⟨_, (stgctrl_writes hmay).2, ?_⟩
    obtain ⟨h1, h2, h3, h4, h5⟩ := stgAbort_aborts s
    rw [stgctrlWrite_abort hv hv']
    simp only [controlItem_keeps]
    exact ⟨h1, h2, h3, h4, h5⟩
  · rcases hslice with h | h <;> simp [h]
  · rcases hslice with h | h <;> simp [h]
  · have hexec := validationComplete_ends hfelt hslice hstg
    rw [he] at hexec
    exact ⟨_, hexec, setFailed_says s e.1 e.2⟩
  · have hexec := validationComplete_ends hfelt hslice hstg
    rw [hnone] at hexec
    exact ⟨_, hexec.trans (if_pos hplant), rfl, rfl⟩
  · have hexec := validationComplete_ends hfelt hslice hstg
    rw [hnone] at hexec
    exact ⟨_, hexec.trans (if_neg (by simp [hplant])), rfl, swap_says s⟩
  · exact Tbl.get_set_same s.gz.ent 0 _ v
  · exact subselNext_index _
  · exact Tbl.get_set_ne s.gz.ent 0 _ _ v hi
end Sys2Proof.Machine
end

section
/-!
PROOF. Ring probes and enumeration (R280, R317, R319, R322, R432).
-/
namespace Sys2Proof.Machine

/-! ### Rings and their states -/

/-- A ring takes its new state, and keeps all else. -/
theorem setRingState_ring (s : State) (r new : Nat) : (setRingState s r new).ring r = { s.ring r with state := new } := by
  have hphr (t : State) (ws : List Nat) : ((t.raise (32 + r)).record 0x0200 1 3 (256 * r) ws).ring r = t.ring r := by simp [State.ring]
  unfold setRingState
  dsimp only
  split
  · next h => rw [← h]
  · rw [hphr, State.ring_modRing]

theorem setRingState_ring_ne (s : State) {r q : Nat} (new : Nat) (h : q ≠ r) : (setRingState s r new).ring q = s.ring q := by
  have hphr (t : State) (ws : List Nat) : ((t.raise (32 + r)).record 0x0200 1 3 (256 * r) ws).ring q = t.ring q := by simp [State.ring]
  unfold setRingState
  dsimp only
  split
  · rfl
  · rw [hphr, State.ring_modRing_ne _ _ _ _ h]

/-- No ring waits for an enumeration after a change of state that none waited at. -/
theorem setRingState_enumReq {s : State} (r new : Nat) (h : ∀ q < 4, (s.ring q).enumReq = false) :
    ∀ q < 4, ((setRingState s r new).ring q).enumReq = false := by
  intro q hq
  by_cases hqr : q = r
  · rw [hqr, setRingState_ring]
    exact hqr ▸ h q hq
  · rw [setRingState_ring_ne _ _ hqr, h q hq]

theorem modRing_enumReq {s : State} (r : Nat) {f : RingSt → RingSt} (hf : (f (s.ring r)).enumReq = (s.ring r).enumReq)
    (h : ∀ q < 4, (s.ring q).enumReq = false) : ∀ q < 4, ((s.modRing r f).ring q).enumReq = false := by
  intro q hq
  by_cases hqr : q = r
  · rw [hqr, State.ring_modRing, hf]
    exact hqr ▸ h q hq
  · rw [State.ring_modRing_ne _ _ _ _ hqr, h q hq]

/-- Where no ring waits for an enumeration none begins. -/
theorem startEnum_none {s : State} (h : ∀ q < 4, (s.ring q).enumReq = false) : startEnum s = s := by
  have hnone : ((enabledRings s).find? fun r => (s.ring r).enumReq) = none := by
    rw [List.find?_eq_none]
    intro q hq
    rw [h q (List.mem_range.mp (List.mem_filter.mp hq).1)]
    exact Bool.false_ne_true
  unfold startEnum
  rw [hnone]
  dsimp only
  split <;> rfl

theorem autoStartNow_none {s : State} (h : s.boot.autoStart = false) : autoStartNow s = s := by
  unfold autoStartNow
  rw [if_neg (by simp [h])]

/-! ### Sending probes -/

/-- The module with the levels of its links taken. -/
def levelsTaken (s : State) (links : BitVec 8) : State :=
  (List.range 4).foldl (fun s r => s.modRing r fun x => { x with
    linkA := links.getLsbD (2 * r), linkB := links.getLsbD (2 * r + 1) }) s

theorem levelsTaken_rest (s : State) (links : BitVec 8) : (levelsTaken s links).sent = s.sent ∧ (levelsTaken s links).mem = s.mem ∧
    (levelsTaken s links).img = s.img ∧ (levelsTaken s links).regs = s.regs ∧ (levelsTaken s links).hsb = s.hsb ∧
    (levelsTaken s links).boot = s.boot ∧ (levelsTaken s links).frz = s.frz ∧ (levelsTaken s links).nv = s.nv ∧
    (levelsTaken s links).phr.linksDown = s.phr.linksDown := by
  simp [levelsTaken]

theorem levelsTaken_links (s : State) (links : BitVec 8) {r : Nat} (hr : r < 4) :
    ((levelsTaken s links).ring r).linkA = links.getLsbD (2 * r) ∧ ((levelsTaken s links).ring r).linkB = links.getLsbD (2 * r + 1) :=
  foldl_establishes (P := fun t => (t.ring r).linkA = links.getLsbD (2 * r) ∧ (t.ring r).linkB = links.getLsbD (2 * r + 1))
    (f := fun s r => s.modRing r fun x => { x with linkA := links.getLsbD (2 * r), linkB := links.getLsbD (2 * r + 1) })
    (fun t => by simp) (fun t q h => by
      by_cases hq : r = q
      · simp [hq]
      · rwa [State.ring_modRing_ne _ _ _ _ hq]) (List.mem_range.mpr hr) s

theorem levelsTaken_issues (s : State) (links : BitVec 8) : mayIssue (levelsTaken s links) = mayIssue s ∧
    enabledRings (levelsTaken s links) = enabledRings s := by
  obtain ⟨-, -, -, hregs, hhsb, hboot, hfrz, -⟩ := levelsTaken_rest s links
  have hen : ringEn (levelsTaken s links) = ringEn s := by
    funext r
    rw [ringEn, fld_of_regs hregs, ringEn]
  constructor
  · simp only [mayIssue, State.acts, State.role, hhsb, hboot, hfrz]
  · rw [enabledRings, hen, enabledRings]

/-- A ring whose probes have no result yet. -/
def ringCleared (s : State) (r : Nat) : State := s.modRing r fun x => { x with resA := none, resB := none }

theorem ringCleared_ring (s : State) (r : Nat) : (ringCleared s r).ring r = { s.ring r with resA := none, resB := none } :=
  State.ring_modRing s r _

/-- A probe sent on a ring, with what its links say at once. -/
def ringProbed (s : State) (r : Nat) : State :=
  let s := sendBoth (ringCleared s r) r fun b => frameFrom (ringCleared s r) r b ftPRB
  let s := if ringLink s r false then s else probeResult s r false (probeLost s r false)
  if ringLink s r true then s else probeResult s r true (probeLost s r true)

/-- A frame's header comes from the registers and the factory's MAC address. -/
theorem frameFrom_of_same {s t : State} (hregs : t.regs = s.regs) (hnv : t.nv = s.nv) (r : Nat) (b : Bool) (typ : Nat) :
    frameFrom t r b typ = frameFrom s r b typ := by
  simp only [frameFrom, portMac, factoryBytes, State.fld, State.reg, hregs, hnv]

theorem ringCleared_rest (s : State) (r : Nat) : (ringCleared s r).sent = s.sent ∧ (ringCleared s r).regs = s.regs ∧
    (ringCleared s r).mem = s.mem ∧ (ringCleared s r).nv = s.nv := ⟨rfl, rfl, rfl, rfl⟩

theorem probeSend_silent {s : State} (links : BitVec 8) (h : mayIssue s = false ∨ enabledRings s = []) :
    exec (.probeSend links) s = .next (levelsTaken s links) := by
  show execProbeSend links s = _
  obtain ⟨hissue, hrings⟩ := levelsTaken_issues s links
  unfold execProbeSend
  dsimp only
  rw [← levelsTaken, hissue, hrings]
  rcases h with h | h
  · rw [h]
    rfl
  · rw [h]
    split <;> rfl

theorem probeSend_probes {s : State} (links : BitVec 8) {r : Nat} (hissue : mayIssue s = true) (hring : enabledRings s = [r]) :
    exec (.probeSend links) s = .next (ringProbed (levelsTaken s links) r) := by
  show execProbeSend links s = _
  obtain ⟨hissue', hrings⟩ := levelsTaken_issues s links
  unfold execProbeSend
  dsimp only
  rw [← levelsTaken, hissue', hrings, hissue, hring, Bool.not_true, if_neg Bool.false_ne_true, List.foldl_cons, List.foldl_nil]
  rfl

theorem sendBoth_linked {s : State} {r : Nat} (f : Bool → PFrame) (hA : ringLink s r false = true) (hB : ringLink s r true = true) :
    sendBoth s r f = (s.send (.ring r false (f false))).send (.ring r true (f true)) := by
  have hB' : ringLink (s.send (.ring r false (f false))) r true = true := hB
  unfold sendBoth
  dsimp only
  rw [if_pos hA, if_pos hB']

theorem ringLink_cleared (s : State) (r : Nat) (b : Bool) : ringLink (ringCleared s r) r b = ringLink s r b := by
  unfold ringLink
  rw [ringCleared_ring]
  rfl

/-- With both links up the two probes only leave. -/
theorem ringProbed_linked {s : State} {r : Nat} (hA : ringLink s r false = true) (hB : ringLink s r true = true) :
    ringProbed s r = ((ringCleared s r).send (.ring r false (frameFrom s r false ftPRB))).send
      (.ring r true (frameFrom s r true ftPRB)) := by
  rw [← ringLink_cleared] at hA hB
  have hA' : ringLink (((ringCleared s r).send (.ring r false (frameFrom s r false ftPRB))).send
    (.ring r true (frameFrom s r true ftPRB))) r false = true := hA
  have hB' : ringLink (((ringCleared s r).send (.ring r false (frameFrom s r false ftPRB))).send
    (.ring r true (frameFrom s r true ftPRB))) r true = true := hB
  have hframe (b : Bool) : frameFrom (ringCleared s r) r b ftPRB = frameFrom s r b ftPRB := frameFrom_of_same rfl rfl r b ftPRB
  unfold ringProbed
  simp only [hframe]
  rw [sendBoth_linked _ hA hB, if_pos hA', if_pos hB']

/-! ### Results -/

/-- Both sides unlooped on a ring that is not enumerating, with a link: the ring is CLOSED. -/
theorem judgeProbe_closes {s : State} {r : Nat} (hA : (s.ring r).resA = some .unlooped) (hB : (s.ring r).resB = some .unlooped)
    (hlink : ((s.ring r).linkA || (s.ring r).linkB) = true) (hstate : (s.ring r).state ≠ 1) (hrun : s.running = false)
    (hreq : ∀ q < 4, (s.ring q).enumReq = false) :
    ((judgeProbe s r).ring r).state = 2 ∧ (judgeProbe s r).img = s.img ∧ (judgeProbe s r).mem.sram = s.mem.sram := by
  have hclosed : ringStateOf (s.ring r) .unlooped .unlooped = some 2 := by
    rw [ringStateOf, if_neg (by revert hlink; cases (s.ring r).linkA <;> cases (s.ring r).linkB <;> simp)]
  unfold judgeProbe
  rw [hA, hB]
  dsimp only
  set u := (s.setFld (PHR_RSTAT_LOOPA r) (loopField (ringN s r) false .unlooped)).setFld (PHR_RSTAT_LOOPB r)
    (loopField (ringN s r) true .unlooped) with hu
  have hring (q : Nat) : u.ring q = s.ring q := by simp [hu, State.ring]
  have hrest : u.img = s.img ∧ u.mem = s.mem ∧ u.tsk = s.tsk := by simp [hu]
  have hrun' : (setRingState u r 2).running = false := by
    rw [State.running, (setRingState_rest u r 2).2.2.2.2.2.2.2.2.2.2.2.2.2.1, hrest.2.2]
    exact hrun
  have hreq' : ∀ q < 4, ((setRingState u r 2).ring q).enumReq = false :=
    setRingState_enumReq r 2 fun q hq => (congrArg RingSt.enumReq (hring q)).trans (hreq q hq)
  rw [hring, hclosed, if_neg hstate, if_neg hstate, Option.getD_some, hrun', Bool.false_and, if_neg Bool.false_ne_true,
    startEnum_none (modRing_enumReq r rfl hreq')]
  refine ⟨?_, ?_, ?_⟩
  · rw [State.ring_modRing, setRingState_ring]
  · simp [hrest]
  · simp [hrest]

theorem probeResult_closes {s : State} {r : Nat} {d : Bool} (hother : (if d then (s.ring r).resA else (s.ring r).resB) = some .unlooped)
    (hlink : ((s.ring r).linkA || (s.ring r).linkB) = true) (hstate : (s.ring r).state ≠ 1) (hrun : s.running = false)
    (hreq : ∀ q < 4, (s.ring q).enumReq = false) : ((probeResult s r d .unlooped).ring r).state = 2 ∧
      (probeResult s r d .unlooped).img = s.img ∧ (probeResult s r d .unlooped).mem.sram = s.mem.sram := by
  unfold probeResult
  cases d with
  | false =>
    exact judgeProbe_closes (by rw [State.ring_modRing]; rfl) (by rw [State.ring_modRing]; exact hother)
      (by rw [State.ring_modRing]; exact hlink) (by rw [State.ring_modRing]; exact hstate) hrun (modRing_enumReq r rfl hreq)
  | true =>
    exact judgeProbe_closes (by rw [State.ring_modRing]; exact hother) (by rw [State.ring_modRing]; rfl)
      (by rw [State.ring_modRing]; exact hlink) (by rw [State.ring_modRing]; exact hstate) hrun (modRing_enumReq r rfl hreq)

/-- A good copy of a probe, by whether it was looped and the port that it comes back at. -/
theorem probeCopyReturn_good {r : RingId} {port : Bool} {f : PFrame} {s : State} (hen : ringEn s r.val = true)
    (hissue : mayIssue s = true) (htyp : f.typ = BitVec.ofNat 8 ftPRB) : exec (.probeCopyReturn r port true f) s =
      if f.loop then
        (if port = f.dirB then
          .next (probeResult s r.val f.dirB (if f.loopStn = 0#8 then .noAddr else .looped f.loopStn.toNat))
        else .next s)
      else if port = f.dirB then .next s
      else .next (probeResult s r.val f.dirB .unlooped) := by
  show execProbeCopyReturn r port true f s = _
  unfold execProbeCopyReturn
  dsimp only
  rw [if_neg (by simp), if_neg (by simp [hen, hissue, htyp])]

theorem enumerationComplete_completes {r : RingId} {d : Nat} {s : State} (hstate : (s.ring r.val).state = 1) (hhalted : halted s = false)
    (hbusy : enumBusy s r.val = false) : exec (.enumerationComplete r d) s = .next (autoStartNow (startEnum
      (setRingState ((s.at (s.now + d)).modRing r.val fun x => { x with enumAt := some (s.at (s.now + d)).now }) r.val
        (s.ring r.val).prev))) := by
  have h : s.boot.held = false ∧ s.frz.frozen = false := by simpa [halted] using hhalted
  exact if_neg (by simp [hstate, hbusy, h])

/-- The port at which a frame of another module came in, proven. -/
def portHeard (s : State) (r : Nat) (port : Bool) : State :=
  s.modHsb fun h => { h with ports := h.ports.set 0 (2 * r + b2n port) (s.now + 1) }

theorem ringFrameForward_goes {r : RingId} {port : Bool} {s : State} (frame : RingFrame) (hdown : s.phr.linksDown = false)
    (hheld : s.boot.held = false) (hlink : (if port then (s.ring r.val).linkA else (s.ring r.val).linkB) = true) :
    exec (.ringFrameForward r port true frame) s = .next ((portHeard s r.val port).send
      (match frame with
      | .phider f => .ring r.val (!port) f
      | .ptp bs ns => .ringPtp r.val (!port) (addResidence bs ns))) := by
  have hlink' : (if port then ((portHeard s r.val port).ring r.val).linkA else ((portHeard s r.val port).ring r.val).linkB) = true :=
    hlink
  show execRingFrameForward r port true frame s = _
  unfold execRingFrameForward
  dsimp only
  rw [← portHeard, if_neg (by simp), if_neg (by simp [hdown, hheld]), hlink', if_neg (by simp)]
  cases frame <;> rfl

theorem portHeard_rest (s : State) (r : Nat) (port : Bool) : (portHeard s r port).sent = s.sent ∧
    (portHeard s r port).hsb.ports.get 0 (2 * r + b2n port) = s.now + 1 ∧ (portHeard s r port).mem = s.mem ∧
    (portHeard s r port).img = s.img ∧ (portHeard s r port).regs = s.regs :=
  ⟨rfl, Tbl.get_set_same s.hsb.ports 0 (2 * r + b2n port) (s.now + 1), rfl, rfl, rfl⟩

/-- Settles O34: probes leave; copies return, time out or are bad; an enumeration ends; frames of others go on. -/
theorem probes : Obligations.Probes := by
  refine ⟨fun links s h => ?_, fun links r s hissue hring hdown hA hB => ?_,
    fun r port f s hen hissue htyp => ⟨fun hloop hport => ?_, fun hloop hport => ⟨?_, fun hother hlink hstate hrun hreq => ?_⟩⟩,
    fun r port f s => rfl, fun r d s hen hissue => ⟨fun hnone => ?_, fun hsome => ?_⟩,
    fun r f s hen hissue htyp hloop => ⟨fun hhops => ?_, fun hhops => ?_⟩,
    fun r d s hstate hhalted => ⟨fun hbusy => ?_, fun hbusy => ⟨?_, fun hauto hreq => ?_⟩⟩,
    fun r port s hdown hheld hlink => ⟨fun f => ?_, fun bs ns => ?_⟩⟩
  · obtain ⟨hsent, hmem, himg, hregs, -⟩ := levelsTaken_rest s links
    exact ⟨_, probeSend_silent links h, hsent, hmem, himg, hregs, fun q hq => levelsTaken_links s links hq⟩
  · obtain ⟨hsent, hmem, -, hregs, -, -, -, hnv, hlinks⟩ := levelsTaken_rest s links
    obtain ⟨h1, h2⟩ := levelsTaken_links s links r.isLt
    have hring' : (levelsTaken s links).phr.linksDown = false := hlinks.trans hdown
    have hlink (b : Bool) : ringLink (levelsTaken s links) r.val b = true := by
      rw [ringLink, hring', h1, h2, hA, hB]
      cases b <;> rfl
    have hframe (b : Bool) : frameFrom (levelsTaken s links) r.val b ftPRB = frameFrom s r.val b ftPRB :=
      frameFrom_of_same hregs hnv r.val b ftPRB
    refine ⟨_, probeSend_probes links hissue hring, ?_⟩
    rw [ringProbed_linked (hlink false) (hlink true), hframe, hframe]
    generalize levelsTaken s links = w at *
    have hcleared := ringCleared_ring w r.val
    exact ⟨congrArg (fun l => _ :: _ :: l) hsent, congrArg RingSt.resA hcleared, congrArg RingSt.resB hcleared, hregs, hmem⟩
  · exact (probeCopyReturn_good hen hissue htyp).trans ((if_pos hloop).trans (if_pos hport))
  · exact (probeCopyReturn_good hen hissue htyp).trans ((if_neg (by simp [hloop])).trans (if_neg hport))
  · refine ⟨_, (probeCopyReturn_good hen hissue htyp).trans ((if_neg (by simp [hloop])).trans (if_neg hport)), ?_⟩
    exact probeResult_closes hother hlink hstate hrun hreq
  · refine if_pos ?_
    cases d <;> simp_all
  · refine if_neg ?_
    cases d <;> simp_all
  · exact if_pos (by simp [hen, hissue, htyp, hloop, hhops])
  · exact if_neg (by simp [hen, hissue, htyp, hloop, hhops])
  · exact if_pos (by simp [hbusy])
  · exact enumerationComplete_completes hstate hhalted hbusy
  · refine ⟨_, enumerationComplete_completes hstate hhalted hbusy, ?_⟩
    have hreq' := setRingState_enumReq r.val (s.ring r.val).prev (modRing_enumReq
      (f := fun x => { x with enumAt := some (s.at (s.now + d)).now }) (s := s.at (s.now + d)) r.val rfl hreq)
    rw [startEnum_none hreq', autoStartNow_none (by simpa using hauto)]
    beta_reduce
    rw [setRingState_ring, State.ring_modRing]
    exact ⟨rfl, congrArg some (Nat.max_eq_right (Nat.le_add_right _ _)), by simp, by simp⟩
  · obtain ⟨h1, h2, h3, h4, h5⟩ := portHeard_rest s r.val port
    exact ⟨_, ringFrameForward_goes _ hdown hheld hlink, congrArg (_ :: ·) h1, h2, h3, h4, h5⟩
  · obtain ⟨h1, -, h3, h4, h5⟩ := portHeard_rest s r.val port
    exact ⟨_, ringFrameForward_goes _ hdown hheld hlink, congrArg (_ :: ·) h1, h3, h4, h5⟩
end Sys2Proof.Machine
end

section
/-!
PROOF. The rings' time: Announce, Sync, Follow_Up and holdover (R298 to R302).
-/
namespace Sys2Proof.Machine

/-! ### The state that the module shows of its clock -/

/-- The registers of the clock lie below those that an event counts in. -/
theorem setPtp_state (s : State) {st : Nat} (h : st < 8) : (setPtp s st).fld PHR_PTPSTAT_STATE = st := by
  unfold setPtp
  split
  · assumption
  · rw [fld_of_reg (raise_reg (by decide)), fld_setFld_same _ _ _ (by decide) (by decide)]
    exact Nat.mod_eq_of_lt h

theorem setPtp_reg (s : State) (st : Nat) {a : Nat} (ha : a < recorderRegs) (hne : a ≠ PHR_PTPSTAT) :
    (setPtp s st).reg a = s.reg a := by
  unfold setPtp
  split
  · rfl
  · rw [raise_reg ha, reg_setFld_ne _ PHR_PTPSTAT_STATE _ _ hne]

/-- Settling a clock touches only the registers that show it. -/
theorem ptpSettle_reg (s : State) {a : Nat} (ha : a < recorderRegs) (hstat : a ≠ PHR_PTPSTAT) (hlow : a ≠ PHR_PTPOFFL)
    (hhigh : a ≠ PHR_PTPOFFH) : (ptpSettle s).reg a = s.reg a := by
  have hfree : (ptpFree s).reg a = s.reg a := by
    show ((showOffset s 0).setFlag PHR_PTPSTAT_SLEW false).reg a = s.reg a
    rw [State.setFlag, reg_setFld_ne _ _ _ _ hstat, showOffset, reg_setReg_ne _ _ _ _ hhigh, reg_setReg_ne _ _ _ _ hlow]
  unfold ptpSettle
  dsimp only
  split
  · rw [setPtp_reg _ _ ha hstat, hfree]
  · split
    · rfl
    · rw [setPtp_reg _ _ ha hstat]

/-! ### Messages -/

/-- Once it is not the grandmaster, a module that issues takes what another clock sends. -/
theorem ptpMessage_takes {s : State} {m : PtpMsg} (hissue : mayIssue s = true) (hgm : ptpGrandmaster s = false)
    (hm : ∀ r b d src, m ≠ .delayReq r b d src) : exec (.ptpMessage m) s = .next (ptpPlant s m) := by
  refine (if_neg (by simp [hissue])).trans ?_
  cases m with
  | delayReq r b d src => exact absurd rfl (hm r b d src)
  | _ =>
    dsimp only
    exact if_neg (by simp [hgm])

theorem ptpMessage_grandmaster {s : State} {m : PtpMsg} (hgm : ptpGrandmaster s = true)
    (hm : ∀ r b d src, m ≠ .delayReq r b d src) : exec (.ptpMessage m) s = .next s := by
  show execPtpMessage m s = _
  unfold execPtpMessage
  cases m with
  | delayReq r b d src => exact absurd rfl (hm r b d src)
  | _ =>
    dsimp only
    rw [if_pos hgm]
    exact ite_self _

/-- The clock of an Announce that the module follows from now on. -/
def clockFollowed (s : State) (c : PtpClock) : State := s.modPhr fun p => { p with gm := some c, lastAnn := s.now }

theorem ptpAnnounce_follows {s : State} {c : PtpClock} (h : s.phr.gm = none ∨
    ∃ g, s.phr.gm = some g ∧ c.ident ≠ g.ident ∧ rankLess (clockRank c) (clockRank g) = true) :
    ptpAnnounce s c = setPtp (clockFollowed s c) 2 := by
  unfold ptpAnnounce
  rcases h with h | ⟨g, hg, hne, hless⟩
  · rw [h]
    rfl
  · rw [hg]
    dsimp only
    rw [if_neg hne, if_pos hless]
    rfl

theorem ptpAnnounce_renews {s : State} {c g : PtpClock} (hg : s.phr.gm = some g) (hsame : c.ident = g.ident) :
    ptpAnnounce s c = clockFollowed s c := by
  unfold ptpAnnounce
  rw [hg]
  exact if_pos hsame

theorem ptpAnnounce_keeps {s : State} {c g : PtpClock} (hg : s.phr.gm = some g) (hne : c.ident ≠ g.ident)
    (hless : rankLess (clockRank c) (clockRank g) = false) : ptpAnnounce s c = s := by
  unfold ptpAnnounce
  rw [hg]
  dsimp only
  rw [if_neg hne, if_neg (by simp [hless])]

theorem ptpCorrect_rest (s : State) (d : Int) : (ptpCorrect s d).mem = s.mem ∧ (ptpCorrect s d).img = s.img := by
  unfold ptpCorrect
  dsimp only
  split <;> simp

theorem sendDelayReq_rest (s : State) : (sendDelayReq s).regs = s.regs ∧ (sendDelayReq s).mem = s.mem ∧
    (sendDelayReq s).img = s.img := by
  unfold sendDelayReq
  split <;> split <;> exact ⟨rfl, rfl, rfl⟩

/-! ### Stations and their Sync -/

/-- A set of numbers in ascending order. -/
theorem NSet.add_ascending {t : NSet} (h : t.Pairwise (· < ·)) (k : Nat) : (t.add k).Pairwise (· < ·) := by
  induction t with
  | nil => exact List.pairwise_singleton _ _
  | cons i rest ih =>
    obtain ⟨hi, hrest⟩ := List.pairwise_cons.mp h
    unfold NSet.add
    split
    · exact h
    · split
      · next hk => exact List.pairwise_cons.mpr ⟨fun j hj => by
          rcases List.mem_cons.mp hj with rfl | hj
          · exact hk
          · exact hk.trans (hi j hj), h⟩
      · next hne hk =>
        refine List.pairwise_cons.mpr ⟨fun j hj => ?_, ih hrest⟩
        have hmem : (NSet.add rest k).contains j = true := by simpa using hj
        rw [NSet.contains_add] at hmem
        rcases Bool.or_eq_true_iff.mp hmem with h1 | h1
        · rw [beq_iff_eq.mp h1]
          omega
        · exact hi j (by simpa using h1)

theorem dedup_spec (l : List Nat) : (dedup l).Nodup ∧ ∀ k, k ∈ dedup l ↔ k ∈ l := by
  have h (t : NSet) (ht : t.Pairwise (· < ·)) : (l.foldl NSet.add t).Pairwise (· < ·) ∧
      ∀ k, k ∈ l.foldl NSet.add t ↔ k ∈ t ∨ k ∈ l := by
    induction l generalizing t with
    | nil => exact ⟨ht, fun k => by simp⟩
    | cons x xs ih =>
      obtain ⟨h1, h2⟩ := ih (t.add x) (NSet.add_ascending ht x)
      refine ⟨h1, fun k => (h2 k).trans ?_⟩
      have hadd : k ∈ t.add x ↔ k = x ∨ k ∈ t := by simp
      rw [hadd, List.mem_cons]
      tauto
  obtain ⟨h1, h2⟩ := h [] List.Pairwise.nil
  exact ⟨h1.imp fun hlt => Nat.ne_of_lt hlt, fun k => (h2 k).trans (by simp)⟩

theorem stationMeets_rest (s : State) (key : Nat) : (stationMeets s key).now = s.now ∧ (stationMeets s key).sent = s.sent ∧
    (stationMeets s key).phr = s.phr := by
  unfold stationMeets
  dsimp only
  split <;> simp [State.drawBit]

/-- A station that is there meets a Sync; another stays. -/
theorem stationMeets_stn (s : State) (key : Nat) : ((s.stn key).present = true →
      ∃ m, (stationMeets s key).stn key = (s.stn key).meet s.now m) ∧
    ((s.stn key).present = false → stationMeets s key = s) ∧
    ∀ j, j ≠ key → (stationMeets s key).stn j = s.stn j := by
  unfold stationMeets
  dsimp only
  refine ⟨fun h => ?_, fun h => if_pos (by simp [State.stn] at h; simp [h]), fun j hj => ?_⟩
  · rw [if_neg (by simp [State.stn] at h; simp [h])]
    exact ⟨_, Tbl.get_set_same s.stations {} key _⟩
  · split
    · rfl
    · exact Tbl.get_set_ne s.stations {} key j _ hj

/-- Each of a list of stations, none of them twice, meets one Sync. -/
theorem stationsMeet {keys : List Nat} (hkeys : keys.Nodup) (s : State) :
    (keys.foldl stationMeets s).now = s.now ∧ (keys.foldl stationMeets s).sent = s.sent ∧
    (keys.foldl stationMeets s).phr = s.phr ∧
    (∀ key ∈ keys, (s.stn key).present = true → ∃ m, (keys.foldl stationMeets s).stn key = (s.stn key).meet s.now m) ∧
    ∀ key, key ∉ keys ∨ (s.stn key).present = false → (keys.foldl stationMeets s).stn key = s.stn key := by
  induction keys generalizing s with
  | nil => exact ⟨rfl, rfl, rfl, fun _ h => absurd h (List.not_mem_nil), fun _ _ => rfl⟩
  | cons k ks ih =>
    obtain ⟨hk, hks⟩ := List.nodup_cons.mp hkeys
    obtain ⟨hnow, hsent, hphr⟩ := stationMeets_rest s k
    obtain ⟨hmeets, habsent, hother⟩ := stationMeets_stn s k
    obtain ⟨i1, i2, i3, i4, i5⟩ := ih hks (stationMeets s k)
    rw [List.foldl_cons]
    refine ⟨i1.trans hnow, i2.trans hsent, i3.trans hphr, fun key hkey hpres => ?_, fun key hkey => ?_⟩
    · rcases List.mem_cons.mp hkey with rfl | hin
      · rw [i5 key (.inl hk)]
        exact hmeets hpres
      · have hne : key ≠ k := fun h => hk (h ▸ hin)
        have := i4 key hin (by rw [hother key hne]; exact hpres)
        rwa [hother key hne, hnow] at this
    · by_cases hkk : key = k
      · subst hkk
        rw [i5 key (.inl hk)]
        rcases hkey with h | h
        · exact absurd List.mem_cons_self h
        · rw [habsent h]
      · rw [i5 key (hkey.imp (fun h hin => h (List.mem_cons_of_mem _ hin)) (fun h => by rw [hother key hkk]; exact h)), hother key hkk]

/-! ### A ring's Sync -/

/-- What leaves both ports of a ring whose links are up. -/
theorem ptpBoth_linked {s : State} {r : Nat} (m : Nat → PtpOut) (hA : ringLink s r false = true) (hB : ringLink s r true = true) :
    ptpBoth s r m = (s.send (.ptp (m (2 * r)))).send (.ptp (m (2 * r + 1))) := by
  have hB' : ringLink (s.send (.ptp (m (2 * r)))) r true = true := hB
  unfold ptpBoth
  rw [List.foldl_cons, List.foldl_cons, List.foldl_nil, if_pos hA]
  show (if ringLink (s.send (.ptp (m (2 * r)))) r true then _ else _) = _
  rw [if_pos hB']
  rfl

theorem ptpBoth_says {s : State} {r : Nat} (m : Nat → PtpOut) (hA : ringLink s r false = true) (hB : ringLink s r true = true) :
    (ptpBoth s r m).sent = .ptp (m (2 * r + 1)) :: .ptp (m (2 * r)) :: s.sent ∧ (ptpBoth s r m).now = s.now ∧
    (ptpBoth s r m).phr = s.phr ∧ (ptpBoth s r m).regs = s.regs ∧ (ptpBoth s r m).stations = s.stations ∧
    (ptpBoth s r m).mem = s.mem := by
  rw [ptpBoth_linked m hA hB]
  exact ⟨rfl, rfl, rfl, rfl, rfl, rfl⟩

/-- A message's header comes from the registers and the timebase. -/
theorem ptpFrom_of_same {s t : State} (hregs : t.regs = s.regs) (hnow : t.now = s.now) (p kind : Nat) (i : Int) :
    ptpFrom t p kind i = ptpFrom s p kind i := by
  simp only [ptpFrom, State.fld, State.reg, hregs, hnow]

theorem ringLink_of_same {s t : State} (hphr : t.phr = s.phr) (r : Nat) (b : Bool) : ringLink t r b = ringLink s r b := by
  simp only [ringLink, State.ring, hphr]

/-- A two-step Sync and its Follow_Up, and the instant of it. -/
theorem syncRing_linked {s : State} {r : Nat} (hA : ringLink s r false = true) (hB : ringLink s r true = true) :
    let i : Int := if fastSync s r then -7 else -4
    (syncRing s r).sent = .ptp (ptpFrom s (2 * r + 1) 8 i) :: .ptp (ptpFrom s (2 * r) 8 i)
      :: .ptp { ptpFrom s (2 * r + 1) 0 i with twoStep := true } :: .ptp { ptpFrom s (2 * r) 0 i with twoStep := true }
      :: s.sent ∧
    ((syncRing s r).ring r).syncAt = some s.now ∧ (syncRing s r).now = s.now ∧ (syncRing s r).stations = s.stations := by
  intro i
  unfold syncRing
  dsimp only
  obtain ⟨hsent, hnow, hphr, hregs, hstations, -⟩ := ptpBoth_says (fun p => { ptpFrom s p 0 i with twoStep := true }) hA hB
  generalize ptpBoth s r (fun p => { ptpFrom s p 0 i with twoStep := true }) = u at *
  obtain ⟨hsent', hnow', -, -, hstations', -⟩ :=
    ptpBoth_says (fun p => ptpFrom u p 8 i) ((ringLink_of_same hphr r _).trans hA) ((ringLink_of_same hphr r _).trans hB)
  rw [hsent, ptpFrom_of_same hregs hnow, ptpFrom_of_same hregs hnow] at hsent'
  generalize ptpBoth u r (fun p => ptpFrom u p 8 i) = w at *
  rw [State.ring_modRing]
  exact ⟨hsent', congrArg some (hnow'.trans hnow), hnow'.trans hnow, hstations'.trans hstations⟩

theorem mem_stationsOn {s : State} {r key : Nat} : key ∈ stationsOn s [r] ↔ key ∈ s.stations.map (·.1) ∧ key / 256 = r := by
  simp [stationsOn, (dedup_spec _).2]

/-- A station that is there has its entry. -/
theorem mem_of_present {s : State} {key : Nat} (h : (s.stn key).present = true) : key ∈ s.stations.map (·.1) := by
  have hget (xs : Tbl Station) (hx : (xs.get {} key).present = true) : key ∈ xs.map (·.1) := by
    induction xs with
    | nil => exact absurd hx Bool.false_ne_true
    | cons e rest ih =>
      by_cases he : e.1 = key
      · exact List.mem_map.mpr ⟨e, List.mem_cons_self, he⟩
      · rw [Tbl.get, if_neg he] at hx
        exact List.mem_cons_of_mem _ (ih hx)
  exact hget _ h

/-! ### The instructions -/

theorem ptpSettle_rings (s : State) : (ptpSettle s).phr.rings = s.phr.rings ∧ (ptpSettle s).phr.linksDown = s.phr.linksDown ∧
    (ptpSettle s).sent = s.sent ∧ (ptpSettle s).stations = s.stations := by
  unfold ptpSettle ptpFree
  dsimp only
  split
  · simp
  · split <;> simp

theorem ptpSettle_enabled (s : State) : enabledRings (ptpSettle s) = enabledRings s := by
  have hen : ringEn (ptpSettle s) = ringEn s := by
    funext r
    rw [ringEn, fld_of_reg (ptpSettle_reg s (by decide) (by decide) (by decide) (by decide)), ringEn]
  rw [enabledRings, hen, enabledRings]

/-- At a ring's Sync instant. -/
def syncNow (s : State) (r : Nat) : State := (ptpSettle s).at (syncDue (ptpSettle s) r)

theorem ptpSyncSend_sends {s : State} {r : Nat} (hissue : mayIssue s = true) (hring : enabledRings s = [r]) :
    exec .ptpSyncSend s = .next ((stationsOn (syncRing (syncNow s r) r) [r]).foldl stationMeets (syncRing (syncNow s r) r)) := by
  have hdue : ([r].filter fun q => decide (syncDue (ptpSettle s) q ≤ Nat.max (ptpSettle s).now (syncDue (ptpSettle s) r))) = [r] := by
    simp
  have hleast : least ([r].map (syncDue (ptpSettle s))) = some (syncDue (ptpSettle s) r) := rfl
  show execPtpSyncSend s = _
  unfold execPtpSyncSend
  rw [if_neg (by simp [hissue])]
  dsimp only
  rw [ptpSettle_enabled, hring, hleast]
  dsimp only
  rw [hdue]
  rfl

/-- The Sync of the one ring that is enabled, and the stations of it. -/
theorem ptpSync_meets {s w : State} {r : Nat} (hw : w = syncNow s r) (hissue : mayIssue s = true) (hring : enabledRings s = [r])
    (hA : ringLink s r false = true) (hB : ringLink s r true = true) :
    let i : Int := if fastSync w r then -7 else -4
    Answers .ptpSyncSend s fun t =>
      t.sent = .ptp (ptpFrom w (2 * r + 1) 8 i) :: .ptp (ptpFrom w (2 * r) 8 i)
        :: .ptp { ptpFrom w (2 * r + 1) 0 i with twoStep := true } :: .ptp { ptpFrom w (2 * r) 0 i with twoStep := true }
        :: s.sent ∧
      (t.ring r).syncAt = some w.now ∧ t.now = w.now ∧
      (∀ key, key / 256 = r → (s.stn key).present = true → ∃ m, t.stn key = (s.stn key).meet w.now m) ∧
      (∀ key, key / 256 ≠ r ∨ (s.stn key).present = false → t.stn key = s.stn key) := by
  intro i
  have hexec := ptpSyncSend_sends hissue hring
  obtain ⟨hrings, hdown, hsettled, hstations⟩ : w.phr.rings = s.phr.rings ∧ w.phr.linksDown = s.phr.linksDown ∧ w.sent = s.sent ∧
      w.stations = s.stations := hw ▸ ptpSettle_rings s
  rw [← hw] at hexec
  clear hw
  have hlink (b : Bool) : ringLink w r b = ringLink s r b := by
    simp only [ringLink, State.ring, hrings, hdown]
  obtain ⟨hsent, hsync, hnow, hkept⟩ := syncRing_linked ((hlink false).trans hA) ((hlink true).trans hB)
  have hstn (key : Nat) : (syncRing w r).stn key = s.stn key := by
    simp only [State.stn, hkept]
    exact congrArg (fun x : Tbl Station => x.get {} key) hstations
  refine ⟨_, hexec, ?_⟩
  obtain ⟨h1, h2, h3, h4, h5⟩ := stationsMeet (keys := stationsOn (syncRing w r) [r]) ((dedup_spec _).1.filter _) (syncRing w r)
  refine ⟨h2.trans (hsent.trans (congrArg (fun l => _ :: _ :: _ :: _ :: l) hsettled)), ?_, h1.trans hnow, fun key hkey hpres => ?_, fun key hkey => ?_⟩
  · exact (congrArg (fun p : PhrState => (p.rings.get {} r).syncAt) h3).trans hsync
  · have hin : key ∈ stationsOn (syncRing w r) [r] := mem_stationsOn.mpr ⟨mem_of_present (by rw [hstn]; exact hpres), hkey⟩
    have hmeet := h4 key hin (by rw [hstn]; exact hpres)
    rwa [hstn, hnow] at hmeet
  · refine (h5 key (hkey.imp (fun hne hin => hne (mem_stationsOn.mp hin).2) (fun habs => ?_))).trans (hstn key)
    rw [hstn]
    exact habs

/-- Settles O36: what each message does; holdover; a ring's Sync and the stations that meet it; Announce. -/
theorem ringTime : Obligations.RingTime := by
  refine ⟨fun m s h => if_pos (by simp [h]),
    fun d c src b off s h => ⟨ptpMessage_grandmaster h (by simp), ptpMessage_grandmaster h (by simp), ptpMessage_grandmaster h (by simp)⟩,
    fun d c s hissue hgm => ⟨fun hd => ⟨fun hbetter => ?_, fun g hg hsame => ?_, fun g hg hne hless => ?_⟩, fun hd => ?_⟩,
    fun d src s hissue hgm hd => ⟨?_, ?_, fun off hfrom => ⟨?_, ?_⟩, fun off hfrom => ?_⟩,
    fun r b d src s hissue hd hen hlink => ?_, fun s hgm hissue => ⟨fun hstate => ?_, fun h2 h3 => ?_⟩,
    fun r s hissue hring hA hB => ?_, fun s hissue hring => ?_, fun x now m => ?_, fun r s hissue hring hA hB => ?_⟩
  · refine ⟨_, ptpMessage_takes hissue hgm (by simp), ?_⟩
    rw [show ptpPlant s (.announce d c) = setPtp (clockFollowed s c) 2 from (if_pos hd).trans (ptpAnnounce_follows hbetter)]
    exact ⟨by simp [clockFollowed], by simp [clockFollowed], setPtp_state _ (by decide), by simp [clockFollowed],
      by simp [clockFollowed], by simp [clockFollowed]⟩
  · refine ⟨_, ptpMessage_takes hissue hgm (by simp), ?_⟩
    rw [show ptpPlant s (.announce d c) = clockFollowed s c from (if_pos hd).trans (ptpAnnounce_renews hg hsame)]
    exact ⟨rfl, rfl, rfl, rfl, rfl⟩
  · rw [ptpMessage_takes hissue hgm (by simp),
      show ptpPlant s (.announce d c) = s from (if_pos hd).trans (ptpAnnounce_keeps hg hne hless)]
  · rw [ptpMessage_takes hissue hgm (by simp), show ptpPlant s (.announce d c) = s from if_neg hd]
  · rw [ptpMessage_takes hissue hgm (by simp), show ptpPlant s (.sync d src true) = s from if_pos (.inr rfl)]
  · rw [ptpMessage_takes hissue hgm (by simp)]
    exact congrArg _ (if_neg (by simp [hd]))
  · rw [ptpMessage_takes hissue hgm (by simp)]
    exact congrArg _ (if_pos ⟨hd, hfrom⟩)
  · refine ⟨_, ptpMessage_takes hissue hgm (by simp), ?_⟩
    rw [show ptpPlant s (.followUp d src off) = sendDelayReq (setPtp (ptpCorrect s off) 3) from if_pos ⟨hd, hfrom⟩]
    obtain ⟨hregs, hmem, himg⟩ := sendDelayReq_rest (setPtp (ptpCorrect s off) 3)
    obtain ⟨hmem', himg'⟩ := ptpCorrect_rest s off
    exact ⟨(fld_of_regs hregs _).trans (setPtp_state _ (by decide)), hmem.trans (by simp [hmem']), himg.trans (by simp [himg'])⟩
  · rw [ptpMessage_takes hissue hgm (by simp)]
    exact congrArg _ (if_neg (by simp [hfrom]))
  · refine (if_neg (by simp [hissue])).trans ?_
    dsimp only
    exact if_pos ⟨hd, hen, hlink⟩
  · refine ⟨_, (if_neg (by simp [hgm, hissue])).trans (if_pos hstate), setPtp_state _ (by decide), by simp, by simp, by simp, by simp⟩
  · exact (if_neg (by simp [hgm, hissue])).trans (if_neg (by simp [h2, h3]))
  · exact ptpSync_meets rfl hissue hring hA hB
  · show execPtpSyncSend s = _
    unfold execPtpSyncSend
    rw [if_neg (by simp [hissue])]
    dsimp only
    rw [ptpSettle_enabled, hring]
    rfl
  · unfold Station.meet
    cases x.fromB <;> cases m.portA <;> simp
  · obtain ⟨hsent, -, -, hregs, hstations, hmem⟩ := ptpBoth_says (fun p => { ptpFrom s p 11 0 with
      prio1 := s.fld PHR_PTPCTRL_PRIO1, prio2 := s.fld PHR_PTPCTRL_PRIO2 }) hA hB
    refine ⟨_, (if_neg (by simp [hissue])).trans ?_, hsent, hregs, hmem, hstations⟩
    rw [hring]
    rfl
end Sys2Proof.Machine
end

section
/-!
PROOF. Takeover, planned switchover and the relay of an update (R453, R466, R467, R728).
-/
namespace Sys2Proof.Machine

/-! ### The takeover -/

/-- With no publication due none is made. -/
theorem publishDue_none {s : State} {t : Nat} (h : publicationsDue s t = []) : publishDue s t = s := by
  rw [publishDue, h]
  rfl

/-- The module with the takeover's writes issued. -/
def takeoverIssued (s : State) (x : Takeover) : State :=
  takeoverWrites (s.modHsb fun h => { h with takeover := some { x with issued := true } }) x

theorem takeoverIssue_issues {s : State} {x : Takeover} (hx : s.hsb.takeover = some x) (hissued : x.issued = false)
    (hrun : s.running = true) (hhalted : halted s = false) (hrole : s.role = roleActive) (hdue : publicationsDue s x.ta = []) :
    exec .takeoverIssue s = .next (takeoverIssued
      (if (s.task x.task).nextTs = x.ta then sampleTask (s.at x.ta) x.task
        else if (s.task x.task).ts = x.ta ∧ (s.task x.task).shadow ∧ !(s.task x.task).released then adoptCycle (s.at x.ta) x.task
        else s.at x.ta) x) := by
  have hrun' : (s.at x.ta).running = true := hrun
  show execTakeoverIssue s = _
  unfold execTakeoverIssue
  rw [hx]
  dsimp only
  rw [if_neg (by simp [hissued, hrun, hhalted, hrole]), publishDue_none hdue, hrun', Bool.not_true, if_neg Bool.false_ne_true]
  rfl

/-- With no station that can be used a takeover only notes that it is issued. -/
theorem takeoverIssued_silent {s : State} {x : Takeover} (h : x.data.filter (fun e => stnUsable s e.1) = []) :
    takeoverIssued s x = s.modHsb fun h => { h with takeover := some { x with issued := true } } := by
  have h' : (x.data.filter fun e => stnUsable (s.modHsb fun h => { h with takeover := some { x with issued := true } }) e.1) = [] := h
  rw [takeoverIssued, takeoverWrites, h']
  rfl

/-! ### The handover -/

theorem handover_hands {s : State} {x : Switch} (hx : s.hsb.switch = some x) (hacked : x.acked = true) (hup : pairUp s = true)
    (hdue : publicationsDue s x.th = []) : exec .handover s =
      if s.role = roleReady then .next (takeHandover (s.at x.th) x.th) else .next (handoverDone (s.at x.th)) := by
  show execHandover s = _
  unfold execHandover
  rw [hx]
  dsimp only
  rw [if_neg (by simp [hacked, hup]), publishDue_none hdue]
  rfl

theorem foldl_stays {α β : Type} {f : α → β → α} {a : α} {xs : List β} (h : ∀ x ∈ xs, f a x = a) : xs.foldl f a = a := by
  induction xs with
  | nil => rfl
  | cons x xs ih =>
    rw [List.foldl_cons, h x List.mem_cons_self]
    exact ih fun y hy => h y (List.mem_cons_of_mem _ hy)

/-- The new active module before it takes over the cycles in shadow. -/
def plantTaken (s : State) (th : Nat) : State :=
  let s := (adoptStations (becomeActive s)).count HSB_SWCNT_PLANNED 0xFFFF 1
  s.modHsb fun h => { h with
    planned := true, noAcyc := th + (enabledTasks s).foldl (fun n k => if k < 16 then Nat.max n (taskP s k) else n) 0 }

theorem plantTaken_says (s : State) (th : Nat) : (plantTaken s th).role = roleActive ∧ (plantTaken s th).hsb.planned = true ∧
    (plantTaken s th).hsb.switch = none ∧ (plantTaken s th).now = s.now ∧ (plantTaken s th).img = s.img ∧
    (plantTaken s th).mem.sram = s.mem.sram ∧ (plantTaken s th).tsk = s.tsk := by
  have hswitch : (becomeActive s).hsb.switch = none := rfl
  have hrole : (becomeActive s).hsb.role = roleActive := becomeActive_role s
  refine ⟨?_, rfl, ?_, by simp [plantTaken], by simp [plantTaken], by simp [plantTaken], by simp [plantTaken]⟩
  · simp [State.role, plantTaken, hrole]
  · simp [plantTaken, hswitch]

/-- Without a cycle in progress there is none to take over. -/
theorem takeHandover_idle {s : State} (th : Nat) (h : ∀ k < 24, (s.task k).active = false) : takeHandover s th = plantTaken s th := by
  have htask (k : Nat) : (plantTaken s th).task k = s.task k :=
    congrArg (fun t : TskState => t.tasks.get {} k) (plantTaken_says s th).2.2.2.2.2.2
  show (cyclicTasks (plantTaken s th)).foldl _ (plantTaken s th) = _
  refine foldl_stays fun k hk => ?_
  have hlt : k < 16 := List.mem_range.mp (List.mem_filter.mp hk).1
  dsimp only
  rw [htask, h k (by omega)]
  rfl

theorem handoverDone_hands {s : State} (hrole : s.role = roleActive) (hswitched : switched s = true)
    (hown : (List.range 24).any (ownCycle s) = false) : handoverDone s =
      setRole (s.modHsb fun h => { h with switch := none, takeover := none, planned := false }) roleReady :=
  if_pos (by simp [hrole, hswitched, hown])

theorem setRole_switch (s : State) (r : Nat) : (setRole s r).hsb.switch = s.hsb.switch := by
  unfold setRole
  split <;> simp

theorem handoverDone_other {s : State} (hrole : s.role ≠ roleActive) : handoverDone s = s :=
  if_neg (by simp [hrole])

/-! ### The relay of an update -/

theorem updateRelay_begins {s : State} {bs : List Byte} (hup : pairUp s = true) (hrole : s.role ≠ roleActive)
    (hkind : fromLE (bs.take 1) = 1) : exec (.updateRelay bs) s =
      if s.boot.stage = .firmware then .next ((moduleReset s srcSoftware).modBoot fun b => { b with relReq := true })
      else .next (relayAnswer ((receive s false).modBoot fun b => { b with relReq := true }) 1 0) :=
  (if_neg (by simp [hup])).trans ((if_neg hrole).trans (if_pos hkind))

theorem updateRelay_aborts {s : State} {bs : List Byte} (hup : pairUp s = true) (hrole : s.role ≠ roleActive)
    (hstage : s.boot.stage = .loader) (hres : s.boot.resident = true) (hkind : fromLE (bs.take 1) = 4) :
    exec (.updateRelay bs) s = .next (updAbort s).1 := by
  show execUpdateRelay bs s = _
  unfold execUpdateRelay
  dsimp only
  rw [if_neg (by simp [hup]), if_neg hrole, hkind, if_neg (by decide), if_neg (by simp [hstage, hres]), if_neg (by decide),
    if_neg (by decide), if_pos rfl]

/-- An abort outside a partner's update leaves nothing to relay. -/
theorem updAbort_receiving {s : State} (hupd : s.boot.upd = .receiving) (hpartner : s.boot.updPartner = false) :
    (updAbort s).1 =
      s.modBoot fun b => { b with upd := .idle, updReason := 0, updWork := none, updReq := none, updPartner := false } := by
  unfold updAbort
  rw [if_pos (.inl hupd), hpartner]
  rfl

theorem updFail_says (s : State) (reason block : Nat) : (updFail s reason block).boot.upd = .failed ∧
    (updFail s reason block).boot.updReason = reason ∧ (updFail s reason block).hsb = s.hsb := by
  simp [updFail]

theorem partnerUpdateTimeout_fails {s : State} {x : Nat} (hx : s.hsb.relayAt = some x) (hpartner : s.boot.updPartner = true)
    (hup : pairUp s = true) : Answers .partnerUpdateTimeout s fun t =>
      t.boot.upd = .failed ∧ t.boot.updReason = 7 ∧ t.hsb.relayAt = none := by
  obtain ⟨h1, h2, h3⟩ := updFail_says ((s.at (x + 1000000000)).modHsb fun h => { h with relayAt := none }) 7 s.boot.updNext
  have hexec : exec .partnerUpdateTimeout s =
      (let t := updFail ((s.at (x + 1000000000)).modHsb fun h => { h with relayAt := none }) 7 s.boot.updNext
       match s.boot.updReq with
       | some q => .next (answerStatus t q 0x0402)
       | none => .next t) := by
    show execPartnerUpdateTimeout s = _
    unfold execPartnerUpdateTimeout
    rw [hx]
    dsimp only
    rw [if_neg (by simp [hpartner, hup])]
    rfl
  cases hq : s.boot.updReq with
  | none =>
    rw [hq] at hexec
    exact ⟨_, hexec, h1, h2, by rw [h3]; rfl⟩
  | some q =>
    rw [hq] at hexec
    exact ⟨_, hexec, by simpa using h1, by simpa using h2, by simp⟩

/-- Settles O43: the takeover by its first cycle; the handover on either side; the relay of an update. -/
theorem pairSwitch : Obligations.PairSwitch := by
  refine ⟨fun s h => ?_, fun s x hx hissued hrun hhalted hrole hdue => ?_, fun s x hx hacked hrole hup => ?_,
    fun s x hx hacked hup hdue => ⟨fun hrole => ⟨?_, fun hidle => ?_⟩, fun hrole hswitched hown => ?_, fun h1 h2 => ?_⟩,
    fun bs s hup hrole hkind => ⟨fun hstage => ?_, fun hstage => ?_⟩,
    fun bs s hup hrole hstage hres hkind hupd hpartner => ?_, fun s x hx hpartner hup => partnerUpdateTimeout_fails hx hpartner hup⟩
  · show execTakeoverIssue s = _
    unfold execTakeoverIssue
    rw [h]
  · have hexec := takeoverIssue_issues hx hissued hrun hhalted hrole hdue
    refine ⟨fun hnext => ?_, fun hnext hts hshadow hrel => ?_, fun hnext hts => ?_⟩
    · rwa [if_pos hnext] at hexec
    · rwa [if_neg hnext, if_pos ⟨hts, hshadow, by simp [hrel]⟩] at hexec
    · rw [if_neg hnext, if_neg (fun h => hts h.1)] at hexec
      refine ⟨hexec, fun hnone => ⟨_, hexec, ?_⟩⟩
      rw [takeoverIssued_silent (s := s.at x.ta) hnone]
      exact ⟨rfl, rfl, rfl, rfl, rfl, rfl⟩
  · refine ⟨(((s.at (x.since + 1000000)).modHsb fun h => { h with switch := none, repeats := 0 }).record 0x0403 1 0 0
      [x.th % 2 ^ 32, x.th / 2 ^ 32]), ?_, by simp, by simp, by simpa [State.role] using hrole, by simp, by simp, by simp⟩
    show execSwitchoverAckTimeout s = _
    unfold execSwitchoverAckTimeout
    rw [hx]
    dsimp only
    rw [if_neg (by simp [hacked, hrole, hup])]
  · exact (handover_hands hx hacked hup hdue).trans (if_pos hrole)
  · refine ⟨_, (handover_hands hx hacked hup hdue).trans (if_pos hrole), ?_⟩
    rw [takeHandover_idle x.th (show ∀ k < 24, ((s.at x.th).task k).active = false from hidle)]
    obtain ⟨h1, h2, h3, h4, h5, h6, -⟩ := plantTaken_says (s.at x.th) x.th
    exact ⟨h1, h2, h3, h4, h5, h6⟩
  · refine ⟨_, (handover_hands hx hacked hup hdue).trans (if_neg (by rw [hrole]; decide)), ?_⟩
    rw [handoverDone_hands (s := s.at x.th) hrole hswitched hown]
    exact ⟨setRole_role _ _, setRole_switch _ _, by simp, by simp⟩
  · rw [handover_hands hx hacked hup hdue, if_neg h1, handoverDone_other (s := s.at x.th) h2]
  · have hheld : s.boot.held = false := by
      simp only [pairUp, halted, Bool.and_eq_true, Bool.not_eq_true', Bool.or_eq_false_iff] at hup
      exact hup.1.2.1
    obtain ⟨h1, h2, -, -, -, h6, h7, -⟩ := moduleReset_says s srcSoftware hheld
    exact ⟨_, (updateRelay_begins hup hrole hkind).trans (if_pos hstage), h1, rfl, h2, h6, h7⟩
  · refine ⟨_, (updateRelay_begins hup hrole hkind).trans (if_neg (by rw [hstage]; decide)), ?_⟩
    exact ⟨rfl, rfl, rfl, rfl⟩
  · refine ⟨_, updateRelay_aborts hup hrole hstage hres hkind, ?_⟩
    rw [updAbort_receiving hupd hpartner]
    exact ⟨rfl, rfl, rfl⟩
end Sys2Proof.Machine
end

section
/-!
PROOF. Loop executions from sample to publication (R351 to R358, R368, R370, R383).
-/
namespace Sys2Proof.Machine

/-! ### Samples -/

/-- A loop at its sample instant. -/
def loopSampled (s : State) (n x : Nat) : State := (s.at x).modLoop n fun l => { l with sampled := some (max s.now x) }

/-- A loop whose execution is ready, with what its sources show. -/
def loopReady (s : State) (n x : Nat) : State :=
  (loopSampled s n x).modLpe fun p => { p with
    queue := p.queue ++ [{ loop := n, tl := max s.now x, ready := max s.now x, cap := captureSources (loopSampled s n x) n }] }

section

variable {s : State} {n : Fin 4096} (hconf : (s.loop n.val).configured = true) (hheld : s.boot.held = false)
  (haligned : (s.loop n.val).aligned = false)

include hconf hheld haligned

theorem loopSampleInstant_skips (hrun : s.running = false) :
    exec (.loopSampleInstant n) s = .next ((loopSampled s n.val (loopNext s (s.loop n.val))).count32 LPE_SKIP 1) := by
  have hrun' : (loopSampled s n.val (loopNext s (s.loop n.val))).running = false := hrun
  show execLoopSampleInstant n s = _
  unfold execLoopSampleInstant
  dsimp only
  rw [if_neg (by simp [hconf, hheld, haligned]), hrun, Bool.false_and, if_neg Bool.false_ne_true, ← loopSampled, hrun']
  rfl

/-- While the program runs the publications of the instant come first, and a handover that is due. -/
theorem loopSampleInstant_samples (hfrz : s.frz.frozen = false) (hrun : s.running = true) {v : State}
    (hv : v = handoverDone (publishDue s (loopNext s (s.loop n.val)))) (hvrun : v.running = true) (hvfrz : v.frz.frozen = false)
    (hvlpe : lpeOn v = true) : exec (.loopSampleInstant n) s = .next (loopReady v n.val (loopNext s (s.loop n.val))) := by
  have h1 : (loopSampled v n.val (loopNext s (s.loop n.val))).running = true := hvrun
  have h2 : (loopSampled v n.val (loopNext s (s.loop n.val))).frz.frozen = false := hvfrz
  have h3 : lpeOn (loopSampled v n.val (loopNext s (s.loop n.val))) = true := hvlpe
  show execLoopSampleInstant n s = _
  unfold execLoopSampleInstant
  dsimp only
  rw [if_neg (by simp [hconf, hheld, haligned]), hrun, hfrz, Bool.not_false, Bool.and_true, if_pos rfl, ← hv, ← loopSampled, h1, h2,
    h3]
  rfl

end

/-- Without a switchover at its instant no handover is due. -/
theorem handoverDone_none {s : State} (h : switched s = false) : handoverDone s = s := if_neg (by simp [h])

theorem loopReady_says (s : State) (n x : Nat) : ((loopReady s n x).loop n).sampled = some (max s.now x) ∧
    (loopReady s n x).img = s.img ∧ (loopReady s n x).mem = s.mem ∧ (loopReady s n x).regs = s.regs := by
  refine ⟨?_, rfl, rfl, rfl⟩
  show ((loopSampled s n x).loop n).sampled = _
  rw [loopSampled, State.loop_modLoop]

/-! ### Executions and publications -/

theorem loopExecutionStart_starts {u : Fin 4} {s : State} {e : LoopExec} (he : nextExec s.lpe.queue = some e)
    (hruns : lpeRuns s = true) (hfree : Tbl.range s.lpe.units u.val 1 = []) : exec (.loopExecutionStart u) s =
      .next ((s.setLoop e.loop { s.loop e.loop with writes := [] }).modLpe fun p => { p with
        queue := p.queue.erase e,
        units := Tbl.insert p.units u.val { e with start := s.now, writes := (s.loop e.loop).writes } }) := by
  show execLoopExecutionStart u s = _
  unfold execLoopExecutionStart
  rw [he]
  dsimp only
  rw [if_neg (by simp [hruns, hfree])]
  rfl

/-- A loop whose output is published. -/
def loopShown (s : State) (n : Nat) (o : LoopOut) : LoopSt :=
  { s.loop n with out := none, pub := o.u, pubBad := o.bad, carry := some o.state }

section

variable {s : State} {n : Nat} {o : LoopOut} (ho : (s.loop n).out = some o) (haligned : (s.loop n).aligned = false)
  (hrun : s.running = true)

include ho haligned hrun

theorem loopPublish_word {w : Word} {g : Nat} (hw : o.word = some w) (hg : loopDest (s.loop n) = some g) : loopPublish s n =
    ((s.at o.t).setLoop n { loopShown s n o with pubWord := some w }).setStable g
      (forced ((s.at o.t).setLoop n { loopShown s n o with pubWord := some w }) g w) := by
  have hg' : loopDest (loopShown s n o) = some g := hg
  unfold loopPublish
  dsimp only
  rw [ho]
  dsimp only
  rw [if_neg (by simp [haligned, hrun]), ← loopShown, hw, hg']
  rfl

theorem loopPublish_wordless (hw : o.word = none) : loopPublish s n = (s.at o.t).setLoop n (loopShown s n o) := by
  unfold loopPublish
  dsimp only
  rw [ho]
  dsimp only
  rw [if_neg (by simp [haligned, hrun]), ← loopShown, hw]

end

/-! ### The window of a loop's record -/

theorem block_rword (s : State) (priv : Nat) (v : Word) (sub : Fin 32) :
    blockWrite s priv (LPE_RWORD sub.val) v = rwordWrite s (sub.val + 1) v := by
  fin_cases sub <;> rfl

theorem rword_there (sub : Fin 32) : (regThere (LPE_RWORD sub.val) && areaOf (LPE_RWORD sub.val) == some .periph &&
    LPE_RWORD sub.val % 4 == 0) = true := by
  revert sub
  decide +kernel

/-- Settles O38: a sample by what its program does; an execution's start; a publication by its word; the record's window. -/
theorem loops : Obligations.Loops := by
  refine ⟨fun n s hconf hheld hfrz haligned => ⟨fun hrun => ?_, fun hrun hon hdue hswitched => ?_, fun hrun hvrun hvfrz hvlpe => ?_⟩,
    fun u s e he hruns hfree => ⟨_, loopExecutionStart_starts he hruns hfree, rfl, rfl, ?_, rfl, rfl, rfl⟩,
    fun n s o ho haligned hrun hfrz => ?_, fun core n sub v s hmay hsel hwritable => ?_⟩
  · exact loopSampleInstant_skips hconf hheld haligned hrun
  · have hv : s = handoverDone (publishDue s (loopNext s (s.loop n.val))) := by
      rw [publishDue_none hdue, handoverDone_none hswitched]
    obtain ⟨h1, h2, h3, h4⟩ := loopReady_says s n.val (loopNext s (s.loop n.val))
    exact ⟨_, loopSampleInstant_samples hconf hheld haligned hfrz hrun hv hrun hfrz hon, rfl, h1, h2, h3, h4⟩
  · exact loopSampleInstant_samples hconf hheld haligned hfrz hrun rfl hvrun hvfrz hvlpe
  · show (State.loop (s.setLoop e.loop { s.loop e.loop with writes := [] }) e.loop).writes = []
    rw [State.loop_setLoop]
  · have hexec : exec (.loopPublication n) s = .next (loopPublish s n.val) := if_neg (by simp [hfrz])
    refine ⟨fun w g hw hg => ?_, fun hw => ?_⟩
    · rw [loopPublish_word ho haligned hrun hw hg] at hexec
      exact ⟨_, hexec, rfl, State.loop_setLoop (s.at o.t) n.val _, rfl, rfl, rfl⟩
    · rw [loopPublish_wordless ho haligned hrun hw] at hexec
      exact ⟨_, hexec, rfl, State.loop_setLoop (s.at o.t) n.val _, rfl, rfl, rfl⟩
  · have hexec : exec (.loopRecordWrite (.core core) n sub v) s = .next (coreStore s core.val (LPE_RWORD sub.val) v) := if_pos hsel
    have hblock : blockWrite s (privOf s core.val) (LPE_RWORD sub.val) v =
        allowIf ((loopWrite s n.val (sub.val + 1) v).2 == 0) (loopWrite s n.val (sub.val + 1) v).1 := by
      rw [block_rword, rwordWrite, hwritable, if_neg Bool.false_ne_true, hsel]
    have hthere := rword_there sub
    refine ⟨fun hok => ?_, fun hbad => ?_⟩
    · rw [hexec, coreStore_permitted s _ core _ v hmay hthere (hblock.trans (if_pos (by simp [hok])))]
    · simp only [Bool.and_eq_true, beq_iff_eq] at hthere
      obtain ⟨⟨hdef, harea⟩, h4⟩ := hthere
      have hnone : periphWrite s core.val (LPE_RWORD sub.val) v = none := by
        rw [periphWrite_permitted s core _ v hmay hdef, hblock]
        exact if_neg (by simp [hbad])
      rw [hexec, coreStore_refused s core.val _ v hmay.1 hmay.2.1 harea h4 hnone]
end Sys2Proof.Machine
end

section
/-!
PROOF. The energy ledger, its slices, the paces and the trace (R379, R395 to R414).
-/
namespace Sys2Proof.Machine

/-! ### The ledger -/

/-- Metering touches the power registers alone. -/
theorem metered_says (s : State) (i : Nat) (isl : List Nat) : (metered s i isl).nrg.bal = s.nrg.bal ∧ (metered s i isl).mem = s.mem ∧
    (metered s i isl).now = s.now ∧ (metered s i isl).img = s.img ∧ (metered s i isl).units = s.units := by
  simp [metered, meter]

theorem metered_reg (s : State) (i : Nat) (isl : List Nat) {a : Nat} (ha : a ≠ NRG_INPWR) (hisl : ∀ j < 4, a ≠ NRG_ISLPWR j) :
    (metered s i isl).reg a = s.reg a := by
  have hfold (xs : List Nat) (hxs : ∀ j ∈ xs, j < 4) (p : Nat → Nat) (t : State) :
      (xs.foldl (fun s j => s.setFld (NRG_ISLPWR_MW j) (p j)) t).reg a = t.reg a := by
    induction xs generalizing t with
    | nil => rfl
    | cons j js ih =>
      rw [List.foldl_cons, ih (fun q hq => hxs q (List.mem_cons_of_mem _ hq)),
        reg_setFld_ne _ _ _ _ (hisl j (hxs j List.mem_cons_self))]
  have hmod (t : State) (f : NrgState → NrgState) : (t.modNrg f).reg a = t.reg a := rfl
  unfold metered meter
  dsimp only
  rw [hmod, hfold _ (fun j hj => List.mem_range.mp hj), reg_setFld_ne _ NRG_INPWR_MW _ _ ha, hmod]

theorem overCheck_rest (s : State) : (overCheck s).nrg = s.nrg ∧ (overCheck s).now = s.now ∧ (overCheck s).mem.sram = s.mem.sram ∧
    (overCheck s).img = s.img ∧ (overCheck s).units = s.units := by
  unfold overCheck
  split
  · simp
  · split <;> simp

/-- Settling a millisecond: the allowance comes in, the input energy goes out, within the bounds. -/
theorem settle_says (s : State) (e : Nat) : (settle s e).nrg.bal =
      clampInt (-2147483648000) ((s.fld NRG_CAP_MJ : Nat) * 1000) (s.nrg.bal + ((s.fld NRG_ALLOW_MW : Nat) : Int) - (e : Int)) ∧
    (settle s e).now = s.now ∧ (settle s e).mem.sram = s.mem.sram ∧ (settle s e).img = s.img ∧ (settle s e).units = s.units := by
  unfold settle
  dsimp only
  simp only [overCheck_rest]
  exact ⟨rfl, by simp, by simp, by simp, by simp⟩

/-! ### Slices -/

theorem nextSlice_rest (s : State) (d : Duty) (est : Nat) : (nextSlice s d est).nrg.slice = s.nrg.slice ∧
    (nextSlice s d est).nrg.bal = s.nrg.bal ∧ (nextSlice s d est).regs = s.regs ∧ (nextSlice s d est).img = s.img ∧
    (nextSlice s d est).mem = s.mem ∧ (nextSlice s d est).units = s.units ∧ (nextSlice s d est).gz = s.gz := by
  unfold nextSlice
  refine ⟨?_, ?_, rfl, rfl, rfl, rfl, rfl⟩ <;>
  · dsimp only [State.modNrg]
    split <;> rfl

/-- The module with a slice granted. -/
def sliceGranted (s : State) (d : Duty) : State := (nextSlice s d 0).modNrg fun n => { n with slice := some ⟨d, s.now⟩ }

section

variable {s : State} {d : Duty} {est : Nat} (hfelt : feltRuns s = true) (hfree : s.nrg.slice = none) (hnear : nearest s d = true)

include hfelt hfree hnear

theorem sliceGrant_granted (hfunds : funded s d est = true) : exec (.sliceGrant d est) s = .next (auditNext (sliceGranted s d)) :=
  (if_neg (by simp [hfelt, hfree, hnear])).trans (if_neg (by simp [hfunds]))

theorem sliceGrant_waits (hfunds : funded s d est = false) : exec (.sliceGrant d est) s = .next (nextSlice s d est) :=
  (if_neg (by simp [hfelt, hfree, hnear])).trans (if_pos (by simp [hfunds]))

end

theorem sliceGranted_audit (s : State) (d : Duty) : (auditNext (sliceGranted s d)).nrg.slice = some ⟨d, s.now⟩ ∧
    (auditNext (sliceGranted s d)).nrg.bal = s.nrg.bal ∧ (auditNext (sliceGranted s d)).img = s.img ∧
    (auditNext (sliceGranted s d)).mem = s.mem ∧
    (s.gz.audit = none → (auditNext (sliceGranted s d)).regs = s.regs ∧ (auditNext (sliceGranted s d)).units = s.units) := by
  obtain ⟨-, hbal, hregs, himg, hmem, hunits, hgz⟩ := nextSlice_rest s d 0
  refine ⟨by simp [sliceGranted], by simp [sliceGranted, hbal], by simp [sliceGranted, himg], by simp [sliceGranted, hmem],
    fun hnone => ?_⟩
  rw [auditNext_of_none (s := sliceGranted s d) ((congrArg Gauze.audit hgz).trans hnone)]
  exact ⟨hregs, hunits⟩

/-- The module with a slice ended and its energy debited. -/
def sliceDebited (s : State) (m : Nat) : State := s.modNrg fun n => { n with slice := none, bal := balClamp s (n.bal - m) }

theorem sliceEnd_ends {s : State} {x : Slice} (m : Nat) (hx : s.nrg.slice = some x) (hfelt : feltRuns s = true)
    (hduty : dutyClass x.duty = 3 ∨ x.duty = .scrub ∨ auditRunning s = false) :
    exec (.sliceEnd m) s = .next (overCheck (sliceDone (sliceDebited s m) x.duty)) := by
  show execSliceEnd m s = _
  unfold execSliceEnd
  rw [hx]
  dsimp only
  rw [if_neg (by rcases hduty with h | h | h <;> simp [hfelt, h])]
  rfl

/-- A slice of another kind than a check leaves the ledger, the image and the units. -/
theorem sliceDone_rest (s : State) {d : Duty} (htest : d ≠ .selfTest) (hscrub : d ≠ .scrub) (hedit : d ≠ .editCheck) :
    (sliceDone s d).nrg = s.nrg ∧ (sliceDone s d).mem.sram = s.mem.sram ∧ (sliceDone s d).img = s.img ∧
      (sliceDone s d).units = s.units := by
  cases d with
  | scrub => exact absurd rfl hscrub
  | selfTest => exact absurd rfl htest
  | editCheck => exact absurd rfl hedit
  | wear =>
    show (wearOn s).nrg = _ ∧ (wearOn s).mem.sram = _ ∧ (wearOn s).img = _ ∧ (wearOn s).units = _
    unfold wearOn
    dsimp only
    split <;> simp
  | _ => exact ⟨rfl, rfl, rfl, rfl⟩

/-! ### Catching up -/

/-- A task that is to catch up runs its islands at the highest code. -/
theorem planCode_catch {s : State} {k i : Nat} (hk : k < 24) (hactive : (s.task k).active = true) (hended : (s.task k).ended = false)
    (hisl : (taskIslands s k).contains i = true) (hcatch : s.nrg.catch_.contains k = true) : planCode s i = 66 := by
  have hmem : k ∈ (evaluatingTasks s).filter fun k => (taskIslands s k).contains i :=
    List.mem_filter.mpr ⟨List.mem_filter.mpr ⟨List.mem_range.mpr hk, by simp [hactive, hended]⟩, hisl⟩
  unfold planCode
  dsimp only
  rw [if_neg (by rw [List.isEmpty_iff]; exact List.ne_nil_of_mem hmem), if_pos (List.any_eq_true.mpr ⟨k, hmem, hcatch⟩)]

/-- What the replanning of an island reads is as it was before the islands' codes changed. -/
def Replanning (s : State) (i : Nat) (t : State) : Prop :=
  t.tsk = s.tsk ∧ t.gz = s.gz ∧ t.nrg = s.nrg ∧ t.flag NRG_CTRL_EN = true ∧ t.flag (NRG_ISLCTRL_FIX i) = false

/-- The new code of one island. -/
def islandPlanned (s : State) (i : Nat) : State :=
  s.setFld (NRG_ISLSTAT_CODE i) (if !s.flag NRG_CTRL_EN then 36
    else if s.flag (NRG_ISLCTRL_FIX i) then Nat.min 66 (s.fld (NRG_ISLCTRL_FIXCODE i)) else planCode s i)

theorem Replanning.next {s t : State} {i : Nat} (h : Replanning s i t) (j : Nat) : Replanning s i (islandPlanned t j) := by
  have hother {a : Nat} (ha : a ≠ NRG_ISLSTAT j) : (islandPlanned t j).reg a = t.reg a := reg_setFld_ne _ (NRG_ISLSTAT_CODE j) _ _ ha
  obtain ⟨htsk, hgz, hnrg, hen, hfix⟩ := h
  refine ⟨htsk, hgz, hnrg, (flag_of_reg (hother ?_)).trans hen, (flag_of_reg (hother ?_)).trans hfix⟩
  · simp only [NRG_CTRL_EN, NRG_CTRL, NRG_ISLSTAT]
    omega
  · simp only [NRG_ISLCTRL_FIX, NRG_ISLCTRL, NRG_ISLSTAT]
    omega

section

variable {s : State} {k i : Nat} (hk : k < 24) (hactive : (s.task k).active = true) (hended : (s.task k).ended = false)
  (hisl : (taskIslands s k).contains i = true) (hcatch : s.nrg.catch_.contains k = true)

include hk hactive hended hisl hcatch

theorem islandPlanned_catch {t : State} (h : Replanning s i t) : (islandPlanned t i).fld (NRG_ISLSTAT_CODE i) = 66 := by
  obtain ⟨htsk, hgz, hnrg, hen, hfix⟩ := h
  have htask : t.task k = s.task k := congrArg (fun x : TskState => x.tasks.get {} k) htsk
  have hislands : taskIslands t k = taskIslands s k := by
    simp only [taskIslands, taskSegs, State.hdr, hgz]
  have hcode : planCode t i = 66 := planCode_catch hk (by rw [htask, hactive]) (by rw [htask, hended]) (by rw [hislands, hisl])
    (by rw [hnrg, hcatch])
  rw [islandPlanned, hen, hfix, if_neg (by simp), if_neg Bool.false_ne_true, hcode,
    fld_setFld_same _ _ _ (by simp [NRG_ISLSTAT_CODE]) (by simp [NRG_ISLSTAT_CODE])]
  rfl

theorem replan_catch (hi : i < 4) (hen : s.flag NRG_CTRL_EN = true) (hfix : s.flag (NRG_ISLCTRL_FIX i) = false) :
    (replan s).fld (NRG_ISLSTAT_CODE i) = 66 := by
  refine foldl_establishes_under (I := Replanning s i) (P := fun t => t.fld (NRG_ISLSTAT_CODE i) = 66) (k := i)
    (f := islandPlanned) (fun t ht => islandPlanned_catch hk hactive hended hisl hcatch ht) (fun t j ht => ht.next j)
    (fun t j ht hP => ?_) (List.mem_range.mpr hi) ⟨rfl, rfl, rfl, hen, hfix⟩
  by_cases hj : i = j
  · rw [← hj]
    exact islandPlanned_catch hk hactive hended hisl hcatch ht
  · refine (fld_of_reg (reg_setFld_ne _ (NRG_ISLSTAT_CODE j) _ _ ?_)).trans hP
    simp only [NRG_ISLSTAT_CODE, NRG_ISLSTAT]
    omega

end

/-! ### Paces -/

/-- A change of some tasks, each once, changes those alone. -/
theorem task_foldl_modTask (c : TaskSt → Bool) (f : TaskSt → TaskSt) {ks : List Nat} (hks : ks.Nodup) (s : State) (k : Nat) :
    (ks.foldl (fun s k => if c (s.task k) then s.modTask k f else s) s).task k =
      if k ∈ ks ∧ c (s.task k) = true then f (s.task k) else s.task k := by
  induction ks generalizing s with
  | nil => simp
  | cons x xs ih =>
    obtain ⟨hx, hxs⟩ := List.nodup_cons.mp hks
    have hstep : ((if c (s.task x) then s.modTask x f else s).task k) =
        if k = x ∧ c (s.task k) = true then f (s.task k) else s.task k := by
      by_cases hk : k = x
      · subst hk
        split <;> simp_all
      · split <;> simp [hk, State.task_modTask_ne _ _ _ _ hk]
    rw [List.foldl_cons, ih hxs, hstep]
    by_cases hk : k = x
    · subst hk
      simp [hx]
    · simp [hk]

/-- The module with its islands' paces read. -/
def pacesRead (s : State) (p : Nat → Nat) : State := (List.range 4).foldl (fun s i => s.setFld (NRG_ISLSTAT_PACE i) (p i)) s

theorem pacesRead_pace (s : State) {p : Nat → Nat} {i : Nat} (hi : i < 4) (hp : p i < 65536) :
    (pacesRead s p).fld (NRG_ISLSTAT_PACE i) = p i := by
  have hmakes (t : State) : (t.setFld (NRG_ISLSTAT_PACE i) (p i)).fld (NRG_ISLSTAT_PACE i) = p i := by
    rw [fld_setFld_same _ _ _ (by simp [NRG_ISLSTAT_PACE]) (by simp [NRG_ISLSTAT_PACE])]
    exact Nat.mod_eq_of_lt hp
  refine foldl_establishes (P := fun t => t.fld (NRG_ISLSTAT_PACE i) = p i) (f := fun s i => s.setFld (NRG_ISLSTAT_PACE i) (p i))
    hmakes (fun t j h => ?_) (List.mem_range.mpr hi) s
  by_cases hj : i = j
  · rw [← hj, hmakes]
  · refine (fld_of_reg (reg_setFld_ne _ _ _ _ ?_)).trans h
    simp only [NRG_ISLSTAT_PACE, NRG_ISLSTAT]
    omega

theorem pacesRead_rest (s : State) (p : Nat → Nat) : (pacesRead s p).tsk = s.tsk ∧ (pacesRead s p).mem = s.mem ∧
    (pacesRead s p).img = s.img ∧ (pacesRead s p).units = s.units := by
  simp [pacesRead]

/-- The demand of each task between its release and the end of its evaluation, 10 µs on. -/
def demandsGrown (s : State) (p : Nat → Nat) : State :=
  (List.range 24).foldl (fun s k =>
    if (s.task k).active && (s.task k).released && !(s.task k).ended then
      s.modTask k fun t => { t with hs := (List.range 4).map fun i => t.hs.getD i 0 + 10 * p i }
    else s) s

theorem demandsGrown_task (s : State) (p : Nat → Nat) {k : Nat} (hk : k < 24)
    (h : ((s.task k).active && (s.task k).released && !(s.task k).ended) = true) :
    ((demandsGrown s p).task k).hs = (List.range 4).map fun i => (s.task k).hs.getD i 0 + 10 * p i := by
  have hfold := task_foldl_modTask (fun t => t.active && t.released && !t.ended)
    (fun t => { t with hs := (List.range 4).map fun i => t.hs.getD i 0 + 10 * p i }) (List.nodup_range (n := 24)) s k
  rw [if_pos ⟨List.mem_range.mpr hk, h⟩] at hfold
  exact congrArg TaskSt.hs hfold

theorem demandsGrown_rest (s : State) (p : Nat → Nat) : (demandsGrown s p).regs = s.regs ∧ (demandsGrown s p).mem = s.mem ∧
    (demandsGrown s p).img = s.img ∧ (demandsGrown s p).units = s.units := by
  unfold demandsGrown
  simp (disch := intros; split <;> simp)

theorem paceRead_reads {s : State} (p : List Nat) (hfelt : feltRuns s = true) : exec (.paceRead p) s =
    .next (demandsGrown (pacesRead (s.at (ceilDiv s.now 10000 * 10000)) fun i => Nat.min 0xFFFF (p.getD i 0))
      fun i => Nat.min 0xFFFF (p.getD i 0)) :=
  (if_neg (by simp [hfelt])).trans rfl

/-- A trace sample that waits is written in a slice of its buffer, or shed. -/
theorem traceRecordWrite_writes {b : Fin 8} {s : State} {x : TrcSample} {rest : List TrcSample} (funded : Bool)
    (hx : (s.trcb b.val).waiting = x :: rest) (hfelt : feltRuns s = true) : exec (.traceRecordWrite b funded) s =
      if funded && !inSlice s (.traceWrite b) then .next s
      else .next (if funded then
          trcAfter (trcWrite (s.setTrcb b.val { s.trcb b.val with waiting := rest }) b.val x false) b.val
        else trcShed (s.setTrcb b.val { s.trcb b.val with waiting := rest }) b.val) := by
  show execTraceRecordWrite b funded s = _
  unfold execTraceRecordWrite
  dsimp only
  rw [hx]
  dsimp only
  rw [hfelt, Bool.not_true, Bool.false_or]

/-- Settles O39: the ledger by its millisecond; slices granted and ended; forced work; the paces and the trace. -/
theorem energyLedger : Obligations.EnergyLedger := by
  refine ⟨fun i isl s u hheld hu => ⟨fun hfrz => ?_, fun hfrz => ?_⟩,
    fun d est s hfelt hfree hnear => ⟨fun hfunds => ⟨_, sliceGrant_granted hfelt hfree hnear hfunds, sliceGranted_audit s d⟩,
      fun hfunds => ?_⟩,
    fun d est s h => if_pos (by rcases h with h | h | h <;> simp [h]), fun m s x hx hfelt hduty => ⟨sliceEnd_ends m hx hfelt hduty, ?_⟩,
    fun s hfelt => ⟨fun h => if_pos (by simp [hfelt, h]), fun h => if_neg (by simp [hfelt]; omega)⟩,
    fun k s d hfelt heval hen hhist hd => ?_, fun p s hfelt => ?_,
    fun b s x rest hx hfelt => ⟨fun hslice => ?_, fun hslice => ?_, ?_⟩⟩
  · obtain ⟨h1, h2, -⟩ := metered_says (s.at (ledgerNext s)) i isl
    refine ⟨u, hu ▸ (if_neg (by simp [hheld])).trans (if_pos hfrz), rfl, ?_, ?_⟩
    · rw [hu, h1]
      rfl
    · rw [hu, h2]
      rfl
  · obtain ⟨h1, h2, h3, h4, h5⟩ := metered_says (s.at (ledgerNext s)) i isl
    obtain ⟨k1, k2, k3, k4, k5⟩ := settle_says u (inputEnergy (s.at (ledgerNext s)) i)
    have hreg (a : Nat) (ha : a < NRG_INPWR) : u.reg a = s.reg a := by
      rw [hu]
      refine metered_reg (s.at (ledgerNext s)) i isl (Nat.ne_of_lt ha) fun j hj => ?_
      simp only [NRG_INPWR] at ha
      simp only [NRG_ISLPWR]
      omega
    have hexec : exec (.ledgerUpdate i isl) s =
        .next (settle (metered (s.at (ledgerNext s)) i isl) (inputEnergy (s.at (ledgerNext s)) i)) :=
      (if_neg (by simp [hheld])).trans (if_neg (by simp [hfrz]))
    rw [← hu] at hexec h1 h2 h3 h4 h5
    refine ⟨_, hexec, rfl, ?_, k2.trans h3, ?_, k4.trans h4, k5.trans h5⟩
    · have hcap : u.fld NRG_CAP_MJ = s.fld NRG_CAP_MJ := fld_of_reg (hreg NRG_CAP (by decide))
      have hallow : u.fld NRG_ALLOW_MW = s.fld NRG_ALLOW_MW := fld_of_reg (hreg NRG_ALLOW (by decide))
      rw [k1, h1, hcap, hallow]
      rfl
    · rw [k3, h2]
      rfl
  · obtain ⟨h1, h2, h3, -⟩ := nextSlice_rest s d est
    exact ⟨_, sliceGrant_waits hfelt hfree hnear hfunds, rfl, h1.trans hfree, h2, h3⟩
  · intro htest hscrub hedit
    obtain ⟨h1, h2, h3, h4⟩ := sliceDone_rest (sliceDebited s m) htest hscrub hedit
    obtain ⟨k1, -, k2, k3, k4⟩ := overCheck_rest (sliceDone (sliceDebited s m) x.duty)
    refine ⟨_, sliceEnd_ends m hx hfelt hduty, ?_, ?_, k2.trans h2, k3.trans h3, k4.trans h4⟩
    · exact congrArg NrgState.slice (k1.trans h1)
    · exact congrArg NrgState.bal (k1.trans h1)
  · have hexec : exec (.catchUp k) s = .next (replan
        ((s.at ((s.task k.val).relTime + d.foldl Nat.max 0)).modNrg fun n => { n with catch_ := n.catch_.add k.val })) := by
      subst hd
      exact if_pos (by simp [hfelt, heval, hen, hhist])
    refine ⟨_, hexec, rfl, fun hactive hended i hi hisl hfix => ?_, by simp, by simp⟩
    refine replan_catch k.isLt hactive hended hisl ?_ hi hen hfix
    show (NSet.add s.nrg.catch_ k.val).contains k.val = true
    rw [NSet.contains_add, beq_self_eq_true, Bool.true_or]
  · refine ⟨_, paceRead_reads p hfelt, ?_⟩
    obtain ⟨h1, h2, h3, h4⟩ := pacesRead_rest (s.at (ceilDiv s.now 10000 * 10000)) fun i => Nat.min 0xFFFF (p.getD i 0)
    have hpace (i : Nat) : Nat.min 0xFFFF (p.getD i 0) < 65536 := Nat.lt_succ_of_le (Nat.min_le_left _ _)
    obtain ⟨k1, k2, k3, k4⟩ := demandsGrown_rest (pacesRead (s.at (ceilDiv s.now 10000 * 10000)) fun i => Nat.min 0xFFFF (p.getD i 0))
      fun i => Nat.min 0xFFFF (p.getD i 0)
    refine ⟨fun i hi => (fld_of_regs k1 _).trans (pacesRead_pace _ hi (hpace i)), fun k hk hactive hrel hended => ?_,
      k2.trans h2, k3.trans h3, k4.trans h4⟩
    have htask : (pacesRead (s.at (ceilDiv s.now 10000 * 10000)) fun i => Nat.min 0xFFFF (p.getD i 0)).task k = s.task k :=
      congrArg (fun t : TskState => t.tasks.get {} k) h1
    rw [demandsGrown_task _ _ hk (by rw [htask, hactive, hrel, hended]; rfl), htask]
  · exact (traceRecordWrite_writes true hx hfelt).trans (if_neg (by simp [hslice]))
  · exact (traceRecordWrite_writes true hx hfelt).trans (if_pos (by simp [hslice]))
  · exact (traceRecordWrite_writes false hx hfelt).trans (if_neg (by simp))
end Sys2Proof.Machine
end
